-- ==== Sys2Proof/Word.lean ====
section
/-! DEFINITION.
The byte, and the sparse table used for whatever the spec numbers thinly (channels, queues, members, segments).
-/

namespace Sys2Proof

/-- One byte of a packet, a reply or a frame (R7, R8). -/
abbrev Byte := BitVec 8

/-- A sparse table by number: pairs with strictly rising keys. -/
abbrev Tbl (α : Type) := List (Nat × α)

end Sys2Proof
end

