-- ==== Sys2Proof/Syntax.lean ====
section
/-! DEFINITION.
The commands and events of the module: one constructor for each row of spec/opcode_table.json.
-/

namespace Sys2Proof

/-- The two sides of the module (R14). -/
inductive SideId where
  | a | b
  deriving DecidableEq, Repr, Inhabited

/-- How a command packet arrives (Table Host-1, R420). -/
inductive Transport where
  | ring0 | ring1 | mnt | site2 | site3
  deriving DecidableEq, Repr, Inhabited

/-- A command packet (Table Host-2) but for its opcode: the header fields, the reserved bytes, and the parameters,
whose number is param_len. -/
structure Packet where
  via      : Transport
  tag      : Nat
  session  : Nat
  flags    : Nat
  epoch    : Nat
  target   : Nat
  res13    : Nat
  deadline : Nat
  resTail  : List Byte
  params   : List Byte
  deriving DecidableEq, Repr, Inhabited

/-- A satellite above the horizon, as Reedbed knows it: constellation, satellite, GLONASS frequency channel and elevation in
0.1° (R124). -/
structure SkySat where
  const : Nat
  sv    : Nat
  fcn   : Int
  elev  : Int
  deriving DecidableEq, Repr, Inhabited

/-- What a tracking channel measured at an epoch (R136); `prValid`: its time of transmission is known. -/
structure ObsMeas where
  channel : Nat
  prValid : Bool
  pr      : Nat
  phase   : Int
  deriving DecidableEq, Repr, Inhabited

/-- What Reedbed measured at an epoch (R135, R146, R157): the residual of STB in ps, observables, satellites highest first,
ephemerides newly decoded (RTCM message, satellite, issue), own code solution in mm, position of a survey's static filter with its σ, the
displacement of the ARP since the previous epoch that the time-differenced carrier phase shows, and the baselines now fixed, by neighbour,
all in mm ECEF. -/
structure EpochMeas where
  clkRes   : Int
  timing   : List (Nat × Nat × Int)
  obs      : List ObsMeas
  sky      : List SkySat
  eph      : List (Nat × Nat × Nat)
  code     : Option (Int × Int × Int)
  filter   : Option (Int × Int × Int)
  sigmaMm  : Nat
  moved    : Int × Int × Int
  fixed    : List (Nat × (Int × Int × Int))
  deriving DecidableEq, Repr, Inhabited

/-- The header of a federation message that a peer sent, once its seal verifies (Table Fed-1): sender, sequence number,
transaction, district and ATB aligned. -/
structure FedHead where
  src      : Nat
  seq      : Nat
  txn      : Nat
  district : Nat
  aligned  : Bool
  deriving DecidableEq, Repr, Inhabited

namespace Machine

/-- Parameters that a CONN_UPDATE carries (Table Mere-11), with the relay and mesh settings of MAC.CONN_PARAM. -/
structure ConnParams where
  lane        : Nat
  squad       : Nat
  interval    : Nat
  downSlot    : Nat
  upSlot      : Nat
  upCount     : Nat
  latency     : Nat
  sup         : Nat
  hop         : Nat
  seed        : Nat
  rate        : Nat
  relay       : Bool
  relayPeriod : Nat
  relayPhase  : Nat
  relaySlot   : Nat
  mesh        : Bool
  ttl         : Nat
  deriving DecidableEq, Repr, Inhabited

/-- A CONN_UPDATE that is outstanding: its instant, its ASN and what applies then (R262). -/
structure ConnUpdate where
  instant : Nat
  newAsn  : Nat
  params  : ConnParams
  hostMap : Nat
  deriving DecidableEq, Repr, Inhabited

/-- A DISCONNECT being sent: its cause, its seq and the events left (R497). -/
structure Disconnect where
  cause : Nat
  seq   : Nat
  left  : Nat
  deriving DecidableEq, Repr, Inhabited

/-- A connection, by node address (R259, R277). `downSync`: downlink frames carry sync (R265); `effMap` is
the channel map in force at both ends. -/
structure Conn where
  memberId  : Nat
  edition   : Nat
  flow      : Nat
  memTol    : Nat
  par       : ConnParams
  anchorAsn : Nat
  anchorCtr : Nat
  hostMap   : Nat
  effMap    : Nat
  kDn       : List Byte
  kUp       : List Byte
  kWrap     : List Byte
  ctrDn     : Nat
  ctrUp     : Nat
  seqDn     : Nat
  nextUp    : Nat
  downSync  : Bool
  update    : Option ConnUpdate
  chanMap   : Option (Nat × Nat)
  ending    : Option Disconnect
  rateSent  : Nat × Nat
  deriving DecidableEq, Repr, Inhabited

/-- A member's latest STATUS (Table Sluice-7). -/
structure MemberStatus where
  state  : Nat
  cat    : Nat
  stopNo : Nat
  flags  : Nat
  speed  : Nat
  hbAsn  : Nat
  deriving DecidableEq, Repr, Inhabited

/-- A window on a segment (R314, R331), in ticks counted without wrap. `dir`: 1 forward, 2 reverse, 3 both. -/
structure Window where
  node    : Nat
  start   : Nat
  stop    : Nat
  dir     : Nat
  pinned  : Bool
  invalid : Bool
  deriving DecidableEq, Repr, Inhabited

/-- One entry of a path (R315). -/
structure PathEntry where
  seg     : Nat
  rev     : Bool
  turnOff : Nat
  deriving DecidableEq, Repr, Inhabited

/-- One phase of a plan (R337): its duration in µs and its jerk in mm/s³. `stops`: speed and acceleration reach zero together at its
end (phase 0 of R339). -/
structure Phase where
  durUs  : Nat
  jerk   : Rat
  gear   : Bool
  target : Bool
  stops  : Bool := false
  deriving DecidableEq, Repr, Inhabited

/-- A plan (R337): its number, the instant of ATB at t = 0, the state there, and its phases. -/
structure Plan where
  number : Nat
  t0     : Nat
  s      : Rat
  v      : Rat
  a      : Rat
  rev    : Bool
  phases : List Phase
  deriving DecidableEq, Repr, Inhabited

/-- The allotment of a member (R316, R321): its path, its request and its plan. `waiting` while it is offered and not
yet accepted (R334). `lens` are the lengths of the entries' segments at the commit. -/
structure Allotment where
  path      : List PathEntry
  lens      : List Nat
  startIdx  : Nat
  targetIdx : Nat
  target    : Nat
  v         : Nat
  a         : Nat
  j         : Nat
  cruise    : Nat
  plan      : Plan
  arrive    : Nat
  ended     : Bool
  waiting   : Bool
  task      : Option Nat
  deriving DecidableEq, Repr, Inhabited

/-- What HANDOVER_OFFER tells of a member (Table Fed-3): its node, the lane and squad asked for, its connection as the source
holds it, its class, its latest STATUS, its allotment with its plan, and its windows. -/
structure MemberOffer where
  node   : Nat
  lane   : Nat
  squad  : Nat
  conn   : Conn
  cls    : Option Nat
  status : Option MemberStatus
  allot  : Option Allotment
  copies : List (Nat × Window)
  deriving DecidableEq, Repr, Inhabited

end Machine

/-- The commands and events, one constructor for each row of spec/opcode_table.json. An opcode row carries its
packet; an event row carries what the environment supplies with the event. -/
inductive Instr where
  /-- MODULE_POWER_ON (R68). VIN has been above the power-on threshold for 10 ms, and the host switch and both sides start, with the strapped side as active. -/
  | modulePowerOn (strap1 : Bool) (strap0 : Bool)
  /-- BROWN_OUT_WARNING (R44). VIN stays below the warning threshold: granting heartbeats stop, power falls to 6 W or less, counts are saved and no new checkpoint starts. -/
  | brownOutWarning (vinMv : Nat)
  /-- MODULE_POWER_DOWN (R45). After a brown-out warning or an overvoltage lockout the module powers down, whether or not VIN recovers, and stays off for at least 10 ms. -/
  | modulePowerDown (absent : Bool)
  /-- OVERVOLTAGE_LOCKOUT (R47). VIN rises above the overvoltage lockout threshold, and the module acts as at a brown-out warning. -/
  | overvoltageLockout (vinMv : Nat)
  /-- VBAT_LOSS (R70). VBAT stays below 2.2 V for 100 µs or more while VIN is present; this is recorded as a supply event and changes no state. -/
  | vbatLoss (vbatMv : Nat)
  /-- VBAT_RESTORED (R70). VBAT has been at 2.4 V or above for 10 ms and counts as restored. -/
  | vbatRestored
  /-- MOD_RESET_N_ASSERTED (R71). MOD_RESET_N has been held low for 10 µs: main domains go off, the host switch is reset, no side holds a role, and any start or handover is abandoned. -/
  | modResetNAsserted
  /-- MOD_RESET_N_RELEASE (R68). Release of MOD_RESET_N restarts the host switch and both sides, as a module power-on does but without a power-cycle count. -/
  | modResetNRelease (strap1 : Bool) (strap0 : Bool)
  /-- PCIE_PERST (R55). PCIE_PERST_N resets only the PCIe link and configuration space of the host switch. -/
  | pciePerst (low : Bool)
  /-- PCIE_LINK_LOSS (R110). Loss of the PCIe link ends the PCIe session instances and returns their ring sets to reset values. -/
  | pcieLinkLoss
  /-- HOST_SWITCH_READY (R76). The host switch firmware runs, the maintenance port answers and HW_ALIVE starts counting. -/
  | hostSwitchReady (selfTest : Bool)
  /-- HW_ALIVE_INCREMENT (R78). Every 1 ms from host switch ready the host switch increments HW_ALIVE. -/
  | hwAliveIncrement
  /-- BOOT_ROM_DONE (R76). The boot ROM checks the Crown and tamper state, powers the main domains, locks the PLLs and samples IOSEL. -/
  | bootRomDone (iosel33 : Bool)
  /-- IMAGE_VERIFY_DONE (R467). The boot ROM chooses the slot by its flags, writes any trial state and verifies the image by SHA-384 and ECDSA. -/
  | imageVerifyDone (ok0 : Bool) (ok1 : Bool)
  /-- STATE_LOAD_DONE (R78). The configuration or checkpoint is loaded, SERVING rises, the epoch changes and commands are served. -/
  | stateLoadDone (cfgOk : Bool) (ckptOk : Bool) (prevOk : Bool) (torn : Bool)
  /-- RADIO_HEAD_BRINGUP_DONE (R76). SPI setup, JESD204C links in deterministic latency and transmit timing offsets are complete. -/
  | radioHeadBringupDone (up0 : Option Bool) (up1 : Option Bool)
  /-- GNSS_START_END (R77). The GNSS start stage ends when STB first becomes valid. -/
  | gnssStartEnd (stb : Nat)
  /-- GNSS_START_DEADLINE (R77). 60 s after T0 without a valid STB, the heartbeat starts with ATB free-running and unaligned. -/
  | gnssStartDeadline
  /-- HEARTBEAT_START (R296). ATB is aligned, the first resync beacon and heartbeat are sent, and the loop receivers are enabled unclassified. -/
  | heartbeatStart
  /-- START_STAGE_OVERRUN (R79). A start stage other than the GNSS start overruns twice its bound, so the side fails its start and powers down, and the other side may be woken. -/
  | startStageOverrun
  /-- SUPERVISOR_WATCHDOG_EXPIRY (R69). 8 ms without service, the supervisor hardware stops heartbeats, asserts HANDOVER_N and relinquishes control. -/
  | supervisorWatchdogExpiry
  /-- LOCKSTEP_MISMATCH (R429). The comparator finds a mismatch of the supervisor pair, and the active side relinquishes with cause 1. -/
  | lockstepMismatch
  /-- UNCORRECTABLE_MEMORY_ERROR (R30). A double-bit ECC error is reported to the owner of the partition, and may raise relinquish cause 2. -/
  | uncorrectableMemoryError (partition : Nat) (words : Nat) (queue : Nat) (cell : Nat)
  /-- RAIL_OUT_OF_WINDOW (R429). An internal rail of the side stays outside its window for 10 µs, and the side relinquishes with cause 6. -/
  | railOutOfWindow (mv : Nat)
  /-- JUNCTION_TEMP_THRESHOLD (R50). A junction sensor reads 115 °C or more (a warning) or 123 °C or more (the thermal limit, relinquish cause 5). -/
  | junctionTempThreshold (sensor : Nat) (temp : Int)
  /-- BIST_PERIOD (R429). Every bist_s the built-in self-test runs over cores, SRAM, crypto engines and the Block engine, and a failure gives cause 7. -/
  | bistPeriod (passed : Bool)
  /-- CHECKPOINT_SNAPSHOT (R423). When MTB reaches a multiple of P, the active side takes a cut of its state image and starts the transfer of the changed pages. -/
  | checkpointSnapshot
  /-- CHECKPOINT_COMMIT (R424). The sink finishes writing the commit record's tag, so the checkpoint commits. -/
  | checkpointCommit
  /-- SQ_TAIL_DOORBELL (R92). A write of HW_DOORBELL with KIND 0 sets the SQ tail of a ring set, or is ignored with a ring error. -/
  | sqTailDoorbell (set : Nat) (index : Nat)
  /-- CQ_HEAD_DOORBELL (R93). A write of HW_DOORBELL with KIND 1 sets the CQ head, freeing completion slots so that held completions and fetching can resume. -/
  | cqHeadDoorbell (set : Nat) (index : Nat)
  /-- IRQ_CAUSE_CLEAR (R112). A W1C write to HW_IRQ_CAUSE clears cause bits, unless an event sets them in the same cycle. -/
  | irqCauseClear (value : Nat) (events : Nat)
  /-- RING_ERR_READ (R9). A read of HW_RING_ERR returns the first ring error and the count, then clears them. -/
  | ringErrRead
  /-- RING_CTRL_WRITE (R120). A write of HW_RING_CTRL sets orders while disabled, enables a ring set, or clears ENABLE to end its session instance. -/
  | ringCtrlWrite (set : Nat) (value : Nat)
  /-- REGISTER_WRITE (R119). A write to a host window register with no behaviour of its own, such as a base, mask or moderation register. -/
  | registerWrite (offset : Nat) (value : Nat)
  /-- PACKET_FETCH (R98). The module fetches the next SQ packet of a session in order, assigns its fetch sequence and checks it. -/
  | packetFetch (via : Transport) (opcode : Nat) (packet : Packet) (readError : Bool) (poisoned : Bool)
  /-- COMMAND_START (R94). A fetched command starts once fences allow, or is refused with ER_TIMEOUT when its deadline has passed. -/
  | commandStart (session : Nat)
  /-- MODERATION_TIMER_EXPIRY (R113). TIMER_US after the first unsignalled entry, the ring's cause bit is set and its vector is sent. -/
  | moderationTimerExpiry (set : Nat)
  /-- MNT_WRITE_PACKET (R117). Transfer 0xA1 writes a command packet with its CRC, or discards it and sets CRC_ERR or SHORT. -/
  | mntWritePacket (opcode : Nat) (packet : Packet) (crcOk : Bool) (complete : Bool)
  /-- MNT_READ_COMPLETION (R117). Transfer 0xA3 returns and removes the oldest held completion. -/
  | mntReadCompletion (complete : Bool)
  /-- MNT_READ_STATUS (R116). Transfer 0xA5 returns the maintenance status word and clears CRC_ERR and SHORT. -/
  | mntReadStatus (complete : Bool)
  /-- MNT_READ_REGISTER (R116). Transfer 0xA7 reads a host window register. -/
  | mntReadRegister (offset : Nat) (complete : Bool)
  /-- MNT_WRITE_REGISTER (R118). Transfer 0xA8 writes a host window register, except ring set 1 registers while session 1 is bound to the port. -/
  | mntWriteRegister (offset : Nat) (value : Nat) (complete : Bool)
  /-- SESSION_OPEN (R87). Opens a session on its transport and settles the UCP edition. -/
  | sessionOpen (p : Packet)
  /-- SESSION_CLOSE (R110). Ends the session instance and writes its record with cause 1. -/
  | sessionClose (p : Packet)
  /-- SESSION_TAGS (R111). Reads the record of the last ended instance of a session: cause, epoch, floor and list. -/
  | sessionTags (p : Packet)
  /-- POWER_GPIO (R66). Sets the direction and level of the selected GPIO and reads all of them. -/
  | powerGpio (p : Packet)
  /-- POWER_SENSE (R41). Reads supply voltages, power, temperature, antenna bias and supply events. -/
  | powerSense (p : Packet)
  /-- POWER_MODE (R73). Moves the active side between active run, active idle and Fen mode. -/
  | powerMode (p : Packet)
  /-- POWER_MODE_TAKES_EFFECT (R73). A requested mode change takes effect within 5 ms, or at the next STB second for Fen mode. -/
  | powerModeTakesEffect
  /-- RESET_SIDE (R86). Restarts the standby side through its start stages and full self-test without transmitting. -/
  | resetSide (p : Packet)
  /-- RESET_SIDE_DONE (R86). The reset side is back in standby-cold, or the reset is abandoned at a relinquishment, and the command completes. -/
  | resetSideDone (passed : Bool) (testCode : Nat)
  /-- RESET_CAUSE (R68). Reads the start record of each side kept by the host switch. -/
  | resetCause (p : Packet)
  /-- GNSS_CONFIG (R135). Sets the epoch rate, elevation mask, signal mask and loop defaults. -/
  | gnssConfig (p : Packet)
  /-- GNSS_CHANNEL_SET (R125). Pins a channel to a signal with its settings, or releases it to automatic assignment. -/
  | gnssChannelSet (p : Packet)
  /-- GNSS_CHANNEL_READ (R124). Reads the state of one tracking channel. -/
  | gnssChannelRead (p : Packet)
  /-- GNSS_NOTCH (R141). Sets one fixed or adaptive notch of a front end, or turns it off. -/
  | gnssNotch (p : Packet)
  /-- GNSS_MONITOR (R139). Reads the interference monitors, sets their thresholds, or captures the AGC baseline. -/
  | gnssMonitor (p : Packet)
  /-- GNSS_MPMAP (R142). Starts or stops a multipath mapping run. -/
  | gnssMpmap (p : Packet)
  /-- GNSS_STATUS (R144). Reads the receiver state. -/
  | gnssStatus (p : Packet)
  /-- CHANNEL_INTEGRATION (R130). At the end of each coherent integration a channel forms its correlations, runs its discriminators and updates its NCOs. -/
  | channelIntegration (channel : Nat) (taps : List (Int × Int)) (sync : Bool) (preamble : Nat)
  /-- ACQUISITION_DWELL_DONE (R134). A batch of acquisition dwells completes, and any detection hands code phase and Doppler to its channel. -/
  | acquisitionDwellDone (found : List (Nat × Rat × Int))
  /-- GNSS_EPOCH (R135). At an epoch instant, observables of all tracked signals are taken and made available within 5 ms. -/
  | gnssEpoch (epoch : Nat) (m : EpochMeas)
  /-- MONITOR_UPDATE (R139). Every 100 ms the AGC, flatness and blanking monitors of each front end are updated. -/
  | monitorUpdate (fe : Nat) (agc : Int) (flat : Nat) (blanked : Nat)
  /-- INTERFERENCE_FLAG_SET (R140). A monitor condition persists for the persistence time, so the interference flag is set and GNSS.ALERT is sent. -/
  | interferenceFlagSet (fe : Nat)
  /-- INTERFERENCE_FLAG_CLEAR (R140). 5 s without any monitor condition, the interference flag is cleared. -/
  | interferenceFlagClear (fe : Nat)
  /-- ADAPTIVE_NOTCH_MOVE (R141). An adaptive notch moves to the strongest line, at most once per 100 ms, at a 1 ms boundary. -/
  | adaptiveNotchMove (fe : Nat) (index : Nat) (offset : Int) (level : Nat)
  /-- MPMAP_SECOND (R142). Once per second a mapping run sends GNSS.MPMAP_DATA for each of its channels. -/
  | mpmapSecond (taps : List (Nat × Nat × Nat × List Nat))
  /-- MPMAP_DURATION_END (R142). A mapping run reaches its duration and ends. -/
  | mpmapDurationEnd
  /-- FEN_BURST_START (R143). 150 ms before an STB second, channels in Fen mode resume from predicted states. -/
  | fenBurstStart
  /-- FEN_BURST_END (R143). 50 ms after an STB second, channels in Fen mode sleep. -/
  | fenBurstEnd
  /-- HOT_START_WRITE (R84). Every 300 s the active side writes its GNSS hot-start data to the configuration store. -/
  | hotStartWrite
  /-- BUDGET_ACCOUNTING_WRITE (R84). Every 1 s the active side writes its radio budget accounting to the configuration store. -/
  | budgetAccountingWrite
  /-- ANTENNA_BIAS_LIMIT (R61). The bias current reaches its limit, so the bias is turned off and the event is recorded. -/
  | antennaBiasLimit (ma : Nat)
  /-- BIAS_RETRY (R61). Once per second the bias is retried until the current stays below the limit. -/
  | biasRetry (below : Bool) (ma : Nat)
  /-- CORR_BASE (R146). Sets the base position, or starts a survey-in or neighbour-baseline run. -/
  | corrBase (p : Packet)
  /-- CORR_STREAM (R150). Configures one RTCM or compact stream. -/
  | corrStream (p : Packet)
  /-- CORR_DESCRIPTOR (R153). Sets the antenna descriptor and the GLONASS alignment. -/
  | corrDescriptor (p : Packet)
  /-- CORR_WATCHDOG (R159). Reads the corrections watchdog, sets its thresholds, or clears its latched causes. -/
  | corrWatchdog (p : Packet)
  /-- CORR_INJECT (R149). Delivers RTCM frames from the host into the neighbour buffers. -/
  | corrInject (p : Packet)
  /-- CORR_STATUS (R146). Reads the base and stream state. -/
  | corrStatus (p : Packet)
  /-- SURVEY_MAX_TIME (R146). max_s elapses before a survey-in converges, so the survey fails. -/
  | surveyMaxTime
  /-- WATCHDOG_HOLDOFF_EXPIRY (R159). An unlatched cause has been absent for holdoff_s and clears. -/
  | watchdogHoldoffExpiry (cause : Nat)
  /-- NEIGHBOUR_BUFFER_TIMEOUT (R149). After 60 s without messages, a neighbour buffer is freed. -/
  | neighbourBufferTimeout (station : Nat)
  /-- SOLVER_CONFIG (R171). Sets the noise model, ambiguity resolution and per-member test. -/
  | solverConfig (p : Packet)
  /-- SOLVER_MEMBER (R160). Enables, changes or disables central solving of one node, reserving capacity. -/
  | solverMember (p : Packet)
  /-- SOLVER_READ (R188). Reads the latest output record of up to 32 nodes. -/
  | solverRead (p : Packet)
  /-- SOLVER_STATUS (R163). Reads the solver capacity, counts and alarms. -/
  | solverStatus (p : Packet)
  /-- SOLVER_RESET (R185). Reinitialises the filter states of one member, or of all, at each one's next epoch. -/
  | solverReset (p : Packet)
  /-- SOLVER_INTEGRITY (R181). Reads or sets the cross-member test, or clears a latched code-3 alarm. -/
  | solverIntegrity (p : Packet)
  /-- UPLINK_ITEM (R27). A work item on the member's flow runs one control loop pass: solve, envelope check and profile frame. -/
  | uplinkItem (core : Nat)
  /-- EPOCH_PART_WAIT_EXPIRY (R167). part_wait_ms after a last part with missing parts, the epoch is solved with the parts held and counted as timed out. -/
  | epochPartWaitExpiry (node : Nat)
  /-- MISSING_EPOCH (R169). At the epoch time plus one interval plus 20 ms with no part, a predicted record is emitted. -/
  | missingEpoch (node : Nat) (epoch : Nat)
  /-- CROSS_MEMBER_TEST (R181). At every STB second, tiles are tested for satellites anomalous among members, raising solver alarms. -/
  | crossMemberTest
  /-- SOLVER_EXCLUSION_EXPIRY (R182). excl_s after a code-1 exclusion, the satellite may be cleared. -/
  | solverExclusionExpiry (const : Nat) (sv : Nat)
  /-- SOLVER_ALARM_CLEAR_EXPIRY (R182). clear_s without the condition clears a code-1 or code-2 alarm. -/
  | solverAlarmClearExpiry (code : Nat) (const : Nat) (sv : Nat) (east : Int) (north : Int)
  /-- FILTER_RETENTION_EXPIRY (R186). 60 s after a member disconnects, its filter states are reinitialised. -/
  | filterRetentionExpiry (node : Nat)
  /-- TIME_CONFIG (R206). Sets the holdover reference, reference and PPS outputs, ATB slew and lock hold. -/
  | timeConfig (p : Packet)
  /-- TIME_PTP_CONFIG (R212). Sets the PTP clock mode, profile, domain and per-port options. -/
  | timePtpConfig (p : Packet)
  /-- TIME_LEAP (R195). Sets the host leap-second table. -/
  | timeLeap (p : Packet)
  /-- TIME_STATUS (R196). Reads the state of the time bases. -/
  | timeStatus (p : Packet)
  /-- TIME_READ (R192). Samples STB, PTB, ATB and MTB at one clock edge. -/
  | timeRead (p : Packet)
  /-- STB_DISCIPLINE_LOSS (R197). Discipline ceases, so STB enters holdover at once. -/
  | stbDisciplineLoss
  /-- STB_QUALIFIED (R197). The return conditions have held for lock_hold_s, and the error is measured for a slew or a step. -/
  | stbQualified (err : Int)
  /-- SLEW_COMPLETE (R200). |e| reaches 5 ns or less, so STB becomes LOCKED. -/
  | slewComplete
  /-- TIME_STEP_AT_B (R201). At second B, STB is stepped by −e after the pulse of B. -/
  | timeStepAtB
  /-- HOLDOVER_BOUND_CROSSING (R198). The holdover error estimate crosses 100 ns or 1 µs, and the quality state changes. -/
  | holdoverBoundCrossing
  /-- SYNC_REF_IN_LOST (R199). SYNC_REF_IN leaves ±10 ppm, and STB continues from the TCXO. -/
  | syncRefInLost
  /-- PPS_INFO_SEND (R207). 900–100 ms before a pulse, TIME.PPS_INFO describing it is sent. -/
  | ppsInfoSend
  /-- PPS_PULSE (R206). At each whole STB second, the PPS edge is placed on the nearest clock edge. -/
  | ppsPulse
  /-- ATB_STEP_AT_HYPERFRAME (R204). At a hyperframe boundary with no member connected, an unaligned ATB is stepped to STB. -/
  | atbStepAtHyperframe
  /-- UTC_PARAMETERS_DECODED (R195). Decoded UTC parameters replace the leap-second table in force. -/
  | utcParametersDecoded (const : Nat) (taiUtc : Nat) (next : Nat) (changeAt : Nat)
  /-- LEAP_TABLE_CHANGE (R195). At the announced STB second, TAI − UTC takes its next value. -/
  | leapTableChange
  /-- PPS_IN_EDGE (R210). A rising edge on PPS_IN is time-stamped in STB. -/
  | ppsInEdge
  /-- PTP_EVENT_MESSAGE_RX (R214). A received PTP event message is time-stamped and handled by the clock. -/
  | ptpEventMessageRx (port : Nat) (body : List Byte)
  /-- PTP_EVENT_MESSAGE_TX (R215). A PTP event message is sent, with its time stamp written in one-step operation. -/
  | ptpEventMessageTx (port : Nat) (msgType : Nat)
  /-- PTP_TRANSPARENT_PASS (R216). A passing event message gets its residence time added to correctionField. -/
  | ptpTransparentPass (port : Nat) (residence : Nat) (sum : Nat) (body : List Byte)
  /-- RADIO_LINK_CONFIG (R229). Enables, disables or configures a JESD204C link and its head. -/
  | radioLinkConfig (p : Packet)
  /-- RADIO_HEAD_PROFILE (R228). Loads one control sequence of a radio head. -/
  | radioHeadProfile (p : Packet)
  /-- RADIO_LANE_CONFIG (R219). Configures, enables or disables one radio lane. -/
  | radioLaneConfig (p : Packet)
  /-- RADIO_REGION_LOAD (R233). Loads the custom regulatory region. -/
  | radioRegionLoad (p : Packet)
  /-- RADIO_TX_CAL (R231). Declares or measures by loopback the offsets of one lane for one side. -/
  | radioTxCal (p : Packet)
  /-- RADIO_BUDGET (R234). Reads one lane's duty and dwell accounting. -/
  | radioBudget (p : Packet)
  /-- RADIO_LANE_STATUS (R225). Reads one lane's state, error counts, latency and channel states. -/
  | radioLaneStatus (p : Packet)
  /-- LINK_DATA_PHASE_LOST (R226). A link leaves its data phase, so its lanes stop transmitting within 1 µs and RADIO.EVENT is sent. -/
  | linkDataPhaseLost (link : Nat) (crcErrors : Nat)
  /-- LINK_RETRAIN (R226). Within 10 ms, and every 100 ms after, the side retrains a lost link. -/
  | linkRetrain (link : Nat)
  /-- HEAD_ALARM_OR_LOCK_LOSS (R229). ALARM_N or LOCK falls on an enabled link, so its lanes stop and the event is recorded. -/
  | headAlarmOrLockLoss (link : Nat) (alarm : Bool)
  /-- HEAD_RESTART (R229). 100 ms after a head alarm, the link restarts; after three failures it is stopped. -/
  | headRestart (link : Nat)
  /-- HEAD_LOCK_CHECK_TIMEOUT (R229). LOCK still low 10 ms after the init sequence fails the link start. -/
  | headLockCheckTimeout (link : Nat)
  /-- FRAME_TRANSMIT (R235). Before each transmission the lane tests the ordinary budget or the reserve, and sends or refuses the frame. -/
  | frameTransmit (lane : Nat) (chan : Nat) (rate : Nat) (type : Nat) (node : Nat) (body : List Byte)
  /-- BUDGET_BIN_BOUNDARY (R234). A new accounting bin begins, the oldest leaves the window, and exhaustion may end. -/
  | budgetBinBoundary (lane : Nat) (lo : Nat) (chan : Nat)
  /-- LBT_MEASUREMENT (R238). In the 18 µs before a superframe, energy is measured on each channel and busy channels defer. -/
  | lbtMeasurement (lane : Nat) (levels : List (Nat × Int))
  /-- RADAR_DETECTED (R239). Radar on a DFS channel makes it unavailable, allowing only stop frames for 10 s. -/
  | radarDetected (lane : Nat) (chan : Nat)
  /-- DFS_STOP_WINDOW_END (R239). 10 s after a radar detection, nothing more is sent on the channel. -/
  | dfsStopWindowEnd (lane : Nat) (chan : Nat)
  /-- CAC_COMPLETE (R239). A channel has been listened to for its CAC time without radar and becomes available. -/
  | cacComplete (lane : Nat) (chan : Nat)
  /-- NON_OCCUPANCY_END (R239). 1,800 s after detection, an unavailable channel returns to CAC. -/
  | nonOccupancyEnd (lane : Nat) (chan : Nat)
  /-- NOISE_FLOOR_AVERAGE (R232). Each second, the noise floor of each channel is averaged and reported. -/
  | noiseFloorAverage (lane : Nat) (floors : List (Nat × Int))
  /-- MAC_CONFIG (R256). Sets the controller node address, allowed editions, address pool and join defaults. -/
  | macConfig (p : Packet)
  /-- MAC_LANE_MAC (R242). Sets the joins, join period, base rate, primary channel and span of a lane. -/
  | macLaneMac (p : Packet)
  /-- MAC_PROVISION (R256). Adds, replaces or removes a member's provisioning. -/
  | macProvision (p : Packet)
  /-- MAC_CONN_PARAM (R262). Changes a connected member's parameters through CONN_UPDATE and CHAN_MAP. -/
  | macConnParam (p : Packet)
  /-- MAC_DROP (R497). Sends DISCONNECT with cause 1 at the member's next 3 events, ending the connection. -/
  | macDrop (p : Packet)
  /-- MAC_MEMBER_READ (R266). Reads one member's connection state. -/
  | macMemberRead (p : Packet)
  /-- MAC_STATUS (R246). Reads the MAC counters of a lane. -/
  | macStatus (p : Packet)
  /-- MAC_SEND (R266). Queues an APP payload for a member and assigns its seq. -/
  | macSend (p : Packet)
  /-- SLOT_BOUNDARY (R242). At each slot or span boundary of ATB, the lane sends the frame due: beacon, broadcast, join, connection or relay. -/
  | slotBoundary (lane : Nat) (asn : Nat) (slot : Nat)
  /-- FRAME_RECEIVED (R246). A received Mere frame is checked for FCS, MIC and counter, and is discarded or handled. -/
  | frameReceived (lane : Nat) (fcsType : Bool) (fec : Bool) (modeSwitch : Bool) (fcsOk : Bool) (micOk : Bool) (dbfs : Int) (bytes : List Byte)
  /-- JOIN_REQ_RECEIVED (R256). A JOIN_REQ is checked against Table Mere-12 and an admission is staged. -/
  | joinReqReceived (lane : Nat) (asn : Nat) (memberId : Nat) (editions : Nat) (memTol : Nat) (reqAddr : Nat) (bytes : List Byte)
  /-- JOIN_AUTH_RECEIVED (R257). JOIN_AUTH is verified, the connection begins, any older connection of the member ends, and JOIN_DONE follows. -/
  | joinAuthReceived (lane : Nat) (sig : List Byte)
  /-- JOIN_AUTH_MISSING (R257). No JOIN_AUTH arrives in its join opportunity, so the admission is freed. -/
  | joinAuthMissing (lane : Nat)
  /-- DATA_FRAME_RECEIVED (R267). A DATA frame is accepted, treated as a duplicate or discarded by its seq, and acknowledgements are applied. -/
  | dataFrameReceived (lane : Nat) (node : Nat) (ctr : Nat) (seq : Nat) (kind : Nat) (ack : Nat) (sync : Bool) (dbfs : Int) (payload : List Byte)
  /-- SUPERVISION_TIMEOUT (R264). No valid frame arrives for the supervision timeout, so the connection ends. -/
  | supervisionTimeout (node : Nat)
  /-- CONNECTION_INSTANT (R262). At the instant, new connection parameters or a new channel map apply. -/
  | connectionInstant (node : Nat)
  /-- SITE_KEY_SWITCH (R454). At the switch ASN, the next site key becomes current. -/
  | siteKeySwitch
  /-- OLD_SITE_KEY_DISCARD (R454). 64 superframes after a switch, the former current key is discarded. -/
  | oldSiteKeyDiscard
  /-- SEEN_CACHE_AGE_OUT (R274). A seen-cache entry is aged out after 30 s. -/
  | seenCacheAgeOut (origin : Nat) (mseq : Nat)
  /-- SLUICE_CONFIG (R292). Sets the lapse, envelope action, stop categories and confirm time. -/
  | sluiceConfig (p : Packet)
  /-- SLUICE_GRANT (R294). Sets or clears squad bits, or withholds nodes or ends their withholding. -/
  | sluiceGrant (p : Packet)
  /-- SLUICE_STOP (R289). Raises a commanded stop of scope all or of listed nodes. -/
  | sluiceStop (p : Packet)
  /-- SLUICE_RELEASE (R301). Releases the stop named, or all stops, when the loop is closed and R301 holds. -/
  | sluiceRelease (p : Packet)
  /-- SLUICE_STATUS (R295). Reads the loop inputs, Sluice state, stops and grants. -/
  | sluiceStatus (p : Packet)
  /-- SLUICE_SLOT (R281). In every Sluice slot, the side assembles one HEARTBEAT or STOP frame and sends it on every enabled OFDM lane. -/
  | sluiceSlot (asn : Nat)
  /-- SUBGHZ_STOP_SPAN (R282). In the next Sluice span of each sub-GHz lane, a new stop is sent once. -/
  | subghzStopSpan (lane : Nat) (asn : Nat)
  /-- SLU_IN_OPEN (R57). A loop input is classified open, and a stop of cause 2 or 3 is raised at once. -/
  | sluInOpen (input : Nat)
  /-- SLU_IN_CLOSED (R57). A loop input has been closed for 20 ms and is classified closed. -/
  | sluInClosed (input : Nat)
  /-- SLU_IN_FAULT (R57). A loop input has been in fault for 1 ms and is classified in fault. -/
  | sluInFault (input : Nat)
  /-- LOOP_DISCREPANCY_TIMEOUT (R57). A discrepancy lasts 10.0–10.5 ms, so a stop of cause 4 is raised. -/
  | loopDiscrepancyTimeout
  /-- MEMBER_MSG_ITEM (R299). A work item handles a member's STATUS, CTRL or APP payload, updating stop confirmation and profile mode. -/
  | memberMsgItem (core : Nat)
  /-- CONFIRM_TIMEOUT (R300). confirm_ms after a stop is queued, unconfirmed members count as unreachable. -/
  | confirmTimeout (stop : Nat)
  /-- STOP_STATUS_REPORT (R300). SLUICE.STOP_STATUS is sent at most every 20 ms while counts change. -/
  | stopStatusReport (stop : Nat)
  /-- DYKE_CONFIG (R319). Sets the local origin, margins, tolerances and allotter parameters. -/
  | dykeConfig (p : Packet)
  /-- DYKE_CLASS (R311). Defines one member class. -/
  | dykeClass (p : Packet)
  /-- DYKE_MEMBER (R311). Assigns a node to a class or removes the assignment. -/
  | dykeMember (p : Packet)
  /-- DYKE_GRAPH_EDIT (R328). Writes segment and junction records into the shadow graph. -/
  | dykeGraphEdit (p : Packet)
  /-- DYKE_SWAP (R329). Validates the shadow graph for a swap, or discards the shadow edits. -/
  | dykeSwap (p : Packet)
  /-- DYKE_RESERVE (R321). Checks a path request against all windows and replaces the member's allotment whole, or refuses it. -/
  | dykeReserve (p : Packet)
  /-- DYKE_RELEASE (R326). Frees a member's windows, keeping or including its footprint pins. -/
  | dykeRelease (p : Packet)
  /-- DYKE_READ (R314). Reads a live or shadow segment with its windows, or a member's windows. -/
  | dykeRead (p : Packet)
  /-- DYKE_STATUS (R323). Reads the Dyke engine counters. -/
  | dykeStatus (p : Packet)
  /-- TASK_QUEUE (R332). Queues a task for the allotter. -/
  | taskQueue (p : Packet)
  /-- TASK_ACCEPT (R334). Accepts or declines an offered task. -/
  | taskAccept (p : Packet)
  /-- TASK_CANCEL (R335). Ends a task in any state. -/
  | taskCancel (p : Packet)
  /-- TICK_BOUNDARY (R314). At each 10 ms tick boundary, unpinned windows whose end has been reached are freed. -/
  | tickBoundary
  /-- RESUME_RETRY (R327). Every 100 ms a refused resume plan is checked again. -/
  | resumeRetry (node : Nat)
  /-- GRAPH_SWAP_APPLY (R330). At the superframe boundary the shadow becomes live, and edited windows are revalidated and may become invalid. -/
  | graphSwapApply
  /-- ALLOTTER_RUN (R333). The allotter serves pending tasks, planning and offering the best idle candidate for each. -/
  | allotterRun
  /-- ALLOTTER_PERIODIC (R333). The allotter runs at least once per second. -/
  | allotterPeriodic
  /-- OFFER_TIMEOUT (R334). An offer not accepted within offer_s frees its windows and bars the member. -/
  | offerTimeout (task : Nat)
  /-- DECLINE_BAR_EXPIRY (R334). After decline_s the member may be offered the task again. -/
  | declineBarExpiry (task : Nat) (node : Nat)
  /-- TASK_DEADLINE_EXPIRY (R334). A task whose deadline passes before acceptance expires. -/
  | taskDeadlineExpiry (task : Nat)
  /-- TASK_DONE (R335). The member has rested at the location for the duration, so the task is done. -/
  | taskDone (task : Nat)
  /-- BORDER_COMMIT_TIMEOUT (R310). An owner has not committed within 50 ms, so the request is refused with ER_TIMEOUT. -/
  | borderCommitTimeout (txn : Nat)
  /-- PROFILE_CONFIG (R339). Sets the turn dwell, rest speed and default frame rate. -/
  | profileConfig (p : Packet)
  /-- PROFILE_MEMBER (R344). Sets a member's profile frame rate. -/
  | profileMember (p : Packet)
  /-- PROFILE_RETARGET (R349). Plans a new target, with a turn-back if needed, as a whole-allotment replacement. -/
  | profileRetarget (p : Packet)
  /-- PROFILE_READ (R343). Reads the latest profile frame emitted for a node. -/
  | profileRead (p : Packet)
  /-- PROFILE_FRAME_DUE (R344). A delay-list timer emits the due profile frame when no position record arrived. -/
  | profileFrameDue (node : Nat)
  /-- SCHED_CONFIG (R361). Sets the affinity window and starvation limit. -/
  | schedConfig (p : Packet)
  /-- SCHED_CORE (R365). Takes a work core out of service or returns it. -/
  | schedCore (p : Packet)
  /-- SCHED_STATUS (R369). Reads the core and priority state of Milliner, optionally clearing peaks. -/
  | schedStatus (p : Packet)
  /-- SCHED_HIST (R369). Reads and optionally clears the waiting-time histograms. -/
  | schedHist (p : Packet)
  /-- SCHED_FLOW_READ (R369). Reads the state of a range of flows. -/
  | schedFlowRead (p : Packet)
  /-- SCHED_ITEM_READ (R357). Reads the descriptors of one flow. -/
  | schedItemRead (p : Packet)
  /-- CORE_DISPATCH (R361). An idle core chooses an eligible item by priority, reservation and affinity. -/
  | coreDispatch (core : Nat)
  /-- WORK_ITEM_DONE (R357). A work item completes, its flow advances, and a leaving core may become out. -/
  | workItemDone (core : Nat)
  /-- AFFINITY_WINDOW_EXPIRY (R361). A ready flow's affinity window expires, so an idle core may take it. -/
  | affinityWindowExpiry (flow : Nat)
  /-- CONTROL_STARVATION (R363). A control item eligible for starve_us, or an item running for 20 ms, raises scheduler starvation. -/
  | controlStarvation (flow : Nat) (running : Bool)
  /-- DELAY_LIST_TICK (R367). At each 10 µs tick, due timers fire and queue their items. -/
  | delayListTick
  /-- PACKET_COMMIT (R373). A producer commits a packet to its queue, writing the length word and returning spare cells. -/
  | packetCommit (queue : Nat) (maxLen : Nat) (kind : Nat) (node : Nat) (data : List Byte)
  /-- HEAD_READ_STALL_EXPIRY (R375). A stalled head read reaches its limit and returns empty. -/
  | headReadStallExpiry (queue : Nat)
  /-- POOL_SCRUB (R380). Every 10 s every cell is read and single-bit errors are corrected. -/
  | poolScrub (corrected : List Nat)
  /-- QUEUE_CONFIG (R377). Sets a queue's quotas and stall limit. -/
  | queueConfig (p : Packet)
  /-- QUEUE_POOL (R378). Sets the pool watermarks. -/
  | queuePool (p : Packet)
  /-- QUEUE_STATUS (R380). Reads the pool counters. -/
  | queueStatus (p : Packet)
  /-- QUEUE_READ (R383). Reads the counters of a range of queues. -/
  | queueRead (p : Packet)
  /-- QUEUE_MBX_READ (R382). Takes packets from a host mailbox, waiting if it is empty. -/
  | queueMbxRead (p : Packet)
  /-- MBX_READ_WAIT_END (R382). A mailbox read's wait ends, by a commit or at wait_ms, and it completes. -/
  | mbxReadWaitEnd (session : Nat) (tag : Nat)
  /-- CAPTURE_PORT (R386). Configures a capture port's source, mode, format, share and triggers. -/
  | capturePort (p : Packet)
  /-- CAPTURE_ARM (R387). Arms or stops the named capture ports. -/
  | captureArm (p : Packet)
  /-- CAPTURE_TRIGGER (R388). Fires the command trigger of the named ports, optionally driving the bus. -/
  | captureTrigger (p : Packet)
  /-- CAPTURE_SYNC_CONFIG (R390). Sets the bus receiver, transmitter, bus_id and one delay entry. -/
  | captureSyncConfig (p : Packet)
  /-- CAPTURE_SYNC_CAL (R392). Runs a master or echo calibration of the trigger bus delay. -/
  | captureSyncCal (p : Packet)
  /-- CAPTURE_STATUS (R387). Reads the capture ports' states and counts. -/
  | captureStatus (p : Packet)
  /-- CAPTURE_PREFILL_COMPLETE (R387). A port holds its pre-trigger samples and starts waiting for a trigger. -/
  | capturePrefillComplete (port : Nat)
  /-- CAPTURE_TRIGGER_FIRED (R388). A trigger condition fires on a waiting port, which enters post-trigger and may drive the bus. -/
  | captureTriggerFired (port : Nat) (kinds : Nat)
  /-- CAPTURE_RECORD_COMPLETE (R387). A record's post-trigger samples are stored, so it is measured, sealed and re-armed or disarmed. -/
  | captureRecordComplete (port : Nat)
  /-- CAPTURE_RECORD_DRAIN (R394). A sealed record is moved into its mailbox one packet at a time, round robin. -/
  | captureRecordDrain
  /-- CAPTURE_ROOM_AVAILABLE (R395). A waiting repeat-mode port finds room in its share and re-arms. -/
  | captureRoomAvailable (port : Nat)
  /-- SYNC_TRG_EDGE (R391). A bus edge is time-stamped, its driver found from its width, and a kind-4 trigger fired. -/
  | syncTrgEdge (widthPs : Nat) (fracPs : Nat)
  /-- SYNC_CAL_PULSE (R392). A calibration master drives its pulses 1 ms apart, and the echo side answers each one. -/
  | syncCalPulse (answered : Bool) (readingPs : Nat) (widthPs : Nat)
  /-- FED_CONFIG (R398). Sets the controller identifier, district, site and stop export. -/
  | fedConfig (p : Packet)
  /-- FED_PORT (R399). Configures a site port for federation. -/
  | fedPort (p : Packet)
  /-- FED_PEER (R400). Adds, replaces or removes a federation peer. -/
  | fedPeer (p : Packet)
  /-- FED_HANDOVER (R413). Starts handing a member over to a target peer. -/
  | fedHandover (p : Packet)
  /-- FED_SITE_STOP (R418). Raises a site stop, or releases one on behalf of a lost origin. -/
  | fedSiteStop (p : Packet)
  /-- FED_STATUS (R411). Reads the federation and peer state. -/
  | fedStatus (p : Packet)
  /-- HELLO_RECEIVED (R401). A peer's HELLO is answered with HELLO_RSP. -/
  | helloReceived (src : Nat) (body : List Byte)
  /-- HELLO_RSP_RECEIVED (R401). HELLO_RSP is verified and HELLO_FIN is sent. -/
  | helloRspReceived (src : Nat) (body : List Byte)
  /-- HELLO_FIN_RECEIVED (R401). HELLO_FIN is verified and the peering becomes live. -/
  | helloFinReceived (src : Nat) (body : List Byte)
  /-- FED_STATUS_RECEIVED (R411). A peer's STATUS updates the live set, coordinator and digest comparison. -/
  | fedStatusReceived (h : FedHead) (liveSet : List Byte) (coordinator : Nat) (digest : List Byte) (stopSeq : Nat)
  /-- FED_RTCM_RECEIVED (R405). RTCM from a peer enters the neighbour buffers. -/
  | fedRtcmReceived (h : FedHead) (data : List Byte)
  /-- RESERVE_RECEIVED (R408). An owner checks requested windows and holds them tentatively, or refuses. -/
  | reserveReceived (h : FedHead) (body : List Byte)
  /-- RESERVE_RSP_RECEIVED (R408). The requester records an owner's answer and sends COMMIT once all have accepted. -/
  | reserveRspReceived (h : FedHead) (body : List Byte)
  /-- COMMIT_RECEIVED (R408). An owner turns its tentative windows into committed ones, or answers expired. -/
  | commitReceived (h : FedHead) (body : List Byte)
  /-- COMMIT_ACK_RECEIVED (R408). The requester commits its local stage once every COMMIT_ACK has arrived. -/
  | commitAckReceived (h : FedHead) (body : List Byte)
  /-- RELEASE_RECEIVED (R409). An owner frees the committed windows and acknowledges. -/
  | releaseReceived (h : FedHead) (body : List Byte)
  /-- RELEASE_ACK_RECEIVED (R409). A requester stops repeating RELEASE. -/
  | releaseAckReceived (h : FedHead)
  /-- HANDOVER_OFFER_RECEIVED (R414). The target checks and stages the member and answers HANDOVER_ACCEPT with I. -/
  | handoverOfferReceived (h : FedHead) (offer : Machine.MemberOffer)
  /-- HANDOVER_ACCEPT_RECEIVED (R414). The source sends COMMIT and queues the HANDOVER CTRL message. -/
  | handoverAcceptReceived (h : FedHead) (status : Nat) (instant : Nat) (par : Machine.ConnParams) (chanMap : Nat)
  /-- HANDOVER_INSTANT (R414). At I the target commits or discards its stage and sends HANDOVER_DONE. -/
  | handoverInstant (node : Nat)
  /-- HANDOVER_DONE_RECEIVED (R415). The source records the outcome and acknowledges. -/
  | handoverDoneReceived (h : FedHead) (node : Nat) (outcome : Nat)
  /-- DONE_ACK_RECEIVED (R414). The target stops repeating HANDOVER_DONE. -/
  | doneAckReceived (h : FedHead)
  /-- HANDOVER_ACCEPT_TIMEOUT (R414). No ACCEPT arrives within 50 ms of the OFFER, so the handover fails. -/
  | handoverAcceptTimeout (node : Nat)
  /-- HANDOVER_OUTCOME_TIMEOUT (R415). 1 s after I without an outcome, the source reports it as unknown. -/
  | handoverOutcomeTimeout (node : Nat)
  /-- SITE_STOP_RECEIVED (R418). A new site stop raises a local cause-7 stop, is forwarded to other peers and is acknowledged. -/
  | siteStopReceived (h : FedHead) (origin : Nat) (no : Nat) (cat : Nat)
  /-- SITE_STOP_ACK_RECEIVED (R418). A peer's acknowledgement of a site stop ends its retransmission. -/
  | siteStopAckReceived (h : FedHead)
  /-- SITE_RELEASE_RECEIVED (R419). A site release makes the local cause-7 stop releasable and is forwarded. -/
  | siteReleaseReceived (h : FedHead) (origin : Nat) (no : Nat)
  /-- SITE_RELEASE_ACK_RECEIVED (R419). A peer's acknowledgement of a site release ends its retransmission. -/
  | siteReleaseAckReceived (h : FedHead)
  /-- FED_UCP_RECEIVED (R420). A UCP packet or entry of a bound peer session is carried in a federation message. -/
  | fedUcpReceived (h : FedHead) (opcode : Nat) (p : Packet)
  /-- FED_STATUS_SEND (R404). Every 100 ms STATUS is sent to every live peer. -/
  | fedStatusSend
  /-- PEER_LIVENESS_TIMEOUT (R404). No valid message from a peer for 350 ms, so it stops being live and is handshaken again. -/
  | peerLivenessTimeout (peer : Nat)
  /-- FED_RETRANSMIT (R403). Every 10 ms an unanswered request is retransmitted. -/
  | fedRetransmit (peer : Nat) (txn : Nat)
  /-- HANDSHAKE_RETRY (R401). 1 s after a failed handshake it is retried. -/
  | handshakeRetry (peer : Nat)
  /-- TENTATIVE_WINDOW_EXPIRY (R409). 100 ms after a RESERVE without COMMIT, the owner drops the tentative windows. -/
  | tentativeWindowExpiry (peer : Nat) (txn : Nat)
  /-- RESPONSE_CACHE_EXPIRY (R403). After 60 s, a kept response to a request is discarded. -/
  | responseCacheExpiry (peer : Nat) (txn : Nat)
  /-- COORDINATOR_DISAGREEMENT_TIMER (R411). A coordinator disagreement lasting 1 s is reported. -/
  | coordinatorDisagreementTimer
  /-- DIGEST_MISMATCH_TIMER (R412). A peer whose digest has differed for 1 s is in mismatch and an alarm is raised. -/
  | digestMismatchTimer (peer : Nat)
  /-- REDUN_CONFIG (R423). Sets the checkpoint period and the self-diagnosis thresholds. -/
  | redunConfig (p : Packet)
  /-- REDUN_HANDOVER (R435). Starts a planned handover: fetching stops, Sluice is withdrawn, and members are awaited at rest. -/
  | redunHandover (p : Packet)
  /-- HOLD_WAIT_EXPIRY (R435). hold_wait_ms ends, so the handover takes its final checkpoint or is refused. -/
  | holdWaitExpiry
  /-- REDUN_CHECKPOINT (R423). Takes a snapshot at once and completes at its commit. -/
  | redunCheckpoint (p : Packet)
  /-- REDUN_STATUS (R428). Reads the sink, eligibility and checkpoint state. -/
  | redunStatus (p : Packet)
  /-- REDUN_SIDE_READ (R440). Reads a side's state, served also by a standby always-on island. -/
  | redunSideRead (p : Packet)
  /-- SEC_ATTEST (R456). Returns a signed attestation statement. -/
  | secAttest (p : Packet)
  /-- SEC_CERT (R456). Returns the device certificate and the intermediate. -/
  | secCert (p : Packet)
  /-- SEC_KEY_IMPORT (R454). Imports a wrapped site key or controller signing key. -/
  | secKeyImport (p : Packet)
  /-- SEC_STATUS (R455). Reads the tamper records and key state. -/
  | secStatus (p : Packet)
  /-- SEC_DEBUG_UNLOCK (R457). Issues a debug challenge, or unlocks the debug port by zeroing the Crown and relinquishing. -/
  | secDebugUnlock (p : Packet)
  /-- TAMPER_DETECTED (R446). A tamper sensor trips, so the side zeroes its Crown and responds according to its state. -/
  | tamperDetected (side : SideId) (sensors : Nat) (temp : Int) (vbat : Nat) (keyOp : Bool)
  /-- TAMPER_REPORT (R455). At the next STB second, a marked tamper is recorded and SEC.TAMPER is sent. -/
  | tamperReport
  /-- KEY_FAULT (R450). An engine reads a key store it is not named for, so a tamper-class event is recorded. -/
  | keyFault (engine : Nat) (cmd : Option (Nat × Nat))
  /-- DEBUG_CHALLENGE_EXPIRY (R457). A debug challenge stops being valid 60 s after issue. -/
  | debugChallengeExpiry
  /-- UPDATE_BEGIN (R463). Takes the update lock and starts a new package, or resumes the staged one. -/
  | updateBegin (p : Packet)
  /-- UPDATE_CHUNK (R464). Stores a chunk of the package body and verifies any block it completes. -/
  | updateChunk (p : Packet)
  /-- UPDATE_APPLY (R465). Applies every part into its inactive slot or staging area. -/
  | updateApply (p : Packet)
  /-- UPDATE_APPLY_COMPLETE (R465). Application and verification of every part end, and the command completes. -/
  | updateApplyComplete
  /-- UPDATE_ACTIVATE (R468). Marks a trial slot pending, restarts the host switch, or installs head profiles. -/
  | updateActivate (p : Packet)
  /-- UPDATE_END (R463). Releases the update lock, or aborts the staged package. -/
  | updateEnd (p : Packet)
  /-- UPDATE_STATUS (R474). Reads the update, slot and configuration store state. -/
  | updateStatus (p : Packet)
  /-- UPDATE_STORE (R476). Writes the configuration in force as a new current generation. -/
  | updateStore (p : Packet)
  /-- UPDATE_LOCK_EXPIRY (R463). 600 s of active time without a session of the holder releases the lock. -/
  | updateLockExpiry
  /-- CONFIRMATION_WINDOW_EXPIRY (R470). The confirmation window ends unconfirmed: the trial state is cleared and the kept generation restored. -/
  | confirmationWindowExpiry
  /-- HOST_SWITCH_RESTART (R472). 10 ms after activation, the host switch restarts on its trial image, ending host sessions. -/
  | hostSwitchRestart
  /-- RECORD_READ (R490). Reads recorder records from a given seq. -/
  | recordRead (p : Packet)
  /-- RECORD_STATUS (R481). Reads the recorder counts. -/
  | recordStatus (p : Packet)
  /-- RECORD_CONFIG (R487). Sets the repeat window. -/
  | recordConfig (p : Packet)
  /-- RECORD_MARK (R489). Appends a host mark record. -/
  | recordMark (p : Packet)
  /-- OP_SECONDS_TICK (R483). Each second with VIN present, operating seconds rise by 1. -/
  | opSecondsTick
  /-- COUNTER_BLOCK_SAVE (R484). Every 60 s the operating seconds and power-cycle count are saved. -/
  | counterBlockSave
  /-- FOLD_JOURNAL_WRITE (R488). A fold is written to the journal and ring slot, at most every 10 ms. -/
  | foldJournalWrite
  /-- REPEAT_WINDOW_END (R488). At the end of a record's window, its final fold reaches MRAM. -/
  | repeatWindowEnd
  /-- APPENDS_DROPPED_REPORT (R486). In the next second a record counts the events dropped over the append limit. -/
  | appendsDroppedReport
  /-- COUNTER_SELECT (R491). Selects the source of a performance counter and clears it. -/
  | counterSelect (p : Packet)
  /-- COUNTER_CONTROL (R493). Freezes, unfreezes, snapshots or clears the counters at one instant. -/
  | counterControl (p : Packet)
  /-- COUNTER_READ (R493). Reads live or snapshot counters and may clear overflow flags. -/
  | counterRead (p : Packet)
  /-- COUNTER_OVERFLOW (R492). A counter wraps past 2^48, sets its flag and may send COUNTER.OVERFLOW. -/
  | counterOverflow (counter : Nat)
  /-- VIN_SUPPLY_EVENT (R41). VIN falls below 10.8 V but stays above the brown-out warning threshold, and the active side records one supply event for the excursion. -/
  | vinSupplyEvent (vinMv : Nat)
  /-- SYNC_REF_IN_RESTORED (R199). SYNC_REF_IN returns within ±10 ppm and is present again as a holdover reference and for ref_out 2. -/
  | syncRefInRestored
  /-- LINK_RESTORED (R226). A retrained or restarted JESD204C link reaches its data phase, its lanes resume and RADIO.EVENT kind 7 is sent. -/
  | linkRestored (link : Nat) (late : Bool)
  /-- PTP_ANNOUNCE_RECEIVED (R217). A PTP Announce or other general message arrives on a site port and feeds the best master clock algorithm. -/
  | ptpAnnounceReceived (port : Nat) (body : List Byte)
  /-- PTP_ANNOUNCE_RECEIPT_TIMEOUT (R212). announceReceiptTimeout intervals pass without an Announce, and the port's PTP state changes. -/
  | ptpAnnounceReceiptTimeout (port : Nat)
  /-- SYNC_CAL_TIMEOUT (R392). timeout_ms of CAPTURE.SYNC_CAL passes with no edge answered or received, and the command completes with ER_TIMEOUT. -/
  | syncCalTimeout
  /-- PLANNED_HANDOVER_RELINQUISH (R435). 1 ms after the completion of REDUN.HANDOVER is posted, the side relinquishes under R430 with cause 10. -/
  | plannedHandoverRelinquish
  /-- GNSS_FAIL_TIMEOUT (R429). Corrections stay withheld for gnss_fail_s without interruption, counted after the start-up grace, and the active side relinquishes with cause 3. -/
  | gnssFailTimeout
  deriving DecidableEq, Repr

end Sys2Proof
end

