-- ==== Sys2Proof/Decode.lean ====
section
/-! DEFINITION.
The command that a word spells. spec/opcode_table.json gives no row any bits ("fields" is empty in every row): a
command reaches this block as a packet or an event, never as an instruction word.
-/

namespace Sys2Proof

/-- No row of the table has bits, so no word spells a command. -/
def decodeTableWord (_nbits _w : Nat) : Option Instr := none

end Sys2Proof
end

