-- ==== Sys2Proof/Machine/Bytes.lean ====
section
/-! DEFINITION.
Byte orders and bit fields (R7, R8), and the operations of the sparse tables.
-/

namespace Sys2Proof.Machine

/-- `n` bytes of `v`, least significant first (R7). -/
def leBytes : Nat → Nat → List Byte
  | 0, _ => []
  | n + 1, v => BitVec.ofNat 8 v :: leBytes n (v / 256)

/-- `n` bytes of `v`, most significant first (R7, Mere frames and federation messages). -/
def beBytes (n v : Nat) : List Byte := (leBytes n v).reverse

/-- The value of bytes, least significant first. -/
def leNat : List Byte → Nat
  | [] => 0
  | b :: bs => b.toNat + 256 * leNat bs

/-- The value of bytes, most significant first. -/
def beNat (bs : List Byte) : Nat := leNat bs.reverse

/-- The bytes of `bs` from `off`, `n` of them; what lies past the end reads as zero. -/
def slice (bs : List Byte) (off n : Nat) : List Byte :=
  let t := (bs.drop off).take n
  t ++ List.replicate (n - t.length) 0

/-- The octets of a text. -/
def ascii (t : String) : List Byte := t.toList.map fun c => BitVec.ofNat 8 c.toNat

/-- Unsigned little-endian field of `n` bytes at `off`. -/
def fld (bs : List Byte) (off n : Nat) : Nat := leNat ((bs.drop off).take n)

/-- The two's complement value of `v` in `w` bits. -/
def signed (w v : Nat) : Int := if v < 2 ^ (w - 1) then (v : Int) else (v : Int) - (2 ^ w : Nat)

/-- Signed little-endian field of `n` bytes at `off`. -/
def sfld (bs : List Byte) (off n : Nat) : Int := signed (8 * n) (fld bs off n)

/-- The unsigned value whose `w` bits carry `i` in two's complement. -/
def wrapInt (w : Nat) (i : Int) : Nat := (i % (2 ^ w : Nat)).toNat

/-- `n` bytes of a signed value, least significant first. -/
def leInt (n : Nat) (i : Int) : List Byte := leBytes n (wrapInt (8 * n) i)

/-- `n` bytes of a signed value, most significant first. -/
def beInt (n : Nat) (i : Int) : List Byte := beBytes n (wrapInt (8 * n) i)

/-- `n` zero bytes (reserved reply fields read zero, R10). -/
def zeros (n : Nat) : List Byte := List.replicate n 0

/-- 1 for true, 0 for false. -/
def b2n (b : Bool) : Nat := if b then 1 else 0

/-- A count that saturates at `2^w - 1`. -/
def satInc (w v : Nat) : Nat := min (v + 1) (2 ^ w - 1)

/-- `v` held at no more than `2^w - 1`. -/
def sat (w v : Nat) : Nat := min v (2 ^ w - 1)

/-- `i` held within `lo` and `hi`. -/
def clampInt (lo hi i : Int) : Int := max lo (min hi i)

/-- Bit set or cleared in a bit map held as a number. -/
def setBit (m k : Nat) (v : Bool) : Nat :=
  if v then m ||| (1 <<< k) else if m.testBit k then m - (1 <<< k) else m

/-- Numbers of the set bits below `w`, rising. -/
def bitsOf (w m : Nat) : List Nat := (List.range w).filter fun k => m.testBit k

/-- The bit map whose set bits are the numbers of the list. -/
def maskOf (ks : List Nat) : Nat := ks.foldl (fun m k => m ||| (1 <<< k)) 0

/-- Entry of a sparse table. -/
def tget {α : Type} : Tbl α → Nat → Option α
  | [], _ => none
  | (k, v) :: t, i => if k = i then some v else tget t i

/-- Write of a sparse table, keeping the keys rising. -/
def tput {α : Type} : Tbl α → Nat → α → Tbl α
  | [], i, x => [(i, x)]
  | (k, v) :: t, i, x =>
    if i < k then (i, x) :: (k, v) :: t
    else if i = k then (i, x) :: t
    else (k, v) :: tput t i x

/-- Removal from a sparse table. -/
def tdel {α : Type} (t : Tbl α) (i : Nat) : Tbl α := t.filter fun e => !(e.1 == i)

/-- Entry of a sparse table, with a default. -/
def tgetD {α : Type} (t : Tbl α) (i : Nat) (d : α) : α := (tget t i).getD d

/-- Change of an entry that is present. -/
def tmod {α : Type} (t : Tbl α) (i : Nat) (f : α → α) : Tbl α :=
  t.map fun e => if e.1 = i then (e.1, f e.2) else e

/-- The keys of a sparse table, rising. -/
def tkeys {α : Type} (t : Tbl α) : List Nat := t.map (·.1)

/-- Change of the `i`-th entry of a list of fixed length. -/
def lmod {α : Type} (l : List α) (i : Nat) (f : α → α) : List α := l.modify i f

/-- A number put into a rising list without repeats. -/
def sput : List Nat → Nat → List Nat
  | [], i => [i]
  | k :: t, i => if i < k then i :: k :: t else if i = k then k :: t else k :: sput t i

/-- Least `r` with `r * r ≤ n < (r + 1) * (r + 1)`, found bit by bit from bit `k`. -/
def isqrtFrom : Nat → Nat → Nat → Nat
  | 0, _, r => r
  | k + 1, n, r =>
    let t := r + 2 ^ k
    isqrtFrom k n (if t * t ≤ n then t else r)

/-- Integer square root (for values below 2^256). -/
def isqrt (n : Nat) : Nat := isqrtFrom 128 n 0

/-- Division rounded to nearest, half up. -/
def roundDiv (a b : Nat) : Nat := (2 * a + b) / (2 * b)

/-- Division rounded up. -/
def ceilDiv (a b : Nat) : Nat := (a + b - 1) / b

/-- A rational rounded to the nearest integer, half away from zero below and up above. -/
def roundRat (q : Rat) : Int := (q + 1 / 2).floor

/-- CRC-32C step of one bit (polynomial 0x1EDC6F41, reflected 0x82F63B78). -/
def crcBit (c : Nat) : Nat := if c.testBit 0 then (c >>> 1) ^^^ 0x82F63B78 else c >>> 1

/-- CRC-32C of bytes, as carried by transfers 0xA1 and 0xA3 and by MRAM records (R116, R482). -/
def crc32c (bs : List Byte) : Nat :=
  (bs.foldl (fun c b => crcBit (crcBit (crcBit (crcBit (crcBit (crcBit (crcBit (crcBit
    (c ^^^ b.toNat))))))))) 0xFFFFFFFF) ^^^ 0xFFFFFFFF

end Sys2Proof.Machine
end

