-- ==== Sys2Proof/Config.lean ====
section
/-! DEFINITION.
What the spec leaves to the installation or leaves open: constants without a body, so that no proof sees a value of
them. A function of a number is a source of fresh values: the number is the count of values drawn so far (State.fresh).
Each is named in notes/assumptions.
-/

namespace Sys2Proof

/-- What the module measures and no event of the queue states: quantity, draw. -/
opaque Config.sense : Nat → Nat → Nat

/-- Levels that the carrier applies to the GPIO pads. -/
opaque Config.gpioPads : Nat → BitVec 16

/-- SHA-384 of bytes. -/
opaque Config.sha384 : List Byte → List Byte

/-- Whether an ECDSA P-384 signature over bytes verifies under a key that the number names. -/
opaque Config.ecdsaVerify : Nat → List Byte → List Byte → Bool

/-- An ECDSA P-384 signature: signer, message, draw. -/
opaque Config.ecdsaSign : Nat → List Byte → Nat → List Byte

/-- AES-256-GCM opening of an imported key: header bytes, iv, ciphertext, tag; none when the tag fails. -/
opaque Config.gcmOpen : List Byte → List Byte → List Byte → List Byte → Option (List Byte)

/-- AES-256-GCM sealing: key, nonce, additional data, plaintext; ciphertext and tag. -/
opaque Config.gcmSeal : List Byte → List Byte → List Byte → List Byte → List Byte × List Byte

/-- The 4 KiB of a state page at a snapshot, whose layout the manual does not give: page, draw. -/
opaque Config.statePage : Nat → Nat → List Byte

/-- The compressed public key of a P-384 scalar. -/
opaque Config.p384Public : List Byte → List Byte

/-- A derived key: which key (Table Sec-3, R255, R283, R401) and what it derives from. -/
opaque Config.kdf : Nat → List (List Byte) → List Byte

/-- Random octets (nonces, challenges, ephemeral keys): how many, draw. -/
opaque Config.random : Nat → Nat → List Byte

/-- The module's base MAC address. -/
opaque Config.mac : BitVec 48

/-- The module serial number. -/
opaque Config.serial : BitVec 64

/-- The factory image in firmware slot 0 of Side A (0), Side B (1) and the host switch (2), with the data of its slot
record: version, ck_write, ck_read_lo, ck_read_hi. -/
opaque Config.factoryImage : Nat → List Byte
opaque Config.factoryVersion : Nat → BitVec 32
opaque Config.factoryCk : Nat → BitVec 16 × BitVec 16 × BitVec 16

/-- The DER certificates of a side: 0 the device certificate, 1 the intermediate. -/
opaque Config.certificate : Nat → Nat → List Byte

/-- SHA-384 of the boot ROM of a side. -/
opaque Config.romHash : Nat → List Byte

/-- Pages of a checkpoint or of the state image, and pages that a store write takes: which, draw. -/
opaque Config.pages : Nat → Nat → Nat

/-- A yes-or-no outcome outside the module (a head's answer, a mark of a measurement): which, draw. -/
opaque Config.flag : Nat → Nat → Bool

/-- AES-CMAC-128 of bytes under a key: 16 octets. -/
opaque Config.cmac : List Byte → List Byte → List Byte

/-- HKDF-SHA-384: salt, input key, info, how many octets. -/
opaque Config.hkdf : List Byte → List Byte → List Byte → Nat → List Byte

/-- The x-coordinate of an ECDH P-384 secret: own scalar, compressed key of the other party. -/
opaque Config.ecdh : List Byte → List Byte → List Byte

/-- The latency of a link in DCLK periods, which a start meets to within one: link, mode, init sequence of its head. -/
opaque Config.linkLatency : Nat → Nat → List (Nat × Nat × Nat × Nat) → Nat

/-- Sample bytes that a capture port has stored: draw. -/
opaque Config.samples : Nat → List Byte

/-- A measurement of Wader over a record's samples (R397): which, samples. -/
opaque Config.measure : Nat → List Byte → Nat

/-- The centre of GNSS front end 1 as interleaved, in kHz (Table Wader-1). -/
opaque Config.centreG1G2 : BitVec 32

/-- Sine and cosine of the latitude of the normal at an ECEF point in mm. The manual names no ellipsoid. -/
opaque Config.latitude : Int → Int → Int → Rat × Rat

/-- The head profile set as its configuration block (type 0x0602), and the set that such a block holds: for each head its
sequences, each a list of steps (op, arg, addr, value). -/
opaque Config.headBlock : List (List (List (Nat × Nat × Nat × Nat))) → List Byte
opaque Config.headSet : List Byte → List (List (List (Nat × Nat × Nat × Nat)))

/-- The first cell that the pool gives a packet: draw. -/
opaque Config.cell : Nat → BitVec 17

/-- The bytes of an RTCM 3.3 message, whose layout is that standard's: message number, content. -/
opaque Config.rtcm : Nat → List Byte → List Byte

end Sys2Proof
end

