-- ==== Sys2Proof/Machine/Types.lean ====
section
/-! DEFINITION.
The parts of the state: registers, rings, sessions, sides, settings, control state and run state, chapter by chapter.
-/

namespace Sys2Proof.Machine

/-! ### Host port (chapter 04) -/

/-- One completion or message entry (Table Host-3, R95). -/
structure Entry where
  status   : Nat
  tag      : Nat
  session  : Nat
  follow   : Bool
  lost     : Bool
  msg      : Bool
  phase    : Bool
  detail   : Nat
  opcode   : Nat
  sqIndex  : Nat
  reply    : List Byte
  fetchSeq : Nat
  epoch    : Nat
  mtbNs    : Nat
  deriving DecidableEq, Repr, Inhabited

/-- An entry waiting for a completion slot (R93), with the URGENT flag of its command (R113). -/
structure HeldEntry where
  entry  : Entry
  urgent : Bool
  deriving DecidableEq, Repr, Inhabited

/-- One PCIe ring set: its registers (Tables Host-15 to Host-19), its moderation (R113), the entries that lie
between the CQ head and the CQ tail, and the entries held while the CQ is full (R93). -/
structure RingSet where
  sqBaseLo    : Nat
  sqBaseHi    : Nat
  cqBaseLo    : Nat
  cqBaseHi    : Nat
  sqOrder     : Nat
  cqOrder     : Nat
  enable      : Bool
  sqTail      : Nat
  sqHead      : Nat
  cqTail      : Nat
  cqHead      : Nat
  timerUs     : Nat
  count       : Nat
  unsignalled : Nat
  timerRuns   : Bool
  cq          : List Entry
  held        : List HeldEntry
  lost        : Bool
  deriving DecidableEq, Repr, Inhabited

/-- The maintenance port (R116, R117): at most 32 entries held; completions beyond them wait. -/
structure MntPort where
  held    : List Entry
  waiting : List Entry
  lost    : Bool
  crcErr  : Bool
  short   : Bool
  deriving DecidableEq, Repr, Inhabited

/-- An entry of a session record's list (SESSION.TAGS). -/
structure TagEntry where
  fetchSeq : Nat
  tag      : Nat
  opcode   : Nat
  deriving DecidableEq, Repr, Inhabited

/-- The record of the last ended instance of a session (R111). -/
structure SessionRecord where
  epoch : Nat
  cause : Nat
  floor : Nat
  list  : List TagEntry
  deriving DecidableEq, Repr, Inhabited

/-- A command that the module has fetched (R98). -/
structure HostCmd where
  opcode    : Nat
  session   : Nat
  inst      : Nat
  fetchSeq  : Nat
  sqIndex   : Nat
  fetchedAt : Nat
  packet    : Packet
  deriving DecidableEq, Repr, Inhabited

/-- How far a command in flight has come (R94, R101, R107); `effected`: its effect is in force and its completion is still to come. -/
inductive CmdPhase where
  | fetched | started | effected | awaitingDurable
  deriving DecidableEq, Repr, Inhabited

/-- A tag in flight (R101). `reply` is the reply data of its accepted completion, for its durable one; `kept` is the committed
checkpoint that contains a command which has not yet completed (R107). -/
structure InFlight where
  cmd   : HostCmd
  phase : CmdPhase
  reply : List Byte
  kept  : Option Nat
  deriving DecidableEq, Repr, Inhabited

/-- One of the four sessions (R87). `effects` are the commands accepted above the floor of R426. -/
structure Session where
  isOpen   : Bool
  via      : Transport
  edition  : Nat
  hostId   : Nat
  inst     : Nat
  lastSeq  : Nat
  openEpoch : Nat
  inFlight : List InFlight
  effects  : List TagEntry
  deriving DecidableEq, Repr, Inhabited

/-! ### Sides: power, start, recorder, security, firmware (chapters 02, 03, 18 to 21) -/

/-- Power states of a side (Table Reset-3), with the codes of RESET.CAUSE. -/
inductive PowerState where
  | activeRun | activeIdle | fen | standbyCold | poweredDown
  deriving DecidableEq, Repr, Inhabited

/-- Power mode of the active side (R73). -/
inductive PowerMode where
  | run | idle | fen
  deriving DecidableEq, Repr, Inhabited

/-- Which start a side makes (R76, R86); `abandoned`: a handover restart that goes on through the module-start stages (R431). -/
inductive StartKind where
  | module | handover | abandoned | sideReset
  deriving DecidableEq, Repr, Inhabited

/-- The stage of Table Reset-4 that runs next. -/
inductive Stage where
  | bootRom | imageVerify | stateLoad | radioHead | gnss | heartbeat
  deriving DecidableEq, Repr, Inhabited

/-- A start in progress. -/
structure StartRun where
  kind     : StartKind
  stage    : Stage
  t0       : Nat
  slot     : Nat
  fallback : Bool
  trial    : Bool
  cmd      : Option HostCmd
  deriving DecidableEq, Repr, Inhabited

/-- The start record of a side that the host switch keeps (RESET.CAUSE). -/
structure StartRecord where
  kind       : Nat
  kindDetail : Nat
  slot       : Nat
  stageMs    : List Nat
  result     : Nat
  deriving DecidableEq, Repr, Inhabited

/-- One event record (Table Rec-2); `stb` is none while STB is INVALID. -/
structure Record where
  seq         : Nat
  code        : Nat
  source      : Nat
  repeats     : Nat
  opSeconds   : Nat
  powerCycles : Nat
  stb         : Option Nat
  lastMs      : Nat
  payload     : List Byte
  deriving DecidableEq, Repr, Inhabited

/-- An event that a side's always-on island holds while the main domains are off (R485). -/
structure AonEvent where
  code        : Nat
  source      : Nat
  payload     : List Byte
  opSeconds   : Nat
  powerCycles : Nat
  deriving DecidableEq, Repr, Inhabited

/-- The newest record while folds into it are possible (R487): its first occurrence on MTB (ticks), its window,
and the folds not yet in MRAM (R488). -/
structure OpenRecord where
  firstTick : Nat
  windowMs  : Nat
  repeats   : Nat
  lastMs    : Nat
  deriving DecidableEq, Repr, Inhabited

/-- One copy of the fold journal with its own CRC-32C (R30, R488). -/
structure JournalCopy where
  jseq   : Nat
  record : Record
  crc    : Nat
  deriving DecidableEq, Repr, Inhabited

/-- One copy of the counter block with its CRC-32C (R30, R484). -/
structure CounterCopy where
  saveSeq     : Nat
  opSeconds   : Nat
  powerCycles : Nat
  crc         : Nat
  deriving DecidableEq, Repr, Inhabited

/-- The recorder of a side (R481 to R490). `ring` holds the newest record first, as MRAM holds it. -/
structure Recorder where
  ring        : List Record
  head        : Nat
  openRec     : Option OpenRecord
  journalA    : Option JournalCopy
  journalB    : Option JournalCopy
  thisSecond  : Nat
  secondAt    : Nat
  dropped     : Nat
  droppedTotal : Nat
  repaired    : Nat
  heldEvents  : List AonEvent
  notHeld     : Nat
  opSeconds   : Nat
  powerCycles : Nat
  copyA       : CounterCopy
  copyB       : CounterCopy
  deriving DecidableEq, Repr, Inhabited

/-- Tamper and Crown state of a side (Table Sec-5, field state). -/
inductive TamperState where
  | shipping | armed | locked | debug
  deriving DecidableEq, Repr, Inhabited

/-- The tamper record of a side (Table Sec-5). -/
structure TamperRecord where
  state       : TamperState
  sensors     : Nat
  temp        : Int
  vbat        : Nat
  sideState   : Nat
  keyOp       : Nat
  powerCycles : Nat
  opSeconds   : Nat
  aonTicks    : Nat
  deriving DecidableEq, Repr, Inhabited

/-- Crown, pairing record, engine stores and debug port of a side (R442 to R457). -/
structure SideSecurity where
  record      : TamperRecord
  crownValid  : Bool
  pairing     : Bool
  radioStore  : Bool
  otherStores : Bool
  attestCount : Nat
  debugOpen   : Bool
  deriving DecidableEq, Repr, Inhabited

/-- The slot record of a firmware image (R465, Table Update-2). -/
structure SlotImage where
  valid      : Bool
  version    : Nat
  secVersion : Nat
  ckWrite    : Nat
  ckReadLo   : Nat
  ckReadHi   : Nat
  reqHeadsLo : Nat
  reqHeadsHi : Nat
  reqSideLo  : Nat
  reqSideHi  : Nat
  reqSwitchLo : Nat
  reqSwitchHi : Nat
  image      : List Byte
  deriving DecidableEq, Repr, Inhabited

/-- Trial state of slot flags (R467). -/
inductive TrialState where
  | none | pending | booted
  deriving DecidableEq, Repr, Inhabited

/-- One copy of the slot flags (R467). -/
structure FlagsCopy where
  seq    : Nat
  active : Nat
  trialSlot : Nat
  trial  : TrialState
  deriving DecidableEq, Repr, Inhabited

/-- Firmware slots with their flags, held in two copies (R467). -/
structure Firmware where
  slot0  : SlotImage
  slot1  : SlotImage
  flagsA : FlagsCopy
  flagsB : FlagsCopy
  running : Nat
  deriving DecidableEq, Repr, Inhabited

/-- One part entry of a manifest (Table Update-2). -/
structure ManifestPart where
  part       : Nat
  version    : Nat
  bodyOff    : Nat
  bodyLen    : Nat
  resultLen  : Nat
  ckWrite    : Nat
  ckReadLo   : Nat
  ckReadHi   : Nat
  baseHash   : List Byte
  resultHash : List Byte
  reqHeadsLo : Nat
  reqHeadsHi : Nat
  reqSideLo  : Nat
  reqSideHi  : Nat
  reqSwitchLo : Nat
  reqSwitchHi : Nat
  deriving DecidableEq, Repr, Inhabited

/-- A manifest (Table Update-2). -/
structure Manifest where
  nBlocks    : Nat
  pkgLen     : Nat
  secVersion : Nat
  parts      : List ManifestPart
  blockHash  : List (List Byte)
  deriving DecidableEq, Repr, Inhabited

/-- What a part of the staged package has become (R465, R475). -/
inductive PartResult where
  | unverified | verified | failed
  deriving DecidableEq, Repr, Inhabited

/-- The staging area (R460, R464): verified body, bytes of the block in progress, results and activations. -/
structure Staging where
  manifest   : Option Manifest
  blocks     : List (List Byte)
  partialBlk : List Byte
  applying   : List HostCmd
  results    : List PartResult
  activated  : List Nat
  headsImage : List Byte
  confirmS   : Nat
  deriving DecidableEq, Repr, Inhabited

/-- The update lock (R463). -/
structure UpdateLock where
  held    : Bool
  session : Nat
  hostId  : Nat
  deriving DecidableEq, Repr, Inhabited

/-! ### Reedbed GNSS baseband (chapter 05) -/

/-- Settings of one tracking channel (GNSS.CHANNEL_SET, R126 to R133). Bandwidths in the opcode's units. -/
structure ChanSettings where
  sig      : Nat
  sv       : Nat
  fcn      : Int
  dEl      : Nat
  dV       : Nat
  coh      : Nat
  pllOrder : Nat
  pllDisc  : Nat
  fllDisc  : Nat
  dllDisc  : Nat
  fllMode  : Nat
  pllBw    : Nat
  fllBw    : Nat
  dllBw    : Nat
  deriving DecidableEq, Repr, Inhabited

/-- One notch of a front end (R141). -/
structure Notch where
  mode   : Nat
  offset : Int
  width  : Nat
  thresh : Nat
  deriving DecidableEq, Repr, Inhabited

/-- Monitor thresholds of a front end (R139, R140). -/
structure MonitorSettings where
  blankThr : Nat
  hold     : Nat
  agcDev   : Nat
  flatMin  : Nat
  blankMax : Nat
  persist  : Nat
  agcBase  : Option Int
  deriving DecidableEq, Repr, Inhabited

/-- GNSS settings of the configuration in force (R145). -/
structure GnssSettings where
  epochRate  : Nat
  elevMask   : Nat
  assign     : Nat
  obsDecim   : Nat
  signalMask : Nat
  pllBw      : Nat
  fllBw      : Nat
  dllBw      : Nat
  pllOrder   : Nat
  fllMode    : Nat
  pinned     : Tbl ChanSettings
  notches    : List (List Notch)
  monitors   : List MonitorSettings
  deriving DecidableEq, Repr, Inhabited

/-- State of a tracking channel, with the codes of GNSS.CHANNEL_READ. -/
inductive ChanState where
  | idle | acquiring | codeLock | pullIn | phaseLock | fenSleep
  deriving DecidableEq, Repr, Inhabited

/-- One tracking channel that is not idle (R126 to R137, R144). `tNow` is T in use and `phase` the ms since a boundary of every T;
`codePhase` in chips and `carPhase` in cycles are those of its replicas; `moveTo` is the channel that takes its tracking state at the next
integration boundary (R125). `wasLocked`: in phase lock when a Fen sleep began; `resume`: ms since the burst start while re-entry is
awaited, and `check`: the first phase error after it is awaited (R144). -/
structure Channel where
  state      : ChanState
  set        : ChanSettings
  pending    : Option ChanSettings
  tNow       : Nat
  phase      : Nat
  moveTo     : Option Nat
  sync       : Bool
  a          : Rat
  b          : Rat
  fCarrier   : Rat
  fCode      : Rat
  codePhase  : Rat
  carPhase   : Rat
  codeShift  : Rat
  phaseShift : Rat
  prev       : Option (Int × Int)
  pliHist    : List Rat
  pli        : Rat
  pliHighMs  : Nat
  disagreeMs : Nat
  powHist    : List (Rat × Rat)
  cn0        : Nat
  lockMs     : Nat
  slipCount  : Nat
  sideCount  : Nat
  fll        : Bool
  hcUnres    : Bool
  hcAdj      : Bool
  slipSince  : Bool
  notchSince : Bool
  wasLocked  : Bool
  resume     : Option Nat
  check      : Bool
  deriving DecidableEq, Repr, Inhabited

/-- Monitor readings and interference flag of a front end (R139, R140); `flagAt` is the MTB tick at which it was set. -/
structure Monitor where
  agc     : Int
  flat    : Nat
  blanked : Nat
  causeMs : List Nat
  clearMs : Nat
  causes  : Nat
  flag    : Bool
  flagAt  : Nat
  deriving DecidableEq, Repr, Inhabited

/-- A multipath mapping run (R142): its channels, each with the signal and satellite that it maps. -/
structure MapRun where
  spacing  : Nat
  duration : Nat
  channels : Tbl (Nat × Nat)
  deriving DecidableEq, Repr, Inhabited

/-- One observation record (Table GNSS-4), field by field. -/
structure ObsRec where
  sig     : Nat
  sv      : Nat
  channel : Nat
  flags   : Nat
  slips   : Nat
  fcn     : Int
  pr      : Nat
  phase   : Int
  doppler : Int
  cn0     : Nat
  pli     : Int
  lockMs  : Nat
  deriving DecidableEq, Repr, Inhabited

/-- The observables of one base epoch (R135): its STB in ms, the base IODS that holds at it (R187), and the MTB tick at which it was made. -/
structure BaseEpoch where
  ms   : Nat
  recs : List ObsRec
  iods : Nat
  made : Nat
  deriving DecidableEq, Repr, Inhabited

/-- Tracking state of Reedbed, in no checkpoint (R145). `epochs` are the base epochs of the last 2 s, newest first. `rate` is the epoch rate
in force; `cfgDue`: loop defaults wait for the next epoch (R135). `searched` are the channels that acquisition has searched in the present pass
(R134); `notchMoved` holds the MTB tick of each adaptive notch's last move (R141). -/
structure GnssRun where
  rate       : Nat
  cfgDue     : Bool
  searched   : List Nat
  fen        : Bool
  burst      : Bool
  channels   : Tbl Channel
  notchAt    : Tbl Int
  notchMoved : Tbl Nat
  monitors   : List Monitor
  map        : Option MapRun
  epochCount : Nat
  epochs     : List BaseEpoch
  sky        : List SkySat
  biasState  : Nat
  biasMa     : Nat
  deriving DecidableEq, Repr, Inhabited

/-- GNSS hot-start data (Table Reset-5): ephemerides, almanac and last position, with the STB of their record. -/
structure HotStart where
  ephemerides : List (Nat × Nat × Nat)
  almanac     : List (Nat × Nat)
  position    : Option (Int × Int × Int)
  stamp       : Option Nat
  deriving DecidableEq, Repr, Inhabited

/-! ### Base position and correction streams (chapter 06) -/

/-- A base position: ARP in ECEF mm with its height and frame year (R146). -/
structure BasePos where
  source    : Nat
  frameYear : Nat
  x         : Int
  y         : Int
  z         : Int
  arpHeight : Nat
  deriving DecidableEq, Repr, Inhabited

/-- Parameters of a survey-in or baseline run (CORR.BASE with source 1 or 2). -/
structure BaseRun where
  source    : Nat
  frameYear : Nat
  arpHeight : Nat
  minS      : Nat
  maxS      : Nat
  targetMm  : Nat
  neighbour : Nat
  fixHoldS  : Nat
  deriving DecidableEq, Repr, Inhabited

/-- Settings of one stream (CORR.STREAM). -/
structure StreamSettings where
  enable    : Bool
  msm       : Nat
  msmPeriod : Nat
  constMask : Nat
  lanes     : Nat
  stationId : Nat
  ports     : Nat
  udpPort   : Nat
  ip        : List Byte
  p1005     : Nat
  p1006     : Nat
  p1008     : Nat
  p1033     : Nat
  p1230     : Nat
  ephCycle  : Nat
  sigMask   : Nat
  deriving DecidableEq, Repr, Inhabited

/-- Watchdog thresholds (CORR.WATCHDOG). -/
structure WatchdogSettings where
  slipPct  : Nat
  jumpMm   : Nat
  mismatch : Nat
  interfS  : Nat
  holdoffS : Nat
  nbCheck  : Nat
  deriving DecidableEq, Repr, Inhabited

/-- Correction settings and base position of the configuration in force (R148). -/
structure CorrSettings where
  base     : Option BasePos
  pending  : Option BasePos
  run      : Option BaseRun
  iods     : Nat
  baseSeq  : Nat
  streams  : List StreamSettings
  setupId  : Nat
  desc     : List Byte
  serial   : List Byte
  gloAlign : Bool
  watchdog : WatchdogSettings
  latched  : Nat
  deriving DecidableEq, Repr, Inhabited

/-- A neighbour buffer (R149): the MTB ns of its latest message, ARP message and MSM, and its ARP in mm. -/
structure NeighbourBuf where
  lastAt  : Nat
  lastArp : Option Nat
  lastMsm : Option Nat
  arp     : Int × Int × Int
  deriving DecidableEq, Repr, Inhabited

/-- Progress of the streams and of the watchdog, in no checkpoint (R148, R158, R159). `runAt` and `fixAt` are the MTB ticks
at which the run started and its baseline took its fixed solution. `absent` holds the causes whose condition is absent and
whose hold-off runs. `silent`: the streams were withheld at the last epoch. `enabledAt` holds the STB second at which each
stream was enabled and `epochs` its epochs since; `ephSent` holds, for each stream, the message, satellite and issue of
each ephemeris sent, with the STB second. `moved` holds the displacements of the last 10 s and `codes` the code solutions of the last 300 s,
each with its epoch in ms; `codeFrom` is the epoch of the first code solution since the start. -/
structure CorrRun where
  runAt      : Option Nat
  sigma      : Nat
  fixAt      : Option Nat
  active     : Nat
  absent     : Nat
  withheld   : Bool
  silent     : Bool
  neighbours : Tbl NeighbourBuf
  discarded  : Nat
  dropped    : Nat
  enabledAt  : List (Option Nat)
  epochs     : List Nat
  ephSent    : List (List (Nat × Nat × Nat × Nat))
  moved      : List (Nat × (Int × Int × Int))
  codes      : List (Nat × (Int × Int × Int))
  codeFrom   : Option Nat
  deriving DecidableEq, Repr, Inhabited

/-! ### Time bases (chapter 08). STB, PTB and ATB are held in units of 2^-16 ns (Table Time-2) -/

/-- Settings of one PTP port (TIME.PTP_CONFIG). -/
structure PtpPortSettings where
  enable    : Bool
  delayMech : Nat
  oneStep   : Nat
  logSync   : Int
  logAnn    : Nat
  annTimeout : Nat
  logDelay  : Int
  txLat     : Nat
  rxLat     : Nat
  asym      : Int
  deriving DecidableEq, Repr, Inhabited

/-- PTP settings (TIME.PTP_CONFIG). -/
structure PtpSettings where
  mode      : Nat
  profile   : Nat
  domain    : Nat
  ptbSource : Nat
  priority1 : Nat
  priority2 : Nat
  transport : Nat
  ports     : List PtpPortSettings
  servo     : Nat
  deriving DecidableEq, Repr, Inhabited

/-- A leap-second table (R195): `changeAt` is an STB second, 0 for none. -/
structure LeapTable where
  taiUtc   : Nat
  next     : Nat
  changeAt : Nat
  deriving DecidableEq, Repr, Inhabited

/-- The row "PPS and time configuration" of Table Reset-5 (R218). -/
structure TimeSettings where
  holdoverRef : Nat
  refOut      : Nat
  ppsOut      : Bool
  ppsIn       : Bool
  ppsWidth    : Nat
  ppsDelay    : Int
  atbSlew     : Nat
  info        : Bool
  lockHold    : Nat
  ptp         : PtpSettings
  leapHost    : Option LeapTable
  deriving DecidableEq, Repr, Inhabited

/-- The row "STB, PTB and ATB values" of Table Reset-5. -/
structure TimeValues where
  stb   : Option Nat
  ptb   : Option Nat
  atb   : Option Nat
  atbOffsetSf : Int
  deriving DecidableEq, Repr, Inhabited

/-- STB quality states, with the codes of Table Time-3. -/
inductive StbState where
  | locked | fenLocked | holdoverA | holdoverB | holdoverC | returning | restored | invalid
  deriving DecidableEq, Repr, Inhabited

/-- A step of STB that is announced or was cancelled (R201, R202): second B and the step -e, in 2^-16 ns. -/
structure StbStep where
  second : Nat
  step   : Int
  deriving DecidableEq, Repr, Inhabited

/-- PTP port states (IEEE 1588 portState codes are given by the order from 1). -/
inductive PtpState where
  | initializing | faulty | disabled | listening | preMaster | master | passive | uncalibrated | slave
  deriving DecidableEq, Repr, Inhabited

/-- Run state of a PTP port (R218): its state, the path and peer delays in 2^-16 ns, the best announcing clock seen and the foreign masters heard
(source, MTB tick); of the last Sync the difference of its time stamps, and what waits for a follow-up or an answer: sequence number, time
stamp and correction; the MTB tick of the last Announce sent; and the next sequence numbers. -/
structure PtpPort where
  state     : PtpState
  peerDelay : Int
  bestGm    : Option (List Nat × Nat)
  syncs     : Nat
  pathDelay : Int
  lastSync  : Option Int
  waitSync  : Option (Nat × Nat × Int)
  delayReq  : Option (Nat × Nat)
  pdelayReq : Option (Nat × Nat)
  waitPdelay : Option (Nat × Int)
  foreign   : List (List Byte × Nat)
  announced : Option Nat
  seqSync   : Nat
  seqDelay  : Nat
  seqPdelay : Nat
  seqAnn    : Nat
  deriving DecidableEq, Repr, Inhabited

/-- What PPS_INFO announced of a pulse (R206, R207): its second, whether it is suppressed, its width and advance, its quantisation error and
the number of its edge of the 500 MHz clock. -/
structure PulseInfo where
  second     : Nat
  suppressed : Bool
  widthUs    : Nat
  delayPs    : Int
  qPs        : Int
  edge       : Nat
  deriving DecidableEq, Repr, Inhabited

/-- Run state of the time island, in no checkpoint. Errors in 2^-16 ns; `enteredAt` is the MTB tick of the
present holdover entry. `rate` is that of STB against the TCXO in 10^-12, `rem` what its steps have not yet added; `remaining` is the error
that is being slewed out, and `slewRem`, `atbRem` and `ptbRem` the fractions that the slews of STB, ATB and PTB have not yet added;
`nextRate` and `nextSlew` wait for the pulse that PPS_INFO has announced; `ptbLeft` is what the servo has left to take from PTB, at
`ptbRate` in 10^-12. `offsets` are the time
offsets of the constellations (R194), `refCount` the last count of SYNC_REF_IN in 10^-5 cycles and `refCal` its calibrated deviation
in 10^-12 (R199), `decodedBy` the constellation of the decoded table (R195). `timingOk`: the last epoch met the conditions of
discipline; `readySince` is the MTB tick since which those of a return have held (R197). -/
structure TimeRun where
  state      : StbState
  estErr     : Nat
  entryErr   : Nat
  enteredAt  : Nat
  modelAt    : Nat
  refInUse   : Nat
  pending    : Option StbStep
  cancelled  : Option StbStep
  stepped    : Bool
  remaining  : Int
  syncRef    : Bool
  decoded    : Option LeapTable
  decodedBy  : Nat
  rate       : Int
  rem        : Int
  slewRem    : Nat
  atbRem     : Nat
  nextRate   : Option Int
  nextSlew   : Option Int
  ptbLeft    : Int
  ptbRate    : Nat
  ptbRem     : Nat
  offsets    : List Int
  refCount   : Nat
  refCal     : Option Int
  timingOk   : Bool
  readySince : Option Nat
  ppsInPs    : Int
  ppsInAt    : Option Nat
  pulses     : List PulseInfo
  ppsFrom    : Nat
  ports      : List PtpPort
  gmIdentity : List Byte
  deriving DecidableEq, Repr, Inhabited

/-! ### Radio lanes and budgets (chapter 09) -/

/-- Configuration of one link and its head (RADIO.LINK_CONFIG). -/
structure LinkSettings where
  enable   : Bool
  mode     : Nat
  spiMhz   : Nat
  txMap    : Nat
  rxMap    : Nat
  polarity : Nat
  addrBits : Nat
  dataBits : Nat
  readPol  : Nat
  asym     : Int
  deriving DecidableEq, Repr, Inhabited

/-- One step of a head sequence (RADIO.HEAD_PROFILE). -/
structure HeadStep where
  op    : Nat
  arg   : Nat
  addr  : Nat
  value : Nat
  deriving DecidableEq, Repr, Inhabited

/-- Configuration of one lane (RADIO.LANE_CONFIG). Powers in 0.1 dB, frequencies in kHz. -/
structure LaneSettings where
  enable   : Bool
  cls      : Nat
  region   : Nat
  centre   : Nat
  phy      : Nat
  preamble : Nat
  txPower  : Int
  antGain  : Int
  txFull   : Int
  rxFull   : Int
  reserve  : Nat
  window   : Nat
  tune     : List Nat
  channels : List Int
  deriving DecidableEq, Repr, Inhabited

/-- One sub-band of a region (R233, RADIO.REGION_LOAD). -/
structure SubBand where
  lo      : Nat
  hi      : Nat
  duty    : Bool
  dwell   : Bool
  lbt     : Bool
  dfs     : Bool
  minChan : Nat
  eirp    : Int
  limit   : Nat
  dwellS  : Nat
  cac10s  : Nat
  deriving DecidableEq, Repr, Inhabited

/-- Offsets of one lane on one side (R230, R231). -/
structure LaneOffsets where
  cable : Nat
  tx    : Nat
  rx    : Nat
  deriving DecidableEq, Repr, Inhabited

/-- Radio settings of the configuration in force (R240). `heads` holds five sequences for each head; `headsReq`
is the side firmware range that an installed head profile set requires (R474). -/
structure RadioSettings where
  links    : List LinkSettings
  heads    : List (List (List HeadStep))
  headsVer : Nat
  headsReq : Nat × Nat
  lanes    : List LaneSettings
  custom   : List SubBand
  offsA    : List LaneOffsets
  offsB    : List LaneOffsets
  deriving DecidableEq, Repr, Inhabited

/-- Usage of one budget: the bin in progress first, then the 61 (or, for a dwell rule, period) bins before it
(R234, R237), each in µs. -/
structure BinPair where
  ord : Nat
  res : Nat
  deriving DecidableEq, Repr, Inhabited

/-- One accounted budget of a lane: a duty sub-band, or one channel under a dwell rule (chan below 0xFF). -/
structure Budget where
  lane      : Nat
  lo        : Nat
  chan      : Nat
  limitUs   : Nat
  reserveUs : Nat
  bins      : List BinPair
  binEnd    : Nat
  exhausted : Bool
  refusedUs : Nat
  sent      : List (Nat × Nat)
  resTold   : Bool
  deriving DecidableEq, Repr, Inhabited

/-- DFS states of a channel, with the codes of RADIO.LANE_STATUS (R239). -/
inductive DfsState where
  | none | cac | available | inUse | unavailable
  deriving DecidableEq, Repr, Inhabited

/-- DFS state of one channel of a lane; `stopUs` is the stop air time spent since the detection. -/
structure DfsChan where
  lane    : Nat
  chan    : Nat
  state   : DfsState
  stopsOk : Bool
  stopUs  : Nat
  deriving DecidableEq, Repr, Inhabited

/-- The class "Radio budget accounting" of Table Reset-5 (R240). -/
structure RadioBudget where
  budgets : List Budget
  dfs     : List DfsChan
  deriving DecidableEq, Repr, Inhabited

/-- State of a link (R225 to R229): `starting` in a link start or restart, `lost` until the first retraining. -/
inductive LinkState where
  | down | starting | dataPhase | lost | retraining | headFault | stopped
  deriving DecidableEq, Repr, Inhabited

/-- What a side puts out to a radio head (R227, R228): an SPI transfer at `mhz` with its address word (the direction bit
included) and, for a write, its data word; the level of RESET_N; or a wait in µs. -/
inductive HeadOp where
  | write (side head mhz word value : Nat)
  | read (side head mhz word : Nat)
  | resetN (side head : Nat) (level : Bool)
  | wait (side head us : Nat)
  deriving DecidableEq, Repr

/-- Run state of one link, with the levels of its head's pads RESET_N, ALARM_N and LOCK (Table Radio-4). `cmd` is the RADIO.LINK_CONFIG whose start runs, and `waiting` those fetched after it (R99). -/
structure LinkRun where
  state    : LinkState
  restarts : Nat
  crcErrs  : Nat
  latency  : Nat
  resetN   : Bool
  alarmN   : Bool
  lock     : Bool
  cmd      : Option HostCmd
  waiting  : List HostCmd
  deriving DecidableEq, Repr, Inhabited

/-- Run state of one lane: counters, channels that measured busy before superframe `busyAsn` (R238), noise floors, and the
ATB instant, at the antenna port, of the last frame received (R230). -/
structure LaneRun where
  phyErrs  : Nat
  lbtDefs  : Nat
  busy     : List Nat
  busyAsn  : Nat
  noise    : Tbl Int
  rxAt     : Option Int
  deriving DecidableEq, Repr, Inhabited

/-- Run state of the radio, in no checkpoint. -/
structure RadioRun where
  links : List LinkRun
  lanes : List LaneRun
  deriving DecidableEq, Repr, Inhabited

/-! ### Mere link MAC (chapter 10) -/

/-- Settings of MAC.LANE_MAC for one lane. -/
structure LaneMac where
  joins      : Bool
  joinPeriod : Nat
  baseRate   : Nat
  primary    : Nat
  span       : Nat
  deriving DecidableEq, Repr, Inhabited

/-- One entry of MAC.PROVISION; its key in the table is member_id. -/
structure Provision where
  maxEdition : Nat
  addr       : Nat
  squad      : Nat
  lanes      : Nat
  maxLatency : Nat
  flags      : Nat
  pubkey     : List Byte
  deriving DecidableEq, Repr, Inhabited

/-- MAC settings of the configuration in force (R277). A lane that no MAC.LANE_MAC has named holds none. -/
structure MacSettings where
  ctlNode     : Nat
  editions    : Nat
  poolLo      : Nat
  poolHi      : Nat
  defInterval : Nat
  defSup      : Nat
  meshTtl     : Nat
  lanes       : List (Option LaneMac)
  provisions  : Tbl Provision
  deriving DecidableEq, Repr, Inhabited

/-- One DATA frame of the controller: kind of Table Mere-6 and payload, under its seq. -/
structure DataFrame where
  seq     : Nat
  kind    : Nat
  payload : List Byte
  deriving DecidableEq, Repr, Inhabited

/-- Run state of a connection, in no checkpoint. `held` are the frames taken from the downlink queue and not yet
acknowledged, oldest first (R266, MAC.SEND); `failures` tells of the latest frames, newest first, which failed. -/
structure ConnRun where
  held      : List DataFrame
  repeats   : Nat
  dups      : Nat
  skipped   : Nat
  rssi      : Int
  lastHeard : Nat
  eventCtr  : Nat
  heardInEvent : Bool
  sentInEvent : Bool
  failures  : List Bool
  autoRate  : Nat
  emptyTold : Bool
  deriving DecidableEq, Repr, Inhabited

/-- A join exchange of a lane (R253 to R257): `step` is the next frame: 1 JOIN_RSP, 2 JOIN_AUTH, 3 JOIN_DONE. -/
structure JoinRun where
  step     : Nat
  memberId : Nat
  node     : Nat
  status   : Nat
  edition  : Nat
  squad    : Nat
  flow     : Nat
  memTol   : Nat
  firstAsn : Nat
  par      : ConnParams
  chanMap  : Nat
  kDn      : List Byte
  kUp      : List Byte
  kWrap    : List Byte
  rsp      : List Byte
  hash     : List Byte
  deriving DecidableEq, Repr, Inhabited

/-- Run state of the MAC on one lane: the counters of MAC.STATUS in its order from joins admitted, the frames of another
controller (R246), and the join exchange. -/
structure MacLane where
  admitted : Nat
  refused  : Nat
  beacons  : Nat
  beaconsSkipped : Nat
  fcs      : Nat
  mic      : Nat
  stale    : Nat
  order    : Nat
  dups     : Nat
  protocol : Nat
  skips    : Nat
  seenDisc : Nat
  foreign  : Nat
  join     : Option JoinRun
  deriving DecidableEq, Repr, Inhabited

/-- Run state of the MAC, in no checkpoint. `seen` holds the cached keys (origin, mseq), oldest first (R274). -/
structure MacRun where
  conns : Tbl ConnRun
  lanes : List MacLane
  seen  : List (Nat × Nat)
  mseq  : Nat
  deriving DecidableEq, Repr, Inhabited


/-! ### Sluice (chapter 11) -/

/-- Settings of SLUICE.CONFIG. -/
structure SluiceSettings where
  lapseMs   : Nat
  envAction : Nat
  envCat    : Nat
  loopCat   : Nat
  discCat   : Nat
  diagCat   : Nat
  confirmMs : Nat
  deriving DecidableEq, Repr, Inhabited

/-- How a member in a stop's scope is counted (R300). -/
inductive StopClass where
  | pending | confirmed | unreachable
  deriving DecidableEq, Repr, Inhabited

/-- One member counted for a stop. -/
structure StopMember where
  memberId : Nat
  node     : Nat
  cls      : StopClass
  deriving DecidableEq, Repr, Inhabited

/-- A site stop as a stop of cause 7 or an exported stop carries it: origin controller and its number (R418). -/
structure SiteStopRef where
  origin   : Nat
  number   : Nat
  released : Bool
  deriving DecidableEq, Repr, Inhabited

/-- A stop in force (R288 to R300). No targets: scope all. `spans` holds, for each sub-GHz lane that has still to send
it, the targets left (R282); `sentOn` are the lanes on which a copy went out (R300). -/
structure Stop where
  no       : Nat
  category : Nat
  cause    : Nat
  targets  : List Nat
  copies   : Nat
  queuedNs : Nat
  members  : List StopMember
  confirmOver : Bool
  reported : Nat × Nat × Nat
  spans    : Tbl (List Nat)
  sentOn   : List Nat
  site     : Option SiteStopRef
  deriving DecidableEq, Repr, Inhabited

/-- The checkpointed state of Sluice (R303). `withheld` holds why a node is withheld, by bits: 0 the host, 1 R292,
2 R331. `requal` and `statusDue` hold the member_ids whose permission waits for R432 and for R303, and `ckptSeq` the checkpoint's stop_seq. -/
structure SluiceCtl where
  grantMap : Nat
  withheld : Tbl Nat
  stops    : List Stop
  stopSeq  : Nat
  requal   : List Nat
  statusDue : List Nat
  ckptSeq  : Nat
  deriving DecidableEq, Repr, Inhabited

/-- Controller Sluice states (Table Sluice-6). -/
inductive SluiceState where
  | off | running | withdrawn | finalStop
  deriving DecidableEq, Repr, Inhabited

/-- Classification of a loop input, with the codes of SLUICE.STATUS. -/
inductive LoopIn where
  | unclassified | closed | opened | fault
  deriving DecidableEq, Repr, Inhabited

/-- Run state of Sluice. `grantCmds` are the SLUICE.GRANT commands whose completion waits for a frame (R294), with
their reply. -/
structure SluiceRun where
  state     : SluiceState
  in0       : LoopIn
  in1       : LoopIn
  discSince : Bool
  discStop  : Bool
  overflow  : Nat
  overSquads : Nat
  status    : Tbl MemberStatus
  grantCmds : List (HostCmd × List Byte)
  reportAt  : Nat
  deriving DecidableEq, Repr, Inhabited


/-! ### Dyke table: graph, windows and tasks (chapter 12) -/

/-- A segment record (R304 to R307, R310). `rule` is the direction rule of Table Dyke-2. -/
structure Segment where
  fromJ      : Nat
  toJ        : Nat
  lengthMm   : Nat
  kappa      : Int
  speed      : Nat
  width      : Nat
  rule       : Nat
  closed     : Bool
  reversible : Bool
  owner      : Nat
  conflicts  : List Nat
  deriving DecidableEq, Repr, Inhabited

/-- A junction record (R308): its ends, and one byte of the turn map for each of six ends. -/
structure Junction where
  east   : Int
  north  : Int
  closed : Bool
  ends   : List Nat
  turns  : List Nat
  deriving DecidableEq, Repr, Inhabited

/-- A track graph. -/
structure Graph where
  segs  : Tbl Segment
  juncs : Tbl Junction
  deriving DecidableEq, Repr, Inhabited

/-- A member class (R311, DYKE.CLASS). -/
structure DykeClass where
  mayReverse : Bool
  widthNeed  : Nat
  front      : Nat
  rear       : Nat
  halfWidth  : Nat
  vMax       : Nat
  aMax       : Nat
  aHold      : Nat
  aFast      : Nat
  reactMs    : Nat
  jMax       : Nat
  deriving DecidableEq, Repr, Inhabited

/-- Dyke settings of the configuration in force (R336). -/
structure DykeSettings where
  originX  : Int
  originY  : Int
  originZ  : Int
  margin   : Nat
  posTol   : Nat
  spdTol   : Nat
  offerS   : Nat
  declineS : Nat
  maxCand  : Nat
  live     : Graph
  classes  : Tbl DykeClass
  members  : Tbl Nat
  deriving DecidableEq, Repr, Inhabited

/-- State of a task, with the codes of TASK.EVENT that a task can be in. -/
inductive TaskState where
  | pending | offered | accepted | arrived
  deriving DecidableEq, Repr, Inhabited

/-- A task (R332 to R335). Instants are clock ticks; bars are (node, until). -/
structure Task where
  order     : Nat
  ref       : Nat
  seg       : Nat
  dir       : Nat
  priority  : Nat
  offset    : Nat
  mask      : Nat
  deadlineS : Nat
  durationS : Nat
  queuedAt  : Nat
  state     : TaskState
  node      : Nat
  arrive    : Nat
  bars      : List (Nat × Nat)
  deriving DecidableEq, Repr, Inhabited

/-- How a member's frames run (R344, R347, R352). `mode`: Table Profile-1. `rest` is the s of the first mode-3 record;
`hold` the hold plan of modes 1 and 2, made for stop category `holdCat`; `proj` the previous projection (R324); `resumeTold` after the
first refusal; `lastAsn` the event of the last frame. -/
structure ProfileState where
  mode     : Nat
  frameNo  : Nat
  planNo   : Nat
  hold     : Option Plan
  rest     : Nat
  proj     : Option Nat
  resumeTold : Bool
  resuming : Bool
  turnsTold : Nat
  lastAsn  : Nat
  fresh    : Bool
  holdCat  : Nat
  deriving DecidableEq, Repr, Inhabited

/-- The class "Reservations, tasks, profiles" of Table Reset-5, with the shadow graph (R336, R352). -/
structure DykeCtl where
  shadow   : Graph
  windows  : Tbl (List Window)
  copies   : Tbl (List (Nat × Window))
  allots   : Tbl Allotment
  profiles : Tbl ProfileState
  tasks    : Tbl Task
  nextTask : Nat
  nextOrder : Nat
  deriving DecidableEq, Repr, Inhabited

/-- A swap that has passed validation and waits for its superframe boundary (R329). -/
structure SwapRun where
  cmd   : HostCmd
  graph : Graph
  deriving DecidableEq, Repr, Inhabited

/-- A path request that waits for other owners (R310, R408). `reserves` and `commits` hold, for each message sent, its
transaction number, the owner, and whether it was answered with acceptance; `cmd` is none for a resume. -/
structure BorderRun where
  txn      : Nat
  cmd      : Option HostCmd
  node     : Nat
  allot    : Allotment
  want     : List (Nat × Nat × Window)
  reserves : List (Nat × Nat × Bool)
  commits  : List (Nat × Nat × Bool)
  retarget : Option (List Byte)
  deriving DecidableEq, Repr, Inhabited

/-- Run state of the Dyke engine and the profile generator, in no checkpoint. `placed`: the ECEF place of each member's latest USABLE
record (R317); `idle`: the members that the last tick boundary found idle (R333). -/
structure DykeRun where
  swap      : Option SwapRun
  swaps     : Nat
  checks    : List Nat
  conflicts : Nat
  failures  : Nat
  told      : Tbl Nat
  pinDue    : List Nat
  border    : List BorderRun
  frames    : Tbl (List Byte)
  positions : Tbl (List Byte)
  placed    : Tbl (Int × Int × Int)
  idle      : List Nat
  deriving DecidableEq, Repr, Inhabited

/-- Profile settings of the configuration in force (R352). -/
structure ProfileSettings where
  turnDwell : Nat
  restSpeed : Nat
  defRate   : Nat
  rates     : Tbl Nat
  deriving DecidableEq, Repr, Inhabited


/-! ### Block engine solving (chapter 07) -/

/-- A setting of SOLVER.MEMBER. -/
structure SolverMember where
  mode     : Nat
  rate     : Nat
  minState : Nat
  grace    : Nat
  decim    : Nat
  hal      : Nat
  val      : Nat
  pcoUp    : Nat
  sigMask  : Nat
  deriving DecidableEq, Repr, Inhabited

/-- Solver settings of the configuration in force (R189). -/
structure SolverSettings where
  codeSigma  : Nat
  phaseSigma : Nat
  qH : Nat
  qV : Nat
  qIono : Nat
  qTrop : Nat
  ratio : Nat
  minFix : Nat
  fixEpochs : Nat
  arElev : Nat
  exclMax : Nat
  tThr : Nat
  kH : Nat
  kV : Nat
  extrapMax : Nat
  partWait : Nat
  members : Tbl SolverMember
  nMin : Nat
  tileM : Nat
  thrMm : Nat
  persist : Nat
  exclS : Nat
  clearS : Nat
  code3 : Bool
  clear3 : Bool
  deriving DecidableEq, Repr, Inhabited

/-- An output record (Table Solver-8), field by field. -/
structure SolverRecord where
  node  : Nat
  state : Nat
  flags : Nat
  stb   : Option Nat
  x : Int
  y : Int
  z : Int
  vE : Int
  vN : Int
  vU : Int
  cEE : Nat
  cNN : Nat
  cUU : Nat
  cEN : Int
  hpl : Nat
  vpl : Nat
  ratio : Nat
  nFixed : Nat
  nAmb : Nat
  nSv : Nat
  nExcl : Nat
  baseAge : Nat
  latency : Nat
  iods : Nat
  predCount : Nat
  tStat : Nat
  slips : Nat
  deriving DecidableEq, Repr, Inhabited

/-- A state of a member filter (Table Solver-4): position by ECEF axis, velocity by east, north and up, receiver clock difference of a
constellation, clock drift, residual zenith tropospheric delay, slant ionospheric delay of a satellite, and float ambiguity of a
cell (signal index 0xFF: of a mode-1 pair). -/
inductive FilterVar where
  | pos (axis : Nat)
  | vel (axis : Nat)
  | clock (const : Nat)
  | drift
  | trop
  | iono (const sv : Nat)
  | amb (const sv sig : Nat)
  deriving DecidableEq, Repr, Inhabited

/-- The states of a member filter at STB ms `ms`, in mm and mm/s, and their packed covariance. -/
structure Filter where
  ms   : Nat
  vals : List (FilterVar × Rat)
  cov  : List ((FilterVar × FilterVar) × Rat)
  deriving DecidableEq, Repr, Inhabited

/-- A cell: constellation, satellite and signal. -/
abbrev CellKey := Nat × Nat × Nat

/-- A double-differenced ambiguity: its cell and the satellite of its reference. -/
abbrev DdKey := CellKey × Nat

/-- The Melbourne-Wübbena average of a mode-1 pair since lock start (R175): count, sum and sum of squares, in wide-lane
cycles. -/
structure WideLane where
  const : Nat
  sv    : Nat
  n     : Nat
  sum   : Rat
  sq    : Rat
  deriving DecidableEq, Repr, Inhabited

/-- A post-fit phase residual of a satellite, in mm, of the epoch at STB ms `ms` (R181). -/
structure PhaseResidual where
  ms    : Nat
  const : Nat
  sv    : Nat
  mm    : Rat
  deriving DecidableEq, Repr, Inhabited

/-- One cell of an upload (Table Solver-3): constellation, satellite, signal, and its fields; none: invalid. -/
structure UpCell where
  const : Nat
  sv    : Nat
  sig   : Nat
  rough : Option Nat
  fcn   : Nat
  pr    : Option Int
  ph    : Option Int
  lock  : Nat
  hc    : Nat
  cn0   : Nat
  deriving DecidableEq, Repr, Inhabited

/-- One part of an epoch being assembled (R167). -/
structure UpPart where
  part  : Nat
  more  : Bool
  cells : List UpCell
  deriving DecidableEq, Repr, Inhabited

/-- Run state of one solved member, in no checkpoint. `reinit`: bit 0 every state, bit 1 ambiguities, bit 2
ionosphere. `held` are the integers of the last fix, and `passes` the consecutive passes. `begun`: an upload has come since the
member joined (R160). `seen` are the epochs of which a part has come, `lastEpoch` that of the last record, `readyAt` the MTB
tick of the first instant of R184. `slipped` are the cells with a slip that no solution has taken yet, `bases` the slip count and
HC_ADJUSTED of each cell's last base record. `filter` is the float filter and `solution` what the last record reported. `grid`: the
rate code in force before STB ms (R186). -/
structure SolveRun where
  record     : Option SolverRecord
  epochMs    : Nat
  parts      : List UpPart
  stationary : Bool
  waiting    : Bool
  lastSolved : Option Nat
  lastUsable : Bool
  predCount  : Nat
  cells      : List UpCell
  reinit     : Nat
  slipped    : List CellKey
  held       : List (DdKey × Int)
  passes     : Nat
  conflicts  : Nat
  outCount   : Nat
  iods       : Nat
  endedAt    : Option Nat
  begun      : Bool
  seen       : List Nat
  lastEpoch  : Option Nat
  readyAt    : Nat
  bases      : List (CellKey × Nat × Bool)
  filter     : Filter
  solution   : Option Filter
  wide       : List WideLane
  residuals  : List PhaseResidual
  grid       : Option (Nat × Nat)
  deriving DecidableEq, Repr, Inhabited

/-- A satellite excluded under alarm code 1 (R182): whether excl_s has elapsed, and clean tests since. -/
structure SatExclusion where
  const   : Nat
  sv      : Nat
  elapsed : Bool
  clean   : Nat
  tile    : Int × Int
  deriving DecidableEq, Repr, Inhabited

/-- A tile under alarm code 2. -/
structure TileAlarm where
  tile  : Int × Int
  clean : Nat
  deriving DecidableEq, Repr, Inhabited

/-- An anomaly that persists (R182): tile, satellite (code 1) and consecutive tests. -/
structure Anomaly where
  tile  : Int × Int
  const : Nat
  sv    : Nat
  tests : Nat
  deriving DecidableEq, Repr, Inhabited

/-- Run state of the Block engine, in no checkpoint. -/
structure SolverRun where
  runs       : Tbl SolveRun
  exclusions : List SatExclusion
  tiles      : List TileAlarm
  anomalies  : List Anomaly
  multi      : List (((Int × Int)) × Nat)
  stale      : Nat
  bad        : Nat
  timedOut   : Nat
  deriving DecidableEq, Repr, Inhabited


/-! ### Milliner scheduling and the Peat pool (chapters 14 and 15) -/

/-- Scheduler settings of the configuration in force (R370). -/
structure SchedSettings where
  affinityUs : Nat
  starveUs   : Nat
  outMask    : Nat
  deriving DecidableEq, Repr, Inhabited

/-- What a work item does that no packet and no command makes: the work of the event that created it (Table Sched-2). -/
inductive Work where
  | profileFrameDue (node : Nat)
  | resumeRetry (node : Nat)
  | resumePlan (node : Nat)
  | epochPartWaitExpiry (node epoch : Nat)
  | missingEpoch (node epoch : Nat)
  | supervisionTimeout (node : Nat)
  | endConn (cause : Nat)
  | syncDone
  | joinAuthReceived (lane : Nat) (sig : List Byte)
  | handoverInstant (node : Nat)
  | handoverEnd (src node outcome : Nat)
  | borderCommit (txn : Nat)
  | allotterRun
  | allotterPeriodic
  | hotStartWrite
  | budgetAccountingWrite
  | recorderWrite
  | gnssEpoch (epoch : Nat) (m : EpochMeas)
  | helloReceived (src : Nat) (body : List Byte)
  | helloRspReceived (src : Nat) (body : List Byte)
  | helloFinReceived (src : Nat) (body : List Byte)
  | fedStatusReceived (h : FedHead) (liveSet : List Byte) (coordinator : Nat) (digest : List Byte)
  | fedRtcmReceived (h : FedHead) (data : List Byte)
  | reserveReceived (h : FedHead) (body : List Byte)
  | reserveRspReceived (h : FedHead) (body : List Byte)
  | commitReceived (h : FedHead) (body : List Byte)
  | commitAckReceived (h : FedHead) (body : List Byte)
  | releaseReceived (h : FedHead) (body : List Byte)
  | ackReceived (h : FedHead)
  | handoverOfferReceived (h : FedHead) (offer : MemberOffer)
  | handoverAcceptReceived (h : FedHead) (status instant : Nat) (par : ConnParams) (chanMap : Nat)
  | handoverDoneReceived (h : FedHead) (node outcome : Nat)
  | siteReleaseReceived (h : FedHead) (origin no : Nat)
  | fedUcpReceived (h : FedHead) (opcode : Nat) (p : Packet)
  deriving DecidableEq, Repr, Inhabited

/-- A work item (Table Sched-6). Instants are MTB ticks. `cell`: the draw that gave its packet's
first cell; `cmd`: session, tag, opcode and fetch sequence of kind 7; `work`: the event whose work it is, for an item that no
packet and no command makes; `acted`: it has had its effect; `run`: the command that started with the service of its item, which runs
to its end whatever becomes of its session (R94, R110); `starved` and `overran`: it has raised starvation by its wait, and by its run
(R363). -/
structure WorkItem where
  id       : Nat
  flow     : Nat
  kind     : Nat
  prio     : Nat
  timer    : Bool
  node     : Nat
  core     : Option Nat
  enq      : Nat
  start    : Option Nat
  queue    : Option Nat
  cell     : Option Nat
  cmd      : Option (Nat × Nat × Nat × Nat)
  args     : List Byte
  starved  : Bool
  overran  : Bool
  work     : Option Work
  acted    : Bool
  run      : Option HostCmd
  deriving DecidableEq, Repr, Inhabited

/-- A flow that holds items or has a history (R355 to R358). `readyAt` is the MTB tick at which its head item became eligible, and
`window` and `starveUs` are the settings of SCHED.CONFIG in force then, in µs. -/
structure Flow where
  items    : List WorkItem
  lastCore : Option Nat
  readyAt  : Nat
  window   : Nat
  starveUs : Nat
  done     : Nat
  maxWait  : Nat
  node     : Nat
  member   : Bool
  deriving DecidableEq, Repr, Inhabited

/-- State of a work core (Table Sched-4); `busy` names its flow and item. -/
inductive CoreState where
  | idle
  | busy (flow prio : Nat)
  | leaving (flow prio : Nat)
  | out
  | parked
  deriving DecidableEq, Repr, Inhabited

/-- One work core: its state, when it became busy, its latest busy spans (MTB ticks, newest first), and the SCHED.CORE
commands that wait for it in fetch order, the one that takes it out first (R364 to R366). -/
structure WorkCore where
  state     : CoreState
  busySince : Nat
  spans     : List (Nat × Nat)
  cmds      : List HostCmd
  deriving DecidableEq, Repr, Inhabited

/-- A timer of the delay lists (R367). `due` is an MTB tick; it queues `item`. -/
structure Timer where
  flow : Nat
  due  : Nat
  item : WorkItem
  deriving DecidableEq, Repr, Inhabited

/-- Counts of one priority level: items now, their peak, and the waiting-time buckets (R369). -/
structure PrioCount where
  now  : Nat
  peak : Nat
  hist : List Nat
  deriving DecidableEq, Repr, Inhabited

/-- Run state of Milliner, in no checkpoint. -/
structure SchedRun where
  flows      : Tbl Flow
  cores      : List WorkCore
  timers     : List Timer
  timersPeak : Nat
  refusals   : Nat
  starvations : Nat
  prios      : List PrioCount
  nextItem   : Nat
  deriving DecidableEq, Repr, Inhabited

/-- Settings of one queue (QUEUE.CONFIG). -/
structure QueueSettings where
  pkts    : Nat
  cells   : Nat
  stallUs : Nat
  deriving DecidableEq, Repr, Inhabited

/-- Peat settings of the configuration in force (R383). A queue not named holds its defaults of Table Peat-2. -/
structure PeatSettings where
  queues  : Tbl QueueSettings
  wmWarn  : Nat
  wmFloor : Nat
  deriving DecidableEq, Repr, Inhabited

/-- A committed packet (Table Peat-1). `cell`: the draw that gave its first cell. -/
structure PeatPacket where
  node   : Nat
  kind   : Nat
  lost   : Bool
  trunc  : Bool
  poison : Bool
  cell   : Nat
  data   : List Byte
  deriving DecidableEq, Repr, Inhabited

/-- A head read that stalls on an empty queue (R375): the slot of a lane for which the MAC scheduler made it. -/
structure HeadRead where
  lane : Nat
  asn  : Nat
  slot : Nat
  deriving DecidableEq, Repr, Inhabited

/-- One copy of a link entry (R371): the successor of the cell, none at the end of a chain, and whether the copy can be read. -/
structure LinkCopy where
  next : Option Nat
  good : Bool
  deriving DecidableEq, Repr, Inhabited

/-- The entry of a cell in the link memory: stored twice (R371, R381). -/
structure LinkEntry where
  copyA : LinkCopy
  copyB : LinkCopy
  deriving DecidableEq, Repr, Inhabited

/-- One queue with its counters (Table Peat-4). `reserved` holds the packets reserved and not committed: the draw of the first cell
and the cells charged (R373). `stalled` holds the head reads that wait, in the order in which they began. -/
structure PeatQueue where
  packets   : List PeatPacket
  reserved  : List (Nat × Nat)
  lost      : Bool
  stalled   : List HeadRead
  peak      : Nat
  committed : Nat
  refused   : Nat
  dropped   : Nat
  corrected : Nat
  poisoned  : Nat
  stallOut  : Nat
  deriving DecidableEq, Repr, Inhabited

/-- A mailbox read in service order (R382): the command and, while it waits, nothing taken yet. -/
structure MbxRead where
  cmd     : HostCmd
  mailbox : Nat
  maxPkts : Nat
  deriving DecidableEq, Repr, Inhabited

/-- Run state of the Peat pool, in no checkpoint. `links` is the link memory: the entries of the cells that packets hold, each under
the draw that gave its cell. -/
structure PeatRun where
  queues    : Tbl PeatQueue
  links     : Tbl LinkEntry
  minFree   : Nat
  corrected : Nat
  uncorrect : Nat
  truncated : Nat
  floorRef  : Nat
  orphans   : Nat
  scrubAt   : Nat
  belowWarn : Bool
  belowFloor : Bool
  reads     : List MbxRead
  deriving DecidableEq, Repr, Inhabited


/-! ### Wader capture (chapter 16) -/

/-- Settings of one capture port (CAPTURE.PORT). -/
structure PortSettings where
  source  : Nat
  repeated : Bool
  timing  : Bool
  decim   : Nat
  format  : Nat
  shift   : Nat
  mailbox : Nat
  mask    : Nat
  blocks  : Nat
  prePct  : Nat
  trgOut  : Bool
  n       : Nat
  levelThr : Int
  stepDb  : Nat
  stepWin : Nat
  wminNs  : Nat
  wmaxNs  : Nat
  pminUs  : Nat
  pmaxUs  : Nat
  pulses  : Nat
  measThr : Nat
  deriving DecidableEq, Repr, Inhabited

/-- Wader settings of the configuration in force (R396). -/
structure WaderSettings where
  ports    : List (Option PortSettings)
  rxEnable : Bool
  txEnable : Bool
  busId    : Nat
  delays   : List (Option Nat)
  deriving DecidableEq, Repr, Inhabited

/-- State of a capture port, with the codes of CAPTURE.STATUS. -/
inductive PortState where
  | unconfigured | idle | prefill | waiting | post | waitRoom | overflow
  deriving DecidableEq, Repr, Inhabited

/-- A trigger taken by a port (R388, R389): kinds, instants, fraction and marks. -/
structure TriggerRec where
  kinds  : Nat
  stb    : Option Nat
  mtbNs  : Nat
  fracPs : Nat
  drove  : Bool
  uncal  : Bool
  deriving DecidableEq, Repr, Inhabited

/-- A sealed record: its bytes (Table Wader-5 and samples) and how much has been committed (R394). -/
structure CapRecord where
  seq   : Nat
  bytes : List Byte
  sent  : Nat
  deriving DecidableEq, Repr, Inhabited

/-- Run state of one port. -/
structure PortRun where
  state   : PortState
  d       : Nat
  reduced : Bool
  trigger : Option TriggerRec
  sealedNo : Nat
  lastSeq : Nat
  records : List CapRecord
  ignored : Nat
  ignoredRec : Nat
  lastEnd : Option Nat
  deriving DecidableEq, Repr, Inhabited

/-- A calibration in progress (R392): readings in ps. -/
structure CalRun where
  cmd      : HostCmd
  master   : Bool
  pulses   : Nat
  driven   : Nat
  readings : List Nat
  peer     : Nat
  deriving DecidableEq, Repr, Inhabited

/-- Run state of Wader, in no checkpoint. `driven` counts bus edges driven; `calWait` are the SYNC_CAL
commands that wait for the calibration in progress (R99). -/
structure WaderRun where
  ports    : List PortRun
  seq      : Nat
  edges    : Nat
  lastEdge : Option Nat
  driven   : Nat
  cal      : Option CalRun
  calWait  : List HostCmd
  turn     : Nat
  deriving DecidableEq, Repr, Inhabited


/-! ### Site federation (chapter 17) -/

/-- Settings of one site port (FED.PORT). -/
structure SitePort where
  enable   : Bool
  mode     : Nat
  v4Prefix : Nat
  ipv4     : List Byte
  gw4      : List Byte
  v6Prefix : Nat
  udpPort  : Nat
  ipv6     : List Byte
  gw6      : List Byte
  deriving DecidableEq, Repr, Inhabited

/-- A peer entry (FED.PEER); its key is the controller identifier. -/
structure PeerSettings where
  flags   : Nat
  ports   : Nat
  ip      : List Byte
  udpPort : Nat
  pubA    : List Byte
  pubB    : List Byte
  deriving DecidableEq, Repr, Inhabited

/-- Federation settings of the configuration in force (R421). -/
structure FedSettings where
  controller : Option Nat
  district   : Nat
  exports    : Nat
  site       : Nat
  ports      : List SitePort
  peers      : Tbl PeerSettings
  deriving DecidableEq, Repr, Inhabited

/-- State of a peering (R401, R404). -/
inductive PeerState where
  | absent | handshaking | live
  deriving DecidableEq, Repr, Inhabited

/-- A request not yet answered, repeated every 10 ms (R403). -/
structure FedRequest where
  txn  : Nat
  type : Nat
  body : List Byte
  sentAt : Nat
  deriving DecidableEq, Repr, Inhabited

/-- A kept response (R403). -/
structure FedResponse where
  txn  : Nat
  type : Nat
  body : List Byte
  deriving DecidableEq, Repr, Inhabited

/-- Run state of one peering. `seen` are the sequence numbers accepted below the highest. -/
structure PeerRun where
  state      : PeerState
  edition    : Nat
  keySend    : List Byte
  keyRecv    : List Byte
  seqSent    : Nat
  seqHigh    : Nat
  seen       : List Nat
  aligned    : Bool
  district   : Nat
  coordinator : Nat
  liveSet    : List Byte
  digest     : List Byte
  digestDiff : Bool
  mismatch   : Bool
  roundTrip  : Nat
  lostAt     : Option Nat
  requests   : List FedRequest
  responses  : List FedResponse
  transcript : List Byte
  ownNonce   : List Byte
  deriving DecidableEq, Repr, Inhabited

/-- Tentative windows held for a requester (R408, R409). -/
structure Tentative where
  peer    : Nat
  txn     : Nat
  windows : List (Nat × Window)
  deriving DecidableEq, Repr, Inhabited

/-- How far a handover has come at its source (Table Fed-3). -/
inductive HandoverStage where
  | offered | committed | unknown
  deriving DecidableEq, Repr, Inhabited

/-- A handover of a member at its source. -/
structure SourceHandover where
  node     : Nat
  target   : Nat
  txn      : Nat
  cmd      : Option HostCmd
  stage    : HandoverStage
  instant  : Nat
  deriving DecidableEq, Repr, Inhabited

/-- A member staged at the target of a handover: its new connection and what the offer tells of it. -/
structure TargetHandover where
  peer     : Nat
  txn      : Nat
  offer    : MemberOffer
  conn     : Conn
  instant  : Nat
  commit   : Bool
  deriving DecidableEq, Repr, Inhabited

/-- Handovers whose outcome is not settled, at source and target; they outlive a takeover (R415, R421). -/
structure HandoverCtl where
  sources : List SourceHandover
  targets : List TargetHandover
  deriving DecidableEq, Repr, Inhabited

/-- Run state of the federation, in no checkpoint. `siteStops` and `siteRels` are the pairs (origin, stop_no) seen, with the
MTB tick (R418). -/
structure FedRun where
  peers     : Tbl PeerRun
  nextTxn   : Nat
  tentative : List Tentative
  siteStops : List (Nat × Nat × Nat)
  siteRels  : List (Nat × Nat × Nat)
  disagree  : Bool
  discarded : Nat
  deriving DecidableEq, Repr, Inhabited


/-- Settings of REDUN.CONFIG (R441). -/
structure RedunSettings where
  periodMs : Nat
  eccMax   : Nat
  starveMax : Nat
  gnssFailS : Nat
  bistS    : Nat
  deriving DecidableEq, Repr, Inhabited

/-- A site key held by the configuration in force (R454). -/
structure SiteKey where
  keyId : Nat
  key   : List Byte
  switchAsn : Nat
  deriving DecidableEq, Repr, Inhabited

/-- Imported keys (R454, R458). `former` is the key discarded 64 superframes after a switch. -/
structure KeySettings where
  current : Option SiteKey
  next    : Option SiteKey
  former  : Option SiteKey
  signing : Option (List Byte)
  deriving DecidableEq, Repr, Inhabited

/-- The waveform of a transmission (R220, R221): MR-FSK in a mode of Table Radio-2 with its preamble; a non-HT PPDU with its
rate index, duplicated in both halves of a 40 MHz channel or not; an HT-mixed PPDU with its MCS, its width and its guard
interval; or the calibration burst of R231. -/
inductive Wave where
  | fsk (mode preamble : Nat)
  | nonHt (rate : Nat) (dup : Bool)
  | ht (mcs : Nat) (wide short : Bool)
  | burst
  deriving DecidableEq, Repr, Inhabited

/-- The mesh extension (Table Mere-7). -/
structure MeshExt where
  ttl    : Nat
  origin : Nat
  mseq   : Nat
  deriving DecidableEq, Repr, Inhabited

/-- One frame sent on the air: lane, channel index, ASN, slot, frame type, node, frame counter, mesh extension, body octets and
edition (R241 to R249); its waveform, the transmit offset in ns by which it starts early (R230), the clock tick at which its last
sample leaves the antenna, and the octets of its PSDU before the FCS, header to MIC. -/
structure AirFrame where
  lane  : Nat
  chan  : Nat
  asn   : Nat
  slot  : Nat
  type  : Nat
  node  : Nat
  ctr   : Nat
  mesh  : Option MeshExt
  body  : List Byte
  edition : Nat := 0
  wave  : Wave := .burst
  lead  : Nat := 0
  ends  : Nat := 0
  psdu  : List Byte := []
  deriving DecidableEq, Repr, Inhabited

/-- One message sent on a site port: kind 1 a federation message to a peer with its type, header flags, sequence number and
txn (R402), kind 2 a datagram of a correction stream (R152), kind 3 a PTP message of a port, behind the address from which it comes, and kind 4
one that passes the transparent clock; both have their UDP checksum as flags, their Ethernet FCS as seq and their transport as txn. -/
structure SiteMsg where
  kind  : Nat
  peer  : Nat
  type  : Nat
  flags : Nat
  seq   : Nat
  txn   : Nat
  body  : List Byte
  deriving DecidableEq, Repr, Inhabited

/-! ### The checkpointed control state, checkpoints and the configuration store (chapters 03, 18, 20) -/

/-- The configuration in force (Table Reset-5). -/
structure Settings where
  gnss  : GnssSettings
  corr  : CorrSettings
  radio : RadioSettings
  mac : MacSettings
  sluice : SluiceSettings
  dyke : DykeSettings
  profile : ProfileSettings
  solver : SolverSettings
  sched : SchedSettings
  peat : PeatSettings
  wader : WaderSettings
  fed : FedSettings
  redun : RedunSettings
  keys  : KeySettings
  repeatMs : Nat
  deriving DecidableEq, Repr, Inhabited

/-- Every class that column HR of Table Reset-5 restores from a checkpoint (R422). -/
structure Control where
  cfg      : Settings
  timeCfg  : TimeSettings
  time     : TimeValues
  hot      : HotStart
  budget   : RadioBudget
  conns : Tbl Conn
  sluice : SluiceCtl
  dyke : DykeCtl
  filters : Tbl Filter
  handovers : HandoverCtl
  mode     : PowerMode
  gpioDir  : Nat
  gpioLvl  : Nat
  records  : List SessionRecord
  deriving DecidableEq, Repr, Inhabited

/-- One entry of a page map: a page of the image, its location in the checkpoint area and its GCM tag (Table Redun-1). -/
structure PageEntry where
  page : Nat
  loc  : Nat
  tag  : List Byte
  deriving DecidableEq, Repr, Inhabited

/-- A checkpoint (Table Redun-1): its commit record, with the page map and the tag that seals it, and the state image it carries.
`insts`: the instance of each session that was open at the cut; `run`: the run it belongs to. -/
structure Checkpoint where
  seq        : Nat
  epoch      : Nat
  prevSeq    : Nat
  noFallback : Bool
  final      : Bool
  first      : Bool
  pages      : Nat
  image      : Nat
  snapMtb    : Nat
  sealMtb    : Nat
  snapClock  : Nat
  asn        : Nat
  floors     : List Nat
  lists      : List (List TagEntry)
  run        : Nat
  format     : Nat
  insts      : List (Option Nat)
  pageMap    : List PageEntry
  mapHash    : List Byte
  tag        : List Byte
  ctl        : Control
  deriving DecidableEq, Repr, Inhabited

/-- The checkpoint area of a side: the newest committed checkpoint and the one before it, with the clock instant
of each commit (R424, R425). -/
structure CkptArea where
  newest    : Option Checkpoint
  newestAt  : Nat
  previous  : Option Checkpoint
  prevAt    : Nat
  deriving DecidableEq, Repr, Inhabited

/-- One generation of the configuration store (R476): its blocks, the operating seconds and the clock at which the accounting
was written, and the format version of its blocks. -/
structure Generation where
  cfg      : Option (Settings × TimeSettings)
  hot      : Option HotStart
  budget   : Option RadioBudget
  budgetOp : Nat
  budgetAt : Nat
  format   : Nat
  deriving DecidableEq, Repr, Inhabited

/-- The configuration store of a side (R476). -/
structure ConfigStore where
  current   : Generation
  kept      : Option Generation
  dirSeq    : Nat
  freePages : Nat
  epoch     : Nat
  blocked   : Bool
  deriving DecidableEq, Repr, Inhabited

/-- One side: what it holds whatever its role (R14, Table Reset-5 rows of kind side). `suspect`: it has relinquished under a
self-diagnosis condition and not passed RESET.SIDE since (R428). -/
structure SideState where
  power     : PowerState
  mainOn    : Bool
  start     : Option StartRun
  startRec  : StartRecord
  bank33    : Bool
  recorder  : Recorder
  security  : SideSecurity
  firmware  : Firmware
  floor     : Nat
  staging   : Staging
  lock      : UpdateLock
  store     : ConfigStore
  ckpts     : CkptArea
  relCause  : Nat
  passed    : Bool
  suspect   : Bool
  deriving DecidableEq, Repr, Inhabited

/-- A planned handover in progress (R435). `waited`: R434's hold wait has ended. -/
structure HandoverRun where
  cmd      : HostCmd
  force    : Bool
  final    : Bool
  moving   : Nat
  posted   : Bool
  waited   : Bool
  deriving DecidableEq, Repr, Inhabited

/-- A self-test of the cores in progress (R364): the core whose turn it is, and whether it is out for its test. -/
structure BistRun where
  core : Nat
  out  : Bool
  deriving DecidableEq, Repr, Inhabited

/-- Run state of redundancy on the active side. `bist` is the self-test that runs over the cores. `due`: a snapshot waits for the transfer in progress (R423). `ckptCmds` and
`ckptCmdsOn` are the REDUN.CHECKPOINT commands that wait for the next and for the present transfer, and `resetWait` the RESET.SIDE
commands that wait for the one in progress (R99). `corrected` counts the single-bit errors corrected in each SRAM partition (Table Arch-4)
and then in each MRAM area (Table Arch-5) (R30). `relinquish` is the cause
being acted on, and `relSlots` the Sluice slots since. `installed` is the checkpoint of a handover restart. -/
structure RedunRun where
  running    : Bool
  firstDone  : Bool
  seq        : Nat
  period     : Nat
  due        : Bool
  transfer   : Option Checkpoint
  coversCmds : List (Nat × Nat)
  ckptCmds   : List HostCmd
  ckptCmdsOn : List HostCmd
  commits    : Nat
  lastPages  : Nat
  image      : Nat
  bistAt     : Nat
  bist       : Option BistRun
  corrected  : List Nat
  eccAt      : List Nat
  starveAt   : List Nat
  handover   : Option HandoverRun
  resetWait  : List HostCmd
  relinquish : Option Nat
  relSlots   : Nat
  hbAt       : Nat
  streamsOnce : Bool
  noNewCkpt  : Bool
  confirmFrom : Option Nat
  selfTestOk : Bool
  toldControl : Bool
  toldRequal : Bool
  installed  : Nat
  deriving DecidableEq, Repr, Inhabited

/-- Run state of the security core: the debug challenge that is valid (R457), and the MTB in ns at which the side learned of
each side's tamper (SEC.TAMPER). -/
structure SecRun where
  challenge : Option (List Byte)
  learnedA  : Nat
  learnedB  : Nat
  deriving DecidableEq, Repr, Inhabited

/-- One performance counter (R491, R492). -/
structure Counter where
  value    : Nat
  sel      : Nat
  irq      : Bool
  qualKind : Nat
  qual     : Nat
  overflow : Bool
  deriving DecidableEq, Repr, Inhabited

/-- The performance counters of the active side (R491 to R494). -/
structure Counters where
  counters : List Counter
  frozen   : Bool
  snap     : List Nat
  snapMtb  : Nat
  deriving DecidableEq, Repr, Inhabited

/-- What the active side holds in no checkpoint. -/
structure Volatile where
  gnss  : GnssRun
  corr  : CorrRun
  time  : TimeRun
  radio : RadioRun
  mac : MacRun
  sluice : SluiceRun
  dyke : DykeRun
  solver : SolverRun
  sched : SchedRun
  peat : PeatRun
  wader : WaderRun
  fed : FedRun
  redun : RedunRun
  sec   : SecRun
  counters : Counters
  pendingMode : Option (PowerMode × HostCmd)
  deriving DecidableEq, Repr, Inhabited

/-! ### The host switch -/

/-- What the host switch keeps in non-volatile memory (R85, R454, R455, R467). -/
structure SwitchNv where
  epochMax   : Nat
  importCtr  : Nat
  tamperA    : Bool
  tamperB    : Bool
  firmware   : Firmware
  deriving DecidableEq, Repr, Inhabited

/-- One entry of the MSI-X table: message address, message data and mask bit (R112). -/
structure MsixEntry where
  addrLo : Nat
  addrHi : Nat
  data   : Nat
  masked : Bool
  deriving DecidableEq, Repr, Inhabited

/-- The host switch (R16, R17, chapter 04). `msixPba` holds a bit for each vector that is pending behind its mask bit. `supplyEvents` and `keyFaults` count since module power-on. `downWhy`: the
kind_detail of the next power-on; `wakeDue`: a wake that waits for the host switch's restart (R472); `runNo` numbers the
runs of R428, and `lastCause` is that of the last relinquishment. -/
structure HostSwitch where
  ready      : Bool
  alive      : Nat
  active     : Option SideId
  last       : SideId
  changes    : Nat
  strapBits  : Nat
  strapFault : Bool
  serving    : Bool
  epoch      : Nat
  irqCause   : BitVec 11
  irqMask    : BitVec 11
  msixTable  : List MsixEntry
  msixPba    : Nat
  ringErrCode : Nat
  ringErrSet : Nat
  ringErrCount : Nat
  ring0      : RingSet
  ring1      : RingSet
  mnt        : MntPort
  sessions   : List Session
  handoverN  : Bool
  pcieUp     : Bool
  perst      : Bool
  restarting : Bool
  resetHeld  : Bool
  warned     : Bool
  downWhy    : Nat
  wakeDue    : Bool
  restartDue : Bool
  supplyEvents : Nat
  keyFaults  : Nat
  runNo      : Nat
  lastCause  : Nat
  nv         : SwitchNv
  deriving DecidableEq, Repr, Inhabited

/-- The supplies: `vinUp` from a module power-on until the module powers down, `vinBelow` while VIN is below the shutdown
threshold. What no event states of the environment is a free value (Config.sense). -/
structure Env where
  vinUp    : Bool
  vinBelow : Bool
  vbatOk   : Bool
  deriving DecidableEq, Repr, Inhabited

/-- What the module has sent, in the order sent: MSI-X vectors, frames on the air, what the radio heads
are sent, site-port messages, pulses (clock
instants), the bytes that reads returned, the addresses of the SQ slots read, and the entries written to CQ slots with their
addresses (R90). The model's own record of outputs, which no rule reads. -/
structure Outputs where
  sqReads : List Nat
  cqWrites : List (Nat × Entry)
  msix : List Nat
  air  : List AirFrame
  head : List HeadOp
  site : List SiteMsg
  pps  : List PulseInfo
  reads : List (List Byte)
  deriving DecidableEq, Repr, Inhabited


end Sys2Proof.Machine
end

