-- ==== Sys2Proof/Machine/Defaults.lean ====
section
/-! DEFINITION.
The default settings (the values that the opcode tables name as default, and, where they name none, the values of
logs 2 and 3), the control state of a module start (Table Reset-5, column PO), the run state at main-domain power-up,
and the shipping state (R2).
-/

namespace Sys2Proof.Machine

/-! ### Settings that are in force while the configuration store is empty -/

def Notch.off : Notch := { mode := 0, offset := 0, width := 0, thresh := 0 }

def MonitorSettings.factory : MonitorSettings :=
  { blankThr := 100, hold := 2, agcDev := 60, flatMin := 900, blankMax := 50, persist := 1000, agcBase := none }

def GnssSettings.factory : GnssSettings :=
  { epochRate := 10, elevMask := 5, assign := 0, obsDecim := 0, signalMask := 0x1FFFFE, pllBw := 100, fllBw := 50,
    dllBw := 50, pllOrder := 2, fllMode := 0, pinned := [], notches := List.replicate 4 (List.replicate 8 Notch.off),
    monitors := List.replicate 4 MonitorSettings.factory }

def StreamSettings.factory : StreamSettings :=
  { enable := false, msm := 4, msmPeriod := 1, constMask := 0, lanes := 0, stationId := 0, ports := 0, udpPort := 0,
    ip := List.replicate 16 0, p1005 := 0, p1006 := 10, p1008 := 10, p1033 := 10, p1230 := 10, ephCycle := 60,
    sigMask := 0 }

def CorrSettings.factory : CorrSettings :=
  { base := none, pending := none, run := none, iods := 0, baseSeq := 0,
    streams := List.replicate 5 StreamSettings.factory, setupId := 0, desc := [], serial := [], gloAlign := false,
    watchdog := { slipPct := 25, jumpMm := 20, mismatch := 3000, interfS := 0, holdoffS := 10, nbCheck := 50 },
    latched := 0 }

def PtpPortSettings.factory : PtpPortSettings :=
  { enable := false, delayMech := 0, oneStep := 0, logSync := 0, logAnn := 0, annTimeout := 2, logDelay := 0,
    txLat := 0, rxLat := 0, asym := 0 }

def TimeSettings.factory : TimeSettings :=
  { holdoverRef := 0, refOut := 1, ppsOut := true, ppsIn := false, ppsWidth := 100000, ppsDelay := 0, atbSlew := 1000,
    info := true, lockHold := 5,
    ptp := { mode := 0, profile := 0, domain := 0, ptbSource := 0, priority1 := 128, priority2 := 128, transport := 0,
             ports := List.replicate 2 PtpPortSettings.factory, servo := 100 },
    leapHost := none }

def LinkSettings.factory : LinkSettings :=
  { enable := false, mode := 0, spiMhz := 1, txMap := 0xE4, rxMap := 0xE4, polarity := 0, addrBits := 0, dataBits := 0,
    readPol := 0, asym := 0 }

def LaneSettings.factory : LaneSettings :=
  { enable := false, cls := 1, region := 1, centre := 0, phy := 0, preamble := 0, txPower := 0, antGain := 0,
    txFull := 0, rxFull := 0, reserve := 20, window := 3600, tune := List.replicate 8 0, channels := [0] }

def LaneOffsets.zero : LaneOffsets := { cable := 0, tx := 0, rx := 0 }

def RadioSettings.factory : RadioSettings :=
  { links := List.replicate 2 LinkSettings.factory, heads := List.replicate 2 (List.replicate 5 []), headsVer := 0,
    headsReq := (0, 0xFFFFFFFF), lanes := List.replicate 8 LaneSettings.factory, custom := [],
    offsA := List.replicate 8 LaneOffsets.zero, offsB := List.replicate 8 LaneOffsets.zero }

def MacSettings.factory : MacSettings :=
  { ctlNode := 0, editions := 7, poolLo := 1, poolHi := 0, defInterval := 50, defSup := 300, meshTtl := 3,
    lanes := List.replicate 8 none, provisions := [] }

def SluiceSettings.factory : SluiceSettings :=
  { lapseMs := 24, envAction := 0, envCat := 1, loopCat := 3, discCat := 2, diagCat := 2, confirmMs := 1000 }

def Graph.empty : Graph := { segs := [], juncs := [] }

def DykeSettings.factory : DykeSettings :=
  { originX := 0, originY := 0, originZ := 0, margin := 20, posTol := 500, spdTol := 500, offerS := 10, declineS := 60,
    maxCand := 16, live := Graph.empty, classes := [], members := [] }

def ProfileSettings.factory : ProfileSettings := { turnDwell := 500, restSpeed := 20, defRate := 10, rates := [] }

def SolverSettings.factory : SolverSettings :=
  { codeSigma := 300, phaseSigma := 30, qH := 250000, qV := 25000, qIono := 10, qTrop := 10, ratio := 300, minFix := 8,
    fixEpochs := 2, arElev := 15, exclMax := 2, tThr := 400, kH := 600, kV := 533, extrapMax := 1000, partWait := 40,
    members := [], nMin := 6, tileM := 1000, thrMm := 20, persist := 2, exclS := 60, clearS := 10, code3 := false, clear3 := false }

def SchedSettings.factory : SchedSettings := { affinityUs := 20, starveUs := 3000, outMask := 0 }

def PeatSettings.factory : PeatSettings := { queues := [], wmWarn := 16384, wmFloor := 8192 }

def WaderSettings.factory : WaderSettings :=
  { ports := List.replicate 4 none, rxEnable := false, txEnable := false, busId := 0,
    delays := List.replicate 32 none }

def SitePort.factory : SitePort :=
  { enable := false, mode := 0, v4Prefix := 0, ipv4 := List.replicate 4 0, gw4 := List.replicate 4 0, v6Prefix := 0,
    udpPort := 47520, ipv6 := List.replicate 16 0, gw6 := List.replicate 16 0 }

def FedSettings.factory : FedSettings :=
  { controller := none, district := 0, exports := 0, site := 0, ports := List.replicate 2 SitePort.factory, peers := [] }

def RedunSettings.factory : RedunSettings :=
  { periodMs := 100, eccMax := 4, starveMax := 1, gnssFailS := 0, bistS := 3600 }

def KeySettings.none : KeySettings := { current := .none, next := .none, former := .none, signing := .none }

def Settings.factory : Settings :=
  { gnss := GnssSettings.factory, corr := CorrSettings.factory, radio := RadioSettings.factory,
    mac := MacSettings.factory, sluice := SluiceSettings.factory, dyke := DykeSettings.factory,
    profile := ProfileSettings.factory, solver := SolverSettings.factory, sched := SchedSettings.factory,
    peat := PeatSettings.factory, wader := WaderSettings.factory, fed := FedSettings.factory,
    redun := RedunSettings.factory, keys := KeySettings.none, repeatMs := 1000 }

/-! ### The control state of a module start -/

/-- The controlled stop of R80: cause 1, scope all. Its number is log 4. -/
def Stop.start : Stop :=
  { no := 1, category := 1, cause := 1, targets := [], copies := 0, queuedNs := 0, members := [], confirmOver := false,
    reported := (0, 0, 0), spans := [], sentOn := [], site := none }

def SluiceCtl.start : SluiceCtl :=
  { grantMap := 0, withheld := [], stops := [Stop.start], stopSeq := 1, requal := [], statusDue := [], ckptSeq := 1 }

def DykeCtl.start (live : Graph) : DykeCtl :=
  { shadow := live, windows := [], copies := [], allots := [], profiles := [], tasks := [], nextTask := 0,
    nextOrder := 0 }

def HotStart.none : HotStart := { ephemerides := [], almanac := [], position := .none, stamp := .none }

/-- The record of a session after a module start: cause 4 (SESSION.TAGS). -/
def SessionRecord.moduleStart : SessionRecord := { epoch := 0, cause := 4, floor := 0, list := [] }

/-- The control state of a module start (Table Reset-5, column PO) on settings, hot-start data and accounting. -/
def Control.start (cfg : Settings) (timeCfg : TimeSettings) (hot : HotStart) (budget : RadioBudget) : Control :=
  { cfg := cfg, timeCfg := timeCfg, time := { stb := none, ptb := none, atb := none, atbOffsetSf := 0 }, hot := hot,
    budget := budget, conns := [], sluice := SluiceCtl.start, dyke := DykeCtl.start cfg.dyke.live, filters := [], handovers := ⟨[], []⟩,
    mode := .run, gpioDir := 0, gpioLvl := 0, records := List.replicate 4 SessionRecord.moduleStart }

def Control.factory : Control :=
  Control.start Settings.factory TimeSettings.factory HotStart.none { budgets := [], dfs := [] }

/-! ### Run state at main-domain power-up (Table Reset-5, rows with default) -/

def Monitor.start : Monitor :=
  { agc := 0, flat := 0, blanked := 0, causeMs := [0, 0, 0], clearMs := 0, causes := 0, flag := false, flagAt := 0 }

def GnssRun.start : GnssRun :=
  { rate := 10, cfgDue := false, searched := [], fen := false, burst := false, channels := [], notchAt := [], notchMoved := [], monitors := List.replicate 4 Monitor.start, map := none,
    epochCount := 0, epochs := [], sky := [], biasState := 0, biasMa := 0 }

/-- At a start the streams are withheld: too few satellites are in phase lock and, with none set, there is no base (R159). -/
def CorrRun.start (base : Option BasePos) : CorrRun :=
  { runAt := none, sigma := 0, fixAt := none, active := if base.isNone then 65 else 64, absent := 0, withheld := true,
    silent := true, neighbours := [], discarded := 0, dropped := 0, enabledAt := List.replicate 5 none,
    epochs := List.replicate 5 0, ephSent := List.replicate 5 [], moved := [], codes := [], codeFrom := none }

def PtpPort.start : PtpPort :=
  { state := .disabled, peerDelay := 0, bestGm := none, syncs := 0, pathDelay := 0, lastSync := none, waitSync := none,
    delayReq := none, pdelayReq := none, waitPdelay := none, foreign := [], announced := none, seqSync := 0, seqDelay := 0, seqPdelay := 0,
    seqAnn := 0 }

def TimeRun.start : TimeRun :=
  { state := .invalid, estErr := 0, entryErr := 0, enteredAt := 0, modelAt := 0, refInUse := 0, pending := none, cancelled := none,
    stepped := false, remaining := 0, syncRef := false, decoded := none, decodedBy := 0, rate := 0, rem := 0, slewRem := 0, atbRem := 0, nextRate := none, nextSlew := none,
    ptbLeft := 0, ptbRate := 0, ptbRem := 0,
    offsets := List.replicate 5 0, refCount := 0, refCal := none, timingOk := false, readySince := none, ppsInPs := 0, ppsInAt := none, pulses := [],
    ppsFrom := 0, ports := List.replicate 2 PtpPort.start, gmIdentity := [] }

def LinkRun.start : LinkRun :=
  { state := .down, restarts := 0, crcErrs := 0, latency := 0, resetN := false, alarmN := true, lock := false, cmd := none,
    waiting := [] }

def LaneRun.start : LaneRun := { phyErrs := 0, lbtDefs := 0, busy := [], busyAsn := 0, noise := [], rxAt := none }

def MacLane.start : MacLane :=
  { admitted := 0, refused := 0, beacons := 0, beaconsSkipped := 0, fcs := 0, mic := 0, stale := 0, order := 0,
    dups := 0, protocol := 0, skips := 0, seenDisc := 0, foreign := 0, join := none }

def MacRun.start : MacRun := { conns := [], lanes := List.replicate 8 MacLane.start, seen := [], mseq := 0 }

def SluiceRun.start : SluiceRun :=
  { state := .off, in0 := .unclassified, in1 := .unclassified, discSince := false, discStop := false, overflow := 0,
    overSquads := 0, status := [], grantCmds := [], reportAt := 0 }

def DykeRun.start : DykeRun :=
  { swap := none, swaps := 0, checks := [], conflicts := 0, failures := 0, told := [], pinDue := [], border := [],
    frames := [], positions := [], placed := [], idle := [] }

def SolverRun.start : SolverRun :=
  { runs := [], exclusions := [], tiles := [], anomalies := [], multi := [], stale := 0, bad := 0, timedOut := 0 }

def PrioCount.zero : PrioCount := { now := 0, peak := 0, hist := List.replicate 16 0 }

/-- The cores at a start, by the out-of-service mark. -/
def coresStart (outMask : Nat) : List WorkCore :=
  (List.range 16).map fun k =>
    { state := if outMask.testBit k then .out else .idle, busySince := 0, spans := [], cmds := [] }

def SchedRun.start (outMask : Nat) : SchedRun :=
  { flows := [], cores := coresStart outMask, timers := [], timersPeak := 0, refusals := 0, starvations := 0,
    prios := List.replicate 8 PrioCount.zero, nextItem := 0 }

/-- Cells of the pool (R371). -/
def poolCells : Nat := 131072

def PeatRun.start : PeatRun :=
  { queues := [], links := [], minFree := poolCells, corrected := 0, uncorrect := 0, truncated := 0, floorRef := 0, orphans := 0,
    scrubAt := 0, belowWarn := false, belowFloor := false, reads := [] }

/-- A port as configured, disarmed (R396). -/
def PortRun.start (p : Option PortSettings) : PortRun :=
  { state := match p with | some _ => .idle | none => .unconfigured, d := match p with | some q => q.decim | none => 0,
    reduced := false, trigger := none, sealedNo := 0, lastSeq := 0, records := [], ignored := 0, ignoredRec := 0,
    lastEnd := none }

def WaderRun.start (ports : List (Option PortSettings)) : WaderRun :=
  { ports := ports.map PortRun.start, seq := 0, edges := 0, lastEdge := none, driven := 0, cal := none, calWait := [], turn := 0 }

def FedRun.start : FedRun :=
  { peers := [], nextTxn := 1, tentative := [], siteStops := [], siteRels := [],
    disagree := false, discarded := 0 }

def RedunRun.start (period : Nat) : RedunRun :=
  { running := false, firstDone := false, seq := 0, period := period, due := false, transfer := none, coversCmds := [],
    ckptCmds := [], ckptCmdsOn := [], commits := 0, lastPages := 0, image := 0, bistAt := 0, bist := none, corrected := [], eccAt := [], starveAt := [],
    handover := none, resetWait := [], relinquish := none, relSlots := 0, hbAt := 0, streamsOnce := false, noNewCkpt := false,
    confirmFrom := none, selfTestOk := false, toldControl := true, toldRequal := true,
    installed := 0 }

def Counter.zero : Counter := { value := 0, sel := 0, irq := false, qualKind := 0, qual := 0, overflow := false }

def Counters.start : Counters :=
  { counters := List.replicate 64 Counter.zero, frozen := false, snap := List.replicate 64 0, snapMtb := 0 }

/-- What the active side holds in no checkpoint, when its main domains have powered up with settings in force. -/
def Volatile.startWith (cfg : Settings) : Volatile :=
  { gnss := { GnssRun.start with rate := cfg.gnss.epochRate }, corr := CorrRun.start cfg.corr.base, time := TimeRun.start,
    radio := { links := List.replicate 2 LinkRun.start, lanes := List.replicate 8 LaneRun.start },
    mac := MacRun.start, sluice := SluiceRun.start, dyke := DykeRun.start, solver := SolverRun.start,
    sched := SchedRun.start cfg.sched.outMask, peat := PeatRun.start, wader := WaderRun.start cfg.wader.ports,
    fed := FedRun.start, redun := RedunRun.start cfg.redun.periodMs,
    sec := { challenge := none, learnedA := 0, learnedB := 0 }, counters := Counters.start, pendingMode := none }

def Volatile.start : Volatile := Volatile.startWith Settings.factory

/-! ### The shipping state (R2) -/

def SlotImage.empty : SlotImage :=
  { valid := false, version := 0, secVersion := 0, ckWrite := 0, ckReadLo := 0, ckReadHi := 0, reqHeadsLo := 0,
    reqHeadsHi := 0, reqSideLo := 0, reqSideHi := 0, reqSwitchLo := 0, reqSwitchHi := 0, image := [] }

/-- The factory image of a side (0, 1) or of the host switch (2). -/
def SlotImage.factory (k : Nat) : SlotImage :=
  { valid := true, version := (Config.factoryVersion k).toNat, secVersion := 0,
    ckWrite := (Config.factoryCk k).1.toNat, ckReadLo := (Config.factoryCk k).2.1.toNat,
    ckReadHi := (Config.factoryCk k).2.2.toNat, reqHeadsLo := 0, reqHeadsHi := 0xFFFFFFFF, reqSideLo := 0,
    reqSideHi := 0xFFFFFFFF, reqSwitchLo := 0, reqSwitchHi := 0xFFFFFFFF, image := Config.factoryImage k }

def Firmware.factory (k : Nat) : Firmware :=
  { slot0 := SlotImage.factory k, slot1 := SlotImage.empty,
    flagsA := { seq := 1, active := 0, trialSlot := 0, trial := .none },
    flagsB := { seq := 0, active := 0, trialSlot := 0, trial := .none }, running := 0 }

def Generation.empty : Generation := { cfg := none, hot := none, budget := none, budgetOp := 0, budgetAt := 0, format := 0 }

/-- An empty configuration store: 8 MiB in pages of 4 KiB (Table Arch-5, R476), less the two directory pages (log 5). -/
def ConfigStore.empty : ConfigStore :=
  { current := Generation.empty, kept := none, dirSeq := 0, freePages := 2046, epoch := 0, blocked := false }

def TamperRecord.clear (st : TamperState) : TamperRecord :=
  { state := st, sensors := 0, temp := 0, vbat := 0, sideState := 0, keyOp := 0, powerCycles := 0, opSeconds := 0,
    aonTicks := 0 }

/-- A copy of the counter block (R484). The CRC covers its fields in this order, little-endian. DESIGN CHOICE (log 147). -/
def CounterCopy.write (seq ops cycles : Nat) : CounterCopy :=
  { saveSeq := seq, opSeconds := ops, powerCycles := cycles, crc := crc32c (leBytes 4 seq ++ leBytes 4 ops ++ leBytes 4 cycles) }

/-- The copy verifies (R30, R484). -/
def CounterCopy.ok (c : CounterCopy) : Bool := c == CounterCopy.write c.saveSeq c.opSeconds c.powerCycles

/-- The recorder at T0 of the first module power-on: the power-cycle count has been raised and saved (R484). -/
def Recorder.factory : Recorder :=
  { ring := [], head := 0, openRec := none, journalA := none, journalB := none, thisSecond := 0, secondAt := 0, dropped := 0,
    droppedTotal := 0, repaired := 0, heldEvents := [], notHeld := 0, opSeconds := 0, powerCycles := 1,
    copyA := CounterCopy.write 1 0 1, copyB := CounterCopy.write 0 0 0 }

def CkptArea.empty : CkptArea := { newest := none, newestAt := 0, previous := none, prevAt := 0 }

def Staging.empty : Staging :=
  { manifest := none, blocks := [], partialBlk := [], applying := [], results := [], activated := [],
    headsImage := [], confirmS := 0 }

def SideSecurity.factory : SideSecurity :=
  { record := TamperRecord.clear .shipping, crownValid := true, pairing := true, radioStore := true,
    otherStores := true, attestCount := 0, debugOpen := false }

/-- A module start of a side from its boot ROM stage. -/
def StartRun.module (t0 : Nat) : StartRun :=
  { kind := .module, stage := .bootRom, t0 := t0, slot := 0, fallback := false, trial := false, cmd := none }

def StartRecord.begin (kind detail : Nat) : StartRecord :=
  { kind := kind, kindDetail := detail, slot := 0, stageMs := List.replicate 6 0xFFFF, result := 0 }

/-- A side in the shipping state at T0; `starts` when it is the strapped side. -/
def SideState.factory (k : Nat) (starts : Bool) : SideState :=
  { power := .standbyCold, mainOn := false, start := if starts then some (StartRun.module 0) else none,
    startRec := StartRecord.begin 1 0, bank33 := false, recorder := Recorder.factory,
    security := SideSecurity.factory, firmware := Firmware.factory k, floor := 0, staging := Staging.empty,
    lock := { held := false, session := 0, hostId := 0 }, store := ConfigStore.empty, ckpts := CkptArea.empty,
    relCause := 0, passed := false, suspect := false }

/-- A ring set at its reset values (Tables Host-15 to Host-19). -/
def RingSet.resetValue : RingSet :=
  { sqBaseLo := 0, sqBaseHi := 0, cqBaseLo := 0, cqBaseHi := 0, sqOrder := 4, cqOrder := 4, enable := false,
    sqTail := 0, sqHead := 0, cqTail := 0, cqHead := 0, timerUs := 0, count := 1, unsignalled := 0,
    timerRuns := false, cq := [], held := [], lost := false }

def MntPort.start : MntPort := { held := [], waiting := [], lost := false, crcErr := false, short := false }

def Session.closed (via : Transport) : Session :=
  { isOpen := false, via := via, edition := 0, hostId := 0, inst := 0, lastSeq := 0, openEpoch := 0, inFlight := [],
    effects := [] }

/-- The four sessions, none open (Table Host-1). -/
def sessionsStart : List Session :=
  [Session.closed .ring0, Session.closed .ring1, Session.closed .site2, Session.closed .site3]

/-- The MSI-X table of 32 vectors after a reset of the function: every vector masked. PRESUMED from the PCIe standard (log 139). -/
def msixReset : List MsixEntry := List.replicate 32 ⟨0, 0, 0, true⟩

/-- The host switch at T0 of the first module power-on, with straps that select Side A (Table Reset-2). -/
def HostSwitch.factory : HostSwitch :=
  { ready := false, alive := 0, active := some .a, last := .a, changes := 0, strapBits := 1, strapFault := false,
    serving := false, epoch := 0, irqCause := 0, irqMask := 0, msixTable := msixReset, msixPba := 0, ringErrCode := 0, ringErrSet := 0,
    ringErrCount := 0, ring0 := RingSet.resetValue, ring1 := RingSet.resetValue, mnt := MntPort.start,
    sessions := sessionsStart, handoverN := false, pcieUp := false, perst := false, restarting := false, resetHeld := false,
    warned := false, downWhy := 0, wakeDue := false, restartDue := false, supplyEvents := 0, keyFaults := 0, runNo := 1, lastCause := 0,
    nv := { epochMax := 0, importCtr := 0, tamperA := false, tamperB := false, firmware := Firmware.factory 2 } }

/-- The carrier at reset: VIN and VBAT present. -/
def Env.factory : Env :=
  { vinUp := true, vinBelow := false, vbatOk := true }

def Outputs.none : Outputs := { sqReads := [], cqWrites := [], msix := [], air := [], head := [], site := [], pps := [], reads := [] }

end Sys2Proof.Machine
end

