-- ==== Sys2Proof/Machine/Operands.lean ====
section
/-! DEFINITION.
The parameters of every opcode: lengths (R105), reserved fields (R10) and ranges of a field's own value (R11), which
steps 1 and 4 of R103 check.
-/

namespace Sys2Proof.Machine

/-- What a parameter field accepts by its own value (R11). -/
inductive Accepts where
  /-- Any value. -/
  | any
  /-- A reserved field: zero, else ER_RESERVED at its first non-zero byte (R10). -/
  | res
  /-- An unsigned value from `lo` to `hi`. -/
  | rng (lo hi : Nat)
  /-- A signed value from `lo` to `hi`. -/
  | srng (lo hi : Int)
  /-- One of the values listed. -/
  | oneOf (l : List Nat)
  /-- A bit map whose row calls the bits outside `allowed` res.: ER_RESERVED at the first byte that holds one (R10). -/
  | bits (allowed : Nat)
  /-- A bit map whose Range column lists the bits `allowed` and whose row names no bit res.: a value with another bit lies
outside the range, ER_RANGE at the field (R11; DEDUCED, log 170). -/
  | set (allowed : Nat)
  /-- A condition on the field's bytes. -/
  | test (f : List Byte → Bool)

/-- A parameter field: offset, size and what it accepts. -/
structure PField where
  off  : Nat
  size : Nat
  ok   : Accepts

/-- The lengths an opcode accepts (R105). -/
inductive PLen where
  | fixed (n : Nat)
  | between (lo hi : Nat)

/-- The parameter layout of an opcode. `need` is the length that a count or length field requires, when that field
lies within its own range (R105, part 2); `fields` are in offset order. -/
structure Layout where
  len    : PLen
  need   : List Byte → Option Nat
  fields : List Byte → List PField

/-- A layout of fixed length. -/
def fixedLayout (n : Nat) (fs : List PField) : Layout := ⟨.fixed n, fun _ => none, fun _ => fs⟩

/-- `n` fields of one shape, `stride` bytes apart. -/
def repFields (n stride : Nat) (f : Nat → List PField) : List PField :=
  (List.range n).flatMap fun k => f (k * stride)


/-! The curve P-384 (its constants and the compressed form of a point are PRESUMED from the named standard, log 17) -/

/-- The prime of P-384. -/
def p384Prime : Nat := 2 ^ 384 - 2 ^ 128 - 2 ^ 96 + 2 ^ 32 - 1

/-- The constant b of P-384. -/
def p384B : Nat := 0xB3312FA7E23EE7E4988E056BE3F82D19181D9C6EFE8141120314088F5013875AC656398D8A2ED19D2A85C8EDD3EC2AEF

/-- A power modulo the prime of P-384, for an exponent below 2^384. -/
def p384Pow (x e : Nat) : Nat :=
  (List.range 384).foldl (fun r k => r * r % p384Prime * (if e.testBit (383 - k) then x else 1) % p384Prime) 1

/-- Whether 49 bytes are a compressed point of P-384: a sign byte 2 or 3, and x, most significant byte first, below the prime
with x^3 - 3x + b a square. -/
def p384Point (bs : List Byte) : Bool :=
  let x := leNat (bs.drop 1).reverse
  let y2 := (x * x % p384Prime * x + (p384Prime - 3) * x + p384B) % p384Prime
  bs.length == 49 && (bs.head? == some 2 || bs.head? == some 3) && decide (x < p384Prime) &&
    (y2 == 0 || p384Pow y2 ((p384Prime - 1) / 2) == 1)
/-! Sessions (chapter 04), power and resets (chapters 02, 03) -/

def lay0101 : Layout := fixedLayout 8 [⟨0, 1, .rng 1 7⟩, ⟨1, 1, .res⟩, ⟨2, 2, .any⟩, ⟨4, 4, .res⟩]
def lay0102 : Layout := fixedLayout 0 []
def lay0103 : Layout := fixedLayout 4 [⟨0, 1, .rng 0 3⟩, ⟨1, 3, .res⟩]
def lay1401 : Layout := fixedLayout 4 [⟨0, 1, .rng 0 1⟩, ⟨1, 3, .res⟩]
def lay1402 : Layout := fixedLayout 0 []
def lay1410 : Layout := fixedLayout 4 [⟨0, 1, .rng 0 2⟩, ⟨1, 3, .res⟩]
def lay1420 : Layout := fixedLayout 0 []
def lay1421 : Layout := fixedLayout 8 [⟨0, 2, .any⟩, ⟨2, 2, .any⟩, ⟨4, 2, .any⟩, ⟨6, 2, .res⟩]

/-! GNSS (chapter 05) -/

def lay0201 : Layout := fixedLayout 16 [⟨0, 1, .oneOf [1, 2, 5, 10, 20]⟩, ⟨1, 1, .rng 0 30⟩, ⟨2, 1, .rng 0 1⟩,
  ⟨3, 1, .rng 0 20⟩, ⟨4, 4, .bits 0x1FFFFE⟩, ⟨8, 2, .rng 10 300⟩, ⟨10, 2, .rng 10 100⟩, ⟨12, 2, .rng 5 500⟩,
  ⟨14, 1, .rng 2 3⟩, ⟨15, 1, .rng 0 1⟩]

/-- GNSS.CHANNEL_SET: with action 0, offsets 3 to 19 are checked at step 5. -/
def lay0202 : Layout := ⟨.fixed 24, fun _ => none, fun ps =>
  [⟨0, 2, .rng 0 383⟩, ⟨2, 1, .rng 0 1⟩] ++
  (if fld ps 2 1 = 0 then [] else
    [⟨3, 1, .rng 1 20⟩, ⟨5, 1, .srng (-7) 6⟩, ⟨6, 1, .rng 1 127⟩, ⟨7, 1, .rng 2 128⟩,
     ⟨8, 1, .oneOf [1, 2, 4, 5, 10, 20, 40, 50, 100, 200]⟩, ⟨9, 1, .rng 2 3⟩, ⟨10, 1, .rng 0 3⟩, ⟨11, 1, .rng 0 1⟩,
     ⟨12, 1, .rng 0 2⟩, ⟨13, 1, .rng 0 1⟩, ⟨14, 2, .rng 10 300⟩, ⟨16, 2, .rng 10 100⟩, ⟨18, 2, .rng 5 500⟩]) ++
  [⟨20, 4, .res⟩]⟩

def lay0203 : Layout := fixedLayout 4 [⟨0, 2, .rng 0 383⟩, ⟨2, 2, .res⟩]
def lay0204 : Layout := fixedLayout 12 [⟨0, 1, .rng 0 3⟩, ⟨1, 1, .rng 0 7⟩, ⟨2, 1, .rng 0 2⟩, ⟨3, 1, .res⟩,
  ⟨8, 2, .rng 10 2000⟩, ⟨10, 2, .rng 30 400⟩]

/-- GNSS.MONITOR: with op 0, offsets 2 to 13 are checked at step 5. -/
def lay0205 : Layout := ⟨.fixed 16, fun _ => none, fun ps =>
  [⟨0, 1, .oneOf [0, 1, 2, 3, 0xFF]⟩, ⟨1, 1, .rng 0 2⟩] ++
  (if fld ps 1 1 = 0 then [⟨5, 1, .res⟩] else
    [⟨2, 2, .rng 30 200⟩, ⟨4, 1, .rng 0 10⟩, ⟨5, 1, .res⟩, ⟨6, 2, .rng 10 200⟩, ⟨8, 2, .rng 500 999⟩,
     ⟨10, 2, .rng 1 500⟩, ⟨12, 2, .rng 100 10000⟩]) ++ [⟨14, 2, .res⟩]⟩

/-- GNSS.MPMAP: count is 1 to 48, or 0 when action is 0, which is checked at step 5. -/
def lay0206 : Layout := ⟨.between 8 104,
  fun ps => let n := fld ps 2 1
    if n ≤ 48 then some (8 + 2 * n) else none,
  fun ps =>
  [⟨0, 1, .rng 0 1⟩, ⟨1, 1, .rng 1 12⟩, ⟨2, 1, if fld ps 0 1 = 0 then .rng 0 48 else .rng 1 48⟩, ⟨3, 1, .res⟩,
   ⟨4, 2, .rng 1 3600⟩, ⟨6, 2, .res⟩] ++ repFields (fld ps 2 1) 2 fun o => [⟨8 + o, 2, .rng 0 383⟩]⟩
def lay0207 : Layout := fixedLayout 0 []

/-! Corrections (chapter 06) -/

/-- CORR.BASE: the fields that a source does not use must be zero, checked at step 5 (they depend on source). -/
def lay0301 : Layout := ⟨.fixed 48, fun _ => none, fun ps =>
  [⟨0, 1, .rng 0 2⟩, ⟨1, 1, .rng 0 63⟩, ⟨2, 2, .res⟩, ⟨30, 2, .res⟩] ++
  (if fld ps 0 1 = 1 then [⟨32, 4, .rng 60 86400⟩, ⟨40, 2, .rng 1 10000⟩] else []) ++
  (if fld ps 0 1 = 2 then [⟨42, 2, .rng 0 4095⟩, ⟨44, 2, .rng 10 3600⟩] else []) ++ [⟨46, 2, .res⟩]⟩

/-- CORR.STREAM; the ranges that depend on the stream number are checked at step 5. -/
def lay0302 : Layout := fixedLayout 48 [⟨0, 1, .rng 0 4⟩, ⟨1, 1, .rng 0 1⟩, ⟨2, 1, .oneOf [0, 4, 7]⟩, ⟨3, 1, .rng 1 20⟩,
  ⟨4, 1, .rng 1 0x1F⟩, ⟨5, 1, .any⟩, ⟨6, 2, .rng 0 4095⟩, ⟨8, 1, .rng 0 7⟩, ⟨9, 1, .res⟩, ⟨10, 2, .any⟩,
  ⟨12, 16, .any⟩, ⟨28, 2, .rng 0 600⟩, ⟨30, 2, .rng 0 600⟩, ⟨32, 2, .rng 0 600⟩, ⟨34, 2, .rng 0 600⟩,
  ⟨36, 2, .rng 0 600⟩, ⟨38, 2, .test fun bs => leNat bs = 0 || (10 ≤ leNat bs && leNat bs ≤ 600)⟩,
  ⟨40, 4, .bits 0x1FFFFE⟩, ⟨44, 4, .res⟩]

/-- CORR.DESCRIPTOR: the characters within each length, and reserved bytes beyond it. -/
def lay0303 : Layout := ⟨.fixed 68, fun _ => none, fun ps =>
  [⟨0, 1, .any⟩, ⟨1, 1, .rng 0 31⟩, ⟨2, 1, .rng 0 31⟩, ⟨3, 1, .rng 0 1⟩] ++
  ((List.range 32).map fun k => ⟨4 + k, 1, if k < fld ps 1 1 then .rng 0x20 0x7E else .res⟩) ++
  ((List.range 32).map fun k => ⟨36 + k, 1, if k < fld ps 2 1 then .rng 0x20 0x7E else .res⟩)⟩

/-- CORR.WATCHDOG: with op 0 or 2, offsets 1 to 13 are checked at step 5. -/
def lay0304 : Layout := ⟨.fixed 16, fun _ => none, fun ps =>
  [⟨0, 1, .rng 0 2⟩] ++
  (if fld ps 0 1 = 1 then [⟨1, 1, .rng 5 100⟩, ⟨2, 2, .rng 5 1000⟩, ⟨4, 4, .rng 500 100000⟩, ⟨8, 2, .rng 0 600⟩,
    ⟨10, 2, .rng 1 600⟩, ⟨12, 2, .test fun bs => leNat bs = 0 || (10 ≤ leNat bs && leNat bs ≤ 1000)⟩] else []) ++
  [⟨14, 2, .res⟩]⟩
def lay0305 : Layout := fixedLayout 0 []
def lay0306 : Layout := ⟨.between 10 4064,
  fun ps => let n := fld ps 0 2
    if 6 ≤ n ∧ n ≤ 4060 then some (4 + n) else none,
  fun _ => [⟨0, 2, .rng 6 4060⟩, ⟨2, 2, .res⟩]⟩

/-! Solver (chapter 07) -/

def lay0401 : Layout := fixedLayout 32 [⟨0, 2, .rng 10 5000⟩, ⟨2, 2, .rng 10 500⟩, ⟨4, 4, .rng 1000 100000000⟩,
  ⟨8, 4, .rng 1000 100000000⟩, ⟨12, 2, .rng 0 10000⟩, ⟨14, 2, .rng 0 10000⟩, ⟨16, 2, .rng 150 1000⟩,
  ⟨18, 1, .rng 4 30⟩, ⟨19, 1, .rng 1 10⟩, ⟨20, 1, .rng 0 45⟩, ⟨21, 1, .rng 0 4⟩, ⟨22, 2, .rng 100 2500⟩,
  ⟨24, 2, .rng 300 1000⟩, ⟨26, 2, .rng 300 1000⟩, ⟨28, 2, .rng 0 1000⟩, ⟨30, 2, .rng 10 200⟩]

/-- SOLVER.MEMBER: with action 0, offsets 3 to 23 are checked at step 5. -/
def lay0402 : Layout := ⟨.fixed 24, fun _ => none, fun ps =>
  [⟨0, 2, .rng 1 0xFFFE⟩, ⟨2, 1, .rng 0 1⟩] ++
  (if fld ps 2 1 = 0 then [] else
    [⟨3, 1, .rng 0 1⟩, ⟨4, 1, .rng 0 4⟩, ⟨5, 1, .rng 1 4⟩, ⟨6, 1, .rng 0 20⟩, ⟨7, 1, .rng 0 100⟩,
     ⟨8, 4, .rng 10 10000⟩, ⟨12, 4, .rng 10 20000⟩, ⟨16, 2, .rng 0 2000⟩]) ++
  [⟨18, 2, .res⟩, ⟨20, 4, .bits 0x1FFFFE⟩]⟩
def lay0403 : Layout := ⟨.between 6 68,
  fun ps => let n := fld ps 0 1
    if 1 ≤ n ∧ n ≤ 32 then some (4 + 2 * n) else none,
  fun ps => [⟨0, 1, .rng 1 32⟩, ⟨1, 3, .res⟩] ++
    repFields (min 32 (fld ps 0 1)) 2 fun o => [⟨4 + o, 2, .rng 1 0xFFFE⟩]⟩
def lay0404 : Layout := fixedLayout 0 []
def lay0405 : Layout := fixedLayout 4 [⟨0, 2, .rng 1 0xFFFF⟩, ⟨2, 2, .res⟩]

/-- SOLVER.INTEGRITY: with op 0 or 2, offsets 1 to 11 are checked at step 5. -/
def lay0406 : Layout := ⟨.fixed 16, fun _ => none, fun ps =>
  [⟨0, 1, .rng 0 2⟩] ++
  (if fld ps 0 1 = 1 then
    [⟨1, 1, .rng 3 32⟩, ⟨2, 2, .rng 200 5000⟩, ⟨4, 2, .rng 5 500⟩, ⟨6, 1, .rng 1 10⟩, ⟨7, 1, .res⟩,
     ⟨8, 2, .rng 10 3600⟩, ⟨10, 2, .rng 1 600⟩] else [⟨7, 1, .res⟩]) ++
  [⟨12, 4, .res⟩]⟩

/-! Time (chapter 08) -/

def lay0501 : Layout := fixedLayout 16 [⟨0, 1, .rng 0 1⟩, ⟨1, 1, .rng 0 2⟩, ⟨2, 1, .rng 0 1⟩, ⟨3, 1, .rng 0 1⟩,
  ⟨4, 4, .rng 1 500000⟩, ⟨8, 4, .srng (-1000000) 1000000⟩, ⟨12, 2, .rng 100 10000⟩, ⟨14, 1, .rng 0 1⟩,
  ⟨15, 1, .rng 1 60⟩]

/-- The fields of one port in TIME.PTP_CONFIG. -/
def ptpPortFields (o : Nat) : List PField :=
  [⟨8 + o, 1, .rng 0 1⟩, ⟨9 + o, 1, .rng 0 1⟩, ⟨10 + o, 1, .rng 0 1⟩, ⟨11 + o, 1, .srng (-4) 1⟩, ⟨12 + o, 1, .rng 0 3⟩,
   ⟨13 + o, 1, .rng 2 10⟩, ⟨14 + o, 1, .srng (-4) 5⟩, ⟨15 + o, 1, .res⟩, ⟨16 + o, 2, .rng 0 2000⟩,
   ⟨18 + o, 2, .rng 0 2000⟩, ⟨20 + o, 4, .srng (-1000000) 1000000⟩]

def lay0502 : Layout := fixedLayout 44 ([⟨0, 1, .rng 0 4⟩, ⟨1, 1, .rng 0 1⟩,
  ⟨2, 1, .test fun bs => leNat bs ≤ 127 || leNat bs = 254⟩, ⟨3, 1, .rng 0 1⟩, ⟨4, 1, .any⟩, ⟨5, 1, .any⟩,
  ⟨6, 1, .rng 0 2⟩, ⟨7, 1, .res⟩] ++ ptpPortFields 0 ++ ptpPortFields 16 ++ [⟨40, 2, .rng 10 1000⟩, ⟨42, 2, .res⟩])
def lay0503 : Layout := fixedLayout 8 [⟨0, 1, .any⟩, ⟨1, 1, .any⟩, ⟨2, 6, .any⟩]
def lay0504 : Layout := fixedLayout 0 []
def lay0505 : Layout := fixedLayout 0 []

/-! Radio (chapter 09) -/

/-- RADIO.LINK_CONFIG: with enable 0, offsets 2 to 11 are checked at step 5. -/
def lay0601 : Layout := ⟨.fixed 16, fun _ => none, fun ps =>
  [⟨0, 1, .rng 0 1⟩, ⟨1, 1, .rng 0 1⟩] ++
  (if fld ps 1 1 = 0 then [] else
    [⟨2, 1, .rng 0 7⟩, ⟨3, 1, .rng 1 25⟩, ⟨7, 1, .rng 7 16⟩, ⟨8, 1, .oneOf [8, 16, 24, 32]⟩, ⟨9, 1, .rng 0 1⟩,
     ⟨10, 2, .srng (-1000) 1000⟩]) ++ [⟨12, 4, .res⟩]⟩
def lay0602 : Layout := ⟨.between 12 4060,
  fun ps => let n := fld ps 2 2
    if 1 ≤ n ∧ n ≤ 507 then some (4 + 8 * n) else none,
  fun _ => [⟨0, 1, .rng 0 1⟩, ⟨1, 1, .rng 0 4⟩, ⟨2, 2, .rng 1 507⟩]⟩

/-- RADIO.LANE_CONFIG; preamble depends on class, checked at step 5. -/
def lay0603 : Layout := ⟨.between 60 312,
  fun ps => let n := fld ps 10 1
    if 1 ≤ n ∧ n ≤ 64 then some (56 + 4 * n) else none,
  fun _ => [⟨0, 1, .rng 0 7⟩, ⟨1, 1, .rng 0 1⟩, ⟨2, 1, .rng 0 1⟩, ⟨3, 1, .rng 1 3⟩, ⟨8, 1, .rng 0 3⟩, ⟨10, 1, .rng 1 64⟩,
    ⟨11, 1, .res⟩, ⟨20, 2, .rng 10 500⟩, ⟨22, 2, .rng 60 3600⟩]⟩

def lay0604 : Layout := ⟨.between 20 516,
  fun ps => let n := fld ps 0 1
    if 1 ≤ n ∧ n ≤ 32 then some (4 + 16 * n) else none,
  fun ps => [⟨0, 1, .rng 1 32⟩, ⟨1, 3, .res⟩] ++ repFields (fld ps 0 1) 16 fun o =>
    [⟨4 + o, 4, .rng 863000 5850000⟩, ⟨12 + o, 1, .rng 0 15⟩, ⟨13 + o, 1, .rng 0 64⟩, ⟨16 + o, 2, .rng 1 65535⟩,
     ⟨18 + o, 1, .rng 0 60⟩, ⟨19 + o, 1, .rng 0 60⟩]⟩
def lay0605 : Layout := fixedLayout 16 [⟨0, 1, .rng 0 7⟩, ⟨1, 1, .rng 0 1⟩, ⟨2, 1, .rng 0 1⟩, ⟨3, 1, .res⟩,
  ⟨4, 2, .rng 0 5000⟩, ⟨6, 2, .res⟩, ⟨8, 4, .rng 0 100000⟩, ⟨12, 4, .rng 0 100000⟩]
def lay0606 : Layout := fixedLayout 4 [⟨0, 1, .rng 0 7⟩, ⟨1, 3, .res⟩]
def lay0607 : Layout := fixedLayout 4 [⟨0, 1, .rng 0 7⟩, ⟨1, 3, .res⟩]

/-! MAC (chapter 10) -/

/-- MAC.CONFIG: pool_hi depends on pool_lo and is checked at step 5 (R11). -/
def lay0701 : Layout := fixedLayout 16 [⟨0, 2, .rng 1 0xFFFE⟩, ⟨2, 1, .rng 1 7⟩, ⟨3, 1, .res⟩, ⟨4, 2, .rng 1 0xFFFE⟩, ⟨8, 2, .rng 1 4096⟩, ⟨10, 2, .rng 2 3200⟩, ⟨12, 1, .rng 1 15⟩, ⟨13, 3, .res⟩]

/-- MAC.LANE_MAC: base_rate and span depend on the lane's band class and are checked at step 5. -/
def lay0702 : Layout := fixedLayout 8 [⟨0, 1, .rng 0 7⟩, ⟨1, 1, .rng 0 1⟩, ⟨2, 1, .rng 4 64⟩, ⟨4, 1, .rng 0 63⟩, ⟨6, 2, .res⟩]

/-- MAC.PROVISION: the fields that depend on action are checked at step 4 (R11). -/
def lay0703 : Layout := ⟨.fixed 72, fun _ => none, fun ps =>
  let rem := fld ps 0 1 = 0
  let z (a : Accepts) : Accepts := if rem then .rng 0 0 else a
  let zs (off n : Nat) : List PField :=
    if rem then (List.range n).map fun k => ⟨off + k, 1, .rng 0 0⟩ else [⟨off, n, .res⟩]
  [⟨0, 1, .rng 0 1⟩] ++
  (if rem then (List.range 3).map (fun k => ⟨1 + k, 1, .rng 0 0⟩)
   else [⟨1, 1, .rng 1 3⟩, ⟨2, 2, .rng 0 0xFFFE⟩]) ++
  [⟨12, 1, z .any⟩, ⟨13, 1, z (.rng 1 255)⟩] ++
  (if rem then [⟨14, 1, .rng 0 0⟩, ⟨15, 1, .rng 0 0⟩] else [⟨14, 2, .rng 0 4095⟩]) ++
  [⟨16, 1, z (.set 3)⟩] ++ zs 17 3 ++
  (if rem then (List.range 49).map (fun k => ⟨20 + k, 1, .rng 0 0⟩) else [⟨20, 49, .test p384Point⟩]) ++
  zs 69 3⟩

/-- MAC.CONN_PARAM: latency, chan_map, relay_period and ttl depend on other fields or on state: step 5. -/
def lay0704 : Layout := fixedLayout 24 [⟨0, 2, .rng 1 0xFFFE⟩, ⟨2, 1, .rng 0 7⟩, ⟨4, 2, .rng 1 4096⟩, ⟨8, 2, .rng 2 3200⟩, ⟨10, 1, .rng 1 4⟩,
   ⟨11, 1, .oneOf ([0, 1, 2, 3, 4, 5, 6, 7, 8, 9, 10, 11, 12, 13, 14, 15] ++ [255])⟩, ⟨20, 1, .set 3⟩,
  ⟨23, 1, .res⟩]
def lay0705 : Layout := fixedLayout 4 [⟨0, 2, .any⟩, ⟨2, 2, .res⟩]
def lay0706 : Layout := fixedLayout 4 [⟨0, 2, .any⟩, ⟨2, 2, .res⟩]
def lay0707 : Layout := fixedLayout 4 [⟨0, 1, .rng 0 7⟩, ⟨1, 3, .res⟩]
def lay0708 : Layout := ⟨.between 5 204,
  fun ps => let n := fld ps 2 2
    if 1 ≤ n ∧ n ≤ 200 then some (4 + n) else none,
  fun _ => [⟨0, 2, .rng 1 0xFFFE⟩, ⟨2, 2, .rng 1 200⟩]⟩

/-! Sluice (chapter 11) -/

def lay0801 : Layout := fixedLayout 12 [⟨0, 1, .rng 8 200⟩, ⟨1, 1, .rng 0 3⟩, ⟨2, 1, .rng 1 3⟩, ⟨3, 1, .rng 1 3⟩,
  ⟨4, 1, .rng 1 3⟩, ⟨5, 1, .rng 1 3⟩, ⟨6, 2, .rng 100 10000⟩, ⟨8, 4, .res⟩]
def lay0802 : Layout := ⟨.between 36 100,
  fun ps => let n := fld ps 1 1
    if n ≤ 32 then some (36 + 2 * n) else none,
  fun ps => [⟨0, 1, .rng 0 3⟩, ⟨1, 1, .rng 0 32⟩, ⟨2, 2, .res⟩] ++
    repFields (min 32 (fld ps 1 1)) 2 fun o => [⟨36 + o, 2, .rng 1 0xFFFE⟩]⟩
/-- SLUICE.STOP: each node lies above the one before it, which is a condition on the field itself (R11, step 4). -/
def lay0803 : Layout := ⟨.between 4 68,
  fun ps => let n := fld ps 1 1
    if n ≤ 32 then some (4 + 2 * n) else none,
  fun ps => [⟨0, 1, .rng 1 3⟩, ⟨1, 1, .rng 0 32⟩, ⟨2, 2, .res⟩] ++
    repFields (min 32 (fld ps 1 1)) 2 fun o => [⟨4 + o, 2, .rng (if o = 0 then 1 else fld ps (2 + o) 2 + 1) 0xFFFE⟩]⟩
def lay0804 : Layout := fixedLayout 4 [⟨0, 1, .rng 0 1⟩, ⟨1, 1, .res⟩]
def lay0805 : Layout := fixedLayout 0 []

/-! Dyke, tasks and profiles (chapters 12 and 13) -/

def lay0901 : Layout := fixedLayout 40 [⟨24, 2, .rng 0 500⟩, ⟨26, 2, .rng 10 5000⟩, ⟨28, 2, .rng 0 5000⟩,
  ⟨30, 2, .rng 1 60⟩, ⟨32, 2, .rng 0 3600⟩, ⟨34, 1, .rng 1 64⟩, ⟨35, 5, .res⟩]
def lay0902 : Layout := fixedLayout 28 [⟨0, 1, .rng 0 63⟩, ⟨1, 1, .set 1⟩, ⟨2, 1, .rng 0 7⟩, ⟨3, 1, .res⟩,
  ⟨4, 4, .rng 0 100000⟩, ⟨8, 4, .rng 0 100000⟩, ⟨12, 2, .rng 100 10000⟩, ⟨14, 2, .rng 100 20000⟩,
  ⟨16, 2, .rng 10 10000⟩, ⟨18, 2, .rng 10 10000⟩, ⟨20, 2, .rng 10 20000⟩, ⟨22, 2, .rng 0 2000⟩,
  ⟨24, 4, .rng 10 100000⟩]
def lay0903 : Layout := fixedLayout 4 [⟨0, 2, .rng 1 0xFFFE⟩, ⟨2, 1, .test fun b => leNat b ≤ 63 || leNat b == 255⟩,
  ⟨3, 1, .res⟩]

/-- One entry of DYKE.GRAPH_EDIT at offset `o`. Ranges that depend on kind, op, n_conf or n_ends are checked at step 5; the
fields of a set entry carry their own ranges, and reserved fields and bits, those of absent ends included, are checked here
in either (R10, log 168). -/
def editFields (ps : List Byte) (o : Nat) : List PField :=
  let kind := fld ps o 1
  let op := fld ps (o + 1) 1
  [⟨o, 1, .rng 1 2⟩, ⟨o + 1, 1, .rng 0 1⟩] ++
  (if kind = 1 then [⟨o + 2, 2, .rng 0 0xFFFE⟩] else if kind = 2 then [⟨o + 2, 2, .rng 0 32767⟩] else []) ++
  (if op = 0 ∧ kind = 1 then
    [⟨o + 4, 2, .rng 0 32767⟩, ⟨o + 6, 2, .rng 0 32767⟩, ⟨o + 8, 4, .rng 100 10000000⟩,
     ⟨o + 12, 4, .srng (-1000000) 1000000⟩, ⟨o + 16, 2, .rng 100 20000⟩, ⟨o + 18, 1, .rng 0 7⟩,
     ⟨o + 19, 1, .set 0x0F⟩, ⟨o + 19, 1, .test fun b => leNat b % 4 ≤ 2⟩, ⟨o + 20, 1, .rng 0 127⟩,
     ⟨o + 21, 1, .rng 0 8⟩, ⟨o + 22, 2, .res⟩]
   else if op = 0 ∧ kind = 2 then
    let n := min 6 (fld ps (o + 12) 1)
    [⟨o + 12, 1, .rng 1 6⟩, ⟨o + 13, 1, .set 1⟩, ⟨o + 14, 2, .res⟩] ++
      repFields 6 1 (fun i => [⟨o + 28 + i, 1, .bits (if i < n then 2 ^ n - 1 else 0)⟩]) ++ [⟨o + 34, 6, .res⟩]
   else if op = 1 ∧ kind = 1 then [⟨o + 22, 2, .res⟩]
   else if op = 1 ∧ kind = 2 then [⟨o + 14, 2, .res⟩, ⟨o + 34, 6, .res⟩]
   else [])
def lay0904 : Layout := ⟨.between 44 4044,
  fun ps => let n := fld ps 0 1
    if 1 ≤ n ∧ n ≤ 101 then some (4 + 40 * n) else none,
  fun ps => [⟨0, 1, .rng 1 101⟩, ⟨1, 3, .res⟩] ++
    (List.range (min 101 (fld ps 0 1))).flatMap fun k => editFields ps (4 + 40 * k)⟩
def lay0905 : Layout := fixedLayout 4 [⟨0, 1, .rng 0 1⟩, ⟨1, 3, .res⟩]

/-- DYKE.RESERVE: the fields that depend on the entries or on the class are checked at step 5. -/
def lay0906 : Layout := ⟨.between 32 2072,
  fun ps => let n := fld ps 4 2
    if 1 ≤ n ∧ n ≤ 256 then some (24 + 8 * n) else none,
  fun ps => [⟨0, 2, .rng 1 0xFFFE⟩, ⟨2, 1, .set 1⟩, ⟨3, 1, .res⟩, ⟨4, 2, .rng 1 256⟩, ⟨22, 2, .rng 0 6000⟩] ++
    repFields (min 256 (fld ps 4 2)) 8 fun o => [⟨24 + o, 2, .rng 0 0xFFFE⟩, ⟨26 + o, 1, .rng 0 1⟩, ⟨27 + o, 1, .res⟩]⟩
def lay0907 : Layout := fixedLayout 4 [⟨0, 2, .rng 1 0xFFFE⟩, ⟨2, 1, .rng 0 1⟩, ⟨3, 1, .res⟩]
def lay0908 : Layout := fixedLayout 4 [⟨0, 1, .rng 0 2⟩, ⟨1, 1, .res⟩]
def lay0909 : Layout := fixedLayout 0 []
def lay0911 : Layout := fixedLayout 28 [⟨4, 2, .rng 0 0xFFFE⟩, ⟨6, 1, .rng 0 2⟩, ⟨7, 1, .rng 0 7⟩,
  ⟨12, 8, .rng 1 0xFFFFFFFFFFFFFFFF⟩, ⟨20, 4, .rng 0 2592000⟩, ⟨26, 2, .res⟩]
def lay0912 : Layout := fixedLayout 4 [⟨2, 1, .rng 0 1⟩, ⟨3, 1, .res⟩]
def lay0913 : Layout := fixedLayout 4 [⟨2, 2, .res⟩]
def lay0A01 : Layout := fixedLayout 8 [⟨0, 2, .rng 0 10000⟩, ⟨2, 2, .rng 1 200⟩, ⟨4, 1, .oneOf [10, 20, 25, 50]⟩,
  ⟨5, 3, .res⟩]
def lay0A02 : Layout := fixedLayout 4 [⟨0, 2, .rng 1 0xFFFE⟩, ⟨2, 1, .oneOf [0, 10, 20, 25, 50]⟩, ⟨3, 1, .res⟩]

/-- PROFILE.RETARGET: the fields that depend on the class or the segment are checked at step 5. -/
def lay0A03 : Layout := ⟨.between 20 148,
  fun ps => let n := fld ps 16 1
    if n ≤ 32 then some (20 + 4 * n) else none,
  fun ps => [⟨0, 2, .rng 1 0xFFFE⟩, ⟨8, 2, .rng 0 0xFFFE⟩, ⟨10, 2, .res⟩, ⟨16, 1, .rng 0 32⟩, ⟨17, 3, .res⟩] ++
    repFields (min 32 (fld ps 16 1)) 4 fun o => [⟨20 + o, 2, .rng 0 0xFFFE⟩, ⟨22 + o, 1, .rng 0 1⟩, ⟨23 + o, 1, .res⟩]⟩
def lay0A04 : Layout := fixedLayout 4 [⟨2, 2, .res⟩]

/-! Scheduler, queues, capture and federation (chapters 14 to 17) -/

def lay0B01 : Layout := fixedLayout 8 [⟨0, 2, .rng 0 100⟩, ⟨2, 2, .rng 500 20000⟩, ⟨4, 4, .res⟩]
def lay0B02 : Layout := fixedLayout 4 [⟨0, 1, .rng 0 15⟩, ⟨1, 1, .rng 0 1⟩, ⟨2, 2, .res⟩]
def lay0B03 : Layout := fixedLayout 4 [⟨0, 1, .rng 0 1⟩, ⟨1, 3, .res⟩]
def lay0B04 : Layout := fixedLayout 4 [⟨0, 1, .test fun b => leNat b ≤ 7 || leNat b == 255⟩, ⟨1, 1, .rng 0 1⟩,
  ⟨2, 2, .res⟩]
def lay0B05 : Layout := fixedLayout 8 [⟨0, 2, .rng 0 4095⟩, ⟨2, 2, .rng 1 254⟩, ⟨4, 1, .rng 0 1⟩, ⟨5, 3, .res⟩]
def lay0B06 : Layout := fixedLayout 4 [⟨0, 2, .rng 0 4095⟩, ⟨2, 2, .res⟩]

/-- Whether Table Peat-2 lists a queue. -/
def queueListed (q : Nat) : Bool :=
  decide (q ≤ 0x807) || (decide (0x810 ≤ q) && decide (q ≤ 0x813)) || q == 0x820 ||
  (decide (0x828 ≤ q) && decide (q ≤ 0x833)) || (decide (0x900 ≤ q) && decide (q ≤ 0x97F)) ||
  (decide (0xC00 ≤ q) && decide (q ≤ 0xC1C))
def lay0C01 : Layout := fixedLayout 12 [⟨0, 2, .test fun b => queueListed (leNat b)⟩, ⟨2, 2, .rng 1 4096⟩,
  ⟨4, 4, .rng 1 131072⟩, ⟨8, 2, .rng 0 10000⟩, ⟨10, 2, .res⟩]

/-- QUEUE.POOL: wm_floor depends on wm_warn and is checked at step 5. -/
def lay0C02 : Layout := fixedLayout 8 [⟨0, 4, .rng 1024 65536⟩]
def lay0C03 : Layout := fixedLayout 0 []
def lay0C04 : Layout := fixedLayout 8 [⟨0, 2, .rng 0 4095⟩, ⟨2, 2, .rng 1 64⟩, ⟨4, 1, .rng 0 1⟩, ⟨5, 3, .res⟩]
def lay0C05 : Layout := fixedLayout 4 [⟨0, 1, .rng 0 28⟩, ⟨1, 1, .rng 1 255⟩, ⟨2, 2, .rng 0 1000⟩]

/-- CAPTURE.PORT: fields of trigger kinds left unset, and wmax and pmax, are checked at step 5. -/
def lay0D01 : Layout := ⟨.fixed 48, fun _ => none, fun ps =>
  let m := fld ps 7 1
  [⟨0, 1, .rng 0 3⟩, ⟨1, 1, .oneOf [0, 1, 2, 3, 8, 9, 10, 11, 12, 13, 14, 15]⟩, ⟨2, 1, .rng 0 1⟩, ⟨3, 1, .rng 0 1⟩,
   ⟨4, 1, .rng 0 6⟩, ⟨5, 1, .test fun b => leNat b % 16 ≤ 1 && leNat b / 16 ≤ 8⟩, ⟨6, 1, .rng 0 28⟩,
   ⟨7, 1, .rng 1 0x1F⟩, ⟨8, 2, .rng 1 1024⟩, ⟨10, 1, .rng 0 75⟩, ⟨11, 1, .rng 0 1⟩,
   ⟨12, 4, .test fun b => 1024 ≤ leNat b && leNat b ≤ 1048576 && leNat b % 1024 == 0⟩] ++
  (if m.testBit 1 || m.testBit 3 then [⟨16, 2, .srng (-900) 0⟩] else []) ++
  (if m.testBit 2 then [⟨18, 2, .rng 10 400⟩, ⟨20, 4, .rng 1 100000⟩] else []) ++
  (if m.testBit 3 then [⟨24, 4, .rng 10 10000000⟩, ⟨32, 4, .rng 1 10000000⟩, ⟨40, 1, .rng 2 64⟩] else []) ++
  [⟨41, 1, .res⟩, ⟨42, 2, .rng 30 400⟩, ⟨44, 4, .res⟩]⟩
def lay0D02 : Layout := fixedLayout 4 [⟨0, 1, .set 0x0F⟩, ⟨1, 1, .rng 0 1⟩, ⟨2, 2, .res⟩]
def lay0D03 : Layout := fixedLayout 4 [⟨0, 1, .set 0x0F⟩, ⟨1, 1, .rng 0 1⟩, ⟨2, 2, .res⟩]

/-- CAPTURE.SYNC_CONFIG: trg_delay_ps is 0 when entry is 0xFF, checked at step 5. -/
def lay0D04 : Layout := fixedLayout 8 [⟨0, 1, .rng 0 1⟩, ⟨1, 1, .rng 0 1⟩, ⟨2, 1, .rng 0 31⟩,
  ⟨3, 1, .test fun b => leNat b ≤ 31 || leNat b == 255⟩,
  ⟨4, 4, .test fun b => leNat b ≤ 10000000 || leNat b == 0xFFFFFFFF⟩]
def lay0D05 : Layout := fixedLayout 4 [⟨0, 1, .rng 0 1⟩, ⟨1, 1, .rng 1 255⟩, ⟨2, 2, .rng 10 10000⟩]
def lay0D06 : Layout := fixedLayout 0 []
def lay0E01 : Layout := fixedLayout 8 [⟨0, 1, .rng 0 127⟩, ⟨1, 1, .rng 0 7⟩, ⟨2, 1, .set 0x0F⟩, ⟨3, 1, .res⟩]
def lay0E02 : Layout := fixedLayout 48 [⟨0, 1, .rng 0 1⟩, ⟨1, 1, .rng 0 1⟩, ⟨2, 1, .rng 0 2⟩, ⟨3, 1, .rng 0 32⟩,
  ⟨12, 1, .rng 0 128⟩, ⟨13, 1, .res⟩, ⟨14, 2, .rng 1024 65535⟩]
def lay0E03 : Layout := fixedLayout 124 [⟨0, 1, .rng 0 1⟩, ⟨1, 1, .rng 0 127⟩, ⟨2, 1, .set 7⟩, ⟨3, 1, .rng 1 3⟩,
  ⟨20, 2, .rng 1024 65535⟩, ⟨22, 2, .res⟩, ⟨24, 49, .test p384Point⟩, ⟨73, 49, .test p384Point⟩,
  ⟨122, 2, .res⟩]
def lay0E04 : Layout := fixedLayout 8 [⟨0, 2, .rng 1 0xFFFE⟩, ⟨2, 1, .rng 0 127⟩, ⟨3, 1, .rng 0 7⟩, ⟨5, 3, .res⟩]

/-- FED.SITE_STOP: category, origin and stop_no depend on op and are checked at step 5. -/
def lay0E05 : Layout := fixedLayout 8 [⟨0, 1, .rng 0 1⟩, ⟨1, 1, .rng 0 3⟩, ⟨2, 1, .rng 0 127⟩, ⟨3, 1, .res⟩,
  ⟨6, 2, .res⟩]
def lay0E06 : Layout := fixedLayout 0 []

/-! Redundancy, security, update, recorder and counters (chapters 18 to 21) -/

def lay0F01 : Layout := fixedLayout 12 [⟨0, 2, .rng 20 1000⟩, ⟨2, 1, .rng 1 64⟩, ⟨3, 1, .rng 1 16⟩, ⟨4, 2, .rng 0 3600⟩,
  ⟨6, 2, .res⟩, ⟨8, 4, .rng 600 86400⟩]
def lay0F02 : Layout := fixedLayout 4 [⟨0, 2, .rng 0 10000⟩, ⟨2, 1, .rng 0 1⟩, ⟨3, 1, .res⟩]
def lay0F03 : Layout := fixedLayout 0 []
def lay0F04 : Layout := fixedLayout 0 []
def lay0F05 : Layout := fixedLayout 0 []
def lay1001 : Layout := fixedLayout 32 [⟨0, 32, .any⟩]
def lay1002 : Layout := fixedLayout 0 []

/-- SEC.KEY_IMPORT; key_id and switch_asn depend on kind, and counter on device state: step 5. q_h's own condition is
a valid P-384 point (R11). -/
def lay1003 : Layout := fixedLayout 144 [⟨0, 1, .rng 1 2⟩, ⟨1, 1, .any⟩, ⟨2, 2, .res⟩, ⟨4, 4, .any⟩, ⟨8, 4, .any⟩,
  ⟨12, 4, .res⟩, ⟨16, 49, .test p384Point⟩, ⟨65, 3, .res⟩, ⟨68, 12, .any⟩, ⟨80, 48, .any⟩, ⟨128, 16, .any⟩]
def lay1004 : Layout := fixedLayout 0 []
def lay1005 : Layout := fixedLayout 100 [⟨0, 1, .rng 0 1⟩, ⟨1, 3, .res⟩, ⟨4, 96, .any⟩]

/-- The length of a manifest by its n_parts and n_blocks (Table Update-2), when both lie within their ranges. -/
def manifestLength (m : List Byte) : Option Nat :=
  let np := fld m 1 1
  let nb := fld m 2 2
  if 1 ≤ np ∧ np ≤ 3 ∧ 1 ≤ nb ∧ nb ≤ 63 then some (16 + 160 * np + 48 * nb + 96) else none

/-- UPDATE.BEGIN: op 1 has no manifest; op 0 has one of the length its n_parts and n_blocks give. -/
def lay1101 : Layout := ⟨.between 4 3620,
  fun ps => if fld ps 0 1 = 1 then some 4
    else if fld ps 0 1 = 0 then (manifestLength (ps.drop 4)).map (· + 4) else none,
  fun ps => [⟨0, 1, .rng 0 1⟩, ⟨1, 3, .res⟩] ++
    (if fld ps 0 1 = 0 then
      [⟨4, 1, .rng 1 1⟩, ⟨5, 1, .rng 1 3⟩, ⟨6, 2, .rng 1 63⟩, ⟨16, 4, .res⟩] ++
      repFields (min 3 (fld ps 5 1)) 160 fun o =>
        [⟨20 + o, 1, .rng 1 3⟩, ⟨21 + o, 3, .res⟩, ⟨46 + o, 6, .res⟩, ⟨172 + o, 8, .res⟩]
     else [])⟩
def lay1102 : Layout := ⟨.between 9 4008,
  fun ps => let n := fld ps 4 2
    if 1 ≤ n ∧ n ≤ 4000 then some (8 + n) else none,
  fun _ => [⟨4, 2, .rng 1 4000⟩, ⟨6, 2, .res⟩]⟩
def lay1103 : Layout := fixedLayout 4 [⟨0, 4, .res⟩]

/-- UPDATE.ACTIVATE: confirm_s is 0 for part 1, checked at step 5. -/
def lay1104 : Layout := ⟨.fixed 4, fun _ => none, fun ps =>
  [⟨0, 1, .rng 1 3⟩, ⟨1, 1, .res⟩] ++ (if fld ps 0 1 = 1 then [] else [⟨2, 2, .rng 60 3600⟩])⟩
def lay1105 : Layout := fixedLayout 4 [⟨0, 1, .rng 0 1⟩, ⟨1, 3, .res⟩]
def lay1106 : Layout := fixedLayout 0 []
def lay1110 : Layout := fixedLayout 0 []
def lay1201 : Layout := fixedLayout 8 [⟨0, 4, .any⟩, ⟨4, 1, .rng 1 62⟩, ⟨5, 3, .res⟩]
def lay1202 : Layout := fixedLayout 0 []
def lay1203 : Layout := fixedLayout 4 [⟨0, 2, .rng 0 60000⟩, ⟨2, 2, .res⟩]
def lay1204 : Layout := fixedLayout 24 [⟨0, 24, .any⟩]

/-- The selections of Table Rec-4, with the qualifier each takes: 0 none, 1 flow, 2 lane. -/
def counterEvents : List (Nat × Nat) :=
  [(0x0000, 0), (0x0001, 0), (0x0002, 0), (0x0101, 1), (0x0102, 1), (0x0103, 1), (0x0104, 0), (0x0201, 0), (0x0301, 0),
   (0x0401, 1), (0x0402, 0), (0x0501, 0), (0x0502, 0)] ++
  [(0x0601, 2), (0x0602, 2), (0x0603, 2), (0x0604, 2), (0x0701, 2), (0x0702, 2), (0x0801, 0), (0x0802, 0), (0x0901, 0),
   (0x0902, 0), (0x0A01, 0), (0x0B01, 0), (0x0C01, 0)]

def lay1301 : Layout := fixedLayout 8 [⟨0, 1, .rng 0 63⟩, ⟨1, 1, .rng 0 1⟩, ⟨2, 2, .oneOf (counterEvents.map (·.1))⟩,
  ⟨4, 1, .rng 0 2⟩, ⟨5, 1, .res⟩, ⟨6, 2, .rng 0 4095⟩]
def lay1302 : Layout := fixedLayout 16 [⟨0, 1, .rng 0 3⟩, ⟨1, 7, .res⟩, ⟨8, 8, .any⟩]
def lay1303 : Layout := fixedLayout 4 [⟨0, 1, .rng 0 63⟩, ⟨1, 1, .rng 1 64⟩, ⟨2, 1, .rng 0 2⟩, ⟨3, 1, .res⟩]

/-- The parameter layout of every opcode (Table Scope-5 families). -/
def layouts : List (Nat × Layout) :=
  [(0x0101, lay0101), (0x0102, lay0102), (0x0103, lay0103), (0x1401, lay1401), (0x1402, lay1402), (0x1410, lay1410), (0x1420, lay1420), (0x1421, lay1421), (0x0201, lay0201), (0x0202, lay0202), (0x0203, lay0203), (0x0204, lay0204), (0x0205, lay0205), (0x0206, lay0206), (0x0207, lay0207), (0x0301, lay0301), (0x0302, lay0302), (0x0303, lay0303), (0x0304, lay0304), (0x0305, lay0305)] ++
  [(0x0306, lay0306), (0x0401, lay0401), (0x0402, lay0402), (0x0403, lay0403), (0x0404, lay0404), (0x0405, lay0405), (0x0406, lay0406), (0x0501, lay0501), (0x0502, lay0502), (0x0503, lay0503), (0x0504, lay0504), (0x0505, lay0505), (0x0601, lay0601), (0x0602, lay0602), (0x0603, lay0603), (0x0604, lay0604), (0x0605, lay0605), (0x0606, lay0606), (0x0607, lay0607), (0x0701, lay0701)] ++
  [(0x0702, lay0702), (0x0703, lay0703), (0x0704, lay0704), (0x0705, lay0705), (0x0706, lay0706), (0x0707, lay0707), (0x0708, lay0708), (0x0801, lay0801), (0x0802, lay0802), (0x0803, lay0803), (0x0804, lay0804), (0x0805, lay0805), (0x0901, lay0901), (0x0902, lay0902), (0x0903, lay0903), (0x0904, lay0904), (0x0905, lay0905), (0x0906, lay0906), (0x0907, lay0907), (0x0908, lay0908)] ++
  [(0x0909, lay0909), (0x0911, lay0911), (0x0912, lay0912), (0x0913, lay0913), (0x0A01, lay0A01), (0x0A02, lay0A02), (0x0A03, lay0A03), (0x0A04, lay0A04), (0x0B01, lay0B01), (0x0B02, lay0B02), (0x0B03, lay0B03), (0x0B04, lay0B04), (0x0B05, lay0B05), (0x0B06, lay0B06), (0x0C01, lay0C01), (0x0C02, lay0C02), (0x0C03, lay0C03), (0x0C04, lay0C04), (0x0C05, lay0C05), (0x0D01, lay0D01)] ++
  [(0x0D02, lay0D02), (0x0D03, lay0D03), (0x0D04, lay0D04), (0x0D05, lay0D05), (0x0D06, lay0D06), (0x0E01, lay0E01), (0x0E02, lay0E02), (0x0E03, lay0E03), (0x0E04, lay0E04), (0x0E05, lay0E05), (0x0E06, lay0E06), (0x0F01, lay0F01), (0x0F02, lay0F02), (0x0F03, lay0F03), (0x0F04, lay0F04), (0x0F05, lay0F05), (0x1001, lay1001), (0x1002, lay1002), (0x1003, lay1003), (0x1004, lay1004)] ++
  [(0x1005, lay1005), (0x1101, lay1101), (0x1102, lay1102), (0x1103, lay1103), (0x1104, lay1104), (0x1105, lay1105), (0x1106, lay1106), (0x1110, lay1110), (0x1201, lay1201), (0x1202, lay1202), (0x1203, lay1203), (0x1204, lay1204), (0x1301, lay1301), (0x1302, lay1302), (0x1303, lay1303)]

/-- The layout of an opcode, none for an unknown opcode. -/
def layoutOf (opcode : Nat) : Option Layout := (layouts.find? fun e => e.1 == opcode).map (·.2)

/-- The length check of R105 at step 1 of R103: the detail word of ER_LENGTH, if refused. -/
def lengthError (l : Layout) (ps : List Byte) : Option Nat :=
  if 4064 < ps.length then some 0x00010006
  else
    match l.len with
    | .fixed n => if ps.length = n then none else some n
    | .between lo hi =>
      if ps.length < lo ∨ hi < ps.length then some (0xFFFF0000 + lo)
      else
        match l.need ps with
        | some n => if ps.length = n then none else some n
        | none => none

/-- Offset within `bs` of the first non-zero byte. -/
def firstNonZero (bs : List Byte) : Option Nat := bs.findIdx? fun b => b != 0

/-- The refusal that one field gives at step 4 of R103: status code and detail word. -/
def fieldError (ps : List Byte) (f : PField) : Option (Nat × Nat) :=
  let bs := (ps.drop f.off).take f.size
  let v := leNat bs
  match f.ok with
  | .any => none
  | .res => (firstNonZero bs).map fun i => (0x0103, f.off + i)
  | .rng lo hi => if lo ≤ v ∧ v ≤ hi then none else some (0x0104, f.off)
  | .srng lo hi =>
    let i := signed (8 * f.size) v
    if lo ≤ i ∧ i ≤ hi then none else some (0x0104, f.off)
  | .oneOf l => if l.contains v then none else some (0x0104, f.off)
  | .bits allowed =>
    (firstNonZero (leBytes f.size (v - (v &&& allowed)))).map fun i => (0x0103, f.off + i)
  | .set allowed => if v &&& allowed = v then none else some (0x0104, f.off)
  | .test p => if p bs then none else some (0x0104, f.off)

/-- Step 4 of R103: the first refusal in offset order. -/
def paramError (l : Layout) (ps : List Byte) : Option (Nat × Nat) := (l.fields ps).findSome? (fieldError ps)

/-- The fields from `lo` up to `hi` must be zero for the operation chosen: the offset of the first that is not,
refused with ER_RANGE at step 5 (R11). -/
def firstNonZeroField (ps : List Byte) (offs : List (Nat × Nat)) : Option Nat :=
  (offs.find? fun o => fld ps o.1 o.2 != 0).map (·.1)

end Sys2Proof.Machine
end

