-- ==== Sys2Proof/Machine/State.lean ====
section
/-! DEFINITION.
The state of the module with its queue of waiting commands; why a step can stop; and the module right after reset.
-/

namespace Sys2Proof.Machine

/-- The whole module. `clock` counts 1/1.6 GHz ticks since `State.reset`; MTB of the active side counts from
`mtbZero` (R193). `fresh` numbers the free values drawn so far, and is the model's own. -/
structure State where
  env     : Env
  hsw     : HostSwitch
  sideA   : SideState
  sideB   : SideState
  ctl     : Control
  vol     : Volatile
  out     : Outputs
  clock   : Nat
  mtbZero : Nat
  fresh   : Nat
  pending : List Instr
  deriving DecidableEq, Repr
/-- Why a step stops with a fault. No rule of the spec stops the module in this way. -/
inductive Fault where
  /-- Raised by nothing: the spec gives every command and event an effect (safe). -/
  | neverRaised
  deriving DecidableEq, Repr

/-- Why a step is refused by the model. -/
inductive Refusal where
  /-- Raised by an arm of exec whose meaning is not written yet (safe). -/
  | notModelled (mnemonic : String)
  deriving DecidableEq, Repr

/-- The module right after reset: T0 of its first module power-on in the shipping state of R2 (R68, R72). Log 1. -/
def State.reset : State :=
  { env := Env.factory
    hsw := HostSwitch.factory
    sideA := SideState.factory 0 true
    sideB := SideState.factory 1 false
    ctl := Control.factory
    vol := Volatile.start
    out := Outputs.none
    clock := 0
    mtbZero := 0
    fresh := 0
    pending := [] }

end Sys2Proof.Machine
end

