-- ==== Sys2Proof/Machine/Ops.lean ====
section
/-! DEFINITION.
The named operations that every family shares: sides and time, interrupts, the recorder and the counters, posting of
completions and messages, and the whole path of a command (R94 to R107, R121).
-/

namespace Sys2Proof.Machine

/-! ### Sides and time -/

def otherSide : SideId → SideId
  | .a => .b
  | .b => .a

/-- The number of a side: 0 Side A, 1 Side B. -/
def sideNo : SideId → Nat
  | .a => 0
  | .b => 1

def State.side (s : State) : SideId → SideState
  | .a => s.sideA
  | .b => s.sideB

def State.modSide (s : State) (x : SideId) (f : SideState → SideState) : State :=
  match x with
  | .a => { s with sideA := f s.sideA }
  | .b => { s with sideB := f s.sideB }

/-- The side that holds the active role or, with none, the one that held it last. -/
def State.actId (s : State) : SideId := s.hsw.active.getD s.hsw.last

def State.act (s : State) : SideState := s.side s.actId

def State.modAct (s : State) (f : SideState → SideState) : State := s.modSide s.actId f

/-- MTB ticks in a millisecond (R193). -/
def tickMs : Nat := 1600000

/-- MTB ticks in a second (R193). -/
def tickS : Nat := 1600000000

/-- MTB of the active side in ticks, from its main-domain power-up (R193). -/
def State.mtb (s : State) : Nat := s.clock - s.mtbZero

/-- MTB as reported, in ns: floor(ticks × 5 / 8) (R193). -/
def State.mtbNs (s : State) : Nat := s.mtb * 5 / 8

/-- Units of 2^-16 ns in one second (Table Time-2). -/
def unitS : Nat := 65536000000000

/-- Units of 2^-16 ns in 1 ns and in 1 ms. -/
def unitNs : Nat := 65536
def unitMs : Nat := 65536000000

/-- Units of 2^-16 ns in one MTB tick of 1/1.6 GHz. -/
def unitTick : Nat := 40960

/-- A value of time moved by `d`. -/
def moved (d : Int) (t : Option Nat) : Option Nat := t.map fun t => ((t : Int) + d).toNat

/-- What a slew takes of `left` in `n` ticks, at `rate` parts in `scale` of the time that passes, and the fraction that it has not yet
taken. -/
def takePart (n rate scale rem : Nat) (left : Int) : Int × Nat :=
  let t := n * unitTick * rate + rem
  let most : Int := (t / scale : Nat)
  (clampInt (-most) most left, if left = 0 then 0 else t % scale)

/-- What `n` ticks add to STB in 2^-16 ns: their nominal length and the rate that discipline set (R198), less what the slew of R200 takes at
100 ns/s; with the remainder of the rate. -/
def TimeRun.gain (r : TimeRun) (n : Nat) : Int × Int :=
  let g : Int := (n * unitTick : Nat) * r.rate + r.rem
  ((n * unitTick : Nat) + g / 1000000000000 - (takePart n 1 10000000 r.slewRem r.remaining).1, g % 1000000000000)

/-- ATB after `n` ticks: its TCXO-derived clock, with a correction towards STB, whole superframes apart, of at most atb_slew ns in
a second, and the fraction of the correction that it has not yet taken (R203, R204). -/
def atbAfter (n slew rem : Nat) (offsetSf : Int) (stb : Option Nat) (a : Nat) : Nat × Nat :=
  let free := a + n * unitTick
  match stb with
  | some b =>
    let k := takePart n slew 1000000000 rem ((b : Int) + offsetSf * 131072000000 - free)
    (((free : Int) + k.1).toNat, k.2)
  | none => (free, 0)

/-- Ticks of the TCXO-derived clocks pass: MTB, and those of STB, PTB and ATB that are valid, advance. STB runs at its own rate, PTB
with it while it is disciplined to it and else as its servo slews it, and ATB follows within its limit (R191, R198, R200, R203, R217). -/
def passTicks (n : Nat) (s : State) : State :=
  let r := s.vol.time
  let g := r.gain n
  let k := takePart n 1 10000000 r.slewRem r.remaining
  let p := takePart n r.ptbRate 1000000000000 r.ptbRem r.ptbLeft
  let stb := moved g.1 s.ctl.time.stb
  let air := s.ctl.time.atb.map (atbAfter n s.ctl.timeCfg.atbSlew r.atbRem s.ctl.time.atbOffsetSf stb)
  { s with
    clock := s.clock + n
    vol.time := { s.vol.time with
      rem := g.2, remaining := r.remaining - k.1, slewRem := k.2, atbRem := (air.map (·.2)).getD 0
      ptbLeft := r.ptbLeft - p.1, ptbRem := p.2 }
    ctl.time := { s.ctl.time with
      stb := stb
      ptb := moved (if s.ctl.timeCfg.ptp.ptbSource = 0 then g.1 else (n * unitTick : Nat) - p.1) s.ctl.time.ptb
      atb := air.map (·.1) } }

/-- Time passes until what `read` gives has reached `t`: in steps that fall just short of it at any rate that R193, R200 and R203
allow, then tick by tick. -/
def passUntil (read : State → Nat) (t : Nat) : Nat → State → State
  | 0, s => s
  | n + 1, s =>
    if t ≤ read s then s
    else passUntil read t n (passTicks (max 1 ((t - read s) * 99998 / (100000 * unitTick))) s)

/-- Time passes until ATB shows `t` (units of 2^-16 ns), if that lies ahead (log 7). -/
def passToAtb (t : Nat) (s : State) : State :=
  if s.ctl.time.atb.isSome then passUntil (fun s => s.ctl.time.atb.getD 0) t 12 s else s

/-- Time passes until STB shows `t`, if that lies ahead (log 7). -/
def passToStb (t : Nat) (s : State) : State :=
  if s.ctl.time.stb.isSome then passUntil (fun s => s.ctl.time.stb.getD 0) t 12 s else s

/-! ### The error of STB (R198) -/

def StbState.holdover (x : StbState) : Bool := x == .holdoverA || x == .holdoverB || x == .holdoverC

/-- a and b of Table Time-4, in ns/s and ns/s². -/
def holdA (ref : Nat) : Rat := if ref = 1 then 1 / 5 else 20
def holdB (ref : Nat) : Rat := if ref = 1 then mkRat 19 1000000 else 1 / 20

/-- The estimated error now, in 2^-16 ns: the model of R198, in RETURNING what remains to be slewed out (Table Time-3); while a step is pending it stays as it was at the decision (R201). -/
def State.estNow (s : State) : Nat :=
  let r := s.vol.time
  if r.state.holdover && r.pending.isNone then
    let t : Rat := mkRat (s.mtb - r.modelAt) tickS
    r.entryErr + ((holdA r.refInUse * t + holdB r.refInUse * t * t) * unitNs).floor.toNat
  else if r.state = .returning then (r.nextSlew.getD r.remaining).natAbs
  else r.estErr

/-- est_err_ns as reported. -/
def State.estNs (s : State) : Nat := if s.vol.time.state = .invalid then 0xFFFFFFFF else sat 32 (s.estNow / unitNs)

/-- The absolute superframe number of an instant of ATB: whole units of 2 ms (R241). -/
def asnOf (atb : Nat) : Nat := atb / 131072000000

/-- The present ASN, 0 while ATB is invalid. -/
def State.asn (s : State) : Nat := asnOf (s.ctl.time.atb.getD 0)

/-- ATB at the start of a superframe. -/
def atbOfAsn (asn : Nat) : Nat := asn * 131072000000

/-- The 12 bytes of a time value (Table Time-2), invalid for none. -/
def timeBytes : Option Nat → List Byte
  | none => leBytes 2 0 ++ leBytes 4 0xFFFFFFFF ++ leBytes 6 0
  | some t => leBytes 2 (t % 65536) ++ leBytes 4 (t / 65536 % 1000000000) ++ leBytes 6 (t / unitS)

/-- A draw of a fresh value: its number, and the state after it. -/
def State.draw (s : State) : Nat × State := (s.fresh, { s with fresh := s.fresh + 1 })

/-- The settings of the configuration in force. -/
abbrev State.cfg (s : State) : Settings := s.ctl.cfg

/-! ### Interrupts (R112) -/

def irqCq0 : Nat := 0
def irqCq1 : Nat := 1
def irqMnt : Nat := 2
def irqHandover : Nat := 3
def irqEpoch : Nat := 4
def irqRingErr : Nat := 5
def irqStop : Nat := 6
def irqAlarm : Nat := 7
def irqMailbox : Nat := 8
def irqTamper : Nat := 9
def irqSupply : Nat := 10

/-- An MSI-X vector is sent, or becomes pending while its table entry is masked (R112). The mask and pending bits are those of
the PCIe standard: PRESUMED (log 139). -/
def sendVector (v : Nat) (s : State) : State :=
  match s.hsw.msixTable[v]? with
  | some e =>
    if e.masked then { s with hsw.msixPba := setBit s.hsw.msixPba v true } else { s with out.msix := s.out.msix ++ [v] }
  | none => s

/-- A cause bit is set, and its vector is sent when it is unmasked (R112, Table Host-4). -/
def raiseIrq (k : Nat) (s : State) : State :=
  let s := { s with hsw.irqCause := s.hsw.irqCause ||| BitVec.ofNat 11 (1 <<< k) }
  if s.hsw.irqMask.getLsbD k then sendVector (if k = 0 then 0 else if k = 1 then 1 else 2) s else s

/-- HOST_IRQ_N conducts while any unmasked cause is set (R112), and never while VIN is absent (R53). -/
def State.hostIrqN (s : State) : Bool :=
  s.env.vinUp && !s.hsw.resetHeld && (s.hsw.irqCause &&& s.hsw.irqMask) != 0#11

/-- ACTIVE_SIDE pad: none high impedance, else the level (R53). -/
def State.activeSidePad (s : State) : Option Bool :=
  if s.env.vinUp then s.hsw.active.map fun x => x == .b else none

/-! ### Rings (R90 to R96, R113, R120) -/

def State.ring (s : State) (n : Nat) : RingSet := if n = 0 then s.hsw.ring0 else s.hsw.ring1

def State.modRing (s : State) (n : Nat) (f : RingSet → RingSet) : State :=
  if n = 0 then { s with hsw.ring0 := f s.hsw.ring0 } else { s with hsw.ring1 := f s.hsw.ring1 }

/-- A ring counter plus `k`, modulo 2 × 2^order (R91). -/
def ringAdd (order c k : Nat) : Nat := (c + k) % (2 * 2 ^ order)

/-- The distance of one ring counter ahead of another, modulo 2 × 2^order (R91). -/
def ringDist (order c d : Nat) : Nat := (c + 2 * 2 ^ order - d) % (2 * 2 ^ order)

/-- The slot of a ring counter (R91). -/
def ringSlot (order c : Nat) : Nat := c % 2 ^ order

/-- The host address of the SQ slot of a counter: the ring base plus slot × 4,096 (R90). -/
def RingSet.sqAddr (r : RingSet) (c : Nat) : Nat := r.sqBaseLo + r.sqBaseHi * 2 ^ 32 + ringSlot r.sqOrder c * 4096

/-- The host address of the CQ slot of a counter (R90). -/
def RingSet.cqAddr (r : RingSet) (c : Nat) : Nat := r.cqBaseLo + r.cqBaseHi * 2 ^ 32 + ringSlot r.cqOrder c * 4096

/-- A ring error: HW_RING_ERR keeps the first code and counts (Table Host-14). -/
def ringError (code set : Nat) (s : State) : State :=
  let h := s.hsw
  raiseIrq irqRingErr { s with
    hsw := { h with
      ringErrCode := if h.ringErrCode = 0 then code else h.ringErrCode
      ringErrSet := if h.ringErrCode = 0 then set else h.ringErrSet
      ringErrCount := satInc 16 h.ringErrCount } }

/-- The CQ is full when tail and head differ by 2^order (R91, R93). -/
def RingSet.cqFull (r : RingSet) : Bool := decide (2 ^ r.cqOrder ≤ ringDist r.cqOrder r.cqTail r.cqHead)

/-- A ring error, or none, chosen field by field, so that the rest of the state does not rest on the choice. -/
def ringErrorIf (bad : Bool) (code set : Nat) (s : State) : State :=
  let t := ringError code set s
  { s with
    hsw := { s.hsw with
      ringErrCode := if bad then t.hsw.ringErrCode else s.hsw.ringErrCode
      ringErrSet := if bad then t.hsw.ringErrSet else s.hsw.ringErrSet
      ringErrCount := if bad then t.hsw.ringErrCount else s.hsw.ringErrCount
      irqCause := if bad then t.hsw.irqCause else s.hsw.irqCause
      msixPba := if bad then t.hsw.msixPba else s.hsw.msixPba }
    out.msix := if bad then t.out.msix else s.out.msix }

/-- The host memory answers a CQ write with an error or not: a free value (log 125). An error is ring error 5 (Table Host-14); the
entry counts as written, and what its slot holds is the host's to find out. -/
def cqWriteEnds (n : Nat) (s : State) : State :=
  let (k, s) := s.draw
  ringErrorIf (Config.flag 0x40 k) 5 n s

/-- An entry is written into the next CQ slot (R90, R91): its PHASE (R96), epoch and MTB are those of the writing, and a message
carries LOST when messages were dropped before it (Table Host-3). Moderation is R113. -/
def ringWrite (n : Nat) (h : HeldEntry) (s : State) : State :=
  let r := s.ring n
  let e : Entry := { h.entry with
    phase := !(r.cqTail.testBit r.cqOrder), epoch := s.hsw.epoch, mtbNs := s.mtbNs, lost := h.entry.msg && r.lost }
  let k := r.unsignalled + 1
  let signal := decide (max 1 r.count ≤ k) || r.timerUs == 0 || decide (0x0101 ≤ e.status) || h.urgent
  let s := s.modRing n fun r =>
    { r with
      cq := r.cq ++ [e], cqTail := ringAdd r.cqOrder r.cqTail 1, lost := r.lost && !e.msg,
      unsignalled := if signal then 0 else k, timerRuns := !signal }
  let s := cqWriteEnds n { s with out.cqWrites := s.out.cqWrites ++ [(r.cqAddr r.cqTail, e)] }
  if signal then raiseIrq n s else s

/-- Messages held for a full CQ before further ones are dropped. DESIGN CHOICE (log 9). -/
def heldMessages : Nat := 64

/-- An entry posted to a ring set: written, or held while the CQ is full (R93). -/
def ringPost (n : Nat) (h : HeldEntry) (s : State) : State :=
  let r := s.ring n
  if !r.enable then s
  else if r.cqFull || !r.held.isEmpty then
    if h.entry.msg && decide (heldMessages ≤ (r.held.filter (·.entry.msg)).length) then
      s.modRing n fun r => { r with lost := true }
    else s.modRing n fun r => { r with held := r.held ++ [h] }
  else ringWrite n h s

/-- Held entries are written while the CQ has room (R93). -/
def flushHeld (n : Nat) : Nat → State → State
  | 0, s => s
  | k + 1, s =>
    let r := s.ring n
    match r.held with
    | [] => s
    | h :: t => if r.cqFull then s else flushHeld n k (ringWrite n h (s.modRing n fun r => { r with held := t }))

/-- An entry posted to the maintenance port (R117). While 32 are held, a completion waits and a message is dropped: DESIGN CHOICE
(log 142). -/
def mntPost (h : HeldEntry) (s : State) : State :=
  let m := s.hsw.mnt
  if m.held.length < 32 ∧ m.waiting.isEmpty then
    let e : Entry := { h.entry with epoch := s.hsw.epoch, mtbNs := s.mtbNs, lost := h.entry.msg && m.lost }
    raiseIrq irqMnt { s with hsw.mnt := { m with held := m.held ++ [e], lost := m.lost && !e.msg } }
  else if h.entry.msg then { s with hsw.mnt.lost := true }
  else { s with hsw.mnt.waiting := m.waiting ++ [h.entry] }

/-- The ring set of a transport. -/
def viaRing? : Transport → Option Nat
  | .ring0 => some 0
  | .ring1 => some 1
  | _ => none

/-- The session that a transport carries (Table Host-1). -/
def viaSession : Transport → Nat
  | .ring0 => 0
  | .ring1 => 1
  | .mnt => 1
  | .site2 => 2
  | .site3 => 3

/-- The entry header and reply data as bytes (Table Host-3). -/
def Entry.bytes (e : Entry) : List Byte :=
  leBytes 2 e.status ++ leBytes 1 e.tag ++
  leBytes 1 (e.session % 4 + 4 * b2n e.follow + 32 * b2n e.lost + 64 * b2n e.msg + 128 * b2n e.phase) ++
  leBytes 4 e.detail ++ leBytes 2 e.opcode ++ leBytes 2 e.sqIndex ++ leBytes 2 e.reply.length ++ zeros 2 ++
  leBytes 4 e.fetchSeq ++ leBytes 4 e.epoch ++ leBytes 8 e.mtbNs ++ e.reply

/-- Whether ATB is aligned: within 50 ns of STB with no offset in superframes (R203, R204). -/
def State.atbAligned (s : State) : Bool :=
  s.ctl.time.atbOffsetSf == 0 &&
    match s.ctl.time.atb, s.ctl.time.stb with
    | some a, some b => decide (a ≤ b + 50 * 65536) && decide (b ≤ a + 50 * 65536)
    | _, _ => false

/-- A federation message to a peer whose peering is live (R402): its sequence number is used up. -/
def fedSendAs (again : Bool) (peer type txn : Nat) (body : List Byte) (s : State) : State :=
  match tget s.vol.fed.peers peer with
  | some r =>
    if r.state = .live then
      { s with
        vol.fed.peers := tput s.vol.fed.peers peer { r with seqSent := r.seqSent + 1 }
        out.site := s.out.site ++ [⟨1, peer, type, b2n s.atbAligned + 2 * b2n again, r.seqSent + 1, txn, body⟩] }
    else s
  | none => s

def fedSend (peer type txn : Nat) (body : List Byte) (s : State) : State := fedSendAs false peer type txn body s

/-- The live peer that a session is bound to (R420). -/
def State.boundPeer (s : State) (n : Nat) : Option Nat :=
  (s.cfg.fed.peers.find? fun e => e.2.flags.testBit (n - 1) &&
    match tget s.vol.fed.peers e.1 with
    | some r => r.state == .live
    | none => false).map (·.1)

/-- An entry of a site session travels to its bound peer in a UCP message (R420). -/
def sitePost (n : Nat) (h : HeldEntry) (s : State) : State :=
  let e : Entry := { h.entry with epoch := s.hsw.epoch, mtbNs := s.mtbNs }
  match s.boundPeer n with
  | some k => fedSend k 20 0 e.bytes s
  | none => s

/-- An entry goes out on a transport, without being counted. On a site port it travels as R420 gives. -/
def postOn (via : Transport) (h : HeldEntry) (s : State) : State :=
  match via with
  | .ring0 => ringPost 0 h s
  | .ring1 => ringPost 1 h s
  | .mnt => mntPost h s
  | .site2 => sitePost 2 h s
  | .site3 => sitePost 3 h s

def State.sess (s : State) (n : Nat) : Session := s.hsw.sessions.getD n default

def State.modSess (s : State) (n : Nat) (f : Session → Session) : State :=
  { s with hsw.sessions := s.hsw.sessions.modify n f }

/-- A message entry (R95): tag 0, fetch_seq 0, sq_index 0xFFFF. -/
def msgEntry (session opcode : Nat) (data : List Byte) : HeldEntry :=
  { urgent := false
    entry :=
      { status := 0, tag := 0, session := session, follow := false, lost := false, msg := true, phase := false,
        detail := 0, opcode := opcode, sqIndex := 0xFFFF, reply := data, fetchSeq := 0, epoch := 0, mtbNs := 0 } }

/-- A message to session 0, discarded while that session is not open (DESIGN CHOICE, log 9). -/
def sendUncounted (opcode : Nat) (data : List Byte) (s : State) : State :=
  if (s.sess 0).isOpen then postOn (s.sess 0).via (msgEntry 0 opcode data) s else s

/-! ### Performance counters (R491 to R493) -/

/-- Whether a counter counts an event of selection `sel` that happens on instance `qual`. -/
def Counter.counts (c : Counter) (sel : Nat) (qual : Option Nat) : Bool :=
  c.sel == sel && (c.qualKind == 0 || qual == some c.qual)

/-- One counter raised by `n`; its overflow flag is set when it passes 2^48 (R492). -/
def Counter.add (c : Counter) (n : Nat) : Counter :=
  { c with value := (c.value + n) % 2 ^ 48, overflow := c.overflow || decide (2 ^ 48 ≤ c.value + n) }

/-- COUNTER.OVERFLOW of counter `k` (R492). -/
def overflowMsg (k sel mtbNs : Nat) : List Byte :=
  leBytes 1 k ++ zeros 3 ++ leBytes 2 sel ++ zeros 2 ++ leBytes 8 mtbNs

/-- The overflow messages due when `n` events of `sel` are counted. -/
def overflowsDue (cs : List Counter) (sel : Nat) (qual : Option Nat) (n : Nat) : List Nat :=
  (List.range cs.length).filter fun k =>
    match cs[k]? with
    | some c => c.counts sel qual && c.irq && decide (2 ^ 48 ≤ c.value + n)
    | none => false

/-- `n` events of a selection are counted; a frozen counter counts nothing (R493). -/
def countEvents (sel : Nat) (qual : Option Nat) (n : Nat) (s : State) : State :=
  if s.vol.counters.frozen then s
  else
    let due := overflowsDue s.vol.counters.counters sel qual n
    let s := { s with
      vol.counters.counters := s.vol.counters.counters.map fun c => if c.counts sel qual then c.add n else c }
    due.foldl (fun s k => sendUncounted 0x1380 (overflowMsg k sel s.mtbNs) s) s

/-- An entry is posted and counted (Table Rec-4, 0x0002). -/
def post (via : Transport) (h : HeldEntry) (s : State) : State := countEvents 0x0002 none 1 (postOn via h s)

/-- A message to session 0. -/
def sendMsg (opcode : Nat) (data : List Byte) (s : State) : State :=
  if (s.sess 0).isOpen then post (s.sess 0).via (msgEntry 0 opcode data) s else s

/-! ### Recorder (R485 to R489) -/

/-- Bytes 0 to 59 of a record (Table Rec-2). -/
def Record.body (r : Record) : List Byte :=
  leBytes 4 r.seq ++ leBytes 2 r.code ++ leBytes 2 r.source ++ leBytes 4 r.repeats ++ leBytes 4 r.opSeconds ++
    leBytes 4 r.powerCycles ++ timeBytes r.stb ++ leBytes 4 r.lastMs ++ r.payload

/-- A copy of the fold journal (R488). Its CRC covers the sequence number and the record. DESIGN CHOICE (log 147). -/
def JournalCopy.write (seq : Nat) (n : Record) : JournalCopy :=
  { jseq := seq, record := n, crc := crc32c (leBytes 4 seq ++ n.body) }

/-- The copy verifies (R30, R488). -/
def JournalCopy.ok (c : JournalCopy) : Bool := c == JournalCopy.write c.jseq c.record

/-- A fold goes to the older copy of the fold journal, with the next journal sequence (R488). -/
def Recorder.journal (n : Record) (r : Recorder) : Recorder :=
  let q := fun c : Option JournalCopy => match c with
    | some j => j.jseq
    | none => 0
  let c := JournalCopy.write (max (q r.journalA) (q r.journalB) + 1) n
  if q r.journalA ≤ q r.journalB then { r with journalA := some c } else { r with journalB := some c }

/-- Folds of the newest record that have not reached MRAM are written, to the fold journal and then to its slot (R488). -/
def Recorder.flushFold (r : Recorder) : Recorder :=
  match r.openRec, r.ring with
  | some o, n :: t =>
    if n.repeats = o.repeats ∧ n.lastMs = o.lastMs then r
    else
      let n := { n with repeats := o.repeats, lastMs := o.lastMs }
      { r.journal n with ring := n :: t }
  | _, _ => r

/-- The sequence number after `n`: it wraps from 0xFFFF_FFFF to 1 (Table Rec-2). -/
def nextSeq (n : Nat) : Nat := if n = 0xFFFFFFFF then 1 else n + 1

/-- Slots of the ring (Table Rec-1). -/
def ringCapacity : Nat := 524280

/-- A payload of 24 bytes. -/
def payload24 (bs : List Byte) : List Byte := slice bs 0 24

/-- The second in which the limit of R486 counts: of STB, or of MTB while STB is invalid (log 57). -/
def recSecond (now : Nat) : Option Nat → Nat
  | some t => t / unitS
  | none => now / tickS

/-- A record is appended (Table Rec-2). -/
def Recorder.append (now windowMs : Nat) (stb : Option Nat) (code source : Nat) (payload : List Byte) (r : Recorder) :
    Recorder :=
  let q := nextSeq r.head
  let n : Record :=
    { seq := q, code := code, source := source, repeats := 1, opSeconds := r.opSeconds,
      powerCycles := r.powerCycles, stb := stb, lastMs := 0, payload := payload24 payload }
  { r with
    ring := (n :: r.ring).take ringCapacity, head := q
    openRec := some { firstTick := now, windowMs := windowMs, repeats := 1, lastMs := 0 } }

/-- An event reaches the recorder at MTB tick `now`: folded into the newest record, or appended, or dropped over the
limit of 100,000 records in an STB second (R486, R487). -/
def Recorder.event (r : Recorder) (now windowMs : Nat) (stb : Option Nat) (code source : Nat) (payload : List Byte) :
    Recorder :=
  let folds := match r.openRec, r.ring with
    | some o, n :: _ => n.code == code && n.source == source && decide (now - o.firstTick < o.windowMs * tickMs)
    | _, _ => false
  if folds then
    { r with openRec := r.openRec.map fun o =>
        { o with repeats := satInc 32 o.repeats, lastMs := sat 32 ((now - o.firstTick) / tickMs) } }
  else
    let sec := recSecond now stb
    let n := if sec = r.secondAt then r.thisSecond else 0
    if 100000 ≤ n then { r with dropped := r.dropped + 1, droppedTotal := satInc 32 r.droppedTotal }
    else
      let r := { r.flushFold with thisSecond := n + 1, secondAt := sec }
      r.append now windowMs stb code source payload

/-- An event that an always-on island holds while its main domains are off: up to 8 (R485). -/
def Recorder.hold (r : Recorder) (code source : Nat) (payload : List Byte) : Recorder :=
  if r.heldEvents.length < 8 then
    { r with heldEvents := r.heldEvents ++
        [{ code := code, source := source, payload := payload, opSeconds := r.opSeconds,
           powerCycles := r.powerCycles }] }
  else { r with notHeld := satInc 32 r.notHeld }

/-- A side records an event of its own (R485): in its recorder while its main domains are on, else in its island. -/
def recordOn (x : SideId) (code source : Nat) (payload : List Byte) (s : State) : State :=
  let stb := if s.hsw.active = some x then s.ctl.time.stb else none
  s.modSide x fun d =>
    if d.mainOn then { d with recorder := d.recorder.event s.mtb s.cfg.repeatMs stb code source payload }
    else { d with recorder := d.recorder.hold code source payload }

/-- The active side records an event (Table Rec-3). -/
def record (code source : Nat) (payload : List Byte) (s : State) : State := recordOn s.actId code source payload s

/-- Any other event that the manual says is recorded: the code of its family with low byte 0x00, source 0xFFFF, and
the opcode of the message that reports it, 0 for none (R489). -/
def recordOther (family msgOpcode : Nat) (s : State) : State :=
  record (family * 256) 0xFFFF (leBytes 2 msgOpcode) s

end Sys2Proof.Machine
end

