-- ==== Sys2Proof/Machine/Pool.lean ====
section
/-! DEFINITION.
What every subsystem asks of the Peat pool and of Milliner: packets into and out of queues (R371 to R382), and work
items onto and off flows (R353 to R368).
-/

namespace Sys2Proof.Machine

/-! ### Peat pool -/

/-- Default settings of a queue (Table Peat-2). -/
def queueDefault (q : Nat) : QueueSettings :=
  if q < 0x800 then ⟨16, 256, 20⟩
  else if q < 0x808 then ⟨4096, 16384, 0⟩
  else if q < 0x814 then ⟨256, 8192, 0⟩
  else if q = 0x820 then ⟨8, 2056, 0⟩
  else if q < 0x830 then ⟨64, 1024, 0⟩
  else if q < 0x834 then ⟨256, 4096, 0⟩
  else if q < 0x980 then ⟨64, 1024, 0⟩
  else ⟨256, 4096, 0⟩

def State.queueSettings (s : State) (q : Nat) : QueueSettings := tgetD s.cfg.peat.queues q (queueDefault q)

/-- Whether a queue is of the control class (Table Peat-2). -/
def queueControl (q : Nat) : Bool := decide (q < 0x808) || q == 0x820

/-- Whether a queue is a host mailbox, and its number. -/
def mailboxOf? (q : Nat) : Option Nat := if 0xC00 ≤ q ∧ q ≤ 0xC1C then some (q - 0xC00) else none

def PeatQueue.empty : PeatQueue :=
  { packets := [], reserved := [], lost := false, stalled := [], peak := 0, committed := 0, refused := 0, dropped := 0, corrected := 0,
    poisoned := 0, stallOut := 0 }

def State.queue (s : State) (q : Nat) : PeatQueue := tgetD s.vol.peat.queues q PeatQueue.empty

def State.modQueue (s : State) (q : Nat) (f : PeatQueue → PeatQueue) : State :=
  { s with vol.peat.queues := tput s.vol.peat.queues q (f (s.queue q)) }

/-- Cells of a packet of `n` data bytes (R372). -/
def packetCells (n : Nat) : Nat := 1 + (n - 56 + 63) / 64

/-- Cells charged to a queue for packets reserved and not committed (R373). -/
def PeatQueue.cellsReserved (q : PeatQueue) : Nat := (q.reserved.map (·.2)).sum

/-- Cells that a queue holds, reserved ones included (R377, Table Peat-4). -/
def PeatQueue.cells (q : PeatQueue) : Nat := (q.packets.map fun p => packetCells p.data.length).sum + q.cellsReserved

/-- Free cells of the pool: what no packet, no reservation and no cut chain holds (R371, R373, R381). -/
def State.freeCells (s : State) : Nat :=
  poolCells - ((s.vol.peat.queues.map fun e => e.2.cells).sum + s.vol.peat.orphans)

/-- Whether a reservation of at most `m` data bytes is granted (R377). -/
def State.poolGrants (s : State) (q m : Nat) : Bool :=
  let k := s.queue q
  let set := s.queueSettings q
  let n := packetCells m
  decide (m ≤ 16384) && (mailboxOf? q == none || decide (m ≤ 4048)) && decide (k.packets.length + k.reserved.length < set.pkts) &&
    decide (k.cells + n ≤ set.cells) &&
    (if queueControl q then decide (n ≤ s.freeCells) else decide (s.cfg.peat.wmFloor + n ≤ s.freeCells))

/-- QUEUE.EVENT with its record (R378, R381). -/
def poolEvent (kind queue : Nat) (s : State) : State :=
  let free := s.freeCells
  record 0x0C01 queue (leBytes 1 kind ++ zeros 3 ++ leBytes 4 free)
    (sendMsg 0x0C80 (leBytes 1 kind ++ zeros 1 ++ leBytes 2 queue ++ leBytes 4 free ++ leBytes 8 s.mtbNs) s)

/-- The watermarks after the free cells have changed (R378). -/
def watermarks (s : State) : State :=
  let free := s.freeCells
  let p := s.cfg.peat
  let s := { s with vol.peat.minFree := min s.vol.peat.minFree free }
  let s :=
    if !s.vol.peat.belowWarn && decide (free < p.wmWarn) then
      poolEvent 1 0xFFFF { s with vol.peat.belowWarn := true }
    else if s.vol.peat.belowWarn && decide (p.wmWarn + 1024 ≤ free) then
      poolEvent 2 0xFFFF { s with vol.peat.belowWarn := false }
    else s
  if !s.vol.peat.belowFloor && decide (free < p.wmFloor) then
    poolEvent 3 0xFFFF { s with vol.peat.belowFloor := true }
  else if s.vol.peat.belowFloor && decide (p.wmFloor < free) then
    poolEvent 4 0xFFFF { s with vol.peat.belowFloor := false }
  else s

/-- Mailbox `m` holds data: MAILBOX is set and its vector is sent if unmasked (R382, Table Host-4). -/
def mailboxSignal (m : Nat) (s : State) : State :=
  let s := { s with hsw.irqCause := s.hsw.irqCause ||| BitVec.ofNat 11 (1 <<< irqMailbox) }
  if s.hsw.irqMask.getLsbD irqMailbox then sendVector (3 + m) s else s

/-- A reservation is refused and counted (R377, QUEUE.STATUS). -/
def refuseReserve (q m : Nat) (s : State) : State :=
  let floor := !queueControl q && decide (s.freeCells < s.cfg.peat.wmFloor + packetCells m)
  let s := s.modQueue q fun k => { k with refused := satInc 32 k.refused }
  if floor then { s with vol.peat.floorRef := satInc 32 s.vol.peat.floorRef } else s

/-! ### The link memory (R371, R381) -/

/-- An entry whose two copies agree on the successor. -/
def LinkEntry.whole (next : Option Nat) : LinkEntry := ⟨⟨next, true⟩, ⟨next, true⟩⟩

/-- The successor that an entry gives: that of a copy which can be read; none when neither can. -/
def LinkEntry.next (e : LinkEntry) : Option (Option Nat) :=
  if e.copyA.good then some e.copyA.next else if e.copyB.good then some e.copyB.next else none

/-- A copy that cannot be read is rewritten from the other. -/
def LinkEntry.rewritten (e : LinkEntry) : LinkEntry :=
  match e.next with
  | some n => LinkEntry.whole n
  | none => e

/-- The chain of `n` cells at most that begins at a cell, as its entries give it; it ends where an entry cannot be read. -/
def walkChain (links : Tbl LinkEntry) : Nat → Nat → List Nat
  | 0, _ => []
  | n + 1, k => k :: match (tget links k).bind LinkEntry.next with
    | some (some m) => walkChain links n m
    | _ => []

/-- The cells of a packet, by the draws that gave them, in the order of its chain. -/
def State.chainOf (s : State) (p : PeatPacket) : List Nat := walkChain s.vol.peat.links (packetCells p.data.length) p.cell

/-- The entries of a chain of cells are written, each in both copies. -/
def linkChain : List Nat → State → State
  | [], s => s
  | k :: t, s => linkChain t { s with vol.peat.links := tput s.vol.peat.links k (LinkEntry.whole t.head?) }

/-- The cells of a packet are free: their entries hold no chain. -/
def unlink (p : PeatPacket) (s : State) : State :=
  { s with vol.peat.links := (s.chainOf p).foldl tdel s.vol.peat.links }

/-- `n` further cells are drawn from the pool. -/
def drawCells (n : Nat) (s : State) : List Nat × State := ((List.range n).map (s.fresh + ·), { s with fresh := s.fresh + n })

/-! ### Packets in and out of queues (R373, R375, R376) -/

/-- Step 1 of R373: a packet of at most `m` data bytes is reserved, with its first cell, or refused: none. The first cell is the
pool's choice: the reservation holds the number of the draw that gives it, and no two packets share it. -/
def reservePacket (q m : Nat) (s : State) : Option (Nat × State) :=
  if s.poolGrants q m then
    let (k, s) := s.draw
    let s := s.modQueue q fun x => { x with reserved := x.reserved ++ [(k, packetCells m)] }
    some (k, watermarks (countEvents 0x0901 none (packetCells m) s))
  else none

/-- The charge of a reservation ends (R373). -/
def endReservation (q k : Nat) (s : State) : State :=
  s.modQueue q fun x => { x with reserved := x.reserved.eraseP fun r => r.1 == k }

/-- Step 4 of R373: a packet reserved is abandoned, and nothing becomes visible. -/
def abandonPacket (q k : Nat) (s : State) : State := watermarks (endReservation q k s)

/-- Steps 2 and 3 of R373: the data are written into a chain that begins at the cell reserved, and the packet is committed at the
tail of its queue; cells charged beyond its length return. -/
def commitReserved (q k kind node : Nat) (data : List Byte) (s : State) : State :=
  let (ks, s) := drawCells (packetCells data.length - 1) s
  let was := (s.queue q).packets.isEmpty
  let s := linkChain (k :: ks) (endReservation q k s)
  let s := s.modQueue q fun x =>
    let pk : PeatPacket :=
      { node := node, kind := kind, lost := x.lost, trunc := false, poison := false, cell := k, data := data }
    { x with packets := x.packets ++ [pk], lost := false, peak := max x.peak (x.packets.length + 1),
             committed := satInc 32 x.committed }
  let s := watermarks s
  match mailboxOf? q with
  | some mb => if was then mailboxSignal mb s else s
  | none => s

/-- A packet is reserved for at most `m` bytes, written and committed (R373), or its reservation is refused: none. -/
def commitPacket (q m kind node : Nat) (data : List Byte) (s : State) : Option (Nat × State) :=
  match reservePacket q m s with
  | some (k, s) => some (k, commitReserved q k kind node data s)
  | none => none

/-- A packet of a producer that drops on refusal: it is counted, and the next one carries LOST (R379). -/
def commitOrDrop (q m kind node : Nat) (data : List Byte) (s : State) : State :=
  match commitPacket q m kind node data s with
  | some (_, s) => s
  | none => (refuseReserve q m s).modQueue q fun k => { k with dropped := satInc 32 k.dropped, lost := true }

/-- A head read finds its queue empty (R375): it stalls, or at a stall limit of 0 returns empty at once. -/
def headReadEmpty (q : Nat) (r : HeadRead) (s : State) : State :=
  if (s.queueSettings q).stallUs = 0 then s.modQueue q fun k => { k with stallOut := satInc 16 k.stallOut }
  else s.modQueue q fun k => { k with stalled := k.stalled ++ [r] }

/-- Single-bit errors corrected, counted by memory: the SRAM partitions of Table Arch-4 from 0, then the MRAM areas of Table Arch-5 (R30). -/
def addCorrected (n : Nat → Nat) (s : State) : State :=
  { s with vol.redun.corrected := (List.range 13).map fun m => sat 32 (s.vol.redun.corrected.getD m 0 + n m) }

/-- The single-bit errors that a read of a packet's cells finds are corrected and counted against its queue and the pool (R380): how
many is a free value (log 171). -/
def cellsRead (q : Nat) (s : State) : State :=
  let (k, s) := s.draw
  let n := Config.sense 0x64 k
  let s := s.modQueue q fun x => { x with corrected := sat 32 (x.corrected + n) }
  let s := { s with vol.peat.corrected := sat 32 (s.vol.peat.corrected + n) }
  countEvents 0x0902 none n (addCorrected (fun m => if m = 2 then n else 0) s)

/-- The number of the cell that a draw gave (log 8). -/
def firstCell (k : Nat) : Nat := (Config.cell k).toNat

/-- The oldest packet leaves a queue (R375). -/
def takePacket (q : Nat) (s : State) : Option (PeatPacket × State) :=
  match (s.queue q).packets with
  | [] => none
  | p :: t => some (p, watermarks (unlink p (cellsRead q (s.modQueue q fun k => { k with packets := t }))))

/-- Poisoned packets at the head of a queue whose consumer takes them there are discarded, each with a record (R380). -/
def dropPoisoned (q : Nat) : Nat → State → State
  | 0, s => s
  | n + 1, s =>
    match (s.queue q).packets with
    | p :: _ =>
      if p.poison then
        match takePacket q s with
        | some (_, s) => dropPoisoned q n (record 0x0C02 q (leBytes 4 (firstCell p.cell)) s)
        | none => s
      else s
    | [] => s

/-- The packet of a reference leaves its queue and its cells are freed (R376). -/
def freeByCell (q cell : Nat) (s : State) : State :=
  let s := match (s.queue q).packets.find? fun p => p.cell == cell with
    | some p => unlink p s
    | none => s
  watermarks (s.modQueue q fun k => { k with packets := k.packets.eraseP fun p => p.cell == cell })

/-- A packet by reference. -/
def State.packetAt (s : State) (q cell : Nat) : Option PeatPacket :=
  (s.queue q).packets.find? fun p => p.cell == cell

/-! ### Flows and items -/

def Flow.empty : Flow :=
  { items := [], lastCore := none, readyAt := 0, window := 0, starveUs := 0, done := 0, maxWait := 0, node := 0, member := false }

def State.flow (s : State) (f : Nat) : Flow := tgetD s.vol.sched.flows f Flow.empty

def State.modFlow (s : State) (f : Nat) (g : Flow → Flow) : State :=
  { s with vol.sched.flows := tput s.vol.sched.flows f (g (s.flow f)) }

def State.modPrio (s : State) (p : Nat) (g : PrioCount → PrioCount) : State :=
  { s with vol.sched.prios := s.vol.sched.prios.modify p g }

/-- The head of a flow becomes eligible now, under the settings of SCHED.CONFIG in force (R357, R358). -/
def Flow.readied (x : Flow) (s : State) : Flow :=
  { x with readyAt := s.mtb, window := s.cfg.sched.affinityUs, starveUs := s.cfg.sched.starveUs }

/-- Whether no item of the flow is in service and one waits: the flow is ready (R357). -/
def Flow.ready (f : Flow) : Bool :=
  match f.items with
  | [] => false
  | i :: _ => i.core.isNone

/-- Priority of the head item. -/
def Flow.prio (f : Flow) : Nat :=
  match f.items with
  | [] => 0xFF
  | i :: _ => i.prio

/-- The priority of a work item kind (Table Sched-2). -/
def kindPrio (k : Nat) : Nat :=
  match k with
  | 1 => 6 | 2 => 5 | 3 => 6 | 4 => 6 | 5 => 5 | 6 => 5 | 7 => 4 | 8 => 4 | 9 => 3 | 10 => 2 | 11 => 1 | _ => 7

/-! ### Commands that wait for one another (R94, R99) -/

/-- Every item on any flow. -/
def State.items (s : State) : List WorkItem := s.vol.sched.flows.flatMap fun e => e.2.items

def wantsDurable (p : Packet) : Bool := p.flags.testBit 0
def isFence (p : Packet) : Bool := p.flags.testBit 1
def isUrgent (p : Packet) : Bool := p.flags.testBit 2

/-- The node that a command names first, for the opcodes that name one member. -/
def cmdNode (opcode : Nat) (ps : List Byte) : Option Nat :=
  if [0x0402, 0x0405, 0x0704, 0x0705, 0x0706, 0x0708, 0x0903, 0x0906, 0x0907, 0x0A02, 0x0A03, 0x0A04,
      0x0E04].contains opcode then some (fld ps 0 2) else none

/-- The objects that a command touches (R99), each a kind with a number: 0 what a family keeps, 1 a member, 2 a lane, 3 the allotments
and profiles of all members, 4 the whole configuration or role of the side, 5 the stops, 6 a mailbox. What an object is, is the model's
reading: DEDUCED (log 172). -/
def cmdObjects (opcode : Nat) (ps : List Byte) : List (Nat × Nat) :=
  let lanes := fun m => (bitsOf 8 m).map fun l => (2, l)
  [(0, opcode / 256)] ++ ((cmdNode opcode ps).map fun n => (1, n)).toList ++
  (if [0x0603, 0x0605, 0x0607, 0x0702, 0x0707].contains opcode then [(2, fld ps 0 1)]
   else if opcode = 0x0601 ∨ opcode = 0x0602 then lanes (15 * 16 ^ (fld ps 0 1 % 2))
   else if opcode = 0x0704 then [(2, fld ps 2 1)]
   else if opcode = 0x0604 ∨ opcode = 0x0606 ∨ opcode = 0x0701 then lanes 255
   else if opcode = 0x0302 then lanes (fld ps 5 1)
   else if opcode = 0x0703 then lanes (fld ps 13 1)
   else if opcode / 256 = 9 ∨ opcode / 256 = 0x0A ∨ opcode = 0x0E04 then [(3, 0)]
   else if [0x1103, 0x1104, 0x1110, 0x1401, 0x1410, 0x0F02, 0x0F03].contains opcode then [(4, 0)]
   else if opcode / 256 = 8 ∨ opcode = 0x0E01 ∨ opcode = 0x0E05 then [(5, 0)]
   else if opcode = 0x0C05 then [(6, fld ps 0 1)]
   else if opcode = 0x0C01 ∧ 0xC00 ≤ fld ps 0 2 then [(6, fld ps 0 2 - 0xC00)]
   else if opcode = 0x0D01 then [(6, fld ps 6 1)]
   else [])

/-- Whether two commands touch a common object. -/
def touchCommon (c d : HostCmd) : Bool :=
  let a := cmdObjects c.opcode c.packet.params
  let b := cmdObjects d.opcode d.packet.params
  a.contains (4, 0) || b.contains (4, 0) || a.any fun x => b.contains x

/-- The command that an item of kind 7 carries: the one that started with it, or the one in flight that has not started. -/
def State.itemCmd (s : State) (i : WorkItem) : Option HostCmd :=
  i.run.or (match i.cmd with
    | some (k, _, _, q) => ((s.sess k).inFlight.find? fun f => f.cmd.fetchSeq == q && f.phase == .fetched).map (·.cmd)
    | none => none)

/-- The work item of a command; none for SLUICE.STOP (R302). -/
def State.cmdItem (s : State) (c : HostCmd) : Option WorkItem :=
  s.items.find? fun i => i.cmd == some (c.session, c.packet.tag, c.opcode, c.fetchSeq)

/-- Whether every command fetched earlier, in whatever session, that touches an object of this one has taken its effect (R99). The
items of commands are numbered in fetch order. -/
def State.objectsFree (s : State) (c : HostCmd) : Bool :=
  match s.cmdItem c with
  | some i => s.items.all fun j => j.acted || decide (i.id ≤ j.id) ||
      match s.itemCmd j with
      | some d => !touchCommon c d
      | none => true
  | none => true

/-- No earlier command of the session with FENCE is unfinished and, with FENCE, every earlier command has posted its first
completion (Table Host-2). -/
def State.fencesPass (s : State) (c : HostCmd) : Bool :=
  let earlier := (s.sess c.session).inFlight.filter fun f =>
    decide (f.cmd.fetchSeq < c.fetchSeq) && f.phase != .awaitingDurable
  earlier.all fun f => !isFence f.cmd.packet && !isFence c.packet

/-- Whether an item may not start although it heads its flow: a command that its session's fences or an earlier command on its objects
hold back (R94, R99). -/
def State.heldBack (s : State) (i : WorkItem) : Bool :=
  match s.itemCmd i with
  | some c => i.run.isNone && !(s.fencesPass c && s.objectsFree c)
  | none => false

/-! ### Cores (R359 to R362) -/

/-- Whether one core alone is in service: in active idle (R360), and after a brown-out warning (R44). -/
def State.oneCore (s : State) : Bool := s.ctl.mode == .idle || s.hsw.warned

/-- Whether the control reservation is lifted: in active idle only (R74, R359, R361). -/
def State.unreserved (s : State) : Bool := s.ctl.mode == .idle

def State.core (s : State) (k : Nat) : WorkCore := s.vol.sched.cores.getD k { state := .parked, busySince := 0, spans := [], cmds := [] }

def State.modCore (s : State) (k : Nat) (f : WorkCore → WorkCore) : State :=
  { s with vol.sched.cores := s.vol.sched.cores.modify k f }

/-- N of R359: the cores that are idle or busy. -/
def State.coresIn (s : State) : Nat :=
  (s.vol.sched.cores.filter fun c => match c.state with
    | .idle => true
    | .busy _ _ => true
    | _ => false).length

/-- Cores that run an item of the service or background class (R359). -/
def State.nonControl (s : State) : Nat :=
  (s.vol.sched.cores.filter fun c => match c.state with
    | .busy _ p => decide (p ≤ 4)
    | .leaving _ p => decide (p ≤ 4)
    | _ => false).length

/-- Service and background cores allowed: N − 6, or N in active idle (R359, R360, SCHED.STATUS). -/
def State.ncLimit (s : State) : Nat := if s.unreserved then s.coresIn else s.coresIn - 6

/-- Whether the control reservation keeps an item of a priority from starting (R359, R361). -/
def State.reserved (s : State) (prio : Nat) : Bool := decide (prio ≤ 4) && !s.unreserved && decide (s.ncLimit ≤ s.nonControl)

/-- Whether a ready flow is held for the core that last ran it (R361): `readyAt` is the instant at which it became ready, and `window`
its affinity window. -/
def State.heldFor (s : State) (lastCore : Option Nat) (readyAt window : Nat) : Option Nat :=
  match lastCore with
  | none => none
  | some c =>
    match (s.core c).state with
    | .busy _ _ => if s.mtb < readyAt + window * 1600 then some c else none
    | _ => none

/-- Whether a ready flow is held for another core than `k`. -/
def State.heldForOther (s : State) (k : Nat) (f : Flow) : Bool :=
  match s.heldFor f.lastCore f.readyAt f.window with
  | some c => c != k
  | none => false

/-- Whether a flow is ready and its head item may start: the head is not in service, and nothing holds its command back. -/
def State.startable (s : State) (f : Flow) : Bool :=
  match f.items with
  | [] => false
  | i :: _ => i.core.isNone && !s.heldBack i

/-- The lowest-numbered idle core. -/
def State.idleCore (s : State) : Option Nat := (List.range 16).find? fun k => (s.core k).state == .idle

/-- The idle core to which an item goes: the one that last ran its flow, else the lowest-numbered one (R361). -/
def State.coreFor (s : State) (lastCore : Option Nat) : Option Nat :=
  match lastCore with
  | some c => if (s.core c).state == .idle then some c else s.idleCore
  | none => s.idleCore

/-- Whether another flow comes before flow `f` for core `k`, when `f` has become ready at `readyAt` with a head of priority `prio`: one
that is startable and not held for another core, of a higher priority, or ahead of it on the ready list of its own (R358, R361). -/
def State.comesBefore (s : State) (k f readyAt prio : Nat) : Bool :=
  s.vol.sched.flows.any fun e =>
    e.1 != f && s.startable e.2 && !s.heldForOther k e.2 &&
      (decide (prio < e.2.prio) || (e.2.prio == prio &&
        (decide (e.2.readyAt < readyAt) || (e.2.readyAt == readyAt && decide (e.1 < f)))))

/-- The core to which the head of flow `f` goes now: the idle core that last ran its flow, else the lowest-numbered idle one; none while
the flow is held for its core, the control reservation bars it, no core is idle, or the core would choose another flow (R359, R361). -/
def State.takes (s : State) (f : Nat) (x : Flow) (prio : Nat) : Option Nat :=
  if s.reserved prio then none
  else if (s.heldFor x.lastCore x.readyAt x.window).isSome then none
  else (s.coreFor x.lastCore).filter fun k => !s.comesBefore k f x.readyAt prio

/-- The core that takes an item of a kind as the first of its flow now. -/
def State.firstTaken (s : State) (kind flow : Nat) : Option Nat := s.takes flow ((s.flow flow).readied s) (kindPrio kind)

/-- Whether a core takes an item of a kind as the first of its flow now. -/
def State.servesNow (s : State) (kind flow : Nat) : Bool :=
  (s.flow flow).items.isEmpty && (s.firstTaken kind flow).isSome

/-- The core that takes an item which waits: it heads its flow, no item of its flow is in service, and nothing holds it back (R357). -/
def State.takesItem (s : State) (i : WorkItem) : Option Nat :=
  match (s.flow i.flow).items with
  | h :: _ => if h.id = i.id ∧ h.core.isNone ∧ s.heldBack h = false then s.takes i.flow (s.flow i.flow) i.prio else none
  | [] => none

/-- A new item of a kind for a flow (Table Sched-2, Table Sched-6). -/
def newItem (kind flow node : Nat) : WorkItem :=
  { id := 0, flow := flow, kind := kind, prio := kindPrio kind, timer := false, node := node,
    core := none, enq := 0, start := none, queue := none, cell := none, cmd := none, args := [], starved := false,
    overran := false, work := none, acted := false, run := none }

/-- An item is queued on its flow; a flow that had none becomes ready (R357, R358). -/
def enqueue (i : WorkItem) (s : State) : State :=
  let now := s.mtb
  let i := { i with id := s.vol.sched.nextItem, enq := now }
  let s := { s with vol.sched.nextItem := s.vol.sched.nextItem + 1 }
  let s := s.modFlow i.flow fun f =>
    let f := if f.items.isEmpty then f.readied s else f
    { f with items := f.items ++ [i] }
  s.modPrio i.prio fun c => { c with now := c.now + 1, peak := max c.peak (c.now + 1) }

/-- The bucket of a waiting time in µs (Table Sched-5). -/
def waitBucket (us : Nat) : Nat := min 15 (if us = 0 then 0 else Nat.log2 us + 1)

/-- The wait of an item that starts now enters its histogram and its flow's longest wait (R369). -/
def countWait (i : WorkItem) (s : State) : State :=
  let us := (s.mtb - i.enq) / 1600
  let s := s.modFlow i.flow fun f => { f with maxWait := max f.maxWait (sat 32 us) }
  s.modPrio i.prio fun c => { c with now := c.now - 1, hist := c.hist.modify (waitBucket us) (satInc 32) }

/-- Whether a member flow is free: no connection and no staged admission holds it, and it holds no item (R356). -/
def State.flowFree (s : State) (f : Nat) : Bool :=
  (s.flow f).items.isEmpty && !(s.ctl.conns.any fun e => e.2.flow == f) &&
    !(s.vol.mac.lanes.any fun m => match m.join with
      | some j => j.flow == f && j.status == 0
      | none => false) && !(s.ctl.handovers.targets.any fun t => t.conn.flow == f)

/-- A member flow that holds no item and whose connection has ended is freed (R356). -/
def freeFlow (f : Nat) (s : State) : State :=
  if decide (f < 0x800) && (s.flow f).member && s.flowFree f then s.modFlow f fun x => { x with node := 0, member := false }
  else s

/-- The packet of an item is freed when the item leaves its flow (R376). -/
def freePacket (i : WorkItem) (s : State) : State :=
  match i.queue, i.cell with
  | some q, some c => freeByCell q c s
  | _, _ => s

/-- The packet of an item has been read (R380). -/
def packetRead (i : WorkItem) (s : State) : State :=
  match i.queue with
  | some q => cellsRead q s
  | none => s

/-- An item leaves its flow done (R357): its packet, which it has read, is freed (R376), the next item becomes the head, and a flow whose connection has
ended is freed with its last item (R356). -/
def itemDone (i : WorkItem) (s : State) : State :=
  let s := s.modFlow i.flow fun f =>
    let f := f.readied s
    { f with items := f.items.filter fun x => x.id != i.id, done := satInc 32 f.done }
  freeFlow i.flow (freePacket i (packetRead i (countEvents 0x0102 (some i.flow) 1 s)))

/-- An item whose service falls into the present step starts on core `k` and is done in it (R357, R361, log 21). -/
def serveOn (k : Nat) (i : WorkItem) (s : State) : State :=
  let s := if (s.flow i.flow).lastCore = some k then countEvents 0x0103 (some i.flow) 1 s else s
  itemDone i (countWait i (s.modFlow i.flow fun x => { x with lastCore := some k }))

/-- A work item is queued, and served in the present step when a core takes it now; else it waits (R354, R357, log 21). -/
def ranItem (kind flow node : Nat) (s : State) : State :=
  let core := s.firstTaken kind flow
  let id := s.vol.sched.nextItem
  let first := (s.flow flow).items.isEmpty
  let s := enqueue (newItem kind flow node) s
  match core, (s.flow flow).items.find? fun i => i.id == id with
  | some k, some i => if first then serveOn k i s else s
  | _, _ => s

/-- The work of an event: its item is served in the present step when a core takes it now, with its effect; else it waits on its
flow behind earlier items, or for a core, and has its effect when it is served (R24, R26, R354, R357). -/
def workOn (kind flow node : Nat) (i : Work) (effect : State → State) (s : State) : State :=
  if s.servesNow kind flow then effect (ranItem kind flow node s)
  else enqueue { newItem kind flow node with work := some i } s

/-- The item has had its effect: it has it once. -/
def actedOn (i : WorkItem) (s : State) : State :=
  s.modFlow i.flow fun f => { f with items := f.items.map fun x => if x.id = i.id then { x with acted := true } else x }

/-- An item that has not started is taken off its flow (R110, R368). -/
def removeItem (i : WorkItem) (s : State) : State :=
  let head := (s.flow i.flow).items.head?.any fun x => x.id == i.id
  let s := s.modFlow i.flow fun f =>
    let f := if head then f.readied s else f
    { f with items := f.items.filter fun x => x.id != i.id }
  freeFlow i.flow (freePacket i (s.modPrio i.prio fun c => { c with now := c.now - 1 }))

/-- A timer is armed on its flow, or refused when all 65,536 are in use (R367, R368). -/
def armTimer (flow kind node due : Nat) (s : State) : State :=
  if 65536 ≤ s.vol.sched.timers.length then
    recordOther 0x0B 0 { s with vol.sched.refusals := satInc 32 s.vol.sched.refusals }
  else
    let t : Timer := { flow := flow, due := due, item := { newItem kind flow node with timer := true } }
    let ts := s.vol.sched.timers ++ [t]
    { s with vol.sched := { s.vol.sched with timers := ts, timersPeak := max s.vol.sched.timersPeak ts.length } }

/-- What the cancellation of a timer reports (R368). -/
inductive TimerReport where
  /-- No timer of the kind was armed on the flow. -/
  | absent
  /-- It had not fired, and is cancelled. -/
  | cancelled
  /-- It had fired, and its item, which had not started, is taken off the flow. -/
  | fired
  /-- Its item had started: the cancellation has no effect on it. -/
  | run
  deriving DecidableEq, Repr

/-- What a cancellation of the timers of a kind on a flow finds. -/
def State.timerReport (s : State) (flow kind : Nat) : TimerReport :=
  if s.vol.sched.timers.any fun t => t.flow == flow && t.item.kind == kind then .cancelled
  else
    match (s.flow flow).items.find? fun i => i.kind == kind && i.timer with
    | some i => if i.core.isNone then .fired else .run
    | none => .absent

/-- The timers of a kind on a flow are cancelled, with their items that have not started, and the outcome is reported (R368). -/
def cancelTimer (flow kind : Nat) (s : State) : TimerReport × State :=
  let t := { s with
    vol.sched.timers := s.vol.sched.timers.filter fun t => !(t.flow == flow && t.item.kind == kind) }
  let late := (t.flow flow).items.filter fun i => i.kind == kind && i.timer && i.core.isNone
  (s.timerReport flow kind, late.foldl (fun s i => removeItem i s) t)

/-- The state after a cancellation. -/
def cancelTimers (flow kind : Nat) (s : State) : State := (cancelTimer flow kind s).2

end Sys2Proof.Machine
end

