-- ==== Sys2Proof/Machine/Path.lean ====
section
/-! DEFINITION.
Sessions and their records (R87, R111), completions (R100 to R108), and the path of a command packet: fetch, the
checks of R103, start and result (R94 to R107, R121).
-/

namespace Sys2Proof.Machine

/-! ### Sessions, commands and their completions -/


/-- What a command does once its checks of steps 1 to 4 have passed. -/
inductive CmdResult where
  /-- Refused: it changes nothing (R102). -/
  | refuse (status detail : Nat)
  /-- Completes with ST_OK: no state that a checkpoint contains has changed (R106). -/
  | ok (s : State) (reply : List Byte)
  /-- Completes with ST_ACCEPTED, or with ST_OK when no checkpointed state has changed (R106). -/
  | accepted (s : State) (reply : List Byte)
  /-- Completes later, by an event or by itself. -/
  | deferred (s : State)
  /-- Completes later, by another agent's answer; until then only the request is held, and no effect is in force. -/
  | requested (s : State)

def erOpcode : Nat := 0x0101
def erLength : Nat := 0x0102
def erReserved : Nat := 0x0103
def erRange : Nat := 0x0104
def erState : Nat := 0x0105
def erBusy : Nat := 0x0106
def erCapacity : Nat := 0x0107
def erConflict : Nat := 0x0108
def erAuth : Nat := 0x0109
def erVersion : Nat := 0x010A
def erTamper : Nat := 0x010B
def erIntegrity : Nat := 0x010C
def erEnvelope : Nat := 0x010D
def erBudget : Nat := 0x010E
def erEpoch : Nat := 0x010F
def erTimeout : Nat := 0x0110
def erRole : Nat := 0x0111
def erInternal : Nat := 0x01FF

/-- A side is tamper-locked (Table Sec-5, states 2 and 3). -/
def SideState.locked (d : SideState) : Bool := d.security.record.state == .locked || d.security.record.state == .debug

/-- Whether the other side's sink accepts checkpoints (R427): it is in standby-cold or powered down, and not
tamper-locked; no new checkpoint is started after a brown-out warning (R44). -/
def State.sinkAccepts (s : State) : Bool :=
  let o := s.side (otherSide s.actId)
  s.hsw.active.isSome && (o.power == .standbyCold || o.power == .poweredDown) &&
    !o.locked && !s.vol.redun.noNewCkpt

/-- STANDBY_OK of HW_ACTIVE (R428). -/
def State.standbyOk (s : State) : Bool :=
  let o := s.side (otherSide s.actId)
  s.hsw.active.isSome && o.power == .standbyCold && !o.locked && !o.suspect &&
    match o.ckpts.newest with
    | some c => c.run == s.hsw.runNo
    | none => false

/-- The completion entry of a command (Table Host-3). -/
def cmdEntry (c : HostCmd) (status detail : Nat) (follow : Bool) (reply : List Byte) : HeldEntry :=
  { urgent := isUrgent c.packet
    entry :=
      { status := status, tag := c.packet.tag, session := c.session, follow := follow, lost := false, msg := false,
        phase := false, detail := detail, opcode := c.opcode, sqIndex := c.sqIndex, reply := reply,
        fetchSeq := c.fetchSeq, epoch := 0, mtbNs := 0 } }

/-- A session's accepted commands with one more, which is listed once (R111). -/
def Session.noteEffect (c : HostCmd) (n : Session) : List TagEntry :=
  if n.effects.any fun e => e.fetchSeq == c.fetchSeq then n.effects else n.effects ++ [⟨c.fetchSeq, c.packet.tag, c.opcode⟩]

/-- The number of the last ended instance of a session. -/
def Session.endedInst (n : Session) : Nat := if n.isOpen then n.inst - 1 else n.inst

/-- A command of the last ended instance that takes its effect after the end is one of L, and one that ends without is none (R111). -/
def listLate (c : HostCmd) (effect : Bool) (s : State) : State :=
  if (s.sess c.session).endedInst = c.inst then
    { s with ctl.records := s.ctl.records.modify c.session fun r =>
        let others := r.list.filter fun e => e.fetchSeq != c.fetchSeq
        { r with list := if effect then others ++ [⟨c.fetchSeq, c.packet.tag, c.opcode⟩] else others } }
  else s

/-- The effect of a command that has still to complete is in force: a snapshot contains it from now on (R107, R111, R423). Of an ended instance the record lists it. -/
def markEffected (c : HostCmd) (s : State) : State :=
  if (s.sess c.session).isOpen = false ∨ (s.sess c.session).inst ≠ c.inst then listLate c true s
  else s.modSess c.session fun n =>
    if n.inFlight.any fun f => f.cmd.fetchSeq == c.fetchSeq && f.phase == .started then
      { n with
        inFlight := n.inFlight.map fun f =>
          if f.cmd.fetchSeq = c.fetchSeq ∧ f.phase = .started then { f with phase := .effected } else f
        effects := n.noteEffect c }
    else n

/-- The committed checkpoint that contains a command which is about to complete. -/
def State.keptIn (s : State) (c : HostCmd) : Option Nat :=
  ((s.sess c.session).inFlight.find? fun f => f.cmd.fetchSeq == c.fetchSeq).bind (·.kept)

/-- The first completion of a command (R100, R106, R107). Completions of an ended instance are discarded (R110), and its record lists
the effect (R111). A command that a committed checkpoint contains already has its durable completion next. A command that is not
accepted in the end is none of those that a snapshot contains (R111). -/
def finish (c : HostCmd) (status detail : Nat) (reply : List Byte) (s : State) : State :=
  let n := s.sess c.session
  if n.isOpen && n.inst == c.inst then
    let kept := s.keptIn c
    let follow := status == 1 && wantsDurable c.packet && (s.sinkAccepts || kept.isSome)
    let s := s.modSess c.session fun n =>
      { n with
        inFlight :=
          if follow && kept.isNone then
            n.inFlight.map fun f =>
              if f.cmd.fetchSeq = c.fetchSeq then { f with phase := .awaitingDurable, reply := reply } else f
          else n.inFlight.filter fun f => f.cmd.fetchSeq != c.fetchSeq
        effects := if status = 1 then n.noteEffect c else n.effects.filter fun e => e.fetchSeq != c.fetchSeq }
    let s := post c.packet.via (cmdEntry c status detail follow reply) s
    match kept with
    | some q => if follow then post c.packet.via (cmdEntry c 2 q false reply) s else s
    | none => s
  else listLate c (status == 1) s

/-- The result of a command is carried out: a command that changed nothing a checkpoint contains is ST_OK (R106), and one that waits
with its effect in force is contained in the next snapshot (R107). -/
def conclude (c : HostCmd) (s : State) : CmdResult → State
  | .refuse st d => finish c st d [] s
  | .ok s' reply => finish c 0 0 reply s'
  | .accepted s' reply => finish c (if s'.ctl = s.ctl then 0 else 1) 0 reply s'
  | .deferred s' => if s'.ctl = s.ctl then s' else markEffected c s'
  | .requested s' => s'

/-- The record of a session's last ended instance is written (R111). -/
def putRecord (n : Nat) (r : SessionRecord) (s : State) : State :=
  { s with ctl.records := s.ctl.records.set n r }

/-- A session instance ends with a cause of SESSION.TAGS: fetched commands are dropped, started ones run on and their
completions are discarded (R110). Every command that it accepted is in the state in force, so F is its last
fetch sequence, and L is those whose effect is in force with no completion yet (R111). -/
def endSession (n cause : Nat) (s : State) : State :=
  let x := s.sess n
  if x.isOpen then
    let waiting := s.items.filter fun i => i.kind == 7 && i.core.isNone &&
      match i.cmd with
      | some c => c.1 == n
      | none => false
    let late := (x.inFlight.filter fun f => f.phase == .effected).map fun f => (⟨f.cmd.fetchSeq, f.cmd.packet.tag, f.cmd.opcode⟩ : TagEntry)
    putRecord n ⟨x.openEpoch, cause, x.lastSeq, late⟩
      (waiting.foldl (fun s i => removeItem i s)
        (s.modSess n fun x => { x with isOpen := false, inFlight := [], effects := [] }))
  else s

/-- A ring set returns to its reset values (R110, R120). -/
def resetRing (n : Nat) (s : State) : State := s.modRing n fun _ => RingSet.resetValue

/-- A role or SERVING change sets HANDOVER (Table Host-11). -/
def setServing (b : Bool) (s : State) : State :=
  if s.hsw.serving = b then s else raiseIrq irqHandover { s with hsw.serving := b }

/-- A site alarm is raised (Table Host-11). -/
def raiseAlarm (s : State) : State := raiseIrq irqAlarm s

/-- The stage of Table Reset-4 that a family's subsystem needs (R78): GNSS, corrections, solver and time the GNSS
start; radio, MAC and capture the radio head bring-up; Sluice the heartbeat start; every other the state load. DEDUCED (log 10). -/
def stageOfFamily (family : Nat) : Nat :=
  if 2 ≤ family ∧ family ≤ 5 then 4
  else if family = 6 ∨ family = 7 ∨ family = 0x0D then 3
  else if family = 8 then 5
  else 2

/-- Whether the stage of a family has ended on the active side; sessions, power and resets have none (R78). A handover restart
with its checkpoint has no GNSS start, and the families of that stage wait for the heartbeat start (log 10). -/
def State.stageEnded (s : State) (family : Nat) : Bool :=
  let r := s.act.startRec
  let ended := fun k : Nat => r.stageMs.getD k 0xFFFF != 0xFFFF
  family == 1 || family == 0x14 || ended (stageOfFamily family) ||
    (stageOfFamily family == 4 && r.kind == 6 && ended 5)

/-- The header fields in offset order (step 1 of R103, Table Host-2, R104). -/
def headerFieldError (opcode : Nat) (p : Packet) : Option (Nat × Nat) :=
  if p.session % 4 ≠ (viaSession p.via) then some (erRange, 0x10003)
  else if 4 ≤ p.session then some (erReserved, 0x10003)
  else if p.flags % 256 / 8 ≠ 0 then some (erReserved, 0x10004)
  else if p.flags / 256 ≠ 0 then some (erReserved, 0x10005)
  else
    match (if opcode = 0x0101 then firstNonZero (leBytes 4 p.epoch) else none) with
    | some i => some (erReserved, 0x10008 + i)
    | none =>
      if 2 < p.target then some (erRange, 0x1000C)
      else if p.res13 ≠ 0 then some (erReserved, 0x1000D)
      else (firstNonZero p.resTail).map fun i => (erReserved, 0x10010 + i)

/-- Step 1 of R103. -/
def headerError (opcode : Nat) (p : Packet) (s : State) : Option (Nat × Nat) :=
  if opcode ≠ 0x0101 ∧ p.epoch ≠ s.hsw.epoch then some (erEpoch, s.hsw.epoch)
  else
    match layoutOf opcode with
    | none => some (erOpcode, opcode)
    | some l =>
      match lengthError l p.params with
      | some d => some (erLength, d)
      | none => headerFieldError opcode p

/-- The side that target names, none for the active one (Table Host-2). -/
def targetSide? (p : Packet) : Option SideId :=
  if p.target = 1 then some .a else if p.target = 2 then some .b else none

/-- Whether the command names a side that does not hold the active role. -/
def namesStandby (p : Packet) (s : State) : Bool :=
  match targetSide? p with
  | none => false
  | some x => s.hsw.active != some x

/-- Step 2 of R103: the target side (R19, R94, R440) and the tag (R101). -/
def targetError (opcode : Nat) (p : Packet) (s : State) : Option (Nat × Nat) :=
  if namesStandby p s && opcode != 0x0F05 then some (erRole, sideNo s.actId)
  else if (s.sess (viaSession p.via)).inFlight.any fun f => f.cmd.packet.tag == p.tag then some (erBusy, 0x10000 + p.tag)
  else none

/-- Step 3 of R103: the start stage of the subsystem (R78). -/
def stageError (opcode : Nat) (p : Packet) (s : State) : Option (Nat × Nat) :=
  if s.stageEnded (opcode / 256) || namesStandby p s then none else some (erState, opcode / 256)

/-- Step 4 of R103: the parameter fields. -/
def fieldsError (opcode : Nat) (p : Packet) : Option (Nat × Nat) :=
  match layoutOf opcode with
  | none => none
  | some l => paramError l p.params

/-- Steps 1 to 4 of R103: the first failure only. -/
def checkPacket (opcode : Nat) (p : Packet) (s : State) : Option (Nat × Nat) :=
  (headerError opcode p s).or ((targetError opcode p s).or ((stageError opcode p s).or (fieldsError opcode p)))

/-- Whether the session that a transport carries is open on it (R87, R88, R121). Session 1 bound to one of its two transports is not
open for a packet on the other: DEDUCED (log 143). -/
def State.openOn (s : State) (via : Transport) : Bool :=
  let n := s.sess (viaSession via)
  n.isOpen && n.via == via

/-- Whether a packet can be taken from a transport now (R89, R93, R98, R117, R379: a command queue that has no room for
the longest packet holds the fetch back). -/
def State.canFetch (s : State) (via : Transport) : Bool :=
  s.hsw.serving && s.hsw.ready && !s.vol.redun.handover.isSome && s.poolGrants (0x810 + viaSession via) 4096 &&
    match viaRing? via with
    | some n => (s.ring n).enable && !(s.ring n).cqFull && (s.ring n).held.isEmpty && s.hsw.pcieUp
    | none => if via = Transport.mnt then decide (s.hsw.mnt.held.length < 32) else true

/-- The SQ counter that the next packet of a transport has (Table Host-3). -/
def State.sqIndexOf (s : State) (via : Transport) : Nat :=
  match viaRing? via with
  | some n => (s.ring n).sqHead
  | none => 0xFFFF

/-- The slot of the SQ head is read and the SQ head passes it (R90, R91); the tail moves with it when no slot was filled by an earlier doorbell, so that
the slot belongs to the packet (the row of an opcode stands for its doorbell too, log 11). -/
def takeSlot (via : Transport) (s : State) : State :=
  match viaRing? via with
  | none => s
  | some n =>
    let s := { s with out.sqReads := s.out.sqReads ++ [(s.ring n).sqAddr (s.ring n).sqHead] }
    s.modRing n fun r =>
      { r with
        sqHead := ringAdd r.sqOrder r.sqHead 1
        sqTail := if r.sqTail = r.sqHead then ringAdd r.sqOrder r.sqTail 1 else r.sqTail }

/-- The command that a packet becomes, with its fetch sequence number (R97). -/
def mkCmd (opcode : Nat) (p : Packet) (seq sqIndex : Nat) (s : State) : HostCmd :=
  { opcode := opcode, session := (viaSession p.via), inst := (s.sess (viaSession p.via)).inst, fetchSeq := seq,
    sqIndex := sqIndex, fetchedAt := s.clock, packet := p }

/-- The refusal of a packet fetched for a session that is not open (R121): fetch_seq 0, no tag in flight. -/
def refuseClosed (c : HostCmd) (s : State) : State :=
  countEvents 0x0001 none 1 (post c.packet.via (cmdEntry { c with fetchSeq := 0 } erState 0xFFFF0101 false []) s)

/-- HW_IDENT.EDITIONS (Table Host-8). -/
def moduleEditions : Nat := 7

/-- The highest edition common to a set and the module's, 0 for none (R115). -/
def commonEdition (set : Nat) : Nat :=
  if set.testBit 2 then 3 else if set.testBit 1 then 2 else if set.testBit 0 then 1 else 0

/-- The flow of a command (R99, R185, Table Sched-3). -/
def cmdFlow (opcode : Nat) (ps : List Byte) (s : State) : Nat × Nat :=
  match cmdNode opcode ps with
  | some n =>
    match tget s.ctl.conns n with
    | some c => (c.flow, n)
    | none => (if opcode / 256 = 4 ∨ opcode / 256 = 9 then 0x0880 else 0x0800 + opcode / 256, n)
  | none => (0x0800 + opcode / 256, 0)

/-- The command's packet enters the command queue of its session, and its item its flow (Table Sched-2, kind 7,
Table Peat-2). SLUICE.STOP passes to the supervisor island without Milliner (R302). -/
def queueCommand (c : HostCmd) (s : State) : State :=
  let q := 0x810 + c.session
  let m := 32 + c.packet.params.length
  match commitPacket q m 0 0 (List.replicate 32 0 ++ c.packet.params) s with
  | none => s
  | some (cell, s) =>
    if c.opcode = 0x0803 then freeByCell q cell s
    else
      let (f, n) := cmdFlow c.opcode c.packet.params s
      enqueue { newItem 7 f n with
        queue := some q, cell := some cell, cmd := some (c.session, c.packet.tag, c.opcode, c.fetchSeq) } s

/-- The item of a command is served: it starts and is done in the step in which its command starts, or it is in service already,
on a core that ends it later. -/
def serveItem (c : HostCmd) (s : State) : State :=
  match s.cmdItem c with
  | some i =>
    match i.core, s.takesItem i with
    | some _, _ => actedOn i s
    | none, some k => serveOn k i s
    | none, none => s
  | none => s

/-- Whether the item of a command is in service or can start now: it heads its flow and a core takes it (R24, R26, R357). -/
def State.itemTurn (s : State) (c : HostCmd) : Bool :=
  match s.cmdItem c with
  | some i => (i.core.isSome && !i.acted) || (s.takesItem i).isSome
  | none => true

/-- A fetched packet that no open session carries, or that passes, or not, steps 1 to 4; when it passes, its command
is in flight, not yet started (R98, R101, R103, R121). -/
def admitPacket (opcode : Nat) (p : Packet) (s : State) : State × Option HostCmd :=
  let sq := s.sqIndexOf p.via
  let s := countEvents 0x0001 none 1 (takeSlot p.via s)
  let n := s.sess (viaSession p.via)
  let seq := n.lastSeq + 1
  let s := s.modSess (viaSession p.via) fun n => { n with lastSeq := seq }
  let c := mkCmd opcode p seq sq s
  match checkPacket opcode p s with
  | some (st, d) => (post p.via (cmdEntry c st d false []) s, none)
  | none =>
    (queueCommand c (s.modSess (viaSession p.via) fun n => { n with inFlight := n.inFlight ++ [⟨c, .fetched, [], none⟩] }),
      some c)

/-- A command may start when fences let it, when earlier commands on its objects have taken their effect, and when its item's
turn on its flow has come (Table Host-2, R26, R99). -/
def State.mayStart (s : State) (c : HostCmd) : Bool := s.fencesPass c && s.objectsFree c && s.itemTurn c

/-- Whether the deadline of a command has passed (Table Host-2). -/
def State.late (s : State) (c : HostCmd) : Bool :=
  c.packet.deadline != 0 && decide (c.packet.deadline * tickMs < s.clock - c.fetchedAt)

/-- Whether a command names a member whose handover is in progress at this source (R413). The detail word of its
refusal is a free value (log 22). -/
def State.inHandover (s : State) (c : HostCmd) : Bool :=
  match cmdNode c.opcode c.packet.params with
  | some n => s.ctl.handovers.sources.any fun h => h.node == n
  | none => false

/-- The queue of a command packet that an uncorrectable word has spoiled (R380). -/
def State.spoiled (s : State) (c : HostCmd) : Option Nat :=
  (s.cmdItem c).bind fun i => match i.queue, i.cell with
    | some q, some k => if (s.packetAt q k).any (·.poison) then some q else none
    | _, _ => none

/-- A command in flight has started. -/
def markStarted (c : HostCmd) (s : State) : State :=
  s.modSess c.session fun n =>
    { n with inFlight := n.inFlight.map fun f =>
        if f.cmd.fetchSeq = c.fetchSeq then { f with phase := .started } else f }

/-- The refusal of a command whose member is in handover (log 22). -/
def refuseInHandover (c : HostCmd) (s : State) : State :=
  let (k, s) := s.draw
  finish c erBusy (Config.sense 6 k % 2 ^ 32) [] s

/-- A command starts: refused with ER_TIMEOUT when its deadline has passed (R94), else run to its result. -/
def startCmd (run : HostCmd → State → CmdResult) (c : HostCmd) (s : State) : State :=
  let s := serveItem c s
  if s.late c then finish c erTimeout 0 [] s
  else if s.inHandover c then refuseInHandover c s
  else
    let s := markStarted c s
    conclude c s (run c s)

/-- A command that started with the service of its item runs to its result, whatever its deadline and whatever becomes of its session
(R94, R110). -/
def runStarted (run : HostCmd → State → CmdResult) (c : HostCmd) (s : State) : State :=
  if s.inHandover c then refuseInHandover c s else conclude c s (run c s)

/-- The command of an item whose service begins on a core starts with it, to run with the item; or it is refused, and the item has had
its effect: ER_INTEGRITY when its packet is poisoned (R380), ER_TIMEOUT when its deadline has passed (R94). -/
def beginItem (i : WorkItem) (s : State) : State :=
  match i.kind == 7, s.itemCmd i with
  | true, some c =>
    match s.spoiled c with
    | some q => finish c erIntegrity q [] (actedOn i s)
    | none =>
      if s.late c then finish c erTimeout 0 [] (actedOn i s)
      else (markStarted c s).modFlow i.flow fun f =>
        { f with items := f.items.map fun x => if x.id = i.id then { x with run := some c } else x }
  | _, _ => s

/-- The path of a command packet other than SESSION.OPEN, from its transport to its completion, when the command
starts at once (R94 to R107). A packet that cannot be fetched waits in the host's ring: nothing changes. -/
def serve (opcode : Nat) (run : HostCmd → State → CmdResult) (p : Packet) (s : State) : State :=
  if !s.canFetch p.via then s
  else if !s.openOn p.via then
    let c := mkCmd opcode p 0 (s.sqIndexOf p.via) s
    refuseClosed c (takeSlot p.via s)
  else if 0xFFFFFFFF ≤ (s.sess (viaSession p.via)).lastSeq + 1 then
    endSession (viaSession p.via) 2 (countEvents 0x0001 none 1 (takeSlot p.via s))
  else
    match admitPacket opcode p s with
    | (s, none) => s
    | (s, some c) => if s.mayStart c then startCmd run c s else s

end Sys2Proof.Machine
end

