-- ==== Sys2Proof/Machine/Sched.lean ====
section
/-! DEFINITION.
Milliner: cores, dispatch, delay lists and their opcodes (chapter 14).
-/

namespace Sys2Proof.Machine

/-! ### Cores -/

/-- Cores out of service or leaving it. -/
def State.coresOut (s : State) : Nat :=
  (s.vol.sched.cores.filter fun c => match c.state with
    | .out => true
    | .leaving _ _ => true
    | _ => false).length

/-- State of a core as SCHED.STATUS codes it. -/
def coreCode : CoreState → Nat
  | .idle => 0
  | .busy _ p => if 5 ≤ p then 1 else if 2 ≤ p then 2 else 3
  | .leaving _ _ => 4
  | .out => 5
  | .parked => 6

/-- Affinities held for a core that leaves, parks or returns are released (R362). -/
def releaseAffinity (k : Nat) (s : State) : State :=
  { s with vol.sched.flows := s.vol.sched.flows.map fun e =>
      (e.1, if e.2.lastCore = some k then { e.2 with lastCore := none } else e.2) }

/-- The core in service while one core alone is: the lowest that was not out of service when the others parked (R360), which is the
lowest that is idle or busy; with none, the lowest that is not out. -/
def State.soleCore (s : State) : Option Nat :=
  ((List.range 16).find? fun k => match (s.core k).state with
    | .idle => true
    | .busy _ _ => true
    | _ => false).or ((List.range 16).find? fun k => !s.cfg.sched.outMask.testBit k)

/-- Idle cores beside the sole core park; a busy one parks when its item is done (R357, R360). -/
def parkCores (s : State) : State :=
  (List.range 16).foldl (fun s k =>
    if some k = s.soleCore then s
    else match (s.core k).state with
      | .idle => releaseAffinity k (s.modCore k fun c => { c with state := .parked })
      | _ => s) s

/-- Parked cores that are not out of service return to service (R360). -/
def unparkCores (s : State) : State :=
  (List.range 16).foldl (fun s k =>
    match (s.core k).state with
    | .parked => if s.cfg.sched.outMask.testBit k then s
        else releaseAffinity k (s.modCore k fun c => { c with state := .idle })
    | _ => s) s

/-! ### Dispatch (R361) -/

/-- The ready flows of a priority whose heads may start, in list order (R358). -/
def State.readyList (s : State) (p : Nat) : List (Nat × Flow) :=
  (s.vol.sched.flows.filter fun e => s.startable e.2 && e.2.prio == p).mergeSort
    fun a b => decide (a.2.readyAt < b.2.readyAt) || (a.2.readyAt == b.2.readyAt && decide (a.1 ≤ b.1))

/-- The flow that core `k` takes, looking at priorities `p - 1` downwards: the first of a ready list that is not held for another core,
and that goes to no other idle core. -/
def chooseFrom (s : State) (k : Nat) : Nat → Option Nat
  | 0 => none
  | p + 1 =>
    if s.reserved p then none
    else
      match (s.readyList p).find? fun e => !s.heldForOther k e.2 && s.coreFor e.2.lastCore == some k with
      | some e => some e.1
      | none => chooseFrom s k p

/-- The head item of flow `f` starts on core `k`, and with it its command (R94, R357). -/
def startItem (k f : Nat) (s : State) : State :=
  match (s.flow f).items with
  | [] => s
  | i :: t =>
    let s := if (s.flow f).lastCore = some k then countEvents 0x0103 (some f) 1 s else s
    let s := countWait i s
    let now := s.mtb
    let i := { i with core := some k, start := some now }
    let s := s.modFlow f fun x => { x with items := i :: t, lastCore := some k }
    beginItem i (s.modCore k fun c => { c with state := .busy f i.prio, busySince := now })

/-- An idle core in service chooses an eligible item. -/
def dispatch (k : Nat) (s : State) : State :=
  match (s.core k).state with
  | .idle =>
    match chooseFrom s k 8 with
    | some f => startItem k f s
    | none => s
  | _ => s

def execCoreDispatch (core : Nat) (s : State) : Host.Outcome State Fault Refusal := .next (dispatch core s)

/-- Whether the affinity window of a ready flow has passed (R361). -/
def State.windowOver (s : State) (f : Flow) : Bool := decide (f.readyAt + f.window * 1600 ≤ s.mtb)

/-- When a flow's affinity window has expired, the lowest idle core takes it, subject to R359. -/
def execAffinityWindowExpiry (flow : Nat) (s : State) : Host.Outcome State Fault Refusal :=
  let f := s.flow flow
  match s.idleCore with
  | some k =>
    if s.startable f && s.windowOver f && !s.reserved f.prio && !s.comesBefore k flow f.readyAt f.prio then .next (startItem k flow s)
    else .next s
  | none => .next s

/-! ### Taking cores out of service (R364 to R366) -/

/-- Reply data of SCHED.CORE. -/
def coreReply (k : Nat) (s : State) : List Byte :=
  leBytes 1 s.coresIn ++ leBytes 1 (coreCode (s.core k).state) ++ zeros 2

/-- The out-of-service mark of a core. -/
def markOut (k : Nat) (b : Bool) (s : State) : State :=
  { s with ctl.cfg.sched.outMask := setBit s.cfg.sched.outMask k b }

/-- The checks of SCHED.CORE. -/
def coreError (k op : Nat) (s : State) : Option (Nat × Nat) :=
  let gone := match (s.core k).state with
    | .out => true
    | .leaving _ _ => true
    | _ => false
  if op = 0 then
    if gone then some (erState, 1)
    else if s.ctl.mode == .idle && s.soleCore == some k then some (erState, 2)
    else if 16 - s.coresOut ≤ 8 then some (erCapacity, 16 - s.coresOut)
    else none
  else if gone then none else some (erState, 0)

/-- A core goes out at once, or begins to leave, and releases the affinities held for it (R362, R365). -/
def leaveCore (k : Nat) (s : State) : State :=
  (releaseAffinity k s).modCore k fun c => { c with state := match c.state with
    | .busy f p => .leaving f p
    | .leaving f p => .leaving f p
    | _ => .out }

/-- SCHED.CORE takes a core out, which is marked (R364, R365). -/
def takeOut (k : Nat) (s : State) : State := leaveCore k (markOut k true s)

/-- A core that is out returns to service, or, while one core alone is in service, is marked and stays parked (R366). -/
def putBack (k : Nat) (s : State) : State :=
  let s := releaseAffinity k (markOut k false s)
  s.modCore k fun c => { c with state := if s.oneCore && s.coresIn != 0 then .parked else .idle }

/-- A SCHED.CORE command on a core that is not leaving; true when the core now leaves and the command waits. -/
def coreCommand (c : HostCmd) (s : State) : State × Bool :=
  let k := fld c.packet.params 0 1
  let op := fld c.packet.params 1 1
  match coreError k op s with
  | some (st, d) => (finish c st d [] s, false)
  | none =>
    let s := if op = 0 then takeOut k s else putBack k s
    match (s.core k).state with
    | .leaving _ _ => (s.modCore k fun w => { w with cmds := [c] }, true)
    | _ => (finish c 1 0 (coreReply k s) s, false)

/-- The commands that waited for a core are served in fetch order (R366). -/
def coreCommands : List HostCmd → State → State
  | [], s => s
  | c :: t, s =>
    match coreCommand c s with
    | (s, false) => coreCommands t s
    | (s, true) => (markEffected c s).modCore (fld c.packet.params 0 1) fun w => { w with cmds := w.cmds ++ t }

def runSchedCore (c : HostCmd) (s : State) : CmdResult :=
  let k := fld c.packet.params 0 1
  let op := fld c.packet.params 1 1
  match (s.core k).state with
  | .leaving _ _ =>
    if op = 0 && !(s.core k).cmds.any fun w => fld w.packet.params 1 1 == 1 then .refuse erState 1
    else .deferred (s.modCore k fun w => { w with cmds := w.cmds ++ [c] })
  | _ =>
    match coreError k op s with
    | some (st, d) => .refuse st d
    | none => .deferred (coreCommand c s).1

/-- A core's item is done: the core becomes idle, parked, or out. The command that took it out completes, and the commands that wait for
it are served (R365, R366). -/
def coreDone (k : Nat) (s : State) : State :=
  let now := s.mtb
  let w := s.core k
  let f := match w.state with
    | .busy f _ => some f
    | .leaving f _ => some f
    | _ => none
  match f with
  | none => s
  | some f =>
    let s := countEvents 0x0101 (some f) (now - w.busySince) s
    let s := s.modCore k fun c =>
      { c with spans := (c.busySince, now) :: (c.spans.filter fun e => decide (now < e.2 + 2 * tickS)) }
    let s := match (s.flow f).items.find? fun i => i.core == some k with
      | some i => itemDone i s
      | none => s
    match w.state with
    | .leaving _ _ =>
      let s := s.modCore k fun c => { c with state := .out, cmds := [] }
      let s := s.modFlow f fun x => { x with lastCore := none }
      match w.cmds with
      | [] => s
      | c :: t =>
        if fld c.packet.params 1 1 = 0 then coreCommands t (finish c 1 0 (coreReply k s) s) else coreCommands (c :: t) s
    | _ =>
      if s.oneCore && s.soleCore != some k then
        releaseAffinity k (s.modCore k fun c => { c with state := .parked })
      else s.modCore k fun c => { c with state := .idle }

/-! ### Delay lists (R367) -/

/-- Every timer due by now queues its item, in order of due time, then of arming (R367). -/
def fireTimers (s : State) : State :=
  let now := s.mtb
  let due := (s.vol.sched.timers.filter fun t => decide (t.due ≤ now)).mergeSort fun a b => decide (a.due ≤ b.due)
  let s := { s with vol.sched.timers := s.vol.sched.timers.filter fun t => !decide (t.due ≤ now) }
  due.foldl (fun s t => enqueue t.item s) s

/-- MTB ticks to the delay lists' 10 µs tick at which a timer that is due at `due` fires. -/
def State.ticksTo (s : State) (due : Nat) : Nat := (max due (s.mtb + 1) + 15999) / 16000 * 16000 - s.mtb

/-- MTB passes to its next 10 µs tick, and the timers due fire. -/
def execDelayListTick (s : State) : Host.Outcome State Fault Refusal := .next (fireTimers (passTicks (16000 - s.mtb % 16000) s))

/-! ### Opcodes -/

def runSchedConfig (c : HostCmd) (s : State) : CmdResult :=
  .accepted { s with ctl.cfg.sched := { s.cfg.sched with
    affinityUs := fld c.packet.params 0 2, starveUs := fld c.packet.params 2 2 } } []

/-- Ticks of the spans that fall within [lo, hi). -/
def spanTicks (lo hi : Nat) (l : List (Nat × Nat)) : Nat := (l.map fun e => min e.2 hi - max e.1 lo).sum

/-- The busy fraction of a core over the last completed second of MTB, in per-mille (R369). -/
def State.busyPermille (s : State) (w : WorkCore) : Nat :=
  let now := s.mtb
  let sec := now / tickS
  if sec = 0 then 0
  else
    let run := match w.state with
      | .busy _ _ => [(w.busySince, now)]
      | .leaving _ _ => [(w.busySince, now)]
      | _ => []
    spanTicks ((sec - 1) * tickS) (sec * tickS) (run ++ w.spans) * 1000 / tickS

def schedStatus (s : State) : List Byte :=
  let v := s.vol.sched
  leBytes 1 s.coresIn ++ leBytes 1 s.coresOut ++
    leBytes 1 (v.cores.filter fun c => c.state == .parked).length ++ leBytes 1 s.ncLimit ++
    leBytes 2 v.timers.length ++ leBytes 2 (sat 16 v.timersPeak) ++ leBytes 4 v.refusals ++ leBytes 4 v.starvations ++
    v.cores.flatMap (fun c => leBytes 1 (coreCode c.state) ++ leBytes 2 (s.busyPermille c) ++ zeros 1) ++
    v.prios.flatMap fun p => leBytes 4 p.now ++ leBytes 4 p.peak

def runSchedStatus (c : HostCmd) (s : State) : CmdResult :=
  let reply := schedStatus s
  if fld c.packet.params 0 1 = 1 then
    let v := s.vol.sched
    .ok { s with vol.sched := { v with
      prios := v.prios.map fun p => { p with peak := p.now }, timersPeak := v.timers.length, refusals := 0,
      starvations := 0 } } reply
  else .ok s reply

/-- The priorities that SCHED.HIST selects. -/
def histPrios (p : Nat) : List Nat := if p = 0xFF then List.range 8 else [p]

def runSchedHist (c : HostCmd) (s : State) : CmdResult :=
  let ps := histPrios (fld c.packet.params 0 1)
  let reply := ps.flatMap fun p => (s.vol.sched.prios.getD p PrioCount.zero).hist.flatMap fun n => leBytes 4 n
  if fld c.packet.params 1 1 = 1 then
    .ok (ps.foldl (fun s p => s.modPrio p fun x => { x with hist := List.replicate 16 0 }) s) reply
  else .ok s reply

/-- Whether a flow number is used (R355, Table Sched-3). -/
def internalFlow (f : Nat) : Bool :=
  (decide (0x801 ≤ f) && decide (f ≤ 0x814)) || (decide (0x880 ≤ f) && decide (f ≤ 0x884)) ||
    (decide (0x900 ≤ f) && decide (f ≤ 0x97F))

/-- One flow as SCHED.FLOW_READ gives it. -/
def flowBytes (s : State) (f : Nat) : List Byte :=
  let x := s.flow f
  let state := match x.items with
    | [] => if x.member then 1 else 0
    | [i] => if i.core.isSome then 3 else 2
    | i :: _ => if i.core.isSome then 4 else 2
  let use := if internalFlow f then 2 else if x.member then 1 else 0
  leBytes 1 state ++ leBytes 1 (if x.items.isEmpty then 0xFF else x.prio) ++ leBytes 1 (x.lastCore.getD 0xFF) ++
    leBytes 1 use ++ leBytes 2 (if x.member then x.node else 0) ++ leBytes 2 (sat 16 x.items.length) ++
    leBytes 4 x.done ++ leBytes 4 x.maxWait

def runSchedFlowRead (c : HostCmd) (s : State) : CmdResult :=
  let first := fld c.packet.params 0 2
  let n := fld c.packet.params 2 2
  if 4096 < first + n then .refuse erRange 2
  else
    let fs := (List.range n).map (first + ·)
    let reply := fs.flatMap (flowBytes s)
    if fld c.packet.params 4 1 = 1 then
      .ok { s with vol.sched.flows := s.vol.sched.flows.map fun e =>
        (e.1, if first ≤ e.1 ∧ e.1 < first + n then { e.2 with done := 0, maxWait := 0 } else e.2) } reply
    else .ok s reply

/-- Whether the packet of an item is poisoned (R380). -/
def State.itemPoisoned (s : State) (i : WorkItem) : Bool :=
  match i.queue, i.cell with
  | some q, some c => (s.packetAt q c).any (·.poison)
  | _, _ => false

/-- A descriptor as read (Table Sched-6). -/
def itemBytes (s : State) (i : WorkItem) : List Byte :=
  let ns := fun t : Nat => t * 5 / 8
  leBytes 2 i.flow ++ leBytes 1 i.kind ++
    leBytes 1 (i.prio + 8 * b2n i.core.isSome + 16 * b2n i.timer + 32 * b2n (s.itemPoisoned i)) ++ leBytes 2 i.node ++
    leBytes 1 (i.core.getD 0xFF) ++ zeros 1 ++ leBytes 8 (ns i.enq) ++ leBytes 8 (ns (i.start.getD 0)) ++
    leBytes 2 (i.queue.getD 0xFFFF) ++ zeros 2 ++ leBytes 4 ((i.cell.map firstCell).getD 0xFFFFFFFF) ++
    (match i.cmd with
     | some (k, t, o, q) => leBytes 2 (k * 256 + t) ++ leBytes 2 o ++ leBytes 4 q
     | none => leBytes 2 0xFFFF ++ leBytes 2 0 ++ leBytes 4 0) ++ slice i.args 0 24

def runSchedItemRead (c : HostCmd) (s : State) : CmdResult :=
  let is := (s.flow (fld c.packet.params 0 2)).items.take 8
  .ok s (leBytes 1 is.length ++ zeros 3 ++ is.flatMap (itemBytes s))

def execSchedConfig (p : Packet) (s : State) : Host.Outcome State Fault Refusal := .next (serve 0x0B01 runSchedConfig p s)
def execSchedCore (p : Packet) (s : State) : Host.Outcome State Fault Refusal := .next (serve 0x0B02 runSchedCore p s)
def execSchedStatus (p : Packet) (s : State) : Host.Outcome State Fault Refusal := .next (serve 0x0B03 runSchedStatus p s)
def execSchedHist (p : Packet) (s : State) : Host.Outcome State Fault Refusal := .next (serve 0x0B04 runSchedHist p s)
def execSchedFlowRead (p : Packet) (s : State) : Host.Outcome State Fault Refusal :=
  .next (serve 0x0B05 runSchedFlowRead p s)
def execSchedItemRead (p : Packet) (s : State) : Host.Outcome State Fault Refusal :=
  .next (serve 0x0B06 runSchedItemRead p s)

end Sys2Proof.Machine
end

