-- ==== Sys2Proof/Machine/Peat.lean ====
section
/-! DEFINITION.
The Peat pool's events and opcodes, and the host mailboxes (chapter 15).
-/

namespace Sys2Proof.Machine

/-! ### Host mailboxes (R382) -/

/-- One entry of a mailbox reply, padded to a multiple of 4 data bytes. -/
def mbxEntry (p : PeatPacket) : List Byte :=
  leBytes 2 p.data.length ++ leBytes 1 (b2n p.poison + 2 * b2n p.trunc + 4 * b2n p.lost) ++ leBytes 1 p.kind ++
    leBytes 2 p.node ++ zeros 2 ++ p.data ++ zeros ((4 - p.data.length % 4) % 4)

/-- The packets that fit `room` bytes of reply, at most `n`, in commit order. -/
def mbxFit (room : Nat) : Nat → List PeatPacket → List PeatPacket
  | 0, _ => []
  | _, [] => []
  | n + 1, p :: t => if (mbxEntry p).length ≤ room then p :: mbxFit (room - (mbxEntry p).length) n t else []

/-- A mailbox read completes with what the mailbox holds: the packets leave it in the same step. -/
def mbxComplete (c : HostCmd) (s : State) : State :=
  let m := fld c.packet.params 0 1
  let q := 0xC00 + m
  let ps := mbxFit 4056 (fld c.packet.params 1 1) (s.queue q).packets
  let s := ps.foldl (fun s p => unlink p (cellsRead q s)) s
  let s := watermarks (s.modQueue q fun k => { k with packets := k.packets.drop ps.length })
  let left := (s.queue q).packets.length
  let s := finish c 0 0 (leBytes 2 ps.length ++ leBytes 2 left ++ zeros 4 ++ ps.flatMap mbxEntry) s
  if ps.length ≠ 0 ∧ left ≠ 0 then mailboxSignal m s else s

/-- Reads of mailbox `m` that wait are served in fetch order while it holds packets. -/
def mbxServe (m : Nat) : Nat → State → State
  | 0, s => s
  | k + 1, s =>
    if (s.queue (0xC00 + m)).packets.isEmpty then s
    else
      match s.vol.peat.reads.find? fun r => r.mailbox == m with
      | none => s
      | some r =>
        let s := { s with vol.peat.reads := s.vol.peat.reads.eraseP fun x => x.mailbox == m }
        mbxServe m k (mbxComplete r.cmd s)

def runQueueMbxRead (c : HostCmd) (s : State) : CmdResult :=
  let m := fld c.packet.params 0 1
  let waits := s.vol.peat.reads.any fun r => r.mailbox == m
  if !waits && (!(s.queue (0xC00 + m)).packets.isEmpty || fld c.packet.params 2 2 == 0) then
    .deferred (mbxComplete c s)
  else .deferred { s with
    vol.peat.reads := s.vol.peat.reads ++ [{ cmd := c, mailbox := m, maxPkts := fld c.packet.params 1 1 }] }

/-- The wait of one read ends; without a packet its count is 0. -/
def execMbxReadWaitEnd (session tag : Nat) (s : State) : Host.Outcome State Fault Refusal :=
  let is := fun r : MbxRead => r.cmd.session == session && r.cmd.packet.tag == tag
  match s.vol.peat.reads.find? is with
  | none => .next s
  | some r => .next (mbxComplete r.cmd { s with vol.peat.reads := s.vol.peat.reads.eraseP is })

/-! ### Events -/

/-- The work item to which a packet of a reference queue is handed (Table Peat-2, R376), or the BASE item that reads the base epochs:
kind and flow. Items of a lane's receive queue follow the kind of the DATA frame. -/
def consumerOf (queue kind node : Nat) (s : State) : Option (Nat × Nat) :=
  if 0x800 ≤ queue ∧ queue < 0x808 then
    some (if kind = 1 ∨ kind = 2 then 1 else 2, ((tget s.ctl.conns node).map (·.flow)).getD 0x880)
  else if 0x810 ≤ queue ∧ queue < 0x814 then some (7, 0x801)
  else if queue = 0x820 then some (12, 0x884)
  else if queue = 0x831 ∨ queue = 0x833 then some (8, 0x900 + node % 128)
  else if 0x900 ≤ queue ∧ queue < 0x980 then some (8, queue)
  else none

/-- A committed packet reaches its consumer: a mailbox read that waits, or a work item, by reference on a reference queue (R376, R382). -/
def handOver (queue kind node cell : Nat) (s : State) : State :=
  match mailboxOf? queue, consumerOf queue kind node s with
  | some m, _ => mbxServe m (s.vol.peat.reads.length + 1) s
  | none, some (k, f) =>
    enqueue { newItem k f node with
      queue := if queue = 0x820 then none else some queue
      cell := if queue = 0x820 then none else some cell, args := beBytes 1 kind } s
  | none, none => s

/-- The refusal of a reservation acts by its producer (R379). -/
def refused (queue maxLen : Nat) (s : State) : State :=
  let s := refuseReserve queue maxLen s
  if queue < 0x800 then recordOther 0x0C 0 s
  else if queue < 0x814 then s
  else s.modQueue queue fun k => { k with dropped := satInc 32 k.dropped, lost := true }

/-- A producer commits a packet, which reaches its consumer, or is refused. -/
def produce (queue maxLen kind node : Nat) (data : List Byte) (s : State) : State :=
  match commitPacket queue maxLen kind node data s with
  | some (k, s) => handOver queue kind node k s
  | none => refused queue maxLen s

/-- A producer that has reserved a packet and holds no data for it, or more than the cells charged can take, abandons it (R373). -/
def reserveOnly (queue maxLen : Nat) (s : State) : State :=
  match reservePacket queue maxLen s with
  | some (k, s) => abandonPacket queue k s
  | none => refused queue maxLen s

/-- A single-bit error found and corrected, in a cell of a queue or in a free cell (R380). -/
def countCorrected (q : Nat) (s : State) : State :=
  let s := { s with vol.peat.corrected := satInc 32 s.vol.peat.corrected }
  let s := if queueListed q then s.modQueue q fun k => { k with corrected := satInc 32 k.corrected } else s
  countEvents 0x0902 none 1 s

/-- The link memory after a scrub pass: the entries of the chains that packets hold, a copy that could not be read rewritten from the
other (R381). -/
def State.linksSwept (s : State) : Tbl LinkEntry :=
  let held := s.vol.peat.queues.flatMap fun e => e.2.packets.flatMap s.chainOf
  (s.vol.peat.links.filter fun e => held.contains e.1).map fun e => (e.1, e.2.rewritten)

/-- The scrub pass: errors corrected (by queue, an unlisted number for free cells); cut cells return (R380, R381). -/
def execPoolScrub (corrected : List Nat) (s : State) : Host.Outcome State Fault Refusal :=
  let s := addCorrected (fun m => if m = 2 then corrected.length else 0) (corrected.foldl (fun s q => countCorrected q s) s)
  let s := { s with vol.peat.links := s.linksSwept }
  .next (watermarks { s with vol.peat := { s.vol.peat with orphans := 0, scrubAt := s.mtb } })

/-! ### Opcodes -/

def runQueueConfig (c : HostCmd) (s : State) : CmdResult :=
  let q := fld c.packet.params 0 2
  let cells := fld c.packet.params 4 4
  if decide (cells < 257) && decide (0x800 ≤ q) && (mailboxOf? q).isNone then .refuse erRange 4
  else
    let queues := tput s.cfg.peat.queues q ⟨fld c.packet.params 2 2, cells, fld c.packet.params 8 2⟩
    .accepted { s with ctl.cfg.peat := { s.cfg.peat with queues := queues } } []

def runQueuePool (c : HostCmd) (s : State) : CmdResult :=
  let warn := fld c.packet.params 0 4
  let floor := fld c.packet.params 4 4
  if warn < floor then .refuse erRange 4
  else
    let s := watermarks { s with ctl.cfg.peat := { s.cfg.peat with wmWarn := warn, wmFloor := floor } }
    .accepted s (leBytes 4 s.freeCells)

def runQueueStatus (_ : HostCmd) (s : State) : CmdResult :=
  let p := s.vol.peat
  .ok s (leBytes 4 s.freeCells ++ leBytes 4 p.minFree ++ leBytes 4 (p.queues.map fun e => e.2.cellsReserved).sum ++ leBytes 4 p.corrected ++
    leBytes 4 p.uncorrect ++ leBytes 4 p.truncated ++ leBytes 4 p.floorRef ++
    leBytes 4 (sat 32 ((s.mtb - p.scrubAt) / tickS)))

/-- One queue as QUEUE.READ gives it (Table Peat-4). -/
def queueBytes (s : State) (q : Nat) : List Byte :=
  if queueListed q then
    let k := s.queue q
    leBytes 2 k.packets.length ++ leBytes 2 k.peak ++ leBytes 4 k.cells ++ leBytes 4 k.committed ++
      leBytes 4 k.refused ++ leBytes 4 k.dropped ++ leBytes 4 k.corrected ++ leBytes 2 k.poisoned ++
      leBytes 2 k.stallOut ++ zeros 4
  else zeros 32

def runQueueRead (c : HostCmd) (s : State) : CmdResult :=
  let first := fld c.packet.params 0 2
  let n := fld c.packet.params 2 2
  if 4096 < first + n then .refuse erRange 2
  else
    let reply := ((List.range n).map (first + ·)).flatMap (queueBytes s)
    if fld c.packet.params 4 1 = 1 then
      .ok { s with vol.peat := { s.vol.peat with
        minFree := s.freeCells
        queues := s.vol.peat.queues.map fun e =>
          (e.1, if first ≤ e.1 ∧ e.1 < first + n then { e.2 with peak := e.2.packets.length } else e.2) } } reply
    else .ok s reply

def execQueueConfig (p : Packet) (s : State) : Host.Outcome State Fault Refusal := .next (serve 0x0C01 runQueueConfig p s)
def execQueuePool (p : Packet) (s : State) : Host.Outcome State Fault Refusal := .next (serve 0x0C02 runQueuePool p s)
def execQueueStatus (p : Packet) (s : State) : Host.Outcome State Fault Refusal := .next (serve 0x0C03 runQueueStatus p s)
def execQueueRead (p : Packet) (s : State) : Host.Outcome State Fault Refusal := .next (serve 0x0C04 runQueueRead p s)
def execQueueMbxRead (p : Packet) (s : State) : Host.Outcome State Fault Refusal :=
  .next (serve 0x0C05 runQueueMbxRead p s)

end Sys2Proof.Machine
end

