-- ==== Sys2Proof/Machine/Wader.lean ====
section
/-! DEFINITION.
Wader: capture ports, records, the site trigger bus and its calibration (chapter 16).
-/

namespace Sys2Proof.Machine

def PortRun.none : PortRun := PortRun.start .none

def State.port (s : State) (p : Nat) : PortRun := s.vol.wader.ports.getD p PortRun.none

def State.portSet (s : State) (p : Nat) : Option PortSettings := (s.cfg.wader.ports.getD p none)

def State.modPort (s : State) (p : Nat) (f : PortRun → PortRun) : State :=
  { s with vol.wader.ports := s.vol.wader.ports.modify p f }

/-- An armed port (R387). -/
def PortState.armed : PortState → Bool
  | .prefill => true
  | .waiting => true
  | .post => true
  | .waitRoom => true
  | _ => false

/-- The code of CAPTURE.STATUS. -/
def portCode : PortState → Nat
  | .unconfigured => 0
  | .idle => 1
  | .prefill => 2
  | .waiting => 3
  | .post => 4
  | .waitRoom => 5
  | .overflow => 6

/-! ### Record memory (R386, R394) -/

/-- Bytes of a sample (R385). -/
def sampleBytes (c : PortSettings) : Nat := if c.format = 0 then 4 else 2

/-- Bytes of a record of `n` samples (R386). -/
def recordBytes (c : PortSettings) (n : Nat) : Nat := 96 + n * sampleBytes c

/-- Blocks of a record that are not free: each record begins on a block, and a block is freed once every byte in it has
been committed (R394). -/
def blocksHeld (r : CapRecord) : Nat := ceilDiv r.bytes.length 4096 - r.sent / 4096

/-- Free blocks of a port's share. -/
def roomBlocks (c : PortSettings) (r : PortRun) : Nat := c.blocks - (r.records.map blocksHeld).sum

/-- Whether the share has free room for a whole record. -/
def hasRoom (c : PortSettings) (r : PortRun) : Bool := decide (ceilDiv (recordBytes c c.n) 4096 ≤ roomBlocks c r)

/-- Blocks of all shares. -/
def State.blocksAssigned (s : State) : Nat := (s.cfg.wader.ports.map fun p => (p.map (·.blocks)).getD 0).sum

/-! ### Records (R389, R397) -/

/-- The centre of a source, in kHz (Tables Wader-1 and GNSS-1). The middle of the passband is DEDUCED (log 12). -/
def sourceCentre (src : Nat) (s : State) : Nat :=
  if src = 0 then 1576000
  else if src = 1 then Config.centreG1G2.toNat
  else if src = 2 then 1202000
  else if src = 3 then 1274000
  else (s.cfg.radio.lanes.getD (src - 8) LaneSettings.factory).centre

/-- A sealed record of `n` samples (Table Wader-5). The samples and their measurements are free values (log 13). -/
def sealRecord (p n pre : Nat) (c : PortSettings) (overflow truncated : Bool) (s : State) : CapRecord × State :=
  let r := s.port p
  let (k, s) := s.draw
  let smp := slice (Config.samples k) 0 (n * sampleBytes c)
  let t := r.trigger.getD ⟨0, none, 0, 0, false, false⟩
  let seq := (s.vol.wader.seq + 1) % 2 ^ 32
  let flags := b2n c.timing + 2 * b2n overflow + 4 * b2n r.reduced + 8 * b2n t.drove +
    16 * b2n (Config.flag 1 k) + 32 * b2n (Config.flag 2 k) + 64 * b2n truncated + 128 * b2n t.uncal
  let gap := match r.lastEnd with
    | none => 0
    | some e => sat 32 ((s.mtb - e) / tickMs)
  let m := fun i => Config.measure i smp
  let head := leBytes 4 seq ++ leBytes 1 p ++ leBytes 1 c.source ++ leBytes 1 flags ++ leBytes 1 r.d ++ leBytes 4 n ++
    leBytes 4 pre ++ timeBytes t.stb ++ leBytes 4 t.fracPs ++ leBytes 4 (Config.sense 3 k) ++ leBytes 8 t.mtbNs ++
    leBytes 1 t.kinds ++ leBytes 1 (c.format + 16 * c.shift) ++ leBytes 2 r.ignoredRec ++ leBytes 2 (m 0) ++
    leBytes 2 (m 1) ++ leBytes 4 (m 2) ++ leBytes 4 (m 3) ++ leBytes 4 (m 4) ++ leBytes 4 (m 5) ++ leBytes 2 (m 6) ++
    zeros 2 ++ leBytes 4 (sourceCentre c.source s) ++ leBytes 4 gap ++ zeros 12
  ({ seq := seq, bytes := head ++ leBytes 4 (crc32c (head ++ smp)) ++ smp, sent := 0 },
   countEvents 0x0C01 none n { s with vol.wader.seq := seq })

/-- Samples before the trigger (R387). -/
def preSamples (c : PortSettings) : Nat := c.n * c.prePct / 100

/-- A record is sealed into its port. -/
def addRecord (p n pre : Nat) (c : PortSettings) (overflow truncated : Bool) (s : State) : State :=
  let (r, s) := sealRecord p n pre c overflow truncated s
  let now := s.mtb
  s.modPort p fun x =>
    { x with records := x.records ++ [r], sealedNo := satInc 32 x.sealedNo, lastSeq := r.seq, trigger := none,
             ignoredRec := 0, lastEnd := some now }

/-- CAPTURE.EVENT. -/
def captureEvent (p kind : Nat) (s : State) : State :=
  let r := s.port p
  sendMsg 0x0D80 (leBytes 1 p ++ leBytes 1 kind ++ leBytes 1 r.d ++ zeros 1 ++ leBytes 4 r.lastSeq ++
    leBytes 8 s.mtbNs) s

/-- An armed port stops on a cause of R396: post-trigger samples are sealed, anything else is discarded. -/
def stopPort (cause p : Nat) (s : State) : State :=
  match s.portSet p with
  | none => s
  | some c =>
    let r := s.port p
    if r.state.armed then
      let s :=
        if r.state = .post then
          let (k, s) := s.draw
          addRecord p (preSamples c + Config.sense 4 k % (c.n - preSamples c + 1)) (preSamples c) c false true s
        else s
      captureEvent p (cause + 1) (s.modPort p fun x => { x with state := .idle, trigger := none, ignoredRec := 0 })
    else s

/-- Every armed port whose source satisfies `f` stops. -/
def stopPorts (cause : Nat) (f : Nat → Bool) (s : State) : State :=
  (List.range 4).foldl (fun s p =>
    match s.portSet p with
    | some c => if f c.source then stopPort cause p s else s
    | none => s) s

/-! ### Triggers and the site bus (R387 to R391) -/

/-- A trigger that a port ignores is counted (R387). -/
def ignoreTrigger (p : Nat) (s : State) : State :=
  s.modPort p fun x => { x with ignored := satInc 32 x.ignored, ignoredRec := satInc 16 x.ignoredRec }

/-- A waiting port takes a trigger and enters post-trigger. -/
def takeTrigger (p : Nat) (t : TriggerRec) (s : State) : State :=
  s.modPort p fun x => { x with state := .post, trigger := some t }

/-- A trigger of the kinds `kinds` reaches a port; true when it is accepted. -/
def trigger (p : Nat) (t : TriggerRec) (s : State) : Bool × State :=
  let r := s.port p
  if r.state == .waiting then (true, takeTrigger p t s)
  else if r.state.armed then (false, ignoreTrigger p s)
  else (false, s)

/-- Every port with bit 4 takes the bus trigger (R391), unless the receiver is disabled. -/
def busTrigger (t : TriggerRec) (s : State) : State :=
  if s.cfg.wader.rxEnable then
    (List.range 4).foldl (fun s p =>
      match s.portSet p with
      | some c => if c.mask.testBit 4 then (trigger p t s).2 else s
      | none => s) s
  else s

/-- The side drives one bus edge, which its own bus-triggered ports take with a delay of zero (R390, R391). -/
def driveBus (s : State) : State :=
  if s.cfg.wader.txEnable && s.hsw.active.isSome then
    let now := s.mtbNs
    busTrigger ⟨16, s.ctl.time.stb, now, 0, true, false⟩
      { s with vol.wader := { s.vol.wader with driven := s.vol.wader.driven + 1, lastEdge := some now } }
  else s

/-- Trigger kinds 0 to 3 fire on a port; with trg_out it drives the bus. -/
def fireTrigger (p kinds : Nat) (s : State) : Bool × State :=
  match s.portSet p with
  | none => (false, s)
  | some c =>
    let ks := kinds % 16 &&& c.mask
    if ks = 0 then (false, s)
    else
      let drives := c.trgOut && s.cfg.wader.txEnable && s.hsw.active.isSome
      match trigger p ⟨ks, s.ctl.time.stb, s.mtbNs, 0, drives, false⟩ s with
      | (true, s) => (true, if c.trgOut then driveBus s else s)
      | r => r

def execCapturePrefillComplete (port : Nat) (s : State) : Host.Outcome State Fault Refusal :=
  if (s.port port).state = .prefill then .next (s.modPort port fun x => { x with state := .waiting })
  else .next s

def execCaptureTriggerFired (port kinds : Nat) (s : State) : Host.Outcome State Fault Refusal :=
  .next (fireTrigger port (kinds % 16 / 2 * 2) s).2

/-- The sealed record's port disarms, re-arms, waits for room or stops (R387, R395). -/
def recordComplete (p : Nat) (c : PortSettings) (s : State) : State :=
  let pre := preSamples c
  if !c.repeated then (addRecord p c.n pre c false false s).modPort p fun x => { x with state := .idle }
  else
    let held := ceilDiv (recordBytes c c.n) 4096
    let room := decide (held ≤ roomBlocks c (s.port p) - held)
    let s := addRecord p c.n pre c (!room && c.timing) false s
    if room then s.modPort p fun x => { x with state := .prefill }
    else if c.timing then captureEvent p 3 (s.modPort p fun x => { x with state := .overflow })
    else
      let raise := decide ((s.port p).d < 6)
      let s := s.modPort p fun x =>
        { x with state := .waitRoom, d := if raise then x.d + 1 else x.d, reduced := x.reduced || raise }
      if raise then captureEvent p 1 s else s

def execCaptureRecordComplete (port : Nat) (s : State) : Host.Outcome State Fault Refusal :=
  match s.portSet port with
  | some c => if (s.port port).state = .post then .next (recordComplete port c s) else .next s
  | none => .next s

/-- One part of a record: its packet data and the record after it (Table Wader-4). -/
def recordPart (p : Nat) (r : CapRecord) : List Byte :=
  leBytes 4 r.seq ++ leBytes 1 p ++ zeros 1 ++ leBytes 2 (r.sent / 4032) ++ leBytes 2 (ceilDiv r.bytes.length 4032) ++
    zeros 2 ++ leBytes 4 r.sent ++ (r.bytes.drop r.sent).take 4032

/-- The next packet of a port that the pool grants. -/
def drainable (p : Nat) (s : State) : Option (Nat × List Byte) :=
  match s.portSet p, (s.port p).records with
  | some c, r :: _ =>
    let d := recordPart p r
    if s.poolGrants (0xC00 + c.mailbox) d.length then some (c.mailbox, d) else none
  | _, _ => none

/-- One packet moves to its mailbox; ports are served round robin (R394). -/
def execCaptureRecordDrain (s : State) : Host.Outcome State Fault Refusal :=
  let order := (List.range 4).map fun k => (s.vol.wader.turn + k) % 4
  match order.find? fun p => (drainable p s).isSome with
  | none => .next s
  | some p =>
    match drainable p s with
    | none => .next s
    | some (m, d) =>
      let s := produce (0xC00 + m) d.length (0xD0 + p) 0 d s
      let s := s.modPort p fun x =>
        { x with records := match x.records with
            | [] => []
            | r :: t =>
              let sent := r.sent + (d.length - 16)
              if r.bytes.length ≤ sent then t else { r with sent := sent } :: t }
      .next { s with vol.wader.turn := (p + 1) % 4 }

def execCaptureRoomAvailable (port : Nat) (s : State) : Host.Outcome State Fault Refusal :=
  match s.portSet port with
  | some c =>
    if (s.port port).state = .waitRoom ∧ hasRoom c (s.port port) then
      .next (s.modPort port fun x => { x with state := .prefill })
    else .next s
  | none => .next s

/-- The bus_id whose pulse width, 100 ns + 25 ns × bus_id, lies within 5 ns (R390). -/
def busIdOf (widthPs : Nat) : Option Nat :=
  (List.range 32).find? fun k => decide (100000 + 25000 * k ≤ widthPs + 5000) &&
    decide (widthPs ≤ 100000 + 25000 * k + 5000)

/-- An edge on the pad, at the present instant (R390, R391). During a calibration it fires no trigger (R392). -/
def execSyncTrgEdge (widthPs fracPs : Nat) (s : State) : Host.Outcome State Fault Refusal :=
  let now := s.mtbNs
  let close := match s.vol.wader.lastEdge with
    | some e => decide (now < e + 1000)
    | none => false
  if close || !s.cfg.wader.rxEnable then .next s
  else
    let s := { s with vol.wader := { s.vol.wader with edges := satInc 32 s.vol.wader.edges, lastEdge := some now } }
    if s.vol.wader.cal.isSome then .next s
    else
      let delay := (busIdOf widthPs).bind fun k => s.cfg.wader.delays.getD k none
      let d := delay.getD 0
      .next (busTrigger
        ⟨16, s.ctl.time.stb.map fun t => t - d * 65536 / 1000, now - d / 1000, fracPs, false, delay.isNone⟩ s)

/-! ### Calibration (R392) -/

def mean (l : List Nat) : Nat := if l.length = 0 then 0 else l.sum / l.length

/-- A calibration begins, or is refused. -/
def calStart (c : HostCmd) (s : State) : CmdResult :=
  if !s.cfg.wader.txEnable || !s.cfg.wader.rxEnable then .refuse erState 0
  else
    match (List.range 4).find? fun p => (s.port p).state.armed &&
        (match s.portSet p with
         | some x => x.mask.testBit 4
         | none => false) with
    | some p => .refuse erBusy p
    | none =>
      let r : CalRun :=
        { cmd := c, master := fld c.packet.params 0 1 == 0, pulses := fld c.packet.params 1 1, driven := 0,
          readings := [], peer := 0 }
      .deferred { s with vol.wader.cal := some r }

/-- The calibrations that waited begin in fetch order; refused ones complete. -/
def calNext : List HostCmd → State → State
  | [], s => { s with vol.wader := { s.vol.wader with cal := none, calWait := [] } }
  | c :: t, s =>
    match calStart c { s with vol.wader := { s.vol.wader with cal := none, calWait := t } } with
    | .refuse st d => calNext t (finish c st d [] s)
    | .ok s' _ => s'
    | .accepted s' _ => s'
    | .deferred s' => s'
    | .requested s' => s'

/-- A calibration completes with what it has measured; no reading at all is ER_TIMEOUT. -/
def calEnd (r : CalRun) (s : State) : State :=
  let ls := r.readings
  let s :=
    if ls.isEmpty then finish r.cmd erTimeout 0 [] s
    else finish r.cmd 0 0 (leBytes 4 (mean ls) ++ leBytes 4 (ls.foldl max 0 - ls.foldl min (ls.headD 0)) ++
      leBytes 1 ls.length ++ leBytes 1 r.peer ++ zeros 2) s
  calNext s.vol.wader.calWait s

def runCaptureSyncCal (c : HostCmd) (s : State) : CmdResult :=
  if s.vol.wader.cal.isSome then .deferred { s with vol.wader.calWait := s.vol.wader.calWait ++ [c] }
  else calStart c s

/-- One pulse of a calibration: driven and answered on the master, received and answered on the echo side. The reading
is t_rt or t_echo of this pulse, and the width is that of the other node's pulse. -/
def execSyncCalPulse (answered : Bool) (readingPs widthPs : Nat) (s : State) : Host.Outcome State Fault Refusal :=
  match s.vol.wader.cal with
  | none => .next s
  | some r =>
    let drives := r.master || answered
    let r := { r with
      driven := r.driven + b2n drives
      readings := if answered then r.readings ++ [readingPs] else r.readings
      peer := if answered then (busIdOf widthPs).getD r.peer else r.peer }
    let s := { s with vol.wader := { s.vol.wader with driven := s.vol.wader.driven + b2n drives, cal := some r } }
    .next (if r.pulses ≤ r.driven then calEnd r s else s)

def execSyncCalTimeout (s : State) : Host.Outcome State Fault Refusal :=
  match s.vol.wader.cal with
  | none => .next s
  | some r => .next (calEnd r s)

/-! ### Opcodes -/

/-- Fields of trigger kinds that trig_mask leaves unset, and the ranges that depend on another field (R11). -/
def portRangeError (ps : List Byte) : Option Nat :=
  let m := fld ps 7 1
  let p := m.testBit 3
  let unset := fun (on : Bool) (off n : Nat) => if !on && fld ps off n != 0 then some off else none
  (unset (m.testBit 1 || p) 16 2).or ((unset (m.testBit 2) 18 2).or ((unset (m.testBit 2) 20 4).or
    ((unset p 24 4).or
      ((if p then (if fld ps 28 4 < fld ps 24 4 ∨ 10000000 < fld ps 28 4 then some 28 else none)
        else unset false 28 4).or
        ((unset p 32 4).or
          ((if p then (if fld ps 36 4 < fld ps 32 4 ∨ 10000000 < fld ps 36 4 then some 36 else none)
            else unset false 36 4).or (unset p 40 1)))))))

/-- The settings that CAPTURE.PORT carries. -/
def portOf (ps : List Byte) : PortSettings :=
  { source := fld ps 1 1, repeated := fld ps 2 1 == 1, timing := fld ps 3 1 == 1, decim := fld ps 4 1,
    format := fld ps 5 1 % 16, shift := fld ps 5 1 / 16, mailbox := fld ps 6 1, mask := fld ps 7 1,
    blocks := fld ps 8 2, prePct := fld ps 10 1, trgOut := fld ps 11 1 == 1, n := fld ps 12 4,
    levelThr := sfld ps 16 2, stepDb := fld ps 18 2, stepWin := fld ps 20 4, wminNs := fld ps 24 4,
    wmaxNs := fld ps 28 4, pminUs := fld ps 32 4, pmaxUs := fld ps 36 4, pulses := fld ps 40 1,
    measThr := fld ps 42 2 }

/-- Radio lanes that a link mode carries (Table Radio-1). -/
def linkLanes (mode : Nat) : Nat := if 6 ≤ mode then 2 else 4

/-- Whether a lane exists in the mode of its enabled link (R223). -/
def State.laneCarried (s : State) (lane : Nat) : Bool :=
  let l := s.cfg.radio.links.getD (lane / 4) LinkSettings.factory
  l.enable && decide (lane % 4 < linkLanes l.mode)

def runCapturePort (c : HostCmd) (s : State) : CmdResult :=
  let ps := c.packet.params
  let p := fld ps 0 1
  let x := portOf ps
  let others := s.blocksAssigned - ((s.portSet p).map (·.blocks)).getD 0
  match portRangeError ps with
  | some off => .refuse erRange off
  | none =>
    if (s.port p).state.armed then .refuse erState p
    else if 8 ≤ x.source ∧ !((s.cfg.radio.lanes.getD (x.source - 8) LaneSettings.factory).enable &&
        s.laneCarried (x.source - 8)) then .refuse erState x.source
    else if x.blocks * 4096 / (if x.repeated then 2 else 1) < recordBytes x x.n then .refuse erRange 12
    else if 1024 < others + x.blocks then .refuse erCapacity (1024 - others)
    else
      let s := { s with ctl.cfg.wader := { s.cfg.wader with ports := s.cfg.wader.ports.set p (some x) } }
      let s := s.modPort p fun r => { r with state := .idle, d := x.decim, reduced := false }
      .accepted s (leBytes 2 (1024 - s.blocksAssigned) ++ zeros 2)

/-- A port arms into pre-fill, or waits while its share lacks room for a record. Wader stays off after a brown-out warning (R44). -/
def armPort (p : Nat) (s : State) : State :=
  match s.portSet p with
  | none => s
  | some c =>
    if (s.port p).state.armed || s.hsw.warned then s
    else s.modPort p fun x =>
      { x with state := if hasRoom c x then .prefill else .waitRoom, d := c.decim, reduced := false, trigger := none,
               ignoredRec := 0 }

def runCaptureArm (c : HostCmd) (s : State) : CmdResult :=
  let ps := bitsOf 4 (fld c.packet.params 0 1)
  match ps.find? fun p => (s.portSet p).isNone with
  | some p => .refuse erState p
  | none =>
    let gnss := fun p => match s.portSet p with
      | some x => decide (x.source < 4)
      | none => false
    if s.ctl.mode = .idle then .refuse erState 0x100
    else
      match (if s.ctl.mode = .fen then ps.find? gnss else none) with
      | some p => .refuse erState (0x200 + p)
      | none =>
        if s.vol.wader.cal.isSome then .refuse erBusy 0
        else if fld c.packet.params 1 1 = 1 then .ok (ps.foldl (fun s p => armPort p s) s) []
        else .ok (ps.foldl (fun s p => stopPort 1 p s) s) []

/-- The result of the command trigger on one port. -/
def commandTrigger (mask p : Nat) (s : State) : Nat × State :=
  if !mask.testBit p then (4, s)
  else
    match s.portSet p with
    | none => (3, s)
    | some c =>
      if !c.mask.testBit 0 then (3, s)
      else
        let was := (s.port p).state
        match fireTrigger p 1 s with
        | (true, s) => (0, s)
        | (false, s) => (if was = .prefill then 1 else 2, s)

def runCaptureTrigger (c : HostCmd) (s : State) : CmdResult :=
  let m := fld c.packet.params 0 1
  let drive := fld c.packet.params 1 1 == 1
  if drive && !s.cfg.wader.txEnable then .refuse erState 0
  else
    let (r0, s) := commandTrigger m 0 s
    let (r1, s) := commandTrigger m 1 s
    let (r2, s) := commandTrigger m 2 s
    let (r3, s) := commandTrigger m 3 s
    .ok (if drive then driveBus s else s) [BitVec.ofNat 8 r0, BitVec.ofNat 8 r1, BitVec.ofNat 8 r2, BitVec.ofNat 8 r3]

def runCaptureSyncConfig (c : HostCmd) (s : State) : CmdResult :=
  let ps := c.packet.params
  let entry := fld ps 3 1
  let d := fld ps 4 4
  if entry = 0xFF ∧ d ≠ 0 then .refuse erRange 4
  else if entry = fld ps 2 1 then .refuse erRange 3
  else
    let w := s.cfg.wader
    let ds := if entry = 0xFF then w.delays else w.delays.set entry (if d = 0xFFFFFFFF then none else some d)
    let w := { w with rxEnable := fld ps 0 1 == 1, txEnable := fld ps 1 1 == 1, busId := fld ps 2 1, delays := ds }
    .accepted { s with ctl.cfg.wader := w } []

/-- One port as CAPTURE.STATUS gives it. -/
def portStatus (s : State) (p : Nat) : List Byte :=
  let r := s.port p
  let free := match s.portSet p with
    | some c => roomBlocks c r
    | none => 0
  leBytes 1 (portCode r.state) ++ leBytes 1 r.d ++ zeros 2 ++ leBytes 4 r.sealedNo ++ leBytes 2 r.records.length ++
    leBytes 2 free ++ leBytes 4 r.ignored

def runCaptureStatus (_ : HostCmd) (s : State) : CmdResult :=
  .ok s (leBytes 2 s.blocksAssigned ++ zeros 2 ++ leBytes 4 s.vol.wader.edges ++ (List.range 4).flatMap (portStatus s))

def execCapturePort (p : Packet) (s : State) : Host.Outcome State Fault Refusal :=
  .next (serve 0x0D01 runCapturePort p s)
def execCaptureArm (p : Packet) (s : State) : Host.Outcome State Fault Refusal :=
  .next (serve 0x0D02 runCaptureArm p s)
def execCaptureTrigger (p : Packet) (s : State) : Host.Outcome State Fault Refusal :=
  .next (serve 0x0D03 runCaptureTrigger p s)
def execCaptureSyncConfig (p : Packet) (s : State) : Host.Outcome State Fault Refusal :=
  .next (serve 0x0D04 runCaptureSyncConfig p s)
def execCaptureSyncCal (p : Packet) (s : State) : Host.Outcome State Fault Refusal :=
  .next (serve 0x0D05 runCaptureSyncCal p s)
def execCaptureStatus (p : Packet) (s : State) : Host.Outcome State Fault Refusal :=
  .next (serve 0x0D06 runCaptureStatus p s)

end Sys2Proof.Machine
end

