-- ==== Sys2Proof/Machine/Air.lean ====
section
/-! DEFINITION.
What every lane does below the MAC: regions and sub-bands (R219, R233), air times (R222), the duty, dwell and reserve
budgets (R234 to R237), listen before talk and DFS (R238, R239), and the test that each transmission passes.
-/

namespace Sys2Proof.Machine

/-! ### Lanes, links and sub-bands -/

/-- The offsets of a lane on a side (R230). -/
def State.offs (s : State) (side l : Nat) : LaneOffsets :=
  (if side = 0 then s.cfg.radio.offsA else s.cfg.radio.offsB).getD l LaneOffsets.zero

def State.lane (s : State) (l : Nat) : LaneSettings := s.cfg.radio.lanes.getD l LaneSettings.factory

def State.link (s : State) (k : Nat) : LinkSettings := s.cfg.radio.links.getD k LinkSettings.factory

def State.linkRun (s : State) (k : Nat) : LinkRun := s.vol.radio.links.getD k LinkRun.start

def State.laneRun (s : State) (l : Nat) : LaneRun := s.vol.radio.lanes.getD l LaneRun.start

def State.modLink (s : State) (k : Nat) (f : LinkRun → LinkRun) : State :=
  { s with vol.radio := { s.vol.radio with links := s.vol.radio.links.modify k f } }

def State.modLaneRun (s : State) (l : Nat) (f : LaneRun → LaneRun) : State :=
  { s with vol.radio := { s.vol.radio with lanes := s.vol.radio.lanes.modify l f } }

/-- A lane that is enabled in the configuration in force. -/
def State.laneOn (s : State) (l : Nat) : Bool := (s.lane l).enable

/-- A lane that is enabled and whose link is in its data phase: it can send (R226, R229). -/
def State.laneUp (s : State) (l : Nat) : Bool := s.laneOn l && (s.linkRun (l / 4)).state == .dataPhase

def LaneSettings.ofdm (c : LaneSettings) : Bool := c.cls == 1

/-- Enabled OFDM lanes. -/
def State.ofdmLanes (s : State) : List Nat := (List.range 8).filter fun l => s.laneOn l && (s.lane l).ofdm

/-- Enabled sub-GHz lanes. -/
def State.subLanes (s : State) : List Nat := (List.range 8).filter fun l => s.laneOn l && !(s.lane l).ofdm

/-- The settings of MAC.LANE_MAC in force, or the defaults of its table. -/
def State.laneMac (s : State) (l : Nat) : LaneMac :=
  (s.cfg.mac.lanes.getD l none).getD
    (if (s.lane l).ofdm then ⟨false, 16, 4, 0, 0⟩ else ⟨false, 16, 0, 0, 4⟩)

/-- 0.4 × Fs of a link mode, in kHz (R219, Table Radio-1). -/
def linkSpan (mode : Nat) : Int := if mode ≤ 1 then 24576 else if mode ≤ 3 then 49152 else 98304

/-- Half the width of a channel, in kHz (R219, Table Radio-2). -/
def halfWidth (c : LaneSettings) : Int :=
  if c.ofdm then (if c.phy.testBit 0 then 20000 else 10000) else (if c.phy = 0 then 100 else 200)

/-- A built-in sub-band. -/
def band (lo hi : Nat) (duty dwell lbt dfs : Bool) (eirp : Int) (limit cac : Nat) : SubBand :=
  { lo := lo, hi := hi, duty := duty, dwell := dwell, lbt := lbt, dfs := dfs, minChan := 0, eirp := eirp, limit := limit,
    dwellS := 0, cac10s := cac }

/-- Region EU of Table Radio-5. -/
def bandsEu : List SubBand :=
  [band 863000 865000 true false false false 161 100 0, band 865000 868000 true false false false 161 1000 0,
   band 868000 868600 true false false false 161 1000 0, band 868700 869200 true false false false 161 100 0,
   band 869400 869650 true false false false 291 10000 0, band 869700 870000 true false false false 161 1000 0,
   band 2400000 2483500 false false true false 200 0 0, band 5150000 5250000 false false true false 230 0 0,
   band 5250000 5350000 false false true true 230 0 6, band 5470000 5600000 false false true true 300 0 6,
   band 5650000 5725000 false false true true 300 0 6, band 5600000 5650000 false false true true 300 0 60]

/-- Region US of Table Radio-5; its dwell rule follows the 20 dB bandwidth of the lane's mode. -/
def bandsUs (phy : Nat) : List SubBand :=
  [{ band 902000 928000 false true false false 360 400 0 with
      minChan := if phy = 0 then 50 else 25, dwellS := if phy = 0 then 20 else 10 },
   band 2400000 2483500 false false false false 360 0 0, band 5725000 5850000 false false false false 360 0 0,
   band 5150000 5250000 false false false false 300 0 0, band 5250000 5350000 false false false true 300 0 6,
   band 5470000 5600000 false false false true 300 0 6, band 5650000 5725000 false false false true 300 0 6,
   band 5600000 5650000 false false false true 300 0 60]

/-- The sub-bands of a lane's region (R233). -/
def State.bands (s : State) (c : LaneSettings) : List SubBand :=
  if c.region = 1 then bandsEu else if c.region = 2 then bandsUs c.phy else s.cfg.radio.custom

/-- The sub-band in which a channel lies, edge to edge (R233). -/
def State.bandOf (s : State) (c : LaneSettings) (off : Int) : Option SubBand :=
  let f : Int := (c.centre : Int) + off
  (s.bands c).find? fun b => decide ((b.lo : Int) ≤ f - halfWidth c) && decide (f + halfWidth c ≤ (b.hi : Int))

/-- Whether a channel lies in the band class of the lane and within ±0.4 × Fs of its centre (R219). -/
def chanFits (c : LaneSettings) (mode : Nat) (off : Int) : Bool :=
  let f : Int := (c.centre : Int) + off
  let h := halfWidth c
  let within := fun (a b : Int) => decide (a ≤ f - h) && decide (f + h ≤ b)
  decide (-linkSpan mode ≤ off - h) && decide (off + h ≤ linkSpan mode) &&
    if c.ofdm then within 2400000 2483500 || within 5150000 5850000 else within 863000 928000

/-- The sub-band of channel number `ch` of a lane. -/
def State.chanBand (s : State) (l ch : Nat) : Option SubBand :=
  let c := s.lane l
  (c.channels[ch]?).bind fun off => s.bandOf c off

/-! ### Air time (R222) -/

/-- Data rate of an MR-FSK mode, bit/s (Table Radio-2). -/
def fskRate (phy : Nat) : Nat := 50000 * (phy + 1)

/-- N_DBPS of a non-HT rate index (Table Radio-3). -/
def dbpsNonHt (k : Nat) : Nat := [24, 36, 48, 72, 96, 144, 192, 216].getD k 216

/-- N_DBPS of an HT MCS (Table Radio-3). -/
def dbpsHt (wide : Bool) (k : Nat) : Nat :=
  if wide then [54, 108, 162, 216, 324, 432, 486, 540].getD k 540
  else [26, 52, 78, 104, 156, 208, 234, 260].getD k 260

/-- The air time of a PSDU of `n` octets at a rate code, in µs. The short guard interval is used where the lane's
configuration allows it: DESIGN CHOICE (log 14). -/
def airTime (c : LaneSettings) (rate n : Nat) : Nat :=
  if c.ofdm then
    if rate < 8 then 20 + 4 * ceilDiv (22 + 8 * n) (dbpsNonHt rate)
    else
      let k := ceilDiv (22 + 8 * n) (dbpsHt (c.phy.testBit 0) (rate - 8))
      if c.phy.testBit 1 then 36 + 4 * ceilDiv (9 * k) 10 else 36 + 4 * k
  else ceilDiv (8 * (c.preamble + 4 + n) * 1000000) (fskRate c.phy)

/-- Whether a transmission of `us` fits its slot, or a span of `slots` (R222, R244). -/
def airFits (c : LaneSettings) (slots us : Nat) : Bool :=
  if c.ofdm then decide (us ≤ 100) else decide (us + 200 ≤ 2500 * slots)

/-- The rate at which a frame of `n` octets is sent: its own, or the lowest higher one of its format at which it fits;
none when it fits at no rate (R244). -/
def fitRate (c : LaneSettings) (slots rate n : Nat) : Option Nat :=
  if c.ofdm then
    let top := if rate < 8 then 7 else 15
    ((List.range (top + 1 - rate)).map (rate + ·)).find? fun r => airFits c slots (airTime c r n)
  else if airFits c slots (airTime c 0 n) then some 0 else none

/-- Octets of the PSDU of a Mere frame of a type: header, mesh extension, body, trailer but on JOIN_REQ and JOIN_RSP, and FCS
(R245, R248, R249). -/
def psduLen (type : Nat) (mesh : Bool) (body : Nat) : Nat :=
  4 + (if mesh then 5 else 0) + body + (if type = 1 ∨ type = 2 then 0 else 12) + 4

/-- The waveform of a frame sent at a rate code on a lane (R220, R221). -/
def ppduOf (c : LaneSettings) (rate : Nat) : Wave :=
  if !c.ofdm then .fsk c.phy c.preamble
  else if rate < 8 then .nonHt rate (c.phy.testBit 0)
  else .ht (rate - 8) (c.phy.testBit 0) (c.phy.testBit 1)

/-! ### Events -/

/-- RADIO.EVENT with its record (Table Rec-3). -/
def radioEvent (src kind chan lo : Nat) (s : State) : State :=
  record 0x0601 src (leBytes 1 kind ++ leBytes 1 chan)
    (sendMsg 0x0680 (leBytes 1 src ++ leBytes 1 kind ++ leBytes 1 chan ++ zeros 1 ++ leBytes 4 lo ++
      leBytes 8 s.mtbNs) s)

/-! ### Budgets (R234 to R237) -/

/-- The budget of a sub-band or, under a dwell rule, of a channel. -/
def budgetKey (b : SubBand) (ch : Nat) : Nat := if b.dwell then ch else 0xFF

def Budget.isOf (x : Budget) (l lo ch : Nat) : Bool := x.lane == l && x.lo == lo && x.chan == ch

def State.budget (s : State) (l lo ch : Nat) : Option Budget := s.ctl.budget.budgets.find? fun x => x.isOf l lo ch

def State.modBudgets (s : State) (f : Budget → Budget) : State :=
  { s with ctl.budget := { s.ctl.budget with budgets := s.ctl.budget.budgets.map f } }

def State.modBudget (s : State) (l lo ch : Nat) (f : Budget → Budget) : State :=
  s.modBudgets fun x => if x.isOf l lo ch then f x else x

/-- Length of a bin in MTB ticks: W / 60, rounded up so that 60 bins never span less than W, or 1 s under a dwell rule. -/
def binTicks (c : LaneSettings) (x : Budget) : Nat := if x.chan = 0xFF then ceilDiv (c.window * tickS) 60 else tickS

/-- Completed bins that are kept beside the bin in progress: 61 of W / 60, or the seconds of a dwell rule's period (R234, R237). -/
def binsKept (b : SubBand) : Nat := if b.dwell then b.dwellS else 61

/-- The bins that count: the bin in progress and the 60 before it, or all of a dwell rule's period. -/
def Budget.counted (x : Budget) : List BinPair := if x.chan = 0xFF then x.bins.take 61 else x.bins

def Budget.used (x : Budget) : Nat := (x.counted.map (·.ord)).sum

def Budget.usedRes (x : Budget) : Nat := (x.counted.map (·.res)).sum

/-- Bins that have ended by MTB tick `now`. -/
def Budget.ended (x : Budget) (ticks now : Nat) : Nat :=
  if x.binEnd ≤ now ∧ 0 < ticks then (now - x.binEnd) / ticks + 1 else 0

/-- Bins that have ended by MTB tick `now` are shifted, however many; as many leave the window (R234). -/
def Budget.roll (kept ticks now : Nat) (x : Budget) : Budget :=
  let n := x.ended ticks now
  { x with bins := (List.replicate (min n (kept + 1)) (⟨0, 0⟩ : BinPair) ++ x.bins).take (kept + 1), binEnd := x.binEnd + n * ticks }

/-- Twice the median of a list of air times; twice `d` for an empty list. -/
def median2 (d : Nat) (l : List Nat) : Nat :=
  let m := l.mergeSort fun a b => decide (a ≤ b)
  if m.isEmpty then 2 * d else m.getD ((m.length - 1) / 2) 0 + m.getD (m.length / 2) 0

/-- The ordinary budget. -/
def Budget.ordinary (x : Budget) : Nat := x.limitUs - x.reserveUs

/-- Whether the exhaustion of a budget has ended (R236). -/
def Budget.restored (x : Budget) (window now : Nat) : Bool :=
  let recent := (x.sent.filter fun e => decide (now < e.1 + window * tickS)).map (·.2)
  decide (2 * x.used + median2 x.refusedUs recent ≤ 2 * x.ordinary)

/-- The bins of a budget follow MTB (held as clock ticks), and its exhaustion ends when R236 says so. -/
def refresh (l lo ch : Nat) (s : State) : State :=
  match s.budget l lo ch with
  | none => s
  | some x =>
    let c := s.lane l
    let kept := match (s.bands c).find? fun b => b.lo == lo with
      | some b => binsKept b
      | none => 61
    let x := Budget.roll kept (binTicks c x) s.clock x
    let ends := x.exhausted && x.restored c.window s.clock
    let s := s.modBudget l lo ch fun _ => if ends then { x with exhausted := false } else x
    if ends then radioEvent l 1 ch lo s else s

/-- The stop reserve of a budget (R234), in 0.01 % steps. -/
def reserveOf (c : LaneSettings) (limitUs : Nat) : Nat := limitUs * c.reserve / 10000

/-- B of a sub-band: its duty share of W, or its dwell limit (R234, R237). -/
def bandLimit (c : LaneSettings) (b : SubBand) : Nat := if b.dwell then b.limit * 1000 else b.limit * c.window * 10

def Budget.new (l : Nat) (c : LaneSettings) (b : SubBand) (ch now : Nat) : Budget :=
  let x : Budget :=
    { lane := l, lo := b.lo, chan := budgetKey b ch, limitUs := bandLimit c b, reserveUs := reserveOf c (bandLimit c b),
      bins := [⟨0, 0⟩], binEnd := 0, exhausted := false, refusedUs := 0, sent := [], resTold := false }
  { x with binEnd := now + binTicks c x }

/-- What becomes of a transmission. -/
inductive TxResult where
  /-- Sent. -/
  | sent
  /-- Refused by the budget (R235, R236). -/
  | refused
  /-- Not possible: lane or link down, a busy channel (R238), or an unavailable one (R239). -/
  | blocked
  deriving DecidableEq, Repr

/-- The budget test of R235 and R236 for an air time `us`; true when the frame is charged and may be sent. -/
def charge (l ch us : Nat) (stop : Bool) (s : State) : Bool × State :=
  match s.chanBand l ch with
  | none => (true, s)
  | some b =>
    if !b.duty && !b.dwell then (true, s)
    else
      let key := budgetKey b ch
      let s := refresh l b.lo key s
      match s.budget l b.lo key with
      | none => (true, s)
      | some x =>
        let ordOk := decide (x.used + us ≤ x.ordinary)
        let add := fun (o r : Nat) (x : Budget) =>
          { x with bins := match x.bins with
              | [] => [⟨o, r⟩]
              | h :: t => ⟨h.ord + o, h.res + r⟩ :: t }
        if ordOk && (stop || !x.exhausted) then (true, s.modBudget l b.lo key (add us 0))
        else if !stop then
          let s := s.modBudget l b.lo key fun x =>
            if x.exhausted then x else { x with exhausted := true, refusedUs := us }
          (false, if x.exhausted then s else radioEvent l 0 key b.lo s)
        else if x.usedRes + us ≤ x.reserveUs then
          (true, s.modBudget l b.lo key fun x => { add 0 us x with resTold := false })
        else
          let s := s.modBudget l b.lo key fun x => { x with resTold := true }
          (false, if x.resTold then s else radioEvent l 2 key b.lo s)

/-! ### DFS (R239) -/

def State.dfs (s : State) (l ch : Nat) : Option DfsChan :=
  s.ctl.budget.dfs.find? fun d => d.lane == l && d.chan == ch

def State.modDfs (s : State) (l ch : Nat) (f : DfsChan → DfsChan) : State :=
  { s with ctl.budget := { s.ctl.budget with
      dfs := s.ctl.budget.dfs.map fun d => if d.lane == l && d.chan == ch then f d else d } }

/-- Whether a channel is available under R239. -/
def State.chanAvailable (s : State) (l ch : Nat) : Bool :=
  match s.dfs l ch with
  | none => true
  | some d => d.state == .available || d.state == .inUse || d.state == .none

/-- Whether R239 lets a frame of air time `us` out on a channel: stop frames for 10 s after a detection, at most 200 ms
in all. -/
def State.dfsAllows (s : State) (l ch us : Nat) (stop : Bool) : Bool :=
  s.chanAvailable l ch ||
    match s.dfs l ch with
    | some d => stop && d.state == .unavailable && d.stopsOk && decide (d.stopUs + us ≤ 200000)
    | none => false

/-- Notes of a transmission: DFS state, counters, and the frames of the lane's last window. -/
def noteSent (l ch us : Nat) (s : State) : State :=
  let s := s.modDfs l ch fun d => match d.state with
    | .available => { d with state := .inUse }
    | .unavailable => { d with stopUs := d.stopUs + us }
    | _ => d
  let now := s.clock
  let w := (s.lane l).window * tickS
  let s := s.modBudgets fun x =>
    if x.lane = l then { x with sent := (now, us) :: x.sent.filter fun e => decide (now < e.1 + w) } else x
  countEvents 0x0604 (some l) us (countEvents 0x0601 (some l) 1 s)

/-- Whether a channel measured busy before the superframe in progress (R238). -/
def State.busyNow (s : State) (l ch : Nat) : Bool :=
  (s.laneRun l).busyAsn == s.asn && (s.laneRun l).busy.contains ch

/-! ### Frames as octets (R245, R248, R249) -/

/-- The common header (Table Mere-3) of a frame that the controller sends. -/
def AirFrame.head (ctrl : Nat) (f : AirFrame) : List Byte :=
  beBytes 1 (f.type * 16 + f.edition * 4 + 2 * b2n f.mesh.isSome) ++ beBytes 1 (2 * ctrl) ++ beBytes 2 f.node

/-- The mesh extension with a ttl (Table Mere-7). -/
def MeshExt.bytes (ttl : Nat) (x : MeshExt) : List Byte := beBytes 1 (ttl * 16) ++ beBytes 2 x.origin ++ beBytes 2 x.mseq

/-- The edition in the header of a frame to a connected member (Table Mere-3). -/
def State.txEdition (s : State) (type node : Nat) : Nat :=
  if type = 4 ∨ type = 5 then ((tget s.ctl.conns node).map (·.edition)).getD 0 else 0

/-- What the MIC of a frame covers: the lane, the frame to the end of its body with ttl zero, and the counter (R249). -/
def AirFrame.sealed (ctrl : Nat) (f : AirFrame) : List Byte :=
  beBytes 1 f.lane ++ f.head ctrl ++ ((f.mesh.map (MeshExt.bytes 0)).getD [] ++ f.body) ++ beBytes 4 f.ctr

/-- The MIC under a key: the most significant 64 bits of AES-CMAC-128 (R249). -/
def mic (key bs : List Byte) : List Byte := slice (Config.cmac key bs) 0 8

/-- K_sl of a site key on a controller (R283): a salt of zeros is that of HKDF with SHA-384, 48 octets. -/
def sluiceKey (ctrl : Nat) (k : SiteKey) : List Byte :=
  Config.hkdf (zeros 48) k.key (ascii "SLUICE" ++ beBytes 1 k.keyId ++ beBytes 1 ctrl) 16

/-- The controller identifier (R398). -/
def State.ctrlId (s : State) : Nat := s.cfg.fed.controller.getD 0

/-- The key of a frame that the controller sends (Table Mere-4, R283): that of a joining member while its admission is staged. -/
def State.txKey (s : State) (f : AirFrame) : List Byte :=
  let site := s.cfg.keys.current
  match f.type with
  | 0 | 6 => (site.map (·.key)).getD []
  | 7 | 8 => (site.map (sluiceKey s.ctrlId)).getD []
  | 4 => ((s.vol.mac.lanes.getD f.lane MacLane.start).join.map (·.kDn)).getD []
  | _ => ((tget s.ctl.conns f.node).map (·.kDn)).getD []

/-- The octets of a frame before its FCS: no trailer on JOIN_RSP (Table Mere-4); a test burst has none at all. -/
def State.psdu (s : State) (f : AirFrame) : List Byte :=
  if f.type = 15 then []
  else
    let c := s.ctrlId
    let front := f.head c ++ ((f.mesh.map fun x => x.bytes x.ttl).getD [] ++ f.body)
    if f.type = 1 ∨ f.type = 2 then front else front ++ beBytes 4 f.ctr ++ mic (s.txKey f) (f.sealed c)

/-- A frame that the controller floods takes its node address as origin and its next mesh sequence (R248, R274). -/
def flood (f : AirFrame) (s : State) : AirFrame × State :=
  match f.mesh with
  | none => (f, s)
  | some x =>
    let m := (s.vol.mac.mseq + 1) % 65536
    ({ f with mesh := some { x with origin := s.cfg.mac.ctlNode, mseq := m } }, { s with vol.mac := { s.vol.mac with mseq := m } })

/-- A frame as it leaves the side: its lead, its end and its octets. -/
def State.leaving (s : State) (us : Nat) (f : AirFrame) : AirFrame :=
  { f with lead := (s.offs (sideNo s.actId) f.lane).tx, ends := s.clock + us * 1600, psdu := s.psdu f }

/-- One transmission of air time `us`: sent and charged, refused by the budget, or not possible (R235 to R239). After a
brown-out warning only Sluice frames go out (R44). The side starts it early by its transmit offset (R230). -/
def transmit (us : Nat) (f : AirFrame) (s : State) : TxResult × State :=
  let stop := f.type == 8
  if !s.laneUp f.lane || decide ((s.lane f.lane).channels.length ≤ f.chan) || (s.hsw.warned && f.type != 7 && !stop) then
    (.blocked, s)
  else if s.busyNow f.lane f.chan || !s.dfsAllows f.lane f.chan us stop then (.blocked, s)
  else
    match charge f.lane f.chan us stop s with
    | (false, s) => (.refused, s)
    | (true, s) =>
      let (f, s) := flood f s
      (.sent, noteSent f.lane f.chan us { s with out.air := s.out.air ++ [s.leaving us f] })

/-- The channel of BEACON, BCAST, join, relayed and Sluice frames (R244, R281). -/
def State.siteChan (s : State) (l : Nat) : Nat :=
  let p := (s.laneMac l).primary
  if s.chanAvailable l p then p
  else ((List.range (s.lane l).channels.length).find? fun k => s.chanAvailable l k).getD p

/-- Whether a lane serves any mesh connection (R274). -/
def State.meshLane (s : State) (l : Nat) : Bool := s.ctl.conns.any fun e => e.2.par.lane == l && e.2.par.mesh

/-- The mesh extension of a frame that is to be flooded with a number of hops; it takes its sequence as it is sent. -/
def meshFor (on : Bool) (ttl : Nat) : Option MeshExt := if on then some ⟨ttl, 0, 0⟩ else none

/-- ctl_tol in 0.25 ppm: 0.5 ppm plus atb_slew (R269). -/
def State.ctlTol (s : State) : Nat := ceilDiv (500 + s.ctl.timeCfg.atbSlew) 250

/-- A site key is current (R496). -/
def State.hasSiteKey (s : State) : Bool := s.cfg.keys.current.isSome

/-- The frame counter of a BEACON, BCAST or Sluice frame (R250, R283). -/
def siteCtr (asn slot : Nat) : Nat := asn % 2 ^ 26 * 64 + slot

/-- Slots of the span of a site or join frame on a sub-GHz lane: 24 to 39 for BCAST and join frames, 0 to 3 otherwise (Table Mere-2). -/
def siteSpan (type : Nat) : Nat := if type = 6 ∨ type = 2 ∨ type = 4 then 16 else 4

/-- A frame goes out on the site channel of a lane at its base rate, when it fits its slot or span (R222, R244). -/
def sendBase (f : AirFrame) (s : State) : TxResult × State :=
  let c := s.lane f.lane
  let rate := (s.laneMac f.lane).baseRate
  let us := airTime c rate (psduLen f.type f.mesh.isSome f.body.length)
  if airFits c (siteSpan f.type) us then transmit us { f with chan := s.siteChan f.lane, wave := ppduOf c rate } s
  else (.blocked, s)

/-- A site frame (BEACON, BCAST, HEARTBEAT or STOP) goes out on a lane. -/
def sendSite (l type asn slot : Nat) (body : List Byte) (s : State) : TxResult × State :=
  sendBase { lane := l, chan := 0, asn := asn, slot := slot, type := type, node := 0xFFFF, ctr := siteCtr asn slot,
             mesh := meshFor (s.meshLane l) s.cfg.mac.meshTtl, body := body } s

end Sys2Proof.Machine
end

