-- ==== Sys2Proof/Machine/Stops.lean ====
section
/-! DEFINITION.
Permission and stops: what the Sluice logic holds for every source of a stop (R286 to R301), and the requests that
other controllers answer (R403, R418).
-/

namespace Sys2Proof.Machine

/-! ### Requests to peers (R403) -/

/-- Peers whose peering is live (R404). -/
def State.livePeers (s : State) : List Nat := (s.vol.fed.peers.filter fun e => e.2.state == .live).map (·.1)

def State.modPeer (s : State) (k : Nat) (f : PeerRun → PeerRun) : State :=
  { s with vol.fed.peers := tmod s.vol.fed.peers k f }

/-- A request with a transaction number of its own, repeated until it is answered. -/
def fedRequest (peer type : Nat) (body : List Byte) (s : State) : Nat × State :=
  let txn := s.vol.fed.nextTxn
  let now := s.mtb
  let s := { s with vol.fed.nextTxn := (txn + 1) % 2 ^ 32 }
  let s := s.modPeer peer fun r => { r with requests := r.requests ++ [⟨txn, type, body, now⟩] }
  (txn, fedSend peer type txn body s)

/-- The same request to each of several peers. -/
def fedRequestAll (peers : List Nat) (type : Nat) (body : List Byte) (s : State) : State :=
  peers.foldl (fun s p => (fedRequest p type body s).2) s

/-- The body of SITE_STOP: origin, stop number, category, cause. The layout is a DESIGN CHOICE (log 15). -/
def siteStopBody (origin no cat cause : Nat) : List Byte :=
  beBytes 1 origin ++ beBytes 2 no ++ beBytes 1 cat ++ beBytes 1 cause

/-! ### The loop and the permission in force (R57, R58, R293) -/

/-- The loop is closed only while both inputs are classified closed (R57). -/
def State.loopClosed (s : State) : Bool := s.vol.sluice.in0 == .closed && s.vol.sluice.in1 == .closed

/-- A discrepancy exists between the inputs (R57, R58). -/
def discrepant (a b : LoopIn) : Bool :=
  a == .fault || b == .fault || (a != .unclassified && b != .unclassified && a != b)

def State.stops (s : State) : List Stop := s.ctl.sluice.stops

def Stop.all (x : Stop) : Bool := x.targets.isEmpty

/-- The highest category of the stops of scope all in force, 0 for none (Table Sluice-3). -/
def State.allCat (s : State) : Nat := ((s.stops.filter Stop.all).map (·.category)).foldl max 0

/-- The highest category of the listed stops that cover a node. -/
def State.listedCat (s : State) (node : Nat) : Nat :=
  ((s.stops.filter fun x => x.targets.contains node).map (·.category)).foldl max 0

/-- Whether a stop covers a node (R287). -/
def State.covered (s : State) (node : Nat) : Bool := s.allCat != 0 || s.listedCat node != 0

/-- A node of the withheld set: held by the host, by R292 or by R331, or a target of a listed stop (R290, R293). -/
def State.withheld (s : State) (node : Nat) : Bool := tgetD s.ctl.sluice.withheld node 0 != 0 || s.listedCat node != 0

/-- Nodes of the withheld set. -/
def State.withheldNodes (s : State) : List Nat :=
  let a := (s.ctl.sluice.withheld.filter fun e => e.2 != 0).map (·.1)
  (s.stops.flatMap (·.targets)).foldl sput a

/-- A member that R303, R432 or R414 keeps from permission, beside the withheld set. -/
def State.notYet (s : State) (node : Nat) (c : Conn) : Bool :=
  s.ctl.sluice.requal.contains c.memberId || s.ctl.sluice.statusDue.contains c.memberId ||
    s.ctl.handovers.sources.any fun h => h.node == node && h.stage != .offered && decide (h.instant ≤ s.asn)

/-- Whether any permission can be granted (R293). -/
def State.grantAll (s : State) : Bool :=
  s.vol.sluice.state == .running && s.ctl.mode != .idle && s.loopClosed && s.allCat == 0 && !s.ofdmLanes.isEmpty

/-- Squads are dropped from the map, lowest first, until 32 exceptions are left (R293): map, exceptions (node, squad,
category) and the squads dropped. -/
def dropSquads : Nat → Nat → List (Nat × Nat × Nat) → List Nat → Nat × List (Nat × Nat × Nat) × List Nat
  | 0, m, es, out => (m, es, out)
  | k + 1, m, es, out =>
    if es.length ≤ 32 then (m, es, out)
    else
      let q := (es.map fun e => e.2.1).foldl min 256
      dropSquads k (setBit m q false) (es.filter fun e => e.2.1 != q) (out ++ [q])

/-- The permission fields of a Sluice frame (R293): squad map, exceptions and squads withheld by overflow. -/
def State.permission (s : State) : Nat × List (Nat × Nat × Nat) × List Nat :=
  let m := if s.grantAll then s.ctl.sluice.grantMap else 0
  let es := s.ctl.conns.filterMap fun e =>
    if m.testBit e.2.par.squad && (s.withheld e.1 || s.notYet e.1 e.2) then some (e.1, e.2.par.squad, s.listedCat e.1)
    else none
  dropSquads 256 m es []

/-- Members granted permission by the frames now assembled (R286). -/
def State.grantedNodes (s : State) : List Nat :=
  if s.hasSiteKey then
    let (m, es, _) := s.permission
    (s.ctl.conns.filter fun e => m.testBit e.2.par.squad && !(es.any fun x => x.1 == e.1)).map (·.1)
  else []

/-- SLU_STAT0 (R297, R59). -/
def State.sluStat0 (s : State) : Bool := s.env.vinUp && s.hsw.active.isSome && s.loopClosed

/-- SLU_STAT1 (R297, R59). -/
def State.sluStat1 (s : State) : Bool :=
  s.env.vinUp && s.hsw.active.isSome && s.vol.sluice.state == .running && s.hasSiteKey && s.allCat == 0

/-! ### The counts of a stop (R300) -/

def Stop.count (x : Stop) (c : StopClass) : Nat := (x.members.filter fun m => m.cls == c).length

/-- Confirmed, pending, unreachable. -/
def Stop.counts (x : Stop) : Nat × Nat × Nat := (x.count .confirmed, x.count .pending, x.count .unreachable)

def State.modStop (s : State) (no : Nat) (f : Stop → Stop) : State :=
  { s with ctl.sluice := { s.ctl.sluice with stops := s.ctl.sluice.stops.map fun x => if x.no = no then f x else x } }

/-- SLUICE.STOP_STATUS, with STOP in HW_IRQ_CAUSE. -/
def stopStatus (x : Stop) (event : Nat) (s : State) : State :=
  let (c, p, u) := x.counts
  let s := s.modStop x.no fun y => { y with reported := x.counts }
  sendMsg 0x0880 (leBytes 2 x.no ++ leBytes 1 x.category ++ leBytes 1 x.cause ++ leBytes 1 event ++
    leBytes 1 x.targets.length ++ zeros 2 ++ leBytes 2 c ++ leBytes 2 p ++ leBytes 2 u ++ zeros 2 ++
    leBytes 8 x.queuedNs) (raiseIrq irqStop s)

/-- The members of a stop are classed anew; when the pending count reaches zero, that is reported at once (R300). -/
def reclass (no : Nat) (f : StopMember → StopMember) (s : State) : State :=
  match s.stops.find? fun x => x.no == no with
  | none => s
  | some x =>
    let y := { x with members := x.members.map f }
    let s := s.modStop no fun _ => y
    if x.count .pending ≠ 0 ∧ y.count .pending = 0 then stopStatus y 2 s else s

/-- Every stop's members are classed anew. -/
def reclassAll (f : Stop → StopMember → StopMember) (s : State) : State :=
  s.stops.foldl (fun s x => reclass x.no (f x) s) s

/-- A pending member becomes unreachable. -/
def StopMember.unreach (m : StopMember) : StopMember := if m.cls = .pending then { m with cls := .unreachable } else m

/-! ### Raising a stop (R288 to R290) -/

/-- Where a stop comes from: a local source, FED.SITE_STOP on this controller, or a site stop received. -/
inductive StopFrom where
  | here
  | siteOwn
  | siteRemote (origin no : Nat)

/-- Whether a local stop of this cause is exported (R418, FED.CONFIG). -/
def exported (cause exports : Nat) : Bool :=
  (cause == 2 && exports.testBit 0) || (cause == 3 && exports.testBit 1) || (cause == 4 && exports.testBit 2) ||
    (cause == 8 && exports.testBit 3)

/-- What a new stop carries for the site. -/
def siteRef (src : StopFrom) (cause no : Nat) (s : State) : Option SiteStopRef :=
  match src with
  | .siteRemote o n => some ⟨o, n, false⟩
  | .siteOwn => some ⟨s.cfg.fed.controller.getD 0xFF, no, true⟩
  | .here => if exported cause s.cfg.fed.exports then some ⟨s.cfg.fed.controller.getD 0xFF, no, true⟩ else none

/-- A stop is created and queued. -/
def newStop (cause cat : Nat) (targets : List Nat) (src : StopFrom) (s : State) : Nat × State :=
  let no := (s.ctl.sluice.stopSeq + 1) % 65536
  let ms := (s.ctl.conns.filter fun e => targets.isEmpty || targets.contains e.1).map fun e =>
    (⟨e.2.memberId, e.1, .pending⟩ : StopMember)
  let x : Stop :=
    { no := no, category := cat, cause := cause, targets := targets, copies := 0, queuedNs := s.mtbNs, members := ms,
      confirmOver := false, reported := (0, 0, 0), spans := s.subLanes.map fun l => (l, targets), sentOn := [],
      site := siteRef src cause no s }
  let u := s.ctl.sluice
  let s := { s with ctl.sluice := { u with
    stops := u.stops ++ [x], stopSeq := no, grantMap := if targets.isEmpty then 0 else u.grantMap } }
  let s := record 0x0801 no (leBytes 1 cause ++ leBytes 1 cat ++ leBytes 1 targets.length) s
  let s := stopStatus x 0 s
  let s := match src, x.site with
    | .siteRemote _ _, _ => s
    | _, some r => fedRequestAll s.livePeers 16 (siteStopBody r.origin no cat cause) s
    | _, none => s
  (no, s)

/-- The stop of scope all that suppresses a new one (R289). -/
def State.suppressor (s : State) (cause cat : Nat) : Option Stop :=
  s.stops.find? fun x => x.all && x.cause == cause && decide (cat ≤ x.category)

/-- A source raises a stop; the number in force and whether a stop was created (R289). -/
def raiseStop (cause cat : Nat) (targets : List Nat) (src : StopFrom) (s : State) : Nat × Bool × State :=
  let full := decide (37 ≤ (s.stops.filter fun x => !x.all).length)
  let ts := if full then [] else targets
  match s.suppressor cause cat with
  | some x => (x.no, false, record 0x0802 x.no (leBytes 1 cause) s)
  | none =>
    let (n, s) := newStop cause cat ts src s
    (n, true, s)

/-- A reason to withhold a node is added (bit 0 the host, 1 R292, 2 R331). -/
def withhold (bit node : Nat) (s : State) : State :=
  let w := s.ctl.sluice.withheld
  { s with ctl.sluice := { s.ctl.sluice with withheld := tput w node (tgetD w node 0 ||| (1 <<< bit)) } }

/-- The Sluice logic acts on an envelope failure of a node (R292). -/
def envelopeAction (node : Nat) (s : State) : State :=
  let a := s.cfg.sluice.envAction
  let s := if a % 2 = 0 then withhold 1 node s
    else { s with ctl.sluice := { s.ctl.sluice with grantMap := 0 } }
  if a = 2 then (raiseStop 6 s.cfg.sluice.envCat [node] .here s).2.2
  else if a = 3 then (raiseStop 6 s.cfg.sluice.envCat [] .here s).2.2
  else s

/-- A module stop source acts only while the side holds the active role (R288). -/
def State.raises (s : State) : Bool := s.hsw.active.isSome

end Sys2Proof.Machine
end

