-- ==== Sys2Proof/Machine/Members.lean ====
section
/-! DEFINITION.
Connections of the Mere link, as every subsystem uses them: downlink frames (R266), CTRL messages with an instant
(R262), channel maps (R261, R263), placement of slots and flows (R256, R259, R356), and the end of a connection (R264).
-/

namespace Sys2Proof.Machine

def State.conn (s : State) (node : Nat) : Option Conn := tget s.ctl.conns node

def State.modConn (s : State) (node : Nat) (f : Conn → Conn) : State :=
  { s with ctl.conns := tmod s.ctl.conns node f }

def ConnRun.start (now : Nat) : ConnRun :=
  { held := [], repeats := 0, dups := 0, skipped := 0, rssi := -32768, lastHeard := now, eventCtr := 0,
    heardInEvent := false, sentInEvent := false, failures := [], autoRate := 4, emptyTold := false }

def State.connRun (s : State) (node : Nat) : ConnRun := tgetD s.vol.mac.conns node (ConnRun.start 0)

def State.modConnRun (s : State) (node : Nat) (f : ConnRun → ConnRun) : State :=
  { s with vol.mac := { s.vol.mac with conns := tput s.vol.mac.conns node (f (s.connRun node)) } }

def State.macLane (s : State) (l : Nat) : MacLane := s.vol.mac.lanes.getD l MacLane.start

def State.modMacLane (s : State) (l : Nat) (f : MacLane → MacLane) : State :=
  { s with vol.mac := { s.vol.mac with lanes := s.vol.mac.lanes.modify l f } }

/-- The node of the connection that holds a member_id. -/
def State.nodeOf (s : State) (memberId : Nat) : Option Nat :=
  (s.ctl.conns.find? fun e => e.2.memberId == memberId).map (·.1)

/-- Whether the connection's lane is an OFDM lane. -/
def State.connOfdm (s : State) (c : Conn) : Bool := (s.lane c.par.lane).ofdm

/-! ### Events of a connection (R259, R261) -/

/-- Events after the anchor whose superframe has begun by `asn`. -/
def eventsBy (c : Conn) (asn : Nat) : Nat := (asn - c.anchorAsn) / max 1 c.par.interval

/-- The event counter at `asn` (R259); before the anchor, the counter ahead of it. -/
def eventAt (c : Conn) (asn : Nat) : Nat :=
  if asn < c.anchorAsn then (c.anchorCtr + 65535) % 65536 else (c.anchorCtr + eventsBy c asn) % 65536

/-- Whether an event of the connection falls in superframe `asn`. -/
def eventIn (c : Conn) (asn : Nat) : Bool :=
  decide (c.anchorAsn ≤ asn) && (asn - c.anchorAsn) % max 1 c.par.interval == 0

/-- The ASN of event counter `e`, the next at or after the event counter at `asn` (R262). -/
def asnOfEvent (c : Conn) (asn e : Nat) : Nat :=
  let k := if asn < c.anchorAsn then 0 else eventsBy c asn
  let cur := (c.anchorCtr + k) % 65536
  c.anchorAsn + (k + (e + 65536 - cur) % 65536) * max 1 c.par.interval

/-- The channel of an event (R261): n channels, map m. -/
def hopChan (seed hop n m e : Nat) : Nat :=
  let u := (seed + e * hop) % max 1 n
  if m.testBit u then u
  else
    let ks := bitsOf 64 m
    if ks.isEmpty then u else ks.getD (u % ks.length) 0

/-- The effective map: the host map less every channel in CAC or unavailable (R263). -/
def State.effective (s : State) (c : Conn) : Nat :=
  maskOf ((bitsOf 64 c.hostMap).filter fun k => s.chanAvailable c.par.lane k)

/-- The first and last slot for connections, and the width of a use (Tables Mere-1 and Mere-2). -/
def State.slotRange (s : State) (l : Nat) : Nat × Nat × Nat :=
  if (s.lane l).ofdm then (2, 14, 1) else (4, 23, (s.laneMac l).span)

/-- The header word of a DATA frame without ack, more and sync, as queued: seq and kind (Table Mere-5). -/
def dataHead (seq kind : Nat) : List Byte := beBytes 4 (seq % 4096 * 2 ^ 20 + kind % 16 * 2 ^ 16)

/-! ### What goes out at an event (R247, R260 to R267, R375) -/

/-- What a connection sends at an event: seq, kind, payload, and whether it is a repeat or new from the queue. -/
structure Downlink where
  seq     : Nat
  kind    : Nat
  payload : List Byte
  again   : Bool
  fresh   : Bool

/-- The frame of R266 and R497: a DISCONNECT, the oldest unacknowledged frame, a new one, or a null frame. -/
def State.nextDown (s : State) (node : Nat) (c : Conn) : Downlink :=
  match c.ending with
  | some d => ⟨d.seq, 0, beBytes 1 5 ++ beBytes 1 d.cause, decide (d.left < 3), false⟩
  | none =>
    match (s.connRun node).held with
    | f :: _ => ⟨f.seq, f.kind, f.payload, true, false⟩
    | [] =>
      match (s.queue c.flow).packets with
      | p :: _ => ⟨beNat (p.data.take 4) / 2 ^ 20, beNat (p.data.take 4) / 2 ^ 16 % 16, p.data.drop 4, false, true⟩
      | [] => ⟨c.seqDn, 0, [], false, false⟩

/-- The frames that the controller holds for a member beside the one that it sends. -/
def State.heldBeside (s : State) (node : Nat) (d : Downlink) (c : Conn) : Nat :=
  (s.queue c.flow).packets.length - b2n d.fresh + ((s.connRun node).held.length - b2n (d.again && c.ending.isNone))

/-- The DATA header of a downlink frame (Table Mere-5). -/
def downHead (d : Downlink) (c : Conn) (more : Bool) : List Byte :=
  beBytes 4 (d.seq * 2 ^ 20 + d.kind * 2 ^ 16 + (c.nextUp + 4095) % 4096 * 16 + 8 * b2n more + 4 * b2n c.downSync)

/-- The rate code in force: automatic is the run's own. -/
def State.rateInForce (s : State) (node : Nat) (c : Conn) : Nat :=
  if !s.connOfdm c then 0 else if c.par.rate = 0xFF then (s.connRun node).autoRate else c.par.rate

/-- A skip of R260. -/
def skipEvent (node l : Nat) (s : State) : State :=
  let s := s.modConnRun node fun r => { r with skipped := satInc 32 r.skipped }
  countEvents 0x0701 (some l) 1 (s.modMacLane l fun m => { m with skips := satInc 32 m.skips })

/-- What a sent downlink frame leaves. -/
def sentDown (node : Nat) (d : Downlink) (c : Conn) (s : State) : State :=
  let s := s.modConn node fun c => { c with ctrDn := c.ctrDn + 1 }
  let s := s.modConnRun node fun r =>
    { r with
      sentInEvent := true
      repeats := if d.again then satInc 32 r.repeats else r.repeats
      held := if d.fresh then r.held ++ [⟨d.seq, d.kind, d.payload⟩] else r.held }
  if d.fresh then ((takePacket c.flow s).map (·.2)).getD s else s

/-- A DATA frame of a connection goes out on a channel of its lane, when it fits its slot and the channel is available; with no channel in
the effective map none is (R263). -/
def transmitDown (node ch asn slot : Nat) (body : List Byte) (c : Conn) (s : State) : TxResult × State :=
  let l := c.par.lane
  let n := psduLen 5 c.par.mesh body.length
  match fitRate (s.lane l) (s.slotRange l).2.2 (s.rateInForce node c) n with
  | none => (.blocked, s)
  | some r =>
    if s.chanAvailable l ch && s.effective c != 0 then
      transmit (airTime (s.lane l) r n)
        { lane := l, chan := ch, asn := asn, slot := slot, type := 5, node := node, ctr := c.ctrDn + 1,
          mesh := meshFor c.par.mesh c.par.ttl, body := body, edition := c.edition, wave := ppduOf (s.lane l) r } s
    else (.blocked, s)

/-- The CONN_UPDATE message (Table Mere-11). -/
def connUpdateMsg (u : ConnUpdate) : List Byte :=
  let p := u.params
  beBytes 1 1 ++ beBytes 2 u.instant ++ beBytes 4 u.newAsn ++ beBytes 1 p.lane ++ beBytes 1 p.squad ++
    beBytes 2 p.interval ++ beBytes 1 p.downSlot ++ beBytes 1 p.upSlot ++ beBytes 1 p.upCount ++ beBytes 2 p.latency ++
    beBytes 2 p.sup ++ beBytes 1 p.hop ++ beBytes 1 p.seed ++ beBytes 1 p.rate

/-- The data of the frame at the head of a queue change. -/
def modHead (q : Nat) (data : List Byte) (s : State) : State :=
  s.modQueue q fun k => { k with packets := match k.packets with
    | [] => []
    | p :: t => { p with data := data } :: t }

/-- The instant of a CTRL message that is first sent at event `e`: the one set, or, where frames ahead of it have used up its lead, latency
+ 4 events on (R262). DESIGN CHOICE (log 16). -/
def Conn.instantFrom (c : Conn) (e i : Nat) : Nat :=
  let lead := (i + 65536 - e) % 65536
  if lead < 32768 ∧ c.par.latency + 4 ≤ lead then i else (e + c.par.latency + 4) % 65536

/-- A CONN_UPDATE with a later instant: its new ASN stays in the places that it has taken. -/
def ConnUpdate.moved (asn : Nat) (c : Conn) (i : Nat) (u : ConnUpdate) : ConnUpdate :=
  let step := max 1 u.params.interval
  { u with instant := i, newAsn := u.newAsn + ceilDiv (asnOfEvent c asn i - u.newAsn) step * step }

/-- A CONN_UPDATE or CHAN_MAP that is about to be sent for the first time keeps its lead (R262). -/
def keepLead (node asn : Nat) (s : State) : State :=
  match s.conn node with
  | none => s
  | some c =>
    let d := s.nextDown node c
    let e := eventAt c asn
    if !d.fresh || d.kind != 0 then s
    else
      let i := beNat (slice d.payload 1 2)
      let j := c.instantFrom e i
      match beNat (slice d.payload 0 1), c.update, c.chanMap with
      | 1, some u, _ =>
        if i = j then s
        else
          let u := u.moved asn c j
          modHead c.flow (dataHead d.seq 0 ++ connUpdateMsg u) (s.modConn node fun c => { c with update := some u })
      | 2, _, some (_, x) =>
        if i = j then s
        else modHead c.flow (dataHead d.seq 0 ++ beBytes 1 2 ++ beBytes 2 j ++ beBytes 8 x)
          (s.modConn node fun c => { c with chanMap := some (j, x) })
      | _, _, _ => s

/-- A queued downlink frame takes the number before its own. -/
def PeatPacket.earlier (p : PeatPacket) : PeatPacket :=
  let w := beNat (p.data.take 4)
  { p with data := dataHead ((w / 2 ^ 20 + 4095) % 4096) (w / 2 ^ 16 % 16) ++ p.data.drop 4 }

/-- The frames of a kind that a downlink queue holds, sent not once, are withdrawn, the first of them at most; those behind it take
the numbers that it leaves (R266, R344). DESIGN CHOICE (log 33). -/
def withdrawFrame (node kind : Nat) (s : State) : State :=
  match s.conn node with
  | none => s
  | some c =>
    let ps := (s.queue c.flow).packets
    match ps.find? fun p => p.kind == kind with
    | none => s
    | some p =>
      let i := ps.findIdx fun p => p.kind == kind
      let s := s.modQueue c.flow fun k => { k with packets := k.packets.take (i + 1) ++ (k.packets.drop (i + 1)).map PeatPacket.earlier }
      (freeByCell c.flow p.cell s).modConn node fun c => { c with seqDn := (c.seqDn + 4095) % 4096 }

/-- A poisoned frame at the head of a downlink queue is discarded with a record (R380); the frames behind it take the numbers that it
leaves, so that those sent stay consecutive (R266). DESIGN CHOICE (log 175). -/
def dropSpoiled (node : Nat) : Nat → State → State
  | 0, s => s
  | n + 1, s =>
    match s.conn node with
    | none => s
    | some c =>
      match (s.queue c.flow).packets with
      | p :: _ =>
        if p.poison then
          let s := dropPoisoned c.flow 1 s
          let s := s.modQueue c.flow fun k => { k with packets := k.packets.map PeatPacket.earlier }
          dropSpoiled node n (s.modConn node fun c => { c with seqDn := (c.seqDn + 4095) % 4096 })
        else s
      | [] => s

/-- Whether the next frame to a member is one that its queue holds, or would be. -/
def State.readsQueue (s : State) (node : Nat) (c : Conn) : Bool := c.ending.isNone && (s.connRun node).held.isEmpty

/-- The frame due to a member goes out in its downlink slot, or the event is skipped (R260). -/
def sendDown (node asn slot : Nat) (s : State) : State :=
  let s := keepLead node asn s
  match s.conn node with
  | none => s
  | some c =>
    let l := c.par.lane
    let ch := hopChan c.par.seed c.par.hop (s.lane l).channels.length c.effMap (eventAt c asn)
    let d := s.nextDown node c
    let body := downHead d c (decide (0 < s.heldBeside node d c)) ++ d.payload
    match transmitDown node ch asn slot body c s with
    | (.sent, s) => sentDown node d c s
    | (_, s) => skipEvent node l s

/-- A commit to a downlink queue satisfies the head read that stalled on it first (R375). -/
def fillDown (q node : Nat) (s : State) : State :=
  match (s.queue q).stalled with
  | [] => s
  | r :: t => sendDown node r.asn r.slot (s.modQueue q fun k => { k with stalled := t })

/-- The head read that stalled first on a downlink queue returns empty at its limit: a null frame goes out (R266, R375). -/
def expireDown (q node : Nat) (s : State) : State :=
  match (s.queue q).stalled with
  | [] => s
  | r :: t => sendDown node r.asn r.slot (s.modQueue q fun k => { k with stalled := t, stallOut := satInc 16 k.stallOut })

/-! ### Downlink frames (R266) -/

/-- A frame enters a member's downlink queue under the next seq; none when the queue refuses it (R379). -/
def queueFrame (node kind : Nat) (payload : List Byte) (s : State) : Option (Nat × State) :=
  match s.conn node with
  | none => none
  | some c =>
    let d := dataHead c.seqDn kind ++ payload
    match commitPacket c.flow d.length kind node d s with
    | none => none
    | some (_, s) => some (c.seqDn, fillDown c.flow node (s.modConn node fun c => { c with seqDn := (c.seqDn + 1) % 4096 }))

/-- A frame of an internal producer: a refusal is counted and recorded (R379). -/
def queueOrRecord (node kind : Nat) (payload : List Byte) (s : State) : State :=
  match s.conn node with
  | none => s
  | some c =>
    match queueFrame node kind payload s with
    | some (_, s) => s
    | none => recordOther 0x0C 0 (refuseReserve c.flow (4 + payload.length) s)

/-- The instant of a CTRL message: latency + 4 events, and the frames ahead of it, after the present event (R262). The
allowance for the frames ahead is a DESIGN CHOICE (log 16). -/
def State.nextInstant (s : State) (node : Nat) (c : Conn) : Nat :=
  let ahead := (s.queue c.flow).packets.length + (s.connRun node).held.length
  (eventAt c s.asn + 1 + ahead + c.par.latency + 4) % 65536

/-- CHAN_MAP to a member whose effective map has changed (R263). -/
def updateMap (node : Nat) (s : State) : State :=
  match s.conn node with
  | none => s
  | some c =>
    let m := s.effective c
    if m = 0 then
      if (s.connRun node).emptyTold then s
      else
        let s := s.modConnRun node fun r => { r with emptyTold := true }
        sendMsg 0x0781 (leBytes 2 node ++ leBytes 1 c.par.lane ++ leBytes 1 6 ++ zeros 4 ++ leBytes 8 s.mtbNs) s
    else
      let s := s.modConnRun node fun r => { r with emptyTold := false }
      if m = c.effMap ∨ c.chanMap.isSome then s
      else
        let i := s.nextInstant node c
        queueOrRecord node 0 (beBytes 1 2 ++ beBytes 2 i ++ beBytes 8 m)
          (s.modConn node fun c => { c with chanMap := some (i, m) })

/-- The members of a lane after a change of its DFS states (R263). -/
def updateMaps (l : Nat) (s : State) : State :=
  (s.ctl.conns.filter fun e => e.2.par.lane == l).foldl (fun s e => updateMap e.1 s) s

/-- RATE: the member's solving rate code and mode, 0xFF and 0 for none or at edition 1 (Table Mere-11). -/
def State.rateOf (s : State) (node : Nat) (c : Conn) : Nat × Nat :=
  if c.edition = 1 then (0xFF, 0)
  else
    match tget s.cfg.solver.members node with
    | some m => (m.rate, m.mode)
    | none => (0xFF, 0)

/-- RATE is sent when it differs from what the member was last told, or when `always`. -/
def sendRate (always : Bool) (node : Nat) (s : State) : State :=
  match s.conn node with
  | none => s
  | some c =>
    let r := s.rateOf node c
    if always || r != c.rateSent then
      queueOrRecord node 0 (beBytes 1 3 ++ beBytes 1 r.1 ++ beBytes 1 r.2)
        (s.modConn node fun c => { c with rateSent := r })
    else s

/-- SITE_KEY under K_wrap, with the node and key_id as additional data (Table Mere-11); the iv is a free value (log 17). -/
def siteKeyMsg (k : SiteKey) (c : Conn) (node : Nat) (s : State) : List Byte × State :=
  let (d, s) := s.draw
  let iv := slice (Config.random 12 d) 0 12
  let x := Config.gcmSeal c.kWrap iv (beBytes 2 node ++ beBytes 1 k.keyId) k.key
  (beBytes 1 4 ++ beBytes 1 k.keyId ++ beBytes 4 k.switchAsn ++ iv ++ slice x.1 0 16 ++ slice x.2 0 16, s)

/-- SITE_KEY to one member. -/
def sendSiteKey (k : SiteKey) (node : Nat) (s : State) : State :=
  match s.conn node with
  | none => s
  | some c =>
    let (m, s) := siteKeyMsg k c node s
    queueOrRecord node 0 m s

/-! ### Slots (R242, R243, R259) -/

/-- Slots of its superframe or cycle that a connection holds on its lane. -/
def State.connSlots (s : State) (p : ConnParams) : List Nat :=
  let w := if (s.lane p.lane).ofdm then 1 else (s.laneMac p.lane).span
  (List.range w).map (p.downSlot + ·) ++ (List.range (w * p.upCount)).map (p.upSlot + ·)

/-- Slots that a relay holds in the superframes of its phase (R272). -/
def State.relaySlots (s : State) (p : ConnParams) : List Nat :=
  if p.relay then (List.range (if (s.lane p.lane).ofdm then 1 else (s.laneMac p.lane).span)).map (p.relaySlot + ·)
  else []

/-- What holds slots on a lane: first ASN, period and slots. -/
def State.holders (s : State) (l except : Nat) : List (Nat × Nat × List Nat) :=
  let one := fun (asn : Nat) (p : ConnParams) =>
    if p.lane = l then
      (asn, p.interval, s.connSlots p) ::
        (if p.relay then [(p.relayPhase, p.relayPeriod, s.relaySlots p)] else [])
    else []
  (s.ctl.conns.flatMap fun e =>
    (if e.1 = except then [] else one e.2.anchorAsn e.2.par) ++
      (match e.2.update with
       | some u => if e.1 = except then [] else one u.newAsn u.params
       | none => [])) ++
    (s.vol.mac.lanes.flatMap fun m => match m.join with
      | some j => if j.status = 0 then one j.firstAsn j.par else []
      | none => []) ++
    s.ctl.handovers.targets.flatMap fun t => one t.conn.anchorAsn t.conn.par

/-- Whether two periodic uses ever meet in one superframe with a common slot. -/
def meets (a b : Nat × Nat × List Nat) : Bool :=
  let g := Nat.gcd (max 1 a.2.1) (max 1 b.2.1)
  a.1 % g == b.1 % g && a.2.2.any fun k => b.2.2.contains k

/-- Slot placements of a connection with `up` uplinks: downlink slot and first uplink slot. -/
def State.placements (s : State) (l up : Nat) : List (Nat × Nat) :=
  let (lo, hi, w) := s.slotRange l
  ((List.range (hi + 1 - lo)).map (lo + ·)).filterMap fun d =>
    if d + w + w * up ≤ hi + 1 then some (d, d + w) else none

/-- A free placement: first ASN at or after `asn`, downlink and uplink slot. The choice is open (R256): the first that
meets R259 is a DESIGN CHOICE (log 18). -/
def State.place (s : State) (l except interval up asn : Nat) : Option (Nat × Nat × Nat) :=
  let hs := s.holders l except
  let step := if (s.lane l).ofdm then 1 else 50
  let (_, _, w) := s.slotRange l
  (List.range (max 1 (interval / step))).findSome? fun k =>
    (s.placements l up).findSome? fun (d, u) =>
      let me := (asn + k * step, interval, (List.range w).map (d + ·) ++ (List.range (w * up)).map (u + ·))
      if hs.any fun h => meets me h then none else some (asn + k * step, d, u)

/-- A free relay slot: phase and slot (R272). -/
def State.placeRelay (s : State) (l except period : Nat) (mine : Nat × Nat × List Nat) : Option (Nat × Nat) :=
  let hs := mine :: s.holders l except
  let (lo, hi, w) := s.slotRange l
  let step := if (s.lane l).ofdm then 1 else 50
  (List.range period).findSome? fun ph =>
    if ph % step = 0 then
      (List.range (hi + 2 - lo - w)).findSome? fun k =>
        let me := (ph, period, (List.range w).map (lo + k + ·))
        if hs.any fun h => meets me h then none else some (ph, lo + k)
    else none

/-- The members that hold a place in a squad (R34): by their connection or by the CONN_UPDATE that is to move it there, by an
admission staged on a lane, or by a handover into this domain that is staged. -/
def State.squadMembers (s : State) (squad : Nat) : List Nat :=
  ((s.ctl.conns.filter fun e => e.2.par.squad == squad || e.2.update.any fun u => u.params.squad == squad).map (·.2.memberId) ++
    s.vol.mac.lanes.filterMap (fun m => match m.join with
      | some j => if j.status = 0 ∧ j.squad = squad then some j.memberId else none
      | none => none) ++
    (s.ctl.handovers.targets.filter fun t => t.conn.par.squad == squad).map (·.conn.memberId)).eraseDups

/-- Places taken in a squad by members other than one member_id. -/
def State.squadCount (s : State) (squad memberId : Nat) : Nat := ((s.squadMembers squad).filter (· != memberId)).length

/-! ### Flows (R356) -/

/-- The flow for a node that joins: its former one while that is not yet free, else the lowest free one. -/
def State.newFlow (s : State) (node : Nat) : Option Nat :=
  match s.vol.sched.flows.find? fun e => decide (e.1 < 0x800) && e.2.member && e.2.node == node with
  | some e => some e.1
  | none => (List.range 2048).find? fun f => s.flowFree f

/-- A flow is bound to a member. -/
def bindFlow (f node : Nat) (s : State) : State := s.modFlow f fun x => { x with node := node, member := true }

/-- The flow on which work for a node is queued (R356, Table Sched-3). -/
def State.flowOf (s : State) (node : Nat) : Nat :=
  match s.conn node with
  | some c => c.flow
  | none => 0x880

/-! ### The end of a connection -/

/-- The packets of a queue are dropped, and the reads that stall on it end. -/
def dropQueue (q : Nat) (s : State) : State :=
  let s := (s.queue q).packets.foldl (fun s p => unlink p s) s
  watermarks (s.modQueue q fun k => { k with packets := [], stalled := [] })

/-- MAC.LINK_EVENT (R264, R497). -/
def linkEvent (node lane kind : Nat) (s : State) : State :=
  sendMsg 0x0781 (leBytes 2 node ++ leBytes 1 lane ++ leBytes 1 kind ++ zeros 4 ++ leBytes 8 s.mtbNs) s

/-- A connection ends with a kind of MAC.LINK_EVENT: its frames are lost (R497), its flow is freed once it holds no
item (R356), its windows wait for the tick boundary (R326), its solver states are kept (R186), and a stop that it has
not confirmed counts it as unreachable (R300). -/
def endConn (node kind : Nat) (s : State) : State :=
  match s.conn node with
  | none => s
  | some c =>
    let now := s.mtb
    let s := { s with
      ctl.conns := tdel s.ctl.conns node
      vol.mac := { s.vol.mac with conns := tdel s.vol.mac.conns node }
      vol.sluice := { s.vol.sluice with status := tdel s.vol.sluice.status node }
      vol.dyke := { s.vol.dyke with
        pinDue := sput s.vol.dyke.pinDue node, frames := tdel s.vol.dyke.frames node
        positions := if c.edition = 1 then s.vol.dyke.positions else tdel s.vol.dyke.positions node }
      vol.solver := { s.vol.solver with
        runs := tmod s.vol.solver.runs node fun r => { r with endedAt := some now, begun := false } } }
    let s := dropQueue c.flow (cancelTimers c.flow 4 (cancelTimers c.flow 3 s))
    let s := freeFlow c.flow s
    let s := reclassAll (fun _ m => if m.node = node ∧ m.memberId = c.memberId then m.unreach else m) s
    record 0x0702 node (leBytes 1 c.par.lane ++ leBytes 1 kind) (linkEvent node c.par.lane kind s)

/-- A CONN item ends a connection: in the present step when a core takes it now, else when it is served (R354). -/
def askEnd (node kind : Nat) (s : State) : State :=
  match s.conn node with
  | none => s
  | some c =>
    if s.servesNow 6 c.flow then endConn node kind (ranItem 6 c.flow node s)
    else enqueue { newItem 6 c.flow node with work := some (.endConn kind) } s

/-- Every connection of a lane ends. -/
def endLane (l kind : Nat) (s : State) : State :=
  (s.ctl.conns.filter fun e => e.2.par.lane == l).foldl (fun s e => askEnd e.1 kind s) s

/-- DISCONNECT begins: its seq, and three events to send it in (R497); false when one is already being sent. -/
def disconnect (node cause : Nat) (s : State) : Bool × State :=
  match s.conn node with
  | none => (false, s)
  | some c =>
    if c.ending.isSome then (false, s)
    else (true, s.modConn node fun c =>
      { c with ending := some ⟨cause, c.seqDn, 3⟩, seqDn := (c.seqDn + 1) % 4096 })

/-! ### When a member's profile frames fall due (R344) -/

def ProfileState.start : ProfileState :=
  { mode := 4, frameNo := 0, planNo := 0, hold := none, rest := 0, proj := none, resumeTold := false, resuming := false,
    turnsTold := 0, lastAsn := 0, fresh := false, holdCat := 0 }

def State.profile (s : State) (node : Nat) : ProfileState := tgetD s.ctl.dyke.profiles node ProfileState.start

def State.modProfile (s : State) (node : Nat) (f : ProfileState → ProfileState) : State :=
  { s with ctl.dyke := { s.ctl.dyke with profiles := tput s.ctl.dyke.profiles node (f (s.profile node)) } }

/-- The present instant of ATB. -/
def State.atbNow (s : State) : Nat := s.ctl.time.atb.getD 0

/-- The MTB tick at which a superframe begins. -/
def State.mtbOfAsn (s : State) (asn : Nat) : Nat := s.mtb + (atbOfAsn asn - s.atbNow) / unitTick

/-- A member's frame rate, in Hz. -/
def State.frameHz (s : State) (node : Nat) : Nat :=
  match tget s.cfg.profile.rates node with
  | some 0 => s.cfg.profile.defRate
  | some r => r
  | none => s.cfg.profile.defRate

/-- P, in superframes. -/
def framePeriod (hz : Nat) : Nat := 500 / max 1 hz

/-- The effective period of a connected member. -/
def State.effPeriod (s : State) (node : Nat) (c : Conn) : Nat := max (framePeriod (s.frameHz node)) c.par.interval

/-- The first connection event at or after an ASN. -/
def eventFrom (c : Conn) (asn : Nat) : Nat :=
  c.anchorAsn + ceilDiv (asn - c.anchorAsn) (max 1 c.par.interval) * max 1 c.par.interval

/-- The next connection event of a member. -/
def State.nextEvent (s : State) (c : Conn) : Nat := eventFrom c (s.asn + 1)

/-- The event of a member's next frame: the next one after a new plan or a change of mode, else the first at or after the multiple of
the effective period that follows the event of the last frame. -/
def State.frameEvent (s : State) (node : Nat) (c : Conn) : Nat :=
  let f := s.profile node
  let p := s.effPeriod node c
  if f.fresh then s.nextEvent c else eventFrom c (max (s.asn + 1) ((f.lastAsn / p + 1) * p))

/-- The delay-list timer of a member's next frame is armed one superframe before its event, unless one is armed that fires by then.
DESIGN CHOICE (log 180). -/
def armFrame (node : Nat) (s : State) : State :=
  match s.conn node with
  | none => s
  | some c =>
    let due := s.mtbOfAsn (s.frameEvent node c - 1)
    if s.vol.sched.timers.any fun t => t.flow == c.flow && t.item.kind == 3 && decide (t.due ≤ due) then s
    else armTimer c.flow 3 node due s

/-- The frames of a connection that begins run from its anchor on. -/
def beginFrames (node : Nat) (s : State) : State :=
  match s.conn node with
  | none => s
  | some c => armFrame node (s.modProfile node fun f => { f with lastAsn := c.anchorAsn - 1 })

/-- A new plan or a change of mode has committed: a frame falls due at the next event. -/
def freshFrame (node : Nat) (s : State) : State := armFrame node (s.modProfile node fun f => { f with fresh := true })

end Sys2Proof.Machine
end

