-- ==== Sys2Proof/Machine/Geo.lean ====
section
/-! DEFINITION.
Arithmetic of the plane and of planned motion: square roots and circular functions to a fixed precision (log 25), the
local frame, the centrelines of segments (R304, R309, R495), and polynomials in time.
-/

namespace Sys2Proof.Machine

/-! ### Roots and circular functions -/

/-- Square root of a rational, to 10⁻⁶. -/
def rootQ (q : Rat) : Rat := mkRat (isqrt (q * 1000000000000).floor.toNat) 1000000

/-- One unit of the fixed-point circular functions: 10¹⁵. -/
def fxOne : Int := 1000000000000000

/-- Sum of `n` terms of an alternating power series from term `k`: `t` is the present term and `x2` the square of the
argument. -/
def fxSeries : Nat → Int → Int → Int → Int
  | 0, _, _, _ => 0
  | n + 1, k, t, x2 => t + fxSeries n (k + 2) (-(t * x2 / fxOne / (k * (k + 1)))) x2

/-- Sine of an angle in units of 10⁻¹⁵ rad. -/
def fxSin (x : Int) : Int := fxSeries 16 2 x (x * x / fxOne)

/-- Cosine of an angle in units of 10⁻¹⁵ rad. -/
def fxCos (x : Int) : Int := fxSeries 16 1 fxOne (x * x / fxOne)

/-- A quarter turn in units of 10⁻¹⁵ rad. -/
def fxQuarter : Int := 1570796326794897

/-- The angle of 0 to a quarter turn whose sine is `y`, by bisection. -/
def fxAsinFrom : Nat → Int → Int → Int → Int
  | 0, lo, _, _ => lo
  | n + 1, lo, hi, y =>
    let m := (lo + hi) / 2
    if fxSin m ≤ y then fxAsinFrom n m hi y else fxAsinFrom n lo m y

/-- Inverse sine of a value of -1 to 1. -/
def asinQ (x : Rat) : Rat :=
  let y := (x * fxOne).floor
  let a := fxAsinFrom 52 0 fxQuarter (min fxOne y.natAbs)
  mkRat (if y < 0 then -a else a) fxOne.toNat

def sinQ (x : Rat) : Rat := mkRat (fxSin (x * fxOne).floor) fxOne.toNat
def cosQ (x : Rat) : Rat := mkRat (fxCos (x * fxOne).floor) fxOne.toNat

/-- Half a turn, in rad. -/
def halfTurn : Rat := mkRat (2 * fxQuarter) fxOne.toNat

/-- The angle of (x, y) by quadrants, in turns: -1/2 to 1/2. -/
def atan2Turns (y x : Rat) : Rat :=
  let h := rootQ (x * x + y * y)
  if h = 0 then 0
  else
    let a := asinQ (min 1 (|y| / h)) / (2 * halfTurn)
    let b := if x < 0 then 1 / 2 - a else a
    if y < 0 then -b else b

/-- Binary digits of the logarithm of `y`, held in units of 2⁻⁶⁰ between 1 and 2. -/
def log2Bits : Nat → Nat → Nat → Nat
  | 0, _, r => r
  | n + 1, y, r =>
    let q := y * y / 2 ^ 60
    if 2 ^ 61 ≤ q then log2Bits n (q / 2) (2 * r + 1) else log2Bits n q (2 * r)

/-- 1000 log10 of a positive rational, to the nearest whole number: ten times the logarithm, in hundredths (log 25). -/
def log10Milli (x : Rat) : Int :=
  let e : Int := (Nat.log2 x.num.toNat : Int) - Nat.log2 x.den
  let y0 : Nat := (x / (2 : Rat) ^ e * 2 ^ 60).floor.toNat
  let (e, y) := if y0 < 2 ^ 60 then (e - 1, 2 * y0) else (e, y0)
  let l : Rat := e + mkRat (log2Bits 40 y 0) (2 ^ 40)
  roundRat (l * mkRat 301029995663981 1000000000000)

/-- Terms of the exponential series, from the term `k`. -/
def expTerms : Nat → Nat → Rat → Rat
  | 0, _, _ => 1
  | n + 1, k, x => 1 + x / k * expTerms n (k + 1) x

/-- 10 to the power of `d` thousandths. -/
def pow10Milli (d : Nat) : Rat :=
  10 ^ (d / 1000) * expTerms 24 1 (mkRat (d % 1000 * 2302585092994046) 1000000000000000000)

/-! ### The local frame (R304) -/

/-- East, north and up at an ECEF point, as ECEF vectors. The latitude of the vertical is a free value of the installation
(log 26). -/
def frameAt (o : Int × Int × Int) : List (List Rat) :=
  let (sf, cf) := Config.latitude o.1 o.2.1 o.2.2
  let r := rootQ (o.1 * o.1 + o.2.1 * o.2.1 : Int)
  let cl : Rat := if r = 0 then 1 else o.1 / r
  let sl : Rat := if r = 0 then 0 else o.2.1 / r
  [[-sl, cl, 0], [-sf * cl, -sf * sl, cf], [cf * cl, cf * sl, sf]]

/-- East and north of an ECEF point in the frame of an origin, mm. The latitude of the origin's vertical is a free
value of the installation (log 26). -/
def localOf (o p : Int × Int × Int) : Rat × Rat :=
  let (sf, cf) := Config.latitude o.1 o.2.1 o.2.2
  let r := rootQ (o.1 * o.1 + o.2.1 * o.2.1 : Int)
  let cl : Rat := if r = 0 then 1 else o.1 / r
  let sl : Rat := if r = 0 then 0 else o.2.1 / r
  let dx : Rat := (p.1 - o.1 : Int)
  let dy : Rat := (p.2.1 - o.2.1 : Int)
  let dz : Rat := (p.2.2 - o.2.2 : Int)
  (-sl * dx + cl * dy, -sf * cl * dx - sf * sl * dy + cf * dz)

/-! ### Centrelines -/

/-- The centreline of a segment: its end points, and its curvature in 10⁻⁹ mm⁻¹. -/
structure Curve where
  x0 : Rat
  y0 : Rat
  x1 : Rat
  y1 : Rat
  kappa : Int

/-- The chord between the junction points. -/
def Curve.chord (c : Curve) : Rat := rootQ ((c.x1 - c.x0) * (c.x1 - c.x0) + (c.y1 - c.y0) * (c.y1 - c.y0))

/-- |κ| × c / 2 of R309. -/
def Curve.bend (c : Curve) : Rat := c.kappa.natAbs * c.chord / 2000000000

/-- The arc length A (R309). -/
def Curve.arc (c : Curve) : Rat :=
  if c.kappa = 0 then c.chord else 2000000000 / (c.kappa.natAbs : Rat) * asinQ (min 1 c.bend)

/-- The nearest point of a centreline to (x, y): its arc distance from the from-end, its distance, and the tangent. -/
def Curve.near (c : Curve) (x y : Rat) : Rat × Rat × Rat × Rat :=
  let ch := c.chord
  let ends (a : Rat) (d0 d1 tx ty : Rat) : Rat × Rat × Rat × Rat := if d0 ≤ d1 then (0, d0, tx, ty) else (a, d1, tx, ty)
  let d0 := rootQ ((x - c.x0) * (x - c.x0) + (y - c.y0) * (y - c.y0))
  let d1 := rootQ ((x - c.x1) * (x - c.x1) + (y - c.y1) * (y - c.y1))
  if ch = 0 then (0, d0, 1, 0)
  else
    let ux := (c.x1 - c.x0) / ch
    let uy := (c.y1 - c.y0) / ch
    if c.kappa = 0 then
      let t := (x - c.x0) * ux + (y - c.y0) * uy
      if 0 ≤ t ∧ t ≤ ch then (t, |(x - c.x0) * uy - (y - c.y0) * ux|, ux, uy) else ends ch d0 d1 ux uy
    else
      let r : Rat := 1000000000 / (c.kappa.natAbs : Rat)
      let sg : Rat := if c.kappa < 0 then -1 else 1
      let h := rootQ (max 0 (r * r - ch * ch / 4))
      let cx := (c.x0 + c.x1) / 2 - sg * uy * h
      let cy := (c.y0 + c.y1) / 2 + sg * ux * h
      let ax := c.x0 - cx
      let ay := c.y0 - cy
      let bx := x - cx
      let by' := y - cy
      let rb := rootQ (bx * bx + by' * by')
      if rb = 0 then ends c.arc d0 d1 ux uy
      else
        let sn := max (-1) (min 1 (sg * (ax * by' - ay * bx) / (r * rb)))
        let half := asinQ sn
        let ang := if 0 ≤ ax * bx + ay * by' then half else (if 0 ≤ sn then halfTurn - half else -halfTurn - half)
        if 0 ≤ ang ∧ ang * r ≤ c.arc then (ang * r, |rb - r|, -sg * by' / rb, sg * bx / rb)
        else ends c.arc d0 d1 ux uy

/-- The point of a centreline at an arc distance from its from-end. -/
def Curve.point (c : Curve) (d : Rat) : Rat × Rat :=
  let ch := c.chord
  if ch = 0 then (c.x0, c.y0)
  else
    let ux := (c.x1 - c.x0) / ch
    let uy := (c.y1 - c.y0) / ch
    if c.kappa = 0 then (c.x0 + d * ux, c.y0 + d * uy)
    else
      let r : Rat := 1000000000 / (c.kappa.natAbs : Rat)
      let sg : Rat := if c.kappa < 0 then -1 else 1
      let h := rootQ (max 0 (r * r - ch * ch / 4))
      let cx := (c.x0 + c.x1) / 2 - sg * uy * h
      let cy := (c.y0 + c.y1) / 2 + sg * ux * h
      let sn := sg * sinQ (d / r)
      let cs := cosQ (d / r)
      (cx + cs * (c.x0 - cx) - sn * (c.y0 - cy), cy + sn * (c.x0 - cx) + cs * (c.y0 - cy))

/-! ### Polynomials in time -/

/-- Value of a polynomial, coefficients from the constant up. -/
def polyEval (p : List Rat) (t : Rat) : Rat := p.foldr (fun c acc => c + t * acc) 0

def polyAdd : List Rat → List Rat → List Rat
  | [], q => q
  | p, [] => p
  | a :: p, b :: q => (a + b) :: polyAdd p q

def polyScale (k : Rat) (p : List Rat) : List Rat := p.map (k * ·)

def polyMul : List Rat → List Rat → List Rat
  | [], _ => []
  | a :: p, q => polyAdd (polyScale a q) (0 :: polyMul p q)

def polyDerivFrom : Nat → List Rat → List Rat
  | _, [] => []
  | n, a :: p => (n * a) :: polyDerivFrom (n + 1) p

def polyDeriv (p : List Rat) : List Rat := polyDerivFrom 1 (p.drop 1)

/-- µs as seconds. -/
def secs (us : Nat) : Rat := mkRat us 1000000

/-- The first µs of (lo, hi] at which `f` holds, when it fails at `lo` and holds at `hi`. -/
def firstUs (f : Nat → Bool) : Nat → Nat → Nat → Nat
  | 0, _, hi => hi
  | n + 1, lo, hi =>
    if hi ≤ lo + 1 then hi
    else
      let m := (lo + hi) / 2
      if f m then firstUs f n lo m else firstUs f n m hi

/-- The instants of [0, dur] between which a polynomial is monotone, to 1 µs; `fuel` is its degree. -/
def polySplits : Nat → Nat → List Rat → List Nat
  | 0, dur, _ => [0, dur]
  | n + 1, dur, p =>
    let d := polyDeriv p
    let bs := polySplits n dur d
    let roots := (bs.zip (bs.drop 1)).filterMap fun (x, y) =>
      let a := polyEval d (secs x)
      let b := polyEval d (secs y)
      if (a < 0 ∧ 0 < b) ∨ (0 < a ∧ b < 0) then
        some (firstUs (fun m => if a < 0 then decide (0 ≤ polyEval d (secs m)) else decide (polyEval d (secs m) ≤ 0)) 40 x y)
      else none
    0 :: roots ++ [dur]

/-- The first µs of [0, dur] at which a polynomial reaches `level`. -/
def firstReach (p : List Rat) (dur : Nat) (level : Rat) : Option Nat :=
  let bs := polySplits p.length dur p
  let reach := fun m => decide (level ≤ polyEval p (secs m))
  (bs.zip (bs.drop 1)).findSome? fun (x, y) =>
    if reach x then some x else if reach y then some (firstUs reach 40 x y) else none

/-- The greatest value of a polynomial over [0, dur]. -/
def polyMax (p : List Rat) (dur : Nat) : Rat :=
  ((polySplits p.length dur p).map fun m => polyEval p (secs m)).foldl max (polyEval p 0)

/-- The last µs of [0, dur] at which a polynomial that never falls is at most `level`. -/
def lastBelow (p : List Rat) (dur : Nat) (level : Rat) : Option Nat :=
  let past := fun m => decide (level < polyEval p (secs m))
  if past 0 then none else if !past dur then some dur else some (firstUs past 40 0 dur - 1)

/-- Whole µs of a duration in seconds, rounded up. -/
def ceilUs (t : Rat) : Nat := (t * 1000000).ceil.toNat

/-- Whole µs of the square root of a duration squared, rounded up. -/
def sqrtUs (q : Rat) : Nat :=
  let m := (q * 1000000000000).ceil.toNat
  let r := isqrt m
  if r * r < m then r + 1 else r

end Sys2Proof.Machine
end

