-- ==== Sys2Proof/Machine/Signals.lean ====
section
/-! DEFINITION.
The signals of Reedbed (Table GNSS-2, Table Corr-4) and bit-packed payloads (R7, R154, R164).
-/

namespace Sys2Proof.Machine

/-! ### Signals -/

/-- A row of Table GNSS-2: constellation (0 GPS, 1 GLONASS, 2 Galileo, 3 BeiDou, 4 QZSS), index in Table Corr-4, front end,
chips per second, primary code in ms, pilot, longest coherent time, least E–L, and carrier in Hz. The carriers are those of
the systems themselves. PRESUMED (log 38). -/
structure Signal where
  const  : Nat
  idx    : Nat
  fe     : Nat
  chips  : Nat
  codeMs : Nat
  pilot  : Bool
  maxMs  : Nat
  least  : Nat
  rf     : Nat
  deriving DecidableEq, Repr, Inhabited

/-- Codes 1 to 20. -/
def signals : List Signal :=
  [⟨0, 0, 0, 1023000, 1, false, 20, 6, 1575420000⟩, ⟨0, 1, 0, 1023000, 10, true, 200, 6, 1575420000⟩,
   ⟨0, 2, 2, 511500, 20, true, 200, 3, 1227600000⟩, ⟨0, 3, 2, 10230000, 1, true, 200, 64, 1176450000⟩,
   ⟨1, 0, 1, 511000, 1, false, 10, 9, 1602000000⟩, ⟨1, 1, 1, 511000, 1, false, 10, 9, 1246000000⟩,
   ⟨1, 2, 2, 10230000, 1, true, 200, 66, 1202025000⟩, ⟨2, 0, 0, 1023000, 4, true, 200, 6, 1575420000⟩,
   ⟨2, 1, 2, 10230000, 1, true, 200, 64, 1176450000⟩, ⟨2, 2, 2, 10230000, 1, true, 200, 64, 1207140000⟩] ++
  [⟨2, 3, 3, 5115000, 1, true, 200, 33, 1278750000⟩, ⟨3, 0, 0, 2046000, 1, false, 20, 66, 1561098000⟩,
   ⟨3, 1, 0, 1023000, 10, true, 200, 6, 1575420000⟩, ⟨3, 2, 2, 10230000, 1, true, 200, 64, 1176450000⟩,
   ⟨3, 3, 3, 10230000, 1, false, 20, 64, 1268520000⟩, ⟨4, 0, 0, 1023000, 1, false, 20, 6, 1575420000⟩,
   ⟨4, 1, 0, 1023000, 10, true, 200, 6, 1575420000⟩, ⟨4, 2, 2, 511500, 20, true, 200, 3, 1227600000⟩,
   ⟨4, 3, 2, 10230000, 1, true, 200, 64, 1176450000⟩, ⟨4, 4, 3, 2557500, 4, false, 4, 17, 1278750000⟩]

/-- The row of a signal code. -/
def signalOf (sig : Nat) : Signal := if sig = 0 then default else signals.getD (sig - 1) default

/-- The code of a signal by constellation and index in Table Corr-4. -/
def sigCode (const idx : Nat) : Option Nat :=
  (signals.findIdx? fun x => x.const == const && x.idx == idx).map (· + 1)

/-- The highest satellite number of a constellation (R123). -/
def maxSv (const : Nat) : Nat := [32, 24, 36, 63, 10].getD const 0

/-- The carrier of a satellite's signal, with its GLONASS frequency channel. PRESUMED (log 38). -/
def carrier (sig : Nat) (fcn : Int) : Int :=
  (signalOf sig).rf + if sig = 5 then fcn * 562500 else if sig = 6 then fcn * 437500 else 0

/-- The lock indicator of Table Corr-3. -/
def lockCode (ms : Nat) : Nat := ([100, 1000, 4000, 16000, 64000, 256000, 1024000].filter fun t => decide (t ≤ ms)).length

/-! ### Bits, most significant first -/

/-- The bits of bytes. -/
def toBits (bs : List Byte) : List Bool := bs.flatMap fun b => (List.range 8).map fun k => b.getLsbD (7 - k)

/-- The value of bits. -/
def bitsNat (l : List Bool) : Nat := l.foldl (fun n b => 2 * n + b2n b) 0

/-- `w` bits of a value. -/
def bitsOfNat (w v : Nat) : List Bool := (List.range w).map fun k => v.testBit (w - 1 - k)

/-- `w` bits of a signed value. -/
def bitsOfInt (w : Nat) (i : Int) : List Bool := bitsOfNat w (wrapInt w i)

/-- Bits as bytes, padded with zero bits to a whole byte: `n` bytes at most. -/
def fromBits : Nat → List Bool → List Byte
  | 0, _ => []
  | n + 1, l =>
    if l.isEmpty then []
    else
      let h := l.take 8
      BitVec.ofNat 8 (bitsNat (h ++ List.replicate (8 - h.length) false)) :: fromBits n (l.drop 8)

/-- A field of `w` bits and the bits after it. -/
def takeField (w : Nat) (l : List Bool) : Option (Nat × List Bool) :=
  if l.length < w then none else some (bitsNat (l.take w), l.drop w)

/-- `n` fields of `w` bits each. -/
def takeFields (w : Nat) : Nat → List Bool → Option (List Nat × List Bool)
  | 0, l => some ([], l)
  | n + 1, l =>
    match takeField w l with
    | none => none
    | some (v, l) =>
      match takeFields w n l with
      | none => none
      | some (vs, l) => some (v :: vs, l)

end Sys2Proof.Machine
end

