-- ==== Sys2Proof/Machine/Plan.lean ====
section
/-! DEFINITION.
Planned motion: phases and their state (R337), legs (R338 to R340), hold plans (R341), and the windows that a plan
needs (R312, R319, R320).
-/

namespace Sys2Proof.Machine

/-! ### Motion -/

/-- Path coordinate, speed and acceleration, in mm and s. -/
structure Kin where
  s : Rat
  v : Rat
  a : Rat
  deriving DecidableEq, Repr, Inhabited

/-- The state `us` µs into a phase of constant jerk (R337). -/
def Kin.run (k : Kin) (j : Rat) (us : Nat) : Kin :=
  let t := secs us
  ⟨k.s + k.v * t + k.a * t * t / 2 + j * t * t * t / 6, k.v + k.a * t + j * t * t / 2, k.a + j * t⟩

/-- The state at the end of a phase. -/
def Kin.after (k : Kin) (p : Phase) : Kin :=
  let e := k.run p.jerk p.durUs
  if p.stops then ⟨e.s, 0, 0⟩ else e

/-- The state `us` µs into a list of phases, with the phases left, the first shortened, and the gear; past the last
phase the member is at rest. -/
def runPhases : List Phase → Nat → Kin → Bool → Kin × List Phase × Bool
  | [], _, k, rev => (⟨k.s, 0, 0⟩, [], rev)
  | p :: ps, us, k, rev =>
    let rev := if p.gear then !rev else rev
    if us < p.durUs then (k.run p.jerk us, { p with durUs := p.durUs - us, gear := p.gear && us == 0 } :: ps, rev)
    else runPhases ps (us - p.durUs) (k.after p) rev

/-- µs of ATB from t = 0 of a plan, 0 before it. -/
def Plan.elapsed (p : Plan) (atb : Nat) : Nat := (atb - p.t0) / 65536000

/-- The state of a plan at an instant of ATB. -/
def Plan.at (p : Plan) (atb : Nat) : Kin × List Phase × Bool :=
  runPhases p.phases (p.elapsed atb) ⟨p.s, p.v, p.a⟩ p.rev

/-- Duration of phases, in µs. -/
def phasesUs (ps : List Phase) : Nat := (ps.map (·.durUs)).sum

/-- Whether a plan has run to its end. -/
def Plan.over (p : Plan) (atb : Nat) : Bool := decide (phasesUs p.phases ≤ p.elapsed atb)

def phase (us : Nat) (j : Rat) : Phase := { durUs := us, jerk := j, gear := false, target := false }

/-! ### Legs (R338, R339) -/

/-- Ramp and constant-acceleration durations of a velocity change, in whole µs rounded up (R338, log 28). -/
def ramp (v1 v2 a j : Rat) : Nat × Nat :=
  let dv := |v2 - v1|
  if dv = 0 then (0, 0)
  else if a * a / j ≤ dv then (ceilUs (a / j), ceilUs (dv / a - a / j))
  else (sqrtUs (dv / j), 0)

/-- Distance of a velocity change (R338). -/
def rampDist (v1 v2 a j : Rat) : Rat :=
  let (tr, tc) := ramp v1 v2 a j
  (v1 + v2) / 2 * secs (2 * tr + tc)

/-- The phases of a velocity change; the jerk is the one at which the rounded durations give it exactly. -/
def rampPhases (v1 v2 a j : Rat) : List Phase :=
  let (tr, tc) := ramp v1 v2 a j
  if tr = 0 then []
  else
    let jk := (v2 - v1) / (secs tr * secs (tr + tc))
    [phase tr jk] ++ (if tc = 0 then [] else [phase tc 0]) ++ [phase tr (-jk)]

/-- The largest `n` in [lo, hi) at which `f` holds, when it holds at `lo` and not at `hi`. -/
def lastNat (f : Nat → Bool) : Nat → Nat → Nat → Nat
  | 0, lo, _ => lo
  | n + 1, lo, hi => if hi ≤ lo + 1 then lo else let m := (lo + hi) / 2; if f m then lastNat f n m hi else lastNat f n lo m

/-- The largest number below `n` at which `f` holds. -/
def lastBefore (f : Nat → Bool) : Nat → Option Nat
  | 0 => none
  | n + 1 => if f n then some n else lastBefore f n

/-- vp of R339: v_c when both changes fit, v1 when it is above v_c and the change to v_c does not fit, else the largest whole mm/s
below v_c that fits. None when the deceleration to rest is longer than the leg (R340). -/
def peakSpeed (v1 vc a j dist : Rat) : Option Rat :=
  let fits := fun vp : Rat => decide (rampDist v1 vp a j + rampDist vp 0 a j ≤ dist)
  if fits vc then some vc
  else if dist < rampDist v1 0 a j then none
  else if vc < v1 then some v1
  else
    let lo := v1.ceil.toNat
    let hi := vc.ceil.toNat
    let whole := fun n : Nat => fits (n : Rat)
    (if decide (lo < hi) && whole lo then some (lastNat whole 16 lo hi) else lastBefore whole (min lo hi)).map fun n => (n : Rat)

/-- Phases 1 to 7 of a leg of length `dist` that starts at `v1` with no acceleration (R339). -/
def legPhases (v1 vc a j dist : Rat) : Option (List Phase) :=
  match peakSpeed v1 vc a j dist with
  | none => none
  | some vp =>
    let left := dist - rampDist v1 vp a j - rampDist vp 0 a j
    let us := if 0 < vp then (roundRat (left / vp * 1000000)).toNat else 0
    some (rampPhases v1 vp a j ++ (if us = 0 then [] else [phase us 0]) ++ rampPhases vp 0 a j)

/-- Phase 0 of R339: the acceleration is brought to zero; at a low speed, speed and acceleration reach zero together. -/
def phaseZero (k : Kin) (j : Rat) : List Phase :=
  if k.a = 0 then []
  else
    let b := |k.a|
    if k.a < 0 ∧ k.v < b * b / (2 * j) then
      let us := max 1 (k.v * 2000000 / b).floor.toNat
      [{ phase us (b / secs us) with stops := true }]
    else
      let us := ceilUs (b / j)
      [phase us (-k.a / secs us)]

/-- The rest phase and the phases of a leg that starts from rest, with the gear change of a turn-back on the first of
them. -/
def fromRest (restUs : Nat) (gear : Bool) (ps : List Phase) : List Phase :=
  let us := if gear ∧ restUs = 0 ∧ ps.isEmpty then 1 else restUs
  match (if us = 0 then [] else [phase us 0]) ++ ps with
  | [] => []
  | p :: t => { p with gear := gear } :: t

/-- The legs after the first, each from rest. -/
def laterLegs (vc a j : Rat) (dwellUs : Nat) : List Rat → Kin → List (List Phase)
  | [], _ => []
  | r :: rs, k =>
    let ps := fromRest dwellUs true ((legPhases 0 vc a j (r - k.s)).getD [])
    let (k', _, _) := runPhases ps (phasesUs ps) k false
    ps :: laterLegs vc a j dwellUs rs ⟨k'.s, 0, 0⟩

/-- The legs of a plan to the rest points given, or the overrun in mm of R340. A `direct` first leg decelerates at once
to rest, with no cruise (R349). -/
def planLegs (k : Kin) (rests : List Rat) (vc a j : Rat) (departUs dwellUs : Nat) (direct : Bool) :
    Except Nat (List (List Phase)) :=
  match rests with
  | [] => .ok []
  | r :: rs =>
    let p0 := phaseZero k j
    let k1 := p0.foldl Kin.after k
    let k1 : Kin := ⟨k1.s, max 0 k1.v, 0⟩
    match (if direct then some (rampPhases k1.v 0 a j) else legPhases k1.v vc a j (r - k1.s)) with
    | none => .error (rampDist k1.v 0 a j - (r - k1.s)).ceil.toNat
    | some ps =>
      let first := if k.v = 0 ∧ k.a = 0 then fromRest departUs false ps else p0 ++ ps
      let (k2, _, _) := runPhases first (phasesUs first) k false
      .ok (first :: laterLegs vc a j dwellUs rs ⟨k2.s, 0, 0⟩)

/-- The last phase ends at the target; a plan without motion is one short rest phase. -/
def markTarget : List Phase → List Phase
  | [] => [{ phase 1 0 with target := true }]
  | [p] => [{ p with target := true }]
  | p :: ps => p :: markTarget ps

/-! ### Hold plans (R341) -/

/-- A run of R341, ended early when v reaches zero: its phase and the state after it. -/
def holdRun (k : Kin) (j : Rat) (t : Rat) : List Phase × Kin :=
  let us := ceilUs t
  let stops := fun m => decide ((k.run j m).v ≤ 0)
  if us = 0 then ([], k)
  else
    let v := [k.v, k.a, j / 2]
    match firstReach (polyScale (-1) v) us 0 with
    | some m =>
      let m := if stops m then m else m + 1
      if k.v ≤ 0 then ([], ⟨k.s, 0, 0⟩) else ([phase m j], ⟨(k.run j m).s, 0, 0⟩)
    | none => ([phase us j], k.run j us)

/-- The hold plan from a state, with limits in mm and s (R341). -/
def holdPhases (k : Kin) (aH j tReact : Rat) : List Phase × Kin :=
  let k : Kin := ⟨k.s, k.v, min k.a 0⟩
  let (p1, k) := holdRun k 0 tReact
  let d0 := -k.a
  let (p2, k) := if aH < d0 then holdRun k j ((d0 - aH) / j) else ([], k)
  let d0 := min d0 aH
  if k.v ≤ 0 then (p1 ++ p2, k)
  else
    let steady := decide (2 * aH * aH - d0 * d0 ≤ 2 * j * k.v)
    let dp := if steady then aH else rootQ ((2 * j * k.v + d0 * d0) / 2)
    let tc := if steady then (k.v - (2 * aH * aH - d0 * d0) / (2 * j)) / aH else 0
    if dp < d0 then
      let (p3, k) := holdRun k j (2 * d0 / j + 1)
      (p1 ++ p2 ++ p3, k)
    else
      let (p3, k) := holdRun k (-j) ((dp - d0) / j)
      let (p4, k) := holdRun k 0 tc
      let (p5, k) := holdRun k j (dp / j)
      (p1 ++ p2 ++ p3 ++ p4 ++ p5, k)

/-! ### Braking distance and envelopes (R311, R312, R319) -/

/-- Lead and trail in a gear (R311). -/
def DykeClass.ends (c : DykeClass) (rev : Bool) : Nat × Nat := if rev then (c.rear, c.front) else (c.front, c.rear)

/-- t_lapse + t_react + a_hold / (2 × j_max), in s (R312). -/
def DykeClass.brakeTime (c : DykeClass) (lapseMs : Nat) : Rat :=
  mkRat (lapseMs + c.reactMs) 1000 + (c.aHold : Rat) / (2 * c.jMax)

/-- d_brake (R312). -/
def DykeClass.brake (c : DykeClass) (lapseMs : Nat) (v : Rat) : Rat :=
  v * c.brakeTime lapseMs + v * v / (2 * c.aHold)

/-- One phase as it is run: its start in µs from t = 0, its duration, the state at its start, its jerk and its leg. -/
structure Span where
  t0   : Nat
  dur  : Nat
  kin  : Kin
  jerk : Rat
  leg  : Nat

/-- The spans of a leg, with a span of no length at its end. -/
def legSpans (leg : Nat) : List Phase → Nat → Kin → List Span × Nat × Kin
  | [], t, k => ([⟨t, 0, ⟨k.s, 0, 0⟩, 0, leg⟩], t, ⟨k.s, 0, 0⟩)
  | p :: ps, t, k =>
    let (l, t', k') := legSpans leg ps (t + p.durUs) (k.after p)
    (⟨t, p.durUs, k, p.jerk, leg⟩ :: l, t', k')

/-- The spans of the legs, from leg `n` on. -/
def planSpans : Nat → List (List Phase) → Nat → Kin → List Span
  | _, [], _, _ => []
  | n, l :: ls, t, k =>
    let (sp, t', k') := legSpans n l t k
    sp ++ planSpans (n + 1) ls t' k'

def Span.vel (x : Span) : List Rat := [x.kin.v, x.kin.a, x.jerk / 2]

def Span.pos (x : Span) : List Rat := [x.kin.s, x.kin.v, x.kin.a / 2, x.jerk / 6]

/-- p + lead + d_brake(v) over a span. -/
def Span.reach (x : Span) (c : DykeClass) (lapseMs lead : Nat) : List Rat :=
  polyAdd (polyAdd x.pos [(lead : Rat)])
    (polyAdd (polyScale (c.brakeTime lapseMs) x.vel) (polyScale (1 / (2 * (c.aHold : Rat))) (polyMul x.vel x.vel)))

/-! ### Paths (R315, R316) -/

/-- Whether entry `k` and the one after it are a turn-back pair. -/
def turnPair (path : List PathEntry) (k : Nat) : Bool :=
  match path[k]?, path[k + 1]? with
  | some a, some b => a.seg == b.seg && a.rev != b.rev
  | _, _ => false

/-- Whether entry `k` is the second of a turn-back pair. -/
def turnSecond (path : List PathEntry) (k : Nat) : Bool := decide (0 < k) && turnPair path (k - 1)

/-- Path length of entry `k` (R316). -/
def entryLen (path : List PathEntry) (lens : List Nat) (k : Nat) : Nat :=
  let off := fun i => (path[i]?.map (·.turnOff)).getD 0
  if turnSecond path k then off (k - 1) else if turnPair path k then off k else lens.getD k 0

/-- Path coordinates of the entries' beginnings and ends. -/
def spansFrom (path : List PathEntry) (lens : List Nat) : Nat → Nat → Nat → List (Nat × Nat)
  | 0, _, _ => []
  | n + 1, k, p =>
    let e := p + entryLen path lens k
    (p, e) :: spansFrom path lens n (k + 1) e

def pathSpans (path : List PathEntry) (lens : List Nat) : List (Nat × Nat) := spansFrom path lens path.length 0 0

/-- The entry on which a path coordinate lies. -/
def entryAt (spans : List (Nat × Nat)) (p : Rat) : Nat :=
  ((spans.drop 1).takeWhile fun e => decide ((e.1 : Rat) ≤ p)).length

/-- The distance from the junction by which entry `k` would be entered to the entry's own beginning. -/
def entryBase (path : List PathEntry) (lens : List Nat) (k : Nat) : Nat :=
  if turnSecond path k then lens.getD k 0 - (path[k - 1]?.map (·.turnOff)).getD 0 else 0

/-! ### A path request -/

/-- What a plan is made from (R316 to R319). `start` is the state at t = 0, `cruise` v_c, `commit` the tick of the commit (R313), and
`task` the task that it is for, which an `offer` only offers (R334). -/
structure PathReq where
  path      : List PathEntry
  lens      : List Nat
  startIdx  : Nat
  targetIdx : Nat
  target    : Nat
  v         : Nat
  a         : Nat
  j         : Nat
  cruise    : Nat
  start     : Kin
  rev       : Bool
  tick0     : Nat
  commit    : Nat
  task      : Option Nat
  offer     : Bool
  departUs  : Nat
  dwellUs   : Nat
  cls       : DykeClass
  lapseMs   : Nat
  margin    : Nat
  direct    : Bool
  deriving DecidableEq, Repr, Inhabited

/-- The turn points that the plan passes: the entry and its end. -/
def PathReq.turns (q : PathReq) : List (Nat × Nat) :=
  ((List.range q.targetIdx).filter fun k => decide (q.startIdx ≤ k) && turnPair q.path k).map fun k =>
    (k, ((pathSpans q.path q.lens).getD k (0, 0)).2)

/-- The target's path coordinate. -/
def PathReq.goal (q : PathReq) : Nat := ((pathSpans q.path q.lens).getD q.targetIdx (0, 0)).1 + q.target

/-- The end of the last entry. -/
def PathReq.total (q : PathReq) : Nat := ((pathSpans q.path q.lens).getLast?.map (·.2)).getD 0

/-- The gear on a leg: it changes at each turn point (R316). -/
def PathReq.gear (q : PathReq) (leg : Nat) : Bool := if leg % 2 = 1 then !q.rev else q.rev

/-- p + lead + d_brake(v) over a span of a plan. -/
def PathReq.front (q : PathReq) (x : Span) : List Rat := x.reach q.cls q.lapseMs (q.cls.ends (q.gear x.leg)).1

/-- The first µs at which the envelope touches an entry, and the last (R319): E(t) is taken in path coordinates over the whole plan
(DEDUCED, log 29). -/
def PathReq.touched (q : PathReq) (spans : List Span) (e : Nat × Nat) : Option (Nat × Nat) :=
  let first := spans.findSome? fun x => (firstReach (q.front x) x.dur e.1).map (x.t0 + ·)
  let last := spans.reverse.findSome? fun x =>
    (lastBelow x.pos x.dur (e.2 + (q.cls.ends (q.gear x.leg)).2)).map (x.t0 + ·)
  match first, last with
  | some f, some l => if f ≤ l then some (f, l) else none
  | _, _ => none

/-- The windows of a plan in path order: entry, segment, window (R314, R319). -/
def PathReq.windows (q : PathReq) (node : Nat) (spans : List Span) : List (Nat × Nat × Window) :=
  let (lead, trail) := q.cls.ends (q.gear q.turns.length)
  let restsOn := fun e : Nat × Nat => decide (e.1 ≤ q.goal + lead) && decide (q.goal ≤ e.2 + trail)
  ((pathSpans q.path q.lens).zip q.path).zipIdx.filterMap fun ((e, x), k) =>
    (q.touched spans e).map fun (f, l) =>
      let pin := restsOn e
      (k, x.seg,
        { node := node, start := max q.tick0 (q.tick0 + f / 10000 - q.margin),
          stop := if pin then 0 else q.tick0 + (l + 9999) / 10000 + q.margin,
          dir := if x.rev then 2 else 1, pinned := pin, invalid := false })

/-- Windows of one segment merged into one, kept at the first entry (R314). -/
def mergeWindows : List (Nat × Nat × Window) → List (Nat × Nat × Window)
  | [] => []
  | (k, g, w) :: t =>
    let rest := mergeWindows t
    match rest.find? fun e => e.2.1 == g with
    | none => (k, g, w) :: rest
    | some (_, _, u) =>
      (k, g, { w with
        start := min w.start u.start, stop := if w.pinned || u.pinned then 0 else max w.stop u.stop,
        dir := w.dir ||| u.dir, pinned := w.pinned || u.pinned }) :: rest.filter fun e => e.2.1 != g

/-- The plan of a request and its windows, or the kind and amount of its ER_ENVELOPE (R320, R340). -/
def PathReq.plan (q : PathReq) (node : Nat) : Except (Nat × Nat) (List Phase × Nat × List (Nat × Nat × Window)) :=
  let rests := (q.turns.map fun t => (t.2 : Rat)) ++ [(q.goal : Rat)]
  match planLegs q.start rests q.cruise q.a q.j q.departUs q.dwellUs q.direct with
  | .error m => .error (8, m)
  | .ok legs =>
    let spans := planSpans 0 legs 0 q.start
    let front := fun x => polyMax (q.front x) x.dur
    let under := (spans.map fun x => ((q.cls.ends (q.gear x.leg)).2 : Rat) - x.kin.s).foldl max 0
    let beyond := (spans.map front).foldl max 0 - (q.total : Rat)
    let turn := (q.turns.zipIdx.map fun ((k, p), n) =>
      let room := q.lens.getD k 0 - (q.path[k]?.map (·.turnOff)).getD 0
      (((spans.filter fun x => x.leg == n).map front).foldl max 0 - (p : Rat) - (room : Rat) : Rat)).foldl max (0 : Rat)
    if 0 < under then .error (1, under.ceil.toNat)
    else if 0 < beyond then .error (2, beyond.ceil.toNat)
    else if 0 < turn then .error (3, turn.ceil.toNat)
    else
      let ws := mergeWindows (q.windows node spans)
      let latest := ((ws.filter fun e => !e.2.2.pinned).map fun e => e.2.2.stop).foldl max 0
      let ps := markTarget legs.flatten
      if q.commit + 60000 < latest then .error (4, latest - q.commit - 60000)
      else .ok (ps, q.tick0 + (phasesUs ps + 9999) / 10000, ws)

end Sys2Proof.Machine
end

