-- ==== Sys2Proof/Machine/Dyke.lean ====
section
/-! DEFINITION.
The Dyke engine: ticks and windows, path checks, commits and border requests, the envelope check, pins, and the graph
with its swap (chapter 12).
-/

namespace Sys2Proof.Machine

/-! ### Ticks, classes and windows -/

/-- The Dyke tick, counted without wrap (R313). -/
def State.tick (s : State) : Nat := s.asn / 5

def State.dykeClass (s : State) (node : Nat) : Option DykeClass :=
  (tget s.cfg.dyke.members node).bind fun c => tget s.cfg.dyke.classes c

def State.segment (s : State) (g : Nat) : Option Segment := tget s.cfg.dyke.live.segs g

def State.windowsOn (s : State) (g : Nat) : List Window := tgetD s.ctl.dyke.windows g []

/-- A node's windows in this side's table, with their segments. -/
def State.nodeWindows (s : State) (node : Nat) : List (Nat × Window) :=
  s.ctl.dyke.windows.flatMap fun e => (e.2.filter fun w => w.node == node).map fun w => (e.1, w)

/-- The copies of a member's windows on border segments (R407). -/
def State.nodeCopies (s : State) (node : Nat) : List (Nat × Window) := tgetD s.ctl.dyke.copies node []

/-- Whether a member still holds a window that a swap has made invalid: its allotment has not been replaced since (R331). -/
def State.holdsInvalid (s : State) (node : Nat) : Bool := (s.nodeWindows node ++ s.nodeCopies node).any fun e => e.2.invalid

/-- Windows that count in a conflict check: those of the table, and those held tentative for a peer (R408). -/
def State.contending (s : State) (g : Nat) : List Window :=
  s.windowsOn g ++ s.vol.fed.tentative.flatMap fun t => (t.windows.filter fun e => e.1 == g).map (·.2)

/-- Every window is kept, changed or dropped. -/
def State.mapWindows (s : State) (f : Nat → Window → Option Window) : State :=
  let t := s.ctl.dyke.windows.filterMap fun e =>
    let l := e.2.filterMap (f e.1)
    if l.isEmpty then none else some (e.1, l)
  { s with ctl.dyke := { s.ctl.dyke with windows := t } }

def State.mapCopies (s : State) (node : Nat) (f : Nat → Window → Option Window) : State :=
  let l := (s.nodeCopies node).filterMap fun e => (f e.1 e.2).map fun w => (e.1, w)
  { s with ctl.dyke := { s.ctl.dyke with
      copies := if l.isEmpty then tdel s.ctl.dyke.copies node else tput s.ctl.dyke.copies node l } }

/-- A window is put on a segment. -/
def State.addWindow (s : State) (g : Nat) (w : Window) : State :=
  { s with ctl.dyke := { s.ctl.dyke with windows := tput s.ctl.dyke.windows g (s.windowsOn g ++ [w]) } }

/-- Whether a window holds a tick (Table Dyke-3, cause 4). -/
def Window.holds (w : Window) (t : Nat) : Bool := decide (w.start ≤ t) && (w.pinned || decide (t < w.stop))

/-- Whether two windows overlap in time (R322). -/
def Window.overlaps (w v : Window) : Bool :=
  (v.pinned || decide (w.start < v.stop)) && (w.pinned || decide (v.start < w.stop))

/-- The shared rule of Table Dyke-2. -/
def sharedPasses (rule : Nat) (w v : Window) : Bool :=
  rule == 2 && ((w.dir == 1 && v.dir == 2) || (w.dir == 2 && v.dir == 1))

/-- Whether another controller owns a segment (R310). -/
def State.border (s : State) (g : Nat) : Bool :=
  match s.segment g with
  | some x => s.cfg.fed.controller != some x.owner
  | none => false

/-- End tick as the host port shows it: 0xFFFF for a pinned window. -/
def Window.endWord (w : Window) : Nat := if w.pinned then 0xFFFF else w.stop % 65536

/-! ### Member state -/

def State.allot (s : State) (node : Nat) : Option Allotment := tget s.ctl.dyke.allots node

def State.modAllot (s : State) (node : Nat) (f : Allotment → Allotment) : State :=
  { s with ctl.dyke := { s.ctl.dyke with allots := tmod s.ctl.dyke.allots node f } }

/-- The planned state of a member at an instant of ATB: state, phases left, gear. -/
def State.planned (s : State) (node atb : Nat) : Option (Kin × List Phase × Bool) :=
  (s.allot node).map fun al =>
    let pf := s.profile node
    match pf.hold with
    | some h => if pf.mode = 3 then (⟨pf.rest, 0, 0⟩, [], h.rev) else h.at atb
    | none => if al.waiting then (⟨al.plan.s, 0, 0⟩, [], al.plan.rev) else al.plan.at atb

/-- Whether the planned state moves. -/
def Kin.moves (k : Kin) : Bool := decide (k.v ≠ 0) || decide (k.a ≠ 0)

/-- The offered task of a node (R334). -/
def State.offered (s : State) (node : Nat) : Option Nat :=
  (s.ctl.dyke.tasks.find? fun e => e.2.state == .offered && e.2.node == node).map (·.1)

/-- A task that a node holds and that is not done. -/
def State.taskOf (s : State) (node : Nat) : Option Nat :=
  (s.ctl.dyke.tasks.find? fun e => e.2.state != .pending && e.2.node == node).map (·.1)

/-- DYKE.EVENT. -/
def dykeEvent (kind cause node seg : Nat) (s : State) : State :=
  sendMsg 0x0980 (leBytes 1 kind ++ leBytes 1 cause ++ leBytes 2 node ++ leBytes 2 seg ++ leBytes 2 s.tick) s

/-! ### Paths on the live graph -/

/-- The junctions by which an entry is entered and left. -/
def entryJunctions (x : Segment) (rev : Bool) : Nat × Nat := if rev then (x.toJ, x.fromJ) else (x.fromJ, x.toJ)

/-- Whether a junction lets a member that arrives by one segment leave by another (R308). -/
def Junction.turn (j : Junction) (a b : Nat) : Bool :=
  !j.closed && (j.ends.zipIdx.any fun (x, i) => x == a &&
    j.ends.zipIdx.any fun (y, k) => y == b && (j.turns.getD i 0).testBit k)

/-- Whether a segment may be entered by a member: open, or closed by a swap with a window of the member's own on it
(R331). -/
def State.enterable (s : State) (node g : Nat) (x : Segment) : Bool :=
  !x.closed || ((s.windowsOn g).any (·.invalid) && (s.windowsOn g).any fun w => w.node == node)

/-- Whether two consecutive entries are contiguous (R315). Turn-back pairs do not share an entry (log 30). -/
def contiguous (g : Graph) (cls : DykeClass) (path : List PathEntry) (k : Nat) : Bool :=
  match path[k]?, path[k + 1]? with
  | some a, some b =>
    match tget g.segs a.seg, tget g.segs b.seg with
    | some x, some y =>
      if turnPair path k then
        (x.rule == 1 || x.rule == 2) && x.reversible && cls.mayReverse && !turnSecond path k
      else
        let out := (entryJunctions x a.rev).2
        out == (entryJunctions y b.rev).1 &&
          match tget g.juncs out with
          | some j => j.turn a.seg b.seg
          | none => false
    | _, _ => false
  | _, _ => true

/-- Whether entry `k` of a path obeys R305, R306, R308, R315 and R331, and carries turn_off only where it belongs. -/
def State.entryOk (s : State) (node : Nat) (cls : DykeClass) (path : List PathEntry) (k : Nat) : Bool :=
  match path[k]? with
  | none => true
  | some e =>
    match s.segment e.seg with
    | none => false
    | some x =>
      decide (cls.widthNeed ≤ x.width) && !(x.rule == 0 && e.rev) && s.enterable node e.seg x &&
        (k == 0 || contiguous s.cfg.dyke.live cls path (k - 1)) &&
        (if turnPair path k then decide (1 ≤ e.turnOff) && decide (e.turnOff ≤ x.lengthMm) else e.turnOff == 0)

/-- The first entry of a path that breaks a rule. -/
def State.badEntry (s : State) (node : Nat) (cls : DykeClass) (path : List PathEntry) : Option Nat :=
  (List.range path.length).find? fun k => !s.entryOk node cls path k

/-- The lengths of the segments of a path. -/
def State.pathLens (s : State) (path : List PathEntry) : List Nat :=
  path.map fun e => ((s.segment e.seg).map (·.lengthMm)).getD 0

/-- A member's present place: the segment, the gear, the direction, and the distance from the junction by which the
segment is entered in that direction. -/
def State.place? (s : State) (node atb : Nat) : Option (Nat × Bool × Rat) :=
  match s.allot node, s.planned node atb with
  | some al, some (k, _, _) =>
    let sp := pathSpans al.path al.lens
    let i := entryAt sp k.s
    (al.path[i]?).map fun e => (e.seg, e.rev, k.s - (sp.getD i (0, 0)).1 + entryBase al.path al.lens i)
  | _, _ => none

/-! ### Checks and commits (R321, R322) -/

/-- What a conflict check finds: path index, segment and window in the way, or a segment without room. -/
inductive Clash where
  | conflict (k seg : Nat) (v : Window)
  | capacity (seg : Nat)
  deriving DecidableEq, Repr

/-- The conflicting window of earliest start. -/
def earliest (l : List Window) : Option Window :=
  l.foldl (fun m v => match m with
    | none => some v
    | some u => if v.start < u.start then some v else m) none

/-- The check of one window wanted (R322). -/
def State.clashAt (s : State) (node : Nat) (x : Nat × Nat × Window) : Option Clash :=
  let (k, g, w) := x
  let rule := ((s.segment g).map (·.rule)).getD 0
  let sets := ((s.segment g).map (·.conflicts)).getD []
  let others := fun h => (s.contending h).filter fun v => v.node != node
  match earliest ((others g).filter fun v => w.overlaps v && !sharedPasses rule w v) with
  | some v => some (.conflict k g v)
  | none =>
    match sets.findSome? fun c => (earliest ((others c).filter w.overlaps)).map fun v => (c, v) with
    | some (c, v) => some (.conflict k c v)
    | none => if 16 ≤ (others g).length then some (.capacity g) else none

/-- The conflict check of the windows wanted, in path order. -/
def State.clash (s : State) (node : Nat) (want : List (Nat × Nat × Window)) : Option Clash :=
  want.findSome? (s.clashAt node)

/-- A check of the last second: conflict checks and envelope checks both (R323, DYKE.STATUS). -/
def noteCheck (s : State) : State :=
  let now := s.mtb
  { s with
    vol.dyke := { s.vol.dyke with checks := now :: s.vol.dyke.checks.filter fun t => decide (now < t + tickS) } }

/-- A conflict check is counted. -/
def countCheck (s : State) : State := countEvents 0x0801 none 1 (noteCheck s)

/-- The reply data of a conflict. -/
def conflictReply (k seg : Nat) (v : Window) : List Byte :=
  leBytes 1 k ++ zeros 1 ++ leBytes 2 seg ++ leBytes 2 v.node ++ leBytes 2 v.start ++ leBytes 2 v.endWord

/-- A member's windows are freed; returns how many. -/
def freeWindows (node : Nat) (keep : Nat → Window → Bool) (s : State) : Nat × State :=
  let gone := ((s.nodeWindows node ++ s.nodeCopies node).filter fun e => !keep e.1 e.2).length
  let s := s.mapWindows fun g w => if w.node = node && !keep g w then none else some w
  (gone, s.mapCopies node fun g w => if keep g w then some w else none)

/-- A member's whole allotment is replaced (R321). The plan takes the next plan number. -/
def commitAllot (node : Nat) (al : Allotment) (own : List (Nat × Nat × Window)) (copies : List (Nat × Window))
    (s : State) : State :=
  let n := ((s.profile node).planNo + 1) % 65536
  let s := (freeWindows node (fun _ _ => false) s).2
  let s := own.foldl (fun s e => s.addWindow e.2.1 e.2.2) s
  let d := s.ctl.dyke
  let s := { s with ctl.dyke := { d with
    allots := tput d.allots node { al with plan := { al.plan with number := n } }
    copies := if copies.isEmpty then tdel d.copies node else tput d.copies node copies } }
  freshFrame node <| s.modProfile node fun p =>
    { p with mode := 0, frameNo := 0, planNo := n, hold := none, rest := 0, proj := some al.plan.s.floor.toNat,
             resumeTold := false, resuming := false, turnsTold := 0 }

/-! ### Border segments (R406 to R410) -/

/-- The live peer that owns a segment, when ATB is aligned at both ends (R406, R408). -/
def State.ownerReady (s : State) (owner : Nat) : Bool :=
  s.atbAligned && match tget s.vol.fed.peers owner with
    | some r => r.state == .live && r.aligned
    | none => false

/-- One RESERVE body: node, class extents, pin flag and entries. The layout is a DESIGN CHOICE (log 15). -/
def reserveBody (node : Nat) (c : DykeClass) (pin : Bool) (l : List (Nat × Nat × Window)) : List Byte :=
  beBytes 2 node ++ beBytes 4 c.front ++ beBytes 4 c.rear ++ beBytes 2 c.halfWidth ++ beBytes 1 (b2n pin) ++
    beBytes 1 l.length ++ l.flatMap fun (k, g, w) =>
      beBytes 1 k ++ beBytes 2 g ++ beBytes 1 (w.dir + 4 * b2n w.pinned) ++ beBytes 2 (w.start % 65536) ++
        beBytes 2 w.endWord

/-- A list cut into parts of at most `n`. -/
def chunks {α : Type} (n : Nat) : Nat → List α → List (List α)
  | 0, _ => []
  | f + 1, l => if l.isEmpty then [] else l.take n :: chunks n f (l.drop n)

/-- RESERVE to one owner: one message of up to 32 segments in edition 2, one for each segment in edition 1 (R401). -/
def reserveAt (node : Nat) (c : DykeClass) (pin : Bool) (owner : Nat) (l : List (Nat × Nat × Window)) (s : State) :
    List (Nat × Nat × Bool) × State :=
  let n := match tget s.vol.fed.peers owner with
    | some r => if r.edition = 2 then 32 else 1
    | none => 1
  (chunks n 256 l).foldl (fun (acc, s) part =>
    let (txn, s) := fedRequest owner 6 (reserveBody node c pin part) s
    (acc ++ [(txn, owner, false)], s)) ([], s)

/-- RELEASE of a node's windows on an owner's segments (R409, R410). -/
def releaseAt (owner node : Nat) (segs : List Nat) (s : State) : State :=
  (fedRequest owner 10 (beBytes 2 node ++ beBytes 1 segs.length ++ segs.flatMap (beBytes 2 ·)) s).2

/-- The owners of border segments. -/
def State.ownersOf (s : State) (l : List Nat) : List Nat :=
  (l.filterMap fun g => if s.border g then (s.segment g).map (·.owner) else none).foldl sput []

/-- Releases of a member's copies are sent to the owners concerned (R410). -/
def releaseCopies (node : Nat) (segs : List Nat) (s : State) : State :=
  (s.ownersOf segs).foldl (fun s o =>
    releaseAt o node (segs.filter fun g => (s.segment g).map (·.owner) == some o) s) s

/-- What became of a path request. -/
inductive Submit where
  | done (s : State)
  | waits (s : State)
  | envelope (kind amount : Nat)
  | clash (c : Clash)
  | timeout (owner : Nat)
  deriving DecidableEq, Repr

/-- The allotment that a request makes. -/
def PathReq.allotment (q : PathReq) (ps : List Phase) (arrive : Nat) : Allotment :=
  { path := q.path, lens := q.lens, startIdx := q.startIdx, targetIdx := q.targetIdx, target := q.target, v := q.v,
    a := q.a, j := q.j, cruise := q.cruise,
    plan := { number := 0, t0 := atbOfAsn (5 * q.tick0), s := q.start.s, v := q.start.v, a := q.start.a, rev := q.rev, phases := ps },
    arrive := arrive, ended := false, waiting := q.offer, task := q.task }

/-- A request is planned, checked, and committed, or put to the owners of border segments (R318 to R322, R408). -/
def submit (node : Nat) (q : PathReq) (cmd : Option HostCmd) (retarget : Option (List Byte)) (s : State) : Submit :=
  match q.plan node with
  | .error (k, m) => .envelope k m
  | .ok (ps, arrive, want) =>
    let al := q.allotment ps arrive
    let own := want.filter fun e => !s.border e.2.1
    let ext := want.filter fun e => s.border e.2.1
    match s.clash node own with
    | some c => .clash c
    | none =>
      if ext.isEmpty then
        let old := (s.nodeCopies node).map (·.1)
        .done (releaseCopies node old (commitAllot node al own [] (countCheck s)))
      else
        let owners := s.ownersOf (ext.map fun e => e.2.1)
        match owners.find? fun o => !s.ownerReady o with
        | some o => .timeout o
        | none =>
          let (rs, s) := owners.foldl (fun (acc, s) o =>
            let (l, s) := reserveAt node q.cls false o
              (ext.filter fun e => (s.segment e.2.1).map (·.owner) == some o) s
            (acc ++ l, s)) ([], countCheck s)
          let b : BorderRun :=
            { txn := (rs.head?.map (·.1)).getD 0, cmd := cmd, node := node, allot := al, want := want, reserves := rs,
              commits := [], retarget := retarget }
          .waits { s with vol.dyke := { s.vol.dyke with border := s.vol.dyke.border ++ [b] } }

/-- First start tick and arrival tick, and the number of windows. -/
def committedReply (want : List (Nat × Nat × Window)) (al : Allotment) : List Byte :=
  leBytes 2 ((want.head?.map fun e => e.2.2.start).getD 0) ++ leBytes 2 al.arrive ++ leBytes 2 want.length

/-- Reply data of DYKE.RESERVE, or of PROFILE.RETARGET. -/
def requestReply (node : Nat) (want : List (Nat × Nat × Window)) (retarget : Option (List Byte)) (s : State) : List Byte :=
  let al := (s.allot node).getD default
  match retarget with
  | none => committedReply want al ++ zeros 2
  | some t => committedReply want al ++ t ++ leBytes 2 (s.profile node).planNo ++ zeros 2

/-- The windows that a member holds, as a committed request lists them. -/
def State.heldWant (s : State) (node : Nat) : List (Nat × Nat × Window) :=
  match s.allot node with
  | none => []
  | some al =>
    let all := s.nodeWindows node ++ s.nodeCopies node
    mergeWindows (al.path.zipIdx.filterMap fun (e, k) => (all.find? fun x => x.1 == e.seg).map fun x => (k, e.seg, x.2))

/-! ### Records and the envelope check (R324) -/

/-- The latest position of a member, as the envelope check reads it. -/
structure PosRec where
  usable     : Bool
  tick       : Nat
  x          : Int
  y          : Int
  z          : Int
  vE         : Int
  vN         : Int
  vU         : Int
  hpl        : Nat
  stationary : Bool

/-- The tick of an instant of STB. -/
def State.tickOfStb (s : State) (stb : Nat) : Nat :=
  (((asnOf stb : Int) + s.ctl.time.atbOffsetSf).toNat) / 5

/-- STB of a GPS time of week, in the week nearest to STB (R167): STB is GPS time plus 19 s (R194). -/
def stbOfWeekMs (stb ms : Nat) : Nat :=
  let gps : Int := (stb / 65536000000 : Nat) - 315964819000
  let w : Int := (2 * (gps - ms) + 604800000) / 1209600000
  ((w * 604800000 + ms + 315964819000) * 65536000000).toNat

/-- USABLE of a record (R180). -/
def SolverRecord.usable (r : SolverRecord) : Bool := r.flags.testBit 0

/-- The record of a member: its solver record, or its POSITION at edition 1, which outlasts the connection (R324, R326). -/
def State.posRec (s : State) (node : Nat) : Option PosRec :=
  let solved := ((tget s.vol.solver.runs node).bind (·.record)).map fun r =>
    (⟨r.usable, (r.stb.map s.tickOfStb).getD s.tick, r.x, r.y, r.z, r.vE, r.vN, r.vU, r.hpl, r.flags.testBit 5⟩ : PosRec)
  let sent := (tget s.vol.dyke.positions node).map fun p =>
    let f := fun o n => beNat (slice p o n)
    let g := fun o n => signed (8 * n) (beNat (slice p o n))
    (⟨f 44 1 == 3 || f 44 1 == 4, (s.ctl.time.stb.map fun t => s.tickOfStb (stbOfWeekMs t (f 0 4))).getD s.tick,
      g 4 8, g 12 8, g 20 8, g 28 4, g 32 4, g 36 4, f 40 4, (f 45 1).testBit 0⟩ : PosRec)
  match s.conn node with
  | none => sent.or solved
  | some c => if c.edition = 1 then sent else solved

/-- The place of a member's latest USABLE record is kept (R317). -/
def notePlaced (node : Nat) (s : State) : State :=
  match s.posRec node with
  | some r =>
    if r.usable then { s with vol.dyke := { s.vol.dyke with placed := tput s.vol.dyke.placed node (r.x, r.y, r.z) } } else s
  | none => s

def State.origin (s : State) : Int × Int × Int := (s.cfg.dyke.originX, s.cfg.dyke.originY, s.cfg.dyke.originZ)

/-- The centreline of a segment of a graph. -/
def Graph.curve (g : Graph) (x : Segment) : Option Curve :=
  match tget g.juncs x.fromJ, tget g.juncs x.toJ with
  | some a, some b => some ⟨a.east, a.north, b.east, b.north, x.kappa⟩
  | _, _ => none

/-- A projection: entry, distance from the centreline, path coordinate, and unit vector along the path. -/
structure Proj where
  idx  : Nat
  dist : Rat
  p    : Rat
  tx   : Rat
  ty   : Rat

/-- The projection onto one entry (R324, R495). -/
def State.projectOn (s : State) (al : Allotment) (sp : List (Nat × Nat)) (x y : Rat) (k : Nat) : Option Proj :=
  match al.path[k]? with
  | none => none
  | some e =>
    match s.segment e.seg with
    | none => none
    | some g =>
      (s.cfg.dyke.live.curve g).map fun c =>
        let len : Rat := al.lens.getD k 0
        let arc := c.arc
        let (a, d, tx, ty) := c.near x y
        let off := if arc = 0 then 0 else a * len / arc
        let base : Rat := entryBase al.path al.lens k
        let fwd := (if e.rev then len - off else off) - base
        let lim : Rat := entryLen al.path al.lens k
        let cl := max 0 (min lim fwd)
        let p0 : Rat := (sp.getD k (0, 0)).1
        let (tx, ty) := if e.rev then (-tx, -ty) else (tx, ty)
        if cl = fwd ∨ len = 0 then ⟨k, d, p0 + cl, tx, ty⟩
        else
          let back := (if e.rev then len - (cl + base) else cl + base) * arc / len
          let (qx, qy) := c.point back
          ⟨k, rootQ ((x - qx) * (x - qx) + (y - qy) * (y - qy)), p0 + cl, tx, ty⟩

/-- The projection onto a member's path, from the entry of the previous one on: the nearest, to 1 mm, and of equal ones
the one nearest to the planned position (log 31). -/
def State.project (s : State) (node : Nat) (al : Allotment) (r : PosRec) : Option Proj :=
  let sp := pathSpans al.path al.lens
  let (x, y) := localOf s.origin (r.x, r.y, r.z)
  let from' := match (s.profile node).proj with
    | some p => entryAt sp p
    | none => 0
  let want := ((s.planned node s.atbNow).map fun e => e.1.s).getD 0
  let better := fun a b : Proj =>
    decide (a.dist.floor < b.dist.floor) || (a.dist.floor == b.dist.floor && decide (|a.p - want| < |b.p - want|))
  ((List.range al.path.length).filter fun k => decide (from' ≤ k)).foldl (fun m k =>
    match m, s.projectOn al sp x y k with
    | some a, some b => some (if better b a then b else a)
    | none, b => b
    | m, none => m) none

/-- Widths of Table Dyke-1, in mm. -/
def widthMm (w : Nat) : Nat := [2500, 3000, 3500, 4500, 6000, 8000, 12000, 20000].getD w 0

/-- Entries that an interval of the path includes a point of. -/
def entriesIn (sp : List (Nat × Nat)) (lo hi : Rat) : List Nat :=
  (List.range sp.length).filter fun k =>
    let e := sp.getD k (0, 0)
    decide (lo ≤ e.2) && decide ((e.1 : Rat) ≤ hi)

/-- The speed along the path of a record, taken as zero when negative. -/
def PosRec.along (r : PosRec) (p : Proj) : Rat := max 0 (r.vE * p.tx + r.vN * p.ty)

/-- Speed of a record. -/
def PosRec.speed (r : PosRec) : Rat := rootQ (r.vE * r.vE + r.vN * r.vN + r.vU * r.vU : Int)

/-- The interval of cause 4 of Table Dyke-3. -/
def State.interval (s : State) (c : DykeClass) (rev : Bool) (p : Rat) (hpl : Nat) (v : Rat) : Rat × Rat :=
  (p - (c.ends rev).2 - hpl, p + (c.ends rev).1 + hpl + c.brake s.cfg.sluice.lapseMs v)

/-- The envelope check: its cause and segment when it fails, and the projection (R324, Table Dyke-3). -/
def State.envelope (s : State) (node : Nat) (al : Allotment) (c : DykeClass) (r : PosRec) :
    Option (Nat × Nat) × Option Proj :=
  if !r.usable then (some (1, 0xFFFF), none)
  else
    match s.project node al r with
    | none => (some (2, 0xFFFF), none)
    | some p =>
      let seg := ((al.path[p.idx]?).map (·.seg)).getD 0xFFFF
      if (2 * c.halfWidth : Rat) < p.dist then (some (2, 0xFFFF), some p)
      else
        let width := widthMm (((s.segment seg).map (·.width)).getD 0)
        let rev := ((s.planned node s.atbNow).map fun e => e.2.2).getD false
        let v := r.along p
        let (lo, hi) := s.interval c rev p.p r.hpl v
        let under := entriesIn (pathSpans al.path al.lens) lo hi
        let held := s.nodeWindows node ++ s.nodeCopies node
        let segOf := fun k => ((al.path[k]?).map (·.seg)).getD 0xFFFF
        if (width : Rat) < 2 * (p.dist + c.halfWidth + r.hpl) then (some (3, seg), some p)
        else
          match under.find? fun k => !(held.any fun e => e.1 == segOf k && e.2.holds r.tick) with
          | some k => (some (4, segOf k), some p)
          | none =>
            match under.find? fun k => decide (((((s.segment (segOf k)).map (·.speed)).getD 0 + s.cfg.dyke.spdTol : Nat) : Rat) < v) with
            | some k => (some (5, segOf k), some p)
            | none => (none, some p)

/-- An envelope failure: counted and recorded, DYKE.EVENT at most once in an STB second, and the signal to the Sluice
logic; cause 1 is not acted on before requalification (R325, R28, R432). -/
def envelopeFailure (node cause seg : Nat) (s : State) : State :=
  let sec := s.ctl.time.stb.getD 0 / unitS
  let s := { s with vol.dyke := { s.vol.dyke with failures := satInc 32 s.vol.dyke.failures } }
  let s := record 0x0901 node (leBytes 1 cause ++ zeros 1 ++ leBytes 2 seg) s
  let s := if tget s.vol.dyke.told node = some sec then s
    else dykeEvent 1 cause node seg { s with vol.dyke := { s.vol.dyke with told := tput s.vol.dyke.told node sec } }
  let waits := match s.conn node with
    | some c => s.ctl.sluice.requal.contains c.memberId
    | none => false
  if cause = 1 && waits then s else envelopeAction node s

/-- Step 4 of Table Arch-3: a record of a member, which is checked when the member holds windows. -/
def envelopeStep (node : Nat) (s : State) : State :=
  let s := notePlaced node s
  match s.allot node, s.dykeClass node, s.posRec node with
  | some al, some c, some r =>
    if (s.nodeWindows node ++ s.nodeCopies node).isEmpty then s
    else
      let (bad, p) := s.envelope node al c r
      let s := countEvents 0x0802 none 1 (noteCheck s)
      let s := match p with
        | some p => s.modProfile node fun f => { f with proj := some p.p.floor.toNat }
        | none => s
      match bad with
      | some (cause, seg) => envelopeFailure node cause seg s
      | none => s
  | _, _, _ => s

/-! ### Pins (R326) -/

/-- The segments that a member's present envelope touches. -/
def State.footprint (s : State) (node : Nat) : List Nat :=
  match s.allot node, s.dykeClass node with
  | some al, some c =>
    let pl := (s.planned node s.atbNow).getD (⟨0, 0, 0⟩, [], false)
    let lohi := match s.posRec node with
      | some r =>
        if r.usable then
          match s.project node al r with
          | some p => s.interval c pl.2.2 p.p r.hpl (r.along p)
          | none => s.interval c pl.2.2 pl.1.s 0 pl.1.v
        else s.interval c pl.2.2 pl.1.s 0 pl.1.v
      | none => s.interval c pl.2.2 pl.1.s 0 pl.1.v
    (entriesIn (pathSpans al.path al.lens) lohi.1 lohi.2).filterMap fun k => (al.path[k]?).map (·.seg)
  | _, _ => []

def Window.pin (w : Window) : Window := { w with pinned := true, stop := 0 }

/-- A member's windows on its footprint are pinned, here and at the owners of border segments (R326, R410). -/
def pinFootprint (node : Nat) (s : State) : State :=
  let segs := s.footprint node
  let ext := (s.nodeCopies node).filter fun e => segs.contains e.1 && !e.2.pinned
  let s := s.mapWindows fun g w => some (if w.node = node && segs.contains g then w.pin else w)
  let s := s.mapCopies node fun g w => some (if segs.contains g then w.pin else w)
  let s := match s.dykeClass node with
    | some c => (s.ownersOf (ext.map (·.1))).foldl (fun s o =>
        (reserveAt node c true o ((ext.filter fun e => (s.segment e.1).map (·.owner) == some o).map fun e =>
          (0, e.1, e.2.pin)) s).2) s
    | none => s
  if (s.conn node).isNone && !(s.nodeWindows node).isEmpty then dykeEvent 6 0 node (segs.headD 0xFFFF) s else s

/-- A member leaves Permitted: its footprint is pinned at the next tick boundary (R326). -/
def pinSoon (node : Nat) (s : State) : State :=
  { s with vol.dyke := { s.vol.dyke with pinDue := sput s.vol.dyke.pinDue node } }

/-! ### Settings -/

def runDykeConfig (c : HostCmd) (s : State) : CmdResult :=
  let ps := c.packet.params
  let d := s.cfg.dyke
  let x := sfld ps 0 8
  let y := sfld ps 8 8
  let z := sfld ps 16 8
  let r2 := x * x + y * y + z * z
  let n := (s.ctl.dyke.windows.map fun e => e.2.length).sum
  if r2 < 6300000000 * 6300000000 ∨ 6400000000 * 6400000000 < r2 then .refuse erRange 0
  else if (x, y, z) ≠ s.origin ∧ n ≠ 0 then .refuse erState n
  else .accepted { s with ctl.cfg.dyke := { d with
    originX := x, originY := y, originZ := z, margin := fld ps 24 2, posTol := fld ps 26 2, spdTol := fld ps 28 2,
    offerS := fld ps 30 2, declineS := fld ps 32 2, maxCand := fld ps 34 1 } } []

def runDykeClass (c : HostCmd) (s : State) : CmdResult :=
  let ps := c.packet.params
  let k := fld ps 0 1
  let x : DykeClass :=
    { mayReverse := (fld ps 1 1).testBit 0, widthNeed := fld ps 2 1, front := fld ps 4 4, rear := fld ps 8 4,
      halfWidth := fld ps 12 2, vMax := fld ps 14 2, aMax := fld ps 16 2, aHold := fld ps 18 2, aFast := fld ps 20 2,
      reactMs := fld ps 22 2, jMax := fld ps 24 4 }
  let holder := s.cfg.dyke.members.find? fun e =>
    e.2 == k && !(s.nodeWindows e.1 ++ s.nodeCopies e.1).isEmpty
  if x.aFast < x.aHold then .refuse erRange 20
  else if widthMm x.widthNeed < 2 * x.halfWidth then .refuse erRange 12
  else
    match holder with
    | some e => .refuse erState e.1
    | none => .accepted { s with ctl.cfg.dyke := { s.cfg.dyke with classes := tput s.cfg.dyke.classes k x } } []

def runDykeMember (c : HostCmd) (s : State) : CmdResult :=
  let node := fld c.packet.params 0 2
  let k := fld c.packet.params 2 1
  let n := (s.nodeWindows node ++ s.nodeCopies node).length
  let d := s.cfg.dyke
  if n ≠ 0 then .refuse erState n
  else if k ≠ 0xFF ∧ (tget d.classes k).isNone then .refuse erState (0x100 + k)
  else .accepted { s with ctl.cfg.dyke := { d with
    members := if k = 0xFF then tdel d.members node else tput d.members node k } } []

/-! ### The graph: edits and swap (R309, R328 to R331) -/

/-- The ranges of one edit entry that depend on other fields of it: the offset of the first field outside its own. A removal
must hold zero; its res. fields are refused before, at step 4 (log 168). -/
def editError (ps : List Byte) (o : Nat) : Option Nat :=
  let firstBad (l : List (Nat × Bool)) : Option Nat := (l.find? (·.2)).map (·.1)
  if fld ps (o + 1) 1 = 1 then
    firstBad ((List.range 36).map fun i => (o + 4 + i, fld ps (o + 4 + i) 1 != 0))
  else if fld ps o 1 = 1 then
    let n := fld ps (o + 21) 1
    firstBad ((List.range 8).map fun i =>
      let v := fld ps (o + 24 + 2 * i) 2
      (o + 24 + 2 * i, if i < n then v == 0xFFFF else v != 0xFFFF))
  else
    let n := fld ps (o + 12) 1
    firstBad ((List.range 6).map fun i =>
      let v := fld ps (o + 16 + 2 * i) 2
      (o + 16 + 2 * i, if i < n then v == 0xFFFF else v != 0xFFFF))

/-- The offsets of the entries of DYKE.GRAPH_EDIT. -/
def editOffsets (ps : List Byte) : List Nat := (List.range (fld ps 0 1)).map fun k => 4 + 40 * k

def readSegment (ps : List Byte) (o : Nat) : Segment :=
  { fromJ := fld ps (o + 4) 2, toJ := fld ps (o + 6) 2, lengthMm := fld ps (o + 8) 4, kappa := sfld ps (o + 12) 4,
    speed := fld ps (o + 16) 2, width := fld ps (o + 18) 1, rule := fld ps (o + 19) 1 % 4,
    closed := (fld ps (o + 19) 1).testBit 2, reversible := (fld ps (o + 19) 1).testBit 3, owner := fld ps (o + 20) 1,
    conflicts := (List.range (fld ps (o + 21) 1)).map fun i => fld ps (o + 24 + 2 * i) 2 }

def readJunction (ps : List Byte) (o : Nat) : Junction :=
  { east := sfld ps (o + 4) 4, north := sfld ps (o + 8) 4, closed := (fld ps (o + 13) 1).testBit 0,
    ends := (List.range (fld ps (o + 12) 1)).map fun i => fld ps (o + 16 + 2 * i) 2,
    turns := (List.range (fld ps (o + 12) 1)).map fun i => fld ps (o + 28 + i) 1 }

/-- One edit applied to a graph. -/
def applyEdit (ps : List Byte) (g : Graph) (o : Nat) : Graph :=
  let id := fld ps (o + 2) 2
  let set := fld ps (o + 1) 1 == 0
  if fld ps o 1 = 1 then { g with segs := if set then tput g.segs id (readSegment ps o) else tdel g.segs id }
  else { g with juncs := if set then tput g.juncs id (readJunction ps o) else tdel g.juncs id }

/-- The keys at which two tables differ. -/
def tableDiff {α : Type} [DecidableEq α] (a b : Tbl α) : List Nat :=
  ((tkeys b).foldl sput (tkeys a)).filter fun k => decide (tget a k ≠ tget b k)

/-- Shadow records that differ from the live graph. -/
def State.shadowEdits (s : State) : Nat :=
  (tableDiff s.ctl.dyke.shadow.segs s.cfg.dyke.live.segs).length +
    (tableDiff s.ctl.dyke.shadow.juncs s.cfg.dyke.live.juncs).length

def runDykeGraphEdit (c : HostCmd) (s : State) : CmdResult :=
  let ps := c.packet.params
  match (editOffsets ps).findSome? (editError ps) with
  | some o => .refuse erRange o
  | none =>
    if s.vol.dyke.swap.isSome then .refuse erBusy 0
    else
      let g := (editOffsets ps).foldl (applyEdit ps) s.ctl.dyke.shadow
      let s := { s with ctl.dyke := { s.ctl.dyke with shadow := g } }
      .accepted s (leBytes 2 s.shadowEdits)

/-- Whether a segment obeys R309 in a graph. -/
def Graph.segmentOk (g : Graph) (id : Nat) (x : Segment) : Bool :=
  let lists := fun j => match tget g.juncs j with
    | some k => k.ends.contains id
    | none => false
  lists x.fromJ && lists x.toJ &&
    (x.conflicts.all fun c => c != id && match tget g.segs c with
      | some y => y.conflicts.contains id
      | none => false) &&
    match g.curve x with
    | none => false
    | some c => decide (c.bend ≤ 1) && decide (|(x.lengthMm : Rat) - c.arc| ≤ c.arc / 1000 + 10)

/-- Whether a junction obeys R309 in a graph. -/
def Graph.junctionOk (g : Graph) (id : Nat) (j : Junction) : Bool :=
  j.ends.all fun e => match tget g.segs e with
    | some x => x.fromJ == id || x.toJ == id
    | none => false

/-- The detail word of the first violation that DYKE.SWAP finds. -/
def State.swapError (s : State) : Option Nat :=
  let g := s.ctl.dyke.shadow
  match g.segs.find? fun e => !g.segmentOk e.1 e.2 with
  | some e => some e.1
  | none =>
    match g.juncs.find? fun e => !g.junctionOk e.1 e.2 with
    | some e => some (0x10000 + e.1)
    | none =>
      ((tkeys s.cfg.dyke.live.segs).find? fun k => (tget g.segs k).isNone && !(s.windowsOn k).isEmpty).map
        (0x20000 + ·)

/-- Segments edited between two graphs (R330). -/
def editedSegments (old new : Graph) : List Nat :=
  let js := tableDiff old.juncs new.juncs
  ((tkeys new.segs).foldl sput (tkeys old.segs)).filter fun k =>
    let touches := fun x : Option Segment => match x with
      | some x => js.contains x.fromJ || js.contains x.toJ
      | none => false
    decide (tget old.segs k ≠ tget new.segs k) || touches (tget old.segs k) || touches (tget new.segs k)

/-- Whether the length or geometry of a segment changed. -/
def shapeChanged (old new : Graph) (k : Nat) : Bool :=
  match tget old.segs k, tget new.segs k with
  | some a, some b =>
    decide (a.lengthMm ≠ b.lengthMm) || decide (a.kappa ≠ b.kappa) || decide (a.fromJ ≠ b.fromJ) ||
      decide (a.toJ ≠ b.toJ) ||
      match old.curve a, new.curve b with
      | some c, some d => decide (c.x0 ≠ d.x0) || decide (c.y0 ≠ d.y0) || decide (c.x1 ≠ d.x1) || decide (c.y1 ≠ d.y1)
      | none, none => false
      | _, _ => true
  | _, _ => true

/-- Whether a window on an edited segment becomes invalid by itself (R330). -/
def State.invalidNow (s : State) (old new : Graph) (k : Nat) (w : Window) : Bool :=
  match tget new.segs k with
  | none => true
  | some x =>
    x.closed || (x.rule == 0 && w.dir.testBit 1) ||
      (match s.dykeClass w.node with
       | some c => decide (x.width < c.widthNeed)
       | none => false) ||
      (match s.allot w.node with
       | some al => decide (x.speed < al.cruise)
       | none => false) || shapeChanged old new k

/-- Whether a window conflicts with one of another member under a conflict set that has changed, be it that of its own segment or of
the other's (R330). -/
def State.setConflict (s : State) (old new : Graph) (k : Nat) (w : Window) : Bool :=
  let sets := fun (g : Graph) (k : Nat) => ((tget g.segs k).map (·.conflicts)).getD []
  let changed := fun k => decide (sets old k ≠ sets new k)
  let meets := fun c => (s.windowsOn c).any fun v => v.node != w.node && w.overlaps v
  (changed k && (sets new k).any meets) || (tkeys new.segs).any fun c => changed c && (sets new c).contains k && meets c

/-- A run of the allotter is asked for: one that waits already serves (R333, R354). -/
def askAllot (s : State) : State :=
  if (s.flow 0x882).items.any fun i => i.core.isNone && !i.acted then s
  else enqueue { newItem 10 0x882 0 with work := some .allotterRun } s

/-- A validated shadow becomes the live graph, and every window on an edited segment is revalidated (R329 to R331). -/
def swapGraph (new : Graph) (s : State) : Nat × Nat × State :=
  let old := s.cfg.dyke.live
  let edited := editedSegments old new
  let bad := fun k w => (edited.contains k && s.invalidNow old new k w) || s.setConflict old new k w
  let hit := s.ctl.dyke.windows.flatMap fun e => (e.2.filter (bad e.1)).map fun w => (e.1, w)
  let nodes := (hit.map fun e => e.2.node).foldl sput []
  let s := { s.mapWindows fun k w => some (if bad k w then { w.pin with invalid := true } else w) with
    ctl.cfg.dyke := { s.cfg.dyke with live := new } }
  let s := { s with ctl.dyke := { s.ctl.dyke with shadow := new } }
  let s := nodes.foldl (fun s n =>
    let g := ((hit.find? fun e => e.2.node == n).map (·.1)).getD 0xFFFF
    dykeEvent 2 0 n g (pinSoon n (withhold 2 n s))) s
  let s := askAllot { s with vol.dyke := { s.vol.dyke with swap := none, swaps := s.vol.dyke.swaps + 1 } }
  let s := record 0x0902 0xFFFF (leBytes 2 edited.length ++ leBytes 2 hit.length) (dykeEvent 3 0 0xFFFF 0xFFFF s)
  (edited.length, hit.length, s)

/-- The swap that waits takes place at the next superframe boundary (R329). -/
def applySwap (s : State) : State :=
  match s.vol.dyke.swap with
  | none => s
  | some r =>
    let s := passToAtb (atbOfAsn (s.asn + 1)) s
    let (e, h, s) := swapGraph r.graph s
    finish r.cmd 1 0 (leBytes 2 s.tick ++ leBytes 2 e ++ leBytes 2 h) s

/-- A swap commanded while another waits is served after it (R99). -/
def runDykeSwap (c : HostCmd) (s : State) : CmdResult :=
  let s := applySwap s
  let g := s.ctl.dyke.shadow
  if g = s.cfg.dyke.live then .ok s (zeros 6)
  else if fld c.packet.params 0 1 = 1 then
    .accepted { s with ctl.dyke := { s.ctl.dyke with shadow := s.cfg.dyke.live } } (zeros 6)
  else
    match s.swapError with
    | some d => .deferred (finish c erConflict d [] s)
    | none => .deferred { s with vol.dyke := { s.vol.dyke with swap := some ⟨c, g⟩ } }

def execGraphSwapApply (s : State) : Host.Outcome State Fault Refusal := .next (applySwap s)

/-! ### Path requests -/

/-- The entries of DYKE.RESERVE. -/
def readPath (ps : List Byte) : List PathEntry :=
  (List.range (fld ps 4 2)).map fun k => ⟨fld ps (24 + 8 * k) 2, fld ps (26 + 8 * k) 1 == 1, fld ps (28 + 8 * k) 4⟩

/-- The ranges of DYKE.RESERVE that depend on other fields or on state and that its list does not name (R11). -/
def State.reserveRange (s : State) (ps : List Byte) : Option Nat :=
  let path := readPath ps
  let lens := s.pathLens path
  let n := path.length
  let si := fld ps 6 1
  let ti := fld ps 7 1
  let known := fun k => (path[k]?.bind fun e => s.segment e.seg).isSome
  let cls := s.dykeClass (fld ps 0 2)
  let upper := fun (f : DykeClass → Nat) (v : Nat) => match cls with
    | some c => decide (f c < v)
    | none => false
  if n ≤ si then some 6
  else if ti < si ∨ n ≤ ti then some 7
  else if (fld ps 2 1 = 0 ∧ fld ps 8 4 ≠ 0) ∨ (known si ∧ entryLen path lens si < fld ps 8 4) then some 8
  else if (known ti ∧ entryLen path lens ti < fld ps 12 4) ∨ (ti = si ∧ fld ps 12 4 < fld ps 8 4) then some 12
  else if fld ps 16 2 < 100 || upper (·.vMax) (fld ps 16 2) then some 16
  else if fld ps 18 2 < 10 || upper (·.aMax) (fld ps 18 2) then some 18
  else if fld ps 20 2 < 10 || upper (·.jMax) (fld ps 20 2) then some 20
  else none

/-- The start of a request in mode 1: the latest USABLE record lies within pos_tol of the point given (R317). -/
def State.placedAt (s : State) (node : Nat) (path : List PathEntry) (idx off : Nat) : Except Nat Unit :=
  let held := s.nodeWindows node ++ s.nodeCopies node
  match tget s.vol.dyke.placed node, path[idx]?.bind fun e => (s.segment e.seg).bind fun x =>
      (s.cfg.dyke.live.curve x).map fun c => (e, x, c) with
  | some r, some (e, x, c) =>
    if !held.isEmpty then .error 0xFFFF
    else
      let len : Rat := x.lengthMm
      let d : Rat := off + entryBase path (s.pathLens path) idx
      let (qx, qy) := c.point ((if e.rev then len - d else d) * c.arc / len)
      let (px, py) := localOf s.origin r
      let far := rootQ ((px - qx) * (px - qx) + (py - qy) * (py - qy))
      if far ≤ s.cfg.dyke.posTol then .ok () else .error (sat 16 (far - s.cfg.dyke.posTol).ceil.toNat)
  | _, _ => .error 0xFFFF

/-- The state at t = 0 of a request, in the coordinates of its path, with the gear (R317). -/
def State.startOf (s : State) (node : Nat) (path : List PathEntry) (idx off : Nat) (mode1 : Bool) (tick0 : Nat) :
    Except Nat (Kin × Bool) :=
  let lens := s.pathLens path
  let p0 := ((pathSpans path lens).getD idx (0, 0)).1
  if mode1 then
    match s.placedAt node path idx off with
    | .error m => .error m
    | .ok _ => .ok (⟨p0 + off, 0, 0⟩, false)
  else
    let atb := atbOfAsn (5 * tick0)
    match s.place? node atb, s.planned node atb, path[idx]? with
    | some (g, rev, d), some (k, _, gear), some e =>
      if g = e.seg ∧ rev = e.rev then .ok (⟨p0 + (d - entryBase path lens idx), k.v, k.a⟩, gear) else .error 0xFFFF
    | _, _, _ => .error 0xFFFF

/-- A request as the engine plans it (R318). -/
def State.request (s : State) (cls : DykeClass) (path : List PathEntry) (si ti target v a j : Nat) (start : Kin)
    (rev : Bool) (tick0 departUs : Nat) : PathReq :=
  let limit := (path.map fun e => ((s.segment e.seg).map (·.speed)).getD 0).foldl min 0xFFFF
  { path := path, lens := s.pathLens path, startIdx := si, targetIdx := ti, target := target, v := v, a := a, j := j,
    cruise := min v (min cls.vMax limit), start := start, rev := rev, tick0 := tick0,
    commit := s.tick, task := none, offer := false, departUs := departUs,
    dwellUs := s.cfg.profile.turnDwell * 1000, cls := cls, lapseMs := s.cfg.sluice.lapseMs, margin := s.cfg.dyke.margin,
    direct := false }

/-- A path request of the host is concluded. -/
def concludeRequest (c : HostCmd) (node : Nat) (retarget : Option (List Byte)) (s : State) : Submit → CmdResult
  | .done s' => .accepted s' (requestReply node (s'.heldWant node) retarget s')
  | .waits s' => .deferred s'
  | .envelope k m => .deferred (finish c erEnvelope (k * 65536 + sat 16 m) [] s)
  | .clash (.conflict k g v) =>
    let s := { s with vol.dyke := { s.vol.dyke with conflicts := s.vol.dyke.conflicts + 1 } }
    if retarget.isSome then .deferred (finish c erEnvelope (6 * 65536 + g) (conflictReply k g v) (countCheck s))
    else .deferred (finish c erConflict (k * 65536 + g) (conflictReply k g v) (countCheck s))
  | .clash (.capacity g) => .deferred (finish c erCapacity g [] (countCheck s))
  | .timeout o => .deferred (finish c erTimeout o [] s)

def runDykeReserve (c : HostCmd) (s : State) : CmdResult :=
  let ps := c.packet.params
  let node := fld ps 0 2
  let path := readPath ps
  let depart := fld ps 22 2
  let tick0 := s.tick + 1
  match s.reserveRange ps with
  | some o => .refuse erRange o
  | none =>
    if (s.conn node).isNone then .refuse erState 1
    else
      match s.dykeClass node, s.offered node with
      | none, _ => .refuse erState 2
      | some _, some t => .refuse erBusy t
      | some cls, none =>
        match s.badEntry node cls path with
        | some k => .refuse erRange (24 + 8 * k)
        | none =>
          let moving := ((s.planned node (atbOfAsn (5 * tick0))).map fun e => e.1.moves).getD false
          if depart ≠ 0 && moving then .refuse erRange 22
          else
            match s.startOf node path (fld ps 6 1) (fld ps 8 4) (fld ps 2 1 == 1) tick0 with
            | .error m => .refuse erEnvelope (5 * 65536 + m)
            | .ok (k, rev) =>
              let q := s.request cls path (fld ps 6 1) (fld ps 7 1) (fld ps 12 4) (fld ps 16 2) (fld ps 18 2)
                (fld ps 20 2) k rev tick0 (depart * 10000)
              concludeRequest c node none s (submit node q (some c) none s)

/-- An allotment is released: it has ended, and the member holds none from now on (R327, R347). Its place is kept for the next request
(R317). -/
def releaseAllot (node : Nat) (s : State) : State :=
  match s.allot node with
  | none => s
  | some _ =>
    let s := s.modAllot node fun a => { a with ended := true, waiting := false, task := none }
    freshFrame node <| s.modProfile node fun p =>
      { p with
        mode := 4, resuming := false
        hold := if p.mode = 3 then p.hold.map fun h => { h with s := p.rest, v := 0, a := 0, phases := [] } else p.hold }

/-- DYKE.RELEASE: op 0 keeps the footprint, which it pins, and ends the allotment; op 1 frees everything (log 32). Of a member that is
not connected op 0 keeps every pinned window (R326). -/
def runDykeRelease (c : HostCmd) (s : State) : CmdResult :=
  let node := fld c.packet.params 0 2
  let op := fld c.packet.params 2 1
  let old := (s.nodeCopies node).map (·.1)
  if op = 1 ∧ (s.conn node).isSome then .refuse erState 1
  else
    match s.offered node with
    | some t => .refuse erBusy t
    | none =>
      if op = 1 then
        let (n, s) := freeWindows node (fun _ _ => false) s
        let s := releaseCopies node old s
        let d := s.ctl.dyke
        .accepted { s with ctl.dyke := { d with allots := tdel d.allots node, profiles := tdel d.profiles node } }
          (leBytes 2 n)
      else
        let segs := s.footprint node
        let away := (s.conn node).isNone
        let s := if (s.nodeWindows node ++ s.nodeCopies node).isEmpty then s else pinFootprint node s
        let (n, s) := freeWindows node (fun g w => segs.contains g || (away && w.pinned)) s
        let left := (s.nodeCopies node).map (·.1)
        let s := releaseCopies node (old.filter fun g => !left.contains g) s
        .accepted (releaseAllot node s) (leBytes 2 n)

/-! ### Reading -/

/-- A segment's 40-byte record, as DYKE.GRAPH_EDIT gives it. -/
def segmentBytes (id : Nat) (x : Option Segment) : List Byte :=
  match x with
  | none => [1, 0] ++ leBytes 2 id ++ zeros 36
  | some x =>
    [1, 0] ++ leBytes 2 id ++ leBytes 2 x.fromJ ++ leBytes 2 x.toJ ++ leBytes 4 x.lengthMm ++ leInt 4 x.kappa ++
      leBytes 2 x.speed ++ leBytes 1 x.width ++ leBytes 1 (x.rule + 4 * b2n x.closed + 8 * b2n x.reversible) ++
      leBytes 1 x.owner ++ leBytes 1 x.conflicts.length ++ zeros 2 ++
      (x.conflicts ++ List.replicate (8 - x.conflicts.length) 0xFFFF).flatMap (leBytes 2 ·)

/-- One window entry of DYKE.READ. -/
def windowBytes (s : State) (key : Nat) (w : Window) : List Byte :=
  let off := ((s.allot w.node).map (·.waiting)).getD false
  leBytes 2 key ++ leBytes 2 w.start ++ leBytes 2 w.endWord ++
    leBytes 1 (w.dir + 4 * b2n w.pinned + 8 * b2n w.invalid + 16 * b2n off) ++ zeros 1

def runDykeRead (c : HostCmd) (s : State) : CmdResult :=
  let kind := fld c.packet.params 0 1
  let id := fld c.packet.params 2 2
  if kind = 0 then
    let ws := s.windowsOn id
    .ok s (segmentBytes id (s.segment id) ++ leBytes 1 ws.length ++ zeros 3 ++
      ws.flatMap fun w => windowBytes s w.node w)
  else if kind = 2 then .ok s (segmentBytes id (tget s.ctl.dyke.shadow.segs id))
  else
    let ws := s.nodeWindows id ++ s.nodeCopies id
    .ok s (leBytes 1 ((tget s.cfg.dyke.members id).getD 0xFF) ++
      leBytes 1 (((tget s.vol.sluice.status id).map (·.state)).getD 0) ++ leBytes 2 ((s.taskOf id).getD 0xFFFF) ++
      leBytes 2 ws.length ++ zeros 2 ++ ws.flatMap fun e => windowBytes s e.1 e.2)

def runDykeStatus (_ : HostCmd) (s : State) : CmdResult :=
  let ws := s.ctl.dyke.windows.flatMap (·.2)
  let now := s.mtb
  let n := fun st => (s.ctl.dyke.tasks.filter fun e => e.2.state == st).length
  .ok s (([s.tick % 65536, s.cfg.dyke.live.segs.length, s.cfg.dyke.live.juncs.length, ws.length,
    (ws.filter (·.pinned)).length, (ws.filter (·.invalid)).length, s.shadowEdits, s.vol.dyke.swaps,
    (s.vol.dyke.checks.filter fun t => decide (now < t + tickS)).length, s.vol.dyke.conflicts,
    s.vol.dyke.failures].flatMap fun x => leBytes 4 x) ++
    leBytes 2 (n .pending) ++ leBytes 2 (n .offered) ++ leBytes 2 (n .accepted + n .arrived) ++ zeros 2)

def execDykeConfig (p : Packet) (s : State) : Host.Outcome State Fault Refusal := .next (serve 0x0901 runDykeConfig p s)
def execDykeClass (p : Packet) (s : State) : Host.Outcome State Fault Refusal := .next (serve 0x0902 runDykeClass p s)
def execDykeMember (p : Packet) (s : State) : Host.Outcome State Fault Refusal := .next (serve 0x0903 runDykeMember p s)
def execDykeGraphEdit (p : Packet) (s : State) : Host.Outcome State Fault Refusal :=
  .next (serve 0x0904 runDykeGraphEdit p s)
def execDykeSwap (p : Packet) (s : State) : Host.Outcome State Fault Refusal := .next (serve 0x0905 runDykeSwap p s)
def execDykeReserve (p : Packet) (s : State) : Host.Outcome State Fault Refusal :=
  .next (serve 0x0906 runDykeReserve p s)
def execDykeRelease (p : Packet) (s : State) : Host.Outcome State Fault Refusal :=
  .next (serve 0x0907 runDykeRelease p s)
def execDykeRead (p : Packet) (s : State) : Host.Outcome State Fault Refusal := .next (serve 0x0908 runDykeRead p s)
def execDykeStatus (p : Packet) (s : State) : Host.Outcome State Fault Refusal := .next (serve 0x0909 runDykeStatus p s)

end Sys2Proof.Machine
end

