-- ==== Sys2Proof/Machine/Profile.lean ====
section
/-! DEFINITION.
Motion profiles: frames and when they fall due (R343, R344), the modes of hold and rest (R347), resumes (R327, R348),
new targets (R349, R350), and the opcodes (chapter 13).
-/

namespace Sys2Proof.Machine

/-! ### Frames (R343) -/

/-- The fields of a frame in order: size in bytes and value (Tables Profile-1 and Profile-2). -/
def phaseFields (p : Phase) : List (Nat × Int) :=
  [(4, (min p.durUs 4000000000 : Nat)), (3, roundRat p.jerk), (1, (b2n p.gear + 2 * b2n p.target : Nat))]

/-- The rest phase of modes 3 and 4. -/
def restPhase : Phase := phase 4000000000 0

/-- The fields of the frame of a member for superframe `e`, and those of edition 3. -/
def State.frameFields (s : State) (node e : Nat) : List (Nat × Int) × List (Nat × Int) :=
  let f := s.profile node
  let cls := (s.dykeClass node).getD default
  match (if f.mode = 4 then none else s.allot node), s.planned node (atbOfAsn e) with
  | some al, some (k, left, rev) =>
    let sp := pathSpans al.path al.lens
    let i := entryAt sp k.s
    let here := al.path[i]?
    let next := al.path[i + 1]?
    let listed := if f.mode = 3 ∨ left.isEmpty then [restPhase] else left.take 7
    let ends := decide (f.mode = 3) || decide (left.length ≤ 7)
    let goal := (sp.getD al.targetIdx (0, 0)).1 + al.target
    let main : List (Nat × Int) :=
     [(4, (e % 2 ^ 32 : Nat)), (2, (f.planNo : Nat)), (2, (f.frameNo : Nat)), (1, (f.mode : Nat)),
      (1, (b2n rev + 2 * b2n ends : Nat)), (2, ((here.map (·.seg)).getD 0xFFFF : Nat)), (4, roundRat k.s),
      (4, ((sp.getD i (0, 0)).1 : Nat)), (2, ((next.map (·.seg)).getD 0xFFFF : Nat)),
      (1, (b2n ((here.map (·.rev)).getD false) + 2 * b2n ((next.map (·.rev)).getD false) : Nat)),
      (1, (listed.length : Nat)), (2, roundRat k.v), (2, roundRat k.a)]
    (main ++ listed.flatMap phaseFields,
     [(4, (goal : Nat)), (2, (cls.aHold : Nat)), (2, (cls.aFast : Nat)), (4, (cls.jMax : Nat)), (2, (cls.reactMs : Nat)),
      (2, 0)])
  | _, _ =>
    let main : List (Nat × Int) :=
     [(4, (e % 2 ^ 32 : Nat)), (2, (f.planNo : Nat)), (2, (f.frameNo : Nat)), (1, 4), (1, 2), (2, 0xFFFF), (4, 0), (4, 0),
      (2, 0xFFFF), (1, 0), (1, 1), (2, 0), (2, 0)]
    (main ++ phaseFields restPhase,
     [(4, 0), (2, (cls.aHold : Nat)), (2, (cls.aFast : Nat)), (4, (cls.jMax : Nat)), (2, (cls.reactMs : Nat)), (2, 0)])

/-- A frame is offered to the downlink queue, which may refuse it (R379); one that waits there and has not been sent is withdrawn
(R344). -/
def queueProfile (node : Nat) (payload : List Byte) (s : State) : State :=
  queueOrRecord node 3 payload (withdrawFrame node 3 s)

/-- The frame due at the next event is emitted, by an item of the member's flow, which cancels the timer and arms that of the next frame
(R344, R368). -/
def emitFrame (node : Nat) (s : State) : State :=
  match s.conn node with
  | none => s
  | some c =>
    let e := s.nextEvent c
    if s.frameEvent node c ≠ e then armFrame node s
    else
      let (fs, ext) := s.frameFields node e
      let air := (if c.edition = 3 then fs ++ ext else fs).flatMap fun x => beInt x.1 x.2
      let host := (fs ++ ext).flatMap fun x => leInt x.1 x.2
      let s := s.modProfile node fun f =>
        { f with frameNo := (f.frameNo + 1) % 65536, lastAsn := e, fresh := false }
      let s := { s with vol.dyke := { s.vol.dyke with frames := tput s.vol.dyke.frames node host } }
      armFrame node (queueProfile node air (cancelTimers c.flow 3 s))

/-! ### Events -/

/-- PROFILE.EVENT. -/
def profileEvent (kind node : Nat) (s : State) : State :=
  let (seg, p) := match s.allot node, s.planned node s.atbNow with
    | some al, some (k, _, _) => (((al.path[entryAt (pathSpans al.path al.lens) k.s]?).map (·.seg)).getD 0xFFFF, k.s)
    | _, _ => (0xFFFF, 0)
  sendMsg 0x0A80 (leBytes 1 kind ++ zeros 1 ++ leBytes 2 node ++ leBytes 2 (s.profile node).planNo ++ leBytes 2 seg ++
    leInt 4 (roundRat p) ++ leBytes 4 (s.mtbNs / 1000)) s

/-- TASK.EVENT. -/
def taskEvent (no : Nat) (t : Task) (state node : Nat) (arrive : Nat) (s : State) : State :=
  sendMsg 0x0981 (leBytes 1 state ++ zeros 1 ++ leBytes 2 no ++ leBytes 4 t.ref ++ leBytes 2 node ++ leBytes 2 arrive) s

def State.modTask (s : State) (no : Nat) (f : Task → Task) : State :=
  { s with ctl.dyke := { s.ctl.dyke with tasks := tmod s.ctl.dyke.tasks no f } }

/-- The task of an allotment whose member has reached its target (R335). -/
def taskArrived (node : Nat) (s : State) : State :=
  match (s.allot node).bind (·.task) with
  | none => s
  | some no =>
    match tget s.ctl.dyke.tasks no with
    | some t =>
      if t.state = .accepted ∧ t.node = node then
        taskEvent no t 5 node (t.arrive % 65536) (s.modTask no fun t => { t with state := .arrived })
      else s
    | none => s

/-- Progress of a plan: turn points and the target as they are passed (PROFILE.EVENT 3 and 4). -/
def progress (node : Nat) (s : State) : State :=
  match s.allot node with
  | none => s
  | some al =>
    let f := s.profile node
    if f.mode ≠ 0 ∨ al.waiting ∨ al.ended then s
    else
      let (_, left, _) := al.plan.at s.atbNow
      let turned := (al.plan.phases.filter (·.gear)).length - (left.filter (·.gear)).length
      let s := if f.turnsTold < turned then
          profileEvent 3 node (s.modProfile node fun f => { f with turnsTold := turned })
        else s
      if al.plan.over s.atbNow then
        taskArrived node (profileEvent 4 node (s.modAllot node fun a => { a with ended := true }))
      else s

/-! ### Hold, rest and resume (R341, R347, R348) -/

/-- The category that a stop gives a member: of the stops in force, or of its own STATUS. -/
def State.stopCat (s : State) (node : Nat) : Nat :=
  let own := match tget s.vol.sluice.status node with
    | some st => if st.state = 2 then st.cat else 0
    | none => 0
  max own (max s.allCat (s.listedCat node))

/-- Whether the frames of a member that moves change to the hold plan (R347). -/
def State.mustHold (s : State) (node : Nat) : Bool :=
  !s.grantedNodes.contains node ||
    match tget s.vol.sluice.status node with
    | some st => st.state == 0 || st.state == 2
    | none => false

/-- The hold plan of a stop category: from the planned state at the present instant, at a_fast for a fast stop, else at a_hold (R341,
R347; log 34). -/
def State.holdPlan (s : State) (node cat : Nat) (al : Allotment) (c : DykeClass) : Plan :=
  let (k, _, rev) := (s.planned node s.atbNow).getD (⟨al.plan.s, 0, 0⟩, [], false)
  let k0 : Kin := ⟨k.s, k.v, min k.a 0⟩
  let (ps, _) := holdPhases k0 (if cat = 2 then c.aFast else c.aHold) c.jMax (mkRat c.reactMs 1000)
  { number := al.plan.number, t0 := s.atbNow, s := k0.s, v := k0.v, a := k0.a, rev := rev, phases := ps }

/-- Mode 1, or 2 for a controlled stop, begins: the frames list the hold plan, and the footprint is pinned soon (R326, R347). A stop of a
higher category starts the plan of that category (R342). -/
def holdMember (node : Nat) (s : State) : State :=
  match s.allot node, s.dykeClass node with
  | some al, some c =>
    let f := s.profile node
    let cat := s.stopCat node
    let harder := (f.mode = 1 ∨ f.mode = 2) ∧ f.holdCat < cat
    if ¬(f.mode = 0 ∧ s.mustHold node ∨ harder) then s
    else
      let h := s.holdPlan node cat al c
      let s := freshFrame node (s.modProfile node fun f => { f with mode := if cat = 1 then 2 else 1, hold := some h, holdCat := cat })
      profileEvent 1 node (if f.mode = 0 then pinSoon node s else s)
  | _, _ => s

/-- Mode 3 begins: a USABLE record shows the member at rest (R347). -/
def restMember (node : Nat) (s : State) : State :=
  match s.allot node, s.posRec node with
  | some al, some r =>
    let m := (s.profile node).mode
    if (m = 1 ∨ m = 2) && r.usable && (r.stationary || decide (r.speed ≤ s.cfg.profile.restSpeed)) then
      match s.project node al r with
      | some p => profileEvent 2 node (freshFrame node (s.modProfile node fun f =>
          { f with mode := 3, rest := (roundRat p.p).toNat }))
      | none => s
    else s
  | _, _ => s

/-- Whether a resume is to be planned (R348). -/
def State.resumable (s : State) (node : Nat) : Bool :=
  (s.profile node).mode == 3 && s.grantedNodes.contains node &&
    (match tget s.vol.sluice.status node with
     | some st => st.state == 1 && st.flags.testBit 0
     | none => false) &&
    match s.allot node with
    | some al => !al.ended && !al.waiting
    | none => false

/-- A resume plan has been committed (R327, R348). -/
def resumeCommitted (node : Nat) (s : State) : State := profileEvent 6 node (dykeEvent 5 0 node 0xFFFF s)

/-- A resume is refused: the first refusal is reported, and it is retried every 100 ms (R327). -/
def resumeRefused (node seg : Nat) (s : State) : State :=
  let told := (s.profile node).resumeTold
  let s := s.modProfile node fun f => { f with resuming := true, resumeTold := true }
  if told then s else dykeEvent 4 0 node seg s

/-- The first entry on which a member at rest still has a part, from path coordinate `rest` back by its trail. -/
def restEntry (al : Allotment) (c : DykeClass) (rev : Bool) (rest : Nat) : Nat :=
  entryAt (pathSpans al.path al.lens) ((rest : Rat) - (c.ends rev).2)

/-- A resume is planned and put to the Dyke engine as a request on the member's remaining entries (R327, R348). The entries that the member
has left behind keep the lengths of its plan, so that its path coordinate stands. -/
def resume (node : Nat) (s : State) : State :=
  match s.allot node, s.dykeClass node with
  | some al, some c =>
    if !s.resumable node || s.vol.dyke.border.any (fun b => b.node == node) then s
    else
      let rest := (s.profile node).rest
      let si := entryAt (pathSpans al.path al.lens) rest
      let rev := ((s.profile node).hold.getD al.plan).rev
      let m := restEntry al c rev rest
      match (List.range al.path.length).find? fun k => decide (m ≤ k) && !s.entryOk node c al.path k with
      | some k => resumeRefused node ((al.path[k]?.map (·.seg)).getD 0xFFFF) s
      | none =>
        let q := s.request c al.path si al.targetIdx al.target al.v al.a al.j ⟨rest, 0, 0⟩ rev (s.tick + 1) 0
        match submit node { q with lens := al.lens.take m ++ (s.pathLens al.path).drop m, task := al.task } none none s with
        | .done s => resumeCommitted node s
        | .waits s => s
        | .clash (.conflict _ g _) => resumeRefused node g (countCheck s)
        | .clash (.capacity g) => resumeRefused node g (countCheck s)
        | .envelope _ _ => resumeRefused node 0xFFFF s
        | .timeout _ => resumeRefused node 0xFFFF s
  | _, _ => s

/-- A resume that has become due is planned by an item of the member's flow (R26, R348, R354). A resume that was refused has its
retries instead (R327). -/
def askResume (node : Nat) (s : State) : State :=
  let waits := (s.flow (s.flowOf node)).items.any fun i => i.kind == 5 && i.node == node && !i.acted
  if s.resumable node && !(s.profile node).resuming && !waits && !(s.vol.dyke.border.any fun b => b.node == node) then
    workOn 5 (s.flowOf node) node (.resumePlan node) (resume node) s
  else s

/-- A member's mode and plan follow its permission and its records (R347, R348). -/
def settle (node : Nat) (s : State) : State := askResume node (restMember node (holdMember node (progress node s)))

/-- Every member with an allotment. -/
def settleAll (s : State) : State := (tkeys s.ctl.dyke.allots).foldl (fun s n => settle n s) s

/-- The work of a PROFILE_DUE item (R344). -/
def frameWork (node : Nat) (s : State) : State := emitFrame node (settle node s)

/-- The fired item of a member's timer that waits on its flow is served when a core takes it now. -/
def frameTurn (node flow : Nat) (s : State) : State :=
  match (s.flow flow).items.find? fun i => i.kind == 3 && i.timer && i.core.isNone && !i.acted with
  | some i =>
    match s.takesItem i with
    | some k => frameWork node (serveOn k i s)
    | none => s
  | none => s

/-- The due frame of a member (R344, R367): the delay lists reach the tick of its timer, which fires, and its item is served in its turn. -/
def execProfileFrameDue (node : Nat) (s : State) : Host.Outcome State Fault Refusal :=
  match s.conn node with
  | none => .next s
  | some c =>
    match s.vol.sched.timers.find? fun t => t.flow == c.flow && t.item.kind == 3 with
    | some t => .next (frameTurn node c.flow (fireTimers (passTicks (s.ticksTo t.due) s)))
    | none => .next (frameTurn node c.flow s)

/-- The work of a RESUME item. -/
def resumeWork (node : Nat) (s : State) : State := if (s.profile node).resuming then resume node s else s

/-- A resume is retried (R327). -/
def execResumeRetry (node : Nat) (s : State) : Host.Outcome State Fault Refusal :=
  if (s.profile node).resuming then .next (workOn 5 (s.flowOf node) node (.resumeRetry node) (resumeWork node) s) else .next s

/-! ### The outcome of border requests (R310, R408, R409) -/

def State.dropBorder (s : State) (txn : Nat) : State :=
  { s with vol.dyke := { s.vol.dyke with border := s.vol.dyke.border.filter fun b => b.txn != txn } }

/-- A request that waited for other owners is refused: what COMMIT has reached is released (R409). `seg` is the segment in the way of a
resume. The task of an offer stays pending. -/
def refuseBorder (b : BorderRun) (status detail seg : Nat) (reply : List Byte) (s : State) : State :=
  let s := s.dropBorder b.txn
  let s := (b.commits.map fun e => e.2.1).foldl sput [] |>.foldl (fun s o =>
    releaseAt o b.node ((b.want.filter fun e => (s.segment e.2.1).map (·.owner) == some o).map fun e => e.2.1) s) s
  match b.cmd with
  | some c => finish c status detail reply s
  | none => if b.allot.waiting then s else resumeRefused b.node seg s

/-- The refusal that a conflict gives the request (R350 for a new target). -/
def refuseClash (b : BorderRun) (k g : Nat) (v : Window) (s : State) : State :=
  if b.retarget.isSome then refuseBorder b erEnvelope (6 * 65536 + g) g (conflictReply k g v) s
  else refuseBorder b erConflict (k * 65536 + g) g (conflictReply k g v) s

/-- An offer stands: its windows are committed, and its profile waits for acceptance (R334). -/
def offered (node : Nat) (al : Allotment) (s : State) : State :=
  match al.task with
  | none => s
  | some no =>
    match tget s.ctl.dyke.tasks no with
    | none => s
    | some t =>
      taskEvent no t 1 node (al.arrive % 65536)
        (s.modTask no fun t => { t with state := .offered, node := node, arrive := al.arrive })

/-- Whether a border request may still be committed: the task of an offer is pending yet, and its member has no other. -/
def State.stillAsked (s : State) (b : BorderRun) : Bool :=
  !b.allot.waiting || ((s.taskOf b.node).isNone && (match b.allot.task.bind fun no => tget s.ctl.dyke.tasks no with
    | some t => t.state == .pending
    | none => false) && (match s.allot b.node with
    | some al => al.ended
    | none => false))

/-- Every owner has acknowledged: the local stage is checked and committed. -/
def commitBorder (b : BorderRun) (s : State) : State :=
  let own := b.want.filter fun e => !s.border e.2.1
  let ext := (b.want.filter fun e => s.border e.2.1).map fun e => (e.2.1, e.2.2)
  if !s.stillAsked b then refuseBorder b erState 0 0xFFFF [] s
  else
  match s.clash b.node own with
  | some (.conflict k g v) => refuseClash b k g v s
  | some (.capacity g) => refuseBorder b erCapacity g g [] s
  | none =>
    let gone := ((s.nodeCopies b.node).map (·.1)).filter fun g => !(ext.any fun e => e.1 == g)
    let s := releaseCopies b.node gone (commitAllot b.node b.allot own ext (countCheck (s.dropBorder b.txn)))
    match b.cmd with
    | some c =>
      let s := if b.retarget.isSome then profileEvent 5 b.node s else s
      finish c 1 0 (requestReply b.node b.want b.retarget s) s
    | none => if b.allot.waiting then offered b.node b.allot s else resumeCommitted b.node s

/-- Whether every owner has acknowledged a border request. -/
def BorderRun.acked (b : BorderRun) : Bool := !b.commits.isEmpty && b.commits.all fun e => e.2.2

/-- What the item of a border request does: it is committed when every owner has acknowledged. -/
def borderWork (txn : Nat) (s : State) : State :=
  match s.vol.dyke.border.find? fun b => b.txn == txn with
  | some b => if b.acked then commitBorder b s else s
  | none => s

/-- The commit of a border request is the work of an item: of the member's flow for a command and a resume, of the allotter's for an
offer (R26, R354). -/
def askCommit (b : BorderRun) (s : State) : State :=
  let kind := if b.cmd.isSome then 7 else if b.allot.waiting then 10 else 5
  workOn kind (if kind = 10 then 0x882 else s.flowOf b.node) b.node (.borderCommit b.txn) (borderWork b.txn) s

/-- An owner has answered a RESERVE with acceptance: COMMIT goes out once all have (R408). -/
def borderAccepted (txn : Nat) (s : State) : State :=
  match s.vol.dyke.border.find? fun b => b.reserves.any fun e => e.1 == txn with
  | none => s
  | some b =>
    let rs := b.reserves.map fun e => if e.1 = txn then (e.1, e.2.1, true) else e
    let b := { b with reserves := rs }
    let put := fun (b : BorderRun) (s : State) => { s with
      vol.dyke := { s.vol.dyke with border := s.vol.dyke.border.map fun x => if x.txn = b.txn then b else x } }
    if rs.all (fun e => e.2.2) && b.commits.isEmpty then
      let (cs, s) := rs.foldl (fun (acc, s) e =>
        let (t, s) := fedRequest e.2.1 8 (beBytes 1 1 ++ beBytes 4 e.1) s
        (acc ++ [(t, e.2.1, false)], s)) ([], s)
      put { b with commits := cs } s
    else put b s

/-- An owner has acknowledged a COMMIT. -/
def borderAcked (txn : Nat) (s : State) : State :=
  match s.vol.dyke.border.find? fun b => b.commits.any fun e => e.1 == txn with
  | none => s
  | some b =>
    let b := { b with commits := b.commits.map fun e => if e.1 = txn then (e.1, e.2.1, true) else e }
    let s := { s with
      vol.dyke := { s.vol.dyke with border := s.vol.dyke.border.map fun x => if x.txn = b.txn then b else x } }
    if b.acked then askCommit b s else s

/-- 50 ms after the first RESERVE, an owner has not committed (R310). -/
def execBorderCommitTimeout (txn : Nat) (s : State) : Host.Outcome State Fault Refusal :=
  match s.vol.dyke.border.find? fun b => b.txn == txn with
  | none => .next s
  | some b =>
    match (b.reserves.find? fun e => !e.2.2).or (b.commits.find? fun e => !e.2.2) with
    | some e => .next (refuseBorder b erTimeout e.2.1 0xFFFF [] s)
    | none => .next s

/-! ### Opcodes -/

def runProfileConfig (c : HostCmd) (s : State) : CmdResult :=
  .accepted { s with ctl.cfg.profile := { s.cfg.profile with
    turnDwell := fld c.packet.params 0 2, restSpeed := fld c.packet.params 2 2, defRate := fld c.packet.params 4 1 } } []

def runProfileMember (c : HostCmd) (s : State) : CmdResult :=
  let node := fld c.packet.params 0 2
  let r := fld c.packet.params 2 1
  let fits := match s.conn node with
    | none => true
    | some k =>
      let n := 4 + 28 + 56 + if k.edition = 3 then 16 else 0
      (fitRate (s.lane k.par.lane) (s.slotRange k.par.lane).2.2
        (if (s.lane k.par.lane).ofdm then (if k.par.rate < 8 then 0 else 8) else 0) (psduLen 5 k.par.mesh n)).isSome
  if !fits then .refuse erRange 0
  else
    let s := { s with ctl.cfg.profile := { s.cfg.profile with
      rates := if r = 0 then tdel s.cfg.profile.rates node else tput s.cfg.profile.rates node r } }
    .accepted s (leBytes 2 (match s.conn node with
      | some k => s.effPeriod node k
      | none => 0))

/-- The return entries of PROFILE.RETARGET. -/
def returnEntries (ps : List Byte) : List PathEntry :=
  (List.range (fld ps 16 1)).map fun k => ⟨fld ps (20 + 4 * k) 2, fld ps (22 + 4 * k) 1 == 1, 0⟩

/-- The ranges of PROFILE.RETARGET that depend on the class or the segment (R11). -/
def State.retargetRange (s : State) (ps : List Byte) : Option Nat :=
  let upper := fun (f : DykeClass → Nat) (v : Nat) => match s.dykeClass (fld ps 0 2) with
    | some c => decide (f c < v)
    | none => false
  if fld ps 2 2 < 100 || upper (·.vMax) (fld ps 2 2) then some 2
  else if fld ps 4 2 < 10 || upper (·.aMax) (fld ps 4 2) then some 4
  else if fld ps 6 2 < 10 || upper (·.jMax) (fld ps 6 2) then some 6
  else
    match s.segment (fld ps 8 2) with
    | some x => if x.lengthMm < fld ps 12 4 then some 12 else none
    | none => none

/-- The place of a target on an entry, in its direction of travel; none outside the entry. -/
def offsetOn (path : List PathEntry) (lens : List Nat) (k seg off : Nat) : Option Nat :=
  match path[k]? with
  | none => none
  | some e =>
    let d := if e.rev then lens.getD k 0 - off else off
    let b := entryBase path lens k
    if e.seg = seg ∧ b ≤ d ∧ d - b ≤ entryLen path lens k then some (d - b) else none

/-- The request of a target ahead of the ARP on the present path, when its leg reaches it (R349). -/
def State.aheadReq (s : State) (cls : DykeClass) (al : Allotment) (ps : List Byte) (k : Kin) (rev : Bool) : Option PathReq :=
  let sp := pathSpans al.path al.lens
  let si := entryAt sp k.s
  let hit := (List.range al.path.length).findSome? fun i =>
    (offsetOn al.path al.lens i (fld ps 8 2) (fld ps 12 4)).bind fun o =>
      if si ≤ i && decide (k.s ≤ ((sp.getD i (0, 0)).1 + o : Nat)) then some (i, o) else none
  hit.bind fun (i, o) =>
    let q := { s.request cls al.path si i o (fld ps 2 2) (fld ps 4 2) (fld ps 6 2) k rev (s.tick + 1) 0 with lens := al.lens }
    match q.plan 0 with
    | .error (8, _) => none
    | _ => some q

/-- What a turn-back request comes to: the request, its turn segment and turn point, or a refusal. -/
inductive TurnBack where
  | req (q : PathReq) (seg off : Nat)
  | refuse (status detail : Nat)
  deriving DecidableEq, Repr

/-- The turn-back request of R349, checked in the order of the opcode's page: the return entries, the target, then the envelope (R340,
R350). A turn point of the present path that the deceleration passes ends its leg too early (kind 8). -/
def State.turnBack (s : State) (node : Nat) (cls : DykeClass) (al : Allotment) (ps : List Byte) (k : Kin) (rev : Bool) :
    TurnBack :=
  let sp := pathSpans al.path al.lens
  let a : Rat := fld ps 4 2
  let j : Rat := fld ps 6 2
  let k1 := (phaseZero k j).foldl Kin.after k
  let stop := (k1.s + rampDist (max 0 k1.v) 0 a j).ceil.toNat
  let here := entryAt sp k.s
  let kt := entryAt sp stop
  let total := (sp.getLast?.map (·.2)).getD 0
  match al.path[kt]? with
  | none => .refuse erEnvelope (2 * 65536)
  | some e =>
    let off := stop - (sp.getD kt (0, 0)).1 + entryBase al.path al.lens kt
    let len := al.lens.getD kt 0
    let may := match s.segment e.seg with
      | some x => (x.rule == 1 || x.rule == 2) && x.reversible && cls.mayReverse
      | none => false
    let kept := (al.path.take kt).drop al.startIdx
    let ret := returnEntries ps
    let path := kept ++ [{ e with turnOff := off }, { e with rev := !e.rev, turnOff := 0 }] ++ ret
    let n := kept.length
    let lens := ((al.lens.take (kt + 1)).drop al.startIdx) ++ [len] ++ s.pathLens ret
    let passed := (List.range al.path.length).findSome? fun i =>
      let p := (sp.getD i (0, 0)).2
      if decide (here ≤ i) && turnPair al.path i && decide (p < stop) then some p else none
    match (List.range ret.length).find? fun i => !s.entryOk node cls path (n + 2 + i) with
    | some i => .refuse erRange (20 + 4 * i)
    | none =>
      match offsetOn path lens (path.length - 1) (fld ps 8 2) (fld ps 12 4), passed with
      | none, _ => .refuse erRange 8
      | some _, some p => .refuse erEnvelope (8 * 65536 + sat 16 (stop - p))
      | some o, none =>
        if total < stop then .refuse erEnvelope (2 * 65536 + sat 16 (stop - total))
        else if !may ∨ turnSecond al.path kt ∧ al.startIdx < kt then .refuse erEnvelope (7 * 65536 + e.seg)
        else
          let base := (sp.getD al.startIdx (0, 0)).1
          let k : Kin := { k with s := k.s - base }
          let si := entryAt (pathSpans path lens) k.s
          let q := s.request cls path si (path.length - 1) o (fld ps 2 2) (fld ps 4 2) (fld ps 6 2) k rev (s.tick + 1) 0
          .req { q with lens := lens, direct := true } e.seg (if e.rev then len - off else off)

/-- A new target put in force is told in PROFILE.EVENT. -/
def toldRetarget (node : Nat) : CmdResult → CmdResult
  | .accepted s r => .accepted (profileEvent 5 node s) r
  | .deferred s => .deferred s
  | .requested s => .requested s
  | .ok s r => .ok s r
  | .refuse st d => .refuse st d

def runProfileRetarget (c : HostCmd) (s : State) : CmdResult :=
  let ps := c.packet.params
  let node := fld ps 0 2
  let none6 := leBytes 2 0xFFFF ++ leBytes 4 0xFFFFFFFF
  match s.retargetRange ps with
  | some o => .refuse erRange o
  | none =>
    if (s.conn node).isNone then .refuse erState 1
    else
      match s.dykeClass node, s.allot node with
      | none, _ => .refuse erState 2
      | some cls, al? =>
        let permitted := match tget s.vol.sluice.status node with
          | some st => st.state == 1
          | none => false
        if !permitted then .refuse erState 3
        else
          match al?, s.offered node with
          | none, _ => .refuse erState 4
          | some _, some t => .refuse erBusy t
          | some al, none =>
            match s.planned node (atbOfAsn (5 * (s.tick + 1))) with
            | none => .refuse erState 4
            | some (k, _, rev) =>
              let ahead := if fld ps 16 1 = 0 then s.aheadReq cls al ps k rev else none
              match ahead with
              | some q => toldRetarget node (concludeRequest c node (some none6) s (submit node q (some c) (some none6) s))
              | none =>
                match s.turnBack node cls al ps k rev with
                | .refuse st d => .refuse st d
                | .req q g o =>
                  let t := leBytes 2 g ++ leBytes 4 o
                  toldRetarget node (concludeRequest c node (some t) s (submit node q (some c) (some t) s))

def runProfileRead (c : HostCmd) (s : State) : CmdResult :=
  let node := fld c.packet.params 0 2
  match tget s.vol.dyke.frames node, s.conn node with
  | some f, some k => .ok s (leBytes 2 (s.effPeriod node k) ++ zeros 2 ++ f)
  | _, _ => .refuse erState 0

def execProfileConfig (p : Packet) (s : State) : Host.Outcome State Fault Refusal :=
  .next (serve 0x0A01 runProfileConfig p s)
def execProfileMember (p : Packet) (s : State) : Host.Outcome State Fault Refusal :=
  .next (serve 0x0A02 runProfileMember p s)
def execProfileRetarget (p : Packet) (s : State) : Host.Outcome State Fault Refusal :=
  .next (serve 0x0A03 runProfileRetarget p s)
def execProfileRead (p : Packet) (s : State) : Host.Outcome State Fault Refusal := .next (serve 0x0A04 runProfileRead p s)

end Sys2Proof.Machine
end

