-- ==== Sys2Proof/Machine/Role.lean ====
section
/-! DEFINITION.
The active role: snapshots of the control state (R422 to R427), giving up control (R429, R430, R298), waking the other
side, a failed start (R79), and the steps of a planned handover (R435).
-/

namespace Sys2Proof.Machine

/-- Whether the active side's main domains are on. -/
def State.actOn (s : State) : Bool := s.hsw.active.isSome && s.act.mainOn

/-- The side that does not hold the active role. -/
def State.otherId (s : State) : SideId := otherSide s.actId

def State.other (s : State) : SideState := s.side s.otherId

/-- The newest checkpoint committed to the other side's sink, 0 for none. -/
def State.lastCommitted (s : State) : Nat :=
  match s.other.ckpts.newest with
  | some c => c.seq
  | none => 0

/-- REDUN.EVENT; a takeover result has its record too (Table Rec-3). -/
def redunEvent (kind cause seq : Nat) (s : State) : State :=
  let s := sendMsg 0x0F80 (leBytes 1 kind ++ leBytes 1 cause ++ zeros 2 ++ leBytes 4 seq ++ leBytes 8 s.mtbNs) s
  if kind ≤ 4 then record 0x0F02 0xFFFF (leBytes 1 kind ++ zeros 3 ++ leBytes 4 seq) s
  else recordOther 0x0F 0x0F80 s

/-! ### Snapshots (R422 to R426) -/

/-- Whether the effect of a command in flight is in force: it has completed as accepted, or its completion alone is still to come. -/
def InFlight.took (f : InFlight) : Bool := f.phase == .awaitingDurable || f.phase == .effected

/-- F of R426: below the first command that has been fetched and has still to take effect. -/
def Session.floorNow (x : Session) : Nat :=
  let open' := x.inFlight.filter fun f => !f.took
  match open' with
  | [] => x.lastSeq
  | f :: fs => fs.foldl (fun m g => min m g.cmd.fetchSeq) f.cmd.fetchSeq - 1

/-- Whether a snapshot can be taken now (R423, R427, R472). -/
def State.canSnapshot (s : State) : Bool :=
  s.vol.redun.running && s.sinkAccepts && s.vol.redun.transfer.isNone && !s.hsw.restarting &&
    s.vol.redun.relinquish.isNone

/-- Pages of the image and of a checkpoint: free values within R422 and R424 (log 50). -/
def snapPages (first : Bool) (s : State) : Nat × Nat × State :=
  let (a, s) := s.draw
  let (b, s) := s.draw
  let image := 1 + Config.pages 0 a % 3072
  (image, if first then image else Config.pages 1 b % (image + 1), s)

/-- The pages of the area that a checkpoint may write (R424): those that neither of the two newest committed checkpoints references;
with NO_FALLBACK also those that only the older one does. -/
def CkptArea.free (noFallback : Bool) (a : CkptArea) : List Nat :=
  let refs := fun c : Option Checkpoint => match c with
    | some c => c.pageMap.map PageEntry.loc
    | none => []
  (List.range 6144).filter fun n => !(refs a.newest).contains n && (noFallback || !(refs a.previous).contains n)

/-- K_ck of an epoch (Table Sec-3): both sides derive the same key. -/
def State.ckptKey (s : State) : List Byte := Config.kdf 0x50 [beBytes 4 s.hsw.epoch]

/-- The map of a checkpoint (R424, Table Redun-1): the pages that it carries, from page `k % image` on, with the place and the GCM tag that each has
got, and every other page as the checkpoint that it extends has it. Which pages have changed, where they go in the free pages and
what they hold are free values (log 50). -/
def pageMapOf (seq image pages k : Nat) (noFallback : Bool) (s : State) : List PageEntry :=
  let area := s.other.ckpts
  let free := area.free noFallback
  let old := match area.newest with
    | some c => c.pageMap
    | none => []
  (List.range image).map fun n =>
    let j := (n + image - k % image) % image
    if j < pages then
      ⟨n, free.getD ((Config.pages 2 k + j) % max 1 free.length) 0,
        (Config.gcmSeal s.ckptKey (leBytes 4 seq ++ leBytes 4 n ++ zeros 4) [] (Config.statePage n k)).2⟩
    else (old.find? fun e => e.page == n).getD ⟨n, 0, []⟩

def PageEntry.bytes (e : PageEntry) : List Byte := leBytes 4 e.page ++ leBytes 4 e.loc ++ e.tag

/-- The commit record without its tag (Table Redun-1). The width of a page map entry's fields is not given. DESIGN CHOICE (log 148). -/
def Checkpoint.record (c : Checkpoint) : List Byte :=
  leBytes 4 c.seq ++ leBytes 4 c.epoch ++ leBytes 4 c.prevSeq ++
    leBytes 2 (b2n c.noFallback + 2 * b2n c.final + 4 * b2n c.first) ++ leBytes 2 c.pages ++ leBytes 2 c.image ++ zeros 2 ++
    leBytes 8 (c.snapMtb * 5 / 8) ++ timeBytes c.ctl.time.stb ++ leBytes 4 c.asn ++ c.floors.flatMap (leBytes 4) ++
    (c.lists.flatMap fun l => leBytes 2 l.length) ++ c.mapHash ++ leBytes 8 (c.sealMtb * 5 / 8) ++ zeros 4 ++
    (c.lists.flatMap fun l => l.flatMap fun e => leBytes 4 e.fetchSeq) ++ c.pageMap.flatMap PageEntry.bytes

/-- The commit record is sealed at an instant of MTB (R424, R425). -/
def Checkpoint.seal (mtb : Nat) (key : List Byte) (c : Checkpoint) : Checkpoint :=
  let c := { c with sealMtb := mtb }
  { c with tag := (Config.gcmSeal key (leBytes 4 c.seq ++ leBytes 4 0xFFFFFFFF ++ zeros 4) [] c.record).2 }

/-- The snapshot of R423: a cut of the whole control state, to be sent to the sink. -/
def cutImage (final : Bool) (s : State) : State :=
  let r := s.vol.redun
  let first := !r.firstDone
  let (image, pages, s) := snapPages first s
  let (k, s) := s.draw
  let open' := s.hsw.sessions.map fun x => if x.isOpen then x.floorNow else 0
  let sess := s.hsw.sessions.map fun x => { x with effects := x.effects.filter fun e => decide (x.floorNow < e.fetchSeq) }
  let noFallback := decide (1472 < pages) && Config.flag 30 k
  let map := pageMapOf (r.seq + 1) image pages k noFallback s
  let c : Checkpoint :=
    { seq := r.seq + 1, epoch := s.hsw.epoch, prevSeq := if first then 0 else r.seq,
      noFallback := noFallback, final := final, first := first, pages := pages,
      image := image, snapMtb := s.mtb, sealMtb := 0, snapClock := s.clock, asn := s.asn % 2 ^ 32, floors := open',
      lists := sess.map fun x => if x.isOpen then x.effects else [], run := s.hsw.runNo,
      format := (if s.act.firmware.running = 0 then s.act.firmware.slot0 else s.act.firmware.slot1).ckWrite,
      insts := s.hsw.sessions.map fun x => if x.isOpen then some x.inst else none, pageMap := map,
      mapHash := Config.sha384 (map.flatMap PageEntry.bytes), tag := [], ctl := s.ctl }
  let covers := (List.range s.hsw.sessions.length).flatMap fun n =>
    ((s.sess n).inFlight.filter InFlight.took).map fun f => (n, f.cmd.fetchSeq)
  { s with
    hsw.sessions := sess
    vol.redun := { s.vol.redun with
      seq := c.seq, firstDone := true, due := false, transfer := some c, coversCmds := covers, image := image,
      period := s.cfg.redun.periodMs, ckptCmdsOn := s.vol.redun.ckptCmds, ckptCmds := [] } }

/-- The snapshot is taken, and its assembly is a work item (R354, R423). -/
def takeSnapshot (final : Bool) (s : State) : State := ranItem 9 0x881 0 (cutImage final s)

/-- A snapshot now, or after the commit of the checkpoint in transfer (R423). -/
def snapshotOrWait (final : Bool) (s : State) : State :=
  if s.canSnapshot then takeSnapshot final s
  else if s.vol.redun.running && s.sinkAccepts then { s with vol.redun.due := true }
  else s

/-- The checkpoint in transfer is discarded by the sink, whose island notes it (R434, R485). -/
def discardTransfer (s : State) : State :=
  match s.vol.redun.transfer with
  | none => s
  | some _ =>
    recordOn s.otherId 0x0F00 0xFFFF (zeros 2)
      { s with vol.redun := { s.vol.redun with transfer := none, coversCmds := [], due := false } }

/-! ### The other side starts (R79, R430) -/

/-- The main domains of a side are off (R43, R466): what it held outside MRAM and its island is lost. -/
def SideState.domainsOff (d : SideState) : SideState :=
  { d with
    mainOn := false, start := none
    power := if d.locked then .poweredDown else .standbyCold
    staging := { d.staging with applying := [], partialBlk := [] }
    recorder := { d.recorder with openRec := none } }

/-- The active role leaves the module: it is dark (R73, R438). -/
def goDark (s : State) : State := setServing false { s with hsw.active := none, hsw.last := s.actId }

/-- The host switch records a side as holding the active role (R17, R53; CHANGES of Table Host-10). -/
def grantRole (x : SideId) (s : State) : State :=
  raiseIrq irqHandover { s with
    hsw.active := some x, hsw.last := x, hsw.changes := (s.hsw.changes + 1) % 256 }

/-- A side begins a start. -/
def beginStart (x : SideId) (kind : StartKind) (code detail : Nat) (s : State) : State :=
  s.modSide x fun d =>
    { d with
      start := some { kind := kind, stage := .bootRom, t0 := s.clock, slot := 0, fallback := false, trial := false, cmd := none }
      startRec := { StartRecord.begin code detail with slot := d.startRec.slot } }

/-- The host switch wakes a side to take the active role (R430 step 5, R431). -/
def wakeSide (x : SideId) (s : State) : State :=
  beginStart x .handover 6 0 (recordOn x 0x0F00 0xFFFF (zeros 2) (grantRole x s))

/-- The reset of the standby side begins. -/
def beginReset (c : HostCmd) (s : State) : State :=
  (beginStart s.otherId .sideReset 4 0 s).modSide s.otherId fun d =>
    { d with start := d.start.map fun r => { r with cmd := some c } }

/-- The RESET.SIDE commands that waited for one in progress are served in order (R99): the next begins, and on a tamper-locked side each is
refused. -/
def serveResets : List HostCmd → State → State
  | [], s => s
  | c :: t, s =>
    if s.other.locked then serveResets t (finish c erTamper 0 [] s)
    else beginReset c { s with vol.redun := { s.vol.redun with resetWait := t } }

/-- The reset of a side is over, and the next RESET.SIDE that waited is served. -/
def nextReset (s : State) : State :=
  serveResets s.vol.redun.resetWait { s with vol.redun := { s.vol.redun with resetWait := [] } }

/-- After a reset a side is in standby-cold again, or powered down as before it: Table Reset-3 lets only a module start end that state.
DEDUCED (log 149). -/
def SideState.afterReset (d : SideState) : SideState :=
  { d.domainsOff with power := if d.power = .poweredDown then .poweredDown else d.domainsOff.power }

/-- The control and run state of a side whose main domains are off: that of a module start. -/
def loseControl (s : State) : State :=
  { s with ctl := { Control.factory with records := s.ctl.records }, vol := Volatile.start, mtbZero := s.clock }

/-- Every session instance and ring set returns to nothing when SERVING falls (R110, R120). -/
def stopServing (s : State) : State :=
  let s := (List.range 4).foldl (fun s n => endSession n 3 s) s
  setServing false (resetRing 1 (resetRing 0 { s with hsw.mnt := MntPort.start }))

/-- A side has failed its start (R79): it is powered down, and the host switch acts by the kind of the start. -/
def failStart (x : SideId) (result : Nat) (s : State) : State :=
  match (s.side x).start with
  | none => s
  | some r =>
    let d := (s.side x)
    let s := recordOn x 0x1401 d.startRec.kind
      (leBytes 1 d.startRec.kindDetail ++ leBytes 1 d.startRec.slot ++ leBytes 1 result) s
    let s := s.modSide x fun d =>
      { d.domainsOff with power := .poweredDown, startRec := { d.startRec with result := result } }
    match r.kind with
    | .sideReset =>
      nextReset (match r.cmd with
        | some c => finish c 0 0 (leBytes 1 result ++ leBytes 1 d.startRec.slot ++ zeros 6) s
        | none => s)
    | .handover | .abandoned => loseControl (goDark (stopServing s))
    | .module =>
      let y := otherSide x
      let s := stopServing { s with hsw.handoverN := true }
      if (s.side y).power = .standbyCold ∧ s.hsw.active = some x then
        beginStart y .module d.startRec.kind d.startRec.kindDetail (grantRole y (loseControl s))
      else loseControl (goDark s)

/-! ### Relinquishing (R429, R430, R298) -/

/-- RESET.SIDE in progress on the other side is abandoned, and with it those that wait (RESET.SIDE). -/
def abandonReset (s : State) : State :=
  let w := s.vol.redun.resetWait
  let s := w.foldl (fun s c => finish c erState 0xFFFF [] s) { s with vol.redun := { s.vol.redun with resetWait := [] } }
  match s.other.start with
  | some r =>
    if r.kind = .sideReset then
      let s := s.modSide s.otherId fun d => { d.afterReset with startRec := { d.startRec with result := 5 } }
      match r.cmd with
      | some c => finish c erState 0xFFFF [] s
      | none => s
    else s
  | none => s

/-- Steps 4 and 5 of R430: main domains off; then the other side is woken, or the module is dark (R298). A wake waits
for a host switch that restarts, which keeps the grant until then (R17, R472). -/
def handRoleOver (s : State) : State :=
  let x := s.actId
  let dark := s.vol.sluice.state == .finalStop
  let s := loseControl (s.modSide x fun d =>
    { d.domainsOff with security := { d.security with radioStore := d.security.radioStore && !d.locked } })
  if dark then goDark s
  else if s.hsw.restarting then { s with hsw.wakeDue := true }
  else wakeSide (otherSide x) s

/-- The Sluice logic at the detection of a cause: step 1 of R430, R69, or the final stop of R298. -/
def relinquishSluice (cause : Nat) (ok : Bool) (s : State) : State :=
  if ok then { s with vol.sluice.state := if cause = 8 then .off else .withdrawn }
  else
    let s := (newStop 8 s.cfg.sluice.diagCat [] .here s).2
    { s with vol.sluice.state := .finalStop }

/-- A step of STB that is announced is cancelled (R202). -/
def cancelStep (s : State) : State :=
  match s.vol.time.pending with
  | some p => { s with vol.time := { s.vol.time with pending := none, cancelled := some p } }
  | none => s

/-- What a watchdog expiry does after a brown-out warning with the other side eligible (R69, Table Sluice-6): heartbeats stop
and HANDOVER_N conducts. -/
def watchdogStop (s : State) : State :=
  { s.modAct fun d => { d with startRec := { d.startRec with kind := 5, kindDetail := 0 } } with
    vol.sluice.state := .off, hsw.handoverN := true }

/-- The active side gives up control for a cause of Table Redun-2. A cause during a relinquishment in progress changes nothing. After
a brown-out warning the module powers down and no role is handed over (R44, R45): with the other side eligible a watchdog
expiry stops the heartbeats (R69, R75) and another cause adds nothing to Withdrawn; without it the final stop of R298 follows.
Steps 3 to 5 of R430 follow with the next four Sluice slots. -/
def relinquish (cause : Nat) (s : State) : State :=
  if s.hsw.active.isNone || s.vol.redun.relinquish.isSome || !s.act.mainOn then s
  else if s.hsw.warned && s.standbyOk then (if cause = 8 then watchdogStop s else s)
  else
    let ok := s.standbyOk
    let s := relinquishSluice cause ok s
    let s := cancelStep s
    let s := record 0x0F01 cause (leBytes 4 s.lastCommitted) s
    let s := abandonReset (discardTransfer s)
    let s := s.modAct fun d =>
      { d with
        relCause := cause, passed := false, suspect := d.suspect || cause != 10, start := none
        startRec := if cause = 8 then { d.startRec with kind := 5, kindDetail := 0 } else d.startRec }
    let s := stopServing { s with
      hsw.handoverN := true, hsw.lastCause := cause
      vol.redun := { s.vol.redun with relinquish := some cause, relSlots := 0, handover := none } }
    if s.vol.sluice.state = .off || s.ctl.time.atb.isNone then handRoleOver s else s

/-- One Sluice slot of step 3 of R430, or of the final stop, has passed. -/
def relinquishSlot (s : State) : State :=
  if s.vol.redun.relinquish.isNone then s
  else if 4 ≤ s.vol.redun.relSlots + 1 then handRoleOver s
  else { s with vol.redun.relSlots := s.vol.redun.relSlots + 1 }

/-! ### The sink is lost (R455) -/

/-- Commands that await their durable completion leave flight. -/
def dropAwaiting (s : State) : State :=
  { s with hsw.sessions := s.hsw.sessions.map fun x =>
      { x with inFlight := x.inFlight.filter fun f => f.phase != .awaitingDurable } }

/-- A planned handover ends as refused, and permission stands as it stood; after a brown-out warning none is granted (R44). -/
def refuseHandover (status detail : Nat) (s : State) : State :=
  match s.vol.redun.handover with
  | none => s
  | some h =>
    finish h.cmd status detail []
      { s with vol.redun.handover := none, vol.sluice.state := if s.hsw.warned then s.vol.sluice.state else .running }

/-- The active side has lost the other side's sink by tamper. Commands that wait for a commit are refused as R427 has it
(log 51). -/
def sinkLost (s : State) : State :=
  let waits := s.vol.redun.ckptCmds ++ s.vol.redun.ckptCmdsOn
  let s := dropAwaiting (discardTransfer s)
  let s := { s with vol.redun := { s.vol.redun with due := false, ckptCmds := [], ckptCmdsOn := [] } }
  let s := waits.foldl (fun s c => finish c erState 0 [] s) s
  let s := match s.vol.redun.handover with
    | some h => if h.posted then s else refuseHandover erState 1 s
    | none => s
  redunEvent 5 0 s.vol.redun.seq s

/-! ### Planned handover (R435) -/

/-- Members whose latest STATUS does not report rest. -/
def State.moving (s : State) : Nat :=
  (s.ctl.conns.filter fun e =>
    match tget s.vol.sluice.status e.1 with
    | some m => !m.flags.testBit 0
    | none => true).length

/-- Whether a command other than the handover's has started and not completed. -/
def State.othersRun (s : State) (c : HostCmd) : Bool :=
  s.hsw.sessions.any fun x => x.inFlight.any fun f =>
    (f.phase == .started || f.phase == .effected) && !(f.cmd.session == c.session && f.cmd.fetchSeq == c.fetchSeq)

/-- Steps 1 to 4 of R435 as far as they can go now. -/
def handoverProgress (s : State) : State :=
  match s.vol.redun.handover with
  | none => s
  | some h =>
    let n := s.moving
    if h.final || s.othersRun h.cmd then s
    else if n = 0 ∨ (h.waited ∧ h.force) then
      snapshotOrWait true { s with vol.redun.handover := some { h with final := true, moving := n } }
    else if h.waited then refuseHandover erTimeout n s
    else s

/-- What follows a Sluice slot: a handover in progress, a relinquishment in progress, and the messages of R432. -/
def afterSlot (s : State) : State :=
  let s := handoverProgress s
  let r := s.vol.redun
  let s := if !r.toldControl && s.ctl.conns.all fun e => !e.2.downSync then
      redunEvent 1 s.hsw.lastCause r.installed { s with vol.redun.toldControl := true } else s
  let s := if !r.toldRequal && s.ctl.sluice.requal.isEmpty then
      redunEvent 2 s.hsw.lastCause r.installed { s with vol.redun.toldRequal := true } else s
  relinquishSlot s

end Sys2Proof.Machine
end

