-- ==== Sys2Proof/Machine/Sluice.lean ====
section
/-! DEFINITION.
Sluice: frames of the Sluice slots and spans, loop inputs, confirmation, release, and the opcodes (chapter 11).
-/

namespace Sys2Proof.Machine

/-! ### Frames (R281 to R285, R291, R293, R294) -/

/-- The bits of exc_cat: entry i at bits 2i+1:2i (Table Sluice-3). -/
def excCats : List (Nat × Nat × Nat) → Nat
  | [] => 0
  | e :: es => e.2.2 % 4 + 4 * excCats es

/-- The HEARTBEAT body, which also opens every OFDM STOP body (Table Sluice-3). -/
def heartbeatBody (asn : Nat) (s : State) : List Byte :=
  let (m, es, _) := s.permission
  beBytes 4 asn ++ beBytes 2 s.ctl.sluice.stopSeq ++ beBytes 1 (64 * s.allCat + 32 * b2n s.loopClosed) ++
    beBytes 1 s.cfg.sluice.lapseMs ++ beBytes 1 es.length ++ zeros 3 ++ leBytes 32 m ++ beBytes 8 (excCats es) ++
    es.flatMap fun e => beBytes 2 e.1

/-- The stop block (Table Sluice-4) with the targets that the frame carries. -/
def stopBlock (x : Stop) (copy : Nat) (targets : List Nat) : List Byte :=
  beBytes 2 x.no ++ beBytes 1 (64 * x.category + 16 * copy) ++ beBytes 1 x.cause ++ beBytes 1 targets.length ++ zeros 3 ++
    targets.flatMap (beBytes 2)

/-- Whether the stop block of `x` goes before that of `y`, both due (R291); stops stand in order of their numbers. -/
def Stop.before (x y : Stop) : Bool :=
  decide (y.category < x.category) || (x.category == y.category && x.all && !y.all)

/-- The stop block that a slot carries, of the stops listed in order of their numbers. -/
def chooseStop : List Stop → Option Stop
  | [] => none
  | x :: xs =>
    match chooseStop xs with
    | none => some x
    | some y => if y.before x then some y else some x

/-- Stops that have a copy due on the OFDM lanes: in final stop those of cause 8 alone (Table Sluice-6). -/
def State.stopsDue (s : State) : List Stop :=
  s.stops.filter fun x => decide (x.copies < 4) && (s.vol.sluice.state != .finalStop || x.cause == 8)

/-- Whether a Sluice frame goes out in the Sluice slots now (R281, Table Sluice-6). -/
def State.sluiceSends (s : State) : Bool :=
  s.hsw.active.isSome && s.hasSiteKey &&
    match s.vol.sluice.state with
    | .off => false
    | .running => true
    | .withdrawn => true
    | .finalStop => !s.stopsDue.isEmpty

/-- One frame on each of the lanes listed; the lanes on which it went out. -/
def sendAll (type asn : Nat) (body : List Byte) : List Nat → State → List Nat × State
  | [], s => ([], s)
  | l :: ls, s =>
    let (r, s) := sendSite l type asn 0 body s
    let (out, s) := sendAll type asn body ls s
    (if r = .sent then l :: out else out, s)

/-- A copy of a stop has had its slot on the lanes; after the last, members whose OFDM lane carried none are unreachable (R300). -/
def copySent (x : Stop) (sent : List Nat) (s : State) : State :=
  let on := sent.foldl sput x.sentOn
  let s := s.modStop x.no fun x => { x with copies := x.copies + 1, sentOn := on }
  if x.copies + 1 < 4 then s
  else reclass x.no (fun m =>
    match s.conn m.node with
    | some c => if c.memberId = m.memberId ∧ (s.lane c.par.lane).ofdm ∧ !on.contains c.par.lane then m.unreach else m
    | none => m) s

/-- Squads withheld by overflow: each that was not so in the last frame is recorded (R293). -/
def noteOverflow (out : List Nat) (s : State) : State :=
  let old := s.vol.sluice.overSquads
  let s := { s with vol.sluice := { s.vol.sluice with overflow := out.length, overSquads := maskOf out } }
  (out.filter fun q => !old.testBit q).foldl (fun s q => record 0x0804 q [] s) s

/-- The commands of SLUICE.GRANT that waited for a frame complete (R294). -/
def grantsDone (s : State) : State :=
  let l := s.vol.sluice.grantCmds
  l.foldl (fun s e => finish e.1 1 0 e.2 s) { s with vol.sluice := { s.vol.sluice with grantCmds := [] } }

/-- The Sluice frame of superframe `asn` on every enabled OFDM lane. -/
def sluiceFrame (asn : Nat) (s : State) : State :=
  let lanes := s.ofdmLanes
  if !s.sluiceSends ∨ lanes = [] then grantsDone s
  else
    let s := countEvents 0x0201 none 1 (noteOverflow s.permission.2.2 s)
    let hb := heartbeatBody asn s
    match chooseStop s.stopsDue with
    | some x =>
      let (sent, s) := sendAll 8 asn (hb ++ stopBlock x x.copies x.targets) lanes s
      grantsDone (copySent x sent s)
    | none => grantsDone (sendAll 7 asn hb lanes s).2

/-- The Sluice slot of a superframe, slot 0: ATB passes to it, and one that has passed has no effect. Members that the
frame no longer grants are held by their profiles (R347), and a change of role goes one slot further (R430, R435). -/
def execSluiceSlot (asn : Nat) (s : State) : Host.Outcome State Fault Refusal :=
  match s.ctl.time.atb with
  | none => .next s
  | some a => if atbOfAsn asn < a then .next s else .next (afterSlot (settleAll (sluiceFrame asn (passToAtb (atbOfAsn asn) s))))

/-- The targets of a stop whose block alone fits `slots` slots of a Sluice span, no targets for one of scope all (R282,
R244); none where not even one fits. -/
def spanTargets (c : LaneSettings) (mesh : Bool) (slots : Nat) : Nat → List Nat → Option (List Nat)
  | 0, _ => none
  | n + 1, ts =>
    if airFits c slots (airTime c 0 (psduLen 8 mesh (8 + 2 * (min (n + 1) ts.length)))) then some (ts.take (n + 1))
    else spanTargets c mesh slots n ts

/-- A frame of a stop has had its span on a sub-GHz lane: the rest of its targets follows, and members of the lane whom
a frame that was not sent was for are unreachable (R282, R300). -/
def spanSent (x : Stop) (l : Nat) (now rest : List Nat) (sent : Bool) (s : State) : State :=
  let s := s.modStop x.no fun x =>
    { x with
      spans := if rest.isEmpty then tdel x.spans l else tput x.spans l rest
      sentOn := if sent then sput x.sentOn l else x.sentOn }
  if sent then s
  else reclass x.no (fun m =>
    match s.conn m.node with
    | some c => if c.memberId = m.memberId ∧ c.par.lane = l ∧ (now = [] ∨ m.node ∈ now) then m.unreach else m
    | none => m) s

/-- A stop put among stops in the order in which their blocks go out (R291). -/
def insertStop (x : Stop) : List Stop → List Stop
  | [] => [x]
  | y :: ys => if y.before x then y :: insertStop x ys else x :: y :: ys

/-- Slots of a Sluice span that a STOP frame with `n` targets takes (R243, R244). -/
def stopSlots (c : LaneSettings) (mesh : Bool) (n : Nat) : Nat := ceilDiv (airTime c 0 (psduLen 8 mesh (8 + 2 * n)) + 200) 2500

/-- The frame of one stop in a Sluice span, of which the slots below `e.1` are taken; a stop for which no room is left
follows in the next even cycle (log 97). -/
def stopFrame (l asn : Nat) (e : Nat × State) (x : Stop) : Nat × State :=
  let s := e.2
  let ts := tgetD x.spans l []
  match spanTargets (s.lane l) (s.meshLane l) (4 - e.1) 32 ts with
  | none => if e.1 = 0 then (0, spanSent x l ts [] false s) else e
  | some now =>
    let (r, s) := sendBase { lane := l, chan := 0, asn := asn, slot := e.1, type := 8, node := 0xFFFF, ctr := siteCtr asn 0,
                             mesh := meshFor (s.meshLane l) s.cfg.mac.meshTtl, body := stopBlock x 0 now } s
    (if r = .sent then e.1 + stopSlots (s.lane l) (s.meshLane l) now.length else e.1,
      spanSent x l now (ts.drop now.length) (r == .sent) s)

/-- The Sluice span of an even sub-GHz cycle: every new stop has its frame, in the order of R291, as far as the span
holds them. -/
def stopSpan (l asn : Nat) (s : State) : State :=
  let due := (s.stops.filter fun x => (tget x.spans l).isSome).foldr insertStop []
  (due.foldl (stopFrame l asn) (0, s)).2

def execSubghzStopSpan (lane asn : Nat) (s : State) : Host.Outcome State Fault Refusal :=
  match s.ctl.time.atb with
  | none => .next s
  | some a =>
    if atbOfAsn asn < a ∨ asn % 100 ≠ 0 ∨ (s.lane lane).ofdm ∨ !s.sluiceSends then .next s
    else .next (stopSpan lane asn (passToAtb (atbOfAsn asn) s))

/-! ### Loop inputs (R57, R58, R296) -/

/-- Whether the loop receivers are enabled: from the heartbeat start (R296). -/
def State.loopOn (s : State) : Bool := s.raises && s.vol.sluice.state != .off

/-- An input is classified; a discrepancy begins, goes on or ends. -/
def classify (input : Nat) (c : LoopIn) (s : State) : State :=
  let u := s.vol.sluice
  let u := if input = 0 then { u with in0 := c } else { u with in1 := c }
  let d := discrepant u.in0 u.in1
  { s with vol.sluice := { u with discSince := d, discStop := d && u.discStop } }

def State.loopIn (s : State) (input : Nat) : LoopIn := if input = 0 then s.vol.sluice.in0 else s.vol.sluice.in1

/-- An input classified open raises a stop of cause 2 or 3 at once. -/
def execSluInOpen (input : Nat) (s : State) : Host.Outcome State Fault Refusal :=
  if 1 < input ∨ !s.loopOn ∨ s.loopIn input = .opened then .next s
  else .next (raiseStop (2 + input) s.cfg.sluice.loopCat [] .here (classify input .opened s)).2.2

def execSluInClosed (input : Nat) (s : State) : Host.Outcome State Fault Refusal :=
  if 1 < input ∨ !s.loopOn then .next s else .next (classify input .closed s)

def execSluInFault (input : Nat) (s : State) : Host.Outcome State Fault Refusal :=
  if 1 < input ∨ !s.loopOn then .next s else .next (classify input .fault s)

/-- A discrepancy has lasted 10.0 to 10.5 ms: one stop of cause 4 for each discrepancy. -/
def execLoopDiscrepancyTimeout (s : State) : Host.Outcome State Fault Refusal :=
  if !s.loopOn ∨ !s.vol.sluice.discSince ∨ s.vol.sluice.discStop then .next s
  else .next (raiseStop 4 s.cfg.sluice.discCat [] .here
    { s with vol.sluice := { s.vol.sluice with discStop := true } }).2.2

/-! ### Confirmation and takeover (R299, R300, R303) -/

/-- Serial number comparison in 16 bits: `a` later than `b`. -/
def later16 (a b : Nat) : Bool :=
  let d := (a + 65536 - b % 65536) % 65536
  decide (0 < d) && decide (d < 32768)

/-- A STATUS payload (Table Sluice-7). -/
def readStatus (p : List Byte) : MemberStatus :=
  let f := fun o n => beNat (slice p o n)
  { state := f 0 1, cat := f 1 1, stopNo := f 2 2, flags := f 4 1, speed := f 6 2, hbAsn := f 8 4 }

/-- The first STATUS of a member after a takeover (R303): a stop of the former side after its last snapshot is adopted. -/
def adoptStop (node : Nat) (c : Conn) (m : MemberStatus) (s : State) : State :=
  if !s.ctl.sluice.statusDue.contains c.memberId ∨ c.downSync then s
  else
    let u := s.ctl.sluice
    let s := { s with ctl.sluice := { u with statusDue := u.statusDue.filter (· != c.memberId) } }
    if (m.state = 2 ∨ m.state = 3) ∧ m.flags.testBit 1 ∧ later16 m.stopNo u.ckptSeq then
      (raiseStop 9 (if m.cat = 0 then s.cfg.sluice.diagCat else m.cat) [node] .here s).2.2
    else s

/-- A STATUS of a member: stops are confirmed (R300), R303 is checked, and the profile follows (R347). -/
def memberStatus (node : Nat) (payload : List Byte) (s : State) : State :=
  match s.conn node with
  | none => s
  | some c =>
    let m := readStatus payload
    let s := { s with vol.sluice := { s.vol.sluice with status := tput s.vol.sluice.status node m } }
    let s := if (m.state = 2 ∨ m.state = 3) ∧ m.flags.testBit 1 then
        reclassAll (fun x k =>
          if k.memberId = c.memberId ∧ !later16 x.no m.stopNo then { k with cls := .confirmed } else k) s
      else s
    settle node (adoptStop node c m s)

/-- confirm_ms after a stop was queued, members that have not confirmed are unreachable (R300). -/
def execConfirmTimeout (stop : Nat) (s : State) : Host.Outcome State Fault Refusal :=
  .next (reclass stop StopMember.unreach (s.modStop stop fun x => { x with confirmOver := true }))

/-- The report of counts that have changed since the last (R300). -/
def execStopStatusReport (stop : Nat) (s : State) : Host.Outcome State Fault Refusal :=
  match s.stops.find? fun x => x.no == stop with
  | some x => .next (if x.counts = x.reported then s else stopStatus x 1 s)
  | none => .next s

/-! ### Release (R301, R419) -/

/-- The body of SITE_RELEASE: origin and stop number. The layout is a DESIGN CHOICE (log 15). -/
def siteReleaseBody (origin no : Nat) : List Byte := beBytes 1 origin ++ beBytes 2 no

/-- Whether SLUICE.RELEASE may release a stop now. -/
def State.releasable (s : State) (x : Stop) : Bool :=
  s.loopClosed && (x.cause != 4 || !discrepant s.vol.sluice.in0 s.vol.sluice.in1) &&
    (x.cause != 7 || match x.site with
      | some r => r.released
      | none => true)

/-- A stop ends: reported, recorded, and, for one that this controller sent to the site, released there (R419). -/
def releaseStop (x : Stop) (s : State) : State :=
  let s := stopStatus x 3 s
  let s := { s with ctl.sluice := { s.ctl.sluice with stops := s.stops.filter fun y => y.no != x.no } }
  let s := record 0x0803 x.no (leBytes 1 x.cause) s
  match x.site with
  | some r =>
    if some r.origin = s.cfg.fed.controller ∧ r.number = x.no then
      fedRequestAll s.livePeers 18 (siteReleaseBody r.origin r.number) s
    else s
  | none => s

def runSluiceRelease (c : HostCmd) (s : State) : CmdResult :=
  let ps := c.packet.params
  let op := fld ps 0 1
  let no := fld ps 2 2
  let xs := if op = 1 then s.stops else s.stops.filter fun x => x.no == no
  if op = 1 ∧ no ≠ 0 then .refuse erRange 2
  else if !s.loopClosed then .refuse erState 0x200
  else
    match xs.find? fun x => !s.releasable x with
    | some x => .refuse erState (0x10000 + x.no)
    | none =>
      if op = 0 ∧ xs = [] then .refuse erState 0
      else
        let s := xs.foldl (fun s x => releaseStop x s) s
        .accepted s (leBytes 2 s.stops.length)

/-! ### Settings, grants and stops -/

def runSluiceConfig (c : HostCmd) (s : State) : CmdResult :=
  let ps := c.packet.params
  .accepted { s with ctl.cfg.sluice :=
    { lapseMs := fld ps 0 1, envAction := fld ps 1 1, envCat := fld ps 2 1, loopCat := fld ps 3 1, discCat := fld ps 4 1,
      diagCat := fld ps 5 1, confirmMs := fld ps 6 2 } } []

/-- State of the Sluice logic as SLUICE.STATUS codes it (Table Sluice-6). -/
def sluiceCode : SluiceState → Nat
  | .off => 0
  | .running => 1
  | .withdrawn => 2
  | .finalStop => 3

/-- The refusals of SLUICE.GRANT ops 0 and 3, in order. -/
def grantError (op : Nat) (nodes : List Nat) (s : State) : Option (Nat × Nat) :=
  if op ≠ 0 ∧ op ≠ 3 then none
  else if s.vol.sluice.state ≠ .running then some (erState, sluiceCode s.vol.sluice.state)
  else if s.ctl.mode = .idle then some (erState, 0x100)
  else if !s.loopClosed then some (erState, 0x200)
  else
    match s.stops.find? Stop.all with
    | some x => some (erState, 0x10000 + x.no)
    | none => if op = 3 then (nodes.find? fun n => s.covered n).map fun n => (erConflict, n) else none

/-- The grant map and the withheld set after SLUICE.GRANT. Op 3 ends the withholding by a swap only once the allotment of the member has
been replaced (`bound`: it has not, R331). -/
def applyGrant (op squads : Nat) (nodes : List Nat) (bound : Nat → Bool) (u : SluiceCtl) : SluiceCtl :=
  if op = 0 then { u with grantMap := u.grantMap ||| squads }
  else if op = 1 then { u with grantMap := u.grantMap - (u.grantMap &&& squads) }
  else if op = 2 then
    { u with withheld := nodes.foldl (fun w n => tput w n (tgetD w n 0 ||| 1)) u.withheld }
  else
    { u with withheld := nodes.foldl (fun w n =>
        if bound n && (tgetD w n 0).testBit 2 then tput w n 4 else tdel w n) u.withheld }

def runSluiceGrant (c : HostCmd) (s : State) : CmdResult :=
  let ps := c.packet.params
  let op := fld ps 0 1
  let n := fld ps 1 1
  let squads := fld ps 4 32
  let nodes := (List.range n).map fun k => fld ps (36 + 2 * k) 2
  if op ≤ 1 ∧ n ≠ 0 then .refuse erRange 1
  else if 2 ≤ op ∧ squads ≠ 0 then .refuse erRange 4
  else
    match grantError op nodes s with
    | some (st, d) => .refuse st d
    | none =>
      let t := { s with ctl.sluice := applyGrant op squads nodes s.holdsInvalid s.ctl.sluice }
      let reply := leBytes 2 t.grantedNodes.length
      if t.ctl = s.ctl then .ok s reply
      else if t.sluiceSends && t.vol.sluice.state == .running && !t.ofdmLanes.isEmpty then
        .deferred { t with vol.sluice := { t.vol.sluice with grantCmds := t.vol.sluice.grantCmds ++ [(c, reply)] } }
      else .accepted t reply

def runSluiceStop (c : HostCmd) (s : State) : CmdResult :=
  let ps := c.packet.params
  let nodes := (List.range (fld ps 1 1)).map fun k => fld ps (4 + 2 * k) 2
  let (no, new, s) := raiseStop 5 (fld ps 0 1) nodes .here s
  if new then .accepted s (leBytes 2 no) else .ok s (leBytes 2 no)

def loopCode : LoopIn → Nat
  | .unclassified => 0
  | .closed => 1
  | .opened => 2
  | .fault => 3

/-- One stop as SLUICE.STATUS lists it. -/
def stopBytes (s : State) (x : Stop) : List Byte :=
  let (c, p, u) := x.counts
  leBytes 2 x.no ++ leBytes 1 x.category ++ leBytes 1 x.cause ++ leBytes 1 x.targets.length ++ leBytes 1 x.copies ++
    zeros 2 ++ leBytes 2 c ++ leBytes 2 p ++ leBytes 2 u ++ leBytes 1 (b2n (s.releasable x)) ++ zeros 1

def runSluiceStatus (_ : HostCmd) (s : State) : CmdResult :=
  let u := s.ctl.sluice
  let v := s.vol.sluice
  .ok s (leBytes 1 (loopCode v.in0) ++ leBytes 1 (loopCode v.in1) ++ leBytes 1 (sluiceCode v.state) ++
    leBytes 1 s.allCat ++ leBytes 2 u.stopSeq ++ leBytes 1 u.stops.length ++ leBytes 1 v.overflow ++
    leBytes 2 s.grantedNodes.length ++ leBytes 2 s.withheldNodes.length ++ leBytes 1 s.cfg.sluice.lapseMs ++ zeros 3 ++
    leBytes 32 u.grantMap ++ u.stops.flatMap (stopBytes s))

def execSluiceConfig (p : Packet) (s : State) : Host.Outcome State Fault Refusal :=
  .next (serve 0x0801 runSluiceConfig p s)
def execSluiceGrant (p : Packet) (s : State) : Host.Outcome State Fault Refusal :=
  .next (serve 0x0802 runSluiceGrant p s)
def execSluiceStop (p : Packet) (s : State) : Host.Outcome State Fault Refusal := .next (serve 0x0803 runSluiceStop p s)
def execSluiceRelease (p : Packet) (s : State) : Host.Outcome State Fault Refusal :=
  .next (serve 0x0804 runSluiceRelease p s)
def execSluiceStatus (p : Packet) (s : State) : Host.Outcome State Fault Refusal :=
  .next (serve 0x0805 runSluiceStatus p s)

end Sys2Proof.Machine
end

