-- ==== Sys2Proof/Machine/Gnss.lean ====
section
/-! DEFINITION.
Reedbed: channels, loops, observables, monitors, notches, mapping and its opcodes (chapter 05).
-/

namespace Sys2Proof.Machine

def State.modGnss (s : State) (f : GnssRun → GnssRun) : State := { s with vol.gnss := f s.vol.gnss }

def State.chan (s : State) (k : Nat) : Option Channel := tget s.vol.gnss.channels k

def State.modChan (s : State) (k : Nat) (f : Channel → Channel) : State :=
  s.modGnss fun g => { g with channels := tmod g.channels k f }

/-- Whether the host has pinned a channel. -/
def State.pinnedChan (s : State) (k : Nat) : Bool := (tget s.cfg.gnss.pinned k).isSome

/-- Whether a channel is in the mapping run. -/
def State.mappingChan (s : State) (k : Nat) : Bool :=
  match s.vol.gnss.map with
  | some m => (tget m.channels k).isSome
  | none => false

/-! ### Settings of a channel (R126 to R131) -/

/-- The longest coherent time of a satellite's signal: 2 ms on BeiDou GEO satellites (their numbers are PRESUMED, log 38). -/
def maxCoh (sig sv : Nat) : Nat :=
  if (sig = 12 ∨ sig = 15) ∧ (sv ≤ 5 ∨ 59 ≤ sv) then 2 else (signalOf sig).maxMs

/-- Coherent times allowed (R128), rising. -/
def cohAllowed (sig sv : Nat) : List Nat :=
  [1, 2, 4, 5, 10, 20, 40, 50, 100, 200].filter fun t =>
    t % (signalOf sig).codeMs == 0 && decide (t ≤ maxCoh sig sv)

/-- The largest bandwidths that R131 allows at T ms: PLL by order and FLL in 0.1 Hz, DLL in 0.01 Hz. -/
def pllLimit (order t : Nat) : Nat := (if order = 2 then 2500 else 1800) / max 1 t
def fllLimit (t : Nat) : Nat := 2500 / max 1 t
def dllLimit (t : Nat) : Nat := 25000 / max 1 t

/-- The settings of an automatic channel (R126, GNSS.CONFIG). -/
def GnssSettings.autoSet (g : GnssSettings) (sig sv : Nat) (fcn : Int) : ChanSettings :=
  let x := signalOf sig
  let ts := cohAllowed sig sv
  let t := (ts.find? fun t => decide (10 ≤ t)).getD (ts.getLastD x.codeMs)
  let d := max 13 x.least
  { sig := sig, sv := sv, fcn := fcn, dEl := d, dV := min (2 * d) 128, coh := t, pllOrder := g.pllOrder,
    pllDisc := if x.pilot then 0 else 1, fllDisc := if x.pilot then 0 else 1, dllDisc := 0, fllMode := g.fllMode,
    pllBw := min g.pllBw (pllLimit g.pllOrder t), fllBw := min g.fllBw (fllLimit t), dllBw := min g.dllBw (dllLimit t) }

/-- A channel that takes a signal: it is acquiring. -/
def Channel.acquire (c : ChanSettings) : Channel :=
  { state := .acquiring, set := c, pending := none, tNow := (signalOf c.sig).codeMs, phase := 0, moveTo := none, sync := false,
    a := 0, b := 0, fCarrier := 0, fCode := (signalOf c.sig).chips, codePhase := 0, carPhase := 0, codeShift := 0, phaseShift := 0, prev := none, pliHist := [], pli := 0, pliHighMs := 0, disagreeMs := 0,
    powHist := [], cn0 := 0, lockMs := 0, slipCount := 0, sideCount := 0, fll := true, hcUnres := false, hcAdj := false,
    slipSince := false, notchSince := false, wasLocked := false, resume := none, check := false }

/-- T after an integration (R128, R133): one primary code period while T needs a synchronisation that the channel does not hold, else T from
the first boundary of it on. -/
def Channel.nextT (c : Channel) : Nat :=
  let one := (signalOf c.set.sig).codeMs
  if decide (one < c.set.coh) && !c.sync then one else if c.phase % max 1 c.set.coh = 0 then c.set.coh else c.tNow

/-- The ms since a boundary of every T, after an integration. Where a boundary lies is measured when the synchronisation is found: a free
value (log 39). -/
def Channel.nextPhase (c : Channel) (k : Nat) (sync : Bool) : Nat :=
  if sync && !c.sync then Config.sense 0x6003 k * (signalOf c.set.sig).codeMs % 200 else (c.phase + c.tNow) % 200

def Channel.tracks (c : Channel) : Bool := c.state == .codeLock || c.state == .pullIn || c.state == .phaseLock

/-! ### Discriminators and loops (R129, R130) -/

/-- A quotient that the manual does not state for a zero divisor: a free value then (log 39). -/
def divFree (k : Nat) (a b : Rat) : Rat := if b = 0 then mkRat (senseAt k) 1000000 else a / b
where
  senseAt (k : Nat) : Int := signed 32 (Config.sense 0x6000 k % 2 ^ 32)

/-- The magnitude of a complex correlation. -/
def mag (x : Int × Int) : Rat := rootQ (x.1 * x.1 + x.2 * x.2 : Int)

def signOf (x : Int) : Rat := if x < 0 then -1 else if x = 0 then 0 else 1

/-- Output of the PLL discriminator, in cycles. -/
def pllOut (disc k : Nat) (p : Int × Int) : Rat :=
  let i : Rat := p.1
  let q : Rat := p.2
  if disc = 0 then atan2Turns q i
  else if disc = 1 then atan2Turns (if p.1 < 0 then -q else q) |i|
  else if disc = 2 then divFree k (q * signOf p.1) (2 * halfTurn * mag p)
  else divFree k (q * i) (2 * halfTurn * (mag p * mag p))

/-- Output of the FLL discriminator, in Hz, for T in seconds. -/
def fllOut (disc k : Nat) (t : Rat) (p1 p2 : Int × Int) : Rat :=
  let c : Int := p1.1 * p2.2 - p2.1 * p1.2
  let g : Int := p1.1 * p2.1 + p1.2 * p2.2
  if disc = 0 then atan2Turns c g / t
  else divFree k (c * signOf g) (2 * halfTurn * t * (mag p2 * mag p2))

/-- Output of the DLL discriminator, in chips: taps prompt, early, late, very early, very late. -/
def dllOut (disc dEl k : Nat) (p e l ve vl : Int × Int) : Rat :=
  if disc = 0 then (1 - mkRat dEl 256) * divFree k (mag e - mag l) (mag e + mag l)
  else if disc = 1 then divFree k ((e.1 - l.1) * p.1 : Int) (2 * (p.1 * p.1) : Int)
  else divFree k (mag e - mag l - (mag ve - mag vl) / 2) (mag p)

/-- The loops of one integration of T seconds (R130): a, b and the carrier Doppler. -/
def carrierLoop (c : ChanSettings) (a b t ep ef : Rat) : Rat × Rat × Rat :=
  let bp := mkRat c.pllBw 10
  let bf := mkRat c.fllBw 10
  if c.pllOrder = 2 then
    let wp := bp / mkRat 53 100
    let a := a + t * (wp * wp * ep + bf / mkRat 25 100 * ef)
    (a, b, a + mkRat 1414 1000 * wp * ep)
  else
    let wp := bp / mkRat 7845 10000
    let wf := bf / mkRat 53 100
    let b := b + t * (wp * wp * wp * ep + wf * wf * ef)
    let a := a + t * (b + mkRat 11 10 * wp * wp * ep + mkRat 1414 1000 * wf * ef)
    (a, b, a + mkRat 24 10 * wp * ep)

/-- The code rate in chips/s. -/
def codeRate (c : ChanSettings) (f ed : Rat) : Rat :=
  let chips : Rat := (signalOf c.sig).chips
  chips * (1 + f / carrier c.sig c.fcn) + 4 * mkRat c.dllBw 100 * ed

/-- A slip under R132. -/
def Channel.slip (c : Channel) : Channel :=
  { c with slipCount := (c.slipCount + 1) % 256, lockMs := 0, state := .pullIn, fll := true, slipSince := true,
           hcAdj := false, pliHighMs := 0, disagreeMs := 0, resume := none, check := false }

/-- Phase lock is entered (R132, R137). -/
def Channel.enterLock (c : Channel) : Channel :=
  { c with state := .phaseLock, lockMs := 0, hcAdj := false, fll := c.set.fllMode == 1, hcUnres := c.set.pllDisc != 0 }

/-- The side-peak watch of R129 on the four signals that have one. -/
def Channel.sidePeak (c : Channel) (p ve vl : Int × Int) : Channel :=
  if !(([2, 8, 13, 17] : List Nat).contains c.set.sig) then c
  else if mag p < mag ve ∨ mag p < mag vl then
    if 9 ≤ c.sideCount then
      { c with
        sideCount := 0, lockMs := 0, slipSince := true, slipCount := (c.slipCount + 1) % 256, hcAdj := false
        codeShift := c.codeShift + (if mag vl < mag ve then -(1 / 2) else 1 / 2) }
    else { c with sideCount := c.sideCount + 1 }
  else { c with sideCount := 0 }

/-- C/N0 in 0.01 dB-Hz over the last second (R127). -/
def cn0Of (k : Nat) (t : Rat) (h : List (Rat × Rat)) : Nat :=
  let n : Rat := max 1 h.length
  let p := (h.map (·.1)).sum / n
  let q := (h.map (·.2)).sum / n
  if p ≤ q then 0
  else if q = 0 then Config.sense 0x6001 k % 65536
  else (log10Milli ((p - q) / (q * t))).toNat % 65536

/-- Re-entry after a Fen sleep (R144): within 50 ms of the burst start the averaged indicator of R132 reaches 0.8 again, and the first phase
error after it is at most 0.1 cycle; a channel that fails either marks a slip. The level is DEDUCED (log 151). -/
def Channel.reenter (c : Channel) (tMs : Nat) (ep : Rat) : Channel :=
  match c.resume with
  | some n =>
    if 50 < n + tMs then c.slip
    else if 4 / 5 ≤ c.pli then { c with state := .phaseLock, fll := c.set.fllMode == 1, resume := none, check := true }
    else { c with resume := some (n + tMs) }
  | none => if c.check then (if 1 / 10 < |ep| then c.slip else { c with check := false }) else c

/-- What an integration makes of a channel that has no phase lock: the FLL takes over from the code lock once it has two integrations, and
the indicator's 100 ms at 0.8 give phase lock. That the FLL's first output ends the state of code lock is DEDUCED (log 183). -/
def Channel.advance (c : Channel) (fllRan : Bool) : Channel :=
  if 100 ≤ c.pliHighMs then c.enterLock else if c.state = .codeLock ∧ fllRan then { c with state := .pullIn } else c

/-- T for the next integration. C/N0 averages powers of integrations of one length only (R127), so the powers start again with a new T. -/
def Channel.newT (c : Channel) : Channel :=
  { c with tNow := c.nextT, powHist := if c.nextT = c.tNow then c.powHist else [] }

/-- One integration of a channel: taps prompt, early, late, very early, very late, noise. Carrier and code Doppler disagree over 100 ms when
they are apart in every integration of 100 ms on end, not in the mean of 100 ms: DEDUCED (log 184). -/
def Channel.integrate (c : Channel) (k : Nat) (taps : List (Int × Int)) (sync : Bool) (preamble : Nat) : Channel :=
  let tap := fun n => taps.getD n ((0, 0) : Int × Int)
  let tMs := c.tNow
  let t : Rat := mkRat tMs 1000
  let p := tap 0
  let ep := pllOut c.set.pllDisc k p
  let ef := match c.prev with
    | some q => if c.fll then fllOut c.set.fllDisc k t q p else 0
    | none => 0
  let fllRan := c.prev.isSome
  let (a, b, f) := carrierLoop c.set c.a c.b t ep ef
  let disc := if c.set.dllDisc = 1 ∧ c.state ≠ .phaseLock then 0 else c.set.dllDisc
  let ed := dllOut disc c.set.dEl k p (tap 1) (tap 2) (tap 3) (tap 4)
  let fc := codeRate c.set f ed
  let x := divFree k (p.1 * p.1 - p.2 * p.2 : Int) (p.1 * p.1 + p.2 * p.2 : Int)
  let hist := (x :: c.pliHist).take (max 1 (ceilDiv 20 tMs))
  let pli := hist.sum / hist.length
  let pow := ((mag p * mag p, mag (tap 5) * mag (tap 5)) :: c.powHist).take (1000 / max 1 tMs)
  let sg := signalOf c.set.sig
  let codeDop := (fc - sg.chips) * carrier c.set.sig c.set.fcn / sg.chips
  let apart := decide (2 < |f - codeDop|)
  let c : Channel := { c with
    a := a, b := b, fCarrier := f, fCode := fc, prev := some p, pliHist := hist, pli := pli, powHist := pow,
    cn0 := cn0Of k t pow, pliHighMs := if 4 / 5 ≤ pli then c.pliHighMs + tMs else 0,
    disagreeMs := if apart then c.disagreeMs + tMs else 0, phase := c.nextPhase k sync, sync := sync,
    codePhase := c.codePhase + fc * t, carPhase := c.carPhase + f * t,
    lockMs := if c.state = .phaseLock then sat 32 (c.lockMs + tMs) else if c.resume.isSome then c.lockMs else 0 }
  let c := (c.sidePeak p (tap 3) (tap 4)).reenter tMs ep
  let c := if c.resume.isSome then c
    else if c.state = .phaseLock then (if pli < 2 / 5 ∨ 100 ≤ c.disagreeMs then c.slip else c)
    else c.advance fllRan
  let c := if c.state = .phaseLock ∧ c.hcUnres then
      if preamble = 1 then { c with hcUnres := false }
      else if preamble = 2 then { c with hcUnres := false, hcAdj := true, phaseShift := c.phaseShift + 1 / 2 } else c
    else c
  let c := match c.pending with
    | some n => { c with set := n, pending := none }
    | none => c
  c.newT

/-- The tracking state of a channel moves to the channel that has been pinned to its signal, which takes the pinned settings; what that channel
was tracking automatically takes the place that is now free, so that the two change places (R125; DESIGN CHOICE, log 185). -/
def finishMove (j : Nat) (s : State) : State :=
  match s.chan j with
  | none => s
  | some x =>
    match x.moveTo with
    | none => s
    | some k =>
      let aside := s.chan k
      let x := { x with moveTo := none, set := (tget s.cfg.gnss.pinned k).getD x.set, pending := none }
      s.modGnss fun g =>
        let cs := tput (tdel g.channels j) k x
        { g with channels := match aside with
          | some y => tput cs j y
          | none => cs }

/-- The end of an integration; in Fen mode there is none outside a burst (R143). -/
def execChannelIntegration (channel : Nat) (taps : List (Int × Int)) (sync : Bool) (preamble : Nat) (s : State) :
    Host.Outcome State Fault Refusal :=
  match s.chan channel with
  | none => .next s
  | some c =>
    if !c.tracks || s.hsw.warned then .next s
    else
      let (k, s) := s.draw
      .next (countEvents 0x0501 none 1 (finishMove channel (s.modChan channel fun c => c.integrate k taps sync preamble)))

/-! ### Acquisition (R134) -/

/-- Elevation of a channel's satellite in 0.1°, below every other for one that is not in the sky. -/
def State.elevOf (s : State) (c : ChanSettings) : Int :=
  ((s.vol.gnss.sky.find? fun x => x.sv == c.sv && x.const == (signalOf c.sig).const).map (·.elev)).getD (-901)

/-- The signal of the same satellite in phase lock that narrows a search. -/
def State.lockedMate (s : State) (c : ChanSettings) : Option Channel :=
  (s.vol.gnss.channels.find? fun e =>
    e.2.state == .phaseLock && e.2.set.sv == c.sv && (signalOf e.2.set.sig).const == (signalOf c.sig).const).map (·.2)

/-- Dwells that a signal's search takes: one for each 2 ms of primary code, or one narrowed. -/
def State.dwells (s : State) (c : ChanSettings) : Nat :=
  if (s.lockedMate c).isSome then 1 else max 1 (ceilDiv (signalOf c.sig).codeMs 2)

/-- The batch that the engine searches: 64 signals in order of elevation, each once before any is searched again (log 151). -/
def State.acqBatch (s : State) : List (Nat × Channel) :=
  let all := (s.vol.gnss.channels.filter fun e => e.2.state == .acquiring).mergeSort
    fun a b => decide (s.elevOf b.2.set ≤ s.elevOf a.2.set)
  let left := all.filter fun e => !s.vol.gnss.searched.contains e.1
  (if left.isEmpty then all else left).take 64

/-- Chips of `ms` of a signal's primary code. -/
def chipsIn (sig ms : Nat) : Rat := mkRat ((signalOf sig).chips * ms) 1000

/-- How far a code phase lies from the one that a mate of the same satellite predicts, in chips of this signal: both codes start together in
the signal of the satellite, so that the mate's phase gives this one's up to whole periods that the two codes share. DEDUCED (log 186). -/
def codeOff (c : ChanSettings) (code : Rat) (m : Channel) : Rat :=
  let period := chipsIn c.sig (Nat.gcd (signalOf c.sig).codeMs (signalOf m.set.sig).codeMs)
  let d := code - m.codePhase * (signalOf c.sig).chips / (signalOf m.set.sig).chips
  let r := d - period * (d / period).floor
  min r (period - r)

/-- Whether a detection lies within what was searched: a code phase of the primary code, with a Doppler within 10 kHz, or within 2 chips and
200 Hz of what a mate predicts, whose carrier Doppler is scaled to this carrier (R134). -/
def State.withinSearch (s : State) (c : ChanSettings) (code : Rat) (mhz : Int) : Bool :=
  decide (0 ≤ code) && decide (code < chipsIn c.sig (signalOf c.sig).codeMs) &&
    match s.lockedMate c with
    | some m =>
      let f := m.fCarrier * carrier c.sig c.fcn / carrier m.set.sig m.set.fcn
      decide (codeOff c code m ≤ 2) && decide (|mkRat mhz 1000 - f| ≤ 200)
    | none => decide (mhz.natAbs ≤ 10000000)

/-- A batch of dwells completes: detections hand code phase (chips) and Doppler (mHz) to their channels, which lock to the code and pull in
with FLL assistance (log 183). In Fen mode the engine runs only within bursts (R143). -/
def execAcquisitionDwellDone (found : List (Nat × Rat × Int)) (s : State) : Host.Outcome State Fault Refusal :=
  let batch := s.acqBatch
  if batch.isEmpty || s.hsw.warned || (s.vol.gnss.fen && !s.vol.gnss.burst) then .next s
  else
    let hits := found.filter fun e => batch.any fun b => b.1 == e.1 && s.withinSearch b.2.set e.2.1 e.2.2
    let old := if batch.all fun b => s.vol.gnss.searched.contains b.1 then [] else s.vol.gnss.searched
    let s := countEvents 0x0502 none (batch.map fun b => s.dwells b.2.set).sum s
    let s := s.modGnss fun g => { g with searched := old ++ batch.map (·.1) }
    .next (hits.foldl (fun s e => s.modChan e.1 fun c =>
      if c.state = .acquiring then
        { c with state := .codeLock, codePhase := e.2.1, a := mkRat e.2.2 1000, fCarrier := mkRat e.2.2 1000, fll := true }
      else c) s)

/-! ### Assignment (R124, R125) -/

/-- Channels that Reedbed may use by itself. -/
def State.autoChannels (s : State) : List Nat := (List.range 384).filter fun k => !s.pinnedChan k

/-- Whether a channel, pinned or not, holds a satellite's signal. -/
def State.holder (s : State) (sig sv : Nat) : Option Nat :=
  (s.vol.gnss.channels.find? fun e => e.2.set.sig == sig && e.2.set.sv == sv).map (·.1)

/-- A channel is released; a mapping run loses it. -/
def releaseChan (k : Nat) (s : State) : State := s.modGnss fun g => { g with channels := tdel g.channels k }

/-- The signals wanted, in the order of service: satellites above the mask, and those tracked down to 1° below it. -/
def State.wanted (s : State) (sky : List SkySat) : List (Nat × Nat × Int) :=
  let g := s.cfg.gnss
  (sky.mergeSort fun a b => decide (b.elev ≤ a.elev)).flatMap fun x =>
    ((List.range 20).map (· + 1)).filterMap fun sig =>
      if (signalOf sig).const = x.const ∧ g.signalMask.testBit sig ∧
          ((10 * g.elevMask : Int) < x.elev ∨ ((10 * g.elevMask : Int) ≤ x.elev + 10 ∧ (s.holder sig x.sv).isSome)) then
        some (sig, x.sv, x.fcn)
      else none

/-- A channel takes a signal. Reedbed stays off after a brown-out warning (R44). -/
def startChan (k : Nat) (c : ChanSettings) (s : State) : State :=
  if s.hsw.warned then s else s.modGnss fun g => { g with channels := tput g.channels k (Channel.acquire c) }

/-- A pinned channel that tracks nothing acquires its signal, unless an automatic channel is about to hand that over. -/
def acquirePinned (s : State) : State :=
  s.cfg.gnss.pinned.foldl (fun s e =>
    if (s.chan e.1).isNone && (s.holder e.2.sig e.2.sv).isNone then
      startChan e.1 e.2 s
    else s) s

/-- Automatic channels follow the sky: what is not wanted is released, and what is wanted takes a free channel, the lowest-numbered one;
satellites of equal elevation are served in the order of the sky list. Neither order is in R124: DESIGN CHOICE (log 185). -/
def assign (sky : List SkySat) (s : State) : State :=
  let autos := s.autoChannels
  let pinned := fun (x : Nat × Nat × Int) => s.cfg.gnss.pinned.any fun e => e.2.sig == x.1 && e.2.sv == x.2.1
  let want := if s.cfg.gnss.assign = 1 then [] else (((s.wanted sky).filter fun x => !pinned x).take autos.length)
  let s := acquirePinned s
  let s := (s.vol.gnss.channels.filter fun e => !s.pinnedChan e.1 && e.2.moveTo.isNone).foldl (fun s e =>
    if want.any fun w => w.1 == e.2.set.sig && w.2.1 == e.2.set.sv then s else releaseChan e.1 s) s
  want.foldl (fun s w =>
    if (s.holder w.1 w.2.1).isSome then s
    else match autos.find? fun k => (s.chan k).isNone with
      | some k => startChan k (s.cfg.gnss.autoSet w.1 w.2.1 w.2.2) s
      | none => s) s

/-- The automatic signal of a channel that is being pinned moves to a free automatic channel, or the signal of lowest
elevation is dropped with a record. The lowest-numbered free channel takes it, and with none free the place of the dropped signal does:
DESIGN CHOICE (log 185). -/
def moveAside (k : Nat) (s : State) : State :=
  match s.chan k with
  | none => s
  | some c =>
    let free := s.autoChannels.find? fun j => j != k && (s.chan j).isNone
    match free with
    | some j => s.modGnss fun g => { g with channels := tput (tdel g.channels k) j c }
    | none =>
      let elev := fun e : Nat × Channel => s.elevOf e.2.set
      let autos := s.vol.gnss.channels.filter fun e => !s.pinnedChan e.1
      let low := ((autos.mergeSort fun a b => decide (elev a ≤ elev b)).headD (k, c)).1
      let s := recordOther 2 0 (releaseChan low s)
      if low = k then s else s.modGnss fun g => { g with channels := tput (tdel g.channels k) low c }

/-! ### Observables (R135 to R137) -/

/-- The interference flag of a front end. -/
def State.interf (s : State) (fe : Nat) : Bool := (s.vol.gnss.monitors.getD fe Monitor.start).flag

/-- What a tracking channel measured, as the epoch states it; without it the pseudorange is not known, and the values are free (log 39). -/
def measured (l : List ObsMeas) (k n : Nat) : ObsMeas :=
  (l.find? fun o => o.channel == n).getD
    { channel := n, prValid := false, pr := Config.sense (0x10000 + 2 * n) k % 2 ^ 64
      phase := signed 64 (Config.sense (0x10001 + 2 * n) k % 2 ^ 64) }

/-- The observation record of a channel (Table GNSS-4). Its Doppler is that of its carrier loop. The pseudorange is valid in code lock, which
holds in every tracking state, once the time of transmission is known (R136; log 183). -/
def State.obsRec (s : State) (m : ObsMeas) (c : Channel) : ObsRec :=
  let ph := c.state == .phaseLock
  { sig := c.set.sig, sv := c.set.sv, channel := m.channel,
    flags := b2n (c.tracks && m.prValid) + 2 * b2n ph + 4 * b2n (ph && c.hcUnres) + 8 * b2n c.hcAdj + 16 * b2n c.slipSince +
      32 * b2n c.notchSince + 64 * b2n s.vol.gnss.fen + 128 * b2n (s.interf (signalOf c.set.sig).fe),
    slips := c.slipCount, fcn := if c.set.sig = 5 ∨ c.set.sig = 6 then c.set.fcn else 0, pr := m.pr,
    phase := m.phase + (c.phaseShift * 65536).floor, doppler := roundRat (c.fCarrier * 1000), cn0 := c.cn0,
    pli := roundRat (c.pli * 10000), lockMs := c.lockMs }

def ObsRec.bytes (r : ObsRec) : List Byte :=
  leBytes 1 r.sig ++ leBytes 1 r.sv ++ leBytes 2 r.channel ++ leBytes 1 r.flags ++ leBytes 1 r.slips ++ leInt 1 r.fcn ++
    zeros 1 ++ leBytes 8 r.pr ++ leInt 8 r.phase ++ leInt 4 r.doppler ++ leBytes 2 r.cn0 ++ leInt 2 r.pli ++
    leBytes 4 r.lockMs ++ zeros 4

/-- Lists of at most `n` elements, in order; one empty list for none. -/
def pieces {α : Type} (n : Nat) (l : List α) : List (List α) :=
  if l.isEmpty then [[]] else (List.range (ceilDiv l.length (max 1 n))).map fun k => (l.drop (k * n)).take n

/-- GNSS.OBS: one epoch in messages of at most 100 records. -/
def sendObs (ms : Nat) (clkRes : Int) (recs : List ObsRec) (s : State) : State :=
  let ps := pieces 100 recs
  (ps.zipIdx).foldl (fun s e =>
    sendMsg 0x0280 (timeBytes (some (ms * 65536000000)) ++ leInt 4 clkRes ++ leBytes 1 e.2 ++
      leBytes 1 (b2n (e.2 + 1 == ps.length)) ++ leBytes 2 e.1.length ++ zeros 4 ++ e.1.flatMap ObsRec.bytes) s) s

/-- The epoch rate in force (R143): a new one is in force from the next epoch on (R135). -/
def State.epochRate (s : State) : Nat := s.vol.gnss.rate

/-- Settings of GNSS.CONFIG take effect: the rate, and the loop defaults of automatic channels (R135). -/
def applyGnssConfig (s : State) : State :=
  s.modGnss fun g =>
    { g with
      rate := if g.fen then 1 else s.cfg.gnss.epochRate, cfgDue := false
      channels := if !g.cfgDue then g.channels else g.channels.map fun e =>
        (e.1, if s.pinnedChan e.1 then e.2
          else { e.2 with pending := some (s.cfg.gnss.autoSet e.2.set.sig e.2.set.sv e.2.set.fcn) }) }

/-- The observables of the epoch at STB ms `ms`: a record of every tracked signal, GNSS.OBS, and what follows from the sky (R124, R135,
R136). -/
def observe (ms : Nat) (m : EpochMeas) (s : State) : State :=
  let (k, s) := s.draw
  let s := (applyGnssConfig s).modGnss fun g => { g with sky := m.sky }
  let recs := (s.vol.gnss.channels.filter fun e => e.2.tracks).map fun e => s.obsRec (measured m.obs k e.1) e.2
  let s := s.modGnss fun g =>
    { g with
      epochs := ⟨ms, recs, s.cfg.corr.iods, s.mtb⟩ :: g.epochs.filter fun e => decide (ms < e.ms + 2000)
      epochCount := g.epochCount + 1
      channels := g.channels.map fun e => (e.1, { e.2 with slipSince := false, notchSince := false }) }
  let d := s.cfg.gnss.obsDecim
  let s := if d ≠ 0 ∧ s.vol.gnss.epochCount % d = 0 then sendObs ms m.clkRes recs s else s
  let s := match m.code with
    | some p => { s with ctl.hot := { s.ctl.hot with position := some p } }
    | none => s
  let s := if m.eph = [] then s else
    { s with ctl.hot := { s.ctl.hot with
      ephemerides := m.eph.foldl (fun l e => l.filter (fun x => !(x.1 == e.1 && x.2.1 == e.2.1)) ++ [e]) s.ctl.hot.ephemerides } }
  assign m.sky s

/-- What the almanac and the ephemerides show to be in the sky at a start; the elevations are free values (log 39). -/
def hotSky (s : State) : List SkySat × State :=
  let (k, s) := s.draw
  let h := s.ctl.hot
  let eph := h.ephemerides.map fun e =>
    (if e.1 = 1019 then 0 else if e.1 = 1020 then 1 else if e.1 = 1045 ∨ e.1 = 1046 then 2 else if e.1 = 1042 then 3 else 4, e.2.1)
  ((eph ++ h.almanac).eraseDups.map fun x =>
    { const := x.1, sv := x.2, fcn := (Config.sense (0x20000 + 64 * x.1 + x.2) k % 14 : Nat) - (7 : Int)
      elev := (Config.sense (0x21000 + 64 * x.1 + x.2) k % 1801 : Nat) - (900 : Int) }, s)

/-- Tracking starts again from the hot-start data (R145): pinned channels and the signals in view are acquired. -/
def startTracking (s : State) : State :=
  let (sky, s) := hotSky s
  assign sky (s.modGnss fun g => { g with sky := sky })

/-! ### Monitors and notches (R139 to R141) -/

def State.monitor (s : State) (fe : Nat) : Monitor := s.vol.gnss.monitors.getD fe Monitor.start

def State.modMonitor (s : State) (fe : Nat) (f : Monitor → Monitor) : State :=
  s.modGnss fun g => { g with monitors := g.monitors.modify fe f }

def State.monSet (s : State) (fe : Nat) : MonitorSettings := s.cfg.gnss.monitors.getD fe MonitorSettings.factory

/-- The monitor reading of GNSS.MONITOR. -/
def State.monitorBytes (s : State) (fe : Nat) : List Byte :=
  let m := s.monitor fe
  let c := s.monSet fe
  let ns := s.cfg.gnss.notches.getD fe []
  let active := maskOf ((List.range 8).filter fun k => match ns[k]? with
    | some n => n.mode != 0
    | none => false)
  leBytes 1 fe ++ leBytes 1 (b2n m.flag) ++ leInt 2 m.agc ++ (match c.agcBase with
    | some b => leInt 2 b
    | none => leBytes 2 0x8000) ++ leBytes 2 m.flat ++ leBytes 2 m.blanked ++ leBytes 2 active ++ zeros 4

/-- The conditions of R140 now present: bit 0 AGC, 1 flatness, 2 blanking. -/
def monitorCauses (c : MonitorSettings) (agc : Int) (flat blanked : Nat) : Nat :=
  b2n (match c.agcBase with
    | some b => decide (agc - b ≤ -(c.agcDev : Int))
    | none => false) + 2 * b2n (decide (flat < c.flatMin)) + 4 * b2n (decide (c.blankMax < blanked))

/-- The 100 ms update of a front end's monitors. -/
def execMonitorUpdate (fe : Nat) (agc : Int) (flat blanked : Nat) (s : State) : Host.Outcome State Fault Refusal :=
  let c := monitorCauses (s.monSet fe) agc flat blanked
  .next (s.modMonitor fe fun m =>
    { m with
      agc := agc, flat := flat, blanked := blanked, causes := c
      causeMs := (List.range 3).map fun k => if c.testBit k then m.causeMs.getD k 0 + 100 else 0
      clearMs := if c = 0 then m.clearMs + 100 else 0 })

/-- GNSS.ALERT and its record. -/
def gnssAlert (fe : Nat) (set : Bool) (causes : Nat) (s : State) : State :=
  record 0x0201 fe (leBytes 1 (b2n set) ++ leBytes 1 causes)
    (sendMsg 0x0281 (leBytes 1 fe ++ leBytes 1 (b2n set) ++ leBytes 1 causes ++ zeros 1 ++ s.monitorBytes fe) s)

def execInterferenceFlagSet (fe : Nat) (s : State) : Host.Outcome State Fault Refusal :=
  let m := s.monitor fe
  if 4 ≤ fe ∨ m.flag ∨ m.causeMs.all (fun t => decide (t < (s.monSet fe).persist)) then .next s
  else
    let now := s.mtb
    .next (gnssAlert fe true m.causes (s.modMonitor fe fun m => { m with flag := true, flagAt := now }))

def execInterferenceFlagClear (fe : Nat) (s : State) : Host.Outcome State Fault Refusal :=
  let m := s.monitor fe
  if 4 ≤ fe ∨ !m.flag ∨ m.clearMs < 5000 then .next s
  else .next (gnssAlert fe false 0 (s.modMonitor fe fun m => { m with flag := false }))

/-- Half of each passband of a front end, and its centre, kHz (Table GNSS-1). A notch of front end 1 stands at its offset in each of the two
sub-bands that hold it: the manual does not say how one is named. DESIGN CHOICE (log 42). -/
def feBands (fe : Nat) : List (Nat × Nat) :=
  if fe = 0 then [(17000, 1576000)] else if fe = 1 then [(8000, 1602000), (7500, 1245500)]
  else if fe = 2 then [(38000, 1202000)] else [(16000, 1274000)]

/-- Whether a notch, with its search when adaptive, stays within a passband of half width `half`. -/
def notchWithin (half : Nat) (n : Notch) : Bool :=
  let reach : Int := max ((n.width : Int) / 2 + n.width % 2) (if n.mode = 2 then 2000 else 0)
  decide ((n.offset.natAbs : Int) + reach ≤ half)

/-- Whether a notch touches the main lobe of a signal, taken as one chip rate to each side of its carrier: the manual does not define it.
DESIGN CHOICE (log 152). -/
def notchHits (fe : Nat) (n : Notch) (c : ChanSettings) : Bool :=
  let sg := signalOf c.sig
  let half : Int := (n.width : Int) * 500 + sg.chips
  sg.fe == fe && n.mode != 0 && (feBands fe).any fun b =>
    let f : Int := ((b.2 : Int) + n.offset) * 1000
    decide (n.offset.natAbs ≤ b.1) && decide (carrier c.sig c.fcn - half ≤ f) && decide (f ≤ carrier c.sig c.fcn + half)

/-- Channels whose main lobe a notch touched or touches mark it in their next record. -/
def notchMark (fe : Nat) (old new : Notch) (s : State) : State :=
  s.modGnss fun g => { g with channels := g.channels.map fun e =>
    (e.1, if notchHits fe old e.2.set || notchHits fe new e.2.set then { e.2 with notchSince := true } else e.2) }

/-- Where a notch stands now: an adaptive one where it has moved to, else at its set offset (R141). -/
def State.notchNow (s : State) (fe index : Nat) : Notch :=
  let n := (s.cfg.gnss.notches.getD fe []).getD index Notch.off
  if n.mode = 2 then { n with offset := tgetD s.vol.gnss.notchAt (8 * fe + index) n.offset } else n

/-- A notch is placed, moved or removed. -/
def setNotch (fe index : Nat) (n : Notch) (s : State) : State :=
  let old := s.notchNow fe index
  let ns := s.cfg.gnss.notches.getD fe []
  let s := s.modGnss fun g => { g with notchAt := tdel g.notchAt (8 * fe + index) }
  notchMark fe old n { s with ctl.cfg.gnss.notches := s.cfg.gnss.notches.set fe (ns.set index n) }

/-- Whether a notch, with its search when adaptive, stays within a passband of its front end. -/
def notchFits (fe : Nat) (n : Notch) : Bool := (feBands fe).any fun b => notchWithin b.1 n

/-- Whether 100 ms have passed since an adaptive notch moved last. -/
def State.notchRested (s : State) (fe index : Nat) : Bool :=
  match tget s.vol.gnss.notchMoved (8 * fe + index) with
  | some t => decide (t + 100 * tickMs ≤ s.mtb)
  | none => true

/-- The strongest line within ±2 MHz of an adaptive notch's set offset stands `level` (0.1 dB) above the noise floor: the notch moves to a line
that reaches its threshold, and the channels that it leaves or touches mark it. -/
def execAdaptiveNotchMove (fe index : Nat) (offset : Int) (level : Nat) (s : State) : Host.Outcome State Fault Refusal :=
  let n := (s.cfg.gnss.notches.getD fe []).getD index Notch.off
  if n.mode ≠ 2 ∨ 2000 < (offset - n.offset).natAbs ∨ level < n.thresh ∨ s.notchRested fe index = false then .next s
  else
    let old := s.notchNow fe index
    .next (notchMark fe old { n with offset := offset }
      (s.modGnss fun g => { g with
        notchAt := tput g.notchAt (8 * fe + index) offset, notchMoved := tput g.notchMoved (8 * fe + index) s.mtb }))

/-! ### Multipath mapping (R142) -/

/-- GNSS.MPMAP_DATA of a channel and the signal that it maps. -/
def mapMessage (k sig sv az el cause : Nat) (mags : List Nat) (s : State) : State :=
  sendMsg 0x0282 (leBytes 2 k ++ leBytes 1 sig ++ leBytes 1 sv ++ leBytes 2 az ++
    leBytes 2 el ++ leBytes 1 cause ++ zeros 7 ++ slice (mags.flatMap (leBytes 2)) 0 64) s

/-- A message whose angles and taps no event states: they are measured (log 39). -/
def mapMeasured (k sig sv cause : Nat) (s : State) : State :=
  let (d, s) := s.draw
  mapMessage k sig sv (Config.sense 0x6010 d % 3600) (Config.sense 0x6011 d % 901) cause
    ((List.range 32).map fun n => Config.sense (0x6020 + n) d % 65536) s

/-- A run ends with a cause: 1 duration, 2 stopped, 3 Fen mode. -/
def endMap (cause : Nat) (s : State) : State :=
  match s.vol.gnss.map with
  | none => s
  | some m => m.channels.foldl (fun s e => mapMeasured e.1 e.2.1 e.2.2 cause s) (s.modGnss fun g => { g with map := none })

/-- Whether a channel still has the signal that it maps. It loses the signal when it is released or takes another, as a run sees at its next
second; a slip back to pull-in keeps it (DESIGN CHOICE, log 187). -/
def State.mapsStill (s : State) (e : Nat × Nat × Nat) : Bool :=
  match s.chan e.1 with
  | some c => c.set.sig == e.2.1 && c.set.sv == e.2.2
  | none => false

/-- Channels of a run that have lost their signal leave it with cause 4. -/
def mapLost (s : State) : State :=
  match s.vol.gnss.map with
  | none => s
  | some m =>
    let gone := m.channels.filter fun e => !s.mapsStill e
    if gone = [] then s
    else
      let left := m.channels.filter fun e => s.mapsStill e
      gone.foldl (fun s e => mapMeasured e.1 e.2.1 e.2.2 4 s)
        (s.modGnss fun g => { g with map := if left = [] then none else some { m with channels := left } })

/-- Each channel of a run in phase lock sends its taps: those that the event states (channel, azimuth, elevation, 32 magnitudes), or measured
ones. -/
def execMpmapSecond (taps : List (Nat × Nat × Nat × List Nat)) (s : State) : Host.Outcome State Fault Refusal :=
  let s := mapLost s
  match s.vol.gnss.map with
  | none => .next s
  | some m =>
    .next (m.channels.foldl (fun s e =>
      if (s.chan e.1).any fun c => c.state == .phaseLock then
        match taps.find? fun t => t.1 == e.1 with
        | some t => mapMessage e.1 e.2.1 e.2.2 t.2.1 t.2.2.1 0 t.2.2.2 s
        | none => mapMeasured e.1 e.2.1 e.2.2 0 s
      else s) s)

def execMpmapDurationEnd (s : State) : Host.Outcome State Fault Refusal := .next (endMap 1 s)

/-! ### Fen mode (R143, R144) -/

/-- A channel falls asleep. -/
def Channel.sleep (c : Channel) : Channel :=
  if c.tracks then { c with state := .fenSleep, wasLocked := c.state == .phaseLock, resume := none, check := false } else c

/-- A channel wakes after a sleep of 800 ms with the code phase, the carrier phase and the frequency that a and b predict (R143). One that was
in phase lock has 50 ms to re-enter it; any other pulls in as before. -/
def Channel.wake (c : Channel) : Channel :=
  if c.state ≠ .fenSleep then c
  else
    let t : Rat := 4 / 5
    let cyc := c.a * t + c.b * t * t / 2
    let f := c.a + c.b * t
    let chips : Rat := (signalOf c.set.sig).chips
    { c with
      state := .pullIn, a := f, fCarrier := f, fCode := codeRate c.set f 0, carPhase := c.carPhase + cyc
      codePhase := c.codePhase + chips * t + chips * cyc / carrier c.set.sig c.set.fcn
      fll := !c.wasLocked || c.set.fllMode == 1, prev := none, pliHist := [], pliHighMs := 0
      resume := if c.wasLocked then some 0 else none }

/-- Whether STB lies within a burst: from 150 ms before a second to 50 ms after it. -/
def inBurst (stb : Nat) : Bool := decide (stb % unitS < 3276800000000) || decide (unitS - 9830400000000 ≤ stb % unitS)

/-- Fen mode begins at an STB second, within that second's burst; outside bursts channels sleep, and a mapping run ends. -/
def enterFen (s : State) : State :=
  let b := match s.ctl.time.stb with
    | some t => inBurst t
    | none => false
  (endMap 3 s).modGnss fun g =>
    { g with
      rate := 1, fen := true, burst := b
      channels := if b then g.channels else g.channels.map fun e => (e.1, e.2.sleep) }

/-- Fen mode ends: channels that sleep resume. -/
def leaveFen (s : State) : State :=
  s.modGnss fun g =>
    { g with fen := false, burst := false, channels := g.channels.map fun e => (e.1, e.2.wake) }

/-- 150 ms before an STB second the burst starts: STB passes to it, and channels resume. -/
def execFenBurstStart (s : State) : Host.Outcome State Fault Refusal :=
  match s.ctl.time.stb with
  | none => .next s
  | some t =>
    if !s.vol.gnss.fen ∨ s.vol.gnss.burst then .next s
    else
      let next := (t / unitS + 1) * unitS
      let s := passToStb (next - 9830400000000) s
      .next (s.modGnss fun g => { g with burst := true, channels := g.channels.map fun e => (e.1, e.2.wake) })

/-- 50 ms after the STB second the burst ends. -/
def execFenBurstEnd (s : State) : Host.Outcome State Fault Refusal :=
  match s.ctl.time.stb with
  | none => .next s
  | some t =>
    if !s.vol.gnss.fen ∨ !s.vol.gnss.burst then .next s
    else
      let second := (t + 9830400000000) / unitS * unitS
      let s := passToStb (second + 3276800000000) s
      .next (s.modGnss fun g =>
        { g with burst := false, channels := g.channels.map fun e => (e.1, e.2.sleep) })

/-! ### Antenna bias (R61) -/

/-- State of a bias that is on, by its current: 3 below 4 mA, an open antenna, else 1 (Table Pads-10). -/
def biasClass (ma : Nat) : Nat := if ma < 4 then 3 else 1

/-- The bias as a read finds it: its state and its current, which is measured anew while the bias is on. -/
def biasNow (s : State) : Nat × Nat × State :=
  let g := s.vol.gnss
  let (k, s) := s.draw
  let ma := Config.sense 10 k % 110
  if g.biasState = 0 ∨ g.biasState = 2 then (g.biasState, 0, s) else (biasClass ma, ma, s)

/-- The bias that the active side supplies reaches its limit: it goes off. -/
def execAntennaBiasLimit (ma : Nat) (s : State) : Host.Outcome State Fault Refusal :=
  if !s.actOn || s.vol.gnss.biasState == 0 || s.vol.gnss.biasState == 2 then .next s
  else .next (record 0x1406 0xFFFF (leBytes 1 ma) (s.modGnss fun g => { g with biasState := 2, biasMa := 0 }))

/-- A retry: the bias stays on when its current stays below the limit; at the limit the event is recorded again. -/
def execBiasRetry (below : Bool) (ma : Nat) (s : State) : Host.Outcome State Fault Refusal :=
  if !s.actOn || s.vol.gnss.biasState != 2 then .next s
  else if below then .next (s.modGnss fun g => { g with biasState := biasClass ma, biasMa := ma })
  else .next (record 0x1406 0xFFFF (leBytes 1 ma) s)

/-! ### Opcodes -/

/-- The highest central-solving rate in force, 0.1 Hz. -/
def State.topRate (s : State) : Nat :=
  (s.cfg.solver.members.map fun e => [10, 20, 25, 50, 100].getD e.2.rate 100).foldl max 0

def runGnssConfig (c : HostCmd) (s : State) : CmdResult :=
  let ps := c.packet.params
  let rate := fld ps 0 1
  let mask := fld ps 4 4
  match s.cfg.gnss.pinned.find? fun e => !mask.testBit e.2.sig with
  | none =>
    if 10 * rate < s.topRate then .refuse erState s.topRate
    else
      let g := { s.cfg.gnss with
        epochRate := rate, elevMask := fld ps 1 1, assign := fld ps 2 1, obsDecim := fld ps 3 1, signalMask := mask,
        pllBw := fld ps 8 2, fllBw := fld ps 10 2, dllBw := fld ps 12 2, pllOrder := fld ps 14 1, fllMode := fld ps 15 1 }
      .accepted ({ s with ctl.cfg.gnss := g }.modGnss fun v => { v with cfgDue := true }) []
  | some e => if 10 * rate < s.topRate then .refuse erState s.topRate else .refuse erConflict e.1

/-- The settings that GNSS.CHANNEL_SET gives. -/
def readChan (ps : List Byte) : ChanSettings :=
  { sig := fld ps 3 1, sv := fld ps 4 1, fcn := sfld ps 5 1, dEl := fld ps 6 1, dV := fld ps 7 1, coh := fld ps 8 1,
    pllOrder := fld ps 9 1, pllDisc := fld ps 10 1, fllDisc := fld ps 11 1, dllDisc := fld ps 12 1,
    fllMode := fld ps 13 1, pllBw := fld ps 14 2, fllBw := fld ps 16 2, dllBw := fld ps 18 2 }

/-- The range checks of GNSS.CHANNEL_SET, in its order, after the satellite number of R123. -/
def chanRange (c : ChanSettings) : Option Nat :=
  let x := signalOf c.sig
  if c.sv = 0 ∨ maxSv x.const < c.sv then some 4
  else if c.dEl < x.least then some 6
  else if c.dV ≤ c.dEl then some 7
  else if !(cohAllowed c.sig c.sv).contains c.coh then some 8
  else if !x.pilot ∧ c.pllDisc = 0 then some 10
  else if !x.pilot ∧ c.fllDisc = 0 then some 11
  else if c.sig ≠ 5 ∧ c.sig ≠ 6 ∧ c.fcn ≠ 0 then some 5
  else if pllLimit c.pllOrder c.coh < c.pllBw then some 14
  else if fllLimit c.coh < c.fllBw then some 16
  else if dllLimit c.coh < c.dllBw then some 18
  else none

/-- A move that waits for a pinned channel is off. -/
def cancelMove (k : Nat) (s : State) : State :=
  s.modGnss fun g => { g with channels := g.channels.map fun e =>
    (e.1, if e.2.moveTo = some k then { e.2 with moveTo := none } else e.2) }

/-- A channel is pinned to a signal (R125, R133). A signal that an automatic channel tracks moves at that channel's next integration
boundary, when the two channels change places; otherwise what the channel tracks moves aside, and it acquires. -/
def pinChan (k : Nat) (c : ChanSettings) (s : State) : State :=
  let same := match s.chan k with
    | some x => x.set.sig == c.sig && x.set.sv == c.sv
    | none => false
  let was := s.pinnedChan k
  let pin := fun s : State => { s with ctl.cfg.gnss.pinned := tput s.cfg.gnss.pinned k c }
  let s := cancelMove k s
  let fresh := fun s : State =>
    let s := if was then releaseChan k s else moveAside k s
    pin (startChan k c s)
  if same then pin (s.modChan k fun x => { x with pending := some c })
  else
    match s.holder c.sig c.sv with
    | some j =>
      if (s.chan j).any fun x => x.tracks || x.state == .fenSleep then
        pin ((if was then releaseChan k s else s).modChan j fun x => { x with moveTo := some k })
      else fresh (releaseChan j s)
    | none => fresh s

def runGnssChannelSet (cmd : HostCmd) (s : State) : CmdResult :=
  let ps := cmd.packet.params
  let k := fld ps 0 2
  let c := readChan ps
  if fld ps 2 1 = 0 then
    match firstNonZero ((ps.drop 3).take 17) with
    | some i => .refuse erRange (3 + i)
    | none =>
      if s.mappingChan k then .refuse erState k
      else
        let s := cancelMove k { s with ctl.cfg.gnss.pinned := tdel s.cfg.gnss.pinned k }
        .accepted (s.modChan k fun x =>
          { x with pending := some (s.cfg.gnss.autoSet x.set.sig x.set.sv x.set.fcn) }) []
  else
    match chanRange c with
    | some o => .refuse erRange o
    | none =>
      let other := s.cfg.gnss.pinned.find? fun e => e.1 != k && e.2.sig == c.sig && e.2.sv == c.sv
      if s.mappingChan k then .refuse erState k
      else
        match other with
        | some e => .refuse erConflict e.1
        | none => if !s.cfg.gnss.signalMask.testBit c.sig then .refuse erConflict c.sig else .accepted (pinChan k c s) []

def chanCode : ChanState → Nat
  | .idle => 0
  | .acquiring => 1
  | .codeLock => 2
  | .pullIn => 3
  | .phaseLock => 4
  | .fenSleep => 5

def runGnssChannelRead (c : HostCmd) (s : State) : CmdResult :=
  let k := fld c.packet.params 0 2
  let kind := if s.mappingChan k then 2 else if s.pinnedChan k then 1 else 0
  match s.chan k with
  | none => .ok s (zeros 1 ++ leBytes 1 kind ++ zeros 22)
  | some x =>
    .ok s (leBytes 1 (chanCode x.state) ++ leBytes 1 kind ++ leBytes 1 x.set.sig ++ leBytes 1 x.set.sv ++
      leInt 1 x.set.fcn ++ leBytes 1 x.tNow ++ leBytes 1 x.set.dEl ++ leBytes 1 x.set.dV ++ leBytes 2 x.cn0 ++
      leInt 2 (roundRat (x.pli * 10000)) ++ leBytes 4 x.lockMs ++ leInt 4 (roundRat (x.fCarrier * 1000)) ++
      leBytes 1 x.slipCount ++ zeros 3)

def runGnssNotch (c : HostCmd) (s : State) : CmdResult :=
  let ps := c.packet.params
  let n : Notch := ⟨fld ps 2 1, sfld ps 4 4, fld ps 8 2, fld ps 10 2⟩
  if !notchFits (fld ps 0 1) n then .refuse erRange 4 else .accepted (setNotch (fld ps 0 1) (fld ps 1 1) n s) []

/-- New thresholds of a front end, and with op 2 the AGC baseline. -/
def setMonitor (ps : List Byte) (s : State) (fe : Nat) : State :=
  let old := s.monSet fe
  let m : MonitorSettings :=
    { blankThr := fld ps 2 2, hold := fld ps 4 1, agcDev := fld ps 6 2, flatMin := fld ps 8 2, blankMax := fld ps 10 2,
      persist := fld ps 12 2, agcBase := if fld ps 1 1 = 2 then some (s.monitor fe).agc else old.agcBase }
  { s with ctl.cfg.gnss.monitors := s.cfg.gnss.monitors.set fe m }

def runGnssMonitor (c : HostCmd) (s : State) : CmdResult :=
  let ps := c.packet.params
  let op := fld ps 1 1
  let fes := if fld ps 0 1 = 0xFF then [0, 1, 2, 3] else [fld ps 0 1]
  match (if op = 0 then firstNonZeroField ps [(2, 2), (4, 1), (6, 2), (8, 2), (10, 2), (12, 2)] else none) with
  | some o => .refuse erRange o
  | none =>
    match (if op = 2 then fes.find? fun k => (s.monitor k).flag else none) with
    | some k => .refuse erState k
    | none =>
      let s := if op = 0 then s else fes.foldl (setMonitor ps) s
      .accepted s (fes.flatMap s.monitorBytes)

def runGnssMpmap (c : HostCmd) (s : State) : CmdResult :=
  let ps := c.packet.params
  let n := fld ps 2 1
  let ks := (List.range n).map fun k => fld ps (8 + 2 * k) 2
  if fld ps 0 1 = 0 ∧ n ≠ 0 then .refuse erRange 2
  else if s.vol.gnss.fen then .refuse erState 0
  else if fld ps 0 1 = 0 then
    if s.vol.gnss.map.isNone then .refuse erState 1 else .accepted (endMap 2 s) []
  else if s.vol.gnss.map.isSome then .refuse erBusy 0
  else
    match ks.find? fun k => (s.chan k).isNone with
    | some k => .refuse erState k
    | none =>
      let cs := ks.foldl (fun t k => match s.chan k with
        | some c => tput t k (c.set.sig, c.set.sv)
        | none => t) []
      .accepted (s.modGnss fun g => { g with map := some ⟨fld ps 1 1, fld ps 4 2, cs⟩ }) []

/-- Whether a satellite is in phase lock on any channel. -/
def State.satLocked (s : State) (const sv : Nat) : Bool :=
  s.vol.gnss.channels.any fun e =>
    e.2.state == .phaseLock && (signalOf e.2.set.sig).const == const && e.2.set.sv == sv

/-- Satellites of a constellation in phase lock. -/
def State.lockedSats (s : State) (const : Nat) : Nat :=
  (s.vol.gnss.channels.foldl (fun l e =>
    if e.2.state = .phaseLock ∧ (signalOf e.2.set.sig).const = const ∧ !l.contains e.2.set.sv then e.2.set.sv :: l else l)
    []).length

/-- Age of the hot-start data in seconds. -/
def State.hotAge (s : State) : Nat :=
  match s.ctl.hot.stamp, s.ctl.time.stb with
  | some a, some t => sat 32 ((t - a) / unitS)
  | _, _ => 0xFFFFFFFF

def runGnssStatus (_ : HostCmd) (s : State) : CmdResult :=
  let g := s.vol.gnss
  let (bias, ma, s) := biasNow s
  .ok s (leBytes 1 g.rate ++ leBytes 1 (b2n g.fen) ++ (List.range 5).flatMap (fun k => leBytes 1 (s.lockedSats k)) ++
    leBytes 1 (maskOf ((List.range 4).filter fun k => s.interf k)) ++ leBytes 2 s.cfg.gnss.pinned.length ++
    leBytes 1 (match g.map with
      | some m => m.channels.length
      | none => 0) ++ leBytes 1 bias ++ leBytes 1 ma ++ zeros 1 ++ leBytes 2 (sat 16 s.estNs) ++ leBytes 4 s.hotAge)

def execGnssConfig (p : Packet) (s : State) : Host.Outcome State Fault Refusal := .next (serve 0x0201 runGnssConfig p s)
def execGnssChannelSet (p : Packet) (s : State) : Host.Outcome State Fault Refusal :=
  .next (serve 0x0202 runGnssChannelSet p s)
def execGnssChannelRead (p : Packet) (s : State) : Host.Outcome State Fault Refusal :=
  .next (serve 0x0203 runGnssChannelRead p s)
def execGnssNotch (p : Packet) (s : State) : Host.Outcome State Fault Refusal := .next (serve 0x0204 runGnssNotch p s)
def execGnssMonitor (p : Packet) (s : State) : Host.Outcome State Fault Refusal := .next (serve 0x0205 runGnssMonitor p s)
def execGnssMpmap (p : Packet) (s : State) : Host.Outcome State Fault Refusal := .next (serve 0x0206 runGnssMpmap p s)
def execGnssStatus (p : Packet) (s : State) : Host.Outcome State Fault Refusal := .next (serve 0x0207 runGnssStatus p s)

end Sys2Proof.Machine
end

