-- ==== Sys2Proof/Machine/Radio.lean ====
section
/-! DEFINITION.
Radio lanes, links and heads: their opcodes and events (chapter 09).
-/

namespace Sys2Proof.Machine

/-! ### Links and heads (R225 to R229) -/

/-- The settings that RADIO.LINK_CONFIG carries. -/
def linkOf (ps : List Byte) : LinkSettings :=
  { enable := fld ps 1 1 == 1, mode := fld ps 2 1, spiMhz := fld ps 3 1, txMap := fld ps 4 1, rxMap := fld ps 5 1,
    polarity := fld ps 6 1, addrBits := fld ps 7 1, dataBits := fld ps 8 1, readPol := fld ps 9 1,
    asym := sfld ps 10 2 }

/-- The settings with which a link runs: those of the RADIO.LINK_CONFIG that starts it, or those in force. -/
def State.linkNow (s : State) (k : Nat) : LinkSettings :=
  match (s.linkRun k).cmd with
  | some c => linkOf c.packet.params
  | none => s.link k

/-- The radio settings with which a side runs its heads: those in force on the active side, those of its own store on the other (R86). -/
def State.sideRadio (s : State) (x : SideId) : RadioSettings :=
  if x = s.actId then s.cfg.radio else (((s.side x).store.current.cfg.map (·.1)).getD Settings.factory).radio

/-- The settings with which a side runs a link. -/
def State.linkOn (s : State) (x : SideId) (k : Nat) : LinkSettings :=
  if x = s.actId then s.linkNow k else (s.sideRadio x).links.getD k LinkSettings.factory

/-- The steps of a sequence that a head's profile holds on a side. -/
def State.headSeqOn (s : State) (x : SideId) (head seq : Nat) : List HeadStep := ((s.sideRadio x).heads.getD head []).getD seq []

/-- The steps of a sequence that a head's profile holds. -/
def State.headSeq (s : State) (head seq : Nat) : List HeadStep := (s.cfg.radio.heads.getD head []).getD seq []

/-- What goes out to a head. -/
def headOut (op : HeadOp) (s : State) : State := { s with out.head := s.out.head ++ [op] }

/-- RESET_N of a head of a side; the level of the active side's is kept in its run. -/
def setResetN (x : SideId) (head : Nat) (level : Bool) (s : State) : State :=
  let s := headOut (.resetN (sideNo x) head level) s
  if x = s.actId then s.modLink head fun l => { l with resetN := level } else s

/-- The address word of an SPI transfer: the most significant bit of the address width says read or write, as read_pol
chooses (log 162). -/
def spiWord (c : LinkSettings) (read : Bool) (addr : Nat) : Nat :=
  let msb := 2 ^ (c.addrBits - 1)
  addr % msb + (if read == (c.readPol == 0) then msb else 0)

/-- An SPI write to a head. -/
def spiWrite (x : SideId) (head addr value : Nat) (s : State) : State :=
  let c := s.linkOn x head
  headOut (.write (sideNo x) head c.spiMhz (spiWord c false addr) (value % 2 ^ c.dataBits)) s

/-- A poll of a head: what the head answers is a free value (log 19), but a value with bits outside the mask cannot come. -/
def spiPoll (x : SideId) (head mask : Nat) (p : HeadStep) (s : State) : Bool × State :=
  let c := s.linkOn x head
  let (k, s) := (headOut (.read (sideNo x) head c.spiMhz (spiWord c true p.addr)) s).draw
  (decide (p.value &&& mask = p.value) && Config.flag 10 k, s)

/-- The steps of a head sequence run for a lane of the head, with the mask in force; a poll that times out ends it (R228). -/
def runSteps (x : SideId) (head lane : Nat) : Nat → List HeadStep → State → Bool × State
  | _, [], s => (true, s)
  | mask, p :: t, s =>
    match p.op with
    | 0 => (true, s)
    | 1 => runSteps x head lane mask t (spiWrite x head p.addr p.value s)
    | 2 =>
      match spiPoll x head mask p s with
      | (true, s) => runSteps x head lane mask t s
      | (false, s) => (false, s)
    | 3 => runSteps x head lane mask t (headOut (.wait (sideNo x) head p.value) s)
    | 4 => runSteps x head lane mask t (setResetN x head (p.value == 1) s)
    | 5 => runSteps x head lane mask t (spiWrite x head p.addr
        ((((s.sideRadio x).lanes.getD lane LaneSettings.factory).tune).getD p.arg 0) s)
    | _ => runSteps x head lane p.value t s

/-- A sequence of a head runs on a side for a lane of the head; the mask is all ones until a step sets it (log 162). -/
def runSeq (x : SideId) (head seq lane : Nat) (s : State) : Bool × State :=
  runSteps x head lane 0xFFFFFFFF (s.headSeqOn x head seq) s

/-- A sequence runs on the active side. -/
def runHead (head seq lane : Nat) (s : State) : Bool × State := runSeq s.actId head seq lane s

/-- The tune sequence of a lane runs. A fall of ALARM_N or LOCK while it runs ends it as a failure; whether one falls, and which, are free
values, and a sequence without steps leaves no time for it (R229, log 162). -/
def tuneHead (l : Nat) (s : State) : Bool × State :=
  let (ok, t) := runHead (l / 4) 1 l s
  if (s.headSeq (l / 4) 1).isEmpty then (ok, t)
  else
    let (d, t) := t.draw
    if Config.flag 34 d then
      (false, t.modLink (l / 4) fun x => if Config.flag 35 d then { x with alarmN := false } else { x with lock := false })
    else (ok, t)

/-- The start of a head on a side: RESET_N low for 1 ms, then high, then the init sequence (R227, R228). -/
def initHead (x : SideId) (head : Nat) (s : State) : Bool × State :=
  let s := headOut (.wait (sideNo x) head 1000) (setResetN x head false s)
  runSeq x head 0 (4 * head) (setResetN x head true s)

/-- A link start or restart: RESET_N and the init sequence, then the check of ALARM_N, whose level is a free value (R228,
R229). Answers the reason of a failure that is known at once. -/
def startLink (k : Nat) (s : State) : Option Nat × State :=
  match initHead s.actId k (s.modLink k fun l => { l with state := .starting, lock := false }) with
  | (false, s) => (some 1, s)
  | (true, s) =>
    let (d, s) := s.draw
    let s := s.modLink k fun l => { l with alarmN := !Config.flag 3 d }
    (if (s.linkRun k).alarmN then none else some 4, s)

/-- The latency that a start of a link measures: its own, or one DCLK period more (R225). -/
def State.latencyOf (s : State) (k : Nat) (late : Bool) : Nat :=
  (Config.linkLatency k (s.linkNow k).mode ((s.headSeq k 0).map fun p => (p.op, p.arg, p.addr, p.value)) + b2n late) % 2 ^ 32

/-- TXEN of a head of a side (Table Radio-4): high only while the side holds the active role, the head's link is in its data
phase, and a lane of the head is transmitting. -/
def State.txEn (s : State) (x : SideId) (head : Nat) : Bool :=
  s.hsw.active == some x && (s.linkRun head).state == .dataPhase &&
    s.out.air.any fun f => f.lane / 4 == head && decide (s.clock < f.ends)

/-- A link stops after three failed restarts (R229). -/
def stopLink (k : Nat) (s : State) : State :=
  radioEvent (0xF0 + k) 9 0xFF 0 (setResetN s.actId k false (s.modLink k fun l => { l with state := .stopped }))

/-- A restart has failed (R229): the third failure stops the link. -/
def restartFailed (k : Nat) (s : State) : State :=
  let n := (s.linkRun k).restarts + 1
  let s := s.modLink k fun l => { l with restarts := n, state := .headFault }
  if 3 ≤ n then stopLink k s else s

/-- A link restarts on the configuration in force. -/
def restartLink (k : Nat) (s : State) : State :=
  match startLink k s with
  | (some _, s) => restartFailed k s
  | (none, s) => s

/-- Physical lanes of a link mode (Table Radio-1). -/
def physLanes (mode : Nat) : Nat := [4, 2, 4, 2, 4, 2, 1, 2].getD mode 4

/-- A map is a permutation of the physical lanes below L (R225). -/
def isPerm (map n : Nat) : Bool :=
  (List.range n).all fun p => (List.range n).any fun i => map / 4 ^ i % 4 == p

/-- Whether a physical lane of a link is powered: a logical lane of its mode is mapped to it, transmit or receive, and the link
is enabled (R225). -/
def State.physOn (s : State) (k p : Nat) : Bool × Bool :=
  let c := s.linkNow k
  let used := fun map => c.enable && (List.range (physLanes c.mode)).any fun i => map / 4 ^ i % 4 == p
  (used c.txMap, used c.rxMap)

/-- The lowest enabled lane of a link. -/
def State.lowLane (s : State) (k : Nat) : Option Nat := (List.range 8).find? fun l => l / 4 == k && s.laneOn l

/-- A byte of offsets 2 to 11 that enable 0 leaves non-zero (R11). -/
def linkZeroError (ps : List Byte) : Option Nat :=
  ([2, 3, 4, 5, 6, 7, 8, 9].find? fun o => fld ps o 1 != 0).or (if fld ps 10 2 ≠ 0 then some 10 else none)

/-- The checks of RADIO.LINK_CONFIG. -/
def linkError (ps : List Byte) (s : State) : Option (Nat × Nat) :=
  let k := fld ps 0 1
  let x := linkOf ps
  let restart := (s.linkRun k).state == .stopped && x.enable && x == s.link k
  match (if x.enable then none else linkZeroError ps) with
  | some o => some (erRange, o)
  | none =>
    match (if restart then none else s.lowLane k) with
    | some l => some (erState, l)
    | none =>
      if !x.enable then none
      else if ((s.cfg.radio.heads.getD k []).getD 0 []).isEmpty then some (erState, 0)
      else if !isPerm x.txMap (physLanes x.mode) then some (erRange, 4)
      else if !isPerm x.rxMap (physLanes x.mode) then some (erRange, 5)
      else none

/-- The configuration of a link is set. -/
def setLink (k : Nat) (x : LinkSettings) (s : State) : State :=
  { s with ctl.cfg.radio := { s.cfg.radio with links := s.cfg.radio.links.set k x } }

/-- The refused start of a RADIO.LINK_CONFIG leaves the configuration as it was: a link that was disabled stays so, and
one that was enabled restarts on the configuration in force. -/
def refusedStart (c : HostCmd) (k reason : Nat) (s : State) : State :=
  let s := finish c erTimeout reason [] (s.modLink k fun l => { l with cmd := none })
  if (s.link k).enable then restartLink k (s.modLink k fun l => { l with restarts := 0 })
  else setResetN s.actId k false (s.modLink k fun l => { l with state := .down })

/-- A RADIO.LINK_CONFIG on a link that no other one is starting; true when its start now runs. -/
def linkCommand (c : HostCmd) (s : State) : Bool × State :=
  let ps := c.packet.params
  let k := fld ps 0 1
  let x := linkOf ps
  match linkError ps s with
  | some (st, d) => (false, finish c st d [] s)
  | none =>
    if x.enable then
      match startLink k (s.modLink k fun l => { l with cmd := some c }) with
      | (some r, s) => (false, refusedStart c k r s)
      | (none, s) => (true, s)
    else
      let changed := (s.link k).enable
      let (_, s) := if changed then runHead k 4 (4 * k) s else (true, s)
      let s := setLink k { s.link k with enable := false } s
      let s := setResetN s.actId k false (s.modLink k fun l => { l with state := .down, restarts := 0 })
      (false, finish c (b2n changed) 0 (leBytes 4 (s.linkRun k).latency) s)

/-- Link commands that waited are served in fetch order (R99). -/
def linkCommands (k : Nat) : List HostCmd → State → State
  | [], s => s.modLink k fun l => { l with waiting := [] }
  | c :: t, s =>
    match linkCommand c s with
    | (true, s) => s.modLink k fun l => { l with waiting := t }
    | (false, s) => linkCommands k t s

def runRadioLinkConfig (c : HostCmd) (s : State) : CmdResult :=
  let k := fld c.packet.params 0 1
  if (s.linkRun k).cmd.isSome then .deferred (s.modLink k fun l => { l with waiting := l.waiting ++ [c] })
  else .deferred (linkCommand c s).2

/-- A start or a restart of a link fails for a reason of RADIO.LINK_CONFIG. -/
def startFailed (k reason : Nat) (s : State) : State :=
  match (s.linkRun k).cmd with
  | some c =>
    let s := refusedStart c k reason s
    linkCommands k (s.linkRun k).waiting s
  | none => restartFailed k s

/-- A lane holds no measurement of its channels: it was not listening to them (R232, R238). -/
def unmeasured (l : Nat) (s : State) : State := s.modLaneRun l fun r => { r with busy := [], noise := [] }

/-- Lanes of a link stop transmitting and measuring; captures on them stop (R396). -/
def linkDown (k : Nat) (s : State) : State :=
  let s := ((List.range 8).filter fun l => l / 4 == k).foldl (fun s l => unmeasured l s) s
  stopPorts 5 (fun src => decide (8 ≤ src) && (src - 8) / 4 == k) s

/-- A link leaves its data phase, or a start does not reach it. The CRC-12 errors counted on the link come with it. -/
def execLinkDataPhaseLost (link crcErrors : Nat) (s : State) : Host.Outcome State Fault Refusal :=
  match (s.linkRun link).state with
  | .dataPhase =>
    .next (radioEvent (0xF0 + link) 6 0xFF 0 (linkDown link (s.modLink link fun l =>
      { l with state := .lost, crcErrs := sat 32 (l.crcErrs + crcErrors) })))
  | .starting => .next (startFailed link 3 s)
  | _ => .next s

def execLinkRetrain (link : Nat) (s : State) : Host.Outcome State Fault Refusal :=
  match (s.linkRun link).state with
  | .lost => .next (s.modLink link fun l => { l with state := .retraining })
  | _ => .next s

/-- ALARM_N or LOCK has fallen on a link that runs: its lanes stop, and it will restart (R229). -/
def headFault (link : Nat) (s : State) : State :=
  radioEvent (0xF0 + link) 8 0xFF 0 (linkDown link (s.modLink link fun l => { l with state := .headFault, restarts := 0 }))

/-- A pad of a link in its data phase that fell during a tune sequence is acted on. -/
def padsFell (link : Nat) (s : State) : State :=
  let l := s.linkRun link
  if l.state == .dataPhase && !(l.alarmN && l.lock) then headFault link s else s

/-- ALARM_N (or, where `alarm` is false, LOCK) falls: during training the start fails; on a link in its data phase the lanes
stop and the link will restart (R229). -/
def execHeadAlarmOrLockLoss (link : Nat) (alarm : Bool) (s : State) : Host.Outcome State Fault Refusal :=
  let s := s.modLink link fun l => if alarm then { l with alarmN := false } else { l with lock := false }
  if !(s.link link).enable && (s.linkRun link).state != .starting then .next s
  else
    match (s.linkRun link).state with
    | .starting => .next (startFailed link 3 s)
    | .stopped => .next s
    | .headFault => .next s
    | _ => .next (headFault link s)

def execHeadRestart (link : Nat) (s : State) : Host.Outcome State Fault Refusal :=
  match (s.linkRun link).state with
  | .headFault => .next (restartLink link s)
  | _ => .next s

def execHeadLockCheckTimeout (link : Nat) (s : State) : Host.Outcome State Fault Refusal :=
  match (s.linkRun link).state with
  | .starting => .next (startFailed link 2 s)
  | _ => .next s

/-- The tune sequences of a link's enabled lanes, after training (R228). -/
def tuneLanes (k : Nat) (s : State) : Bool × State :=
  ((List.range 8).filter fun l => l / 4 == k && s.laneOn l).foldl
    (fun r l => if r.1 then tuneHead l r.2 else r) (true, s)

/-- A link is in its data phase, with the latency that its training gave. -/
def linkUp (k : Nat) (late : Bool) (s : State) : State :=
  let n := s.latencyOf k late
  s.modLink k fun l => { l with state := .dataPhase, latency := n, restarts := 0, lock := true, cmd := none }

/-- A retrained or restarted link, or one that RADIO.LINK_CONFIG starts, reaches its data phase; `late` says whether its latency
came out one DCLK period longer than the least. -/
def execLinkRestored (link : Nat) (late : Bool) (s : State) : Host.Outcome State Fault Refusal :=
  match (s.linkRun link).state with
  | .retraining => .next (radioEvent (0xF0 + link) 7 0xFF 0 (linkUp link late s))
  | .starting =>
    match tuneLanes link s with
    | (false, s) => .next (startFailed link 1 s)
    | (true, s) =>
      match (s.linkRun link).cmd with
      | some c =>
        let was := s.ctl
        let s := setLink link (linkOf c.packet.params) (linkUp link late s)
        let s := finish c (if s.ctl = was then 0 else 1) 0 (leBytes 4 (s.linkRun link).latency) s
        .next (linkCommands link (s.linkRun link).waiting s)
      | none => .next (radioEvent (0xF0 + link) 7 0xFF 0 (linkUp link late s))
  | _ => .next s

/-- One step of a head sequence. -/
def stepOf (ps : List Byte) (k : Nat) : HeadStep :=
  { op := fld ps (4 + 8 * k) 1, arg := fld ps (5 + 8 * k) 1, addr := fld ps (6 + 8 * k) 2, value := fld ps (8 + 8 * k) 4 }

/-- A step that RADIO.HEAD_PROFILE refuses. -/
def badStep (x : HeadStep) (last : Bool) : Bool :=
  decide (6 < x.op) || (x.op == 0 && !last) || (x.op == 2 && x.arg == 0) ||
    (x.op == 3 && decide (1000000 < x.value)) || (x.op == 4 && decide (1 < x.value)) || (x.op == 5 && decide (7 < x.arg))

def runRadioHeadProfile (c : HostCmd) (s : State) : CmdResult :=
  let ps := c.packet.params
  let h := fld ps 0 1
  let n := fld ps 2 2
  let steps := (List.range n).map (stepOf ps)
  if (s.link h).enable then .refuse erState h
  else
    match (List.range n).find? fun k => badStep (stepOf ps k) (k + 1 == n) with
    | some k => .refuse erRange (4 + 8 * k)
    | none =>
      let heads := s.cfg.radio.heads.modify h fun q => q.set (fld ps 1 1) steps
      .accepted { s with ctl.cfg.radio :=
        { s.cfg.radio with heads := heads, headsVer := 0, headsReq := (0, 0xFFFFFFFF) } } []

/-! ### Lanes (R219, R233, R237) -/

/-- The settings that RADIO.LANE_CONFIG carries. -/
def laneOf (ps : List Byte) : LaneSettings :=
  { enable := fld ps 1 1 == 1, cls := fld ps 2 1, region := fld ps 3 1, centre := fld ps 4 4, phy := fld ps 8 1,
    preamble := fld ps 9 1, txPower := sfld ps 12 2, antGain := sfld ps 14 2, txFull := sfld ps 16 2,
    rxFull := sfld ps 18 2, reserve := fld ps 20 2, window := fld ps 22 2,
    tune := (List.range 8).map fun k => fld ps (24 + 4 * k) 4,
    channels := (List.range (fld ps 10 1)).map fun k => sfld ps (56 + 4 * k) 4 }

/-- The first field other than tx_power and reserve that a command for an enabled lane changes. -/
def laneChange (a b : LaneSettings) : Option Nat :=
  if a.cls ≠ b.cls then some 2
  else if a.region ≠ b.region then some 3
  else if a.centre ≠ b.centre then some 4
  else if a.phy ≠ b.phy then some 8
  else if a.preamble ≠ b.preamble then some 9
  else if a.channels.length ≠ b.channels.length then some 10
  else if a.antGain ≠ b.antGain then some 14
  else if a.txFull ≠ b.txFull then some 16
  else if a.rxFull ≠ b.rxFull then some 18
  else if a.window ≠ b.window then some 22
  else if a.tune ≠ b.tune then some 24
  else if a.channels ≠ b.channels then some 56
  else none

/-- Sub-bands of a lane's channels, without repeats. -/
def State.bandsUsed (s : State) (c : LaneSettings) : List SubBand :=
  (c.channels.filterMap fun off => s.bandOf c off).eraseDups

/-- The channel that breaks R219 or R233. -/
def State.badChannel (s : State) (l : Nat) (c : LaneSettings) : Option Nat :=
  (List.range c.channels.length).find? fun k =>
    let off := c.channels.getD k 0
    !chanFits c (s.link (l / 4)).mode off || (s.bandOf c off).isNone

/-- Another lane that uses a duty or dwell sub-band of this one (R233). -/
def State.bandSharer (s : State) (l : Nat) (c : LaneSettings) : Option Nat :=
  let mine := (s.bandsUsed c).filter fun b => b.duty || b.dwell
  (List.range 8).find? fun m => m != l && s.laneOn m &&
    (s.bandsUsed (s.lane m)).any fun b => mine.any fun x => x.lo == b.lo && x.hi == b.hi

/-- The checks of RADIO.LANE_CONFIG with enable 1, in its order, after the first. -/
def laneError (l : Nat) (x : LaneSettings) (s : State) : Option (Nat × Nat) :=
  let old := s.lane l
  let bs := s.bandsUsed x
  match (if old.enable then laneChange old x else none) with
  | some o => some (erState, o)
  | none =>
    match s.badChannel l x with
    | some k => some (erRange, 56 + 4 * k)
    | none =>
      if bs.any fun b => decide (b.eirp < x.txPower + x.antGain) then some (erRange, 12)
      else if bs.any fun b => b.dwell && decide (x.channels.length < b.minChan) then some (erRange, 10)
      else if old.enable && s.ctl.budget.budgets.any fun u => u.lane == l && decide (reserveOf x u.limitUs < u.usedRes) then
        some (erRange, 20)
      else (s.bandSharer l x).map fun m => (erConflict, m)

/-- The accounts of a lane that is enabled: one for each duty sub-band, one for each channel under a dwell rule. -/
def laneBudgets (l : Nat) (c : LaneSettings) (s : State) : List Budget :=
  (s.bandsUsed c).flatMap fun b =>
    if b.duty then [Budget.new l c b 0 s.clock]
    else if b.dwell then
      ((List.range c.channels.length).filter fun k =>
        ((s.bandOf c (c.channels.getD k 0)).map (·.lo)) == some b.lo).map fun k => Budget.new l c b k s.clock
    else []

/-- The DFS channels of a lane that is enabled: each begins in CAC (R239). -/
def laneDfs (l : Nat) (c : LaneSettings) (s : State) : List DfsChan :=
  (List.range c.channels.length).filterMap fun k =>
    match s.bandOf c (c.channels.getD k 0) with
    | some b => if b.dfs then some ⟨l, k, .cac, false, 0⟩ else none
    | none => none

/-- The configuration of a lane is set. -/
def setLane (l : Nat) (x : LaneSettings) (s : State) : State :=
  { s with ctl.cfg.radio := { s.cfg.radio with lanes := s.cfg.radio.lanes.set l x } }

/-- A lane is enabled with its accounts, which are counted from now (R234). -/
def enableLane (l : Nat) (x : LaneSettings) (s : State) : State :=
  let bs := laneBudgets l x s
  let ds := laneDfs l x s
  let b := s.ctl.budget
  setLane l x { unmeasured l s with
    ctl.budget := { budgets := (b.budgets.filter fun u => u.lane != l) ++ bs, dfs := (b.dfs.filter fun d => d.lane != l) ++ ds } }

/-- A lane is disabled: its connections end, and captures on it stop. -/
def disableLane (l : Nat) (s : State) : State :=
  let s := setLane l { s.lane l with enable := false } s
  stopPorts 5 (fun src => src == 8 + l) (unmeasured l (endLane l 7 s))

/-- The tune sequence of a lane takes the tune words of the command; when it fails, the lane stays as it was (R228). The
centre itself is asked for nothing beside the edges of the channels (log 163). -/
def runRadioLaneConfig (c : HostCmd) (s : State) : CmdResult :=
  let ps := c.packet.params
  let l := fld ps 0 1
  let x := laneOf ps
  let old := s.lane l
  if (x.cls = 0 ∧ (x.preamble < 4 ∨ 16 < x.preamble)) ∨ (x.cls = 1 ∧ x.preamble ≠ 0) then .refuse erRange 9
  else if !s.laneCarried l then .refuse erState (l / 4)
  else if !x.enable then
    if old.enable then .accepted (disableLane l s) (zeros 4) else .ok s (zeros 4)
  else
    match laneError l x s with
    | some (st, d) => .refuse st d
    | none =>
      if old.enable then
        let s := setLane l { old with txPower := x.txPower, reserve := x.reserve } s
        .accepted (s.modBudgets fun u => if u.lane = l then { u with reserveUs := reserveOf x u.limitUs } else u)
          (leBytes 1 1 ++ zeros 3)
      else
        match tuneHead l (setLane l { old with tune := x.tune } s) with
        | (false, t) => .deferred (finish c erTimeout 1 [] (padsFell (l / 4) (setLane l old t)))
        | (true, s) => .accepted (enableLane l x s) (leBytes 1 1 ++ zeros 3)

/-! ### Regions, offsets and readings -/

/-- A sub-band of RADIO.REGION_LOAD. -/
def subBandOf (ps : List Byte) (k : Nat) : SubBand :=
  let o := 16 * k
  let r := fld ps (12 + o) 1
  { lo := fld ps (4 + o) 4, hi := fld ps (8 + o) 4, duty := r.testBit 0, dwell := r.testBit 1, lbt := r.testBit 2,
    dfs := r.testBit 3, minChan := fld ps (13 + o) 1, eirp := sfld ps (14 + o) 2, limit := fld ps (16 + o) 2,
    dwellS := fld ps (18 + o) 1, cac10s := fld ps (19 + o) 1 }

def runRadioRegionLoad (c : HostCmd) (s : State) : CmdResult :=
  let ps := c.packet.params
  let n := fld ps 0 1
  let bs := (List.range n).map (subBandOf ps)
  match (List.range n).find? fun k => decide ((subBandOf ps k).hi ≤ (subBandOf ps k).lo) with
  | some k => .refuse erRange (8 + 16 * k)
  | none =>
    match (List.range 8).find? fun l => s.laneOn l && (s.lane l).region == 3 with
    | some l => .refuse erState l
    | none =>
      let bad := fun k =>
        let b := subBandOf ps k
        (b.duty && b.dwell) ||
          (List.range n).any fun j => j != k && decide ((subBandOf ps j).lo < b.hi) && decide (b.lo < (subBandOf ps j).hi)
      match (List.range n).find? bad with
      | some k => .refuse erRange (4 + 16 * k)
      | none => .accepted { s with ctl.cfg.radio := { s.cfg.radio with custom := bs } } []

def setOffs (side l : Nat) (o : LaneOffsets) (s : State) : State :=
  { s with ctl.cfg.radio :=
    if side = 0 then { s.cfg.radio with offsA := s.cfg.radio.offsA.set l o }
    else { s.cfg.radio with offsB := s.cfg.radio.offsB.set l o } }

/-- Reply of RADIO.TX_CAL. -/
def calReply (o : LaneOffsets) (d : Nat) : List Byte := leBytes 4 o.tx ++ leBytes 4 o.rx ++ leBytes 4 d

/-- The offsets that a measured round trip `d` gives a lane with a cable delay (R231). -/
def measuredOffs (s : State) (l cable d : Nat) : LaneOffsets :=
  let a := (s.link (l / 4)).asym
  ⟨cable, (((d : Int) + a) / 2).toNat + cable, (((d : Int) - a) / 2).toNat + cable⟩

/-- A loopback measurement of a lane: loopback on, a burst of 2 µs on the lane's primary channel, loopback off. It fails when
a sequence fails or the burst may not be sent (R231, log 160). -/
def loopback (l : Nat) (s : State) : Bool × State :=
  let (on, s) := runHead (l / 4) 2 l s
  let (sent, s) := if !on then (TxResult.blocked, s) else
    transmit 2 { lane := l, chan := s.siteChan l, asn := s.asn, slot := 0, type := 15, node := 0xFFFF, ctr := 0, mesh := none,
                 body := [], wave := .burst } s
  let (off, s) := runHead (l / 4) 3 l s
  (on && sent == .sent && off, s)

/-- RADIO.TX_CAL. The round trip D of a loopback measurement is a free value (log 20); the offsets follow R231. A measurement
takes no notice of tx_ns and rx_ns within their range (log 161). -/
def runRadioTxCal (c : HostCmd) (s : State) : CmdResult :=
  let ps := c.packet.params
  let l := fld ps 0 1
  let side := fld ps 1 1
  let cable := fld ps 4 2
  let head := s.cfg.radio.heads.getD (l / 4) []
  let members := (s.ctl.conns.filter fun e => e.2.par.lane == l).length
  if fld ps 2 1 = 0 then
    let o : LaneOffsets := ⟨cable, fld ps 8 4, fld ps 12 4⟩
    .accepted (setOffs side l o s) (calReply o 0)
  else if side ≠ sideNo s.actId then .refuse erState side
  else if (head.getD 2 []).isEmpty || (head.getD 3 []).isEmpty then .refuse erState 2
  else if members ≠ 0 then .refuse erState members
  else
    match loopback l s with
    | (false, s) => .deferred (finish c erTimeout 1 [] s)
    | (true, s) =>
      let (k, s) := s.draw
      let d := Config.sense 5 k
      let o := measuredOffs s l cable d
      .accepted (setOffs side l o s) (calReply o d)

/-- Rules bits of a sub-band (RADIO.REGION_LOAD). -/
def bandRules (b : SubBand) : Nat := b2n b.duty + 2 * b2n b.dwell + 4 * b2n b.lbt + 8 * b2n b.dfs

/-- One sub-band as RADIO.BUDGET gives it. -/
def budgetBytes (s : State) (l : Nat) (b : SubBand) : List Byte :=
  let xs := s.ctl.budget.budgets.filter fun x => x.lane == l && x.lo == b.lo
  leBytes 4 b.lo ++ leBytes 1 (bandRules b) ++ leBytes 1 (b2n (xs.any (·.exhausted))) ++ zeros 2 ++
    leBytes 4 ((xs.map (·.limitUs)).foldl max 0) ++ leBytes 4 ((xs.map (·.used)).foldl max 0) ++
    leBytes 4 ((xs.map (·.usedRes)).foldl max 0)

/-- Every account of a lane follows MTB. -/
def refreshLane (l : Nat) (s : State) : State :=
  (s.ctl.budget.budgets.filter fun x => x.lane == l).foldl (fun s x => refresh l x.lo x.chan s) s

def runRadioBudget (c : HostCmd) (s : State) : CmdResult :=
  let l := fld c.packet.params 0 1
  let s := refreshLane l s
  let bs := if s.laneOn l then (s.bandsUsed (s.lane l)).filter fun b => b.duty || b.dwell else []
  .ok s (leBytes 1 bs.length ++ zeros 3 ++ bs.flatMap (budgetBytes s l))

/-- The code of a DFS state. -/
def dfsCode : DfsState → Nat
  | .none => 0
  | .cac => 1
  | .available => 2
  | .inUse => 3
  | .unavailable => 4

/-- The lane state of RADIO.LANE_STATUS. -/
def State.laneCode (s : State) (l : Nat) : Nat :=
  if !s.laneOn l then 0
  else
    match (s.linkRun (l / 4)).state with
    | .dataPhase => 1
    | .headFault => 3
    | _ => 2

/-- The CRC-12 errors that a link in its data phase has counted since the last look are a free value (log 164). -/
def countCrc (k : Nat) (s : State) : State :=
  if (s.linkRun k).state = .dataPhase then
    let (d, s) := s.draw
    s.modLink k fun l => { l with crcErrs := sat 32 (l.crcErrs + Config.sense 15 d) }
  else s

def runRadioLaneStatus (c : HostCmd) (s : State) : CmdResult :=
  let l := fld c.packet.params 0 1
  let s := countCrc (l / 4) s
  let x := s.lane l
  let r := s.laneRun l
  let k := s.linkRun (l / 4)
  let noise := fun ch => if s.laneUp l then tgetD r.noise ch (-32768) else -32768
  .ok s (leBytes 1 (s.laneCode l) ++ leBytes 1 x.channels.length ++ zeros 2 ++ leBytes 4 k.crcErrs ++
    leBytes 4 r.phyErrs ++ leBytes 4 r.lbtDefs ++ leBytes 4 k.latency ++
    (List.range x.channels.length).flatMap fun ch =>
      leInt 2 (noise ch) ++ leBytes 1 (match s.dfs l ch with
        | some d => dfsCode d.state
        | none => 0) ++ zeros 1)

/-! ### Events -/

/-- A lane tests one frame and sends it or refuses it (R235). No OFDM frame of more than 100 µs, or at a rate that Table Radio-3
lacks, is sent (R222). -/
def execFrameTransmit (lane chan rate type node : Nat) (body : List Byte) (s : State) :
    Host.Outcome State Fault Refusal :=
  let c := s.lane lane
  let us := airTime c rate (psduLen type false body.length)
  if c.ofdm && (decide (100 < us) || decide (15 < rate)) then .next s
  else
    .next (transmit us
      { lane := lane, chan := chan, asn := s.asn, slot := 0, type := type, node := node, ctr := siteCtr s.asn 0, mesh := none,
        body := body, edition := s.txEdition type node, wave := ppduOf c rate } s).2

/-- MTB passes to the end of the account's bin in progress, and the next begins. -/
def execBudgetBinBoundary (lane lo chan : Nat) (s : State) : Host.Outcome State Fault Refusal :=
  match s.budget lane lo chan with
  | none => .next s
  | some x => .next (refresh lane lo chan (passTicks (x.binEnd - s.clock) s))

/-- TL of R238, in 0.1 dBm/MHz, for a channel at 2.4 GHz or 5 GHz, whose centre lies `off` kHz from the lane's. -/
def lbtLevel (c : LaneSettings) (off : Int) : Int :=
  let p := c.txPower + c.antGain
  if (c.centre : Int) + off < 5000000 then -700 + (200 - p) else -750 + (230 - p)

/-- The energies of the channels of a lane before the next superframe: a level above TL is busy in that superframe. A busy
channel is a deferral of the superframe (R238). -/
def execLbtMeasurement (lane : Nat) (levels : List (Nat × Int)) (s : State) : Host.Outcome State Fault Refusal :=
  let c := s.lane lane
  if !s.laneUp lane || !c.ofdm then .next s
  else
    let busy := levels.filter fun e => match s.chanBand lane e.1 with
      | some b => b.lbt && decide (lbtLevel c (c.channels.getD e.1 0) < e.2)
      | none => false
    let s := s.modLaneRun lane fun r =>
      { r with busy := busy.map (·.1), busyAsn := s.asn + 1, lbtDefs := if busy.isEmpty then r.lbtDefs else satInc 32 r.lbtDefs }
    .next (if busy.isEmpty then s else countEvents 0x0702 (some lane) 1 s)

/-- Radar on a DFS channel: it is unavailable, stop frames may follow for 10 s where it had passed its CAC (R239), and the
members' maps follow (R263). -/
def execRadarDetected (lane chan : Nat) (s : State) : Host.Outcome State Fault Refusal :=
  match s.dfs lane chan with
  | some d =>
    if d.state = .unavailable ∨ d.state = .none then .next s
    else
      let s := s.modDfs lane chan fun d => { d with state := .unavailable, stopsOk := d.state != .cac, stopUs := 0 }
      .next (updateMaps lane (radioEvent lane 3 chan (((s.chanBand lane chan).map (·.lo)).getD 0) s))
  | none => .next s

def execDfsStopWindowEnd (lane chan : Nat) (s : State) : Host.Outcome State Fault Refusal :=
  .next (s.modDfs lane chan fun d => { d with stopsOk := false })

def execCacComplete (lane chan : Nat) (s : State) : Host.Outcome State Fault Refusal :=
  match s.dfs lane chan with
  | some d =>
    if d.state = .cac then
      let s := s.modDfs lane chan fun d => { d with state := .available }
      .next (updateMaps lane (radioEvent lane 4 chan (((s.chanBand lane chan).map (·.lo)).getD 0) s))
    else .next s
  | none => .next s

def execNonOccupancyEnd (lane chan : Nat) (s : State) : Host.Outcome State Fault Refusal :=
  match s.dfs lane chan with
  | some d =>
    if d.state = .unavailable then
      let s := s.modDfs lane chan fun d => { d with state := .cac, stopsOk := false, stopUs := 0 }
      .next (updateMaps lane (radioEvent lane 5 chan (((s.chanBand lane chan).map (·.lo)).getD 0) s))
    else .next s
  | none => .next s

/-- The noise floors averaged over the last second; a channel without a measured slot has none (R232). -/
def execNoiseFloorAverage (lane : Nat) (floors : List (Nat × Int)) (s : State) : Host.Outcome State Fault Refusal :=
  .next (s.modLaneRun lane fun r => { r with noise := floors.foldl (fun t e => tput t e.1 e.2) [] })

def execRadioLinkConfig (p : Packet) (s : State) : Host.Outcome State Fault Refusal :=
  .next (serve 0x0601 runRadioLinkConfig p s)
def execRadioHeadProfile (p : Packet) (s : State) : Host.Outcome State Fault Refusal :=
  .next (serve 0x0602 runRadioHeadProfile p s)
def execRadioLaneConfig (p : Packet) (s : State) : Host.Outcome State Fault Refusal :=
  .next (serve 0x0603 runRadioLaneConfig p s)
def execRadioRegionLoad (p : Packet) (s : State) : Host.Outcome State Fault Refusal :=
  .next (serve 0x0604 runRadioRegionLoad p s)
def execRadioTxCal (p : Packet) (s : State) : Host.Outcome State Fault Refusal :=
  .next (serve 0x0605 runRadioTxCal p s)
def execRadioBudget (p : Packet) (s : State) : Host.Outcome State Fault Refusal :=
  .next (serve 0x0606 runRadioBudget p s)
def execRadioLaneStatus (p : Packet) (s : State) : Host.Outcome State Fault Refusal :=
  .next (serve 0x0607 runRadioLaneStatus p s)

end Sys2Proof.Machine
end

