-- ==== Sys2Proof/Machine/Mac.lean ====
section
/-! DEFINITION.
The Mere link MAC: slots, frames, joins, connections and their opcodes (chapter 10).
-/

namespace Sys2Proof.Machine

/-! ### Frames of the slots (R242 to R251) -/

/-- ATB at a slot: 125 µs slots of a superframe, 2.5 ms slots of a sub-GHz cycle. -/
def slotAtb (ofdm : Bool) (asn slot : Nat) : Nat :=
  atbOfAsn asn + slot * (if ofdm then 8192000000 else 163840000000)

/-- The BEACON body (Table Mere-8). -/
def beaconBody (l asn : Nat) (s : State) : List Byte :=
  let m := s.laneMac l
  beBytes 4 asn ++ beBytes 1 l ++ beBytes 1 (b2n s.atbAligned + 2 * b2n m.joins + 4 * b2n (s.meshLane l)) ++
    beBytes 1 m.joinPeriod ++ beBytes 1 ((s.cfg.keys.current.map (·.keyId)).getD 0) ++ beBytes 2 s.cfg.mac.ctlNode ++
    beBytes 1 s.ctlTol ++ zeros 1

/-- A BEACON goes out, or is skipped; none before a site key is current or a controller identifier is set. -/
def sendBeacon (l asn slot : Nat) (s : State) : State :=
  if !s.hasSiteKey || s.cfg.fed.controller.isNone then s
  else
    match sendSite l 0 asn slot (beaconBody l asn s) s with
    | (.sent, s) => s.modMacLane l fun m => { m with beacons := satInc 32 m.beacons }
    | (_, s) => s.modMacLane l fun m => { m with beaconsSkipped := satInc 32 m.beaconsSkipped }

/-- Whether a BCAST body fits its slot, or its span of 16 slots, at the lane's base rate (R244, Tables Mere-1 and Mere-2). -/
def State.bcastFits (s : State) (l n : Nat) : Bool :=
  airFits (s.lane l) 16 (airTime (s.lane l) (s.laneMac l).baseRate (psduLen 6 (s.meshLane l) n))

/-- The BCAST body of a packet of a broadcast queue (Table Mere-8): an application broadcast is its data behind a header of kind 2, and
Corrections commits whole bodies. -/
def bcastBody (p : PeatPacket) : List Byte := if p.kind = 2 then beBytes 1 2 ++ beBytes 1 0xFF ++ zeros 2 ++ p.data else p.data

/-- The oldest packet of a lane's broadcast queue goes out. One that does not fit is not sent (R244), one that the budget refuses is
dropped and counted (R152), and one that cannot be sent now waits. A stream's frame of an earlier epoch goes out also while streams are
withheld: DESIGN CHOICE (log 191). -/
def sendBcastHead (l asn slot : Nat) (s : State) : State :=
  let q := 0x828 + l
  match (s.queue q).packets with
  | [] => s
  | p :: _ =>
    let b := bcastBody p
    let pop := fun s : State => ((takePacket q s).map (·.2)).getD s
    if !s.bcastFits l b.length then pop s
    else match sendSite l 6 asn slot b s with
    | (.sent, s) => pop s
    | (.refused, s) => pop { s with vol.corr := { s.vol.corr with dropped := s.vol.corr.dropped + 1 } }
    | (.blocked, s) => s

/-- A commit to a broadcast queue satisfies the head read that stalled on it first (R375). -/
def fillBcast (l : Nat) (s : State) : State :=
  match (s.queue (0x828 + l)).stalled with
  | [] => s
  | r :: t => sendBcastHead l r.asn r.slot (s.modQueue (0x828 + l) fun k => { k with stalled := t })

/-- The head read of a BCAST slot: poisoned packets are discarded, and on an empty queue the read stalls, or ends at once at a limit of 0
(R375, R380). -/
def sendBcast (l asn slot : Nat) (s : State) : State :=
  if !s.hasSiteKey || s.cfg.fed.controller.isNone then s
  else
    let q := 0x828 + l
    let s := s.modQueue q fun k => { k with stalled := [], stallOut := sat 16 (k.stallOut + k.stalled.length) }
    let s := dropPoisoned q (s.queue q).packets.length s
    if (s.queue q).packets.isEmpty then headReadEmpty q ⟨l, asn, slot⟩ s else sendBcastHead l asn slot s

/-- A join frame at the lane's base rate on its primary channel. -/
def sendJoin (l type node asn slot edition : Nat) (body : List Byte) (s : State) : State :=
  (sendBase { lane := l, chan := 0, asn := asn, slot := slot, type := type, node := node, ctr := 0, mesh := none,
              body := body, edition := edition } s).2

/-- JOIN_DONE (Table Mere-10). -/
def joinDoneBody (j : JoinRun) : List Byte := beBytes 8 j.memberId ++ beBytes 1 j.status ++ zeros 3

/-- The join frame due in the `k`-th superframe or cycle of a join opportunity (R254, R257). -/
def joinSlot (l k asn slot : Nat) (s : State) : State :=
  match (s.macLane l).join with
  | none => s
  | some j =>
    if k = 1 ∧ j.step = 1 then
      let s := sendJoin l 2 (if j.status = 0 then j.node else 0) asn slot 0 j.rsp s
      s.modMacLane l fun m => { m with join := if j.status = 0 then some { j with step := 2 } else none }
    else if k = 3 ∧ j.step = 3 then
      (sendJoin l 4 j.node asn slot j.edition (joinDoneBody j) s).modMacLane l fun m => { m with join := none }
    else s

/-! ### Connection events (R260 to R266, R497) -/

/-- The channels of a host map that are available on a lane (R263). -/
def State.mapOn (s : State) (l host : Nat) : Nat := maskOf ((bitsOf 64 host).filter fun k => s.chanAvailable l k)

/-- CHAN_MAP for the lane to which a CONN_UPDATE moves a connection, with the instant of the update (R262); with no channel none is
sent, and that is reported (R263). -/
def sendLaneMap (node : Nat) (u : ConnUpdate) (s : State) : State :=
  let m := s.mapOn u.params.lane u.hostMap
  if m = 0 then linkEvent node u.params.lane 6 (s.modConnRun node fun r => { r with emptyTold := true })
  else queueOrRecord node 0 (beBytes 1 2 ++ beBytes 2 u.instant ++ beBytes 8 m)
    (s.modConn node fun c => { c with chanMap := some (u.instant, m) })

/-- The instants of a connection that have been reached by `asn`: a CONN_UPDATE, then a CHAN_MAP (R262). -/
def applyInstants (node asn : Nat) (s : State) : State :=
  match s.conn node with
  | none => s
  | some c =>
    let s := match c.update with
      | some u =>
        if u.newAsn ≤ asn then
          let s := s.modConn node fun c =>
            { c with par := u.params, anchorAsn := u.newAsn, anchorCtr := u.instant, hostMap := u.hostMap, update := none }
          let s := armFrame node s
          if c.chanMap.isSome then s else updateMap node s
        else s
      | none => s
    match s.conn node with
    | none => s
    | some c =>
      match c.chanMap with
      | some (i, m) =>
        if (eventAt c asn + 65536 - i) % 65536 < 32768 ∧ c.anchorAsn ≤ asn then
          let s := s.modConn node fun c => { c with effMap := m, chanMap := none }
          match c.update with
          | some u => if u.params.lane = c.par.lane then updateMap node s else sendLaneMap node u s
          | none => updateMap node s
        else s
      | none => s

/-- Automatic rate over the last 64 frames (MAC.CONN_PARAM): up one code below 10 %, down one above 25 %. -/
def autoStep (r : ConnRun) : ConnRun :=
  let n := (r.failures.filter id).length
  if r.failures.length < 64 then r
  else if n * 10 < 64 ∧ r.autoRate < 7 then { r with autoRate := r.autoRate + 1, failures := [] }
  else if 64 < n * 4 ∧ 0 < r.autoRate then { r with autoRate := r.autoRate - 1, failures := [] }
  else r

/-- A new event of a connection begins: the frame of the last one has failed when nothing answered it. -/
def beginEvent (node e : Nat) (s : State) : State :=
  s.modConnRun node fun r =>
    let r := if r.sentInEvent then { r with failures := ((!r.heardInEvent) :: r.failures).take 64 } else r
    { autoStep r with eventCtr := e, heardInEvent := false, sentInEvent := false }

/-- One event of DISCONNECT has passed; after the third the connection ends (R497). -/
def endingEvent (node : Nat) (s : State) : State :=
  match (s.conn node).bind (·.ending) with
  | none => s
  | some d =>
    if d.left = 0 then s
    else if d.left ≤ 1 then askEnd node d.cause (s.modConn node fun c => { c with ending := some { d with left := 0 } })
    else s.modConn node fun c => { c with ending := some { d with left := d.left - 1 } }

/-- The head read of a slot: what stalled before has ended, poisoned frames are discarded, and on an empty queue the read stalls, or ends at
once at a limit of 0 (R375, R380). -/
def readDown (node asn slot : Nat) (c : Conn) (s : State) : State :=
  let s := dropSpoiled node (s.queue c.flow).packets.length s
  if !(s.queue c.flow).packets.isEmpty then sendDown node asn slot s
  else
    let s := headReadEmpty c.flow ⟨c.par.lane, asn, slot⟩ s
    if (s.queueSettings c.flow).stallUs = 0 then sendDown node asn slot s else s

/-- The controller's downlink frame at an event of a connection (R260). -/
def downlink (node asn slot : Nat) (s : State) : State :=
  match s.conn node with
  | none => s
  | some c =>
    if c.ending.any fun d => d.left == 0 then s
    else if 0xFFF00000 ≤ c.ctrDn + 1 then askEnd node 4 s
    else if s.ctl.handovers.sources.any fun h => h.node == node && h.stage != .offered && decide (h.instant ≤ asn) then s
    else
      let s := beginEvent node (eventAt c asn) (expireDown c.flow node s)
      if s.readsQueue node c then readDown node asn slot c s else endingEvent node (sendDown node asn slot s)

/-- Whether the old parameters of a connection have no event left: its instant has come, and that event falls at the new
anchor (R262). -/
def pastInstant (c : Conn) (asn : Nat) : Bool :=
  match c.update with
  | some u => decide ((eventAt c asn + 65536 - u.instant) % 65536 < 32768) && decide (c.anchorAsn ≤ asn)
  | none => false

/-- The connection whose event falls in this slot. -/
def State.connAt (s : State) (l asn slot : Nat) : Option Nat :=
  (s.ctl.conns.find? fun e => e.2.par.lane == l && e.2.par.downSlot == slot && eventIn e.2 asn && !pastInstant e.2 asn).map
    (·.1)

/-- The frame due in a slot of an OFDM superframe (Table Mere-1). -/
def ofdmSlot (l asn slot : Nat) (s : State) : State :=
  let m := s.laneMac l
  if slot = 1 then (if asn % 64 = 0 then sendBeacon l asn slot s else sendBcast l asn slot s)
  else if 2 ≤ slot ∧ slot ≤ 14 then
    match s.connAt l asn slot with
    | some n => downlink n asn slot s
    | none => s
  else if slot = 15 then
    if m.joins ∧ asn % max 1 m.joinPeriod ≤ 3 then joinSlot l (asn % max 1 m.joinPeriod) asn slot s
    else sendBcast l asn slot s
  else s

/-- The frame due at a span boundary of a sub-GHz cycle that begins at `asn` (Table Mere-2). -/
def subSlot (l asn slot : Nat) (s : State) : State :=
  let m := s.laneMac l
  let c := asn / 50
  if slot = 0 then (if c % 2 = 1 then sendBeacon l asn slot s else s)
  else if 4 ≤ slot ∧ slot ≤ 23 then
    match s.connAt l asn slot with
    | some n => downlink n asn slot s
    | none => s
  else if slot = 24 then
    if m.joins ∧ c % max 1 m.joinPeriod ≤ 3 then joinSlot l (c % max 1 m.joinPeriod) asn slot s
    else sendBcast l asn slot s
  else s

/-- A slot boundary of ATB on a lane; ATB passes to it, and a boundary that has passed has no effect. -/
def execSlotBoundary (lane asn slot : Nat) (s : State) : Host.Outcome State Fault Refusal :=
  let o := (s.lane lane).ofdm
  match s.ctl.time.atb with
  | none => .next s
  | some a =>
    if slotAtb o asn slot < a || !s.laneUp lane then .next s
    else
      let s := passToAtb (slotAtb o asn slot) s
      let s := (s.ctl.conns.filter fun e => e.2.par.lane == lane).foldl (fun s e => applyInstants e.1 asn s) s
      .next (if o then ofdmSlot lane asn slot s else if asn % 50 = 0 then subSlot lane asn slot s else s)

/-- The next instant of a connection: ATB passes to it, and what is due applies (R262). -/
def execConnectionInstant (node : Nat) (s : State) : Host.Outcome State Fault Refusal :=
  match s.conn node with
  | none => .next s
  | some c =>
    let a := (c.update.map (·.newAsn)).or (c.chanMap.map fun m => asnOfEvent c s.asn m.1)
    match a with
    | none => .next s
    | some a => .next (applyInstants node (max a s.asn) (passToAtb (atbOfAsn a) s))

/-! ### Readings of a received frame -/

/-- RSSI in 0.1 dBm at the antenna port, from a frame's mean power in 0.1 dBFS (R232); 0x8000 says none. -/
def State.rssiOf (s : State) (l : Nat) (dbfs : Int) : Int := clampInt (-32767) 32767 (dbfs + (s.lane l).rxFull)

/-- The receive time stamp of a frame on a lane, referred back by the receive offset to the antenna port (R230). -/
def stampRx (l : Nat) (s : State) : State :=
  let o := (s.offs (sideNo s.actId) l).rx
  s.modLaneRun l fun r => { r with rxAt := s.ctl.time.atb.map fun a => (a : Int) - (o : Int) * 65536 }

/-! ### Joining (R253 to R257) -/

/-- The highest edition common to a member's set, the allowed set and the member's limit; 0 for none (R256). -/
def joinEdition (set allowed maxEd : Nat) : Nat :=
  ([3, 2, 1].find? fun e => set.testBit (e - 1) && allowed.testBit (e - 1) && decide (e ≤ maxEd)).getD 0

/-- Whether an address is held by a node other than one member: the controller itself, a connected member, an admission staged on a lane,
or a member that a handover will bring (R32). -/
def State.addrHeld (s : State) (memberId a : Nat) : Bool :=
  a == s.cfg.mac.ctlNode || s.ctl.conns.any (fun e => e.1 == a && e.2.memberId != memberId) ||
    s.vol.mac.lanes.any (fun m => match m.join with
      | some j => j.node == a && j.memberId != memberId && j.status == 0
      | none => false) ||
    s.ctl.handovers.targets.any fun t => t.offer.node == a && t.conn.memberId != memberId

/-- Whether a pool address is free for a member (R256). -/
def State.addrFree (s : State) (memberId a : Nat) : Bool :=
  decide (s.cfg.mac.poolLo ≤ a) && decide (a ≤ s.cfg.mac.poolHi) && (s.conn a).isNone &&
    !(s.cfg.mac.provisions.any fun e => e.2.addr == a) && !s.addrHeld memberId a

/-- The address that a member would take: provisioned, asked for, or the lowest free one. -/
def State.joinAddr (s : State) (memberId : Nat) (p : Provision) (req : Nat) : Option Nat :=
  if p.addr ≠ 0 then some p.addr
  else if s.addrFree memberId req then some req
  else ((List.range (s.cfg.mac.poolHi + 1 - s.cfg.mac.poolLo)).map (s.cfg.mac.poolLo + ·)).find? (s.addrFree memberId)

/-- The connection of a member by member_id. -/
def State.connOfMember (s : State) (m : Nat) : Option (Nat × Conn) := s.ctl.conns.find? fun e => e.2.memberId == m

/-- The least supervision timeout of R271, in 10 ms. -/
def leastSup (ofdm : Bool) (latency interval : Nat) : Nat :=
  ceilDiv ((latency + 1) * interval * 2 + 3 * (if ofdm then 128 else 200)) 10

/-- The checks of Table Mere-12, statuses 1 to 7, in order; and what an admission takes. -/
def joinCheck (l asn memberId editions req : Nat) (s : State) : Nat × Option JoinRun :=
  match tget s.cfg.mac.provisions memberId with
  | none => (1, none)
  | some p =>
    let ed := joinEdition editions s.cfg.mac.editions p.maxEdition
    let old := s.connOfMember memberId
    let others := s.ctl.conns.length - b2n old.isSome
    if !p.lanes.testBit l then (1, none)
    else if ed = 0 then (2, none)
    else
      let addr := s.joinAddr memberId p req
      let flow := match old with
        | some e => some e.2.flow
        | none => s.newFlow (addr.getD 0)
      if 2048 ≤ others ∨ flow.isNone then (3, none)
      else if p.addr != 0 && s.addrHeld memberId p.addr then (4, none)
      else
        match addr with
        | none => (5, none)
        | some node =>
          let ofdm := (s.lane l).ofdm
          let iv := if ofdm then s.cfg.mac.defInterval else ceilDiv s.cfg.mac.defInterval 50 * 50
          match s.place l 0 iv 1 (if ofdm then asn + 4 else asn / 50 * 50 + 200) with
          | none => (6, none)
          | some (a, d, u) =>
            if 32 ≤ s.squadCount p.squad memberId then (7, none)
            else
              let par : ConnParams :=
                { lane := l, squad := p.squad, interval := iv, downSlot := d, upSlot := u, upCount := 1, latency := 0,
                  sup := max s.cfg.mac.defSup (leastSup ofdm 0 iv), hop := 1, seed := 0, rate := 0xFF, relay := false,
                  relayPeriod := 0, relayPhase := 0, relaySlot := 0, mesh := false, ttl := 0 }
              (0, some
                { step := 1, memberId := memberId, node := node, status := 0, edition := ed, squad := p.squad,
                  flow := flow.getD 0, memTol := 0, firstAsn := a, par := par, chanMap := 0, kDn := [], kUp := [],
                  kWrap := [], rsp := [], hash := [] })

/-- A refused admission. -/
def JoinRun.refused (memberId status : Nat) : JoinRun :=
  { step := 1, memberId := memberId, node := 0, status := status, edition := 0, squad := 0, flow := 0x880, memTol := 0,
    firstAsn := 0, par := default, chanMap := 0, kDn := [], kUp := [], kWrap := [], rsp := [], hash := [] }

/-- JOIN_RSP to the end of q_c (Table Mere-10); zero from offset 9 when it refuses. -/
def joinRspHead (j : JoinRun) (tol : Nat) (qc : List Byte) : List Byte :=
  let p := j.par
  if j.status ≠ 0 then beBytes 8 j.memberId ++ beBytes 1 j.status ++ zeros 76
  else
    beBytes 8 j.memberId ++ beBytes 1 0 ++ beBytes 1 j.edition ++ beBytes 1 p.squad ++ beBytes 1 tol ++
      beBytes 2 p.interval ++ beBytes 1 p.downSlot ++ beBytes 1 p.upSlot ++ beBytes 4 j.firstAsn ++ beBytes 1 p.hop ++
      beBytes 1 p.seed ++ beBytes 2 p.sup ++ beBytes 8 j.chanMap ++ beBytes 1 p.upCount ++ beBytes 1 p.rate ++
      beBytes 2 p.latency ++ slice qc 0 49

/-- A received join frame from offset 0 to the end of its `n`-byte body, its ttl taken as zero (R254). -/
def joinFrame (n : Nat) (bs : List Byte) : List Byte :=
  if (fld bs 0 1).testBit 1 then bs.take 4 ++ zeros 1 ++ (bs.drop 5).take (4 + n) else bs.take (4 + n)

/-- The member's ephemeral key in a JOIN_REQ (Table Mere-10). -/
def memberKey (bs : List Byte) : List Byte := slice bs ((if (fld bs 0 1).testBit 1 then 9 else 4) + 32) 49

/-- JOIN_RSP is signed over the transcript of both frames, and the keys of the connection derive from the ECDH secret (R254, R255). The
ephemeral scalar is a free value (log 17). -/
def sealJoin (l : Nat) (req : List Byte) (j : JoinRun) (s : State) : JoinRun × State :=
  let (k, s) := s.draw
  let scalar := slice (Config.random 48 k) 0 48
  let body := joinRspHead j s.ctlTol (Config.p384Public scalar)
  let head := beBytes 1 0x20 ++ beBytes 1 (2 * s.ctrlId) ++ beBytes 2 (if j.status = 0 then j.node else 0)
  let h := Config.sha384 (beBytes 1 l ++ joinFrame 81 req ++ (head ++ body))
  let z := Config.ecdh scalar (memberKey req)
  let okm := slice (Config.hkdf h z (ascii "MERE" ++ beBytes 8 j.memberId ++ beBytes 2 j.node) 64) 0 64
  ({ j with rsp := body ++ slice (Config.ecdsaSign 1 h k) 0 96, hash := h, kDn := slice okm 0 16, kUp := slice okm 16 16,
            kWrap := slice okm 32 32 }, s)

/-- MAC.JOIN_EVENT. -/
def joinEvent (j : JoinRun) (l : Nat) (s : State) : State :=
  sendMsg 0x0780 (leBytes 8 j.memberId ++ leBytes 2 j.node ++ leBytes 1 l ++ leBytes 1 j.status ++ leBytes 1 j.edition ++
    leBytes 1 j.squad ++ zeros 2) s

/-- A refused join is counted, recorded and reported. -/
def joinRefused (j : JoinRun) (l : Nat) (s : State) : State :=
  let s := s.modMacLane l fun m => { m with refused := satInc 32 m.refused }
  record 0x0701 l (leBytes 1 j.status ++ zeros 1 ++ leBytes 8 j.memberId) (joinEvent j l s)

/-- Whether a lane takes a JOIN_REQ at an ASN: a join opportunity begins, joins are open, no exchange is running, a signing
key is held (R253, R496), a site key for the first DATA frame of a connection (R255: DEDUCED, log 176), and a controller identifier set
(R398). -/
def State.joinsOn (s : State) (l asn : Nat) : Bool :=
  s.laneUp l && (s.laneMac l).joins && (s.macLane l).join.isNone && s.cfg.keys.signing.isSome &&
    s.hasSiteKey && s.cfg.fed.controller.isSome &&
    (if (s.lane l).ofdm then asn else asn / 50) % max 1 (s.laneMac l).joinPeriod == 0

/-- A JOIN_REQ that the controller answers: an admission is staged, or a refusal prepared (R256). -/
def joinReq (l asn memberId editions memTol req : Nat) (frame : List Byte) (s : State) : State :=
  if !s.joinsOn l asn then s
  else
    match joinCheck l asn memberId editions req s with
    | (0, some j) =>
      let n := (s.lane l).channels.length
      let j := { j with memTol := memTol }
      let map := maskOf ((List.range n).filter fun k => s.chanAvailable l k)
      let (j, s) := sealJoin l frame { j with chanMap := map } s
      s.modMacLane l fun m => { m with join := some j }
    | (st, _) =>
      let (j, s) := sealJoin l frame (JoinRun.refused memberId st) s
      (joinRefused j l s).modMacLane l fun m => { m with join := some j }

def execJoinReqReceived (lane asn memberId editions memTol reqAddr : Nat) (bytes : List Byte) (s : State) :
    Host.Outcome State Fault Refusal :=
  .next (joinReq lane asn memberId editions memTol reqAddr bytes (stampRx lane s))

/-- The connection of an admission begins: keys, anchor, flow, and SITE_KEY then RATE as its first frames (R255, R262). -/
def beginConn (j : JoinRun) (s : State) : State :=
  let now := s.mtb
  let host := 2 ^ (s.lane j.par.lane).channels.length - 1
  let c : Conn :=
    { memberId := j.memberId, edition := j.edition, flow := j.flow, memTol := j.memTol, par := j.par,
      anchorAsn := j.firstAsn, anchorCtr := 0, hostMap := host, effMap := j.chanMap, kDn := j.kDn, kUp := j.kUp,
      kWrap := j.kWrap, ctrDn := 0, ctrUp := 0, seqDn := 0, nextUp := 0, downSync := false, update := none,
      chanMap := none, ending := none, rateSent := (0xFF, 0) }
  let s := { s with
    ctl.conns := tput s.ctl.conns j.node c
    vol.mac := { s.vol.mac with conns := tput s.vol.mac.conns j.node (ConnRun.start now) }
    vol.dyke := { s.vol.dyke with
      positions := if s.vol.dyke.pinDue.contains j.node then s.vol.dyke.positions else tdel s.vol.dyke.positions j.node }
    vol.solver := { s.vol.solver with runs := tmod s.vol.solver.runs j.node fun r => { r with endedAt := none } } }
  let s := beginFrames j.node (bindFlow j.flow j.node s)
  let s := match s.cfg.keys.current with
    | some k => sendSiteKey k j.node s
    | none => s
  let s := match s.cfg.keys.next with
    | some k => sendSiteKey k j.node s
    | none => s
  updateMap j.node (sendRate true j.node s)

/-- The CONN item of a JOIN_AUTH whose signature verifies: an older connection of the member ends with cause 3, and the new one
begins in the same work item (R257). -/
def joinDone (l : Nat) (j : JoinRun) (s : State) : State :=
  let s := match s.connOfMember j.memberId with
    | some e => endConn e.1 3 s
    | none => s
  let s := beginConn j s
  let s := s.modMacLane l fun m => { m with admitted := satInc 32 m.admitted, join := some { j with step := 3 } }
  let s := if j.edition = 1 ∧ (tget s.cfg.solver.members j.node).isSome then recordOther 4 0 s else s
  joinEvent j l s

/-- JOIN_AUTH of the exchange in progress; sig_m is over SHA-384(H ‖ sig_c) (R254, R257). -/
def joinAuth (l : Nat) (sig : List Byte) (s : State) : State :=
  match (s.macLane l).join with
  | none => s
  | some j =>
    if j.step ≠ 2 then s
    else
      let key := ((tget s.cfg.mac.provisions j.memberId).map (·.pubkey)).getD []
      if Config.ecdsaVerify (leNat key) (Config.sha384 (j.hash ++ slice j.rsp 85 96)) sig then
        workOn 6 j.flow j.node (.joinAuthReceived l sig) (joinDone l j) s
      else
        let j := { j with status := 8, step := 3 }
        (joinRefused j l s).modMacLane l fun m => { m with join := some j }

def execJoinAuthReceived (lane : Nat) (sig : List Byte) (s : State) : Host.Outcome State Fault Refusal :=
  .next (joinAuth lane sig s)

def execJoinAuthMissing (lane : Nat) (s : State) : Host.Outcome State Fault Refusal :=
  match (s.macLane lane).join with
  | some j => .next (if j.step = 2 then s.modMacLane lane fun m => { m with join := none } else s)
  | none => .next s

/-! ### Reception (R246, R249, R265 to R267) -/

/-- Outstanding frames that an ack acknowledges (R266): every one up to it. -/
def ackHeld (ack : Nat) (held : List DataFrame) : List DataFrame :=
  match held.findIdx? fun f => f.seq == ack with
  | some k => held.drop (k + 1)
  | none => held

/-- Whether a member may send a kind in the connection's edition (R258, Table Mere-6). -/
def kindAllowed (edition kind : Nat) : Bool :=
  kind == 0 || (kind == 1 && decide (2 ≤ edition)) || kind == 2 || kind == 4 || kind == 5

/-- An accepted payload goes to the member's flow by reference to its packet (R267, R354); none when the pool refuses
the packet, which leaves the frame unaccepted (R379). -/
def deliver (node l kind : Nat) (payload : List Byte) (c : Conn) (s : State) : Option State :=
  if !kindAllowed c.edition kind then
    some (s.modMacLane l fun m => { m with protocol := satInc 32 m.protocol })
  else
    match commitPacket (0x800 + l) payload.length kind node payload s with
    | none => none
    | some (cell, s) =>
      some (enqueue { newItem (if kind = 1 ∨ kind = 2 then 1 else 2) c.flow node with
        queue := some (0x800 + l), cell := some cell, args := beBytes 1 kind } s)

/-- The seq test of R267 on a non-null frame. -/
def acceptSeq (node l seq kind : Nat) (payload : List Byte) (s : State) : State :=
  match s.conn node with
  | none => s
  | some c =>
    let d := (seq + 4096 - c.nextUp) % 4096
    if d = 0 then
      match deliver node l kind payload c s with
      | some s => s.modConn node fun c => { c with nextUp := (c.nextUp + 1) % 4096 }
      | none => refuseReserve (0x800 + l) payload.length s
    else if 4032 ≤ d then
      (s.modConnRun node fun r => { r with dups := satInc 32 r.dups }).modMacLane l fun m =>
        { m with dups := satInc 32 m.dups }
    else s.modMacLane l fun m => { m with order := satInc 32 m.order }

/-- A member's sync frame: the receive sequence starts at its seq, and, since a member sets sync only after one of ours,
it ends the sync of the downlink. DEDUCED (log 23). The sync is reported by a CONN item (R354). -/
def syncFrame (node l seq : Nat) (c : Conn) (s : State) : State :=
  let s := s.modConn node fun c => { c with nextUp := seq, downSync := false }
  if !c.downSync then s
  else if s.servesNow 6 c.flow then linkEvent node l 10 (ranItem 6 c.flow node s)
  else enqueue { newItem 6 c.flow node with work := some .syncDone } s

/-- A DATA frame of a member whose FCS and MIC have passed (R249, R265 to R267, R497). -/
def dataFrame (l node ctr seq kind ack : Nat) (sync : Bool) (dbfs : Int) (payload : List Byte) (s : State) : State :=
  match s.conn node with
  | none => s
  | some c =>
    if c.par.lane ≠ l then s
    else if ctr ≤ c.ctrUp then s.modMacLane l fun m => { m with stale := satInc 32 m.stale }
    else
      let now := s.mtb
      let s := countEvents 0x0602 (some l) 1 (s.modConn node fun c => { c with ctrUp := ctr })
      let rssi := s.rssiOf l dbfs
      let s := s.modConnRun node fun r => { r with lastHeard := now, rssi := rssi, heardInEvent := true }
      if kind = 0 ∧ (payload.headD 0).toNat = 5 ∧ payload ≠ [] then
        askEnd node (fld payload 1 1) s
      else
        let s := if sync then syncFrame node l seq c s
          else s.modConnRun node fun r => { r with held := ackHeld ack r.held }
        if payload.isEmpty then s else acceptSeq node l seq kind payload s

def execDataFrameReceived (lane node ctr seq kind ack : Nat) (sync : Bool) (dbfs : Int) (payload : List Byte)
    (s : State) : Host.Outcome State Fault Refusal :=
  .next (dataFrame lane node ctr (seq % 4096) (kind % 16) (ack % 4096) sync dbfs payload (stampRx lane s))

/-- A frame with the mesh extension whose key the seen cache holds, or that this controller originated (R274). -/
def seenFrame (l origin mseq : Nat) (s : State) : Bool × State :=
  if s.vol.mac.seen.contains (origin, mseq) || origin == s.cfg.mac.ctlNode then
    (true, s.modMacLane l fun m => { m with seenDisc := satInc 32 m.seenDisc })
  else
    let seen := s.vol.mac.seen ++ [(origin, mseq)]
    (false, { s with vol.mac := { s.vol.mac with seen := seen.drop (seen.length - 4096) } })

/-- A frame body by type, once FCS and MIC have passed. -/
def frameBody (l type node : Nat) (dbfs : Int) (body : List Byte) (ctr : Nat) (frame : List Byte) (s : State) : State :=
  if type = 1 then
    joinReq l s.asn (beNat (slice body 0 8)) (beNat (slice body 8 1)) (beNat (slice body 9 1)) (beNat (slice body 10 2))
      frame s
  else if type = 3 then
    if ctr ≠ 0 then s.modMacLane l fun m => { m with stale := satInc 32 m.stale }
    else if ((s.macLane l).join.map (·.node)) = some node then joinAuth l (slice body 0 96) s
    else s
  else if type = 5 then
    let w := beNat (slice body 0 4)
    dataFrame l node ctr (w / 2 ^ 20) (w / 2 ^ 16 % 16) (w / 16 % 4096) (w.testBit 2) dbfs (body.drop 4) s
  else s.modMacLane l fun m => { m with protocol := satInc 32 m.protocol }

/-- Whether R220 discards a frame of a sub-GHz lane for its PHR: FCS type 0, FEC, or mode switch. -/
def State.phyError (s : State) (l : Nat) (fcsType fec modeSwitch : Bool) : Bool :=
  !(s.lane l).ofdm && (!fcsType || fec || modeSwitch)

/-- The key of the MIC of a member's frame (Table Mere-4). -/
def State.rxKey (s : State) (l type node : Nat) : Option (List Byte) :=
  if type = 3 then ((s.macLane l).join.filter fun j => j.node == node).map (·.kUp)
  else if type = 5 then (s.conn node).map (·.kUp)
  else none

/-- Whether the MIC of a received frame is that of R249 under the key of its sender; the frames that no member sends have none. -/
def State.micFits (s : State) (l : Nat) (bs : List Byte) : Bool :=
  let type := fld bs 0 1 / 16
  let n := bs.length - 8
  let covered := if (fld bs 0 1).testBit 1 then bs.take 4 ++ zeros 1 ++ (bs.take n).drop 5 else bs.take n
  if type = 3 ∨ type = 5 then
    match s.rxKey l type (beNat (slice bs 2 2)) with
    | some k => bs.drop n == mic k (beBytes 1 l ++ covered)
    | none => false
  else true

/-- w of R269 for a frame due `t` after the start of the downlink frame of its event, both in units of ATB; never more than half a slot. -/
def State.window (s : State) (c : Conn) (t : Nat) : Nat :=
  min ((if s.connOfdm c then 62500 else 1250000) * 65536) ((s.ctlTol + c.memTol) * t / 4000000 + 32000 * 65536)

/-- Whether the receive time stamp of a lane lies in the window of an uplink slot of a connection (R260, R269). A copy that a relay
sends comes in the relay's slots: DEDUCED (log 177). -/
def State.heardInWindow (s : State) (l : Nat) (c : Conn) : Bool :=
  let o := s.connOfdm c
  let asn := if o then s.asn else s.asn / 50 * 50
  match (s.laneRun l).rxAt with
  | none => false
  | some r =>
    eventIn c asn && (List.range c.par.upCount).any fun k =>
      let up := slotAtb o asn (c.par.upSlot + k * (s.slotRange l).2.2)
      decide ((r - (up : Int)).natAbs ≤ s.window c (up - slotAtb o asn c.par.downSlot))

/-- Whether a DATA frame is heard: it starts in the window of an uplink slot of its connection, or is a relayed copy. -/
def State.frameHeard (s : State) (l : Nat) (bs : List Byte) : Bool :=
  match fld bs 0 1 / 16 == 5 && !(fld bs 0 1).testBit 1, s.conn (beNat (slice bs 2 2)) with
  | true, some c => s.heardInWindow l c
  | _, _ => true

/-- Whether the edition of a frame's header is what Table Mere-3 says: that of the connection in DATA and of the admission in JOIN_AUTH, and
0 in every other type. -/
def State.editionFits (s : State) (l : Nat) (bs : List Byte) : Bool :=
  let node := beNat (slice bs 2 2)
  let e := fld bs 0 1 / 4 % 4
  match fld bs 0 1 / 16 with
  | 3 => ((s.macLane l).join.filter fun j => j.node == node).all fun j => j.edition == e
  | 5 => (s.conn node).all fun c => c.edition == e
  | _ => e == 0

/-- A frame received on a lane, with the bits of its PHR (sub-GHz), its mean power and its octets (R220, R245, R246, R269, R274). `micOk` is
false when the AES engine reports a failure (log 83). A frame whose edition does not fit counts as a protocol error: DESIGN CHOICE
(log 178). -/
def execFrameReceived (lane : Nat) (fcsType fec modeSwitch fcsOk micOk : Bool) (dbfs : Int) (bytes : List Byte) (s : State) :
    Host.Outcome State Fault Refusal :=
  let b0 := fld bytes 0 1
  let ctrl := fld bytes 1 1
  let type := b0 / 16
  let mesh := b0.testBit 1
  let node := beNat (slice bytes 2 2)
  let ext := if mesh then 5 else 0
  let tail := if type = 1 ∨ type = 2 then 0 else 12
  let body := (bytes.drop (4 + ext)).take (bytes.length - 4 - ext - tail)
  let ctr := beNat (slice bytes (bytes.length - 12) 4)
  let s := if s.laneUp lane then stampRx lane s else s
  if !s.laneUp lane || !s.frameHeard lane bytes then .next s
  else if s.phyError lane fcsType fec modeSwitch then .next (s.modLaneRun lane fun r => { r with phyErrs := satInc 32 r.phyErrs })
  else if !fcsOk then .next (s.modMacLane lane fun m => { m with fcs := satInc 32 m.fcs })
  else if 9 ≤ type then .next (s.modMacLane lane fun m => { m with protocol := satInc 32 m.protocol })
  else if s.cfg.fed.controller != some (ctrl / 2) || ctrl % 2 == 0 then
    .next (s.modMacLane lane fun m => { m with foreign := satInc 32 m.foreign })
  else
    let (seen, s) := if mesh then seenFrame lane (beNat (slice bytes 5 2)) (beNat (slice bytes 7 2)) s else (false, s)
    if seen then .next s
    else if tail == 12 && !(micOk && s.micFits lane bytes) then
      .next (countEvents 0x0603 (some lane) 1 (s.modMacLane lane fun m => { m with mic := satInc 32 m.mic }))
    else if !s.editionFits lane bytes then .next (s.modMacLane lane fun m => { m with protocol := satInc 32 m.protocol })
    else .next (frameBody lane type node dbfs body ctr bytes s)

def execSupervisionTimeout (node : Nat) (s : State) : Host.Outcome State Fault Refusal :=
  match s.conn node with
  | some c => .next (workOn 6 c.flow node (.supervisionTimeout node) (endConn node 2) s)
  | none => .next s

/-- A cached key is aged out 30 s after its frame (R274). -/
def execSeenCacheAgeOut (origin mseq : Nat) (s : State) : Host.Outcome State Fault Refusal :=
  .next { s with vol.mac := { s.vol.mac with seen := s.vol.mac.seen.filter (· != (origin, mseq)) } }

/-- At the switch ASN the next site key becomes current (R454). -/
def execSiteKeySwitch (s : State) : Host.Outcome State Fault Refusal :=
  match s.cfg.keys.next, s.ctl.time.atb with
  | none, _ => .next s
  | _, none => .next s
  | some k, some _ =>
    let s := passToAtb (atbOfAsn k.switchAsn) s
    .next { s with ctl.cfg.keys := { s.cfg.keys with former := s.cfg.keys.current, current := some k, next := none } }

/-- 64 superframes after the switch the former key is discarded (R454, R262). -/
def execOldSiteKeyDiscard (s : State) : Host.Outcome State Fault Refusal :=
  match s.cfg.keys.former, s.cfg.keys.current with
  | some _, some k =>
    let s := passToAtb (atbOfAsn (k.switchAsn + 64)) s
    .next { s with ctl.cfg.keys := { s.cfg.keys with former := none } }
  | _, _ => .next { s with ctl.cfg.keys := { s.cfg.keys with former := none } }

/-! ### Commits and stalled reads (R373, R375) -/

/-- The node of the connection that has a flow. -/
def State.nodeOfFlow (s : State) (f : Nat) : Option Nat := (s.ctl.conns.find? fun e => e.2.flow == f).map (·.1)

/-- A packet that has entered a queue satisfies the head read that stalled on it first (R375). -/
def fillRead (q : Nat) (s : State) : State :=
  if (s.queue q).stalled.isEmpty || (s.queue q).packets.isEmpty then s
  else if q < 0x800 then
    match s.nodeOfFlow q with
    | some n => fillDown q n s
    | none => s
  else if 0x828 ≤ q ∧ q < 0x830 then fillBcast (q - 0x828) s
  else s

/-- A producer reserves a packet on a queue and commits its data, or abandons it (R373). -/
def execPacketCommit (queue maxLen kind node : Nat) (data : List Byte) (s : State) : Host.Outcome State Fault Refusal :=
  if !queueListed queue then .next s
  else if data.isEmpty || decide (maxLen < data.length) then .next (reserveOnly queue maxLen s)
  else .next (fillRead queue (produce queue maxLen kind node data s))

/-- The head read that stalled first on a queue returns empty at its limit: the downlink slot that it was for gets a null frame (R266,
R375). -/
def execHeadReadStallExpiry (queue : Nat) (s : State) : Host.Outcome State Fault Refusal :=
  match (s.queue queue).stalled, (if queue < 0x800 then s.nodeOfFlow queue else none) with
  | [], _ => .next s
  | _ :: _, some n => .next (expireDown queue n s)
  | _ :: t, none => .next (s.modQueue queue fun k => { k with stalled := t, stallOut := satInc 16 k.stallOut })

/-! ### Opcodes -/

def runMacConfig (c : HostCmd) (s : State) : CmdResult :=
  let ps := c.packet.params
  let ctl := fld ps 0 2
  let lo := fld ps 4 2
  let hi := fld ps 6 2
  let outside := s.ctl.conns.find? fun e =>
    !(match tget s.cfg.mac.provisions e.2.memberId with
      | some p => p.addr != 0
      | none => false) && (decide (e.1 < lo) || decide (hi < e.1))
  if hi < lo ∨ hi = 0xFFFF then .refuse erRange 6
  else if ctl ≠ s.cfg.mac.ctlNode ∧ s.ctl.conns ≠ [] then .refuse erState s.ctl.conns.length
  else if lo ≤ ctl ∧ ctl ≤ hi then .refuse erRange 0
  else
    match outside with
    | some e => .refuse erConflict e.1
    | none =>
      .accepted { s with ctl.cfg.mac := { s.cfg.mac with
        ctlNode := ctl, editions := fld ps 2 1, poolLo := lo, poolHi := hi, defInterval := fld ps 8 2,
        defSup := fld ps 10 2, meshTtl := fld ps 12 1 } } []

def runMacLaneMac (c : HostCmd) (s : State) : CmdResult :=
  let ps := c.packet.params
  let l := fld ps 0 1
  let x : LaneMac := ⟨fld ps 1 1 == 1, fld ps 2 1, fld ps 3 1, fld ps 4 1, fld ps 5 1⟩
  let ofdm := (s.lane l).ofdm
  let n := (s.ctl.conns.filter fun e => e.2.par.lane == l).length
  if (ofdm ∧ (x.baseRate < 4 ∨ 7 < x.baseRate)) ∨ (!ofdm ∧ x.baseRate ≠ 0) then .refuse erRange 3
  else if (ofdm ∧ x.span ≠ 0) ∨ (!ofdm ∧ (x.span < 1 ∨ 8 < x.span)) then .refuse erRange 5
  else if !s.laneOn l then .refuse erState l
  else if (s.lane l).channels.length ≤ x.primary then .refuse erRange 4
  else if x.span ≠ (s.laneMac l).span ∧ n ≠ 0 then .refuse erState n
  else .accepted { s with ctl.cfg.mac := { s.cfg.mac with lanes := s.cfg.mac.lanes.set l (some x) } } []

def runMacProvision (c : HostCmd) (s : State) : CmdResult :=
  let ps := c.packet.params
  let m := fld ps 4 8
  let t := s.cfg.mac.provisions
  let reply := fun t : Tbl Provision => leBytes 2 t.length
  let node := (s.connOfMember m).map (·.1)
  if fld ps 0 1 = 0 then
    let t := tdel t m
    let s := { s with ctl.cfg.mac := { s.cfg.mac with provisions := t } }
    .accepted (match node with
      | some n => (disconnect n 8 s).2
      | none => s) (reply t)
  else
    let p : Provision :=
      { maxEdition := fld ps 1 1, addr := fld ps 2 2, squad := fld ps 12 1, lanes := fld ps 13 1,
        maxLatency := fld ps 14 2, flags := fld ps 16 1, pubkey := slice ps 20 49 }
    if (tget t m).isNone ∧ 4096 ≤ t.length then .refuse erCapacity 0
    else if p.addr ≠ 0 ∧ t.any (fun e => e.1 != m && e.2.addr == p.addr) then .refuse erConflict p.addr
    else
      match node with
      | some n => .refuse erState n
      | none =>
        let t := tput t m p
        .accepted { s with ctl.cfg.mac := { s.cfg.mac with provisions := t } } (reply t)

/-- Ranges of MAC.CONN_PARAM that depend on other fields or on state and that its list does not name (R11). -/
def connRangeError (ps : List Byte) (s : State) : Option Nat :=
  let l := fld ps 2 1
  let flags := fld ps 20 1
  let maxLat := (s.conn (fld ps 0 2)).bind fun c => (tget s.cfg.mac.provisions c.memberId).map (·.maxLatency)
  if (match maxLat with
      | some m => decide (m < fld ps 6 2)
      | none => false) then some 6
  else if !(s.lane l).ofdm ∧ fld ps 11 1 ≠ 0xFF then some 11
  else if 2 ^ (s.lane l).channels.length ≤ fld ps 12 8 then some 12
  else if flags.testBit 0 ≠ decide (1 ≤ fld ps 21 1 ∧ fld ps 21 1 ≤ 64) ∨ (!flags.testBit 0 ∧ fld ps 21 1 ≠ 0) then some 21
  else if flags.testBit 1 ≠ decide (1 ≤ fld ps 22 1 ∧ fld ps 22 1 ≤ 15) ∨ (!flags.testBit 1 ∧ fld ps 22 1 ≠ 0) then some 22
  else none

/-- Bits set in a map below 64. -/
def popcount (m : Nat) : Nat := (bitsOf 64 m).length

/-- The new parameters of a connection before they are placed. -/
def connParamsOf (ps : List Byte) (c : Conn) : ConnParams :=
  let flags := fld ps 20 1
  { c.par with
    lane := fld ps 2 1, squad := fld ps 3 1, interval := fld ps 4 2, upCount := fld ps 10 1, latency := fld ps 6 2,
    sup := fld ps 8 2, rate := fld ps 11 1, relay := flags.testBit 0, relayPeriod := fld ps 21 1,
    mesh := flags.testBit 1, ttl := fld ps 22 1 }

/-- The checks of MAC.CONN_PARAM up to capacity, in its order. -/
def connParamError (node : Nat) (c : Conn) (p : ConnParams) (map : Nat) (s : State) : Option (Nat × Nat) :=
  let ofdm := (s.lane p.lane).ofdm
  let need := leastSup ofdm p.latency p.interval
  let prov := ((tget s.cfg.mac.provisions c.memberId).map (·.flags)).getD 0
  let dwellMin := ((s.bandsUsed (s.lane p.lane)).map fun b => if b.dwell then b.minChan else 0).foldl max 0
  match c.update with
  | some u => some (erBusy, u.instant)
  | none =>
    if (s.lane p.lane).cls ≠ (s.lane c.par.lane).cls then some (erRange, 2)
    else if !ofdm ∧ p.interval % 50 ≠ 0 then some (erRange, 4)
    else if p.sup < need then some (erRange, if 3200 < need then 6 else 8)
    else if map = 0 ∨ popcount map < dwellMin then some (erRange, 12)
    else if (p.relay && !prov.testBit 0) || (p.mesh && !prov.testBit 1) then some (erState, 1)
    else if p.squad ≠ c.par.squad ∧ 32 ≤ s.squadCount p.squad c.memberId then some (erCapacity, 0x100 + p.squad)
    else if node = 0 then some (erState, 0)
    else none

/-- The instant of a CONN_UPDATE: on a change of lane a CHAN_MAP follows it, and one outstanding takes effect before that is sent
(R262). -/
def State.updateInstant (s : State) (node : Nat) (c : Conn) (lane : Nat) : Nat :=
  let i := s.nextInstant node c
  let e := eventAt c s.asn
  let ahead := fun x => (x + 65536 - e) % 65536
  if lane = c.par.lane then i
  else
    match c.chanMap with
    | some (k, _) => (e + max (ahead i + 1) (ahead k + c.par.latency + 5)) % 65536
    | none => (i + 1) % 65536

/-- New parameters placed on their lane at the instant: none when no placement exists; a disabled lane has none. -/
def placeUpdate (node : Nat) (c : Conn) (p : ConnParams) (map : Nat) (s : State) : Option ConnUpdate :=
  let i := s.updateInstant node c p.lane
  let a := asnOfEvent c s.asn i
  match (if s.laneOn p.lane then s.place p.lane node p.interval p.upCount a else none) with
  | none => none
  | some (asn, d, u) =>
    let p := { p with downSlot := d, upSlot := u }
    if p.relay then
      match s.placeRelay p.lane node p.relayPeriod (asn, p.interval, s.connSlots p) with
      | none => none
      | some (ph, k) => some ⟨i, asn, { p with relayPhase := ph, relaySlot := k }, map⟩
    else some ⟨i, asn, { p with relayPeriod := 0, relayPhase := 0, relaySlot := 0 }, map⟩

/-- A CONN_UPDATE goes out, and with it a CHAN_MAP when the map in force changes; the one for a new lane waits for one outstanding. -/
def startUpdate (node : Nat) (c : Conn) (u : ConnUpdate) (s : State) : State :=
  let s := queueOrRecord node 0 (connUpdateMsg u) (s.modConn node fun c => { c with update := some u })
  if u.params.lane = c.par.lane then updateMap node (s.modConn node fun c => { c with hostMap := u.hostMap })
  else if c.chanMap.isSome then s
  else sendLaneMap node u s

def runMacConnParam (c : HostCmd) (s : State) : CmdResult :=
  let ps := c.packet.params
  let node := fld ps 0 2
  match connRangeError ps s with
  | some o => .refuse erRange o
  | none =>
    match s.conn node with
    | none => .refuse erState 0
    | some k =>
      let p := connParamsOf ps k
      match connParamError node k p (fld ps 12 8) s with
      | some (st, d) => .refuse st d
      | none =>
        match placeUpdate node k p (fld ps 12 8) s with
        | none => .refuse erCapacity p.lane
        | some u => .accepted (startUpdate node k u s) (leBytes 2 u.instant ++ leBytes 4 u.newAsn)

def runMacDrop (c : HostCmd) (s : State) : CmdResult :=
  let node := fld c.packet.params 0 2
  match s.conn node with
  | none => .refuse erState 0
  | some _ => .accepted (disconnect node 1 s).2 []

def runMacMemberRead (c : HostCmd) (s : State) : CmdResult :=
  let node := fld c.packet.params 0 2
  match s.conn node with
  | none => .ok s (zeros 56)
  | some k =>
    let r := s.connRun node
    let p := k.par
    .ok s (leBytes 8 k.memberId ++ leBytes 1 (if k.update.isSome then 2 else 1) ++ leBytes 1 k.edition ++
      leBytes 1 p.lane ++ leBytes 1 p.squad ++ leBytes 2 p.interval ++ leBytes 2 p.latency ++ leBytes 2 p.sup ++
      leBytes 2 (eventAt k s.asn) ++ leInt 2 r.rssi ++ leBytes 1 k.memTol ++
      leBytes 1 (b2n p.relay + 2 * b2n p.mesh + 4 * b2n k.downSync) ++ leBytes 2 k.seqDn ++ leBytes 2 k.nextUp ++
      leBytes 4 k.ctrDn ++ leBytes 4 k.ctrUp ++ leBytes 4 r.repeats ++ leBytes 4 r.dups ++ leBytes 4 r.skipped ++
      leBytes 8 (s.effective k))

def runMacStatus (c : HostCmd) (s : State) : CmdResult :=
  let l := fld c.packet.params 0 1
  let m := s.macLane l
  let on := s.ctl.conns.filter fun e => e.2.par.lane == l
  .ok s ([on.length, (on.filter fun e => e.2.par.mesh).length, m.admitted, m.refused, m.beacons, m.beaconsSkipped, m.fcs,
    m.mic, m.stale, m.order, m.dups, m.protocol, m.skips, m.seenDisc].flatMap fun n => leBytes 4 n)

def runMacSend (c : HostCmd) (s : State) : CmdResult :=
  let ps := c.packet.params
  let node := fld ps 0 2
  let n := fld ps 2 2
  match s.conn node with
  | none => .refuse erState 0
  | some k =>
    if !s.poolGrants k.flow (4 + n) then .refuse erCapacity node
    else
      let l := k.par.lane
      match fitRate (s.lane l) (s.slotRange l).2.2 (s.rateInForce node k) (psduLen 5 k.par.mesh (4 + n)) with
      | none => .refuse erRange 2
      | some _ =>
        match queueFrame node 5 ((ps.drop 4).take n) s with
        | some (seq, s) => .accepted s (leBytes 2 seq)
        | none => .refuse erCapacity node

def execMacConfig (p : Packet) (s : State) : Host.Outcome State Fault Refusal := .next (serve 0x0701 runMacConfig p s)
def execMacLaneMac (p : Packet) (s : State) : Host.Outcome State Fault Refusal := .next (serve 0x0702 runMacLaneMac p s)
def execMacProvision (p : Packet) (s : State) : Host.Outcome State Fault Refusal :=
  .next (serve 0x0703 runMacProvision p s)
def execMacConnParam (p : Packet) (s : State) : Host.Outcome State Fault Refusal :=
  .next (serve 0x0704 runMacConnParam p s)
def execMacDrop (p : Packet) (s : State) : Host.Outcome State Fault Refusal := .next (serve 0x0705 runMacDrop p s)
def execMacMemberRead (p : Packet) (s : State) : Host.Outcome State Fault Refusal :=
  .next (serve 0x0706 runMacMemberRead p s)
def execMacStatus (p : Packet) (s : State) : Host.Outcome State Fault Refusal := .next (serve 0x0707 runMacStatus p s)
def execMacSend (p : Packet) (s : State) : Host.Outcome State Fault Refusal := .next (serve 0x0708 runMacSend p s)

end Sys2Proof.Machine
end

