-- ==== Sys2Proof/Machine/Filter.lean ====
section
/-! DEFINITION.
The extended Kalman filter of a solved member (R170 to R172, R174): its states and covariance, their prediction, and the
update by one scalar measurement after another. Positions, velocities and ambiguities are in mm and mm/s, as exact
rationals: the rounding of FP64 and FP32 is left out (log 154). What depends on a satellite's place in the sky is a free value (log 39).
-/

namespace Sys2Proof.Machine

/-! ### States and covariance -/

def FilterVar.isAmb : FilterVar → Bool
  | .amb _ _ _ => true
  | _ => false

def FilterVar.isIono : FilterVar → Bool
  | .iono _ _ => true
  | _ => false

def FilterVar.isClock : FilterVar → Bool
  | .clock _ => true
  | _ => false

/-- The states that a takeover restores (R174). -/
def FilterVar.kept : FilterVar → Bool
  | .pos _ => true
  | .vel _ => true
  | .drift => true
  | .trop => true
  | _ => false

def Filter.vars (f : Filter) : List FilterVar := f.vals.map (·.1)

/-- The value of a state. -/
def Filter.val (f : Filter) (v : FilterVar) : Rat := ((f.vals.find? fun e => e.1 == v).map (·.2)).getD 0

/-- The covariance of two states. -/
def Filter.p (f : Filter) (a b : FilterVar) : Rat :=
  ((f.cov.find? fun e => e.1 == (a, b) || e.1 == (b, a)).map (·.2)).getD 0

/-- Every pair of states once, as the packed covariance holds them. -/
def pairsOf : List FilterVar → List (FilterVar × FilterVar)
  | [] => []
  | v :: l => (v, v) :: (l.map fun w => (v, w)) ++ pairsOf l

/-- A filter over states, by their values and covariances. -/
def Filter.build (ms : Nat) (vars : List FilterVar) (val : FilterVar → Rat) (p : FilterVar → FilterVar → Rat) : Filter :=
  { ms := ms, vals := vars.map fun v => (v, val v), cov := (pairsOf vars).map fun e => (e, p e.1 e.2) }

def Filter.empty (ms : Nat) : Filter := { ms := ms, vals := [], cov := [] }

/-- The states of which a test holds. -/
def Filter.only (keep : FilterVar → Bool) (f : Filter) : Filter := Filter.build f.ms (f.vars.filter keep) f.val f.p

/-- A state is initialised: its value and variance, uncorrelated with every other. -/
def Filter.init (v : FilterVar) (x var : Rat) (f : Filter) : Filter :=
  Filter.build f.ms ((f.vars.filter (· != v)) ++ [v]) (fun w => if w = v then x else f.val w)
    fun a b => if a = v ∨ b = v then (if a = b then var else 0) else f.p a b

/-- A state is initialised unless the filter holds it. -/
def Filter.need (v : FilterVar) (x var : Rat) (f : Filter) : Filter := if f.vars.contains v then f else f.init v x var

/-! ### Prediction (Table Solver-4) -/

/-- A linear combination of states. -/
abbrev Row := List (FilterVar × Rat)

/-- The value of a combination. -/
def Filter.dot (f : Filter) (h : Row) : Rat := (h.map fun e => e.2 * f.val e.1).sum

/-- The covariance of a combination with a state. -/
def Filter.covWith (f : Filter) (h : Row) (v : FilterVar) : Rat := (h.map fun e => e.2 * f.p e.1 v).sum

/-- The covariance of two combinations. -/
def Filter.covRows (f : Filter) (a b : Row) : Rat := (b.map fun e => e.2 * f.covWith a e.1).sum

/-- East, north and up at the filter's position, as ECEF vectors. -/
def Filter.axes (f : Filter) : List (List Rat) :=
  frameAt (roundRat (f.val (.pos 0)), roundRat (f.val (.pos 1)), roundRat (f.val (.pos 2)))

/-- The ECEF component `i` of axis `j`. -/
def axisAt (ax : List (List Rat)) (i j : Nat) : Rat := (ax.getD j []).getD i 0

/-- Process noise in the filter's units: velocity per axis in mm²/s³, troposphere and ionosphere in mm²/s. -/
structure Noise where
  vel  : List Rat
  trop : Rat
  iono : Rat

/-- What a state is after `dt` seconds, as a combination of the states before: position is integrated from velocity, and the
receiver clocks from their drift. -/
def stateRow (ax : List (List Rat)) (dt : Rat) : FilterVar → Row
  | .pos i => (.pos i, 1) :: (List.range 3).map fun j => (.vel j, dt * axisAt ax i j)
  | .clock c => [(.clock c, 1), (.drift, dt)]
  | v => [(v, 1)]

/-- The process noise that `dt` seconds add to the covariance of two states; that of velocity is integrated into position. -/
def processNoise (ax : List (List Rat)) (n : Noise) (dt : Rat) : FilterVar → FilterVar → Rat
  | .pos i, .pos j => ((List.range 3).map fun k => axisAt ax i k * axisAt ax j k * n.vel.getD k 0).sum * dt * dt * dt / 3
  | .pos i, .vel k => axisAt ax i k * n.vel.getD k 0 * dt * dt / 2
  | .vel k, .pos i => axisAt ax i k * n.vel.getD k 0 * dt * dt / 2
  | .vel i, .vel j => if i = j then n.vel.getD i 0 * dt else 0
  | .drift, .drift => 100 * dt
  | .trop, .trop => n.trop * dt
  | .iono a b, .iono c d => if a = c ∧ b = d then n.iono * dt else 0
  | _, _ => 0

/-- The prediction step to STB ms `ms` (R169, R170). -/
def Filter.advance (n : Noise) (ms : Nat) (f : Filter) : Filter :=
  let dt := mkRat ((ms : Int) - f.ms) 1000
  let ax := f.axes
  Filter.build ms f.vars (fun v => f.dot (stateRow ax dt v))
    fun a b => f.covRows (stateRow ax dt a) (stateRow ax dt b) + processNoise ax n dt a b

/-! ### Update -/

/-- A measurement: its cell, whether it is a phase, the combination of states that it measures, its value and variance. -/
structure Meas where
  cell  : CellKey
  phase : Bool
  h     : Row
  z     : Rat
  r     : Rat

/-- The innovation of a measurement; after the update, its residual. -/
def Meas.innov (m : Meas) (f : Filter) : Rat := m.z - f.dot m.h

/-- The update by one measurement: for its gain, the same covariance as the Joseph form. -/
def Filter.update (f : Filter) (m : Meas) : Filter :=
  let s := f.covRows m.h m.h + m.r
  let v := m.innov f
  let k := fun a : FilterVar => f.covWith m.h a / s
  Filter.build f.ms f.vars (fun a => f.val a + k a * v) fun a b => f.p a b - k a * f.covWith m.h b

/-- The zero-velocity measurement of a member at rest: 1 mm/s on each axis (R171). -/
def restMeas : List Meas :=
  (List.range 3).map fun j => { cell := (0, 0, 0), phase := false, h := [(.vel j, 1)], z := 0, r := 1 }

/-- The filter after measurements, and after that of rest. -/
def Filter.measure (f : Filter) (rest : Bool) (ms : List Meas) : Filter :=
  ((if rest then restMeas else []) ++ ms).foldl Filter.update f

/-! ### The test statistic (R178) -/

/-- (v / σ)² of a measurement. -/
def Meas.score (m : Meas) (f : Filter) : Rat := m.innov f * m.innov f / m.r

/-- T over the post-fit residuals. -/
def testStat (f : Filter) (ms : List Meas) : Rat := (ms.map fun m => m.score f).sum / ms.length

/-- The cell with the largest |v / σ|. -/
def worstCell (f : Filter) (ms : List Meas) : Option CellKey :=
  (ms.foldl (fun (b : Option Meas) m => match b with
    | some w => if w.score f < m.score f then some m else b
    | none => some m) none).map (·.cell)

/-- A solution: the filter after the update, the measurements that stand, T, and the cells excluded. -/
structure Fit where
  filter : Filter
  meas   : List Meas
  t      : Rat
  out    : List CellKey

/-- The update from a prior, with up to `n` exclusions while T exceeds `thr` (R178). -/
def fit (prior : Filter) (rest : Bool) (thr : Rat) : Nat → List Meas → List CellKey → Fit
  | 0, ms, out =>
    let f := prior.measure rest ms
    ⟨f, ms, testStat f ms, out⟩
  | n + 1, ms, out =>
    let f := prior.measure rest ms
    let t := testStat f ms
    if t ≤ thr then ⟨f, ms, t, out⟩
    else
      match worstCell f ms with
      | some c => fit prior rest thr n (ms.filter fun m => m.cell != c) (out ++ [c])
      | none => ⟨f, ms, t, out⟩

/-! ### The covariance in the local frame (R179, R188) -/

/-- The position along a local axis, as a combination. -/
def axisRow (ax : List (List Rat)) (j : Nat) : Row := (List.range 3).map fun i => (.pos i, axisAt ax i j)

/-- The covariance of the position on two local axes: 0 east, 1 north, 2 up. -/
def Filter.enu (f : Filter) (a b : Nat) : Rat := f.covRows (axisRow f.axes a) (axisRow f.axes b)

/-- Largest eigenvalue of the east-north covariance. -/
def largestEigen (ee nn en : Rat) : Rat :=
  let h := (ee - nn) / 2
  (ee + nn) / 2 + rootQ (h * h + en * en)

/-- A protection level of R179, to the nearest mm: k × 100, s and the variance. -/
def protection (k100 : Nat) (s var : Rat) : Nat := sat 32 (roundRat (mkRat k100 100 * s * rootQ var)).toNat

/-! ### Weights (R171) -/

/-- s² of one receiver: σ0 in mm, elevation in degrees, C/N0 in 0.01 dB-Hz. -/
def sigma2 (sigma0 elev : Rat) (cn0 : Nat) : Rat :=
  let sn := sinQ (max 5 elev * halfTurn / 180)
  sigma0 * sigma0 / (sn * sn) * pow10Milli (4500 - cn0)

/-- C/N0 of a member's cell, in 0.01 dB-Hz: 0 counts as 30 dB-Hz, n is 18 + 2n dB-Hz. -/
def cellCn0 (n : Nat) : Nat := if n = 0 then 3000 else 1800 + 200 * n

/-- σ_sd² of a single difference. -/
def sigmaSd2 (sigma0 elevM : Rat) (cn0M : Nat) (elevB : Rat) (cn0B : Nat) : Rat :=
  sigma2 sigma0 elevM cn0M + sigma2 sigma0 elevB cn0B

end Sys2Proof.Machine
end

