-- ==== Sys2Proof/Machine/Solver.lean ====
section
/-! DEFINITION.
The Block engine: uploads, epochs, records, integrity and its opcodes (chapter 07). The geometry of satellites and the code solution
are free values (log 39).
-/

namespace Sys2Proof.Machine

/-! ### Settings and capacity (R160 to R163) -/

/-- Solving rates in 0.1 Hz, by code. -/
def rate10 (r : Nat) : Nat := [10, 20, 25, 50, 100].getD r 100

/-- The epoch interval of a rate code, ms. -/
def epochInterval (r : Nat) : Nat := [1000, 500, 400, 200, 100].getD r 100

/-- Units of covariance space that a mode takes (Table Solver-1). -/
def modeUnits (mode : Nat) : Nat := if mode = 0 then 4 else 1

/-- Whether a neighbour baseline run takes the capacity of one member (R163). -/
def State.baselineRun (s : State) : Bool :=
  match s.cfg.corr.run with
  | some r => r.source == 2
  | none => false

/-- Units and 0.1 epochs/s taken by settings, with a baseline run. -/
def capacityOf (ms : Tbl SolverMember) (baseline : Bool) : Nat × Nat :=
  ((ms.map fun e => modeUnits e.2.mode).sum + (if baseline then 4 else 0),
   (ms.map fun e => rate10 e.2.rate).sum + (if baseline then 10 else 0))

/-- The refusal of R163: 0 for rate, 1 for space. -/
def capacityError (ms : Tbl SolverMember) (baseline : Bool) : Option Nat :=
  let (u, r) := capacityOf ms baseline
  if 51200 < r then some 0 else if 2048 < u then some 1 else none

def SolveRun.start : SolveRun :=
  { record := none, epochMs := 0, parts := [], stationary := false, waiting := false, lastSolved := none,
    lastUsable := false, predCount := 0, cells := [], reinit := 7, slipped := [], held := [], passes := 0,
    conflicts := 0, outCount := 0, iods := 0, endedAt := none, begun := false, seen := [], lastEpoch := none, readyAt := 0,
    bases := [], filter := Filter.empty 0, solution := none, wide := [], residuals := [], grid := none }

/-- The run of a member that has none yet: after a takeover its states resume from the checkpoint, and ionosphere and ambiguities
are reinitialised (R174). -/
def State.firstRun (s : State) (node : Nat) : SolveRun :=
  match tget s.ctl.filters node with
  | some f => { SolveRun.start with reinit := 6, filter := f, solution := some f, begun := true }
  | none => SolveRun.start

def State.solveRun (s : State) (node : Nat) : SolveRun := (tget s.vol.solver.runs node).getD (s.firstRun node)

def State.modSolveRun (s : State) (node : Nat) (f : SolveRun → SolveRun) : State :=
  { s with vol.solver := { s.vol.solver with runs := tput s.vol.solver.runs node (f (s.solveRun node)) } }

/-- The setting of a member that is solved: connected at edition 2 or 3 (R160). -/
def State.solved (s : State) (node : Nat) : Option SolverMember :=
  match s.conn node with
  | some c => if 2 ≤ c.edition then tget s.cfg.solver.members node else none
  | none => none

/-! ### Upload payloads (R164 to R166) -/

/-- An upload payload, read. -/
structure Upload where
  timeMs     : Nat
  part       : Nat
  more       : Bool
  stationary : Bool
  cells      : List UpCell

/-- Satellite data of `n` satellites: rough range in 1/1024 ms, none when invalid, and frequency channel. -/
def readSats (glo : Bool) : Nat → List Bool → Option (List (Option Nat × Int) × List Bool)
  | 0, l => some ([], l)
  | n + 1, l =>
    match takeField 8 l with
    | none => none
    | some (ms, l) =>
      match takeField 10 l with
      | none => none
      | some (fr, l) =>
        match takeField (if glo then 4 else 0) l with
        | none => none
        | some (f, l) =>
          match readSats glo n l with
          | none => none
          | some (xs, l) => some ((if ms = 255 then none else some (1024 * ms + fr), if glo then (f : Int) - 7 else 0) :: xs, l)

/-- The five fields of each present cell; ranges as exact multiples of 2⁻²¹ ms and 2⁻²⁷ ms (R166). -/
def readCells (const : Nat) : List (Nat × Option Nat × Int × Nat) → List Bool → Option (List UpCell × List Bool)
  | [], l => some ([], l)
  | (sv, rough, fcn, idx) :: ks, l =>
    match takeField 12 l with
    | none => none
    | some (pr, l) =>
      match takeField 20 l with
      | none => none
      | some (ph, l) =>
        match takeField 3 l with
        | none => none
        | some (lock, l) =>
          match takeField 1 l with
          | none => none
          | some (hc, l) =>
            match takeField 4 l with
            | none => none
            | some (cn0, l) =>
              match readCells const ks l with
              | none => none
              | some (cs, l) =>
                let c : UpCell :=
                  { const := const, sv := sv, sig := idx, rough := rough, fcn := (fcn + 7).toNat,
                    pr := if pr = 2048 then none else rough.map fun r => (r * 2048 : Nat) + signed 12 pr,
                    ph := if ph = 524288 then none else rough.map fun r => (r * 131072 : Nat) + signed 20 ph,
                    lock := lock, hc := hc, cn0 := cn0 }
                some (c :: cs, l)

/-- Whether numbers rise strictly from above `last`. -/
def risingFrom : Nat → List Nat → Bool
  | _, [] => true
  | last, n :: ns => decide (last < n) && risingFrom n ns

/-- One constellation block (Table Solver-3). -/
def readBlock (l : List Bool) : Option (List UpCell × List Bool) :=
  match takeField 3 l with
  | none => none
  | some (const, l) =>
    match takeField 6 l with
    | none => none
    | some (nsat, l) =>
      match takeField 8 l with
      | none => none
      | some (mask, l) =>
        let idx := (List.range 8).filter fun i => mask.testBit (7 - i)
        if 4 < const ∨ nsat = 0 ∨ idx.any (fun i => (sigCode const i).isNone) then none
        else
          match takeFields 6 nsat l with
          | none => none
          | some (svs, l) =>
            match takeFields 1 (nsat * idx.length) l with
            | none => none
            | some (present, l) =>
              match readSats (const == 1) nsat l with
              | none => none
              | some (sats, l) =>
                let keys := (List.range nsat).flatMap fun a => (List.range idx.length).filterMap fun b =>
                  if present.getD (a * idx.length + b) 0 = 1 then
                    some (svs.getD a 0, (sats.getD a (none, 0)).1, (sats.getD a (none, 0)).2, idx.getD b 0)
                  else none
                if risingFrom 0 svs && svs.all (fun v => decide (v ≤ maxSv const)) then readCells const keys l else none

/-- `n` blocks. -/
def readBlocks : Nat → List Bool → Option (List UpCell × List Bool)
  | 0, l => some ([], l)
  | n + 1, l =>
    match readBlock l with
    | none => none
    | some (cs, l) =>
      match readBlocks n l with
      | none => none
      | some (ds, l) => some (cs ++ ds, l)

/-- An upload payload (Table Solver-2): none when its version is not 1 or a block is malformed. -/
def readUpload (p : List Byte) : Option Upload :=
  let l := toBits p
  let f := fun o w => bitsNat ((l.drop o).take w)
  if l.length < 48 ∨ 1000 < p.length ∨ f 0 4 ≠ 1 ∨ 604799999 < f 4 30 ∨ f 37 3 = 0 ∨ 5 < f 37 3 then none
  else
    match readBlocks (f 37 3) (l.drop 48) with
    | none => none
    | some (cs, rest) =>
      if rest.length < 8 then
        some { timeMs := f 4 30, part := f 34 2, more := f 36 1 = 1, stationary := f 40 1 = 1, cells := cs }
      else none

/-! ### Ranges (R166) -/

/-- The speed of light, mm/s. -/
def lightMm : Rat := 299792458000

/-- The carrier of a cell's signal, Hz. -/
def UpCell.freq (c : UpCell) : Rat := carrier ((sigCode c.const c.sig).getD 0) ((c.fcn : Int) - 7)

/-- The wavelength of a cell's signal, mm. -/
def UpCell.lambda (c : UpCell) : Rat := lightMm / c.freq

/-- The pseudorange pr_m of R166, in mm. -/
def UpCell.prMm (c : UpCell) : Option Rat := c.pr.map fun n => lightMm / 1000 * mkRat n (2 ^ 21)

/-- The phase ph_cyc of R166, in cycles. -/
def UpCell.phCyc (c : UpCell) : Option Rat := c.ph.map fun n => lightMm / 1000 * mkRat n (2 ^ 27) / c.lambda

/-! ### Base observations (R168) -/

/-- The base record of a cell in an epoch. -/
def BaseEpoch.cellRec (e : BaseEpoch) (const sv idx : Nat) : Option ObsRec :=
  e.recs.find? fun r => sigCode const idx == some r.sig && r.sv == sv && r.flags.testBit 0

/-- The base observation of a cell for a member epoch, with its age in ms: of the same instant or, when no base epoch has
that instant, of the latest earlier one that holds the cell, within extrap_max_ms. An epoch that is solved before the base epoch of its
instant has been made does not wait for it. DESIGN CHOICE (log 192). -/
def State.baseFor (s : State) (t : Nat) (c : UpCell) : Option (ObsRec × Nat) :=
  match s.vol.gnss.epochs.find? fun e => e.ms == t with
  | some e => (e.cellRec c.const c.sv c.sig).map fun r => (r, 0)
  | none => s.vol.gnss.epochs.findSome? fun e =>
      if e.ms < t ∧ t - e.ms ≤ s.cfg.solver.extrapMax then (e.cellRec c.const c.sv c.sig).map fun r => (r, t - e.ms) else none

/-- The base IODS at a member epoch: that of the latest base epoch at or before it (R187). -/
def State.iodsAt (s : State) (t : Nat) : Nat :=
  match s.vol.gnss.epochs.find? fun e => decide (e.ms ≤ t) with
  | some e => e.iods
  | none => s.cfg.corr.iods

/-- The MTB tick at which the base epoch of STB ms `t` was made (R184). -/
def State.baseMade (s : State) (t : Nat) : Nat :=
  match s.vol.gnss.epochs.find? fun e => e.ms == t with
  | some e => e.made
  | none => 0

/-- What the range grows by over a gap of `age` ms at a Doppler of `mhz` mHz: mm. -/
def rangeGain (lambda : Rat) (mhz : Int) (age : Nat) : Rat := -(lambda * mkRat mhz 1000 * mkRat age 1000)

/-- The base pseudorange and phase of a cell, advanced over the gap, in mm. -/
def baseCode (lambda : Rat) (r : ObsRec) (age : Nat) : Rat := mkRat r.pr 100 + rangeGain lambda r.doppler age
def basePhase (lambda : Rat) (r : ObsRec) (age : Nat) : Rat :=
  lambda * mkRat r.phase 65536 + rangeGain lambda r.doppler age

/-- Whether a satellite is excluded under alarm code 1: for excl_s. -/
def State.svExcluded (s : State) (const sv : Nat) : Bool :=
  s.vol.solver.exclusions.any fun x => x.const == const && x.sv == sv && !x.elapsed

/-- A cell of a member epoch that can be used, with its base record and that record's age. -/
abbrev UsedCell := UpCell × ObsRec × Nat

/-- The cells of an epoch that can be used. -/
def State.usableCells (s : State) (m : SolverMember) (t : Nat) (cs : List UpCell) : List UsedCell :=
  cs.filterMap fun c =>
    let on := match sigCode c.const c.sig with
      | some g => m.sigMask.testBit g
      | none => false
    if on && c.pr.isSome && !s.svExcluded c.const c.sv then (s.baseFor t c).map fun b => (c, b) else none

/-! ### Slips (R166, R172) -/

def UpCell.key (c : UpCell) : CellKey := (c.const, c.sv, c.sig)

/-- The cell in the member's previous epoch. -/
def SolveRun.prev (r : SolveRun) (c : UpCell) : Option UpCell := r.cells.find? fun d => d.key == c.key

/-- A slip of the member under R166. -/
def SolveRun.slips (r : SolveRun) (c : UpCell) : Bool :=
  c.ph.isNone || match r.prev c with
    | some d => decide (c.lock < d.lock) || c.hc != d.hc
    | none => false

/-- The base's part of R172: SLIP in its record, a slip counted since the record last used, or a change of HC_ADJUSTED since
then. -/
def SolveRun.baseSlips (r : SolveRun) (c : UpCell) (b : ObsRec) : Bool :=
  b.flags.testBit 4 || match r.bases.find? fun e => e.1 == c.key with
    | some e => e.2.1 != b.slips || e.2.2 != b.flags.testBit 3
    | none => false

/-- The base record of each cell as last used. -/
def SolveRun.newBases (r : SolveRun) (use : List UsedCell) : List (CellKey × Nat × Bool) :=
  (use.map fun u => (u.1.key, u.2.1.slips, u.2.1.flags.testBit 3)) ++
    r.bases.filter fun e => !use.any fun u => u.1.key == e.1

/-- The cells of which mode 1 makes pairs: the first two signals of each satellite, in Table Corr-4 order, that lie on different carriers
(R170). -/
def pairedCells (cs : List UpCell) : List CellKey :=
  let sats := (cs.map fun c => (c.const, c.sv)).eraseDups
  sats.flatMap fun x =>
    match cs.filter fun c => (c.const, c.sv) == x with
    | [] => []
    | a :: t => match t.find? fun b => b.freq != a.freq with
      | some b => [a.key, b.key]
      | none => []

/-- The cells of an epoch that slip under R166, whether or not the epoch can use them, beside those that still wait for a solution. -/
def SolveRun.allSlips (r : SolveRun) (mode : Nat) (cells : List UpCell) : List CellKey :=
  let new := (cells.filter r.slips).map UpCell.key
  r.slipped ++ if mode = 0 then new else new.filter (pairedCells cells).contains

/-- The cells of an epoch, with their slips, when no solution takes them: the slips wait for the next. -/
def noteCells (node mode : Nat) (cells : List UpCell) (s : State) : State :=
  s.modSolveRun node fun r => { r with cells := cells, slipped := r.allSlips mode cells }

/-! ### Free values of the filter (log 39) -/

/-- A signed value that the sky or the search gives. -/
def senseInt (q k : Nat) : Int := signed 64 (Config.sense q k % 2 ^ 64)

/-- The number of a satellite among free values. -/
def satNo (const sv : Nat) : Nat := 64 * const + sv

/-- The elevation of a satellite at a member, in degrees. -/
def satElev (const sv k : Nat) : Rat := mkRat (Config.sense (0x10000 + satNo const sv) k % 90000001) 1000000

/-- A component of the line of sight to a satellite. -/
def lineOfSight (const sv i k : Nat) : Rat := mkRat (senseInt (0x11000 + 1024 * i + satNo const sv) k) 1000000000

/-- The geometric part of a satellite's single difference at the origin of the coordinates, in mm. -/
def geometric (const sv k : Nat) : Rat := mkRat (senseInt (0x14000 + satNo const sv) k) 1000

/-- What the code solution of an epoch, or the first phase of a cell, gives an initial state: value and variance. -/
def codeValue (q k : Nat) : Rat := mkRat (senseInt (0x15000 + q) k) 1000
def codeVar (q k : Nat) : Rat := Config.sense (0x16000 + q) k

/-! ### Measurements (R161, R168, R170, R171) -/

/-- The elevation of a satellite at the base, in degrees; the sky holds it in 0.1 degree. -/
def State.baseElev (s : State) (const sv k : Nat) : Rat :=
  match s.vol.gnss.sky.find? fun x => x.const == const && x.sv == sv with
  | some x => mkRat x.elev 10
  | none => satElev const sv k

/-- The single differences of a cell without their geometric part, in mm, and their variances. -/
structure CellObs where
  cell   : UpCell
  code   : Rat
  phase  : Option Rat
  rCode  : Rat
  rPhase : Rat

def State.cellObs (s : State) (k : Nat) (u : UsedCell) : CellObs :=
  let (c, r, age) := u
  let set := s.cfg.solver
  let w := fun s0 : Rat => sigmaSd2 s0 (satElev c.const c.sv k) (cellCn0 c.cn0) (s.baseElev c.const c.sv k) r.cn0
  let g := geometric c.const c.sv k
  { cell := c, code := c.prMm.getD 0 - baseCode c.lambda r age - g
    phase := if r.flags.testBit 1 then c.phCyc.map fun x => c.lambda * x - basePhase c.lambda r age - g else none
    rCode := w set.codeSigma, rPhase := w (mkRat set.phaseSigma 10) }

/-- The states that every measurement of a satellite holds: position, clock and troposphere. The mapping of the zenith delay is the
cosecant of the elevation. DESIGN CHOICE (log 154). -/
def geoRow (const sv k : Nat) : Row :=
  ((List.range 3).map fun i => (FilterVar.pos i, -lineOfSight const sv i k)) ++
    [(.clock const, 1), (.trop, 1 / sinQ (max 5 (satElev const sv k) * halfTurn / 180))]

/-- Mode 0: the code and the phase of a cell, with the satellite's ionosphere state, held at 1,575.42 MHz (log 154). -/
def CellObs.meas (k : Nat) (o : CellObs) : List Meas :=
  let c := o.cell
  let g := geoRow c.const c.sv k
  let i : Rat := 1575420000 * 1575420000 / (c.freq * c.freq)
  { cell := c.key, phase := false, h := g ++ [(.iono c.const c.sv, i)], z := o.code, r := o.rCode } ::
    match o.phase with
    | some z => [{ cell := c.key, phase := true, h := g ++ [(.iono c.const c.sv, -i), (.amb c.const c.sv c.sig, 1)], z := z, r := o.rPhase }]
    | none => []

/-- The dual-frequency pair of each satellite: its first two signals on different carriers (R170). -/
def pairsIn (os : List CellObs) : List (CellObs × CellObs) :=
  let sats := os.foldl (fun (l : List (Nat × Nat)) o =>
    if l.contains (o.cell.const, o.cell.sv) then l else l ++ [(o.cell.const, o.cell.sv)]) []
  sats.filterMap fun x =>
    match os.filter fun o => (o.cell.const, o.cell.sv) == x with
    | [] => none
    | a :: t => (t.find? fun b => b.cell.freq != a.cell.freq).map fun b => (a, b)

/-- The ambiguity of a mode-1 pair. -/
def pairKey (p : CellObs × CellObs) : CellKey := (p.1.cell.const, p.1.cell.sv, 0xFF)

/-- Mode 1: the ionosphere-free code and phase of a pair. -/
def pairMeas (k : Nat) (p : CellObs × CellObs) : List Meas :=
  let (a, b) := p
  let x := a.cell.freq * a.cell.freq
  let y := b.cell.freq * b.cell.freq
  let ka := x / (x - y)
  let kb := -(y / (x - y))
  let g := geoRow a.cell.const a.cell.sv k
  { cell := pairKey p, phase := false, h := g, z := ka * a.code + kb * b.code, r := ka * ka * a.rCode + kb * kb * b.rCode } ::
    match a.phase, b.phase with
    | some u, some v =>
      [{ cell := pairKey p, phase := true, h := g ++ [(.amb a.cell.const a.cell.sv 0xFF, 1)], z := ka * u + kb * v
         r := ka * ka * a.rPhase + kb * kb * b.rPhase }]
    | _, _ => []

/-- The measurements of an epoch. -/
def measures (mode k : Nat) (os : List CellObs) : List Meas :=
  if mode = 0 then os.flatMap (CellObs.meas k) else (pairsIn os).flatMap (pairMeas k)

/-- The wavelength against which a measurement's phase innovation stands: that of its cell, in mode 1 of the pair's first. -/
def waveOf (os : List CellObs) (c : CellKey) : Rat :=
  match os.find? fun o => o.cell.key == c || (o.cell.const, o.cell.sv, 0xFF) == c with
  | some o => o.cell.lambda
  | none => 0

/-! ### Selection of satellites (R170) -/

/-- The satellites of a list of cells, each once. -/
def satsOf (cs : List CellKey) : List (Nat × Nat) :=
  cs.foldl (fun l c => if l.contains (c.1, c.2.1) then l else l ++ [(c.1, c.2.1)]) []

/-- States that satellites take beside the 13 fixed ones: one and one for each cell in mode 0, one for each in mode 1. -/
def statesOf (mode : Nat) (cs : List CellKey) : Nat :=
  if mode = 0 then (satsOf cs).length + cs.length else (satsOf cs).length

/-- Satellites are dropped in ascending order of elevation until the states fit Table Solver-1. -/
def fitStates (mode k : Nat) : Nat → List CellKey → List CellKey
  | 0, cs => cs
  | n + 1, cs =>
    if statesOf mode cs ≤ (if mode = 0 then 77 else 31) then cs
    else
      let low := ((satsOf cs).mergeSort fun a b => decide (satElev a.1 a.2 k ≤ satElev b.1 b.2 k)).headD (0, 0)
      fitStates mode k n (cs.filter fun c => (c.1, c.2.1) != low)

/-! ### States of an epoch (R170, R172 to R174) -/

/-- The process noise of a member: none on velocity for an epoch at rest (R171). -/
def noiseOf (set : SolverSettings) (rest : Bool) : Noise :=
  { vel := if rest then [0, 0, 0] else [(set.qH : Rat), set.qH, set.qV]
    trop := mkRat set.qTrop 1000, iono := mkRat set.qIono 10 }

/-- The states that an epoch begins with are initialised where the filter does not hold them; the clocks in every epoch, as
white noise (Table Solver-4). -/
def startStates (mode k : Nat) (keys : List CellKey) (f : Filter) : Filter :=
  let f := (List.range 3).foldl (fun f i => f.need (.pos i) (codeValue i k) (codeVar i k)) f
  let f := (List.range 3).foldl (fun f i => f.need (.vel i) 0 1000000) f
  let f := (f.need .drift 0 1000000).need .trop 0 2500
  let consts := (List.range 5).filter fun c => keys.any fun x => x.1 == c
  let f := consts.foldl (fun f c => f.init (.clock c) (codeValue (8 + c) k) (codeVar (8 + c) k)) f
  let f := if mode = 0 then (satsOf keys).foldl (fun f x => f.need (.iono x.1 x.2) 0 4000000) f else f
  keys.foldl (fun f x => f.need (.amb x.1 x.2.1 x.2.2) (codeValue (0x10000 + 16 * satNo x.1 x.2.1 + x.2.2 % 16) k) 900000000) f

/-- What the filter keeps of its states at an epoch: `gone` are ambiguities to be reinitialised, `keep` the ambiguities for which
there is space. -/
def keepStates (reinit : Nat) (newIods : Bool) (gone keep : List CellKey) (f : Filter) : Filter :=
  f.only fun
    | .amb a b c => !reinit.testBit 1 && !newIods && !gone.contains (a, b, c) && keep.contains (a, b, c)
    | .iono a b => !reinit.testBit 2 && keep.any fun x => x.1 == a && x.2.1 == b
    | _ => true

/-- The test of R172: cells, among those whose ambiguity is held, whose phase innovation exceeds half a wavelength while their code
innovation lies within 3σ. -/
def innovSlips (os : List CellObs) (f : Filter) (ms : List Meas) : List CellKey :=
  (ms.filter fun p => p.phase &&
    decide (waveOf os p.cell < 2 * |p.innov f|) &&
    ms.any fun c => !c.phase && c.cell == p.cell && decide (c.innov f * c.innov f ≤ 9 * c.r)).map (·.cell)

/-- Whether measurements of satellites `l` give a position: one unknown for each axis and each constellation. DESIGN CHOICE
(log 155). -/
def enough (l : List CellKey) : Bool :=
  decide (3 + ((List.range 5).filter fun c => l.any fun x => x.1 == c).length ≤ (satsOf l).length)

/-- The fix state before any ambiguity resolution: none, code or float (Table Solver-5). -/
def baseState (ms : List Meas) : Nat :=
  if !enough ((ms.filter fun m => !m.phase).map (·.cell)) then 0
  else if enough ((ms.filter (·.phase)).map (·.cell)) then 2 else 1

/-- The measurements that a fix state uses. -/
def usedMeas (state : Nat) (ms : List Meas) : List Meas :=
  if state = 0 then [] else if state = 1 then ms.filter fun m => !m.phase else ms

/-! ### Wide-lanes of mode 1 (R175) -/

/-- The Melbourne-Wübbena combination of a pair's single differences, in wide-lane cycles. -/
def melbourne (p : CellObs × CellObs) : Option Rat :=
  let (a, b) := p
  match a.phase, b.phase with
  | some u, some v =>
    let f := a.cell.freq
    let g := b.cell.freq
    some (u / a.cell.lambda - v / b.cell.lambda - (f - g) / (f + g) * (a.code / a.cell.lambda + b.code / b.cell.lambda))
  | _, _ => none

def wideStart (const sv : Nat) : WideLane := { const := const, sv := sv, n := 0, sum := 0, sq := 0 }

/-- The averages after an epoch: a slip begins a pair's anew. -/
def wideStep (gone : List CellKey) (ps : List (CellObs × CellObs)) (ws : List WideLane) : List WideLane :=
  let held := ws.filter fun w => !gone.contains (w.const, w.sv, 0xFF)
  let news := ps.filterMap fun p =>
    let (c, v) := (p.1.cell.const, p.1.cell.sv)
    let w := (held.find? fun w => w.const == c && w.sv == v).getD (wideStart c v)
    (melbourne p).map fun x => { w with n := w.n + 1, sum := w.sum + x, sq := w.sq + x * x }
  news ++ held.filter fun w => !news.any fun x => x.const == w.const && x.sv == w.sv

/-- The wide-lane integer: the average lies within 0.15 cycle of it and its σ is at most 0.1 cycle. -/
def WideLane.fixed (w : WideLane) : Option Int :=
  let mean := w.sum / w.n
  let k := roundRat mean
  let var := (w.sq / w.n - mean * mean) / (w.n - 1 : Int)
  if 2 ≤ w.n ∧ |mean - k| ≤ 15 / 100 ∧ var ≤ 1 / 100 then some k else none

/-! ### Ambiguity resolution (R175, R176) -/

/-- Cells whose lock indicator shows 1 s or more; in mode 1 the pairs whose cells both do, with their wide-lane fixed. -/
def lockedKeys (mode : Nat) (ws : List WideLane) (os : List CellObs) : List CellKey :=
  let on := fun o : CellObs => decide (2 ≤ o.cell.lock)
  if mode = 0 then (os.filter on).map fun o => o.cell.key
  else ((pairsIn os).filter fun p => on p.1 && on p.2 &&
    ws.any fun w => w.const == p.1.cell.const && w.sv == p.1.cell.sv && w.fixed.isSome).map pairKey

/-- The reference of a cell's signal: the highest satellite that holds it with lock of 1 s or more. -/
def refOf (k : Nat) (locked : List CellKey) (c : CellKey) : Option CellKey :=
  ((locked.filter fun d => d.1 == c.1 && d.2.2 == c.2.2).mergeSort fun a b =>
    decide (satElev b.1 b.2.1 k ≤ satElev a.1 a.2.1 k)).head?

/-- Whether a cell meets the tests of a candidate: lock, ar_elev, no slip, a phase, and not GLONASS L1OF or L2OF. -/
def candidateCell (arElev k : Nat) (locked slipped phases : List CellKey) (c : CellKey) : Bool :=
  locked.contains c && decide ((arElev : Rat) ≤ satElev c.1 c.2.1 k) && !slipped.contains c && phases.contains c &&
    !(c.1 == 1 && decide (c.2.2 ≤ 1 ∨ c.2.2 = 0xFF))

/-- The candidates: double differences whose two cells meet the tests. -/
def candidates (arElev k : Nat) (locked slipped phases : List CellKey) : List DdKey :=
  locked.filterMap fun c =>
    match refOf k locked c with
    | some r =>
      if r ≠ c ∧ candidateCell arElev k locked slipped phases c ∧ candidateCell arElev k locked slipped phases r then
        some (c, r.2.1) else none
    | none => none

/-- The reference cell of a double difference. -/
def DdKey.ref (x : DdKey) : CellKey := (x.1.1, x.2, x.1.2.2)

def CellKey.var (c : CellKey) : FilterVar := .amb c.1 c.2.1 c.2.2

/-- A double difference as a combination of float ambiguities. -/
def ddRow (x : DdKey) : Row := [(CellKey.var x.1, 1), (CellKey.var (DdKey.ref x), -1)]

/-- The double difference that the search drops: lowest elevation, then the larger float variance. -/
def dropped (k : Nat) (f : Filter) (l : List DdKey) : Option DdKey :=
  (l.mergeSort fun a b =>
    let ea := satElev a.1.1 a.1.2.1 k
    let eb := satElev b.1.1 b.1.2.1 k
    decide (ea < eb) || (ea == eb && decide (f.covRows (ddRow b) (ddRow b) ≤ f.covRows (ddRow a) (ddRow a)))).head?

/-- A fixed double difference as a measurement without error: its integer of wavelengths, in mode 1 of narrow lanes beside the
wide-lanes of its two pairs. -/
def fixedMeas (os : List CellObs) (ws : List WideLane) (x : DdKey) (n : Int) : Meas :=
  let base : Meas := { cell := x.1, phase := true, h := ddRow x, z := waveOf os x.1 * n, r := 0 }
  if x.1.2.2 ≠ 0xFF then base
  else
    match (pairsIn os).find? fun p => pairKey p == x.1 with
    | some p =>
      let f := p.1.cell.freq
      let g := p.2.cell.freq
      let lane := fun sv : Nat => match ws.find? fun w => w.const == x.1.1 && w.sv == sv with
        | some w => (w.fixed.getD 0 : Int)
        | none => 0
      { base with z := lightMm / (f + g) * n + lightMm * g / (f * f - g * g) * (lane x.1.2.1 - lane x.2 : Int) }
    | none => base

/-- The float value of a double difference in cycles, and its variance, as a filter holds them; the measurement that fixes it to an integer
says how long a cycle is and where zero lies. -/
def floatDd (fixing : DdKey → Int → Meas) (f : Filter) (x : DdKey) : Rat × Rat :=
  let h := (fixing x 0).h
  let z := (fixing x 0).z
  let w := (fixing x 1).z - z
  ((f.dot h - z) / w, f.covRows h h / (w * w))

/-- The square of a distance against a variance. -/
def normPart (a d : Rat) (n : Int) : Rat := (n - a) * (n - a) / d

/-- A norm that at least two integer vectors stay within: double differences are rounded one after another, each in the filter that the
earlier ones have fixed, and the last one also to its second nearest integer. -/
def roundNorm (fixing : DdKey → Int → Meas) : List DdKey → Filter → Rat
  | [], _ => 0
  | x :: t, f =>
    let (a, d) := floatDd fixing f x
    let n := roundRat a
    if t.isEmpty then normPart a d (if (n : Rat) ≤ a then n + 1 else n - 1)
    else normPart a d n + roundNorm fixing t (f.update (fixing x n))

/-- The integer vectors whose least-squares norm over the float double differences and their covariance is at most `b`, with their norms:
the norm is the sum over the double differences, each against its value and variance in the filter that the earlier ones have fixed, which
no decorrelation changes. -/
def within (fixing : DdKey → Int → Meas) : List DdKey → Rat → Filter → List (List (DdKey × Int) × Rat)
  | [], _, _ => [([], 0)]
  | x :: t, b, f =>
    let (a, d) := floatDd fixing f x
    let m := isqrt (b * d).floor.toNat + 2
    let ns := ((List.range (2 * m)).map fun i => a.floor + 1 - (m : Int) + (i : Int)).filter fun n => decide (normPart a d n ≤ b)
    ns.flatMap fun n =>
      (within fixing t (b - normPart a d n) (f.update (fixing x n))).map fun v => ((x, n) :: v.1, normPart a d n + v.2)

/-- The best and the second-best integer vector of a set, with their norms. -/
def bestTwo (fixing : DdKey → Int → Meas) (f : Filter) (set : List DdKey) : Option (List (DdKey × Int) × Rat × Rat) :=
  match (within fixing set (roundNorm fixing set f) f).mergeSort fun a b => decide (a.2 ≤ b.2) with
  | a :: b :: _ => some (a.1, a.2, b.2)
  | _ => none

/-- The search of R175: the set shrinks until the second norm is `ratio` / 100 of the best at least. The integers that pass, and the ratio
× 100; a best norm of 0 passes with the largest ratio there is. The ratio is rounded: DESIGN CHOICE (log 193). -/
def search (minFix ratio k : Nat) (fixing : DdKey → Int → Meas) (f : Filter) : Nat → List DdKey → Option (List (DdKey × Int) × Nat)
  | 0, _ => none
  | n + 1, set =>
    if set.length < minFix then none
    else
      match bestTwo fixing f set with
      | none => none
      | some (ints, best, second) =>
        if (ratio : Rat) * best ≤ 100 * second then
          some (ints, if best = 0 then 0xFFFF else sat 16 (roundRat (100 * second / best)).toNat)
        else
          match dropped k f set with
          | some x => search minFix ratio k fixing f n (set.filter (· != x))
          | none => none

/-- The fix state and the numbers of the search of one epoch (R175 to R177), and the solution to report. -/
structure FixOut where
  state : Nat
  ratio : Nat
  nFixed : Nat
  nAmb  : Nat
  held  : List (DdKey × Int)
  passes : Nat
  conflict : Bool
  filter : Filter

/-- Ambiguity resolution over candidates, for a float solution `f` whose state is `base`. The integers of a pass that fix_epochs does not yet
accept are held and compared like those of a fix. DESIGN CHOICE (log 194). -/
def resolve (set : SolverSettings) (run : SolveRun) (slipped : List CellKey) (k base : Nat) (cand : List DdKey)
    (fixing : DdKey → Int → Meas) (f : Filter) : FixOut :=
  let no (conflict : Bool) : FixOut := ⟨base, 0, 0, sat 8 cand.length, [], 0, conflict, f⟩
  if base < 2 then no false
  else
    match search set.minFix set.ratio k fixing f (cand.length + 1) cand with
    | none => no false
    | some (ints, r) =>
      let clash := run.held.any fun h => !slipped.contains h.1.1 && !slipped.contains (DdKey.ref h.1) &&
        ints.any fun i => i.1 == h.1 && i.2 != h.2
      if clash then no true
      else
        let n := run.passes + 1
        if n < set.fixEpochs then { no false with held := ints, passes := n }
        else
          ⟨if ints.length = cand.length then 4 else 3, r, sat 8 ints.length, sat 8 cand.length, ints, n, false,
           f.measure false (ints.map fun i => fixing i.1 i.2)⟩

/-! ### Integrity (R179, R180) -/

/-- The tile of a point around the base position (R181). -/
def State.tileOf (s : State) (x y z : Int) : Int × Int :=
  match s.cfg.corr.base with
  | some b =>
    let (e, n) := localOf (b.x, b.y, b.z) (x, y, z)
    let t : Rat := s.cfg.solver.tileM * 1000
    ((e / t).floor, (n / t).floor)
  | none => (0, 0)

/-- Whether a record carries SITE_EXCL (Table Solver-6). -/
def State.siteExcl (s : State) (x y z : Int) : Bool :=
  s.cfg.solver.code3 || s.vol.solver.tiles.any fun a => a.tile == s.tileOf x y z

/-- USABLE (R180). A predicted record counts only by grace. DEDUCED (log 40). -/
def usableRec (m : SolverMember) (lastUsable : Bool) (r : SolverRecord) : Bool :=
  let grace := r.state == 5 && decide (r.predCount ≤ m.grace) && lastUsable
  (grace || (r.state != 5 && decide (m.minState ≤ r.state))) && !r.flags.testBit 4 && !r.flags.testBit 3 &&
    (!r.flags.testBit 2 || grace) && decide (r.hpl ≤ m.hal) && decide (r.vpl ≤ m.val)

/-! ### Records (R188) -/

/-- A record as bytes (Table Solver-8). -/
def SolverRecord.bytes (r : SolverRecord) : List Byte :=
  if r.flags.testBit 6 then leBytes 2 r.node ++ zeros 1 ++ leBytes 1 r.flags ++ zeros 92
  else
    leBytes 2 r.node ++ leBytes 1 r.state ++ leBytes 1 r.flags ++ timeBytes r.stb ++ leInt 8 r.x ++ leInt 8 r.y ++
      leInt 8 r.z ++ leInt 4 r.vE ++ leInt 4 r.vN ++ leInt 4 r.vU ++ leBytes 4 r.cEE ++ leBytes 4 r.cNN ++
      leBytes 4 r.cUU ++ leInt 4 r.cEN ++ leBytes 4 r.hpl ++ leBytes 4 r.vpl ++ leBytes 2 r.ratio ++ leBytes 1 r.nFixed ++
      leBytes 1 r.nAmb ++ leBytes 1 r.nSv ++ leBytes 1 r.nExcl ++ leBytes 2 r.baseAge ++ leBytes 2 r.latency ++
      leBytes 1 r.iods ++ leBytes 1 r.predCount ++ leBytes 2 r.tStat ++ leBytes 1 r.slips ++ zeros 5

/-- The record of a node that is not solved, or has none yet. -/
def blankRecord (node flags : Nat) : SolverRecord :=
  { (default : SolverRecord) with node := node, flags := flags }

/-- A signed field that saturates. -/
def satInt (w : Nat) (x : Int) : Int := max (-2 ^ (w - 1)) (min (2 ^ (w - 1) - 1) x)

/-- A record of a solution: the antenna reference point, which is the phase centre lowered by pco_up, velocity, covariance and the
protection levels of R179 for `sc`, its factor s. -/
def solution (set : SolverSettings) (m : SolverMember) (sc : Rat) (f : Filter) (r : SolverRecord) : SolverRecord :=
  let ax := f.axes
  let at' := fun i : Nat => roundRat (f.val (.pos i) - axisAt ax i 2 * mkRat m.pcoUp 10)
  let v := fun j : Nat => satInt 32 (roundRat (f.val (.vel j)))
  let ee := f.enu 0 0
  let nn := f.enu 1 1
  let uu := f.enu 2 2
  let en := f.enu 0 1
  { r with
    x := at' 0, y := at' 1, z := at' 2, vE := v 0, vN := v 1, vU := v 2
    cEE := sat 32 (roundRat ee).toNat, cNN := sat 32 (roundRat nn).toNat, cUU := sat 32 (roundRat uu).toNat
    cEN := satInt 32 (roundRat en)
    hpl := protection set.kH sc (largestEigen ee nn en), vpl := protection set.kV sc uu }

/-- µs since an MTB tick, as latency_us has them (R184). -/
def State.latency (s : State) (from' : Nat) : Nat := sat 16 ((s.mtb - from') / 1600)

/-- A record is emitted: kept for SOLVER.READ, sent by out_decim, and a USABLE one requalifies its member (R432). Records
are sent one in a message, within the 10 ms of gathering. DESIGN CHOICE (log 41). -/
def emitRecord (r : SolverRecord) (m : SolverMember) (s : State) : State :=
  let n := (s.solveRun r.node).outCount + 1
  let out := m.decim ≠ 0 ∧ m.decim ≤ n
  let s := s.modSolveRun r.node fun x => { x with record := some r, outCount := if out then 0 else n }
  let s := match s.conn r.node with
    | some c => if r.usable then
        { s with ctl.sluice := { s.ctl.sluice with requal := s.ctl.sluice.requal.filter (· != c.memberId) } } else s
    | none => s
  if out then sendMsg 0x0480 (leBytes 2 1 ++ zeros 6 ++ r.bytes) s else s

/-- The last solution of a member that has none: what a code solution gives (log 39). -/
def noSolution (k ms : Nat) : Filter := startStates 1 k [] (Filter.empty ms)

/-- A predicted record for a missing epoch at STB ms `t`: the last solution goes through the prediction step (R169). The epoch has no fix
(R176). -/
def predict (node t : Nat) (m : SolverMember) (s : State) : State :=
  let run := s.solveRun node
  let set := s.cfg.solver
  let (k, s) := s.draw
  let f := (run.solution.getD (noSolution k t)).advance (noiseOf set false) t
  let n := sat 8 (run.predCount + 1)
  let r := solution set m 1 f
    { blankRecord node 0 with
      state := 5, stb := some (t * unitMs), iods := s.iodsAt t, predCount := n, latency := s.latency run.readyAt }
  let r := { r with flags := 4 * b2n s.vol.corr.withheld + 8 * b2n (s.siteExcl r.x r.y r.z) + 128 * m.mode }
  let r := { r with flags := r.flags + b2n (usableRec m run.lastUsable r) }
  emitRecord r m (s.modSolveRun node fun x =>
    { x with predCount := n, solution := some f, passes := 0, held := [], lastEpoch := some t })

/-- What the filter of a member makes of an epoch: the slips, the update and the fix. -/
structure EpochFit where
  slips : List CellKey
  gone  : List CellKey
  fit   : Fit
  fix   : FixOut
  wide  : List WideLane

/-- The epoch at STB ms `t` of a member, over its usable cells (R170 to R178). `run.slipped` names every cell that has slipped, usable or
not. The fix state counts what R178's exclusions leave. -/
def State.fitEpoch (s : State) (m : SolverMember) (run : SolveRun) (t k : Nat) (rest newIods : Bool) (use : List UsedCell) : EpochFit :=
  let set := s.cfg.solver
  let amb := fun c : CellKey => if m.mode = 0 then c else (c.1, c.2.1, 0xFF)
  let os := use.map (s.cellObs k)
  let os := if m.mode = 0 then os else (pairsIn os).flatMap fun p => [p.1, p.2]
  let present := (os.map fun o => amb o.cell.key).eraseDups
  let prior := if run.reinit.testBit 0 then Filter.empty t else run.filter.advance (noiseOf set rest) t
  let absent := prior.vars.filterMap fun
    | .amb a b c => if present.contains (a, b, c) || s.svExcluded a b then none else some (a, b, c)
    | _ => none
  let keep := fitStates m.mode k (present ++ absent).length (present ++ absent)
  let os := os.filter fun o => keep.contains (amb o.cell.key)
  let slips := (use.filter fun u => os.any (fun o => o.cell.key == u.1.key) &&
    (run.slipped.contains u.1.key || run.baseSlips u.1 u.2.1)).map fun u => u.1.key
  let gone := (slips ++ run.slipped).map amb
  let now := present.filter keep.contains
  let old := keepStates run.reinit newIods gone keep prior
  let f := startStates m.mode k now old
  let ms := measures m.mode k os
  let late := (innovSlips os f ms).filter fun c => old.vars.contains (CellKey.var c)
  let f := startStates m.mode k now (f.only fun v => !late.any fun c => CellKey.var c == v)
  let gone := gone ++ late
  let ft := fit f rest (mkRat set.tThr 100) set.exclMax (usedMeas (baseState ms) ms) []
  let base := baseState ft.meas
  let wide := wideStep gone (if m.mode = 0 then [] else pairsIn os) (if newIods || run.reinit.testBit 1 then [] else run.wide)
  let run := if newIods || run.reinit != 0 then { run with held := [], passes := 0 } else run
  let phases := (ft.meas.filter (·.phase)).map (·.cell)
  let cand := candidates set.arElev k (lockedKeys m.mode wide os) (gone ++ ft.out) phases
  ⟨slips ++ late.filter fun c => !slips.any fun d => amb d == c, gone, ft,
    resolve set run (gone ++ ft.out) k base cand (fixedMeas os wide) ft.filter, wide⟩

/-- The phase residuals of an epoch, beside those of the second before it (R181). -/
def newResiduals (t : Nat) (f : Filter) (ms : List Meas) (old : List PhaseResidual) : List PhaseResidual :=
  ((ms.filter (·.phase)).map fun m => { ms := t, const := m.cell.1, sv := m.cell.2.1, mm := m.innov f }) ++
    old.filter fun r => decide (t < r.ms + 1000)

/-- An epoch is solved (R168 to R180). base_age_ms and EXTRAP are those of the cell with the oldest base epoch: DESIGN CHOICE (log 195). -/
def solveEpoch (node : Nat) (m : SolverMember) (t : Nat) (cells : List UpCell) (stationary : Bool) (s : State) : State :=
  let use := s.usableCells m t cells
  if s.vol.corr.withheld ∨ use = [] then predict node t m (noteCells node m.mode cells s)
  else
    let run := s.solveRun node
    let run := { run with slipped := run.allSlips m.mode cells }
    let set := s.cfg.solver
    let (k, s) := s.draw
    let iods := s.iodsAt t
    let e := s.fitEpoch m run t k stationary (run.iods != iods) use
    let age := (use.map (·.2.2)).foldl max 0
    let made := (use.map fun u => s.baseMade (t - u.2.2)).foldl max 0
    let r := solution set m (max 1 (rootQ e.fit.t)) e.fix.filter
      { blankRecord node 0 with
        state := e.fix.state, stb := some (t * unitMs), ratio := e.fix.ratio, nFixed := e.fix.nFixed, nAmb := e.fix.nAmb
        nSv := sat 8 (satsOf (e.fit.meas.map (·.cell))).length, nExcl := sat 8 e.fit.out.length, baseAge := age, iods := iods
        tStat := sat 16 (roundRat (e.fit.t * 100)).toNat, slips := sat 8 e.slips.length, latency := s.latency (max run.readyAt made) }
    let r := { r with
      flags := 2 * b2n (decide (age ≠ 0)) + 8 * b2n (s.siteExcl r.x r.y r.z) +
        16 * b2n (decide (mkRat set.tThr 100 < e.fit.t)) + 32 * b2n stationary + 128 * m.mode }
    let u := usableRec m run.lastUsable r
    let r := { r with flags := r.flags + b2n u }
    let f := e.fit.filter.only fun v => !e.fit.out.any fun c => CellKey.var c == v
    let s := s.modSolveRun node fun x =>
      { x with
        predCount := 0, lastSolved := some t, lastEpoch := some t, lastUsable := u, cells := cells, reinit := 0, slipped := []
        held := e.fix.held, passes := e.fix.passes, conflicts := x.conflicts + b2n e.fix.conflict, iods := iods
        stationary := stationary, bases := x.newBases use, filter := f, solution := some (e.fix.filter.only FilterVar.kept)
        wide := e.wide, residuals := newResiduals t e.fit.filter e.fit.meas x.residuals }
    let s := { s with ctl.filters := tput s.ctl.filters node (f.only FilterVar.kept) }
    emitRecord r m (countEvents 0x0401 ((s.conn node).map (·.flow)) 1 s)

/-! ### Assembly (R167) -/

def countBad (s : State) : State := { s with vol.solver := { s.vol.solver with bad := satInc 32 s.vol.solver.bad } }
def countStale (s : State) : State := { s with vol.solver := { s.vol.solver with stale := satInc 32 s.vol.solver.stale } }

/-- The parts held are solved, and the assembly is empty; the record passes to the envelope check (R180). -/
def solveParts (node : Nat) (m : SolverMember) (timedOut : Bool) (s : State) : State :=
  let run := s.solveRun node
  let s := s.modSolveRun node fun x => { x with parts := [], waiting := false }
  let s := if timedOut then
      { s with vol.solver := { s.vol.solver with timedOut := satInc 32 s.vol.solver.timedOut } } else s
  envelopeStep node (solveEpoch node m run.epochMs (run.parts.flatMap (·.cells)) run.stationary s)

/-- Whether parts 0 to k have all arrived and part k has more clear. -/
def complete (ps : List UpPart) : Bool :=
  ps.any fun p => !p.more && (List.range (p.part + 1)).all fun k => ps.any fun q => q.part == k

/-- A part of the epoch being assembled, delivered at MTB tick `made`. Of parts that differ in the stationary bit the last one delivered
holds. DESIGN CHOICE (log 196). -/
def addPart (node : Nat) (m : SolverMember) (made : Nat) (u : Upload) (s : State) : State :=
  let s := s.modSolveRun node fun x =>
    { x with
      parts := x.parts ++ [⟨u.part, u.more, u.cells⟩], stationary := u.stationary, waiting := x.waiting || !u.more
      readyAt := made }
  if complete (s.solveRun node).parts then solveParts node m false s else s

/-- The epoch interval of a member at STB ms `t`: a change of rate waits for the first epoch on the new grid (R186). -/
def SolveRun.interval (r : SolveRun) (m : SolverMember) (t : Nat) : Nat :=
  match r.grid with
  | some (old, from') => if t < from' then epochInterval old else epochInterval m.rate
  | none => epochInterval m.rate

/-- Whether STB ms `t` falls on a grid of `iv` ms of GPS time. -/
def onGrid (iv t : Nat) : Bool := ((t : Int) - 315964819000) % iv == 0

/-- An upload payload of a member, delivered at MTB tick `made` (R161, R164, R167, R186). -/
def uploadPart (node made : Nat) (payload : List Byte) (s : State) : State :=
  match s.solved node with
  | none => s
  | some m =>
    match readUpload payload, s.ctl.time.stb with
    | some u, some stb =>
      let t := stbOfWeekMs stb u.timeMs / unitMs
      let run := s.solveRun node
      let old := match run.lastSolved with
        | some l => decide (t ≤ l)
        | none => false
      if stb + 2000 * unitMs < t * unitMs ∨ (t + 2000) * unitMs < stb ∨ !onGrid (run.interval m t) t then countBad s
      else
        let s := s.modSolveRun node fun x => { x with begun := true, seen := t :: x.seen.filter fun e => decide (t < e + 4000) }
        if old then countStale s
        else if run.parts ≠ [] ∧ t < run.epochMs then countStale s
        else if run.parts ≠ [] ∧ t = run.epochMs then addPart node m made u s
        else
          let s := if run.parts ≠ [] ∧ run.waiting then solveParts node m true (s.modSolveRun node fun x => { x with readyAt := made }) else s
          addPart node m made u (s.modSolveRun node fun x => { x with epochMs := t, parts := [], waiting := false })
    | _, _ => countBad s

/-- The work at the end of the wait for parts of the epoch at STB ms `epoch`: it is solved with the parts held, if they still wait. -/
def partWaitWork (node epoch : Nat) (s : State) : State :=
  match s.solved node with
  | some m => if (s.solveRun node).waiting ∧ (s.solveRun node).epochMs = epoch ∧ !s.hsw.warned then settle node (solveParts node m true s) else s
  | none => s

/-- part_wait_ms after the last part, the epoch is solved with the parts held (R167). -/
def execEpochPartWaitExpiry (node : Nat) (s : State) : Host.Outcome State Fault Refusal :=
  match s.solved node with
  | some _ =>
    if (s.solveRun node).waiting ∧ !s.hsw.warned then
      .next (workOn 4 (s.flowOf node) node (.epochPartWaitExpiry node (s.solveRun node).epochMs)
        (partWaitWork node (s.solveRun node).epochMs)
        (s.modSolveRun node fun x => { x with readyAt := s.mtb }))
    else .next s
  | none => .next s

/-- Whether an epoch of a member can be missing: solving has begun, no part of it has come, and no record of it or of a later
epoch has been emitted (R160, R169, R185). -/
def SolveRun.lacks (r : SolveRun) (epoch : Nat) : Bool :=
  let after := fun l : Option Nat => match l with
    | some e => decide (e < epoch)
    | none => true
  r.begun && !r.seen.contains epoch && after r.lastSolved && after r.lastEpoch

/-- The work of a PREDICT item: an epoch of which a part or a later record has come while the item waited on the flow is not missing any
more (R169, R185). -/
def predictWork (node epoch : Nat) (s : State) : State :=
  match s.solved node with
  | some m => if s.hsw.warned || !(s.solveRun node).lacks epoch then s else settle node (envelopeStep node (predict node epoch m s))
  | none => s

/-- The instant of R169 for an epoch at STB ms `epoch`: STB passes to it, and a predicted record is emitted when no part of
the epoch has come. -/
def execMissingEpoch (node epoch : Nat) (s : State) : Host.Outcome State Fault Refusal :=
  match s.solved node with
  | none => .next s
  | some m =>
    let run := s.solveRun node
    let iv := run.interval m epoch
    if !onGrid iv epoch || s.ctl.time.stb.isNone || s.hsw.warned || !run.lacks epoch then .next s
    else
      let s := passToStb ((epoch + iv + 20) * unitMs) s
      .next (workOn 4 (s.flowOf node) node (.missingEpoch node epoch) (predictWork node epoch)
        (s.modSolveRun node fun x => { x with readyAt := s.mtb }))

/-- 60 s after a member disconnected its filter states are reinitialised (R186). -/
def execFilterRetentionExpiry (node : Nat) (s : State) : Host.Outcome State Fault Refusal :=
  if (s.conn node).isSome ∨ (s.solveRun node).endedAt.isNone then .next s
  else .next { (s.modSolveRun node fun x => { x with reinit := 7, held := [], passes := 0, solution := none, endedAt := none }) with
    ctl.filters := tdel s.ctl.filters node }

/-! ### The cross-member test (R181, R182) -/

/-- SOLVER.ALARM with ALARM in HW_IRQ_CAUSE and its record. -/
def solverAlarm (code : Nat) (raised : Bool) (const sv : Nat) (tile : Int × Int) (tested : Nat) (s : State) : State :=
  record 0x0401 code (leBytes 1 (b2n raised) ++ leBytes 1 const ++ leBytes 1 sv)
    (sendMsg 0x0481 (leBytes 1 code ++ leBytes 1 (b2n raised) ++ leBytes 1 const ++ leBytes 1 sv ++ leInt 2 tile.1 ++
      leInt 2 tile.2 ++ leBytes 2 tested ++ zeros 2 ++ timeBytes s.ctl.time.stb) (raiseAlarm s))

/-- Members that take part: state 3 or 4 without INTEG_FAIL, each with its tile. -/
def State.testMembers (s : State) : List (Nat × (Int × Int)) :=
  s.vol.solver.runs.filterMap fun e =>
    match e.2.record, s.solved e.1 with
    | some r, some _ => if (r.state = 3 ∨ r.state = 4) ∧ !r.flags.testBit 4 then some (e.1, s.tileOf r.x r.y r.z) else none
    | _, _ => none

def State.testedIn (s : State) (tile : Int × Int) : Nat := (s.testMembers.filter fun e => e.2 == tile).length

/-- The median of values; the mean of the middle two of an even number. -/
def medianQ (l : List Rat) : Rat :=
  let m := l.mergeSort fun a b => decide (a ≤ b)
  (m.getD ((m.length - 1) / 2) 0 + m.getD (m.length / 2) 0) / 2

/-- Whether the residuals of a satellite in a tile are anomalous. -/
def anomalous (thr : Nat) (l : List Rat) : Bool :=
  let m := medianQ l
  decide ((thr : Rat) < |m|) && decide (2 * l.length ≤ 3 * (l.filter fun r => decide (0 < r * m)).length)

/-- r_m,s of a member for each satellite that it holds: the mean of the satellite's phase residuals over the last second. -/
def State.meanResiduals (s : State) (now node : Nat) : List ((Nat × Nat) × Rat) :=
  let rs := (s.solveRun node).residuals.filter fun r => decide (now < r.ms + 1000)
  let sats := (rs.map fun r => (r.const, r.sv)).eraseDups
  sats.map fun x =>
    let l := (rs.filter fun r => (r.const, r.sv) == x).map (·.mm)
    (x, l.sum / l.length)

/-- What a test at STB ms `now` finds: the tiles tested and the anomalous satellites of each. -/
def State.anomalies (s : State) (now : Nat) : List ((Int × Int) × List (Nat × Nat)) :=
  let ms := s.testMembers
  let tiles := (ms.map (·.2)).eraseDups
  tiles.filterMap fun t =>
    let rt := (ms.filter fun e => e.2 == t).flatMap fun e => s.meanResiduals now e.1
    let vals := fun x : Nat × Nat => (rt.filter fun r => r.1 == x).map (·.2)
    let many := ((rt.map (·.1)).eraseDups).filter fun x => decide (s.cfg.solver.nMin ≤ (vals x).length)
    if many = [] then none else some (t, many.filter fun x => anomalous s.cfg.solver.thrMm (vals x))

/-- Satellites of a constellation that the base tracks and no exclusion names. -/
def State.unexcluded (s : State) (const : Nat) : Nat :=
  match s.vol.gnss.epochs with
  | [] => 0
  | e :: _ =>
    let svs := (e.recs.filter fun r => (signalOf r.sig).const == const).foldl
      (fun l r => if l.contains r.sv then l else r.sv :: l) []
    (svs.filter fun v => !s.svExcluded const v).length

/-- Code 3 is raised, and latched in the configuration in force (R189). -/
def raiseCode3 (s : State) : State :=
  if s.cfg.solver.code3 then s
  else solverAlarm 3 true 0xFF 0xFF (0x7FFF, 0x7FFF) s.testMembers.length
    { s with ctl.cfg.solver := { s.cfg.solver with code3 := true, clear3 := false } }

/-- Whether an exclusion would leave fewer than four satellites of a constellation unexcluded. -/
def State.tooFew (s : State) (const sv : Nat) : Bool := !s.svExcluded const sv && decide (s.unexcluded const ≤ 4)

/-- Code 1: the satellite is excluded, or code 3 is raised when fewer than four would be left. A satellite whose exclusion has elapsed
while its alarm is active is excluded for excl_s again. DESIGN CHOICE (log 156). -/
def raiseCode1 (tile : Int × Int) (const sv : Nat) (s : State) : State :=
  if s.svExcluded const sv then s
  else if s.tooFew const sv then raiseCode3 s
  else
    let x : SatExclusion := { const := const, sv := sv, elapsed := false, clean := 0, tile := tile }
    if s.vol.solver.exclusions.any fun y => y.const == const && y.sv == sv then
      { s with vol.solver := { s.vol.solver with
        exclusions := s.vol.solver.exclusions.map fun y => if y.const = const ∧ y.sv = sv then x else y } }
    else solverAlarm 1 true const sv tile (s.testedIn tile)
      { s with vol.solver := { s.vol.solver with exclusions := s.vol.solver.exclusions ++ [x] } }

def raiseCode2 (tile : Int × Int) (s : State) : State :=
  if s.vol.solver.tiles.any fun a => a.tile == tile then s
  else solverAlarm 2 true 0xFF 0xFF tile (s.testedIn tile)
    { s with vol.solver := { s.vol.solver with tiles := s.vol.solver.tiles ++ [⟨tile, 0⟩] } }

/-- One test at STB ms `now`. -/
def crossTest (now : Nat) (s : State) : State :=
  let found := s.anomalies now
  let v := s.vol.solver
  let an : List Anomaly := found.flatMap fun e => e.2.map fun x =>
    let old := (v.anomalies.find? fun a => a.tile == e.1 && a.const == x.1 && a.sv == x.2).map (·.tests)
    { tile := e.1, const := x.1, sv := x.2, tests := old.getD 0 + 1 }
  let multi : List ((Int × Int) × Nat) := (found.filter fun e => decide (3 ≤ e.2.length)).map fun e =>
    (e.1, (((v.multi.find? fun m => m.1 == e.1).map (·.2)).getD 0) + 1)
  let s : State := { s with vol.solver := { v with
    anomalies := an, multi := multi,
    exclusions := v.exclusions.map fun x =>
      { x with clean := if an.any (fun a => a.const == x.const && a.sv == x.sv) then 0 else x.clean + b2n x.elapsed },
    tiles := v.tiles.map fun a => { a with clean := if multi.any (fun m => m.1 == a.tile) then 0 else a.clean + 1 } } }
  let p := s.cfg.solver.persist
  let few := an.any fun a => decide (p ≤ a.tests) && s.tooFew a.const a.sv
  let s := (an.filter fun a => decide (p ≤ a.tests)).foldl (fun s a => raiseCode1 a.tile a.const a.sv s) s
  let s := (multi.filter fun (m : (Int × Int) × Nat) => decide (p ≤ m.2)).foldl (fun s m => raiseCode2 m.1 s) s
  let all := decide (2 ≤ found.length) &&
    found.all fun e => multi.any fun (m : (Int × Int) × Nat) => m.1 == e.1 && decide (p ≤ m.2)
  if all then raiseCode3 s
  else if s.cfg.solver.code3 && s.cfg.solver.clear3 && !few then
    solverAlarm 3 false 0xFF 0xFF (0x7FFF, 0x7FFF) s.testMembers.length
      { s with ctl.cfg.solver := { s.cfg.solver with code3 := false, clear3 := false } }
  else s

/-- The test of the next STB second: STB passes to it. None runs without a base position. -/
def execCrossMemberTest (s : State) : Host.Outcome State Fault Refusal :=
  match s.ctl.time.stb, s.cfg.corr.base with
  | some t, some _ =>
    if s.hsw.warned then .next s else .next (crossTest ((t / unitS + 1) * 1000) (passToStb ((t / unitS + 1) * unitS) s))
  | _, _ => .next s

/-- excl_s of a code-1 exclusion have elapsed: the tests without anomaly count from now. -/
def execSolverExclusionExpiry (const sv : Nat) (s : State) : Host.Outcome State Fault Refusal :=
  .next { s with vol.solver := { s.vol.solver with
    exclusions := s.vol.solver.exclusions.map fun x =>
      if x.const = const ∧ x.sv = sv ∧ !x.elapsed then { x with elapsed := true, clean := 0 } else x } }

/-- An alarm of code 1 or 2 clears once clear_s of tests have passed without its condition. -/
def execSolverAlarmClearExpiry (code const sv : Nat) (east north : Int) (s : State) : Host.Outcome State Fault Refusal :=
  let n := s.cfg.solver.clearS
  if code = 1 then
    match s.vol.solver.exclusions.find? fun x => x.const == const && x.sv == sv with
    | some x =>
      .next (if x.elapsed ∧ n ≤ x.clean then
          solverAlarm 1 false const sv x.tile (s.testedIn x.tile)
            { s with vol.solver := { s.vol.solver with
              exclusions := s.vol.solver.exclusions.filter fun y => !(y.const == const && y.sv == sv) } }
        else s)
    | none => .next s
  else
    match s.vol.solver.tiles.find? fun a => a.tile == (east, north) with
    | some a =>
      .next (if n ≤ a.clean then
          solverAlarm 2 false 0xFF 0xFF a.tile (s.testedIn a.tile)
            { s with vol.solver := { s.vol.solver with tiles := s.vol.solver.tiles.filter fun b => b.tile != a.tile } }
        else s)
    | none => .next s

/-! ### Opcodes -/

def runSolverConfig (c : HostCmd) (s : State) : CmdResult :=
  let ps := c.packet.params
  .accepted { s with ctl.cfg.solver := { s.cfg.solver with
    codeSigma := fld ps 0 2, phaseSigma := fld ps 2 2, qH := fld ps 4 4, qV := fld ps 8 4, qIono := fld ps 12 2,
    qTrop := fld ps 14 2, ratio := fld ps 16 2, minFix := fld ps 18 1, fixEpochs := fld ps 19 1, arElev := fld ps 20 1,
    exclMax := fld ps 21 1, tThr := fld ps 22 2, kH := fld ps 24 2, kV := fld ps 26 2, extrapMax := fld ps 28 2,
    partWait := fld ps 30 2 } } []

/-- Reply of SOLVER.MEMBER: free space and free rate × 10. -/
def memberReply (s : State) : List Byte :=
  let (u, r) := capacityOf s.cfg.solver.members s.baselineRun
  leBytes 2 (2048 - u) ++ leBytes 2 (51200 - r)

/-- The setting that a command gives. -/
def readMember (ps : List Byte) : SolverMember :=
  { mode := fld ps 3 1, rate := fld ps 4 1, minState := fld ps 5 1, grace := fld ps 6 1, decim := fld ps 7 1,
    hal := fld ps 8 4, val := fld ps 12 4, pcoUp := fld ps 16 2, sigMask := fld ps 20 4 }

/-- The old rate code, and the first instant of the new grid, at which it ends (R186); none without STB. -/
def State.newGrid (s : State) (old new : Nat) : Option (Nat × Nat) :=
  s.ctl.time.stb.map fun t =>
    let iv := epochInterval new
    let k := (t + unitMs - 1) / unitMs
    (old, k + ((315964819000 - (k : Int)) % iv).toNat)

/-- Solving ends for a member: its settings and its filter go (R160, R186). -/
def dropMember (node : Nat) (s : State) : State :=
  { (s.modSolveRun node fun x =>
      { x with parts := [], waiting := false, reinit := 7, begun := false, solution := none, grid := none }) with
    ctl.cfg.solver.members := tdel s.cfg.solver.members node
    ctl.filters := tdel s.ctl.filters node }

/-- A member is solved for with new settings: a change of mode starts its ionosphere and ambiguity states afresh, a change of
rate keeps the old grid until the first instant of the new one (R160, R186). -/
def setMember (node : Nat) (m : SolverMember) (s : State) : State :=
  let t := { s with ctl.cfg.solver.members := tput s.cfg.solver.members node m }
  match tget s.cfg.solver.members node with
  | none => t.modSolveRun node fun x => { x with reinit := 7, held := [], passes := 0 }
  | some o =>
    t.modSolveRun node fun x =>
      { x with reinit := if o.mode = m.mode then x.reinit else x.reinit ||| 6
               held := if o.mode = m.mode then x.held else []
               passes := if o.mode = m.mode then x.passes else 0
               grid := if o.rate = m.rate then x.grid else t.newGrid o.rate m.rate }

def runSolverMember (c : HostCmd) (s : State) : CmdResult :=
  let ps := c.packet.params
  let node := fld ps 0 2
  let off := fld ps 2 1 = 0
  let m := readMember ps
  let old := tget s.cfg.solver.members node
  let ms := if off then tdel s.cfg.solver.members node else tput s.cfg.solver.members node m
  let ed1 := match s.conn node with
    | some k => k.edition == 1
    | none => false
  let zero := if off then firstNonZeroField ps [(3, 1), (4, 1), (5, 1), (6, 1), (7, 1), (8, 4), (12, 4), (16, 2), (20, 4)]
    else none
  match zero with
  | some o => .refuse erRange o
  | none =>
    if s.ctl.mode = .fen then .refuse erState 2
    else if ed1 then .refuse erState 1
    else if !off ∧ 10 * s.cfg.gnss.epochRate < rate10 m.rate then .refuse erState s.cfg.gnss.epochRate
    else if off ∧ old.isNone then .refuse erState 0
    else
      match (if off then none else capacityError ms s.baselineRun) with
      | some d => .refuse erCapacity d
      | none =>
        let s := sendRate false node (if off then dropMember node s else setMember node m s)
        .accepted s (memberReply s)

/-- The record that SOLVER.READ gives for a node. -/
def State.readRecord (s : State) (node : Nat) : SolverRecord :=
  let ed1 := match s.conn node with
    | some k => k.edition == 1
    | none => false
  match tget s.cfg.solver.members node with
  | none => blankRecord node 64
  | some m => if ed1 then blankRecord node 64
    else ((s.solveRun node).record).getD { blankRecord node (128 * m.mode) with stb := none }

def runSolverRead (c : HostCmd) (s : State) : CmdResult :=
  let ps := c.packet.params
  .ok s ((List.range (fld ps 0 1)).flatMap fun k => (s.readRecord (fld ps (4 + 2 * k) 2)).bytes)

/-- Alarms active: bit 0 code 1, bit 1 code 2, bit 2 code 3. -/
def State.alarmBits (s : State) : Nat :=
  b2n (!s.vol.solver.exclusions.isEmpty) + 2 * b2n (!s.vol.solver.tiles.isEmpty) + 4 * b2n s.cfg.solver.code3

def runSolverStatus (_ : HostCmd) (s : State) : CmdResult :=
  let ms := s.cfg.solver.members
  let (u, r) := capacityOf ms s.baselineRun
  let recs := ms.filterMap fun e => (s.solveRun e.1).record
  let count := fun f : SolverRecord → Bool => (recs.filter f).length
  let v := s.vol.solver
  .ok s (leBytes 2 ms.length ++ leBytes 2 (ms.filter fun e => (s.solved e.1).isSome).length ++ leBytes 2 u ++ leBytes 2 r ++
    leBytes 2 (count fun x => x.state == 3 || x.state == 4) ++ leBytes 2 (count fun x => x.state == 2) ++
    leBytes 2 (count fun x => x.state == 0 || x.state == 1 || x.state == 5) ++ leBytes 2 (count fun x => !x.usable) ++
    leBytes 1 s.alarmBits ++ leBytes 1 v.exclusions.length ++ zeros 2 ++ leBytes 4 v.stale ++ leBytes 4 v.bad ++
    leBytes 4 v.timedOut)

/-- One member's filter begins anew at its next epoch. -/
def resetFilter (node : Nat) (s : State) : State :=
  { (s.modSolveRun node fun x => { x with reinit := 7, held := [], passes := 0, solution := none }) with
    ctl.filters := tdel s.ctl.filters node }

def runSolverReset (c : HostCmd) (s : State) : CmdResult :=
  let node := fld c.packet.params 0 2
  if node = 0xFFFF then .accepted ((tkeys s.cfg.solver.members).foldl (fun s n => resetFilter n s) s) []
  else if (tget s.cfg.solver.members node).isNone then .refuse erState 0
  else .accepted (resetFilter node s) []

/-- Reply of SOLVER.INTEGRITY. -/
def integrityReply (s : State) : List Byte :=
  let xs := s.vol.solver.exclusions
  leBytes 1 s.alarmBits ++ leBytes 1 (b2n s.cfg.solver.code3) ++ leBytes 2 xs.length ++
    xs.flatMap fun x => leBytes 1 x.const ++ leBytes 1 x.sv

/-- The cross-member test is set: code-2 alarms clear and the tests start again. -/
def setIntegrity (ps : List Byte) (s : State) : State :=
  let old := s.vol.solver.tiles
  let s := { s with
    ctl.cfg.solver := { s.cfg.solver with
      nMin := fld ps 1 1, tileM := fld ps 2 2, thrMm := fld ps 4 2, persist := fld ps 6 1, exclS := fld ps 8 2,
      clearS := fld ps 10 2 },
    vol.solver := { s.vol.solver with tiles := [], anomalies := [], multi := [] } }
  old.foldl (fun s a => solverAlarm 2 false 0xFF 0xFF a.tile 0 s) s

def runSolverIntegrity (c : HostCmd) (s : State) : CmdResult :=
  let ps := c.packet.params
  let op := fld ps 0 1
  match (if op = 1 then none else firstNonZeroField ps [(1, 1), (2, 2), (4, 2), (6, 1), (8, 2), (10, 2)]) with
  | some o => .refuse erRange o
  | none =>
    let s := if op = 1 then setIntegrity ps s
      else if op = 2 then { s with ctl.cfg.solver := { s.cfg.solver with clear3 := s.cfg.solver.code3 } } else s
    .accepted s (integrityReply s)

def execSolverConfig (p : Packet) (s : State) : Host.Outcome State Fault Refusal :=
  .next (serve 0x0401 runSolverConfig p s)
def execSolverMember (p : Packet) (s : State) : Host.Outcome State Fault Refusal :=
  .next (serve 0x0402 runSolverMember p s)
def execSolverRead (p : Packet) (s : State) : Host.Outcome State Fault Refusal := .next (serve 0x0403 runSolverRead p s)
def execSolverStatus (p : Packet) (s : State) : Host.Outcome State Fault Refusal :=
  .next (serve 0x0404 runSolverStatus p s)
def execSolverReset (p : Packet) (s : State) : Host.Outcome State Fault Refusal := .next (serve 0x0405 runSolverReset p s)
def execSolverIntegrity (p : Packet) (s : State) : Host.Outcome State Fault Refusal :=
  .next (serve 0x0406 runSolverIntegrity p s)

end Sys2Proof.Machine
end

