-- ==== Sys2Proof/Machine/Time.lean ====
section
/-! DEFINITION.
Site time and its quality, holdover, return by slew or step, leap seconds, air time, PPS, the inputs and PTP (chapter 08).
-/

namespace Sys2Proof.Machine

def State.modTime (s : State) (f : TimeRun → TimeRun) : State := { s with vol.time := f s.vol.time }

def State.modValues (s : State) (f : TimeValues → TimeValues) : State := { s with ctl.time := f s.ctl.time }

/-- Units of 2^-16 ns in 100 ns and 1 µs. -/
def unit100Ns : Nat := 6553600
def unitUs : Nat := 65536000

/-- The STB second reached. -/
def State.stbSecond (s : State) : Nat := s.ctl.time.stb.getD 0 / unitS

/-! ### Quality of site time (R196 to R199) -/

def stbCode : StbState → Nat
  | .locked => 0
  | .fenLocked => 1
  | .holdoverA => 2
  | .holdoverB => 3
  | .holdoverC => 4
  | .returning => 5
  | .restored => 6
  | .invalid => 7

/-- STB takes a quality state: TIME.STATE and its record. -/
def setStb (x : StbState) (cause err : Nat) (s : State) : State :=
  let old := s.vol.time.state
  if old = x then s.modTime fun r => { r with estErr := err }
  else
    let s := s.modTime fun r => { r with state := x, estErr := err }
    record 0x0501 0xFFFF (leBytes 1 (stbCode x) ++ leBytes 1 (stbCode old) ++ leBytes 1 cause)
      (sendMsg 0x0581 (leBytes 1 (stbCode x) ++ leBytes 1 (stbCode old) ++ leBytes 1 cause ++ zeros 1 ++ leBytes 4 s.estNs ++
        timeBytes s.ctl.time.stb) s)

/-- The state of disciplined STB: LOCKED, or FEN_LOCKED in Fen mode. -/
def State.lockedState (s : State) : StbState := if s.vol.gnss.fen then .fenLocked else .locked

/-- A measured error of disciplined STB: a free value within the bound of Table Time-3. -/
def drawErr (s : State) : Nat × State :=
  let bound := if s.vol.gnss.fen then 40 else 20
  let (k, s) := s.draw
  (Config.sense 0x5001 k % (bound * unitNs + 1), s)

/-- Fen mode is entered or left while STB is disciplined (Table Time-3). -/
def timeFen (s : State) : State :=
  if s.vol.time.state = .locked ∨ s.vol.time.state = .fenLocked then
    let (e, s) := drawErr s
    setStb s.lockedState 6 e s
  else s

/-- The conditions of R197 for a return: four satellites in phase lock and no interference flag. -/
def State.returnReady (s : State) : Bool :=
  decide (4 ≤ ((List.range 5).map s.lockedSats).sum) && (List.range 4).all fun fe => !s.interf fe

/-- The least agreement of R197: two satellites in phase lock whose timing residuals lie within 50 ns, and a base position or, before
one exists, a code solution. -/
def State.timingAgrees (s : State) (m : EpochMeas) : Bool :=
  let on := m.timing.filter fun x => s.satLocked x.1 x.2.1
  (s.cfg.corr.base.isSome || m.code.isSome) &&
    on.any fun a => on.any fun b => (a.1, a.2.1) != (b.1, b.2.1) && decide ((a.2.2 - b.2.2).natAbs ≤ 50 * unitNs)

/-- The holdover model starts from an error, now. -/
def startModel (err : Nat) (s : State) : State :=
  let now := s.mtb
  s.modTime fun r => { r with entryErr := err, modelAt := now }

/-- Whether STB is disciplined in a state. -/
def StbState.disciplined (x : StbState) : Bool := x == .locked || x == .fenLocked || x == .returning

/-- A new rate of STB takes effect at once or, once PPS_INFO has announced a pulse, after that pulse, which is emitted exactly as described
(R206, R207). DESIGN CHOICE (log 197). -/
def TimeRun.steerRate (rate : Int) (r : TimeRun) : TimeRun :=
  if r.pulses.isEmpty then { r with rate := rate, nextRate := none } else { r with nextRate := some rate }

/-- The same of an error that is to be slewed out. -/
def TimeRun.steerSlew (e : Int) (r : TimeRun) : TimeRun :=
  if r.pulses.isEmpty then { r with remaining := e, slewRem := 0, nextSlew := none } else { r with nextSlew := some e }

/-- What waited for an announced pulse takes effect when none is left. -/
def TimeRun.settleSteer (r : TimeRun) : TimeRun :=
  let r := match r.nextRate with
    | some v => r.steerRate v
    | none => r
  match r.nextSlew with
  | some e => r.steerSlew e
  | none => r

/-- Discipline ceases: holdover begins, and a pending step is cancelled (R197, R202). -/
def loseDiscipline (s : State) : State :=
  let e := s.estNow
  let on := s.vol.time.state.disciplined
  let s := s.modTime fun r => { r with pending := none, cancelled := r.pending.or r.cancelled, timingOk := false, readySince := none }
  if on then
    let now := s.mtb
    let s := startModel e (s.modTime fun r =>
      { r.steerSlew 0 with enteredAt := now, refInUse := b2n (s.ctl.timeCfg.holdoverRef == 1 && r.syncRef) })
    setStb .holdoverA 0 e s
  else s

def execStbDisciplineLoss (s : State) : Host.Outcome State Fault Refusal := .next (loseDiscipline s)

/-- A rate of STB against the TCXO that measurement gives: a free value within ±0.5 ppm (R193, log 39). -/
def drawRate (s : State) : Int × State :=
  let (k, s) := s.draw
  ((Config.sense 0x5010 k % 1000001 : Nat) - 500000, s)

/-- The deviation of SYNC_REF_IN against GNSS, in 10^-12, that its count against the TCXO gives beside the rate of STB against the TCXO
(R199). -/
def calibrated (count : Nat) (rate : Int) : Int := (count : Int) * 1000000000000 / (1000000000000 + rate) - 1000000000000

/-- What discipline takes from the timing solution of an epoch: the rate of STB and the offsets between the systems, both free values (log
39), and from them, with SYNC_REF_IN selected and counted, its calibration against GNSS (R194, R198, R199). -/
def disciplineStep (s : State) : State :=
  let (rate, s) := drawRate s
  let (k, s) := s.draw
  let ref := s.ctl.timeCfg.holdoverRef == 1 && s.vol.time.syncRef
  s.modTime fun r =>
    { r.steerRate rate with
      offsets := (List.range 5).map fun c => signed 32 (Config.sense (0x5020 + c) k % 2 ^ 32)
      refCal := if ref ∧ r.refCount ≠ 0 then some (calibrated r.refCount rate) else r.refCal }

/-- An epoch as the time island takes it: since when the conditions of a return hold, and discipline or its loss, which also cancels a step
that is pending in holdover (R197, R202). -/
def timeEpoch (m : EpochMeas) (s : State) : State :=
  let ok := s.timingAgrees m
  let ready := s.returnReady
  let now := s.mtb
  let s := s.modTime fun r =>
    { r with timingOk := ok, readySince := if ready then r.readySince.or (some now) else none }
  if !s.vol.time.state.disciplined then (if !ok && s.vol.time.pending.isSome then loseDiscipline s else s)
  else if ok then disciplineStep s
  else loseDiscipline s

/-- Whether an epoch may take STB out of INVALID (R197). -/
def State.firstReady (s : State) : Bool := s.vol.time.timingOk && s.returnReady

/-- The seconds from the start of the model to an estimate of `bound` (2^-16 ns). -/
def State.crossing (s : State) (bound : Nat) : Rat :=
  let r := s.vol.time
  let c : Rat := mkRat ((bound : Int) - r.entryErr) unitNs
  let a := holdA r.refInUse
  let b := holdB r.refInUse
  if c ≤ 0 then 0 else (rootQ (a * a + 4 * b * c) - a) / (2 * b)

/-- The estimate crosses a bound: time passes to that instant. A pending step keeps the state until B (R201). -/
def execHoldoverBoundCrossing (s : State) : Host.Outcome State Fault Refusal :=
  let r := s.vol.time
  if (r.state ≠ .holdoverA ∧ r.state ≠ .holdoverB) ∨ r.pending.isSome then .next s
  else
    let bound := if r.state = .holdoverA then unit100Ns else unitUs
    let at' := r.modelAt + (s.crossing bound * tickS).ceil.toNat
    let s := passTicks (at' - s.mtb) s
    .next (setStb (if r.state = .holdoverA then .holdoverB else .holdoverC) 4 (max (bound + 1) s.estNow) s)

def execSyncRefInLost (s : State) : Host.Outcome State Fault Refusal :=
  let r := s.vol.time
  let e := s.estNow
  let s := s.modTime fun r => { r with syncRef := false }
  if r.state.holdover ∧ r.refInUse = 1 then
    .next (recordOther 5 0 (startModel e (s.modTime fun r => { r with refInUse := 0 })))
  else .next s

def execSyncRefInRestored (s : State) : Host.Outcome State Fault Refusal := .next (s.modTime fun r => { r with syncRef := true })

/-! ### First discipline, slew and step (R197, R200 to R205) -/

/-- The first whole second of STB `t` that leaves 100 ms for its PPS_INFO (R207). -/
def firstPulse (t : Nat) : Nat := ceilDiv (t + unitS / 10) unitS

/-- Pulses begin now (R207, R208). -/
def beginPulses (s : State) : State :=
  let n := firstPulse (s.ctl.time.stb.getD 0)
  s.modTime fun r => { r with ppsFrom := n, pulses := [] : TimeRun }.settleSteer

/-- PTB follows a change of STB while it is disciplined to it (R191, R217). -/
def ptbFollows (s : State) : State :=
  if s.ctl.timeCfg.ptp.ptbSource = 0 then s.modValues fun v => { v with ptb := v.stb } else s

/-- ATB − STB in whole superframes, to the nearest (R204). -/
def superframes (atb stb : Nat) : Int := roundRat (mkRat ((atb : Int) - stb) 131072000000)

/-- STB leaves INVALID at `stb` (R197): it is set, and the GNSS start ends. An ATB that runs from zero takes its offset. -/
def firstDiscipline (stb : Nat) (s : State) : State :=
  if s.vol.time.state ≠ .invalid then s
  else
    let s := s.modValues fun v =>
      { v with stb := some stb, atbOffsetSf := match v.atb with
          | some a => superframes a stb
          | none => v.atbOffsetSf }
    let (e, s) := drawErr (ptbFollows s)
    beginPulses (setStb s.lockedState 1 e s)

/-- Time passes until the conditions of a return have held for lock_hold_s (R197). -/
def passHold (s : State) : State :=
  let until' := s.vol.time.readySince.getD s.mtb + s.ctl.timeCfg.lockHold * tickS
  passTicks (until' - s.mtb) s

/-- STB can be disciplined again, the return conditions have held for lock_hold_s (R197), and the error `err` = STB − GNSS time is measured. Below 1 µs it is slewed out; from
1 µs on it is stepped out at B, and until then STB runs at the rate that GNSS measures (R200, R201). -/
def execStbQualified (err : Int) (s : State) : Host.Outcome State Fault Refusal :=
  let r := s.vol.time
  if !(r.state.holdover || r.state == .restored) || r.pending.isSome || !s.returnReady || !r.timingOk then .next s
  else
    let s := passHold s
    if err.natAbs < unitUs then .next (setStb .returning 1 err.natAbs (s.modTime (TimeRun.steerSlew err)))
    else
      let b := ceilDiv (s.ctl.time.stb.getD 0 + 3 * unitS) unitS
      let e := s.estNow
      let (rate, s) := drawRate s
      .next (s.modTime fun r => { r.steerRate rate with estErr := e, pending := some ⟨b, -err⟩ })

/-- The ticks in which the slew of R200 brings |e| to 5 ns: 100 ns in each second. -/
def State.slewTicks (s : State) : Nat := ceilDiv ((s.vol.time.remaining.natAbs - 5 * unitNs) * 10000000) unitTick

/-- The slew of R200 is complete: time passes to the instant at which |e| is 5 ns. A slew that waits for an announced pulse is not. -/
def execSlewComplete (s : State) : Host.Outcome State Fault Refusal :=
  if s.vol.time.state ≠ .returning || s.vol.time.nextSlew.isSome then .next s
  else
    let s := passTicks s.slewTicks s
    let e := s.vol.time.remaining.natAbs
    .next (setStb s.lockedState 2 e (s.modTime (TimeRun.steerSlew 0)))

/-- The TAI − UTC of a table at an STB second. -/
def LeapTable.value (t : LeapTable) (sec : Nat) : Nat := if t.changeAt ≠ 0 ∧ t.changeAt ≤ sec then t.next else t.taiUtc

/-- The built-in table of the firmware image: a value of the installation. -/
def builtinLeap : LeapTable := ⟨Config.sense 0x5002 0 % 256, Config.sense 0x5002 0 % 256, 0⟩

/-- The leap-second table in force: decoded, then host-set, then built-in (R195). -/
def State.leap (s : State) : LeapTable := s.vol.time.decoded.getD (s.ctl.timeCfg.leapHost.getD builtinLeap)

/-- Whether a change of TAI − UTC is announced after an STB second. -/
def State.leapPending (s : State) (sec : Nat) : Bool := s.leap.changeAt != 0 && decide (sec < s.leap.changeAt)

/-! ### Pulses (R206 to R208) -/

/-- Whether the active side's pulses may run: STB is valid and, after a takeover, the heartbeat has started (R208). -/
def State.pulsesRun (s : State) : Bool :=
  s.vol.time.state != .invalid && s.stageEnded 5 && s.hsw.active.isSome && s.vol.redun.relinquish.isNone

/-- The rate of STB in 10^-12 of the TCXO's, with the slew of R200. -/
def State.stbRate (s : State) : Int :=
  s.vol.time.rate + (if 0 < s.vol.time.remaining then -100000 else if s.vol.time.remaining < 0 then 100000 else 0)

/-- What a side's SYNC_REF_OUT pad carries. -/
inductive RefOut where
  | off
  | synthesised (ratio : Rat)
  | repeated
  | low
  deriving DecidableEq, Repr

/-- SYNC_REF_OUT of a side (R209): the synthesiser's cycles of 10 MHz for each second of the TCXO follow STB's rate; none: high impedance,
on a side that does not hold the active role (R208). -/
def State.syncRefOut (s : State) (x : SideId) : Option RefOut :=
  if s.hsw.active ≠ some x then none
  else if s.ctl.timeCfg.refOut = 0 then some .off
  else if s.ctl.timeCfg.refOut = 2 then some .repeated
  else if s.vol.time.state = .invalid then some .low
  else some (.synthesised (10000000 * (1 + mkRat s.stbRate 1000000000000)))

/-- The pulses on PPS_OUT of a side: none, high impedance, on one without the active role (R208). -/
def State.ppsOut (s : State) (x : SideId) : Option (List PulseInfo) := if s.hsw.active = some x then some s.out.pps else none

/-- The next whole second that has a pulse; an instant within one tick of its second is that second (log 7). -/
def State.nextPulse (s : State) : Nat :=
  max s.vol.time.ppsFrom ((s.ctl.time.stb.getD 0 + unitS - unitTick) / unitS)

/-- Whether a pulse would be suppressed: pps_out off, or a brown-out warning. -/
def State.suppressed (s : State) : Bool := !s.ctl.timeCfg.ppsOut || s.hsw.warned

/-- The ticks in which STB gains `d` (2^-16 ns): at its rate with the slew of R200, or at its rate alone from where the slew ends. -/
def State.ticksFor (s : State) (d : Int) : Rat :=
  let slewed : Rat := d / (unitTick * (1 + mkRat s.stbRate 1000000000000))
  if slewed * unitTick ≤ 10000000 * |(s.vol.time.remaining : Rat)| then slewed
  else (d + s.vol.time.remaining : Int) / (unitTick * (1 + mkRat s.vol.time.rate 1000000000000))

/-- The instant at which STB reaches a second, advanced by pps_delay_ps, in MTB ticks of the active side (R206). -/
def State.idealTick (s : State) (sec : Nat) : Rat :=
  s.mtb + s.ticksFor ((sec * unitS : Nat) - (s.ctl.time.stb.getD 0 : Int)) - mkRat s.ctl.timeCfg.ppsDelay 625

/-- The edge of the 500 MHz clock, 16/5 ticks apart, that lies nearest an instant; a tie goes to the earlier one. -/
def nearestEdge (x : Rat) : Nat := (x * 5 / 16 - 1 / 2).ceil.toNat

/-- The pulse of a second by the settings in force, with its edge and its quantisation error (R206). -/
def State.pulseOf (s : State) (sec : Nat) : PulseInfo :=
  let x := s.idealTick sec
  let k := nearestEdge x
  let q := ((k : Rat) * 16 / 5 - x) * 625 * (1 + mkRat s.stbRate 1000000000000)
  ⟨sec, s.suppressed, s.ctl.timeCfg.ppsWidth, s.ctl.timeCfg.ppsDelay, clampInt (-1000) 1000 (roundRat q), k⟩

/-- TIME.PPS_INFO of a pulse. -/
def ppsInfo (p : PulseInfo) (s : State) : State :=
  let r := s.vol.time
  let now := s.ctl.time.stb.getD 0
  let pend := match r.pending with
    | some x => decide (x.second ≤ p.second + 2) && decide (p.second ≤ x.second)
    | none => false
  let canc := match r.cancelled with
    | some x => decide (now < x.second * unitS)
    | none => false
  let x := if pend then r.pending else if canc then r.cancelled else none
  let flags := b2n pend + 2 * b2n canc + 4 * b2n r.stepped + 8 * b2n p.suppressed + 16 * b2n (r.state == .returning) +
    32 * b2n s.atbAligned + 64 * b2n (s.leapPending p.second)
  sendMsg 0x0580 (timeBytes (some (p.second * unitS)) ++ leInt 2 p.qPs ++ leBytes 1 (stbCode r.state) ++ leBytes 1 flags ++
    leBytes 4 s.estNs ++ leBytes 1 (s.leap.value p.second) ++ zeros 3 ++
    (match x with
      | some x => leBytes 6 x.second ++ leInt 4 (x.step.tdiv unitNs) ++ leBytes 2 (x.step.natAbs % unitNs)
      | none => zeros 12)) s

/-- The PPS_INFO of the next pulse that has none: time passes to 900 ms before it. A pulse less than 100 ms ahead has none. -/
def execPpsInfoSend (s : State) : Host.Outcome State Fault Refusal :=
  if !s.pulsesRun || !s.ctl.timeCfg.info then .next s
  else
    let told := fun n => s.vol.time.pulses.any fun p => p.second == n
    let sec := max s.nextPulse (firstPulse (s.ctl.time.stb.getD 0))
    let sec := if told sec then sec + 1 else sec
    let s := passToStb (sec * unitS - 9 * unitS / 10) s
    let p := s.pulseOf sec
    .next (ppsInfo p (s.modTime fun r => { r with pulses := r.pulses ++ [p] }))

/-- The pulse of a second is emitted as its PPS_INFO described it, and not after a brown-out warning. -/
def emitPulse (sec : Nat) (s : State) : State :=
  let p := (s.vol.time.pulses.find? fun p => p.second == sec).getD (s.pulseOf sec)
  let s := s.modTime fun r =>
    { r with ppsFrom := sec + 1, stepped := false, pulses := r.pulses.filter fun p => decide (sec < p.second) : TimeRun }.settleSteer
  if p.suppressed ∨ s.hsw.warned then s else { s with out.pps := s.out.pps ++ [p] }

/-- SYNC_REF_IN, deselected in holdover, serves no more from the next second on: STB continues from the TCXO (R199). DEDUCED (log 158). -/
def dropRef (s : State) : State :=
  if s.vol.time.state.holdover ∧ s.vol.time.refInUse = 1 ∧ s.ctl.timeCfg.holdoverRef = 0 then
    startModel s.estNow (s.modTime fun r => { r with refInUse := 0 })
  else s

/-- The count of SYNC_REF_IN against the TCXO over a second, while it is selected and present: a free value within ±10 ppm. In holdover on
it, STB keeps its rate against it; one that has no calibration yet takes it from that rate (R198, R199). -/
def countRef (s : State) : State :=
  let s := dropRef s
  if s.ctl.timeCfg.holdoverRef = 1 ∧ s.vol.time.syncRef then
    let (k, s) := s.draw
    let n := 999990000000 + Config.sense 0x5012 k % 20000001
    s.modTime fun r =>
      let r := { r with refCount := n }
      if r.state.holdover && r.refInUse == 1 && r.pending.isNone then
        match r.refCal with
        | some c => r.steerRate (calibrated n c)
        | none => { r with refCal := some (calibrated n (r.nextRate.getD r.rate)) }
      else r
  else s

/-- A whole second of STB: time passes to it, its pulse is emitted, and the reference is counted, which needs no pulse. -/
def execPpsPulse (s : State) : Host.Outcome State Fault Refusal :=
  if !s.pulsesRun then .next (countRef s)
  else
    let sec := s.nextPulse
    .next (countRef (emitPulse sec (passToStb (sec * unitS) s)))

/-- STB steps at second B, after the pulse of B (R201). -/
def execTimeStepAtB (s : State) : Host.Outcome State Fault Refusal :=
  match s.vol.time.pending with
  | none => .next s
  | some x =>
    let s := passToStb (x.second * unitS) s
    let s := if s.pulsesRun ∧ s.vol.time.ppsFrom ≤ x.second then emitPulse x.second s else s
    let s := ptbFollows (s.modValues fun v => { v with stb := moved x.step v.stb })
    let s := beginPulses (s.modTime fun r => { r with pending := none, cancelled := none, stepped := true })
    let (e, s) := drawErr s
    .next (setStb s.lockedState 3 e s)

/-- Superframes of a hyperframe (R241). -/
def hyperframe : Nat := 4096

/-- At a hyperframe boundary with no member connected an ATB that ran from zero is stepped to STB; time passes to the next, or to one
that lies less than a tick back (log 7). -/
def execAtbStepAtHyperframe (s : State) : Host.Outcome State Fault Refusal :=
  match s.ctl.time.atb with
  | none => .next s
  | some a =>
    if s.ctl.time.stb.isNone ∨ s.ctl.time.atbOffsetSf = 0 ∨ s.ctl.conns ≠ [] then .next s
    else
      let s := passToAtb (atbOfAsn ((a + atbOfAsn hyperframe - unitTick) / atbOfAsn hyperframe * hyperframe)) s
      .next (s.modValues fun v => { v with atb := v.stb, atbOffsetSf := 0 })

/-! ### Leap seconds and PPS_IN (R195, R210) -/

/-- Parameters that a constellation's messages carry: those of GPS are preferred, and among the others the latest hold (log 158). -/
def execUtcParametersDecoded (const taiUtc next changeAt : Nat) (s : State) : Host.Outcome State Fault Refusal :=
  let t : LeapTable := ⟨taiUtc % 256, next % 256, changeAt⟩
  let s := s.modTime fun r =>
    if r.decoded.isSome ∧ r.decodedBy = 0 ∧ const ≠ 0 then r else { r with decoded := some t, decodedBy := const }
  let t := s.vol.time.decoded.getD t
  match s.ctl.timeCfg.leapHost with
  | some h => .next (if h = t then s else recordOther 5 0 s)
  | none => .next s

/-- At the announced second the table in force takes its next value; time passes to it. -/
def execLeapTableChange (s : State) : Host.Outcome State Fault Refusal :=
  let t := s.leap
  if t.changeAt = 0 ∨ s.ctl.time.stb.isNone then .next s
  else
    let s := passToStb (t.changeAt * unitS) s
    let done : LeapTable := ⟨t.next, t.next, 0⟩
    .next (if s.vol.time.decoded.isSome then s.modTime fun r => { r with decoded := some done }
      else { s with ctl.timeCfg := { s.ctl.timeCfg with leapHost := some done } })

/-- A rising edge on PPS_IN: its offset from the nearest whole second, in ps, to 0.5 ns. -/
def execPpsInEdge (s : State) : Host.Outcome State Fault Refusal :=
  match s.ctl.time.stb with
  | none => .next s
  | some t =>
    if !s.ctl.timeCfg.ppsIn then .next s
    else
      let f : Int := (t % unitS : Nat)
      let off := if unitS < 2 * (t % unitS) then f - unitS else f
      let now := s.mtb
      .next (s.modTime fun r => { r with ppsInPs := roundRat (mkRat off 32768) * 500, ppsInAt := some now })

end Sys2Proof.Machine
end

