-- ==== Sys2Proof/Machine/Corr.lean ====
section
/-! DEFINITION.
Base position, correction streams, RTCM input and the corrections watchdog, with the base epoch that drives them (chapter 06).
-/

namespace Sys2Proof.Machine

def State.modCorr (s : State) (f : CorrRun → CorrRun) : State := { s with vol.corr := f s.vol.corr }

def State.modCorrCfg (s : State) (f : CorrSettings → CorrSettings) : State := { s with ctl.cfg.corr := f s.cfg.corr }

/-! ### RTCM frames and input (R149, Table Corr-1) -/

/-- CRC-24Q, the check of RTCM 3 frames (polynomial 0x1864CFB). PRESUMED from that standard (log 45). -/
def crc24Bit (c : Nat) : Nat := if c.testBit 23 then (2 * c ^^^ 0x1864CFB) % 2 ^ 24 else 2 * c

def crc24q (bs : List Byte) : Nat :=
  bs.foldl (fun c b => crc24Bit (crc24Bit (crc24Bit (crc24Bit (crc24Bit (crc24Bit (crc24Bit (crc24Bit
    (c ^^^ (b.toNat * 65536)))))))))) 0

def msmNumbers : List Nat := [1074, 1077, 1084, 1087, 1094, 1097, 1124, 1127, 1114, 1117]

def ephNumbers : List Nat := [1019, 1020, 1042, 1044, 1045, 1046]

/-- Message numbers of Table Corr-1. -/
def rtcmNumbers : List Nat := msmNumbers ++ [1005, 1006, 1008, 1033, 1230] ++ ephNumbers

/-- The whole frames at the front of bytes, each with whether its check holds, and whether bytes are left over: preamble
0xD3, a 10-bit length, the message, CRC-24Q. PRESUMED (log 45). -/
def rtcmFrames : Nat → List Byte → List (List Byte × Bool) × Bool
  | 0, bs => ([], !bs.isEmpty)
  | n + 1, bs =>
    if bs.isEmpty then ([], false)
    else
      let m := beNat ((bs.drop 1).take 2) % 1024
      if fld bs 0 1 ≠ 0xD3 ∨ bs.length < m + 6 then ([], true)
      else
        let body := bs.take (m + 3)
        let ok := crc24q body == beNat ((bs.drop (m + 3)).take 3)
        let (fs, left) := rtcmFrames n (bs.drop (m + 6))
        ((body.drop 3, ok) :: fs, left)

/-- A field of a message: `w` bits at bit `off`. -/
def rtcmBits (b : List Bool) (off w : Nat) : Nat := bitsNat ((b.drop off).take w)

/-- The ARP of a 1005 or 1006, mm (0.1 mm fields, log 45). -/
def rtcmArp (b : List Bool) : Int × Int × Int :=
  let at' := fun off => roundRat (mkRat (signed 38 (rtcmBits b off 38)) 10)
  (at' 34, at' 74, at' 114)

def NeighbourBuf.fresh (now : Nat) : NeighbourBuf := ⟨now, none, none, (0, 0, 0)⟩

/-- One message of a neighbour: its buffer is found or taken; false when it is discarded. An ephemeris names no station and
takes no buffer (log 45). -/
def takeRtcm (msg : List Byte) (s : State) : Bool × State :=
  let b := toBits msg
  let num := rtcmBits b 0 12
  let st := rtcmBits b 12 12
  let now := s.mtbNs
  let nb := s.vol.corr.neighbours
  if !rtcmNumbers.contains num then (false, s)
  else if ephNumbers.contains num then (true, s)
  else if (tget nb st).isNone ∧ 8 ≤ nb.length then (false, s)
  else
    let x := { tgetD nb st (NeighbourBuf.fresh now) with lastAt := now }
    let x := if num = 1005 ∨ num = 1006 then { x with lastArp := some now, arp := rtcmArp b }
      else if msmNumbers.contains num then { x with lastMsm := some now } else x
    (true, s.modCorr fun c => { c with neighbours := tput nb st x })

/-- RTCM bytes from a neighbour: messages taken, messages discarded, and the state after them. -/
def takeInput (bs : List Byte) (s : State) : Nat × Nat × State :=
  let (fs, left) := rtcmFrames bs.length bs
  let (n, d, s) := fs.foldl (fun (x : Nat × Nat × State) f =>
    match (if f.2 then takeRtcm f.1 x.2.2 else (false, x.2.2)) with
    | (true, s) => (x.1 + 1, x.2.1, s)
    | (false, s) => (x.1, x.2.1 + 1, s)) (0, b2n left, s)
  (n, d, s.modCorr fun c => { c with discarded := sat 32 (c.discarded + d) })

/-- A buffer without messages for 60 s is freed. -/
def execNeighbourBufferTimeout (station : Nat) (s : State) : Host.Outcome State Fault Refusal :=
  .next (s.modCorr fun c => { c with neighbours := tdel c.neighbours station })

/-! ### The base (R146 to R148) -/

def xyzBytes (p : Int × Int × Int) : List Byte := leInt 8 p.1 ++ leInt 8 p.2.1 ++ leInt 8 p.2.2

/-- CORR.BASE_EVENT; a run that set no position reports zeros. -/
def baseEvent (source cause sigma : Nat) (p : Int × Int × Int) (s : State) : State :=
  sendMsg 0x0381 (leBytes 1 source ++ leBytes 1 cause ++ leBytes 2 sigma ++ xyzBytes p) s

/-- Record 0x0301. -/
def baseRecord (source cause sigma : Nat) (s : State) : State :=
  record 0x0301 source (leBytes 1 cause ++ leBytes 1 s.cfg.corr.iods ++ leBytes 2 sigma) s

/-- A base position takes effect: IODS and base_seq move on, and latched causes clear (R147, R159). -/
def setBase (b : BasePos) (sigma : Nat) (s : State) : State :=
  let s := s.modCorrCfg fun c =>
    { c with base := some b, pending := none, iods := (c.iods + 1) % 8, baseSeq := (c.baseSeq + 1) % 16, latched := 0 }
  baseRecord b.source 0 sigma s

/-- A run ends without a position: cause 1 max_s, 2 lost, 3 abandoned. -/
def endRun (cause : Nat) (s : State) : State :=
  match s.cfg.corr.run with
  | none => s
  | some r =>
    let sg := sat 16 s.vol.corr.sigma
    let s := (s.modCorrCfg fun c => { c with run := none }).modCorr fun c => { c with runAt := none, sigma := 0, fixAt := none }
    baseRecord r.source cause sg (baseEvent r.source cause sg (0, 0, 0) s)

/-- A run ends with a position. -/
def freeze (r : BaseRun) (p : Int × Int × Int) (s : State) : State :=
  let sg := sat 16 s.vol.corr.sigma
  let s := (s.modCorrCfg fun c => { c with run := none }).modCorr fun c => { c with runAt := none, sigma := 0, fixAt := none }
  baseEvent r.source 0 sg p
    (setBase { source := r.source, frameYear := r.frameYear, x := p.1, y := p.2.1, z := p.2.2, arpHeight := r.arpHeight } sg s)

/-- Seconds of a run. -/
def State.runSeconds (s : State) : Nat :=
  match s.vol.corr.runAt with
  | some t => (s.mtb - t) / tickS
  | none => 0

/-- The run of survey-in or baseline at an epoch (R146). -/
def runEpoch (m : EpochMeas) (s : State) : State :=
  match s.cfg.corr.run with
  | none => s
  | some r =>
    let now := s.mtb
    let s := s.modCorr fun c => { c with runAt := some (c.runAt.getD now), sigma := m.sigmaMm }
    if r.source = 1 then
      match m.filter with
      | some p => if r.minS ≤ s.runSeconds ∧ m.sigmaMm ≤ r.targetMm then freeze r p s else s
      | none => s
    else
      match tget m.fixed r.neighbour, tget s.vol.corr.neighbours r.neighbour with
      | some v, some nb =>
        let t := s.vol.corr.fixAt.getD now
        if r.fixHoldS * tickS ≤ now - t then
          freeze r (nb.arp.1 + v.1, nb.arp.2.1 + v.2.1, nb.arp.2.2 + v.2.2) s
        else s.modCorr fun c => { c with fixAt := some t }
      | _, _ => if s.vol.corr.fixAt.isSome then endRun 2 s else s

/-- max_s elapses: the survey fails. -/
def execSurveyMaxTime (s : State) : Host.Outcome State Fault Refusal :=
  match s.cfg.corr.run with
  | some r => .next (if r.source = 1 then endRun 1 s else s)
  | none => .next s

/-! ### Watchdog (R157 to R159) -/

/-- Causes that latch: position jump, survey mismatch, neighbour mismatch. -/
def latchMask : Nat := 50

/-- Signals that were in phase lock within the last second, and of them those that marked a slip in it (log 46). -/
def State.slipShare (s : State) (ms : Nat) : Nat × Nat :=
  let es := s.vol.gnss.epochs.filter fun e => decide (ms ≤ e.ms + 1000)
  let keys := fun (es : List BaseEpoch) (bit : Nat) => ((es.flatMap (·.recs)).filter fun r => r.flags.testBit bit).map (·.channel)
  let locked := (keys es 1).eraseDups
  (locked.length, (locked.filter fun k => (keys (es.filter fun e => decide (ms < e.ms + 1000)) 4).contains k).length)

/-- What cause 1 and cause 4 look back on, at the epoch `ms`: displacements of 10 s, code solutions of 300 s. -/
def noteEpoch (ms : Nat) (m : EpochMeas) (c : CorrRun) : CorrRun :=
  { c with
    moved := (ms, m.moved) :: c.moved.filter fun e => decide (ms < e.1 + 10000)
    codes := (match m.code with
      | some p => [(ms, p)]
      | none => []) ++ c.codes.filter fun e => decide (ms < e.1 + 300000)
    codeFrom := if m.code.isSome then some (c.codeFrom.getD ms) else c.codeFrom }

/-- The sum of points. -/
def sumPoints (l : List (Nat × (Int × Int × Int))) : Int × Int × Int :=
  l.foldl (fun a e => (a.1 + e.2.1, a.2.1 + e.2.2.1, a.2.2 + e.2.2.2)) (0, 0, 0)

/-- Whether a vector is longer than `d`. -/
def longer (d : Rat) (v : Rat × Rat × Rat) : Bool := decide (d * d < v.1 * v.1 + v.2.1 * v.2.1 + v.2.2 * v.2.2)

/-- The ARP has moved by more than jump_mm in the last 10 s: the displacements of its epochs add up as vectors. DEDUCED (log 188). -/
def State.arpMoved (s : State) : Bool :=
  let v := sumPoints s.vol.corr.moved
  longer s.cfg.corr.watchdog.jumpMm (v.1, v.2.1, v.2.2)

/-- The mean of the code solutions of 300 s lies more than mismatch_mm from the base; it is formed once 300 s have passed since the first
one. DEDUCED (log 188). -/
def State.codeMismatch (s : State) (ms : Nat) (b : BasePos) : Bool :=
  let l := s.vol.corr.codes
  let v := sumPoints l
  let n : Rat := l.length
  (s.vol.corr.codeFrom.any fun t => decide (t + 300000 ≤ ms)) && !l.isEmpty &&
    longer s.cfg.corr.watchdog.mismatch (v.1 / n - b.x, v.2.1 / n - b.y, v.2.2 / n - b.z)

/-- A fixed baseline to a neighbour in the buffers differs from the positions of the two by more than nb_check_mm. -/
def State.neighbourOff (s : State) (m : EpochMeas) (b : BasePos) : Bool :=
  s.cfg.corr.watchdog.nbCheck != 0 && m.fixed.any fun e =>
    match tget s.vol.corr.neighbours e.1 with
    | some n => n.lastArp.isSome &&
        longer s.cfg.corr.watchdog.nbCheck (n.arp.1 + e.2.1 - b.x, n.arp.2.1 + e.2.2.1 - b.y, n.arp.2.2 + e.2.2.2 - b.z)
    | none => false

/-- The conditions of Table Corr-5 that hold at the epoch `ms`. -/
def State.watchConds (s : State) (ms : Nat) (m : EpochMeas) : Nat :=
  let w := s.cfg.corr.watchdog
  let base := s.cfg.corr.base
  let (n, k) := s.slipShare ms
  let interf := (List.range 4).any fun fe => s.interf fe && decide (w.interfS * tickS ≤ s.mtb - (s.monitor fe).flagAt)
  let sats := ((List.range 5).map s.lockedSats).sum
  maskOf (((List.range 7).zip
    [base.isNone, s.arpMoved, decide (0 < n ∧ w.slipPct * n ≤ 100 * k), interf, base.any (s.codeMismatch ms),
     base.any (s.neighbourOff m), decide (sats < 5)]).filterMap fun e => if e.2 then some e.1 else none)

/-- CORR.ALERT with its record, when the cause set has changed from `a` active and `l` latched. -/
def watchAlert (a l : Nat) (s : State) : State :=
  let c := s.vol.corr
  if c.active = a ∧ s.cfg.corr.latched = l then s
  else
    record 0x0302 0xFFFF (leBytes 1 c.active ++ leBytes 1 s.cfg.corr.latched)
      (sendMsg 0x0382 (leBytes 1 c.active ++ leBytes 1 s.cfg.corr.latched ++ leBytes 1 (b2n c.withheld) ++ zeros 1 ++
        timeBytes s.ctl.time.stb) s)

/-- New cause sets, where `a` and `l` were in force before: the streams are withheld while any cause is active or latched
(R158). A cause that latches is active while its condition holds, and any other until its hold-off ends (R159). -/
def setCausesFrom (a l active absent latched : Nat) (s : State) : State :=
  let s := if latched = s.cfg.corr.latched then s else s.modCorrCfg fun c => { c with latched := latched }
  watchAlert a l (s.modCorr fun c =>
    { c with active := active, absent := absent, withheld := decide (active ≠ 0 ∨ latched ≠ 0) })

def setCauses (active absent latched : Nat) (s : State) : State :=
  setCausesFrom s.vol.corr.active s.cfg.corr.latched active absent latched s

/-- The watchdog at an epoch; `l` were the latched causes before it. -/
def watchdog (ms : Nat) (m : EpochMeas) (l : Nat) (s : State) : State :=
  let c := s.watchConds ms m
  let kept := maskOf ((bitsOf 7 s.vol.corr.active).filter fun k => !latchMask.testBit k)
  setCausesFrom s.vol.corr.active l (c ||| kept) (maskOf ((bitsOf 7 kept).filter fun k => !c.testBit k))
    (s.cfg.corr.latched ||| (c &&& latchMask)) s

/-- The condition of a cause that does not latch has been absent for holdoff_s. -/
def execWatchdogHoldoffExpiry (cause : Nat) (s : State) : Host.Outcome State Fault Refusal :=
  let c := s.vol.corr
  if c.absent.testBit cause then
    .next (setCauses (setBit c.active cause false) (setBit c.absent cause false) s.cfg.corr.latched s)
  else .next s

/-! ### Contents of the streams (R150 to R156) -/

def State.stream (s : State) (n : Nat) : StreamSettings := s.cfg.corr.streams.getD n StreamSettings.factory

/-- The factory-calibrated code-phase bias of GLONASS L1 C/A (0) or L2 C/A (1), in 0.02 m: the module's own. -/
def gloBias (k : Nat) : Int := signed 16 (Config.sense (0x6100 + k) 0 % 65536)

/-- A record as the streams send it: GLONASS phases without their bias when aligned (R153), and lock time zero after a slip
(R151) or where `zero` says so (R147). -/
def streamRec (align zero : Bool) (r : ObsRec) : ObsRec :=
  let shift := if align ∧ (r.sig = 5 ∨ r.sig = 6) then
      (mkRat (gloBias (r.sig - 5) * carrier r.sig r.fcn * 65536) (50 * 299792458)).floor
    else 0
  { r with phase := r.phase - shift, lockMs := if zero ∨ r.flags.testBit 4 then 0 else r.lockMs }

/-- The records of a constellation that a stream carries at an epoch: signals of sig_mask with PR_VALID. -/
def State.streamRecs (s : State) (x : StreamSettings) (zero : Bool) (e : BaseEpoch) (const : Nat) : List ObsRec :=
  (e.recs.filter fun r => (signalOf r.sig).const == const && x.sigMask.testBit r.sig && r.flags.testBit 0).map
    (streamRec s.cfg.corr.gloAlign zero)

/-- MSM message number of a constellation. -/
def msmNumber (const msm : Nat) : Nat := [1070, 1080, 1090, 1120, 1110].getD const 0 + msm

/-- The constellations of const_mask in the order GPS, GLONASS, Galileo, BeiDou, QZSS. -/
def constsOf (mask : Nat) : List Nat := bitsOf 5 mask

/-- The MSM messages of an epoch; DF393 is 1 in every one but the last. -/
def State.msmMessages (s : State) (x : StreamSettings) (zero : Bool) (e : BaseEpoch) : List (List Byte) :=
  let cs := constsOf x.constMask
  cs.zipIdx.map fun c => Config.rtcm (msmNumber c.1 x.msm)
    (leBytes 2 x.stationId ++ leBytes 8 e.ms ++ leBytes 1 s.cfg.corr.iods ++ leBytes 1 (b2n (decide (c.2 + 1 < cs.length))) ++
      (s.streamRecs x zero e c.1).flatMap ObsRec.bytes)

/-- ARP and height of the base in force. -/
def State.baseBytes (s : State) : List Byte :=
  match s.cfg.corr.base with
  | some b => leBytes 1 b.frameYear ++ xyzBytes (b.x, b.y, b.z) ++ leBytes 2 b.arpHeight
  | none => zeros 27

/-- A number as eight hexadecimal digits. -/
def hex8 (v : Nat) : List Byte :=
  (List.range 8).map fun k => let d := v / 16 ^ (7 - k) % 16; BitVec.ofNat 8 (if d < 10 then 48 + d else 55 + d)

/-- The firmware version that the active side runs. -/
def State.firmwareVersion (s : State) : Nat :=
  let f := s.act.firmware
  (if f.running = 0 then f.slot0 else f.slot1).version

/-- A message of Table Corr-1 other than an MSM or an ephemeris (R153). -/
def State.otherMessage (s : State) (x : StreamSettings) (num : Nat) : List Byte :=
  let c := s.cfg.corr
  let ant := leBytes 1 c.desc.length ++ c.desc ++ leBytes 1 c.setupId ++ leBytes 1 c.serial.length ++ c.serial
  Config.rtcm num (leBytes 2 x.stationId ++
    (if num = 1005 ∨ num = 1006 then s.baseBytes
     else if num = 1008 then ant
     else if num = 1033 then ant ++ ascii "HOLTURI LK-9480" ++ hex8 s.firmwareVersion ++ leBytes 8 Config.serial.toNat
     else leBytes 1 (b2n c.gloAlign) ++ (if c.gloAlign then [] else leInt 2 (gloBias 0) ++ leInt 2 (gloBias 1))))

/-- Whether a message of period `p` s falls due at an epoch: at whole seconds from the one at which the stream was enabled. -/
def dueAt (p ms from' : Nat) : Bool := p != 0 && ms % 1000 == 0 && decide (from' ≤ ms / 1000) && (ms / 1000 - from') % p == 0

/-- The ephemerides of a stream due at second `sec`: a new issue, or the last sent eph_cycle ago; in the order of decoding. -/
def State.ephDue (s : State) (n sec : Nat) : List (Nat × Nat × Nat) :=
  let x := s.stream n
  let sent := s.vol.corr.ephSent.getD n []
  if x.ephCycle = 0 then []
  else s.ctl.hot.ephemerides.filter fun e =>
    match sent.find? fun t => t.1 == e.1 && t.2.1 == e.2.1 with
    | some t => t.2.2.1 != e.2.2 || decide (t.2.2.2 + x.ephCycle ≤ sec)
    | none => true

/-! ### The compact format (R154 to R156) -/

/-- A fine residual of `w` bits: its value, or the invalid code when it exceeds its range. -/
def fineBits (w : Nat) (v : Int) (valid : Bool) : List Bool :=
  let top : Int := (2 ^ (w - 1) : Nat)
  bitsOfInt w (if valid ∧ -top < v ∧ v < top then v else -top)

/-- A range in ms of a pseudorange in 0.01 mm. -/
def prMs (pr : Nat) : Rat := mkRat pr 29979245800

/-- C/N0 as n of 18 + 2n dB-Hz, rounded down. -/
def cn0Code (c : Nat) : Nat := min 15 ((c / 100 - 18) / 2)

/-- The cell of a record against the rough range, in 1/1,024 ms, of its satellite. -/
def cellBits (rough : Int) (r : ObsRec) : List Bool :=
  let pr := roundRat (prMs r.pr * 8388608) - rough * 8192
  let ph := roundRat (mkRat r.phase 65536 * 1000 / carrier r.sig r.fcn * 268435456) - rough * 262144
  fineBits 14 pr true ++ fineBits 21 ph (r.flags.testBit 1) ++ bitsOfNat 3 (lockCode r.lockMs) ++
    [r.flags.testBit 2] ++ bitsOfNat 4 (cn0Code r.cn0)

/-- The OBS block of a constellation; none without a satellite. The rough range of a satellite is that of its first cell:
DESIGN CHOICE (log 44). -/
def obsBlock (const : Nat) (recs : List ObsRec) : Option (List Bool) :=
  let svs := (recs.map (·.sv)).foldl sput []
  let idxs := (List.range 8).filter fun i => recs.any fun r => (signalOf r.sig).idx == i
  let cell := fun sv i => recs.find? fun r => r.sv == sv && (signalOf r.sig).idx == i
  let sats := svs.map fun sv =>
    let cs := idxs.filterMap (cell sv)
    let rough := match cs with
      | r :: _ => roundRat (prMs r.pr * 1024)
      | [] => 0
    (sv, cs, rough)
  if svs = [] then none
  else some
    (bitsOfNat 3 0 ++ bitsOfNat 3 const ++ bitsOfNat 6 svs.length ++ (List.range 8).map idxs.contains ++
     svs.flatMap (bitsOfNat 6) ++ (svs.flatMap fun sv => idxs.map fun i => (cell sv i).isSome) ++
     (sats.flatMap fun t =>
        (if 255 ≤ t.2.2 / 1024 then bitsOfNat 8 255 ++ bitsOfNat 10 0
          else bitsOfInt 8 (t.2.2 / 1024) ++ bitsOfInt 10 (t.2.2 % 1024)) ++
        (if const = 1 then (match t.2.1 with
          | r :: _ => bitsOfInt 4 (r.fcn + 7)
          | [] => bitsOfNat 4 7) else [])) ++
     (sats.flatMap fun t => t.2.1.flatMap (cellBits t.2.2)))

def State.baseBlock (s : State) : Option (List Bool) :=
  s.cfg.corr.base.map fun b =>
    bitsOfNat 3 1 ++ bitsOfNat 6 b.frameYear ++ bitsOfInt 38 (10 * b.x) ++ bitsOfInt 38 (10 * b.y) ++ bitsOfInt 38 (10 * b.z) ++
      bitsOfNat 16 b.arpHeight ++ bitsOfNat 8 s.cfg.corr.setupId

def State.gloBlock (s : State) : List Bool :=
  bitsOfNat 3 2 ++ [s.cfg.corr.gloAlign] ++ bitsOfNat 4 0 ++ bitsOfInt 16 (gloBias 0) ++ bitsOfInt 16 (gloBias 1)

/-- Blocks in frames of at most 7 blocks and 1,000 bytes; a block is never split. How an epoch is divided is open: frames are filled from the
last block backwards, and a block that is longer than a frame by itself goes out whole. DESIGN CHOICE (log 190). -/
def packBlocks : List (List Bool) → List (List (List Bool))
  | [] => []
  | b :: t =>
    match packBlocks t with
    | [] => [[b]]
    | f :: fs =>
      if f.length < 7 ∧ 48 + b.length + (f.map List.length).sum ≤ 8000 then (b :: f) :: fs else [b] :: f :: fs

/-- The compact frames of an epoch: header of Table Corr-2 and blocks, padded to whole bytes. -/
def State.compactFrames (s : State) (ms : Nat) (blocks : List (List Bool)) : List (List Byte) :=
  let fs := packBlocks blocks
  fs.zipIdx.map fun f =>
    let bits := bitsOfNat 4 1 ++ bitsOfNat 7 (s.cfg.fed.controller.getD 0) ++ bitsOfNat 22 ((ms + 3581000) % 3600000) ++
      bitsOfNat 4 s.cfg.corr.baseSeq ++ bitsOfNat 3 f.1.length ++ [decide (f.2 + 1 < fs.length)] ++ bitsOfNat 7 0 ++ f.1.flatten
    fromBits (bits.length + 1) bits

/-! ### Destinations (R152, R251) -/

/-- Whole messages in runs that satisfy `fits`, in order; a message that does not fit stands alone. -/
def runsOf (fits : Nat → Bool) : List (List Byte) → List (List Byte)
  | [] => []
  | m :: t =>
    match runsOf fits t with
    | [] => [m]
    | r :: rs => if fits (m.length + r.length) then (m ++ r) :: rs else m :: r :: rs

/-- The BCAST bodies of one epoch of a stream on a lane (Table Mere-8). -/
def State.bcastBodies (s : State) (l stream : Nat) (msgs : List (List Byte)) : List (List Byte) :=
  let ps := runsOf (fun n => s.bcastFits l (4 + n)) msgs
  ps.zipIdx.map fun p => leBytes 1 (if stream = 4 then 1 else 0) ++ leBytes 1 stream ++
    leBytes 1 (p.2 % 128 + 128 * b2n (decide (p.2 + 1 < ps.length))) ++ zeros 1 ++ p.1

/-- BCAST bodies enter the broadcast queue of a lane; one that the queue refuses is dropped and counted, and the next one carries LOST
(R374, R379). What waits here from earlier epochs goes out although a cause has been raised since. DESIGN CHOICE (log 191). -/
def queueBcast (l kind : Nat) (bodies : List (List Byte)) (s : State) : State :=
  bodies.foldl (fun s b => fillRead (0x828 + l) (commitOrDrop (0x828 + l) b.length kind 0 b s)) s

/-- One epoch's messages of a stream go to its destinations: frames wait in the queues of their lanes, datagrams (address, then whole
messages, at most 1,400 bytes) and CORR.OUT go out at once; stream 0 also goes to peers that take corrections (R405). -/
def sendStream (n ms : Nat) (msgs : List (List Byte)) (s : State) : State :=
  if msgs = [] then s
  else
    let x := s.stream n
    let s := (bitsOf 8 x.lanes).foldl (fun s l => queueBcast l (if n = 4 then 1 else 0) (s.bcastBodies l n msgs) s) s
    let s := (bitsOf 2 x.ports).foldl (fun s p =>
      { s with out.site := s.out.site ++ (runsOf (fun k => decide (k ≤ 1400)) msgs).map fun d =>
          (⟨2, p, x.udpPort, 0, 0, n, x.ip ++ d⟩ : SiteMsg) }) s
    let s := if n ≠ 0 then s else (s.livePeers.filter fun k => match tget s.cfg.fed.peers k with
      | some p => p.flags.testBit 0
      | none => false).foldl (fun s k => fedSend k 5 0 msgs.flatten s) s
    if x.ports.testBit 2 then
      (runsOf (fun k => decide (k ≤ 4048)) msgs).foldl (fun s d =>
        sendMsg 0x0380 (timeBytes (some (ms * unitMs)) ++ leBytes 1 n ++ zeros 1 ++ leBytes 2 d.length ++ d) s) s
    else s

/-! ### The streams at an epoch -/

/-- The messages of an RTCM stream at an epoch, in the order of R151, and the ephemerides among them. While withheld only 1008
and 1033 go out (R158); `change` marks a base change or a resumption (R147, R159), at which every signal reports lock time zero: its MSM goes out
at that epoch even off the stream's period. DEDUCED (log 153). Of 1005 and 1006 it is then 1006 that goes out where its period is not 0, and
else 1005, also when both are off. DESIGN CHOICE (log 189). -/
def State.rtcmEpoch (s : State) (n : Nat) (e : BaseEpoch) (count from' : Nat) (change : Bool) :
    List (List Byte) × List (Nat × Nat × Nat) :=
  let x := s.stream n
  let w := s.vol.corr.withheld
  let arp := !w && change
  let due := fun p => dueAt p e.ms from'
  let d1005 := !w && (due x.p1005 || (arp && x.p1006 == 0))
  let d1006 := !w && (due x.p1006 || (arp && x.p1006 != 0))
  let msm := if !w && (change || count % max 1 x.msmPeriod == 0) then s.msmMessages x change e else []
  let nums := ((([1005, 1006, 1008, 1033, 1230] : List Nat).zip
    [d1005, d1006, due x.p1008, due x.p1033, !w && due x.p1230]).filter (·.2)).map (·.1)
  let eph := if w then [] else (s.ephDue n (e.ms / 1000)).take 4
  (msm ++ nums.map (s.otherMessage x) ++ eph.map fun t => Config.rtcm t.1 (leBytes 1 t.2.1 ++ leBytes 2 t.2.2), eph)

/-- The frames of the compact stream at an epoch. -/
def State.compactEpoch (s : State) (e : BaseEpoch) (count from' : Nat) (change : Bool) : List (List Byte) :=
  let x := s.stream 4
  if s.vol.corr.withheld then []
  else
    let obs := if change || count % max 1 x.msmPeriod == 0 then
        (constsOf x.constMask).filterMap fun c => obsBlock c (s.streamRecs x change e c)
      else []
    let base := if change || dueAt x.p1006 e.ms from' then s.baseBlock.toList else []
    let glo := if dueAt x.p1230 e.ms from' then [s.gloBlock] else []
    s.compactFrames e.ms (obs ++ base ++ glo)

/-- One stream at an epoch. -/
def streamEpoch (e : BaseEpoch) (change : Bool) (n : Nat) (s : State) : State :=
  let c := s.vol.corr
  if !(s.stream n).enable then
    s.modCorr fun c => { c with enabledAt := c.enabledAt.set n none, epochs := c.epochs.set n 0, ephSent := c.ephSent.set n [] }
  else
    let from' := (c.enabledAt.getD n none).getD (e.ms / 1000)
    let count := c.epochs.getD n 0
    let (msgs, eph) := if n = 4 then (s.compactEpoch e count from' change, []) else s.rtcmEpoch n e count from' change
    let s := s.modCorr fun c =>
      { c with
        enabledAt := c.enabledAt.set n (some from'), epochs := c.epochs.set n (count + 1)
        ephSent := c.ephSent.modify n fun l =>
          eph.foldl (fun l t => (t.1, t.2.1, t.2.2, e.ms / 1000) :: l.filter fun u => !(u.1 == t.1 && u.2.1 == t.2.1)) l }
    sendStream n e.ms msgs s

/-- What chapter 06 does at a base epoch. -/
def corrEpoch (ms : Nat) (m : EpochMeas) (s : State) : State :=
  let old := s.cfg.corr.baseSeq
  let latched := s.cfg.corr.latched
  let s := match s.cfg.corr.pending with
    | some b => setBase b 0 s
    | none => s
  let s := watchdog ms m latched ((runEpoch m s).modCorr (noteEpoch ms m))
  let w := s.vol.corr.withheld
  let change := s.cfg.corr.baseSeq != old || s.vol.corr.silent
  let s := s.modGnss fun g => { g with
    epochs := g.epochs.map fun e => if e.ms = ms then { e with iods := s.cfg.corr.iods } else e }
  let e := (s.vol.gnss.epochs.find? fun e => e.ms == ms).getD ⟨ms, [], s.cfg.corr.iods, s.mtb⟩
  let s := (List.range 5).foldl (fun s n => streamEpoch e change n s) s
  let s := s.modCorr fun c => { c with silent := w }
  if w then s else { s with vol.redun := { s.vol.redun with streamsOnce := true } }

/-- A BASE item takes the oldest packet of the base epoch queue; a poisoned one is discarded with a record (R374, R380). -/
def takeBase (effect : State → State) (s : State) : State :=
  match takePacket 0x820 s with
  | none => s
  | some (p, s) => if p.poison then record 0x0C02 0x820 (leBytes 4 (firstCell p.cell)) s else effect s

/-- What a BASE item does with a base epoch: STB discipline, corrections and the solver's base data (Table Sched-2). -/
def baseWork (ms : Nat) (m : EpochMeas) (s : State) : State := takeBase (fun s => corrEpoch ms m (timeEpoch m s)) s

/-- The packet of a base epoch: its time and its records. -/
def State.epochData (s : State) (ms : Nat) : List Byte :=
  (leBytes 4 ms ++ ((s.vol.gnss.epochs.headD ⟨ms, [], 0, 0⟩).recs.flatMap ObsRec.bytes)).take 16384

/-- Reedbed commits a base epoch, for a BASE item that takes it (R354, R374); one that the queue refuses is dropped (R379). -/
def commitEpoch (ms : Nat) (m : EpochMeas) (s : State) : State :=
  let d := s.epochData ms
  match commitPacket 0x820 d.length 0 0 d s with
  | some (_, s) => workOn 12 0x884 0 (.gnssEpoch ms m) (baseWork ms m) s
  | none => commitOrDrop 0x820 d.length 0 0 d s

/-- A base epoch of STB (R135); in Fen mode only whole seconds have one (R143), and after a
brown-out warning Reedbed is off (R44). STB passes to it. Before STB is valid there is no epoch, but channels follow the
sky and the time island tests the timing solution (R124, R197). -/
def execGnssEpoch (epoch : Nat) (m : EpochMeas) (s : State) : Host.Outcome State Fault Refusal :=
  match s.ctl.time.stb with
  | none => if s.hsw.warned then .next s else .next (timeEpoch m (assign m.sky (s.modGnss fun g => { g with sky := m.sky })))
  | some t =>
    if s.hsw.warned ∨ epoch % (1000 / max 1 s.epochRate) ≠ 0 ∨ epoch * unitMs < t then .next s
    else .next (commitEpoch epoch m (observe epoch m (passToStb (epoch * unitMs) s)))

/-! ### Opcodes -/

/-- Square of 1 m in mm² steps: the test of the ARP's distance from the Earth's centre. -/
def arpOk (p : Int × Int × Int) : Bool :=
  let q := p.1 * p.1 + p.2.1 * p.2.1 + p.2.2 * p.2.2
  decide (6300000000 * 6300000000 ≤ q) && decide (q ≤ 6400000000 * 6400000000)

/-- Whether two points lie more than 15 km apart. -/
def farApart (a b : Int × Int × Int) : Bool :=
  let d := fun (x y : Int) => (x - y) * (x - y)
  decide (15000000 * 15000000 < d a.1 b.1 + d a.2.1 b.2.1 + d a.2.2 b.2.2)

/-- Whether a neighbour sent a 1005 or 1006, and an MSM, in the last 10 s. -/
def State.heard (s : State) (st : Nat) : Bool :=
  let recent := fun t : Option Nat => match t with
    | some t => decide (s.mtbNs ≤ t + 10000000000)
    | none => false
  match tget s.vol.corr.neighbours st with
  | some b => recent b.lastArp && recent b.lastMsm
  | none => false

/-- Dependent ranges of CORR.BASE, in offset order: unused fields zero, max_s at least min_s. -/
def baseRange (ps : List Byte) : Option Nat :=
  let src := fld ps 0 1
  let zero := fun l => firstNonZeroField ps l
  if src = 0 then zero [(32, 4), (36, 4), (40, 2), (42, 2), (44, 2)]
  else if src = 1 then
    (zero [(4, 8), (12, 8), (20, 8)]).or
      ((if fld ps 36 4 < fld ps 32 4 ∨ 172800 < fld ps 36 4 then some 36 else none).or (zero [(42, 2), (44, 2)]))
  else zero [(4, 8), (12, 8), (20, 8), (32, 4), (36, 4), (40, 2)]

def runCorrBase (c : HostCmd) (s : State) : CmdResult :=
  let ps := c.packet.params
  let src := fld ps 0 1
  let p := (sfld ps 4 8, sfld ps 12 8, sfld ps 20 8)
  let nb := fld ps 42 2
  let far : Bool := match tget s.vol.corr.neighbours nb, s.ctl.hot.position with
    | some b, some q => b.lastArp.isSome && farApart b.arp q
    | _, _ => false
  match baseRange ps with
  | some o => .refuse erRange o
  | none =>
    if src = 0 ∧ !arpOk p then .refuse erRange 4
    else if src = 2 && far then .refuse erRange 42
    else if src = 2 ∧ !s.heard nb then .refuse erState nb
    else if src = 2 ∧ s.vol.gnss.fen then .refuse erState 2
    else
    match (if src = 2 then capacityError s.cfg.solver.members true else none) with
    | some d => .refuse erCapacity d
    | none =>
      let s := endRun 3 s
      if src = 0 then
        .accepted (s.modCorrCfg fun x =>
          { x with pending := some { source := 0, frameYear := fld ps 1 1, x := p.1, y := p.2.1, z := p.2.2,
                                     arpHeight := fld ps 28 2 } })
          (leBytes 1 ((s.cfg.corr.iods + 1) % 8) ++ zeros 3)
      else
        .accepted (s.modCorrCfg fun x =>
          { x with run := some { source := src, frameYear := fld ps 1 1, arpHeight := fld ps 28 2, minS := fld ps 32 4,
                                 maxS := fld ps 36 4, targetMm := fld ps 40 2, neighbour := nb, fixHoldS := fld ps 44 2 } })
          (leBytes 1 s.cfg.corr.iods ++ zeros 3)

/-- The settings that CORR.STREAM gives. -/
def readStream (ps : List Byte) : StreamSettings :=
  { enable := fld ps 1 1 = 1, msm := fld ps 2 1, msmPeriod := fld ps 3 1, constMask := fld ps 4 1, lanes := fld ps 5 1,
    stationId := fld ps 6 2, ports := fld ps 8 1, udpPort := fld ps 10 2, ip := slice ps 12 16, p1005 := fld ps 28 2,
    p1006 := fld ps 30 2, p1008 := fld ps 32 2, p1033 := fld ps 34 2, p1230 := fld ps 36 2, ephCycle := fld ps 38 2,
    sigMask := fld ps 40 4 }

/-- Dependent ranges of CORR.STREAM, in offset order. -/
def streamRange (n : Nat) (x : StreamSettings) (ps : List Byte) : Option Nat :=
  if n = 4 ∧ x.msm ≠ 0 ∨ n ≠ 4 ∧ x.msm = 0 then some 2
  else if n = 4 ∧ x.ports ≠ 0 then some 8
  else if x.ports % 4 ≠ 0 ∧ x.udpPort = 0 then some 10
  else if n = 4 then firstNonZeroField ps [(28, 2), (32, 2), (34, 2), (38, 2)] else none

/-- The expected air time of a stream on a lane over the lane's window, from the present tracked set, µs. -/
def State.streamUs (s : State) (l n : Nat) (x : StreamSettings) : Nat :=
  let us := fun msgs => ((s.bcastBodies l n msgs).map fun b =>
    airTime (s.lane l) (s.laneMac l).baseRate (psduLen 6 (s.meshLane l) b.length)).sum
  let w := (s.lane l).window
  let e := s.vol.gnss.epochs.headD ⟨0, [], 0, 0⟩
  let per := fun p => if p = 0 then 0 else w / p
  let epochs := w * s.epochRate / max 1 x.msmPeriod
  if n = 4 then
    epochs * us (s.compactFrames e.ms ((constsOf x.constMask).filterMap fun c => obsBlock c (s.streamRecs x false e c))) +
      per x.p1006 * us (s.compactFrames e.ms s.baseBlock.toList) + per x.p1230 * us (s.compactFrames e.ms [s.gloBlock])
  else
    epochs * us (s.msmMessages x false e) +
      ([(1005, x.p1005), (1006, x.p1006), (1008, x.p1008), (1033, x.p1033), (1230, x.p1230)].map fun m =>
        per m.2 * us [s.otherMessage x m.1]).sum +
      per x.ephCycle * (s.ctl.hot.ephemerides.map fun t => us [Config.rtcm t.1 (leBytes 1 t.2.1 ++ leBytes 2 t.2.2)]).sum

/-- Whether a stream asks more of a lane than its unspent ordinary budget. -/
def State.overBudget (s : State) (l n : Nat) (x : StreamSettings) : Bool :=
  match s.chanBand l (s.siteChan l) with
  | none => false
  | some b =>
    match s.budget l b.lo (budgetKey b (s.siteChan l)) with
    | none => false
    | some u => decide (u.ordinary - u.used < s.streamUs l n x)

def runCorrStream (c : HostCmd) (s : State) : CmdResult :=
  let ps := c.packet.params
  let n := fld ps 0 1
  let x := readStream ps
  let ls := bitsOf 8 x.lanes
  match streamRange n x ps with
  | some o => .refuse erRange o
  | none =>
    match ls.find? fun l => !s.laneOn l with
    | some l => .refuse erState l
    | none =>
      let s := ls.foldl (fun s l => refreshLane l s) s
      match (if x.enable then ls.find? fun l => s.overBudget l n x else none) with
      | some l => .refuse erBudget l
      | none =>
      if 20 * x.msmPeriod < s.epochRate then .refuse erRange 3
      else .accepted (s.modCorrCfg fun c => { c with streams := c.streams.set n x }) []

def runCorrDescriptor (c : HostCmd) (s : State) : CmdResult :=
  let ps := c.packet.params
  .accepted (s.modCorrCfg fun c =>
    { c with setupId := fld ps 0 1, gloAlign := fld ps 3 1 = 1, desc := slice ps 4 (fld ps 1 1),
             serial := slice ps 36 (fld ps 2 1) }) []

def runCorrWatchdog (c : HostCmd) (s : State) : CmdResult :=
  let ps := c.packet.params
  let op := fld ps 0 1
  let reply := fun s : State =>
    leBytes 1 s.vol.corr.active ++ leBytes 1 s.cfg.corr.latched ++ leBytes 1 (b2n s.vol.corr.withheld) ++ zeros 1
  match (if op = 1 then none else firstNonZeroField ps [(1, 1), (2, 2), (4, 4), (8, 2), (10, 2), (12, 2)]) with
  | some o => .refuse erRange o
  | none =>
    if op = 0 then .ok s (reply s)
    else
      let s := if op = 1 then
          s.modCorrCfg fun c => { c with watchdog :=
            ⟨fld ps 1 1, fld ps 2 2, fld ps 4 4, fld ps 8 2, fld ps 10 2, fld ps 12 2⟩ }
        else setCauses s.vol.corr.active s.vol.corr.absent 0 s
      .accepted s (reply s)

def runCorrInject (c : HostCmd) (s : State) : CmdResult :=
  let ps := c.packet.params
  let (n, d, s) := takeInput (slice ps 4 (fld ps 0 2)) s
  .ok s (leBytes 2 n ++ leBytes 2 d)

def runCorrStatus (_ : HostCmd) (s : State) : CmdResult :=
  let c := s.cfg.corr
  let src := match c.run, c.base with
    | some r, _ => r.source
    | none, some b => b.source
    | none, none => 0xFF
  let st := match c.run, c.base with
    | some r, _ => r.source
    | none, some _ => 3
    | none, none => 0
  .ok s (leBytes 1 src ++ leBytes 1 st ++ leBytes 1 c.iods ++ leBytes 1 c.baseSeq ++
    (match c.base with
      | some b => xyzBytes (b.x, b.y, b.z)
      | none => zeros 24) ++
    leBytes 4 s.runSeconds ++ leBytes 2 (sat 16 s.vol.corr.sigma) ++ leBytes 1 s.vol.corr.active ++ leBytes 1 c.latched ++
    leBytes 1 s.vol.corr.neighbours.length ++ zeros 3 ++ leBytes 4 s.vol.corr.discarded ++
    leBytes 4 (sat 32 s.vol.corr.dropped))

def execCorrBase (p : Packet) (s : State) : Host.Outcome State Fault Refusal := .next (serve 0x0301 runCorrBase p s)
def execCorrStream (p : Packet) (s : State) : Host.Outcome State Fault Refusal := .next (serve 0x0302 runCorrStream p s)
def execCorrDescriptor (p : Packet) (s : State) : Host.Outcome State Fault Refusal :=
  .next (serve 0x0303 runCorrDescriptor p s)
def execCorrWatchdog (p : Packet) (s : State) : Host.Outcome State Fault Refusal :=
  .next (serve 0x0304 runCorrWatchdog p s)
def execCorrInject (p : Packet) (s : State) : Host.Outcome State Fault Refusal := .next (serve 0x0306 runCorrInject p s)
def execCorrStatus (p : Packet) (s : State) : Host.Outcome State Fault Refusal := .next (serve 0x0305 runCorrStatus p s)

end Sys2Proof.Machine
end

