-- ==== Sys2Proof/Machine/Items.lean ====
section
/-! DEFINITION.
The work items of a member's uplink: one control loop pass, and its messages (R28, R354, R380).
-/

namespace Sys2Proof.Machine

/-- The item that a core serves, of a kind. -/
def State.servedItem (s : State) (core kind : Nat) : Option WorkItem :=
  let f := match (s.core core).state with
    | .busy f _ => some f
    | .leaving f _ => some f
    | _ => none
  match f with
  | some f => (s.flow f).items.find? fun i => i.core == some core && i.kind == kind
  | none => none

/-- The packet of an item, with the DATA kind of its frame; a poisoned one is discarded with a record (R380). -/
def itemPacket (i : WorkItem) (s : State) : Option (Nat × List Byte) × State :=
  match i.queue, i.cell, i.args with
  | some q, some c, k :: _ =>
    if i.acted then (none, s)
    else match s.packetAt q c with
    | some p =>
      if p.poison then (none, record 0x0C02 q (leBytes 4 (firstCell c)) (actedOn i s)) else (some (k.toNat, p.data), actedOn i s)
    | none => (none, s)
  | _, _, _ => (none, s)

/-- Steps 4 and 5 of Table Arch-3 for a member: envelope, profile mode and frame. -/
def loopPass (node : Nat) (s : State) : State := emitFrame node (settle node (envelopeStep node s))

/-- A POSITION of a member: the record of an edition-1 member, which it may requalify (R252, R432). At editions 2 and 3 the pass
that it drives checks the member's solver record (R27, R324). -/
def positionItem (node : Nat) (data : List Byte) (s : State) : State :=
  match s.conn node with
  | none => s
  | some c =>
    let st := beNat (slice data 44 1)
    let s := { s with vol.dyke := { s.vol.dyke with positions := tput s.vol.dyke.positions node data } }
    if c.edition ≠ 1 then loopPass node s
    else
      let s := if st = 3 ∨ st = 4 then
          { s with ctl.sluice := { s.ctl.sluice with requal := s.ctl.sluice.requal.filter (· != c.memberId) } } else s
      loopPass node s

/-- An UPLOAD of a member, delivered at MTB tick `made`: the pass that it drives checks each record that it completes, and emits the
frame due (R27, R180). The Block engine is off after a brown-out warning (R44). -/
def uploadItem (node made : Nat) (data : List Byte) (s : State) : State :=
  if s.hsw.warned then s else emitFrame node (settle node (uploadPart node made data s))

/-- What an UPLINK item does. -/
def uplinkWork (i : WorkItem) (s : State) : State :=
  match itemPacket i s with
  | (some (k, data), s) => if k = 1 then uploadItem i.node i.enq data s else positionItem i.node data s
  | (none, s) => s

def execUplinkItem (core : Nat) (s : State) : Host.Outcome State Fault Refusal :=
  match s.servedItem core 1 with
  | none => .next s
  | some i => .next (uplinkWork i s)

/-- SLEEP_REQ: the latency granted is the least of that asked, the member's limit and what R271 allows (R268). -/
def sleepReq (node asked : Nat) (s : State) : State :=
  match s.conn node with
  | none => s
  | some c =>
    let limit := ((tget s.cfg.mac.provisions c.memberId).map (·.maxLatency)).getD 0
    let beacon := 3 * (if s.connOfdm c then 128 else 200)
    let most := (10 * c.par.sup - beacon) / (2 * max 1 c.par.interval) - 1
    if c.update.isSome then s
    else
      match placeUpdate node c { c.par with latency := min asked (min limit most) } c.hostMap s with
      | some u => startUpdate node c u s
      | none => s

/-- A member's STATUS, CTRL or APP payload. -/
def memberMessage (node kind : Nat) (data : List Byte) (s : State) : State :=
  if kind = 4 then handoverProgress (memberStatus node data s)
  else if kind = 5 then
    sendMsg 0x0782 (leBytes 2 node ++ leBytes 2 data.length ++ zeros 4 ++ data) s
  else if kind = 0 ∧ beNat (slice data 0 1) = 6 then sleepReq node (beNat (slice data 1 2)) s
  else s

/-- What a MEMBER_MSG item does. -/
def memberMsgWork (i : WorkItem) (s : State) : State :=
  match itemPacket i s with
  | (some (k, data), s) => memberMessage i.node k data s
  | (none, s) => s

def execMemberMsgItem (core : Nat) (s : State) : Host.Outcome State Fault Refusal :=
  match s.servedItem core 2 with
  | none => .next s
  | some i => .next (memberMsgWork i s)

end Sys2Proof.Machine
end

