-- ==== Sys2Proof/Machine/Fed.lean ====
section
/-! DEFINITION.
Site federation: peerings, requests and responses, borders, the district coordinator, handovers of members, site stops and
the opcodes (chapter 17). Body layouts that the manual does not give are the model's (log 15).
-/

namespace Sys2Proof.Machine

def State.modFed (s : State) (f : FedRun → FedRun) : State := { s with vol.fed := f s.vol.fed }

def State.peer (s : State) (k : Nat) : Option PeerRun := tget s.vol.fed.peers k

def PeerRun.start : PeerRun :=
  { state := .absent, edition := 0, keySend := [], keyRecv := [], seqSent := 0, seqHigh := 0, seen := [], aligned := false,
    district := 0, coordinator := 0xFF, liveSet := [], digest := [], digestDiff := false, mismatch := false, roundTrip := 0,
    lostAt := none, requests := [], responses := [], transcript := [], ownNonce := [] }

/-- The controller identifier, 0xFF while none is set (R398). -/
def State.ctlId (s : State) : Nat := s.cfg.fed.controller.getD 0xFF

/-- FED.EVENT. -/
def fedEvent (kind peer node detail : Nat) (s : State) : State :=
  sendMsg 0x0E80 (leBytes 1 kind ++ leBytes 1 peer ++ leBytes 2 node ++ leBytes 4 detail ++ leBytes 8 s.mtbNs) s

/-- A message or packet from no accepted source is discarded and counted (R400, R403). -/
def fedDiscard (s : State) : State := s.modFed fun f => { f with discarded := satInc 32 f.discarded }

/-! ### Handshake (R401) -/

/-- A handshake message goes out: it has no session key and no sequence of its own. -/
def fedRaw (peer type : Nat) (body : List Byte) (s : State) : State :=
  { s with out.site := s.out.site ++ [⟨1, peer, type, b2n s.atbAligned, 0, 0, body⟩] }

/-- A peering begins or begins anew: HELLO goes to a peer with a higher identifier; a lower one is waited for. -/
def startHandshake (k : Nat) (s : State) : State :=
  match s.cfg.fed.controller, tget s.cfg.fed.peers k with
  | some me, some _ =>
    let old := (s.peer k).getD PeerRun.start
    let r := { PeerRun.start with lostAt := old.lostAt, district := old.district, responses := old.responses }
    if me < k then
      let (n, s) := s.draw
      let hello := slice (Config.random 65 n) 0 65 ++ [3]
      fedRaw k 1 hello (s.modFed fun f =>
        { f with peers := tput f.peers k { r with state := .handshaking, transcript := hello } })
    else s.modFed fun f => { f with peers := tput f.peers k r }
  | _, _ => s

/-- Peerings with every peer of the table begin, as after a start or a takeover (R421). -/
def startPeerings (s : State) : State := (tkeys s.cfg.fed.peers).foldl (fun s k => startHandshake k s) s

/-- The highest common edition of 1 and 2, 0 for none. -/
def fedEdition (set : Nat) : Nat := if set.testBit 1 then 2 else if set.testBit 0 then 1 else 0

/-- Whether a signature verifies under either key of a peer's entry. -/
def State.peerSigned (s : State) (k : Nat) (msg sig : List Byte) : Bool :=
  match tget s.cfg.fed.peers k with
  | some p => Config.ecdsaVerify (leNat p.pubA) msg sig || Config.ecdsaVerify (leNat p.pubB) msg sig
  | none => false

/-- The keys of the two directions, from the handshake's hash and the identifiers: free values (log 17). -/
def State.fedKeys (s : State) (k : Nat) (h : List Byte) : List Byte × List Byte :=
  let lo := beBytes 1 (min s.ctlId k)
  let hi := beBytes 1 (max s.ctlId k)
  (Config.kdf (0x40 + b2n (decide (s.ctlId < k))) [h, lo, hi], Config.kdf (0x40 + b2n (decide (k < s.ctlId))) [h, lo, hi])

/-- A handshake ends well: the peer is live (R404). -/
def peerLive (k edition : Nat) (h : List Byte) (s : State) : State :=
  let (ks, kr) := s.fedKeys k h
  let s := s.modPeer k fun r =>
    { r with state := .live, edition := edition, keySend := ks, keyRecv := kr, seqSent := 0, seqHigh := 0, seen := [],
             requests := [], transcript := [], lostAt := none }
  fedEvent 1 k 0 0 s

/-- A handshake fails: recorded, and retried after 1 s. -/
def handshakeFailed (k : Nat) (s : State) : State :=
  recordOther 0x0E 0x0E80 (fedEvent 3 k 0 0 (s.modPeer k fun r => { r with state := .absent, transcript := [] }))

/-- What the FEDERATION item of a HELLO does: a peer with a lower identifier is answered. -/
def helloWork (src : Nat) (body : List Byte) (s : State) : State :=
  let ed := fedEdition (fld body 65 1)
  if ed = 0 ∨ body.length ≠ 66 then handshakeFailed src s
  else
    let (n, s) := s.draw
    let rsp := slice (Config.random 65 n) 0 65 ++ [BitVec.ofNat 8 ed]
    let h := Config.sha384 (body ++ rsp)
    let sig := slice (Config.ecdsaSign 2 h n) 0 96
    let old := (s.peer src).getD PeerRun.start
    let r := { PeerRun.start with
      state := .handshaking, edition := ed, transcript := h ++ sig, lostAt := old.lostAt, district := old.district,
      responses := old.responses }
    fedRaw src 2 (rsp ++ sig) (s.modFed fun f => { f with peers := tput f.peers src r })

/-- What the item of a HELLO_RSP does: it is verified, HELLO_FIN goes out and the peer is live. -/
def helloRspWork (src : Nat) (body : List Byte) (s : State) : State :=
  match s.peer src with
  | none => s
  | some r =>
    let h := Config.sha384 (r.transcript ++ body.take 66)
    let sig := (body.drop 66).take 96
    if s.peerSigned src h sig ∧ fld body 65 1 ≠ 0 then
      let (n, s) := s.draw
      let fin := slice (Config.ecdsaSign 2 (Config.sha384 (h ++ sig)) n) 0 96
      peerLive src (fld body 65 1) h (fedRaw src 3 fin s)
    else handshakeFailed src s

/-- What the item of a HELLO_FIN does: it is verified, and the peer is live. -/
def helloFinWork (src : Nat) (body : List Byte) (s : State) : State :=
  match s.peer src with
  | none => s
  | some r =>
    if s.peerSigned src (Config.sha384 r.transcript) body then
      peerLive src r.edition (r.transcript.take (r.transcript.length - 96)) s
    else handshakeFailed src s

/-- A message of a peer is a FEDERATION item on the peer's flow: its work is done in the present step when a core takes it now, else as it
is served (R24, Table Sched-2). -/
def fedItem (src : Nat) (row : Work) (act : State → State) (s : State) : State := workOn 8 (0x900 + src) 0 row act s

/-- HELLO of a peer; only one with a lower identifier sends it (R401). -/
def execHelloReceived (src : Nat) (body : List Byte) (s : State) : Host.Outcome State Fault Refusal :=
  let s := countEvents 0x0B01 none 1 s
  match s.cfg.fed.controller, tget s.cfg.fed.peers src with
  | some me, some _ =>
    if me ≤ src then .next (fedDiscard s) else .next (fedItem src (.helloReceived src body) (helloWork src body) s)
  | _, _ => .next (fedDiscard s)

/-- Whether a peer is being handshaken and its identifier is above, or below, this controller's. -/
def State.handshakes (s : State) (src : Nat) (above : Bool) : Bool :=
  (s.peer src).any fun r => r.state == .handshaking && (if above then decide (s.ctlId ≤ src) else decide (src ≤ s.ctlId))

def execHelloRspReceived (src : Nat) (body : List Byte) (s : State) : Host.Outcome State Fault Refusal :=
  let s := countEvents 0x0B01 none 1 s
  if s.handshakes src true then .next (fedItem src (.helloRspReceived src body) (helloRspWork src body) s)
  else .next (fedDiscard s)

def execHelloFinReceived (src : Nat) (body : List Byte) (s : State) : Host.Outcome State Fault Refusal :=
  let s := countEvents 0x0B01 none 1 s
  if s.handshakes src false then .next (fedItem src (.helloFinReceived src body) (helloFinWork src body) s)
  else .next (fedDiscard s)

def execHandshakeRetry (peer : Nat) (s : State) : Host.Outcome State Fault Refusal :=
  match s.peer peer with
  | some r => .next (if r.state = .live then s else startHandshake peer s)
  | none => .next s

/-- No valid message for 350 ms: the peer stops being live and is handshaken again (R404). -/
def execPeerLivenessTimeout (peer : Nat) (s : State) : Host.Outcome State Fault Refusal :=
  match s.peer peer with
  | none => .next s
  | some r =>
    if r.state ≠ .live then .next s
    else
      let now := s.mtb
      .next (startHandshake peer (fedEvent 2 peer 0 0 (s.modPeer peer fun r =>
        { r with state := .absent, lostAt := some now, requests := [] })))

/-! ### Messages, requests and responses (R402, R403) -/

/-- Whether a sequence number is accepted: above the highest, or up to 64 below it and new. -/
def PeerRun.accepts (r : PeerRun) (seq : Nat) : Bool :=
  decide (r.seqHigh < seq) || (decide (r.seqHigh ≤ seq + 64) && seq != r.seqHigh && !r.seen.contains seq)

/-- A sequence number is marked as accepted. -/
def PeerRun.took (r : PeerRun) (seq : Nat) : PeerRun :=
  if r.seqHigh < seq then
    { r with seqHigh := seq, seen := (r.seqHigh :: r.seen).filter fun q => decide (seq ≤ q + 64) }
  else { r with seen := seq :: r.seen }

/-- A message of a live peer with an acceptable sequence number; none when it is discarded. -/
def fedAccept (h : FedHead) (s : State) : Option State :=
  match s.peer h.src with
  | none => none
  | some r =>
    if r.state = .live ∧ r.accepts h.seq then
      some (countEvents 0x0B01 none 1 (s.modPeer h.src fun r =>
        { r.took h.seq with aligned := h.aligned, district := h.district }))
    else none

/-- A message that is accepted and whose FEDERATION item a core takes now (Table Sched-2); none when it is discarded or waits. -/
def fedTaken (h : FedHead) (s : State) : Option State :=
  (fedAccept h s).bind fun s =>
    if s.servesNow 8 (0x900 + h.src) then some (ranItem 8 (0x900 + h.src) 0 s) else none

/-- A message of a live peer: its work is done in the present step when a core takes its item now, else as it is served. -/
def fedTake (h : FedHead) (row : Work) (act : State → State) (s : State) : Host.Outcome State Fault Refusal :=
  match fedAccept h s with
  | some s => .next (fedItem h.src row act s)
  | none => .next (fedDiscard s)

/-- A message of the stop path: it acts at its receipt and waits for no core (R24). -/
def fedAtOnce (h : FedHead) (act : State → State) (s : State) : Host.Outcome State Fault Refusal :=
  match fedAccept h s with
  | some s => .next (act (ranItem 8 (0x900 + h.src) 0 s))
  | none => .next (fedDiscard s)

/-- A request: answered with the kept response, or acted on and its response kept (R403). -/
def answer403 (h : FedHead) (act : State → (Nat × List Byte) × State) (s : State) : State :=
  match ((s.peer h.src).getD PeerRun.start).responses.find? fun x => x.txn == h.txn with
  | some x => fedSend h.src x.type h.txn x.body s
  | none =>
    let ((t, b), s) := act s
    fedSend h.src t h.txn b (s.modPeer h.src fun r => { r with responses := r.responses ++ [⟨h.txn, t, b⟩] })

/-- A response ends its request, and gives the round trip. -/
def endRequest (h : FedHead) (s : State) : State :=
  let now := s.mtb
  s.modPeer h.src fun r =>
    match r.requests.find? fun q => q.txn == h.txn with
    | some q => { r with roundTrip := sat 16 ((now - q.sentAt) / 1600), requests := r.requests.filter fun q => q.txn != h.txn }
    | none => r

/-- Every 10 ms an unanswered request is repeated. -/
def execFedRetransmit (peer txn : Nat) (s : State) : Host.Outcome State Fault Refusal :=
  match (s.peer peer).bind fun r => r.requests.find? fun q => q.txn == txn with
  | some q => .next (fedSendAs true peer q.type txn q.body s)
  | none => .next s

/-- A response kept for 60 s is discarded. -/
def execResponseCacheExpiry (peer txn : Nat) (s : State) : Host.Outcome State Fault Refusal :=
  .next (s.modPeer peer fun r => { r with responses := r.responses.filter fun x => x.txn != txn })

/-! ### Coordinator and ownership (R404, R411, R412) -/

/-- This controller's live district: itself and its live peers of its district. -/
def State.liveDistrict (s : State) : List Nat :=
  sput ((s.vol.fed.peers.filter fun e => e.2.state == .live && e.2.district == s.cfg.fed.district).map (·.1)) s.ctlId

/-- The coordinator that this controller takes; 0xFF while it has no identifier. -/
def State.coordinator (s : State) : Nat := if s.cfg.fed.controller.isNone then 0xFF else s.liveDistrict.foldl min 0xFF

/-- The ownership digest over the live segments whose owner lies in the district. -/
def State.ownDigest (s : State) : List Byte :=
  let inside := fun o => o == s.ctlId || match s.peer o with
    | some r => r.district == s.cfg.fed.district
    | none => false
  let pairs := s.cfg.dyke.live.segs.filter fun e => inside e.2.owner
  slice (Config.sha384 (pairs.flatMap fun e => beBytes 2 e.1 ++ beBytes 1 e.2.owner)) 0 8

/-- Payload of STATUS. -/
def State.fedStatus (s : State) : List Byte :=
  beBytes 16 (maskOf s.liveDistrict) ++ beBytes 1 s.coordinator ++ s.ownDigest ++ beBytes 2 s.ctl.sluice.stopSeq

/-- STATUS goes to every live peer. -/
def execFedStatusSend (s : State) : Host.Outcome State Fault Refusal :=
  if s.cfg.fed.controller.isNone then .next s
  else .next (s.livePeers.foldl (fun s k => fedSend k 4 0 s.fedStatus s) s)

/-- A peer's STATUS. -/
def statusWork (h : FedHead) (liveSet : List Byte) (coordinator : Nat) (digest : List Byte) (s : State) : State :=
  let same := h.district == s.cfg.fed.district
  let diff := same && digest != s.ownDigest
  let s := s.modPeer h.src fun r =>
    { r with liveSet := liveSet, coordinator := coordinator, digest := digest, digestDiff := diff, mismatch := r.mismatch && diff }
  s.modFed fun f => { f with disagree := f.disagree && f.peers.any fun e =>
    e.2.state == .live && e.2.district == s.cfg.fed.district && e.2.coordinator != s.coordinator }

def execFedStatusReceived (h : FedHead) (liveSet : List Byte) (coordinator : Nat) (digest : List Byte) (_stopSeq : Nat)
    (s : State) : Host.Outcome State Fault Refusal :=
  fedTake h (.fedStatusReceived h liveSet coordinator digest) (statusWork h liveSet coordinator digest) s

/-- 1 s of disagreement about the coordinator is reported, once. -/
def execCoordinatorDisagreementTimer (s : State) : Host.Outcome State Fault Refusal :=
  match s.vol.fed.peers.find? fun e =>
      e.2.state == .live && e.2.district == s.cfg.fed.district && e.2.coordinator != s.coordinator with
  | some e =>
    .next (if s.vol.fed.disagree then s
      else fedEvent 4 e.1 0 e.2.coordinator (s.modFed fun f => { f with disagree := true }))
  | none => .next s

/-- A digest has differed for 1 s: the peer is in mismatch, and a coordinator raises ALARM and reports it. -/
def execDigestMismatchTimer (peer : Nat) (s : State) : Host.Outcome State Fault Refusal :=
  match s.peer peer with
  | none => .next s
  | some r =>
    if r.state ≠ .live ∨ !r.digestDiff ∨ r.mismatch then .next s
    else
      let s := s.modPeer peer fun r => { r with mismatch := true }
      .next (if s.coordinator = s.ctlId then fedEvent 5 peer 0 0 (raiseAlarm s) else s)

/-- Whether this controller is an owner in mismatch: its digest has differed from its coordinator's for 1 s. -/
def State.inMismatch (s : State) : Bool :=
  s.coordinator != s.ctlId && match s.peer s.coordinator with
    | some r => r.mismatch
    | none => false

/-- RTCM of a peer enters the neighbour buffers (R405). -/
def execFedRtcmReceived (h : FedHead) (data : List Byte) (s : State) : Host.Outcome State Fault Refusal :=
  fedTake h (.fedRtcmReceived h data) (fun s => (takeInput data s).2.2) s

/-! ### Borders, at the owner (R406 to R410) -/

/-- A tick of 16 bits as the tick nearest the present one. -/
def State.tickNear (s : State) (t : Nat) : Nat :=
  let base := s.tick / 65536 * 65536 + t % 65536
  if base + 32768 < s.tick then base + 65536 else if s.tick + 32768 < base ∧ 65536 ≤ base then base - 65536 else base

/-- A RESERVE: node, pin flag, and the windows wanted with their path indices. -/
def State.readReserve (s : State) (b : List Byte) : Nat × Bool × List (Nat × Nat × Window) :=
  let at' := fun o n => beNat (slice b o n)
  let node := at' 0 2
  let n := at' 13 1
  (node, at' 12 1 == 1, (List.range n).map fun k =>
    let o := 14 + 8 * k
    let d := at' (o + 3) 1
    (at' o 1, at' (o + 1) 2,
      { node := node, start := s.tickNear (at' (o + 4) 2), stop := if d.testBit 2 then 0 else s.tickNear (at' (o + 6) 2),
        dir := d % 4, pinned := d.testBit 2, invalid := false }))

/-- RESERVE_RSP: status, path index, segment, other node and its window. -/
def reserveRsp (status k seg : Nat) (v : Option Window) : List Byte :=
  beBytes 1 status ++ beBytes 1 k ++ beBytes 2 seg ++ (match v with
    | some w => beBytes 2 w.node ++ beBytes 2 (w.start % 65536) ++ beBytes 2 w.endWord
    | none => zeros 6)

/-- A node's windows on the segments of a list are replaced. -/
def replaceWindows (node : Nat) (ws : List (Nat × Window)) (s : State) : State :=
  let segs := ws.map (·.1)
  let s := s.mapWindows fun g w => if w.node = node && segs.contains g then none else some w
  ws.foldl (fun s e => s.addWindow e.1 e.2) s

/-- A request for windows on this controller's segments. -/
def ownerReserve (h : FedHead) (body : List Byte) (s : State) : (Nat × List Byte) × State :=
  let (node, pin, want) := s.readReserve body
  let mine := want.all fun e => match s.segment e.2.1 with
    | some x => x.owner == s.ctlId
    | none => false
  if !s.atbAligned || !h.aligned then ((7, reserveRsp 3 0 0 none), s)
  else if s.inMismatch || !mine then ((7, reserveRsp 4 0 0 none), s)
  else if pin then ((7, reserveRsp 0 0 0 none), replaceWindows node (want.map fun e => (e.2.1, e.2.2)) s)
  else
    let s := countCheck s
    match s.clash node want with
    | some (.conflict k g v) => ((7, reserveRsp 1 k g (some v)), s)
    | some (.capacity g) => ((7, reserveRsp 2 0 g none), s)
    | none =>
      ((7, reserveRsp 0 0 0 none), s.modFed fun f =>
        { f with tentative := f.tentative ++ [⟨h.src, h.txn, want.map fun e => (e.2.1, e.2.2)⟩] })

def execReserveReceived (h : FedHead) (body : List Byte) (s : State) : Host.Outcome State Fault Refusal :=
  fedTake h (.reserveReceived h body) (answer403 h (ownerReserve h body)) s

/-- 100 ms after a RESERVE without COMMIT, its tentative windows are dropped. -/
def execTentativeWindowExpiry (peer txn : Nat) (s : State) : Host.Outcome State Fault Refusal :=
  .next (s.modFed fun f => { f with tentative := f.tentative.filter fun t => !(t.peer == peer && t.txn == txn) })

/-- COMMIT of a reservation: tentative windows become windows of the member, or the answer is expired. -/
def ownerCommit (h : FedHead) (txn : Nat) (s : State) : (Nat × List Byte) × State :=
  match s.vol.fed.tentative.find? fun t => t.peer == h.src && t.txn == txn with
  | none => ((9, beBytes 1 5), s)
  | some t =>
    let s := s.modFed fun f => { f with tentative := f.tentative.filter fun u => !(u.peer == h.src && u.txn == txn) }
    ((9, beBytes 1 0), match t.windows with
      | [] => s
      | e :: _ => replaceWindows e.2.node t.windows s)

/-- COMMIT of a handover: it counts when it arrives at least 10 ms before I (R414). -/
def targetCommit (h : FedHead) (txn : Nat) (s : State) : (Nat × List Byte) × State :=
  ((9, beBytes 1 0), { s with ctl.handovers := { s.ctl.handovers with targets := s.ctl.handovers.targets.map fun t =>
    if t.peer = h.src ∧ t.txn = txn ∧ s.atbNow + 655360000000 ≤ atbOfAsn t.instant then { t with commit := true } else t } })

/-- COMMIT: kind 1 a reservation, 2 a handover, then the txn of the request that it commits. -/
def commitOf (h : FedHead) (body : List Byte) (s : State) : (Nat × List Byte) × State :=
  let txn := beNat (slice body 1 4)
  if beNat (slice body 0 1) = 1 then ownerCommit h txn s else targetCommit h txn s

def execCommitReceived (h : FedHead) (body : List Byte) (s : State) : Host.Outcome State Fault Refusal :=
  fedTake h (.commitReceived h body) (answer403 h (commitOf h body)) s

/-- RELEASE: a node's windows on the segments named are freed (R409, R410). -/
def ownerRelease (h : FedHead) (body : List Byte) (s : State) : (Nat × List Byte) × State :=
  let node := beNat (slice body 0 2)
  let segs := (List.range (beNat (slice body 2 1))).map fun k => beNat (slice body (3 + 2 * k) 2)
  let s := s.modFed fun f => { f with tentative := f.tentative.map fun t =>
    if t.peer = h.src then { t with windows := t.windows.filter fun e => !(e.2.node == node && segs.contains e.1) } else t }
  ((11, []), s.mapWindows fun g w => if w.node = node && segs.contains g then none else some w)

def execReleaseReceived (h : FedHead) (body : List Byte) (s : State) : Host.Outcome State Fault Refusal :=
  fedTake h (.releaseReceived h body) (answer403 h (ownerRelease h body)) s

/-! ### Borders, at the requester -/

/-- The request that waits on a RESERVE or COMMIT. -/
def State.borderOf (s : State) (txn : Nat) : Option BorderRun :=
  s.vol.dyke.border.find? fun b => (b.reserves ++ b.commits).any fun e => e.1 == txn

/-- An owner's answer to a RESERVE (R408). -/
def reserveRspWork (h : FedHead) (body : List Byte) (s : State) : State :=
  let s := endRequest h s
  let at' := fun o n => beNat (slice body o n)
  let st := at' 0 1
  if st = 0 then borderAccepted h.txn s
  else match s.borderOf h.txn with
    | none => s
    | some b =>
      if st = 1 then
        let e := at' 8 2
        refuseClash b (at' 1 1) (at' 2 2)
          { node := at' 4 2, start := s.tickNear (at' 6 2), stop := s.tickNear e, dir := 3, pinned := e == 0xFFFF,
            invalid := false } s
      else if st = 2 then refuseBorder b erCapacity (at' 2 2) (at' 2 2) [] s
      else refuseBorder b erTimeout h.src 0xFFFF [] s

def execReserveRspReceived (h : FedHead) (body : List Byte) (s : State) : Host.Outcome State Fault Refusal :=
  fedTake h (.reserveRspReceived h body) (reserveRspWork h body) s

/-- An owner's, or a target's, answer to a COMMIT; an expired reservation refuses the request as a late reply does. -/
def commitAckWork (h : FedHead) (body : List Byte) (s : State) : State :=
  let s := endRequest h s
  if beNat (slice body 0 1) = 0 then borderAcked h.txn s
  else match s.borderOf h.txn with
    | some b => refuseBorder b erTimeout h.src 0xFFFF [] s
    | none => s

def execCommitAckReceived (h : FedHead) (body : List Byte) (s : State) : Host.Outcome State Fault Refusal :=
  fedTake h (.commitAckReceived h body) (commitAckWork h body) s

def execReleaseAckReceived (h : FedHead) (s : State) : Host.Outcome State Fault Refusal :=
  fedTake h (.ackReceived h) (endRequest h) s

/-! ### Handing a member over (R413 to R416) -/

def State.source (s : State) (node : Nat) : Option SourceHandover := s.ctl.handovers.sources.find? fun h => h.node == node

def State.modSource (s : State) (node : Nat) (f : SourceHandover → SourceHandover) : State :=
  { s with ctl.handovers := { s.ctl.handovers with
      sources := s.ctl.handovers.sources.map fun h => if h.node = node then f h else h } }

def State.dropSource (s : State) (node : Nat) : State :=
  { s with ctl.handovers := { s.ctl.handovers with sources := s.ctl.handovers.sources.filter fun h => h.node != node } }

/-- R406 for a peer: ATB aligned here and, as far as a live peer tells, there. -/
def State.alignedWith (s : State) (peer : Nat) : Bool :=
  s.atbAligned && match s.peer peer with
    | some r => r.state != .live || r.aligned
    | none => true

/-- The words of HANDOVER_OFFER that the manual names first; keys and the rest follow in the order of Table Fed-3. -/
def offerBody (o : MemberOffer) : List Byte :=
  beBytes 8 o.conn.memberId ++ beBytes 2 o.node ++ beBytes 1 o.conn.edition ++ o.conn.kDn ++ o.conn.kUp ++ o.conn.kWrap ++
    beBytes 4 o.conn.ctrDn ++ beBytes 4 o.conn.ctrUp ++ beBytes 2 o.conn.seqDn ++ beBytes 2 o.conn.nextUp ++
    beBytes 4 o.conn.anchorAsn ++ beBytes 2 o.conn.anchorCtr ++ beBytes 2 o.conn.par.interval ++ beBytes 1 o.lane ++
    beBytes 1 o.squad ++ beBytes 1 (o.cls.getD 0xFF) ++ beBytes 1 ((o.status.map (·.state)).getD 0) ++
    (match o.allot with
      | some a => beBytes 1 1 ++ beBytes 1 a.targetIdx ++ beBytes 4 a.target ++ beBytes 2 a.plan.number ++
          beBytes 8 (a.plan.t0 / 65536) ++ a.path.flatMap fun e => beBytes 2 e.seg ++ beBytes 1 (b2n e.rev)
      | none => beBytes 1 0) ++
    o.copies.flatMap fun e => beBytes 2 e.1 ++ beBytes 1 e.2.dir ++ beBytes 2 (e.2.start % 65536) ++ beBytes 2 e.2.endWord

/-- What the source tells of a member. -/
def State.offer (s : State) (node lane squad : Nat) (c : Conn) : MemberOffer :=
  { node := node, lane := lane, squad := squad, conn := c, cls := tget s.cfg.dyke.members node,
    status := tget s.vol.sluice.status node, allot := s.allot node, copies := s.nodeWindows node ++ s.nodeCopies node }

def runFedHandover (cmd : HostCmd) (s : State) : CmdResult :=
  let ps := cmd.packet.params
  let node := fld ps 0 2
  let t := fld ps 2 1
  match s.conn node with
  | none => .refuse erState 1
  | some c =>
    if s.covered node then .refuse erState 2
    else if !s.alignedWith t then .refuse erState 3
    else
      match s.taskOf node with
      | some k => .refuse erBusy k
      | none =>
        if !s.livePeers.contains t then .refuse erTimeout t
        else
          let (txn, s) := fedRequest t 12 (offerBody (s.offer node (fld ps 3 1) (fld ps 4 1) c)) s
          let h : SourceHandover :=
            { node := node, target := t, txn := txn, cmd := some cmd, stage := .offered, instant := 0 }
          .requested { s with ctl.handovers := { s.ctl.handovers with sources := s.ctl.handovers.sources ++ [h] } }

/-- The first event of an offered connection at or after an ASN (R414, step 2). -/
def firstEvent (c : Conn) (asn : Nat) : Nat :=
  c.anchorAsn + ceilDiv (asn - c.anchorAsn) (max 1 c.par.interval) * max 1 c.par.interval

/-- Slots free for a connection whose events fall at `asn` and every interval after it. -/
def State.slotsAt (s : State) (l interval up asn : Nat) : Option (Nat × Nat) :=
  let hs := s.holders l 0
  let (_, _, w) := s.slotRange l
  if !(s.lane l).ofdm ∧ (interval % 50 ≠ 0 ∨ asn % 50 ≠ 0) then none
  else (s.placements l up).find? fun (d, u) =>
    let me := (asn, interval, (List.range w).map (d + ·) ++ (List.range (w * up)).map (u + ·))
    !(hs.any fun h => meets me h)

/-- The parameters of an offered connection on a lane with `n` channels: a hop coprime to n (R259), and a latency and a supervision timeout
that R271 allows there. DESIGN CHOICE (log 179). -/
def State.offeredParams (s : State) (lane n : Nat) (p : ConnParams) : ConnParams :=
  let ofdm := (s.lane lane).ofdm
  let most := (32000 - 3 * (if ofdm then 128 else 200)) / (2 * max 1 p.interval) - 1
  let latency := min p.latency most
  { p with
    hop := if Nat.gcd p.hop n = 1 then p.hop else 1, latency := latency
    sup := max p.sup (leastSup ofdm latency p.interval) }

/-- Status of an OFFER that R406 refuses; the manual gives it none. DESIGN CHOICE (log 48). -/
def notAligned : Nat := 0xFF

/-- The checks of the target: the status, or the connection that it stages and I. -/
def State.offerCheck (s : State) (h : FedHead) (o : MemberOffer) : Except Nat (Conn × Nat) :=
  let c := o.conn
  if !s.atbAligned || !h.aligned then .error notAligned
  else
    match tget s.cfg.mac.provisions c.memberId with
    | none => .error 1
    | some p =>
      if !p.lanes.testBit o.lane || !s.laneOn o.lane then .error 1
      else
        match (if 2048 ≤ s.ctl.conns.length then none else s.newFlow o.node) with
        | none => .error 3
        | some f =>
          let i := firstEvent c (s.asn + (c.par.latency + 4) * c.par.interval + 25)
          if s.addrHeld c.memberId o.node then .error 4
          else
            match s.slotsAt o.lane c.par.interval c.par.upCount i with
            | none => .error 6
            | some (d, u) =>
              if 32 ≤ s.squadCount o.squad c.memberId then .error 7
              else
                let n := (s.lane o.lane).channels.length
                let p := s.offeredParams o.lane n c.par
                .ok ({ c with
                  flow := f, anchorAsn := i, anchorCtr := eventAt c i, hostMap := 2 ^ n - 1,
                  effMap := maskOf ((List.range n).filter fun k => s.chanAvailable o.lane k), update := none, chanMap := none,
                  ending := none,
                  par := { p with lane := o.lane, squad := o.squad, downSlot := d, upSlot := u, relay := false } }, i)

/-- The connection parameters of CTRL HANDOVER and of HANDOVER_ACCEPT (R416). -/
def handoverPars (ctl : Nat) (p : ConnParams) (map : Nat) : List Byte :=
  beBytes 1 ctl ++ beBytes 1 p.lane ++ beBytes 1 p.squad ++ beBytes 2 p.interval ++ beBytes 1 p.downSlot ++
    beBytes 1 p.upSlot ++ beBytes 1 p.upCount ++ beBytes 2 p.latency ++ beBytes 2 p.sup ++ beBytes 1 p.hop ++
    beBytes 1 p.seed ++ beBytes 1 p.rate ++ beBytes 8 map

/-- An OFFER: the member is staged (R102), or the first failing status answered. -/
def targetOffer (h : FedHead) (o : MemberOffer) (s : State) : (Nat × List Byte) × State :=
  match s.offerCheck h o with
  | .error st => ((13, beBytes 1 st ++ zeros 4), s)
  | .ok (c, i) =>
    let t : TargetHandover := { peer := h.src, txn := h.txn, offer := o, conn := c, instant := i, commit := false }
    ((13, beBytes 1 0 ++ beBytes 4 i ++ handoverPars s.ctlId c.par c.effMap),
      bindFlow c.flow o.node { s with ctl.handovers := { s.ctl.handovers with targets := s.ctl.handovers.targets ++ [t] } })

def execHandoverOfferReceived (h : FedHead) (offer : MemberOffer) (s : State) : Host.Outcome State Fault Refusal :=
  fedTake h (.handoverOfferReceived h offer) (answer403 h (targetOffer h offer)) s

/-- A handover ends at its source before any COMMIT: its command is refused. -/
def failHandover (x : SourceHandover) (status detail : Nat) (s : State) : State :=
  let s := (s.dropSource x.node).modPeer x.target fun r => { r with requests := r.requests.filter fun q => q.txn != x.txn }
  match x.cmd with
  | some c => finish c status detail [] s
  | none => s

/-- ACCEPT: COMMIT goes to the target, and the CTRL message HANDOVER to the member (R414, R416). -/
def acceptWork (h : FedHead) (status instant : Nat) (par : ConnParams) (chanMap : Nat) (s : State) : State :=
  match s.ctl.handovers.sources.find? fun x => x.txn == h.txn && x.target == h.src && x.stage == .offered with
  | none => endRequest h s
  | some x =>
    let s := endRequest h s
    match s.conn x.node with
    | none => failHandover x erState 1 s
    | some c =>
      if status ≠ 0 then failHandover x erConflict (0x0E00 + status) s
      else
        let s := s.modSource x.node fun y => { y with stage := .committed, instant := instant }
        let s := (fedRequest x.target 8 (beBytes 1 2 ++ beBytes 4 x.txn) s).2
        queueOrRecord x.node 0 (beBytes 1 7 ++ beBytes 2 (eventAt c instant) ++ handoverPars x.target par chanMap) s

def execHandoverAcceptReceived (h : FedHead) (status instant : Nat) (par : ConnParams) (chanMap : Nat) (s : State) :
    Host.Outcome State Fault Refusal :=
  fedTake h (.handoverAcceptReceived h status instant par chanMap) (acceptWork h status instant par chanMap) s

def execHandoverAcceptTimeout (node : Nat) (s : State) : Host.Outcome State Fault Refusal :=
  match s.source node with
  | some x => .next (if x.stage = .offered then failHandover x erTimeout x.target s else s)
  | none => .next s

/-- A member that a committed handover gives this controller: connection, flow, class, allotment and copies (R414, R415). A connection
that the member still holds here ends (R34). -/
def adoptMember (t : TargetHandover) (s : State) : State :=
  let o := t.offer
  let now := s.mtb
  let s := match s.connOfMember t.conn.memberId with
    | some e => endConn e.1 3 s
    | none => s
  let s := bindFlow t.conn.flow o.node s
  let d := s.ctl.dyke
  let copies := o.copies.filter fun e => s.border e.1
  let s := { s with
    ctl.conns := tput s.ctl.conns o.node t.conn
    ctl.dyke := { d with
      allots := match o.allot with
        | some a => tput d.allots o.node a
        | none => tdel d.allots o.node
      copies := if copies.isEmpty then tdel d.copies o.node else tput d.copies o.node copies }
    vol.mac := { s.vol.mac with conns := tput s.vol.mac.conns o.node (ConnRun.start now) }
    vol.sluice := { s.vol.sluice with status := match o.status with
      | some m => tput s.vol.sluice.status o.node m
      | none => s.vol.sluice.status }
    vol.solver := { s.vol.solver with runs := tdel s.vol.solver.runs o.node }
    ctl.filters := tdel s.ctl.filters o.node }
  let s := match o.cls with
    | some c => { s with ctl.cfg.dyke := { s.cfg.dyke with members := tput s.cfg.dyke.members o.node c } }
    | none => s
  beginFrames o.node s

/-- A stage ends at its target: it commits or is discarded, and DONE tells the source. -/
def closeStage (t : TargetHandover) (s : State) : State :=
  let node := t.offer.node
  let s := { s with ctl.handovers := { s.ctl.handovers with
    targets := s.ctl.handovers.targets.filter fun u => u.offer.node != node } }
  let s := if t.commit then adoptMember t s else freeFlow t.conn.flow s
  (fedRequest t.peer 14 (beBytes 4 t.txn ++ beBytes 2 node ++ beBytes 1 (if t.commit then 1 else 2)) s).2

/-- The stage that a CONN item commits (R354). -/
def stageWork (node : Nat) (s : State) : State :=
  match s.ctl.handovers.targets.find? fun t => t.offer.node == node with
  | some t => closeStage t s
  | none => s

/-- I at the target: a CONN item commits the stage, or it is discarded (R354, R414). ATB passes to I. -/
def execHandoverInstant (node : Nat) (s : State) : Host.Outcome State Fault Refusal :=
  match s.ctl.handovers.targets.find? fun t => t.offer.node == node with
  | none =>
    match s.source node with
    | some x => .next (if x.stage = .offered then s else passToAtb (atbOfAsn x.instant) s)
    | none => .next s
  | some t =>
    let s := passToAtb (atbOfAsn t.instant) s
    .next (if t.commit then workOn 6 t.conn.flow node (.handoverInstant node) (closeStage t) s else closeStage t s)

/-- A member leaves for the target's domain: connection, flow, squad place and copies are freed; its windows stay (R415). -/
def partMember (node : Nat) (s : State) : State :=
  match s.conn node with
  | none => s
  | some c =>
    let now := s.mtb
    let d := s.ctl.dyke
    let s := { s with
      ctl.conns := tdel s.ctl.conns node
      ctl.dyke := { d with copies := tdel d.copies node, allots := tdel d.allots node, profiles := tdel d.profiles node }
      vol.mac := { s.vol.mac with conns := tdel s.vol.mac.conns node }
      vol.sluice := { s.vol.sluice with status := tdel s.vol.sluice.status node }
      vol.dyke := { s.vol.dyke with
        frames := tdel s.vol.dyke.frames node, positions := tdel s.vol.dyke.positions node
        placed := tdel s.vol.dyke.placed node }
      vol.solver := { s.vol.solver with
        runs := tmod s.vol.solver.runs node fun r => { r with endedAt := some now } } }
    let s := freeFlow c.flow (dropQueue c.flow (cancelTimers c.flow 4 (cancelTimers c.flow 3 s)))
    reclassAll (fun _ m => if m.node = node ∧ m.memberId = c.memberId then m.unreach else m) s

/-- The outcome of a handover, to the command that asked for it and in FED.EVENT. -/
def tellOutcome (x : SourceHandover) (outcome : Nat) (s : State) : State :=
  let s := fedEvent 6 x.target x.node outcome s
  match x.cmd with
  | some c => finish c 1 0 (leBytes 4 x.instant ++ leBytes 1 outcome ++ zeros 3) s
  | none => s

/-- The outcome of a handover is recorded: a member that the target has taken leaves (R415). -/
def endHandover (x : SourceHandover) (outcome : Nat) (s : State) : State :=
  let s := s.dropSource x.node
  tellOutcome x outcome (if outcome = 1 then partMember x.node s else s)

/-- The handover whose end a CONN item carries out (R354). -/
def partWork (src node outcome : Nat) (s : State) : State :=
  match s.source node with
  | some x => if x.stage = .offered ∨ x.target ≠ src then s else endHandover x outcome s
  | none => s

/-- DONE: the outcome is recorded and acknowledged; a CONN item on the member's flow ends its connection (R26, R354). -/
def doneOf (h : FedHead) (node outcome : Nat) (s : State) : (Nat × List Byte) × State :=
  match s.source node with
  | none => ((15, []), s)
  | some x =>
    if x.stage = .offered ∨ x.target ≠ h.src then ((15, []), s)
    else
      let s := s.modPeer x.target fun r =>
        { r with requests := r.requests.filter fun q => q.type != 8 || (beNat (slice q.body 1 4) != x.txn) }
      if outcome = 1 then ((15, []), workOn 6 (s.flowOf node) node (.handoverEnd h.src node outcome) (endHandover x outcome) s)
      else ((15, []), endHandover x outcome s)

def execHandoverDoneReceived (h : FedHead) (node outcome : Nat) (s : State) : Host.Outcome State Fault Refusal :=
  fedTake h (.handoverDoneReceived h node outcome) (answer403 h (doneOf h node outcome)) s

def execDoneAckReceived (h : FedHead) (s : State) : Host.Outcome State Fault Refusal := fedTake h (.ackReceived h) (endRequest h) s

/-- 1 s after I the outcome is unknown: reported, and queried by a repeated COMMIT (R415). -/
def execHandoverOutcomeTimeout (node : Nat) (s : State) : Host.Outcome State Fault Refusal :=
  match s.source node with
  | none => .next s
  | some x =>
    if x.stage ≠ .committed then .next s
    else
      let s := s.modSource node fun y => { y with stage := .unknown, cmd := none }
      .next (tellOutcome x 3 (fedRequest x.target 8 (beBytes 1 2 ++ beBytes 4 x.txn) s).2)

/-! ### Site stops (R418, R419) -/

/-- Whether a pair was seen in the last 60 s. -/
def seenPair (l : List (Nat × Nat × Nat)) (now a b : Nat) : Bool :=
  l.any fun e => e.1 == a && e.2.1 == b && decide (now < e.2.2 + 60 * tickS)

/-- A pair is noted as seen; older ones are forgotten. -/
def notePair (l : List (Nat × Nat × Nat)) (now a b : Nat) : List (Nat × Nat × Nat) :=
  l.filter (fun e => decide (now < e.2.2 + 60 * tickS)) ++ [(a, b, now)]

/-- SITE_STOP: a new pair raises a stop of cause 7, scope all, and goes on to the other live peers. It is of the stop path (R24). -/
def execSiteStopReceived (h : FedHead) (origin no cat : Nat) (s : State) : Host.Outcome State Fault Refusal :=
  fedAtOnce h (answer403 h fun s =>
    if origin = s.ctlId ∨ seenPair s.vol.fed.siteStops s.mtb origin no then ((17, []), s)
    else
      let now := s.mtb
      let s := s.modFed fun f => { f with siteStops := notePair f.siteStops now origin no }
      let (_, _, s) := raiseStop 7 cat [] (.siteRemote origin no) s
      let s := fedRequestAll (s.livePeers.filter (· != h.src)) 16 (siteStopBody origin no cat 7) s
      ((17, []), fedEvent 7 origin no 0 s)) s

def execSiteStopAckReceived (h : FedHead) (s : State) : Host.Outcome State Fault Refusal :=
  fedTake h (.ackReceived h) (endRequest h) s

/-- The stops of an origin's number meet R301 for their release. -/
def markReleased (origin no : Nat) (s : State) : State :=
  { s with ctl.sluice := { s.ctl.sluice with stops := s.stops.map fun x =>
      { x with site := x.site.map fun r => if r.origin = origin ∧ r.number = no then { r with released := true } else r } } }

def releaseOf (h : FedHead) (origin no : Nat) (s : State) : (Nat × List Byte) × State :=
  if origin = s.ctlId ∨ seenPair s.vol.fed.siteRels s.mtb origin no then ((19, []), s)
  else
    let now := s.mtb
    let s := s.modFed fun f => { f with siteRels := notePair f.siteRels now origin no }
    let s := fedRequestAll (s.livePeers.filter (· != h.src)) 18 (siteReleaseBody origin no) (markReleased origin no s)
    ((19, []), fedEvent 8 origin no 0 s)

def execSiteReleaseReceived (h : FedHead) (origin no : Nat) (s : State) : Host.Outcome State Fault Refusal :=
  fedTake h (.siteReleaseReceived h origin no) (answer403 h (releaseOf h origin no)) s

def execSiteReleaseAckReceived (h : FedHead) (s : State) : Host.Outcome State Fault Refusal :=
  fedTake h (.ackReceived h) (endRequest h) s

/-- The work of a peer's message that waited for a core. -/
def fedWork (row : Work) (s : State) : State :=
  match row with
  | .helloReceived k b => helloWork k b s
  | .helloRspReceived k b => helloRspWork k b s
  | .helloFinReceived k b => helloFinWork k b s
  | .fedStatusReceived h v c d => statusWork h v c d s
  | .fedRtcmReceived _ d => (takeInput d s).2.2
  | .reserveReceived h b => answer403 h (ownerReserve h b) s
  | .reserveRspReceived h b => reserveRspWork h b s
  | .commitReceived h b => answer403 h (commitOf h b) s
  | .commitAckReceived h b => commitAckWork h b s
  | .releaseReceived h b => answer403 h (ownerRelease h b) s
  | .handoverOfferReceived h o => answer403 h (targetOffer h o) s
  | .handoverAcceptReceived h k i p m => acceptWork h k i p m s
  | .handoverDoneReceived h n o => answer403 h (doneOf h n o) s
  | .siteReleaseReceived h o n => answer403 h (releaseOf h o n) s
  | .ackReceived h => endRequest h s
  | _ => s

/-! ### Opcodes -/

def runFedConfig (c : HostCmd) (s : State) : CmdResult :=
  let ps := c.packet.params
  let f := s.cfg.fed
  let g := { f with controller := some (fld ps 0 1), district := fld ps 1 1, exports := fld ps 2 1, site := fld ps 4 4 }
  let n := s.ctl.conns.length + s.livePeers.length
  let moves := f.controller ≠ g.controller ∨ f.district ≠ g.district ∨ f.site ≠ g.site
  if moves ∧ n ≠ 0 then .refuse erState n
  else
    let s := { s with ctl.cfg.fed := g }
    .accepted (if f.controller = g.controller then s else startPeerings s) []

/-- The live peers that use a port alone. -/
def State.onlyThrough (s : State) (port : Nat) : Option Nat :=
  s.livePeers.find? fun k => match tget s.cfg.fed.peers k with
    | some p => p.ports == 2 ^ port
    | none => false

/-- The link state of a port is measured (log 39). -/
def runFedPort (c : HostCmd) (s : State) : CmdResult :=
  let ps := c.packet.params
  let k := fld ps 0 1
  let p : SitePort :=
    { enable := fld ps 1 1 = 1, mode := fld ps 2 1, v4Prefix := fld ps 3 1, ipv4 := slice ps 4 4, gw4 := slice ps 8 4,
      v6Prefix := fld ps 12 1, udpPort := fld ps 14 2, ipv6 := slice ps 16 16, gw6 := slice ps 32 16 }
  match (if p.enable then none else s.onlyThrough k) with
  | some n => .refuse erState n
  | none =>
    let (d, s) := s.draw
    .accepted { s with ctl.cfg.fed := { s.cfg.fed with ports := s.cfg.fed.ports.set k p } }
      (leBytes 1 (b2n (p.enable && Config.flag 0x11 d)) ++ zeros 3)

/-- A peer bound to a session that an entry's flags bind, other than `k`. -/
def State.boundOther (s : State) (k flags : Nat) : Option Nat :=
  (s.cfg.fed.peers.find? fun e => e.1 != k && (e.2.flags / 2 &&& flags / 2) != 0).map (·.1)

def runFedPeer (c : HostCmd) (s : State) : CmdResult :=
  let ps := c.packet.params
  let k := fld ps 1 1
  let old := tget s.cfg.fed.peers k
  let reply := fun s : State => leBytes 1 s.cfg.fed.peers.length ++ zeros 3
  if s.cfg.fed.controller = some k then .refuse erRange 1
  else if fld ps 0 1 = 0 then
    match (s.peer k).bind fun r => r.requests.head? with
    | some q => .refuse erState q.txn
    | none =>
      let s := { s with ctl.cfg.fed := { s.cfg.fed with peers := tdel s.cfg.fed.peers k } }
      let s := s.modFed fun f => { f with peers := tdel f.peers k }
      .accepted s (reply s)
  else
    let p : PeerSettings :=
      { flags := fld ps 2 1, ports := fld ps 3 1, ip := slice ps 4 16, udpPort := fld ps 20 2, pubA := slice ps 24 49,
        pubB := slice ps 73 49 }
    if old.isNone ∧ 127 ≤ s.cfg.fed.peers.length then .refuse erCapacity 0
    else
      match s.boundOther k p.flags with
      | some n => .refuse erConflict n
      | none =>
        let s := { s with ctl.cfg.fed := { s.cfg.fed with peers := tput s.cfg.fed.peers k p } }
        let same := old.map (fun q => { q with flags := p.flags }) == some p
        .accepted (if same then s else startHandshake k s) (reply s)

/-- Dependent ranges of FED.SITE_STOP. -/
def siteStopRange (ps : List Byte) : Option Nat :=
  if fld ps 0 1 = 0 then (if fld ps 1 1 = 0 then some 1 else if fld ps 2 1 ≠ 0 then some 2 else if fld ps 4 2 ≠ 0 then some 4 else none)
  else if fld ps 1 1 ≠ 0 then some 1 else none

/-- Whether this controller may release for an origin: coordinator of its district, and the origin not live for 10 s. -/
def State.mayReleaseFor (s : State) (origin : Nat) : Bool :=
  s.cfg.fed.controller.isSome && match s.peer origin with
    | none => false
    | some r =>
      r.state != .live && r.district == s.cfg.fed.district && s.coordinator == s.ctlId &&
        match r.lostAt with
        | some t => decide (t + 10 * tickS ≤ s.mtb)
        | none => true

def runFedSiteStop (c : HostCmd) (s : State) : CmdResult :=
  let ps := c.packet.params
  let origin := fld ps 2 1
  let no := fld ps 4 2
  match siteStopRange ps with
  | some o => .refuse erRange o
  | none =>
    if fld ps 0 1 = 0 then
      let (n, _, s) := raiseStop 7 (fld ps 1 1) [] .siteOwn s
      .accepted s (leBytes 2 n ++ zeros 2)
    else if !s.mayReleaseFor origin then .refuse erState origin
    else
      let now := s.mtb
      let s := markReleased origin no (s.modFed fun f => { f with siteRels := notePair f.siteRels now origin no })
      let s := fedRequestAll s.livePeers 18 (siteReleaseBody origin no) s
      let own := s.stops.find? fun x => match x.site with
        | some r => r.origin == origin && r.number == no
        | none => false
      .accepted s (leBytes 2 ((own.map (·.no)).getD 0) ++ zeros 2)

def peerCode : PeerState → Nat
  | .absent => 0
  | .handshaking => 1
  | .live => 2

def runFedStatus (_ : HostCmd) (s : State) : CmdResult :=
  let moving := (s.ctl.handovers.sources.filter fun h => h.stage != .offered).length
  .ok s (leBytes 1 s.ctlId ++ leBytes 1 s.cfg.fed.district ++ leBytes 1 s.coordinator ++
    leBytes 1 s.cfg.fed.peers.length ++ leBytes 4 moving ++
    s.cfg.fed.peers.flatMap fun e =>
      let r := (s.peer e.1).getD PeerRun.start
      leBytes 1 e.1 ++ leBytes 1 (peerCode r.state) ++ leBytes 1 r.edition ++ leBytes 1 (b2n r.aligned + 2 * b2n r.mismatch) ++
        leBytes 2 r.roundTrip ++ zeros 2)

def execFedConfig (p : Packet) (s : State) : Host.Outcome State Fault Refusal := .next (serve 0x0E01 runFedConfig p s)
def execFedPort (p : Packet) (s : State) : Host.Outcome State Fault Refusal := .next (serve 0x0E02 runFedPort p s)
def execFedPeer (p : Packet) (s : State) : Host.Outcome State Fault Refusal := .next (serve 0x0E03 runFedPeer p s)
def execFedHandover (p : Packet) (s : State) : Host.Outcome State Fault Refusal := .next (serve 0x0E04 runFedHandover p s)
def execFedSiteStop (p : Packet) (s : State) : Host.Outcome State Fault Refusal := .next (serve 0x0E05 runFedSiteStop p s)
def execFedStatus (p : Packet) (s : State) : Host.Outcome State Fault Refusal := .next (serve 0x0E06 runFedStatus p s)

end Sys2Proof.Machine
end

