-- ==== Sys2Proof/Machine/Ptp.lean ====
section
/-! DEFINITION.
PTP on the site ports (R212 to R217), and the opcodes of site time (chapter 08). The layout of PTP messages, the codes of clockAccuracy
and the best master clock algorithm are those of IEEE 1588-2019, and those of UDP, IP and Ethernet headers around a message those of their
standards. PRESUMED (logs 47 and 198).
-/

namespace Sys2Proof.Machine

def State.ptpSet (s : State) (p : Nat) : PtpPortSettings := s.ctl.timeCfg.ptp.ports.getD p PtpPortSettings.factory

def State.ptpPort (s : State) (p : Nat) : PtpPort := s.vol.time.ports.getD p PtpPort.start

def State.modPtp (s : State) (p : Nat) (f : PtpPort → PtpPort) : State :=
  s.modTime fun r => { r with ports := r.ports.modify p f }

/-- Whether a port runs PTP of its own (R213, R216). -/
def State.ptpOn (s : State) (p : Nat) : Bool :=
  let c := s.ctl.timeCfg.ptp
  decide (p < 2) && (s.ptpSet p).enable && c.mode != 0 && (c.mode ≤ 2 || c.ptbSource == 1)

/-- Whether a port measures its peer delay: when it runs PTP of its own, and always in a peer-to-peer transparent clock (Table Time-7). -/
def State.peerOn (s : State) (p : Nat) : Bool :=
  s.ptpOn p || (decide (p < 2) && (s.ptpSet p).enable && s.ctl.timeCfg.ptp.mode == 4)

/-- The module's clockIdentity: the EUI-64 formed from its base MAC address (R213). -/
def clockIdentity : List Byte :=
  let m := beBytes 6 Config.mac.toNat
  m.take 3 ++ [0xFF, 0xFE] ++ m.drop 3

/-- The sourcePortIdentity of a site port: port numbers are 1 and 2 (R213). -/
def portIdentity (p : Nat) : List Byte := clockIdentity ++ beBytes 2 (p + 1)

/-! ### Messages -/

/-- Fields of a received message: type, flags, correctionField, source, sequence number, interval and timestamp. -/
def ptpType (b : List Byte) : Nat := beNat (slice b 0 1) % 16
def ptpTwoStep (b : List Byte) : Bool := (beNat (slice b 6 1)).testBit 1
def ptpCorr (b : List Byte) : Int := signed 64 (beNat (slice b 8 8))
def ptpSource (b : List Byte) : List Byte := slice b 20 10
def ptpSeq (b : List Byte) : Nat := beNat (slice b 30 2)
def ptpStamp (b : List Byte) : Nat := beNat (slice b 34 6) * unitS + beNat (slice b 40 4) * unitNs

/-- The requestingPortIdentity of a response. -/
def ptpRequester (b : List Byte) : List Byte := slice b 44 10

/-- Whether a message is one of this port's domain and version. -/
def State.ptpMine (s : State) (b : List Byte) : Bool :=
  decide (34 ≤ b.length) && beNat (slice b 1 1) % 16 == 2 && beNat (slice b 4 1) == s.ctl.timeCfg.ptp.domain

/-- A timestamp: seconds and nanoseconds. -/
def stampBytes (t : Nat) : List Byte := beBytes 6 (t / unitS) ++ beBytes 4 (t % unitS / unitNs)

/-- A message of a port: header and content. `flags`: the two octets of flagField. -/
def State.ptpMsg (s : State) (p type flags : Nat) (corr : Int) (seq : Nat) (logInt : Int) (content : List Byte) : List Byte :=
  let control : Nat := if type = 0 then 0 else if type = 1 then 1 else if type = 8 then 2 else if type = 9 then 3 else 5
  beBytes 1 type ++ beBytes 1 0x12 ++ beBytes 2 (34 + content.length) ++ beBytes 1 s.ctl.timeCfg.ptp.domain ++ zeros 1 ++
    beBytes 2 flags ++ beInt 8 corr ++ zeros 4 ++ portIdentity p ++ beBytes 2 seq ++ beBytes 1 control ++ beInt 1 logInt ++ content

/-- Ones' complement sum of 16-bit words. -/
def onesSum (l : List Nat) : Nat := l.foldl (fun a w => let t := a + w; if 65536 ≤ t then t - 65535 else t) 0

/-- The 16-bit words of bytes, most significant byte first. -/
def wordsOf (b : List Byte) : List Nat := (List.range (ceilDiv b.length 2)).map fun k => beNat (slice b (2 * k) 2)

/-- CRC-32 of IEEE 802.3, the Ethernet FCS. -/
def fcsBit (c : Nat) : Nat := if c.testBit 0 then (c >>> 1) ^^^ 0xEDB88320 else c >>> 1

def fcsOf (b : List Byte) : Nat :=
  b.foldl (fun c x => fcsBit (fcsBit (fcsBit (fcsBit (fcsBit (fcsBit (fcsBit (fcsBit (c ^^^ x.toNat))))))))) 0xFFFFFFFF ^^^ 0xFFFFFFFF

/-- The source address of a port's messages by transport: its IPv4 or IPv6 address of FED.PORT, or its MAC address, the base MAC address
plus the port (R212, R399). -/
def State.ptpAddr (s : State) (p transport : Nat) : List Byte :=
  let c := s.cfg.fed.ports.getD p SitePort.factory
  if transport = 0 then c.ipv4 else if transport = 1 then c.ipv6 else beBytes 6 (Config.mac.toNat + p)

/-- The multicast address to which a message goes: that of peer-delay messages, or that of all others. -/
def ptpGroup (transport type : Nat) : List Byte :=
  let peer : Bool := type == 2 || type == 3 || type == 10
  if transport = 0 then [224, 0, if peer then 0 else 1, if peer then 107 else 129]
  else if transport = 1 then [0xFF, if peer then 0x02 else 0x0E] ++ zeros 12 ++ [if peer then 0 else 1, if peer then 0x6B else 0x81]
  else if peer then [0x01, 0x80, 0xC2, 0, 0, 0x0E] else [0x01, 0x1B, 0x19, 0, 0, 0]

/-- The UDP datagram of a message, with its checksum over the pseudo-header, ports 319 of event messages and 320 of others. -/
def udpOf (src dst : List Byte) (body : List Byte) : Nat × List Byte :=
  let port : Nat := if ptpType body ≤ 3 then 319 else 320
  let head := beBytes 2 port ++ beBytes 2 port ++ beBytes 2 (8 + body.length)
  let sum := 65535 - onesSum (wordsOf (src ++ dst) ++ [17, 8 + body.length] ++ wordsOf head ++ wordsOf body)
  (if sum = 0 then 65535 else sum, head ++ beBytes 2 (if sum = 0 then 65535 else sum) ++ body)

/-- The Ethernet frame of a message that a port sends, but for its FCS, and its UDP checksum, 0 over 802.3. -/
def State.ptpFrame (s : State) (p : Nat) (body : List Byte) : Nat × List Byte :=
  let x := s.ctl.timeCfg.ptp.transport
  let src := s.ptpAddr p x
  let dst := ptpGroup x (ptpType body)
  let mac := beBytes 6 (Config.mac.toNat + p)
  if x = 2 then (0, dst ++ mac ++ [0x88, 0xF7] ++ body)
  else if x = 0 then
    let (sum, udp) := udpOf src dst body
    let head := [0x45, 0] ++ beBytes 2 (20 + udp.length) ++ zeros 4 ++ [1, 17]
    let check := 65535 - onesSum (wordsOf (head ++ src ++ dst))
    (sum, [0x01, 0x00, 0x5E] ++ (dst.drop 1) ++ mac ++ [0x08, 0x00] ++ head ++ beBytes 2 check ++ src ++ dst ++ udp)
  else
    let (sum, udp) := udpOf src dst (body ++ zeros 2)
    (sum, [0x33, 0x33] ++ dst.drop 12 ++ mac ++ [0x86, 0xDD] ++ [0x60, 0, 0, 0] ++ beBytes 2 udp.length ++ [17, 1] ++ src ++ dst ++ udp)

/-- A PTP message of a port goes out over the transport set, from the port's address, with the UDP checksum and the FCS of its frame as it is
sent, time stamp included (R212, R215). -/
def ptpSend (p : Nat) (body : List Byte) (s : State) : State :=
  let x := s.ctl.timeCfg.ptp.transport
  let f := s.ptpFrame p body
  { s with out.site := s.out.site ++ [⟨3, p, ptpType body, f.1, fcsOf f.2, x, s.ptpAddr p x ++ body⟩] }

/-- A message that passes the transparent clock goes out with its UDP checksum; its FCS is recomputed over headers that the row does not give:
a free value (log 39). -/
def ptpPass (p sum : Nat) (body : List Byte) (s : State) : State :=
  let (k, s) := s.draw
  { s with out.site := s.out.site ++
    [⟨4, p, ptpType body, sum, Config.sense 0x5040 k % 2 ^ 32, s.ctl.timeCfg.ptp.transport, body⟩] }

/-! ### Time stamps (R214) -/

/-- The fixed latency of a port between its MII boundary and the pads, in ns: a constant of the module (log 39). -/
def portLatency (p : Nat) (tx : Bool) : Nat := Config.sense (0x5030 + 2 * p + b2n tx) 0

/-- The time stamp of an event message that passes the MII boundary now: PTB to 0.8 ns, referred to the pad or the line side by the port's
latency and the integrator's, later for one sent and earlier for one received. -/
def State.eventStamp (s : State) (p : Nat) (tx : Bool) : Nat :=
  let t := s.ctl.time.ptb.getD 0 * 5 / 262144 * 262144 / 5
  let c := s.ptpSet p
  if tx then t + (portLatency p true + c.txLat) * unitNs else t - (portLatency p false + c.rxLat) * unitNs

/-- delayAsymmetry of a port in 2^-16 ns. -/
def State.asymmetry (s : State) (p : Nat) : Int := (s.ptpSet p).asym * 65536 / 1000

/-! ### The servo (R217) -/

/-- PTB is steered by the servo: a step from 1 µs on; below it, the part of the offset that a first-order loop of servo_mhz takes in one Sync
interval is slewed out over that interval. DESIGN CHOICE (log 159). -/
def steerPtb (p : Nat) (offset : Int) (s : State) : State :=
  if unitUs ≤ offset.natAbs then
    (s.modValues fun v => { v with ptb := moved (-offset) v.ptb }).modTime fun r => { r with ptbLeft := 0, ptbRate := 0, ptbRem := 0 }
  else
    let t : Rat := (2 : Rat) ^ (s.ptpSet p).logSync
    let part := roundRat (offset * min 1 (2 * halfTurn * mkRat s.ctl.timeCfg.ptp.servo 1000 * t))
    s.modTime fun r =>
      { r with ptbLeft := part, ptbRate := (part.natAbs * 1000000000000 / (t * unitS)).ceil.toNat, ptbRem := 0 }

/-- What a Sync, with its origin time `t1` and correction, gives a slave port: the offset of PTB, after which PTB is steered. A PTB that has
no value takes the master's. -/
def syncDone (p : Nat) (t1 t2 : Nat) (corr : Int) (s : State) : State :=
  let x := s.ptpPort p
  let raw : Int := (t2 : Int) - t1 - corr
  let s := s.modPtp p fun x => { x with state := .slave, syncs := x.syncs + 1, lastSync := some raw, waitSync := none }
  if s.ctl.time.ptb.isNone then
    s.modValues fun v => { v with ptb := some (t1 + corr + x.pathDelay + x.peerDelay).toNat }
  else steerPtb p (raw - (if (s.ptpSet p).delayMech = 1 then x.peerDelay else x.pathDelay)) s

/-! ### Event messages (R214, R215) -/

/-- A Sync from the port's parent. -/
def rxSync (p t2 : Nat) (b : List Byte) (s : State) : State :=
  let x := s.ptpPort p
  let corr := ptpCorr b + s.asymmetry p
  if x.state ≠ .slave ∧ x.state ≠ .uncalibrated then s
  else if ptpTwoStep b then s.modPtp p fun x => { x with waitSync := some (ptpSeq b, t2, corr) }
  else syncDone p (ptpStamp b) t2 corr s

/-- A Delay_Req: a master answers with Delay_Resp. -/
def rxDelayReq (p t4 : Nat) (b : List Byte) (s : State) : State :=
  if (s.ptpPort p).state = .master ∧ (s.ptpSet p).delayMech = 0 then
    ptpSend p (s.ptpMsg p 9 0 (ptpCorr b) (ptpSeq b) (s.ptpSet p).logDelay (stampBytes t4 ++ ptpSource b)) s
  else s

/-- A Pdelay_Req: one-step operation writes the turnaround into the correctionField of the response, two-step sends it after. -/
def rxPdelayReq (p t2 : Nat) (b : List Byte) (s : State) : State :=
  if (s.ptpSet p).delayMech = 0 then s
  else
    let t3 := s.eventStamp p true
    let s := countEvents 0x0A01 none 1 s
    if (s.ptpSet p).oneStep = 1 then
      ptpSend p (s.ptpMsg p 3 0 (ptpCorr b + ((t3 : Int) - t2)) (ptpSeq b) 0x7F (stampBytes 0 ++ ptpSource b)) s
    else
      let resp := s.ptpMsg p 3 0x200 0 (ptpSeq b) 0x7F (stampBytes t2 ++ ptpSource b)
      ptpSend p (s.ptpMsg p 10 0 (ptpCorr b) (ptpSeq b) 0x7F (stampBytes t3 ++ ptpSource b)) (ptpSend p resp s)

/-- A Pdelay_Resp to the port's last request: one-step gives the peer delay at once. -/
def rxPdelayResp (p t4 : Nat) (b : List Byte) (s : State) : State :=
  match (s.ptpPort p).pdelayReq with
  | some (seq, t1) =>
    let corr := ptpCorr b + s.asymmetry p
    if (s.ptpSet p).delayMech = 0 ∨ seq ≠ ptpSeq b ∨ ptpRequester b ≠ portIdentity p then s
    else if ptpTwoStep b then s.modPtp p fun x => { x with waitPdelay := some (seq, (t4 : Int) - t1 - corr + ptpStamp b) }
    else s.modPtp p fun x => { x with peerDelay := ((t4 : Int) - t1 - corr) / 2, pdelayReq := none }
  | none => s

/-- A received event message is time-stamped and handled (R214); peer delay also where the port has no clock of its own (R213). -/
def execPtpEventMessageRx (port : Nat) (body : List Byte) (s : State) : Host.Outcome State Fault Refusal :=
  let s := countEvents 0x0B01 none 1 s
  let type := ptpType body
  if !(s.ptpOn port || (s.peerOn port && 2 ≤ type)) ∨ !s.ptpMine body then .next s
  else
    let s := countEvents 0x0A01 none 1 s
    let t := s.eventStamp port false
    .next (if type = 0 then rxSync port t body s else if type = 1 then rxDelayReq port t body s
      else if type = 2 then rxPdelayReq port t body s else if type = 3 then rxPdelayResp port t body s else s)

/-- A Sync goes out: one-step writes its time stamp into originTimestamp, two-step sends it in a Follow_Up. -/
def txSync (p : Nat) (s : State) : State :=
  let x := s.ptpPort p
  let c := s.ptpSet p
  let t := s.eventStamp p true
  let s := s.modPtp p fun x => { x with seqSync := (x.seqSync + 1) % 65536 }
  if c.oneStep = 1 then ptpSend p (s.ptpMsg p 0 0 0 x.seqSync c.logSync (stampBytes t)) s
  else ptpSend p (s.ptpMsg p 8 0 0 x.seqSync c.logSync (stampBytes t))
    (ptpSend p (s.ptpMsg p 0 0x200 0 x.seqSync c.logSync (stampBytes 0)) s)

/-- A Delay_Req or Pdelay_Req goes out, and its time stamp is kept. -/
def txRequest (p type : Nat) (s : State) : State :=
  let x := s.ptpPort p
  let t := s.eventStamp p true
  let corr := -s.asymmetry p
  if type = 1 then
    ptpSend p (s.ptpMsg p 1 0 corr x.seqDelay 0x7F (stampBytes 0))
      (s.modPtp p fun x => { x with seqDelay := (x.seqDelay + 1) % 65536, delayReq := some (x.seqDelay, t) })
  else
    ptpSend p (s.ptpMsg p 2 0 corr x.seqPdelay 0x7F (stampBytes 0 ++ zeros 10))
      (s.modPtp p fun x => { x with seqPdelay := (x.seqPdelay + 1) % 65536, pdelayReq := some (x.seqPdelay, t) })

/-- clockAccuracy: the smallest code of IEEE 1588-2019 whose bound holds the error, 0xFE above 10 ms. Bounds in 0.1 ps, from code
0x17: 1 and 2.5 of a decade up to 1 ns, 2.5 ns, 10 ns, and so on. -/
def clockAccuracy (s : State) : Nat :=
  if s.vol.time.state = .invalid then 0xFE
  else
    let bounds : List Nat := ([1, 2, 3, 4, 5, 6, 7, 8, 9, 10, 11] : List Nat).flatMap fun k => [10 ^ k, 25 * 10 ^ (k - 1)]
    match bounds.findIdx? fun b => decide (s.estNow * 10000 ≤ b * unitNs) with
    | some k => if s.estNow ≤ 10000000 * unitNs then 0x17 + k else 0xFE
    | none => 0xFE

/-- clockClass of Table Time-3; 255 for a slave-only side (R217). -/
def State.clockClass (s : State) : Nat :=
  if s.ctl.timeCfg.ptp.ptbSource = 1 then 255
  else match s.vol.time.state with
    | .locked => 6
    | .fenLocked => 6
    | .holdoverA => 7
    | .holdoverB => 7
    | .returning => 7
    | .holdoverC => 52
    | .restored => 52
    | .invalid => 248

/-- What the side announces: priority1, clockClass, clockAccuracy, variance (the manual states none), priority2, identity. -/
def State.ownDataset (s : State) : List Nat :=
  [s.ctl.timeCfg.ptp.priority1, s.clockClass, clockAccuracy s, Config.sense 0x5007 0 % 65536, s.ctl.timeCfg.ptp.priority2,
   beNat clockIdentity]

/-- timeSource of Table Time-3: GNSS, or the internal oscillator. -/
def State.timeSource (s : State) : Nat := if s.vol.time.state.disciplined then 0x20 else 0xA0

/-- flagField of an Announce: leap flags and currentUtcOffset from the table of R195, the PTP timescale, and traceability while disciplined
or in holdover within 1 µs. Bit 0 leap61, 1 leap59, 2 currentUtcOffsetValid, 3 ptpTimescale, 4 timeTraceable, 5
frequencyTraceable. -/
def State.announceFlags (s : State) : Nat :=
  let t := s.leap
  let soon := s.leapPending s.stbSecond && decide (t.changeAt ≤ s.stbSecond + 43200)
  let trace := s.vol.time.state.disciplined || s.vol.time.state == .holdoverA || s.vol.time.state == .holdoverB
  b2n (soon && decide (t.taiUtc < t.next)) + 2 * b2n (soon && decide (t.next < t.taiUtc)) + 4 + 8 + 16 * b2n trace + 32 * b2n trace

/-- The TLV that the power profile requires in an Announce: identity of the grandmaster, a value of the installation (log 39), and the total
time inaccuracy in ns. PRESUMED from IEEE C37.238-2017 (log 47). -/
def State.powerTlv (s : State) : List Byte :=
  beBytes 2 3 ++ beBytes 2 18 ++ [0x1C, 0x12, 0x9D, 0, 0, 2] ++ beBytes 2 (Config.sense 0x5008 0 % 65536) ++ zeros 4 ++
    beBytes 4 s.estNs ++ zeros 2

/-- The Announce of a master port (R217): its own data set, timeSource and the UTC offset. -/
def State.announce (s : State) (p : Nat) : List Byte :=
  let d := s.ownDataset
  s.ptpMsg p 11 s.announceFlags 0 (s.ptpPort p).seqAnn (s.ptpSet p).logAnn
    (stampBytes 0 ++ beBytes 2 (s.leap.value s.stbSecond) ++ zeros 1 ++ beBytes 1 (d.getD 0 0) ++ beBytes 1 (d.getD 1 0) ++
      beBytes 1 (d.getD 2 0) ++ beBytes 2 (d.getD 3 0) ++ beBytes 1 (d.getD 4 0) ++ clockIdentity ++ beBytes 2 0 ++
      beBytes 1 s.timeSource ++ if s.ctl.timeCfg.ptp.profile = 1 then s.powerTlv else [])

/-- The Announce of a port that is due: a master sends one in each announce interval. It has no row: it goes out before the event message
at which it is due. DESIGN CHOICE (log 159). -/
def announceDue (p : Nat) (s : State) : State :=
  let x := s.ptpPort p
  let due := match x.announced with
    | some t => decide (t + tickS * 2 ^ (s.ptpSet p).logAnn ≤ s.mtb)
    | none => true
  if !s.ptpOn p ∨ x.state ≠ .master ∨ !due then s
  else
    let now := s.mtb
    ptpSend p (s.announce p) (s.modPtp p fun x => { x with announced := some now, seqAnn := (x.seqAnn + 1) % 65536 })

/-- A PTP event message of a port is sent (R214, R215): 0 Sync of a master, 1 Delay_Req, 2 Pdelay_Req. -/
def execPtpEventMessageTx (port msgType : Nat) (s : State) : Host.Outcome State Fault Refusal :=
  let s := announceDue port s
  let x := s.ptpPort port
  let c := s.ptpSet port
  let may := (msgType = 0 ∧ x.state = .master) ∨
    (msgType = 1 ∧ c.delayMech = 0 ∧ (x.state = .slave ∨ x.state = .uncalibrated)) ∨ (msgType = 2 ∧ c.delayMech = 1)
  if !(s.ptpOn port || (s.peerOn port && msgType == 2)) ∨ ¬may then .next s
  else
    let s := countEvents 0x0A01 none 1 s
    .next (if msgType = 0 then txSync port s else txRequest port msgType s)

/-! ### Transparent clock (R216) -/

/-- `correctionField` of a message, 8 bytes at offset 8, with an addition. -/
def addCorrection (d : Int) (body : List Byte) : List Byte :=
  if body.length < 16 then body
  else body.take 8 ++ beInt 8 (signed 64 (beNat ((body.drop 8).take 8)) + d) ++ body.drop 16

/-- The 16-bit words of correctionField. -/
def corrWords (b : List Byte) : List Nat := (List.range 4).map fun k => beNat (slice b (8 + 2 * k) 2)

/-- The UDP checksum of a message whose correctionField changes, updated by its words: always over IPv6, over IPv4 when it is non-zero,
and none over 802.3 (transport 0 to 2). -/
def udpSum (transport sum : Nat) (old new : List Byte) : Nat :=
  if transport = 2 ∨ (transport = 0 ∧ sum = 0) then sum
  else 65535 - onesSum ([65535 - sum] ++ ((corrWords old).map fun w => 65535 - w) ++ corrWords new)

/-- A message passes the transparent clock, from `port` to the other: the residence time and in mode 4 the ingress peer delay are added, and the
asymmetry of the ingress port to what it received, of the egress port from a request (R214, R216). `sum` is its UDP checksum. -/
def execPtpTransparentPass (port : Nat) (residence sum : Nat) (body : List Byte) (s : State) : Host.Outcome State Fault Refusal :=
  let s := countEvents 0x0B01 none 1 s
  let m := s.ctl.timeCfg.ptp.mode
  if (m ≠ 3 ∧ m ≠ 4) ∨ 2 ≤ port ∨ !(s.ptpSet port).enable then .next s
  else
    let type := ptpType body
    if 3 < type then .next (ptpPass (1 - port) sum body s)
    else
      let asym := if type = 0 ∨ type = 3 then s.asymmetry port else -s.asymmetry (1 - port)
      let d : Int := residence + (if m = 4 then (s.ptpPort port).peerDelay else 0) + asym
      let out := addCorrection d body
      .next (countEvents 0x0A01 none 2 (ptpPass (1 - port) (udpSum s.ctl.timeCfg.ptp.transport sum body out) out s))

/-! ### The best master clock algorithm (R212) -/

/-- Lexicographic order of data sets, the lower the better. -/
def datasetLt : List Nat → List Nat → Bool
  | [], [] => false
  | [], _ => true
  | _, [] => false
  | a :: l, b :: m => decide (a < b) || (a == b && datasetLt l m)

/-- The better of two announcing clocks: by data set, then by steps removed. -/
def clockLt (a b : List Nat × Nat) : Bool := datasetLt a.1 b.1 || (a.1 == b.1 && decide (a.2 < b.2))

/-- The states that the best master clock algorithm gives the ports. A port that is initialising or listening and has heard no master listens
until its own receipt timeout. -/
def runBmca (s : State) : State :=
  let best := fun p => (s.ptpPort p).bestGm
  let other := fun p => best (1 - p)
  let wins := fun p => match best p, other p with
    | some a, some b => !clockLt b a || (p == 0 && a == b)
    | some _, none => true
    | none, _ => false
  let own := s.ownDataset
  let src := s.ctl.timeCfg.ptp.ptbSource
  let next := fun p : Nat => match best p with
    | none =>
      if src = 1 || (s.ptpPort p).state == .initializing || (s.ptpPort p).state == .listening then PtpState.listening else .master
    | some g =>
      if src = 1 then (if wins p then (if (s.ptpPort p).state = .slave then .slave else .uncalibrated) else .passive)
      else if datasetLt g.1 own then .passive else .master
  let s := (List.range 2).foldl (fun s p => if s.ptpOn p then s.modPtp p fun x => { x with state := next p } else s) s
  let gm := if src = 1 then (((List.range 2).find? fun p => wins p && s.ptpOn p).bind best).map fun g => beBytes 8 (g.1.getLastD 0)
    else none
  s.modTime fun r => { r with gmIdentity := gm.getD [] }

/-- The data set of an Announce (R212), and its steps removed. -/
def announceSet (b : List Byte) : List Nat × Nat :=
  ([beNat (slice b 47 1), beNat (slice b 48 1), beNat (slice b 49 1), beNat (slice b 50 2), beNat (slice b 52 1), beNat (slice b 53 8)],
   beNat (slice b 61 2))

/-- An Announce of a clock that is not this one: a foreign master qualifies by a second one within four announce intervals, and then feeds the
algorithm. -/
def rxAnnounce (port : Nat) (b : List Byte) (s : State) : State :=
  let g := announceSet b
  if b.length < 64 ∨ slice b 53 8 = clockIdentity ∨ 255 ≤ g.2 then s
  else
    let src := ptpSource b
    let now := s.mtb
    let x := s.ptpPort port
    let again := x.foreign.any fun f => f.1 == src && decide (now ≤ f.2 + 4 * tickS * 2 ^ (s.ptpSet port).logAnn)
    let s := s.modPtp port fun x => { x with foreign := (src, now) :: (x.foreign.filter fun f => f.1 != src).take 4 }
    if !again then s
    else runBmca (s.modPtp port fun x =>
      { x with bestGm := match x.bestGm with
          | some c => if clockLt g c ∨ c.1.getLast? = g.1.getLast? then some g else some c
          | none => some g })

/-- A Follow_Up to the Sync that waits for it. -/
def rxFollowUp (port : Nat) (b : List Byte) (s : State) : State :=
  match (s.ptpPort port).waitSync with
  | some (seq, t2, corr) => if seq = ptpSeq b then syncDone port (ptpStamp b) t2 (corr + ptpCorr b) s else s
  | none => s

/-- A Delay_Resp to the port's last request: the mean path delay. -/
def rxDelayResp (port : Nat) (b : List Byte) (s : State) : State :=
  match (s.ptpPort port).delayReq, (s.ptpPort port).lastSync with
  | some (seq, t3), some d =>
    if seq ≠ ptpSeq b ∨ ptpRequester b ≠ portIdentity port ∨ (s.ptpSet port).delayMech ≠ 0 then s
    else s.modPtp port fun x =>
      { x with pathDelay := (d + ((ptpStamp b : Int) - t3 - ptpCorr b)) / 2, delayReq := none }
  | _, _ => s

/-- A Pdelay_Resp_Follow_Up to the response that waits for it: the peer delay. -/
def rxPdelayFollowUp (port : Nat) (b : List Byte) (s : State) : State :=
  match (s.ptpPort port).waitPdelay with
  | some (seq, d) =>
    if seq ≠ ptpSeq b ∨ ptpRequester b ≠ portIdentity port then s
    else s.modPtp port fun x => { x with peerDelay := (d - ptpStamp b - ptpCorr b) / 2, pdelayReq := none, waitPdelay := none }
  | none => s

/-- An Announce or another general message arrives (R212, R217). -/
def execPtpAnnounceReceived (port : Nat) (body : List Byte) (s : State) : Host.Outcome State Fault Refusal :=
  let s := countEvents 0x0B01 none 1 s
  let type := ptpType body
  if !(s.ptpOn port || (s.peerOn port && type == 10)) ∨ !s.ptpMine body then .next s
  else
    .next (if type = 8 then rxFollowUp port body s else if type = 9 then rxDelayResp port body s
      else if type = 10 then rxPdelayFollowUp port body s else if type = 11 then rxAnnounce port body s else s)

/-- A port hears no master any more, or has heard none since it listens. -/
def execPtpAnnounceReceiptTimeout (port : Nat) (s : State) : Host.Outcome State Fault Refusal :=
  if !s.ptpOn port then .next s
  else .next (runBmca (s.modPtp port fun x => { x with bestGm := none, foreign := [], state := .preMaster }))

/-- Every enabled port passes through the initialising state (R218, TIME.PTP_CONFIG). -/
def restartPtp (s : State) : State :=
  let s := (List.range 2).foldl (fun s p => s.modPtp p fun _ =>
    { PtpPort.start with state := if s.ptpOn p then .initializing else .disabled }) s
  s.modTime fun r => { r with gmIdentity := [], ptbLeft := 0, ptbRate := 0, ptbRem := 0 }

/-! ### Opcodes -/

def runTimeConfig (c : HostCmd) (s : State) : CmdResult :=
  let ps := c.packet.params
  let slew := fld ps 12 2
  if (fld ps 0 1 = 1 ∨ fld ps 1 1 = 2) ∧ !s.vol.time.syncRef then .refuse erState 0
  else if s.ctl.timeCfg.atbSlew < slew ∧ s.ctl.conns ≠ [] then .refuse erState s.ctl.conns.length
  else
    .accepted { s with ctl.timeCfg := { s.ctl.timeCfg with
      holdoverRef := fld ps 0 1, refOut := fld ps 1 1, ppsOut := fld ps 2 1 = 1, ppsIn := fld ps 3 1 = 1,
      ppsWidth := fld ps 4 4, ppsDelay := sfld ps 8 4, atbSlew := slew, info := fld ps 14 1 = 1, lockHold := fld ps 15 1 } } []

def readPtpPort (ps : List Byte) (p : Nat) : PtpPortSettings :=
  let o := 8 + 16 * p
  { enable := fld ps o 1 = 1, delayMech := fld ps (o + 1) 1, oneStep := fld ps (o + 2) 1, logSync := sfld ps (o + 3) 1,
    logAnn := fld ps (o + 4) 1, annTimeout := fld ps (o + 5) 1, logDelay := sfld ps (o + 6) 1, txLat := fld ps (o + 8) 2,
    rxLat := fld ps (o + 10) 2, asym := sfld ps (o + 12) 4 }

def readPtp (ps : List Byte) : PtpSettings :=
  { mode := fld ps 0 1, profile := fld ps 1 1, domain := fld ps 2 1, ptbSource := fld ps 3 1, priority1 := fld ps 4 1,
    priority2 := fld ps 5 1, transport := fld ps 6 1, ports := [readPtpPort ps 0, readPtpPort ps 1], servo := fld ps 40 2 }

/-- The range errors of TIME.PTP_CONFIG, in its order. -/
def ptpError (c : PtpSettings) : Option Nat :=
  let port := fun p => c.ports.getD p PtpPortSettings.factory
  if c.profile = 1 ∧ c.transport ≠ 2 then some 6
  else if c.profile = 1 ∧ c.domain ≠ 254 ∨ c.profile = 0 ∧ c.domain = 254 then some 2
  else
    match (if c.profile = 1 ∨ c.mode = 4 then ([0, 1] : List Nat).find? fun p => (port p).delayMech == 0 else none) with
    | some p => some (9 + 16 * p)
    | none =>
      match (if 2 ≤ c.mode then ([0, 1] : List Nat).find? fun p => !(port p).enable else none) with
      | some p => some (8 + 16 * p)
      | none => if c.mode = 1 ∧ (port 1).enable then some 24 else none

def runTimePtpConfig (cmd : HostCmd) (s : State) : CmdResult :=
  let c := readPtp cmd.packet.params
  match ptpError c with
  | some o => .refuse erRange o
  | none =>
    match ([0, 1] : List Nat).find? fun p =>
        (c.ports.getD p PtpPortSettings.factory).enable && !(s.cfg.fed.ports.getD p SitePort.factory).enable with
    | some p => .refuse erState p
    | none => .accepted (restartPtp (ptbFollows { s with ctl.timeCfg := { s.ctl.timeCfg with ptp := c } })) []

def runTimeLeap (c : HostCmd) (s : State) : CmdResult :=
  let ps := c.packet.params
  let t : LeapTable := ⟨fld ps 0 1, fld ps 1 1, fld ps 2 6⟩
  let past : Bool := match s.ctl.time.stb with
    | some x => decide (t.changeAt * unitS ≤ x)
    | none => false
  if (t.changeAt ≠ 0 ∧ (past ∨ (t.next ≠ t.taiUtc + 1 ∧ t.taiUtc ≠ t.next + 1))) ∨
      (t.changeAt = 0 ∧ t.next ≠ t.taiUtc) then .refuse erRange 2
  else
    let s := { s with ctl.timeCfg := { s.ctl.timeCfg with leapHost := some t } }
    .accepted s (leBytes 1 (b2n s.vol.time.decoded.isSome) ++ leBytes 1 (s.leap.value s.stbSecond) ++ zeros 2)

def ptpCode : PtpState → Nat
  | .initializing => 1
  | .faulty => 2
  | .disabled => 3
  | .listening => 4
  | .preMaster => 5
  | .master => 6
  | .passive => 7
  | .uncalibrated => 8
  | .slave => 9

/-- A difference of two time values in ns, 0 while either is invalid. -/
def diffNs (a b : Option Nat) : Int :=
  match a, b with
  | some a, some b => ((a : Int) - b) / unitNs
  | _, _ => 0

/-- ATB − STB within the superframe, in ns. -/
def State.atbPhaseNs (s : State) : Int :=
  let d := diffNs s.ctl.time.atb s.ctl.time.stb
  (d + 1000000) % 2000000 - 1000000

def runTimeStatus (_ : HostCmd) (s : State) : CmdResult :=
  let r := s.vol.time
  let t := s.ctl.time
  let seen := match r.ppsInAt with
    | some a => decide (s.mtb ≤ a + 2 * tickS)
    | none => false
  let ref := if r.state.holdover then r.refInUse else b2n (s.ctl.timeCfg.holdoverRef == 1 && r.syncRef)
  let hold := if r.state.holdover then sat 32 ((s.mtb - r.enteredAt) / tickS) else 0
  .ok s (leBytes 1 (stbCode r.state) ++ leBytes 1 ref ++
    leBytes 1 (b2n s.atbAligned + 2 * b2n r.pending.isSome + 4 * b2n r.syncRef + 8 * b2n seen +
      16 * b2n (s.leapPending s.stbSecond)) ++
    leBytes 1 (s.leap.value s.stbSecond) ++ leBytes 4 s.estNs ++ leBytes 4 hold ++ leInt 4 s.atbPhaseNs ++
    leInt 4 (clampInt (-2147483648) 2147483647 t.atbOffsetSf) ++ leInt 8 (diffNs t.ptb t.stb) ++ leInt 4 r.ppsInPs ++
    leBytes 1 (ptpCode (s.ptpPort 0).state) ++ leBytes 1 (ptpCode (s.ptpPort 1).state) ++ zeros 2 ++
    (if r.gmIdentity = [] then clockIdentity else r.gmIdentity))

def runTimeRead (_ : HostCmd) (s : State) : CmdResult :=
  .ok s (timeBytes s.ctl.time.stb ++ timeBytes s.ctl.time.ptb ++ timeBytes s.ctl.time.atb ++ leBytes 8 s.mtbNs)

def execTimeConfig (p : Packet) (s : State) : Host.Outcome State Fault Refusal := .next (serve 0x0501 runTimeConfig p s)
def execTimePtpConfig (p : Packet) (s : State) : Host.Outcome State Fault Refusal :=
  .next (serve 0x0502 runTimePtpConfig p s)
def execTimeLeap (p : Packet) (s : State) : Host.Outcome State Fault Refusal := .next (serve 0x0503 runTimeLeap p s)
def execTimeStatus (p : Packet) (s : State) : Host.Outcome State Fault Refusal := .next (serve 0x0504 runTimeStatus p s)
def execTimeRead (p : Packet) (s : State) : Host.Outcome State Fault Refusal := .next (serve 0x0505 runTimeRead p s)

end Sys2Proof.Machine
end

