-- ==== Sys2Proof/Machine/Store.lean ====
section
/-! DEFINITION.
Firmware slots and their flags (R467 to R470), and the generations of the configuration store (R476 to R479), as every
part of the module uses them.
-/

namespace Sys2Proof.Machine

/-! ### Slot flags (R467) -/

/-- The newest copy of the slot flags. -/
def Firmware.flags (f : Firmware) : FlagsCopy := if f.flagsA.seq < f.flagsB.seq then f.flagsB else f.flagsA

/-- A flags write goes to the older copy, with the next sequence number. -/
def Firmware.writeFlags (g : FlagsCopy → FlagsCopy) (f : Firmware) : Firmware :=
  let n := { g f.flags with seq := f.flags.seq + 1 }
  if f.flagsA.seq < f.flagsB.seq then { f with flagsA := n } else { f with flagsB := n }

def Firmware.slot (f : Firmware) (k : Nat) : SlotImage := if k = 0 then f.slot0 else f.slot1

def Firmware.modSlot (f : Firmware) (k : Nat) (g : SlotImage → SlotImage) : Firmware :=
  if k = 0 then { f with slot0 := g f.slot0 } else { f with slot1 := g f.slot1 }

/-- The slot that is not the active one. -/
def Firmware.inactive (f : Firmware) : Nat := 1 - f.flags.active

/-- The image that runs. -/
def Firmware.image (f : Firmware) : SlotImage := f.slot f.running

/-- The slot that the flags will boot next at a module start (R467, R474). -/
def Firmware.nextSlot (f : Firmware) : Nat := if f.flags.trial = .pending then f.flags.trialSlot else f.flags.active

/-- Whether the running image is a trial image that is not confirmed. -/
def Firmware.onTrial (f : Firmware) : Bool := f.flags.trial == .booted && f.running == f.flags.trialSlot

/-- Trial state none. -/
def Firmware.endTrial (f : Firmware) : Firmware := f.writeFlags fun c => { c with trial := .none }

/-- Confirmation: active slot = trial slot and trial state none, in one write (R469). -/
def Firmware.confirm (f : Firmware) : Firmware := f.writeFlags fun c => { c with active := c.trialSlot, trial := .none }

/-! ### UPDATE.EVENT -/

/-- UPDATE.EVENT with its record (Table Rec-3). -/
def updateEvent (kind part version : Nat) (s : State) : State :=
  record 0x1101 part (leBytes 1 kind ++ zeros 3 ++ leBytes 4 version)
    (sendMsg 0x1180 (leBytes 1 kind ++ leBytes 1 part ++ zeros 2 ++ leBytes 4 version ++ leBytes 8 s.mtbNs) s)

/-! ### The configuration store (R476) -/

def State.modStore (s : State) (x : SideId) (f : ConfigStore → ConfigStore) : State :=
  s.modSide x fun d => { d with store := f d.store }

/-- The pages that a write needs: a free value (log 5). -/
def pagesNeeded (s : State) : Nat × State :=
  let (k, s) := s.draw
  (1 + Config.pages 2 k % 2046, s)

/-- A new current generation is committed by a directory write, which carries the highest epoch (R85, R476). What pages are
free afterwards is a free value (log 5). -/
def commitStore (x : SideId) (g : Generation) (s : State) : State :=
  let (k, s) := s.draw
  s.modStore x fun t =>
    { t with
      current := g, dirSeq := (t.dirSeq + 1) % 2 ^ 32, freePages := Config.pages 3 k % 2047
      epoch := max t.epoch s.hsw.epoch }

/-- The generation of the configuration in force (UPDATE.STORE, R477). -/
def State.generation (s : State) : Generation :=
  { cfg := some (s.cfg, s.ctl.timeCfg), hot := some s.ctl.hot, budget := some s.ctl.budget,
    budgetOp := s.act.recorder.opSeconds, budgetAt := s.clock, format := s.act.firmware.image.version }

/-- An automatic write of the active side (R84, R477): not made after R470, and reported when pages are too few. -/
def autoWrite (f : Generation → Generation) (s : State) : State :=
  let t := s.act.store
  if t.blocked then s
  else
    let (n, s) := pagesNeeded s
    if t.freePages < n then updateEvent 7 0 0 s else commitStore s.actId (f t.current) s

/-- The kept generation becomes current again, and the migrated one is discarded (R470, R471); the directory's epoch does
not go back (R476). -/
def ConfigStore.restoreKept (t : ConfigStore) : ConfigStore :=
  match t.kept with
  | some g => { t with current := g, kept := none, dirSeq := (t.dirSeq + 1) % 2 ^ 32 }
  | none => t

/-- Confirmation of a side's trial image (R469): flags, security floor and kept generation in one step. -/
def confirmSide (x : SideId) (s : State) : State :=
  let f := (s.side x).firmware
  let s := s.modSide x fun d =>
    { d with
      firmware := f.confirm, floor := max d.floor (f.slot f.flags.trialSlot).secVersion
      store := { d.store with kept := none } }
  updateEvent 3 2 (f.slot f.flags.trialSlot).version s

/-- The active side's trial image confirms itself once its self-test has passed and its heartbeat has started (R469). -/
def tryConfirm (s : State) : State :=
  if s.act.firmware.onTrial && s.vol.redun.selfTestOk && s.vol.redun.running && s.vol.redun.confirmFrom.isSome then
    confirmSide s.actId { s with vol.redun := { s.vol.redun with confirmFrom := none } }
  else s

/-- A trial ends without confirmation: trial state none, the kept generation current again, and no further write to the
store until the side's next start (R470). The kept accounting is charged at that start as R479 has it. -/
def dropTrial (x : SideId) (s : State) : State :=
  s.modSide x fun d =>
    { d with firmware := d.firmware.endTrial, store := { d.store.restoreKept with blocked := true } }

/-- The HOUSEKEEP item of a hot-start write. -/
def hotStartWork (s : State) : State := autoWrite (fun g => { g with hot := some s.ctl.hot }) s

def execHotStartWrite (s : State) : Host.Outcome State Fault Refusal :=
  if !s.act.mainOn || !s.hsw.serving then .next s else .next (workOn 11 0x883 0 .hotStartWrite hotStartWork s)

/-- The HOUSEKEEP item of a write of the budget accounting. -/
def budgetWork (s : State) : State :=
  autoWrite (fun g =>
    { g with budget := some s.ctl.budget, budgetOp := s.act.recorder.opSeconds, budgetAt := s.clock }) s

def execBudgetAccountingWrite (s : State) : Host.Outcome State Fault Refusal :=
  if !s.act.mainOn || !s.hsw.serving then .next s else .next (workOn 11 0x883 0 .budgetAccountingWrite budgetWork s)

end Sys2Proof.Machine
end

