-- ==== Sys2Proof/Machine/Redundancy.lean ====
section
/-! DEFINITION.
Redundancy: the checkpoint transfer (R423 to R427), self-diagnosis (R429), planned handover (R435), and the opcodes of
chapter 18.
-/

namespace Sys2Proof.Machine

/-! ### Checkpoints -/

/-- MTB reaches the next whole multiple of P: time passes to it, and the snapshot is taken or waits (R423). A final snapshot
that is taken or due is the last. -/
def execCheckpointSnapshot (s : State) : Host.Outcome State Fault Refusal :=
  let r := s.vol.redun
  let final : Bool := match r.handover with
    | some h => h.final
    | none => false
  if !r.running || final || r.relinquish.isSome then .next s
  else
    let p := max 1 r.period * tickMs
    let s := passTicks ((s.mtb / p + 1) * p - s.mtb) s
    .next (snapshotOrWait false s)

/-- The durable completion of one command (R107): the reply data again. -/
def durable (seq : Nat) (f : InFlight) (s : State) : State :=
  let s := s.modSess f.cmd.session fun x =>
    { x with inFlight := x.inFlight.filter fun g => g.cmd.fetchSeq != f.cmd.fetchSeq }
  post f.cmd.packet.via (cmdEntry f.cmd 2 seq false f.reply) s

/-- The commands that a checkpoint contains and that await their durable completion, in fetch order of each session. -/
def State.awaiting (s : State) (covers : List (Nat × Nat)) : List InFlight :=
  (List.range s.hsw.sessions.length).flatMap fun n =>
    ((s.sess n).inFlight.filter fun f => f.phase == .awaitingDurable && covers.contains (n, f.cmd.fetchSeq)).mergeSort
      fun a b => decide (a.cmd.fetchSeq ≤ b.cmd.fetchSeq)

/-- The commands of a checkpoint that have still to complete have it noted: their durable completions follow them (R107). -/
def keepEffected (seq : Nat) (covers : List (Nat × Nat)) (s : State) : State :=
  { s with hsw.sessions := s.hsw.sessions.mapIdx fun n x =>
      { x with inFlight := x.inFlight.map fun f =>
          if f.phase = .effected ∧ covers.contains (n, f.cmd.fetchSeq) ∧ f.kept = none then { f with kept := some seq } else f } }

/-- The sink keeps the two newest committed checkpoints (R424). -/
def CkptArea.put (c : Checkpoint) (now : Nat) (a : CkptArea) : CkptArea :=
  { newest := some c, newestAt := now, previous := a.newest, prevAt := a.newestAt }

/-- The final checkpoint of a planned handover has committed: its command completes (R435 step 5). -/
def handoverCommitted (c : Checkpoint) (s : State) : State :=
  match s.vol.redun.handover with
  | none => s
  | some h =>
    finish h.cmd 0 0 (leBytes 4 c.seq ++ leBytes 2 h.moving)
      { s with vol.redun.handover := some { h with posted := true } }

/-- The commit of the checkpoint in transfer (R424): completions follow, and a snapshot that waited is taken (R423). -/
def commitCheckpoint (c : Checkpoint) (s : State) : State :=
  let r := s.vol.redun
  let c := c.seal s.mtb s.ckptKey
  let s := s.modSide s.otherId fun d => { d with ckpts := d.ckpts.put c s.clock }
  let s := { s with vol.redun := { r with
    transfer := none, coversCmds := [], ckptCmdsOn := [], commits := satInc 32 r.commits, lastPages := c.pages } }
  let s := keepEffected c.seq r.coversCmds ((s.awaiting r.coversCmds).foldl (fun s f => durable c.seq f s) s)
  let s := r.ckptCmdsOn.foldl (fun s k => finish k 0 0 (leBytes 4 c.seq ++ leBytes 2 c.pages) s) s
  if c.final then handoverCommitted c s
  else if s.vol.redun.due && s.canSnapshot then
    takeSnapshot (match s.vol.redun.handover with
      | some h => h.final
      | none => false) s
  else s

/-- The transfer ends with its commit; it cannot before a core has assembled the checkpoint (R354, R357). -/
def execCheckpointCommit (s : State) : Host.Outcome State Fault Refusal :=
  match s.vol.redun.transfer with
  | none => .next s
  | some c => if (s.flow 0x881).items.isEmpty then .next (commitCheckpoint c s) else .next s

/-! ### Self-diagnosis (Table Redun-2) -/

def execLockstepMismatch (s : State) : Host.Outcome State Fault Refusal :=
  if s.actOn then .next (relinquish 1 s) else .next s

/-- The watchdog of R69: hardware stops the heartbeats and asserts HANDOVER_N at once. -/
def execSupervisorWatchdogExpiry (s : State) : Host.Outcome State Fault Refusal :=
  if s.actOn then .next (relinquish 8 s) else .next s

/-- Data whose word `w` of the packet's chain reads as zero; word 0 is the length word (R372, R380). -/
def zeroWord (w : Nat) (bs : List Byte) : List Byte := bs.mapIdx fun k b => if 8 * w ≤ k + 8 ∧ k + 8 < 8 * w + 8 then 0 else b

/-- A packet marked POISON, with a word of its chain that is lost: it reads as zero, the fields of the length word too (R380). -/
def PeatPacket.poisoned (w : Nat) (p : PeatPacket) : PeatPacket :=
  if w = 0 then { p with poison := true, node := 0, kind := 0, lost := false, trunc := false }
  else { p with poison := true, data := zeroWord w p.data }

/-- The packet of a queue that holds a cell, and the place of the cell in its chain. -/
def State.cellIn (s : State) (queue cell : Nat) : Option (PeatPacket × Nat) :=
  (s.queue queue).packets.findSome? fun p => ((s.chainOf p).findIdx? fun c => firstCell c == cell).map fun j => (p, j)

/-- A packet of a queue changes, in place, and is counted as poisoned unless it was before. -/
def modPacket (queue : Nat) (p : PeatPacket) (f : PeatPacket → PeatPacket) (s : State) : State :=
  s.modQueue queue fun q =>
    { q with
      poisoned := if p.poison then q.poisoned else satInc 16 q.poisoned
      packets := q.packets.map fun x => if x.cell = p.cell then f x else x }

/-- A double-bit error in words of one cell of a packet poisons it (R380). Which words of the cell these are is a free value (log 150). -/
def poisonPacket (words queue cell : Nat) (s : State) : State :=
  let s := { s with vol.peat.uncorrect := sat 32 (s.vol.peat.uncorrect + words) }
  match s.cellIn queue cell with
  | some (p, j) =>
    let (k, s) := s.draw
    modPacket queue p (fun x => (List.range (min 8 words)).foldl (fun x i => x.poisoned (8 * j + (Config.sense 0x62 k + i) % 8)) x) s
  | none => s

/-- The chain of a packet is cut after `n` cells: it keeps the data that they hold (R372, R381). -/
def PeatPacket.cut (n : Nat) (p : PeatPacket) : PeatPacket :=
  { p with trunc := true, poison := true, data := p.data.take (64 * n - 8) }

/-- Both copies of the link entry of a cell are uncorrectable: the chain that holds it is cut there, and what it loses comes back to the
pool with the next sweep (R381). One copy alone is used, and the other rewritten from it at the sweep. -/
def cutChain (queue cell : Nat) (s : State) : State :=
  match s.cellIn queue cell with
  | none => s
  | some (p, j) =>
    let cells := packetCells p.data.length
    let entry := ((s.chainOf p).drop j).head?.getD p.cell
    let s := modPacket queue p (PeatPacket.cut (j + 1)) s
    poolEvent 5 queue { s with vol.peat := { s.vol.peat with
      links := tput s.vol.peat.links entry ⟨⟨none, false⟩, ⟨none, false⟩⟩
      truncated := satInc 32 s.vol.peat.truncated, orphans := s.vol.peat.orphans + (cells - (j + 1)) } }

/-- One copy of the link entry of a cell is uncorrectable: the other is used (R381). -/
def loseCopy (queue cell : Nat) (s : State) : State :=
  match s.cellIn queue cell with
  | none => s
  | some (p, j) =>
    let entry := ((s.chainOf p).drop j).head?.getD p.cell
    let e := tgetD s.vol.peat.links entry (LinkEntry.whole none)
    { s with vol.peat.links := tput s.vol.peat.links entry (if e.copyA.good && e.copyB.good then { e with copyA := ⟨none, false⟩ } else e) }

/-- `words` uncorrectable words in one memory: the SRAM partitions of Table Arch-4 in their order from 0, 8 the supervisor or Sluice memory,
9 the link memory of the pool (R371), of which two words are both copies of an entry, and from 10 the MRAM areas of Table Arch-5, whose
owners find the error when they read (R425, R467, R477, R488). -/
def memoryError (partition words queue cell : Nat) (s : State) : State :=
  let now := s.clock
  let new := if partition < 10 then List.replicate words now else []
  let at' := (new ++ s.vol.redun.eccAt).filter fun t => decide (now < t + 10 * tickS)
  let s := { s with vol.redun.eccAt := at'.take 64 }
  let s := if partition = 2 then poisonPacket words queue cell s else if partition = 9 then (if 2 ≤ words then cutChain queue cell s else loseCopy queue cell s) else s
  if partition = 8 || decide (s.cfg.redun.eccMax ≤ at'.length) then relinquish 2 s else s

def execUncorrectableMemoryError (partition words queue cell : Nat) (s : State) : Host.Outcome State Fault Refusal :=
  if !s.actOn ∨ words = 0 then .next s else .next (memoryError partition words queue cell s)

/-- Corrections have stayed withheld for gnss_fail_s since the grace of a run ended (cause 3). -/
def execGnssFailTimeout (s : State) : Host.Outcome State Fault Refusal :=
  let r := s.vol.redun
  let grace := !r.streamsOnce && decide (s.clock < r.hbAt + (60 + s.cfg.corr.watchdog.holdoffS) * tickS)
  if !s.actOn || !r.running || s.cfg.redun.gnssFailS == 0 || !s.vol.corr.withheld || grace then .next s
  else .next (relinquish 3 s)

/-- One raising of scheduler starvation (R363), with what it means for cause 4. -/
def starvation (i : WorkItem) (s : State) : State :=
  let now := s.clock
  let us := (s.mtb - i.enq) / 1600
  let s := s.modFlow i.flow fun f =>
    { f with items := f.items.map fun x =>
        if x.id = i.id then { x with starved := x.starved || i.core.isNone, overran := x.overran || i.core.isSome } else x }
  let s := { s with vol.sched.starvations := satInc 32 s.vol.sched.starvations }
  let s := record 0x0B01 i.flow (leBytes 1 i.kind ++ zeros 3 ++ leBytes 4 (sat 32 us)) s
  let at' := (now :: s.vol.redun.starveAt).filter fun t => decide (now < t + tickS)
  let s := { s with vol.redun.starveAt := at'.take 16 }
  if s.cfg.redun.starveMax ≤ at'.length then relinquish 4 s else s

/-- Whether an item that runs has run for longer than 20 ms (R363). -/
def State.ranLong (s : State) (i : WorkItem) : Bool :=
  match i.start with
  | some t => decide (t + 20 * tickMs < s.mtb)
  | none => false

/-- The item of a flow that has run for longer than 20 ms, or the control-class item at its head that has been eligible for longer than
the starve_us in force then without starting; each raises once for each of the two (R363). -/
def State.starvedItem (s : State) (flow : Nat) (running : Bool) : Option WorkItem :=
  if running then (s.flow flow).items.find? fun i => i.core.isSome && !i.overran && s.ranLong i
  else (s.flow flow).items.head?.filter fun i =>
    i.core.isNone && decide (5 ≤ i.prio) && !i.starved && decide ((s.flow flow).readyAt + (s.flow flow).starveUs * 1600 < s.mtb)

def execControlStarvation (flow : Nat) (running : Bool) (s : State) : Host.Outcome State Fault Refusal :=
  match s.starvedItem flow running with
  | some i => if s.actOn then .next (starvation i s) else .next s
  | none => .next s

/-- What the self-test has corrected as it reads the memories; how many errors there were is a free value (log 150). The scrub of R380 counts
those of the Peat pool, memory 2. -/
def testMemories (s : State) : State :=
  let (k, s) := s.draw
  addCorrected (fun m => if m = 2 then 0 else Config.sense (0x70 + m) k) s

/-- The self-test ends when it has passed: its result is held, and a trial image may confirm itself (R469). -/
def bistDone (s : State) : State :=
  tryConfirm (testMemories { s with vol.redun := { s.vol.redun with bist := none, bistAt := s.clock, selfTestOk := true } })

/-- The self-test takes the cores out one at a time, from the one whose turn it is (R364, R429). It waits for a core that still runs an
item; it passes over a core that is out already, and over the one core in service; and it defers itself when the limit would be broken.
Its core is out without the mark of SCHED.CORE: DESIGN CHOICE (log 174). -/
def bistGo : Nat → State → State
  | 0, s => s
  | n + 1, s =>
    match s.vol.redun.bist with
    | none => s
    | some b =>
      let next := { s with vol.redun.bist := some ⟨b.core + 1, false⟩ }
      if 16 ≤ b.core then bistDone s
      else if b.out then
        match (s.core b.core).state with
        | .leaving _ _ => s
        | .out => if s.cfg.sched.outMask.testBit b.core then bistGo n next else bistGo n (putBack b.core next)
        | _ => bistGo n next
      else
        match (s.core b.core).state with
        | .leaving _ _ => bistGo n next
        | .out => bistGo n next
        | _ =>
          if s.oneCore && s.soleCore == some b.core then bistGo n next
          else if 8 ≤ s.coresOut then redunEvent 7 0 s.lastCommitted { s with vol.redun.bist := none }
          else bistGo n (leaveCore b.core { s with vol.redun.bist := some ⟨b.core, true⟩ })

/-- Every bist_s the built-in self-test begins; one that fails gives cause 7 at once (R429). -/
def execBistPeriod (passed : Bool) (s : State) : Host.Outcome State Fault Refusal :=
  if !s.actOn || !s.hsw.serving || s.vol.redun.bist.isSome then .next s
  else if !passed then
    if 8 ≤ s.coresOut then .next (redunEvent 7 0 s.lastCommitted s)
    else .next (relinquish 7 (testMemories { s with vol.redun := { s.vol.redun with bistAt := s.clock, selfTestOk := false } }))
  else .next (bistGo 40 { s with vol.redun.bist := some ⟨0, false⟩ })

/-! ### Planned handover (R435) -/

def execHoldWaitExpiry (s : State) : Host.Outcome State Fault Refusal :=
  match s.vol.redun.handover with
  | none => .next s
  | some h => .next (handoverProgress { s with vol.redun.handover := some { h with waited := true } })

/-- 1 ms after the completion of REDUN.HANDOVER. -/
def execPlannedHandoverRelinquish (s : State) : Host.Outcome State Fault Refusal :=
  match s.vol.redun.handover with
  | some h => if h.posted then .next (relinquish 10 s) else .next s
  | none => .next s

/-! ### Opcodes -/

def runRedunConfig (c : HostCmd) (s : State) : CmdResult :=
  let ps := c.packet.params
  .accepted { s with ctl.cfg.redun :=
    { periodMs := fld ps 0 2, eccMax := fld ps 2 1, starveMax := fld ps 3 1, gnssFailS := fld ps 4 2,
      bistS := fld ps 8 4 } } []

def runRedunHandover (c : HostCmd) (s : State) : CmdResult :=
  let ps := c.packet.params
  let l := s.act.lock
  if !s.standbyOk then .refuse erState 1
  else if l.held then .refuse erBusy l.session
  else
    .deferred (handoverProgress { s with
      vol.sluice.state := .withdrawn
      vol.redun.handover := some { cmd := c, force := fld ps 2 1 == 1, final := false, moving := 0, posted := false,
                                   waited := fld ps 0 2 == 0 } })

/-- Before the run's heartbeat start the command waits for the first checkpoint (log 52). -/
def runRedunCheckpoint (c : HostCmd) (s : State) : CmdResult :=
  if !s.sinkAccepts then .refuse erState 0
  else .deferred (snapshotOrWait false { s with vol.redun.ckptCmds := s.vol.redun.ckptCmds ++ [c] })

/-- `sink` of REDUN.STATUS. -/
def State.sinkCode (s : State) : Nat :=
  if s.sinkAccepts then 0 else if s.other.locked then 1 else 2

/-- With no committed checkpoint, its age is a free value. -/
def runRedunStatus (_ : HostCmd) (s : State) : CmdResult :=
  let r := s.vol.redun
  let (k, s) := s.draw
  let age := match s.other.ckpts.newest with
    | some _ => sat 32 ((s.clock - s.other.ckpts.newestAt) / tickMs)
    | none => Config.sense 8 k % 2 ^ 32
  .ok s (leBytes 1 s.sinkCode ++ leBytes 1 (b2n s.standbyOk) ++ leBytes 1 (sat 8 s.ctl.sluice.requal.length) ++
    leBytes 1 s.hsw.lastCause ++ leBytes 4 s.lastCommitted ++ leBytes 4 age ++ leBytes 2 r.image ++
    leBytes 2 r.lastPages ++ leBytes 4 r.commits ++ leBytes 4 (sat 32 ((s.clock - r.bistAt) / tickS)))

/-- State of a side as RESET.CAUSE codes it. -/
def powerCode : PowerState → Nat
  | .activeRun => 0
  | .activeIdle => 1
  | .fen => 2
  | .standbyCold => 3
  | .poweredDown => 4

/-- REDUN.SIDE_READ of the side named in target, by its always-on island; VBAT is a measured value. -/
def runRedunSideRead (c : HostCmd) (s : State) : CmdResult :=
  let d := s.side ((targetSide? c.packet).getD s.actId)
  let (k, s) := s.draw
  let (n, e) := match d.ckpts.newest with
    | some x => (x.seq, x.epoch)
    | none => (0, 0)
  .ok s (leBytes 1 (powerCode d.power) ++ leBytes 1 (b2n d.locked) ++ leBytes 1 d.relCause ++ leBytes 1 (b2n d.passed) ++
    leBytes 4 n ++ leBytes 4 e ++ leBytes 2 (Config.sense 2 k % 65536) ++ zeros 2)

def execRedunConfig (p : Packet) (s : State) : Host.Outcome State Fault Refusal := .next (serve 0x0F01 runRedunConfig p s)
def execRedunHandover (p : Packet) (s : State) : Host.Outcome State Fault Refusal :=
  .next (serve 0x0F02 runRedunHandover p s)
def execRedunCheckpoint (p : Packet) (s : State) : Host.Outcome State Fault Refusal :=
  .next (serve 0x0F03 runRedunCheckpoint p s)
def execRedunStatus (p : Packet) (s : State) : Host.Outcome State Fault Refusal := .next (serve 0x0F04 runRedunStatus p s)
def execRedunSideRead (p : Packet) (s : State) : Host.Outcome State Fault Refusal :=
  .next (serve 0x0F05 runRedunSideRead p s)

end Sys2Proof.Machine
end

