-- ==== Sys2Proof/Machine/Start.lean ====
section
/-! DEFINITION.
Module power, MOD_RESET_N and the start of a side through its stages (chapters 02, 03; R431, R442, R443, R467, R478,
R488).
-/

namespace Sys2Proof.Machine

/-! ### T0 of a module start (R68, R71, R72) -/

/-- The side that the straps select, and whether they are a fault (Table Reset-2). -/
def strapSide (s1 s0 : Bool) : SideId × Bool := if s1 && !s0 then (.b, false) else (.a, s1 == s0)

/-- The host switch as a module start finds it: what its non-volatile memory and the islands hold is kept, and so is the power-down that
a brown-out warning has made sure of (R45). -/
def HostSwitch.restart (h : HostSwitch) : HostSwitch :=
  { HostSwitch.factory with
    active := none, last := h.last, sessions := h.sessions.map fun x => { Session.closed x.via with inst := x.inst }
    perst := h.perst, supplyEvents := h.supplyEvents, keyFaults := h.keyFaults, runNo := h.runNo,
    lastCause := h.lastCause, downWhy := h.downWhy, warned := h.warned, nv := h.nv }

/-- Both sides' main domains are off and the host switch is in reset: no role, no session (R71). -/
def modulesOff (s : State) : State :=
  let s := (List.range 4).foldl (fun s n => endSession n 4 s) s
  let s := s.modSide .b SideState.domainsOff
  loseControl { s.modSide .a SideState.domainsOff with hsw := { s.hsw.restart with last := s.actId } }

/-- A save of the counter block goes to the older copy (R484). -/
def Recorder.save (r : Recorder) : Recorder :=
  let n := CounterCopy.write (max r.copyA.saveSeq r.copyB.saveSeq + 1) r.opSeconds r.powerCycles
  if r.copyA.saveSeq ≤ r.copyB.saveSeq then { r with copyA := n } else { r with copyB := n }

/-- Operating seconds of the valid copy with the higher save sequence (R484). -/
def Recorder.lastSave (r : Recorder) : Nat :=
  if r.copyB.ok && (!r.copyA.ok || decide (r.copyA.saveSeq < r.copyB.saveSeq)) then r.copyB.opSeconds else r.copyA.opSeconds

/-- The power-cycle count rises at T0 of a module power-on, and is saved (R483, R484). -/
def Recorder.powerCycle (r : Recorder) : Recorder := { r with powerCycles := satInc 32 r.powerCycles }.save

/-- T0 of a module start of a kind (Table Reset-1): straps are sampled, and the strapped side starts as active. -/
def moduleStart (kind detail : Nat) (s1 s0 : Bool) (s : State) : State :=
  let (x, fault) := strapSide s1 s0
  let s := modulesOff s
  let on := kind == 1
  let each := fun d : SideState =>
    { d with
      startRec := { StartRecord.begin kind detail with slot := d.startRec.slot }
      recorder := if on then d.recorder.powerCycle else d.recorder
      security := { d.security with debugOpen := d.security.debugOpen && !on } }
  let s := (s.modSide .a each).modSide .b each
  let h := s.hsw
  let s := { s with hsw := { h with
    active := some x, last := x, strapBits := 2 * b2n s1 + b2n s0, strapFault := fault, resetHeld := false,
    supplyEvents := if on then 0 else h.supplyEvents, keyFaults := if on then 0 else h.keyFaults, runNo := h.runNo + 1,
    downWhy := 0 } }
  beginStart x .module kind detail s

/-- VIN has been above the power-on threshold for 10 ms on a module that is off. -/
def execModulePowerOn (strap1 strap0 : Bool) (s : State) : Host.Outcome State Fault Refusal :=
  if s.env.vinUp then .next s
  else .next (moduleStart 1 s.hsw.downWhy strap1 strap0 { s with env := { s.env with vinUp := true, vinBelow := false } })

def execModResetNAsserted (s : State) : Host.Outcome State Fault Refusal :=
  if !s.env.vinUp then .next s
  else
    let s := modulesOff s
    .next { s with hsw := { s.hsw with resetHeld := true } }

def execModResetNRelease (strap1 strap0 : Bool) (s : State) : Host.Outcome State Fault Refusal :=
  if !s.env.vinUp || !s.hsw.resetHeld || s.hsw.warned then .next s else .next (moduleStart 3 0 strap1 strap0 s)

/-! ### Supplies (R41 to R47, R70) -/

/-- A Crown is lost while neither VIN nor VBAT holds it (R70). -/
def SideState.unheld (d : SideState) : SideState :=
  if d.security.record.state = .shipping then d else { d with security := { d.security with crownValid := false } }

/-- Both Crowns, when neither supply holds them. -/
def crownsHeld (s : State) : State :=
  if s.env.vinBelow && !s.env.vbatOk then (s.modSide .a SideState.unheld).modSide .b SideState.unheld else s

/-- The module powers down (R45): after a warning always, else when VIN is cut. Operating seconds since the last save are
lost when no warning saved them (R484). -/
def powerDown (absent : Bool) (s : State) : State :=
  let cut := !s.hsw.warned
  let lose := fun d : SideState =>
    { d with recorder := if cut then { d.recorder with
        opSeconds := d.recorder.lastSave } else d.recorder }
  let why := if cut then 0 else s.hsw.downWhy
  let s := modulesOff s
  let s := (s.modSide .a lose).modSide .b lose
  crownsHeld { s with env := { s.env with vinUp := false, vinBelow := absent }, hsw := { s.hsw with warned := false, downWhy := why } }

def execModulePowerDown (absent : Bool) (s : State) : Host.Outcome State Fault Refusal :=
  if s.env.vinUp then (if s.hsw.warned || absent then .next (powerDown absent s) else .next s)
  else .next (crownsHeld { s with env := { s.env with vinBelow := s.env.vinBelow || absent } })

/-- A supply event is counted, and SUPPLY is set (POWER.SENSE, Table Host-11). -/
def countSupply (s : State) : State :=
  raiseIrq irqSupply { s with hsw.supplyEvents := satInc 16 s.hsw.supplyEvents }

/-- VBAT is lost: a supply event of each side while VIN is present, else the end of the Crowns (R70). -/
def execVbatLoss (vbatMv : Nat) (s : State) : Host.Outcome State Fault Refusal :=
  let s := { s with env := { s.env with vbatOk := false } }
  if s.env.vinBelow then .next (crownsHeld s)
  else
    let p := leBytes 2 vbatMv
    .next (countSupply (recordOn .b 0x1402 1 p (recordOn .a 0x1402 1 p s)))

def execVbatRestored (s : State) : Host.Outcome State Fault Refusal := .next { s with env := { s.env with vbatOk := true } }

/-! ### The host switch starts (R78, R472) -/

/-- The host switch boots: a trial image that passes its self-test confirms itself, another falls back to the old one within
the same start (R472). Answers the kind of UPDATE.EVENT, none for no trial. -/
def bootSwitch (selfTest : Bool) (f : Firmware) : Firmware × Option Nat :=
  let c := f.flags
  if c.trial = .none then ({ f with running := c.active }, none)
  else if selfTest then ({ f.confirm with running := c.trialSlot }, some 3)
  else ({ f.endTrial with running := c.active }, some 4)

/-- A wake or a snapshot that waited for the host switch's restart follows now (R472): the grant changes hands in this step (R17). -/
def afterRestart (s : State) : State :=
  if s.hsw.wakeDue then wakeSide s.otherId { s with hsw.wakeDue := false }
  else if s.vol.redun.due && s.canSnapshot then
    takeSnapshot (match s.vol.redun.handover with
      | some h => h.final
      | none => false) s
  else s

def execHostSwitchReady (selfTest : Bool) (s : State) : Host.Outcome State Fault Refusal :=
  if !s.env.vinUp || s.hsw.resetHeld || s.hsw.ready then .next s
  else
    let again := s.hsw.restarting
    let (f, ev) := bootSwitch selfTest s.hsw.nv.firmware
    let h := s.hsw
    let s := { s with hsw := { h with
      ready := true, pcieUp := !h.perst, restarting := false, nv := { h.nv with firmware := f } } }
    let s := if s.actOn then
        let s := match ev with
          | some k => updateEvent k 3 f.image.version s
          | none => s
        if again then updateEvent 8 3 f.image.version s else s
      else s
    .next (afterRestart s)

/-! ### Boot ROM and image verify (R442, R443, R467) -/

/-- The side that is in a stage of its start, the active one first. No start goes on after a brown-out warning, when the module powers
down (R45, R434). -/
def State.starting (s : State) (g : Stage) : Option (SideId × StartRun) :=
  let at' := fun x : SideId => match (s.side x).start with
    | some r => if r.stage = g then some (x, r) else none
    | none => none
  if s.hsw.active.isNone || s.hsw.warned then none else (at' s.actId).or (at' s.otherId)

/-- A stage ends: its time is noted in the start record, and the next follows. -/
def endStage (x : SideId) (k : Nat) (next : Stage) (s : State) : State :=
  s.modSide x fun d =>
    match d.start with
    | some r =>
      { d with
        start := some { r with stage := next }
        startRec := { d.startRec with stageMs := d.startRec.stageMs.set k (min 0xFFFE ((s.clock - r.t0) / tickMs)) } }
    | none => d

/-- A side latches tamper-locked: its checkpoint area reads as empty (R448). -/
def SideState.latch (d : SideState) : SideState :=
  { d with security := { d.security with record := { d.security.record with state := .locked } }, ckpts := CkptArea.empty }

/-- A side leaves the shipping state (R442): armed, with an arming event. -/
def armSide (x : SideId) (s : State) : State :=
  recordOn x 0x1000 0xFFFF (zeros 2)
    (s.modSide x fun d => { d with security := { d.security with record := { d.security.record with state := .armed } } })

/-- The boot ROM stage of a side. -/
def bootRom (x : SideId) (r : StartRun) (iosel33 : Bool) (s : State) : State :=
  if r.kind = .module ∧ !s.hsw.ready then s
  else
    let s := if (s.side x).security.record.state = .shipping ∧ s.env.vbatOk then armSide x s else s
    let d := s.side x
    if d.locked then failStart x 4 s
    else if d.security.record.state = .armed ∧ !d.security.crownValid then failStart x 4 (s.modSide x SideState.latch)
    else
      let s := s.modSide x fun d => { d with mainOn := true, bank33 := iosel33 }
      endStage x 0 .imageVerify (if r.kind = .sideReset then s else { s with mtbZero := s.clock })

def execBootRomDone (iosel33 : Bool) (s : State) : Host.Outcome State Fault Refusal :=
  match s.starting .bootRom with
  | some (x, r) => .next (bootRom x r iosel33 s)
  | none => .next s

/-- The choice of R467: flags after it, slot, and whether it is a fallback. -/
def chooseSlot (kind : StartKind) (f : Firmware) : Firmware × Nat × Bool :=
  let c := f.flags
  if kind = .handover then (f, c.active, false)
  else
    match c.trial with
    | .pending => (f.writeFlags fun c => { c with trial := .booted }, c.trialSlot, false)
    | .booted => (f.endTrial, c.active, true)
    | .none => (f, c.active, false)

/-- Image verify: a slot that fails gives way to the other; both failing fails the start (R79, R467). The first start of a trial image is a
module start or a side reset, never a handover restart (R81). -/
def imageVerify (x : SideId) (r : StartRun) (ok0 ok1 : Bool) (s : State) : State :=
  let (f, k, fell) := chooseSlot r.kind (s.side x).firmware
  let good := fun n : Nat => (f.slot n).valid && if n = 0 then ok0 else ok1
  let put := fun (f : Firmware) (n : Nat) =>
    endStage x 1 .stateLoad (s.modSide x fun d =>
      { d with
        firmware := { f with running := n }, startRec := { d.startRec with slot := n }
        start := some { r with slot := n, fallback := fell, trial := r.kind != .handover && f.flags.trial == .booted && n == f.flags.trialSlot } })
  if good k then put f k
  else
    let f := if k = f.flags.trialSlot then f.endTrial else f
    if good (1 - k) then put f (1 - k)
    else failStart x 1 (s.modSide x fun d => { d with firmware := f })

def execImageVerifyDone (ok0 ok1 : Bool) (s : State) : Host.Outcome State Fault Refusal :=
  match s.starting .imageVerify with
  | some (x, r) => .next (imageVerify x r ok0 ok1 s)
  | none => .next s

/-! ### State load: recorder (R485, R488) -/

/-- Held events are appended first, with STB invalid. -/
def Recorder.appendHeld (now windowMs : Nat) (r : Recorder) : Recorder :=
  r.heldEvents.foldl (fun r e =>
    let ops := r.opSeconds
    let cyc := r.powerCycles
    let r := ({ r with opSeconds := e.opSeconds, powerCycles := e.powerCycles }).event now windowMs none e.code e.source e.payload
    { r with opSeconds := ops, powerCycles := cyc }) { r with heldEvents := [] }

/-- A slot whose fold was torn is rewritten from the newer journal copy. -/
def Recorder.fromJournal (r : Recorder) : Recorder :=
  let j := match r.journalA.filter JournalCopy.ok, r.journalB.filter JournalCopy.ok with
    | some a, some b => some (if a.jseq < b.jseq then b else a)
    | some a, none => some a
    | none, b => b
  match j with
  | none => r
  | some j => { r with ring := r.ring.map fun n => if n.seq = j.record.seq ∧ n.repeats < j.record.repeats then j.record else n }

/-- The recorder at a start: the fold journal, the record of a torn slot, and the events held by the island. -/
def recoverRecorder (x : SideId) (torn : Bool) (s : State) : State :=
  let now := s.mtb
  let w := s.cfg.repeatMs
  s.modSide x fun d =>
    let r := { d.recorder with openRec := none }.fromJournal
    let r := if torn then { r.event now w none 0x1202 0xFFFF [] with repaired := satInc 32 r.repaired } else r
    { d with recorder := ({ r with openRec := none }).appendHeld now w }

/-! ### State load: accounting (R84, R479) -/

/-- Bin boundaries and sending instants moved with the time of the record, and the interval charged to each ordinary
budget, capped at what remains. -/
def RadioBudget.resume (shift chargeUs : Nat) (b : RadioBudget) : RadioBudget :=
  { b with budgets := b.budgets.map fun x =>
      let us := min chargeUs (x.ordinary - x.used)
      { x with
        binEnd := x.binEnd + shift, sent := x.sent.map fun e => (e.1 + shift, e.2)
        bins := match x.bins with
          | [] => [⟨us, 0⟩]
          | h :: t => { h with ord := h.ord + us } :: t } }

/-- DFS channels after a module start: each in CAC (R240). -/
def RadioBudget.allCac (b : RadioBudget) : RadioBudget :=
  { b with dfs := b.dfs.map fun d => if d.state = .none then d else { d with state := .cac, stopsOk := false, stopUs := 0 } }

/-- B and the reserve of reloaded accounts are those of the lane settings in force, which may differ from those of the record (R234, R237).
`at'` is the instant of the record: with another window the bin in progress ends no later than one new bin from it. DESIGN CHOICE (log 199). -/
def refitAccounts (at' : Nat) (s : State) : State :=
  s.modBudgets fun x =>
    match (s.bands (s.lane x.lane)).find? fun b => b.lo == x.lo with
    | some b =>
      let c := s.lane x.lane
      { x with
        limitUs := bandLimit c b, reserveUs := reserveOf c (bandLimit c b)
        binEnd := if x.limitUs = bandLimit c b then x.binEnd else min x.binEnd (at' + binTicks c x) }
    | none => x

/-- Accounts of enabled lanes that the store did not hold. -/
def missingAccounts (s : State) : State :=
  (List.range 8).foldl (fun s l =>
    if s.laneOn l then
      let b := s.ctl.budget
      let bs := (laneBudgets l (s.lane l) s).filter fun x => !b.budgets.any fun y => y.isOf x.lane x.lo x.chan
      let ds := (laneDfs l (s.lane l) s).filter fun x => !b.dfs.any fun y => y.lane == x.lane && y.chan == x.chan
      { s with ctl.budget := { budgets := b.budgets ++ bs, dfs := b.dfs ++ ds } }
    else s) s

/-! ### State load: module start (R80, R83, R471, R478) -/

/-- The stops of a module start have the next Sluice span of every enabled sub-GHz lane before them (R80, R282). -/
def startSpans (s : State) : State :=
  { s with ctl.sluice := { s.ctl.sluice with
    stops := s.ctl.sluice.stops.map fun x => { x with spans := s.subLanes.map fun l => (l, x.targets) } } }

/-- The control state of a module start, from the current generation of the side's store. -/
def loadControl (x : SideId) (chargeUs : Nat) (s : State) : State :=
  let g := (s.side x).store.current
  let (cfg, tcfg) := g.cfg.getD (Settings.factory, TimeSettings.factory)
  let s := refitAccounts g.budgetAt { s with
    ctl := Control.start cfg tcfg (g.hot.getD HotStart.none) (g.budget.getD { budgets := [], dfs := [] })
    vol := Volatile.startWith cfg }
  startSpans (missingAccounts { s with ctl.budget := (s.ctl.budget.resume (s.clock - g.budgetAt) chargeUs).allCac })

/-- The generations of the store at a start: the kept one current again at a fallback (R471), or kept while a trial image's
first start converts the current one (R478). -/
def ConfigStore.atStart (fallback trial : Bool) (version : Nat) (t : ConfigStore) : ConfigStore :=
  let t := if fallback then t.restoreKept else t
  let t := if trial then
      { t with kept := some t.current, current := { t.current with format := version }, dirSeq := (t.dirSeq + 1) % 2 ^ 32 }
    else t
  { t with blocked := false }

/-- What a restart charges to the accounting (R84, R479), in µs. -/
def SideState.restartCharge (d : SideState) (fallback : Bool) : Nat :=
  if fallback || d.store.blocked then (d.recorder.opSeconds - d.store.current.budgetOp) * 1000000 else 1000000

/-! ### State load: handover restart (R205, R303, R352, R422, R426, R431, R432) -/

/-- The record of a session after a takeover (R111, R426): the instance open at the cut has the checkpoint's floor and list;
an instance opened later is in no part contained. -/
def takeoverRecord (n : Nat) (c : Checkpoint) (s : State) : SessionRecord :=
  let old := s.ctl.records.getD n SessionRecord.moduleStart
  let kept := c.ctl.records.getD n SessionRecord.moduleStart
  match c.insts.getD n none with
  | some i =>
    if i = (s.sess n).inst then { old with floor := c.floors.getD n 0, list := c.lists.getD n [] }
    else { old with floor := 0, list := [] }
  | none => if old = kept then kept else { old with floor := 0, list := [] }

/-- ±200 ppm of the always-on clock (R205): a free value. -/
def aonError (ticks : Nat) (s : State) : Int × State :=
  let (k, s) := s.draw
  let m := ticks / 5000
  ((Config.sense 9 k % (2 * m + 1) : Nat) - (m : Int), s)

/-- The checkpointed state as the side taking over puts it in force. -/
def Checkpoint.restored (c : Checkpoint) (adv gone : Nat) (budget : RadioBudget) (records : List SessionRecord) : Control :=
  let u := c.ctl.sluice
  let ids := c.ctl.conns.map fun e => e.2.memberId
  let stb := c.ctl.time.stb.map (· + adv)
  { c.ctl with
    time := { c.ctl.time with
      stb := stb, atb := c.ctl.time.atb.map (· + adv)
      ptb := if c.ctl.timeCfg.ptp.ptbSource = 0 then stb else c.ctl.time.ptb.map (· + adv) }
    budget := budget
    conns := c.ctl.conns.map fun e => (e.1, { e.2 with ctrDn := e.2.ctrDn + 65536, downSync := true })
    sluice := { u with
      stopSeq := (u.stopSeq + 4096) % 65536, ckptSeq := u.stopSeq
      requal := ids.foldl sput u.requal, statusDue := ids.foldl sput u.statusDue }
    dyke := { c.ctl.dyke with
      profiles := c.ctl.dyke.profiles.map fun e => (e.1, { e.2 with planNo := (e.2.planNo + 4096) % 65536, fresh := true })
      tasks := c.ctl.dyke.tasks.map fun e => (e.1, { e.2 with queuedAt := e.2.queuedAt + gone }) }
    handovers :=
      { sources := c.ctl.handovers.sources.map fun h => { h with cmd := none }
        targets := c.ctl.handovers.targets.map fun t => { t with commit := false } }
    records := records }

/-- The run state of a takeover: members' connections have their event state and flows anew, footprints are to be pinned, and
the messages of R432 wait. -/
def resumeRun (c : Checkpoint) (s : State) : State :=
  let now := s.mtb
  let open' := (s.ctl.dyke.windows.flatMap (·.2)).filter fun w => !w.pinned
  let nodes := ((open'.map (·.node)) ++ (s.ctl.dyke.copies.filter fun e => e.2.any fun w => !w.2.pinned).map (·.1)).foldl sput
    (s.ctl.conns.map (·.1))
  let s := { s with
    vol.mac := { s.vol.mac with conns := s.ctl.conns.map fun e : Nat × Conn => (e.1, ConnRun.start now) }
    vol.dyke := { s.vol.dyke with pinDue := nodes }
    vol.corr := { s.vol.corr with runAt := s.cfg.corr.run.map fun _ => now }
    vol.redun := { s.vol.redun with toldControl := false, toldRequal := false, installed := c.seq } }
  let s := s.ctl.conns.foldl (fun s (e : Nat × Conn) => bindFlow e.2.flow e.1 s) s
  let s := if s.ctl.mode = .idle then parkCores s else if s.ctl.mode = .fen then enterFen s else s
  let s := restartPtp s
  if s.ctl.time.stb.isSome then setStb .restored 5 (1000000 * unitNs) s else s

/-- The checkpoint is installed. `committed` is the clock of its commit, `woken` that of the wake. -/
def installCheckpoint (c : Checkpoint) (committed woken : Nat) (s : State) : State :=
  let (e, s) := aonError (woken - committed) s
  let away := (((woken - committed : Nat) : Int) + e).toNat
  let adv := (c.sealMtb - c.snapMtb + away + (s.clock - woken)) * unitTick
  let b := c.ctl.budget.resume (s.clock - c.snapClock) (away / 1600)
  let recs := (List.range 4).map fun n => takeoverRecord n c s
  resumeRun c { s with ctl := c.restored adv (s.clock - c.snapClock) b recs, vol := Volatile.startWith c.ctl.cfg }

/-- Whether the side's image can load a checkpoint of the present run (R431, R475). -/
def SideState.loads (d : SideState) (run : Nat) (c : Checkpoint) : Bool :=
  c.run == run && decide (d.firmware.image.ckReadLo ≤ c.format) && decide (c.format ≤ d.firmware.image.ckReadHi)

/-- The checkpoint that a woken side selects (R431), with its commit instant and the kind of REDUN.EVENT. -/
def selectCheckpoint (d : SideState) (run : Nat) (ckptOk prevOk : Bool) : Option (Checkpoint × Nat × Option Nat) :=
  match d.ckpts.newest with
  | none => none
  | some c =>
    if ckptOk && d.loads run c then some (c, d.ckpts.newestAt, none)
    else if c.noFallback then none
    else
      match d.ckpts.previous with
      | some p => if prevOk && d.loads run p then some (p, d.ckpts.prevAt, some 3) else none
      | none => none

/-! ### State load: what follows for either start (R78, R85, R455) -/

/-- A new session epoch: above every one issued, and in the host switch's memory before HW_EPOCH shows it (R85). -/
def newEpoch (x : SideId) (ckpt : Nat) (s : State) : State :=
  let e := max (max s.hsw.nv.epochMax (s.side x).store.epoch) ckpt + 1
  let h := s.hsw
  let s := { s with hsw := { h with epoch := e, nv := { h.nv with epochMax := e } } }
  raiseIrq irqEpoch (s.modStore x fun t => { t with epoch := max t.epoch e })

/-- SERVING rises, with TAMPER for every mark that stands. -/
def beginServing (s : State) : State :=
  let now := s.mtbNs
  let s := setServing true { s with vol.sec := { s.vol.sec with learnedA := now, learnedB := now } }
  if s.hsw.nv.tamperA || s.hsw.nv.tamperB then raiseIrq irqTamper s else s

/-- Antenna bias comes on with the role (R61); its current is a measured value, and below 4 mA the antenna is open. -/
def startBias (s : State) : State :=
  let (k, s) := s.draw
  let ma := Config.sense 10 k % 110
  s.modGnss fun g => { g with biasState := biasClass ma, biasMa := ma }

/-- The power state of the active side by its mode. -/
def modePower : PowerMode → PowerState
  | .run => .activeRun
  | .idle => .activeIdle
  | .fen => .fen

/-- The side that holds the active role has its state: it serves. -/
def loaded (x : SideId) (r : StartRun) (ckpt : Nat) (ev : Option (Nat × Nat)) (s : State) : State :=
  let s := s.modSide x fun d => { d with power := modePower s.ctl.mode }
  let s := newEpoch x ckpt s
  let d := s.side x
  let s := recordOn x 0x1401 d.startRec.kind (leBytes 1 d.startRec.kindDetail ++ leBytes 1 d.startRec.slot ++ zeros 1) s
  let s := if s.hsw.strapFault && d.startRec.kind != 6 then
      recordOn x 0x1404 0xFFFF (leBytes 1 (s.hsw.strapBits + 128)) s else s
  let s := startPeerings (beginServing (startTracking (startBias s)))
  let s := if r.fallback then updateEvent 4 2 (d.firmware.slot d.firmware.flags.trialSlot).version s else s
  match ev with
  | some (k, n) => redunEvent k s.hsw.lastCause n s
  | none => s

/-- The state load of a module start, or of a handover restart that found no checkpoint. -/
def loadModule (x : SideId) (r : StartRun) (cfgOk : Bool) (ev : Option (Nat × Nat)) (s : State) : State :=
  let charge := (s.side x).restartCharge r.fallback
  let s := s.modStore x fun t => t.atStart r.fallback r.trial (s.side x).firmware.image.version
  if !cfgOk then failStart x 2 s
  else
    let s := s.modSide x fun d => { d with start := d.start.map fun q => { q with kind := if r.kind = .handover then .abandoned else r.kind } }
    loaded x r 0 ev (restartPtp (loadControl x charge s))

/-- The state load of a side. -/
def stateLoad (x : SideId) (r : StartRun) (cfgOk ckptOk prevOk torn : Bool) (s : State) : State :=
  let s := endStage x 2 .radioHead (recoverRecorder x torn s)
  match r.kind with
  | .module | .abandoned => loadModule x r cfgOk none s
  | .sideReset =>
    let s := s.modStore x fun t => t.atStart r.fallback r.trial (s.side x).firmware.image.version
    if cfgOk then s else failStart x 2 s
  | .handover =>
    match selectCheckpoint (s.side x) s.hsw.runNo ckptOk prevOk with
    | some (c, at', ev) => loaded x r c.epoch (ev.map fun k => (k, c.seq)) (installCheckpoint c at' r.t0 s)
    | none => loadModule x r cfgOk (some (4, 0)) s

def execStateLoadDone (cfgOk ckptOk prevOk torn : Bool) (s : State) : Host.Outcome State Fault Refusal :=
  match s.starting .stateLoad with
  | some (x, r) => .next (stateLoad x r cfgOk ckptOk prevOk torn s)
  | none => .next s

/-! ### Radio head bring-up, GNSS start and heartbeat start -/

/-- One enabled link is brought up: its head's init and tune sequences, and the latency that its training gives; `up` is none
where the training fails, else whether the latency came out one DCLK period longer than the least. -/
def bringUp (k : Nat) (up : Option Bool) (s : State) : State :=
  if !(s.link k).enable then s
  else
    match startLink k s with
    | (some _, s) => restartFailed k s
    | (none, s) =>
      match up, tuneLanes k s with
      | some late, (true, s) => linkUp k late s
      | _, (_, s) => restartFailed k s

/-- A side under RESET.SIDE brings one of its own heads up on the settings of its store: the init sequence, the training of the link, of
which nothing outlasts the reset, and the tune sequences once it has trained (R86). -/
def bringUpOther (x : SideId) (k : Nat) (up : Option Bool) (s : State) : State :=
  let c := s.sideRadio x
  if !(s.linkOn x k).enable then s
  else
    match initHead x k s, up with
    | (true, s), some _ =>
      ((List.range 8).filter fun l => l / 4 == k && (c.lanes.getD l LaneSettings.factory).enable).foldl (fun r l =>
        if r.1 then runSeq x k 1 l r.2 else r) (true, s) |>.2
    | (_, s), _ => s

/-- A side under RESET.SIDE shuts one of its own heads down: the shutdown sequence, then RESET_N low (R86, Table Radio-4). -/
def shutOther (x : SideId) (k : Nat) (s : State) : State :=
  if !(s.linkOn x k).enable then s else setResetN x k false (runSeq x k 4 (4 * k) s).2

def execRadioHeadBringupDone (up0 up1 : Option Bool) (s : State) : Host.Outcome State Fault Refusal :=
  match s.starting .radioHead with
  | none => .next s
  | some (x, r) =>
    if r.kind = .sideReset then .next (endStage x 3 .gnss (bringUpOther x 1 up1 (bringUpOther x 0 up0 s)))
    else
      .next (endStage x 3 (if r.kind = .handover then .heartbeat else .gnss) (bringUp 1 up1 (bringUp 0 up0 s)))

/-- The GNSS start of the active side's module start ends (R77). -/
def endGnssStart (s : State) : State :=
  match s.act.start with
  | some r => if r.stage = .gnss then endStage s.actId 4 .heartbeat s else s
  | none => s

/-- STB becomes valid, at `stb` (R77, R197). -/
def execGnssStartEnd (stb : Nat) (s : State) : Host.Outcome State Fault Refusal :=
  if !s.actOn || !s.stageEnded 6 || s.hsw.warned || (s.vol.time.state == .invalid && !s.firstReady) then .next s else .next (endGnssStart (firstDiscipline stb s))

def execGnssStartDeadline (s : State) : Host.Outcome State Fault Refusal :=
  if s.actOn && !s.hsw.warned then .next (endGnssStart s) else .next s

/-- Frames of the members that hold an allotment follow the heartbeat start of a takeover (R352). -/
def resumeFrames (s : State) : State := (tkeys s.ctl.conns).foldl (fun s n => emitFrame n (settle n s)) s

/-- The heartbeat starts (R76, R77, R204, R296, R428): a run begins. -/
def heartbeatStart (r : StartRun) (s : State) : State :=
  let now := s.clock
  let s := endStage s.actId 5 .heartbeat s
  let s := s.modAct fun d => { d with start := none, startRec := { d.startRec with result := 0 } }
  let v := s.ctl.time
  let s := if r.kind = .handover then s
    else { s with ctl.time := { v with atb := some (v.stb.getD 0), atbOffsetSf := 0 } }
  let h := s.hsw
  let q := s.vol.redun
  let s := { s with
    hsw := { h with handoverN := false, runNo := h.runNo + 1 }
    vol.sluice := { s.vol.sluice with
      state := .running, in0 := .unclassified, in1 := .unclassified, discSince := false, discStop := false }
    vol.redun := { q with
      running := true, firstDone := false, seq := 0, commits := 0, hbAt := now, bistAt := now, streamsOnce := false,
      confirmFrom := if r.trial then some now else none } }
  let s := if s.ctl.time.stb.isSome && r.kind == .handover then beginPulses s else s
  let s := if r.kind = .handover then resumeFrames s else s
  tryConfirm s

def execHeartbeatStart (s : State) : Host.Outcome State Fault Refusal :=
  match s.act.start with
  | some r => if !s.actOn || s.hsw.warned || r.stage != .heartbeat || r.kind == .sideReset then .next s else .next (heartbeatStart r s)
  | none => .next s

/-- A stage other than the GNSS start overruns twice its bound (R79). -/
def execStartStageOverrun (s : State) : Host.Outcome State Fault Refusal :=
  let over' : SideId → Bool := fun x => match (s.side x).start with
    | some r => r.stage != .gnss
    | none => false
  if s.hsw.active.isNone || s.hsw.warned then .next s
  else if over' s.actId then .next (failStart s.actId 3 s)
  else if over' s.otherId then .next (failStart s.otherId 3 s)
  else .next s

end Sys2Proof.Machine
end

