-- ==== Sys2Proof/Machine/Record.lean ====
section
/-! DEFINITION.
The Peat core recorder and the performance counters (chapter 21).
-/

namespace Sys2Proof.Machine

/-! ### Operating seconds, power cycles and folds (R483 to R488) -/

/-- Both sides' recorders. -/
def eachRecorder (f : Recorder → Recorder) (s : State) : State :=
  let g := fun d : SideState => { d with recorder := f d.recorder }
  (s.modSide .a g).modSide .b g

/-- A whole second with VIN above the shutdown threshold, counted by both islands. -/
def execOpSecondsTick (s : State) : Host.Outcome State Fault Refusal :=
  if s.env.vinBelow then .next s
  else .next (eachRecorder (fun r => { r with opSeconds := satInc 32 r.opSeconds }) s)

def execCounterBlockSave (s : State) : Host.Outcome State Fault Refusal :=
  if s.env.vinBelow then .next s else .next (eachRecorder Recorder.save s)

/-- The recorder of a side whose main domains are on. -/
def liveRecorders (f : Recorder → Recorder) (s : State) : State :=
  let g := fun d : SideState => if d.mainOn then { d with recorder := f d.recorder } else d
  (s.modSide .a g).modSide .b g

def execFoldJournalWrite (s : State) : Host.Outcome State Fault Refusal := .next (liveRecorders Recorder.flushFold s)

/-- No fold into the newest record is possible any more. -/
def Recorder.close (r : Recorder) : Recorder := { r.flushFold with openRec := none }

def execRepeatWindowEnd (s : State) : Host.Outcome State Fault Refusal := .next (liveRecorders Recorder.close s)

/-- The next second begins, to which time passes, and the events dropped over the limit are recorded in it. -/
def execAppendsDroppedReport (s : State) : Host.Outcome State Fault Refusal :=
  let n := s.act.recorder.dropped
  if !s.act.mainOn || n == 0 then .next s
  else
    let s := match s.ctl.time.stb with
      | some t => passToStb ((t / unitS + 1) * unitS) s
      | none => passTicks ((s.mtb / tickS + 1) * tickS - s.mtb) s
    .next (record 0x1203 0xFFFF (leBytes 4 (sat 32 n))
      (s.modAct fun d => { d with recorder := { d.recorder with dropped := 0 } }))

/-! ### Reading (R482, R490) -/

def Record.bytes (r : Record) : List Byte := r.body ++ leBytes 4 (crc32c r.body)

/-- The tail: the oldest sequence number that the ring can hold. -/
def recordTail (head : Nat) : Nat := max 1 (head - (ringCapacity - 1))

/-- Whether the newest record is open: a fold into it is still possible (R487). -/
def Recorder.isOpen (r : Recorder) (now : Nat) : Bool :=
  match r.openRec with
  | some o => decide (now - o.firstTick < o.windowMs * tickMs)
  | none => false

/-- The records from a sequence number up, at most `n`, in order. -/
def Recorder.from (r : Recorder) (start n : Nat) : List Record :=
  (r.ring.reverse.filter fun x => decide (start ≤ x.seq)).take n

/-- A read takes one step, so no slot is overwritten within it and H_e is H_s. -/
def runRecordRead (c : HostCmd) (s : State) : CmdResult :=
  let r := s.act.recorder
  let first := fld c.packet.params 0 4
  let tail := recordTail r.head
  if r.head + 1 < first then .refuse erRange 0
  else
    let start := max tail first
    let rs := r.from start (fld c.packet.params 4 1)
    let lost := if first = 0 then 0 else tail - first
    let opened := r.isOpen s.mtb && rs.any fun x => x.seq == r.head
    .ok s (leBytes 4 r.head ++ leBytes 4 tail ++ leBytes 4 r.head ++ leBytes 4 lost ++ leBytes 4 (start + rs.length) ++
      leBytes 1 rs.length ++ leBytes 1 (b2n opened) ++ zeros 2 ++ leBytes 4 r.opSeconds ++ leBytes 4 r.powerCycles ++
      rs.flatMap Record.bytes)

def runRecordStatus (_ : HostCmd) (s : State) : CmdResult :=
  let r := s.act.recorder
  .ok s (leBytes 4 r.head ++ leBytes 4 (recordTail r.head) ++ leBytes 4 ringCapacity ++ leBytes 4 r.opSeconds ++
    leBytes 4 (r.opSeconds / 3600) ++ leBytes 4 r.powerCycles ++ leBytes 4 r.lastSave ++ leBytes 4 r.repaired ++
    leBytes 4 r.droppedTotal ++ leBytes 4 r.notHeld)

/-- The new window applies to records appended from now on. -/
def runRecordConfig (c : HostCmd) (s : State) : CmdResult :=
  .accepted { s with ctl.cfg := { s.cfg with repeatMs := fld c.packet.params 0 2 } } []

/-- The sequence number answered is that of the record appended or folded into; for a mark dropped over the limit of R486 it is
a free value (log 58). -/
def runRecordMark (c : HostCmd) (s : State) : CmdResult :=
  let d0 := s.act.recorder.dropped
  let s := record 0x1201 c.session c.packet.params s
  if s.act.recorder.dropped = d0 then .ok s (leBytes 4 s.act.recorder.head)
  else
    let (k, s) := s.draw
    .ok s (leBytes 4 (Config.sense 14 k))

/-! ### Performance counters (R491 to R494) -/

def State.modCounters (s : State) (f : Counters → Counters) : State := { s with vol.counters := f s.vol.counters }

/-- The qualifier that a selection takes (Table Rec-4): 0 none, 1 flow, 2 lane. -/
def qualifierOf (sel : Nat) : Nat := ((counterEvents.find? fun e => e.1 == sel).map (·.2)).getD 0

/-- Whether `qual` lies in its range for `qual_kind`. -/
def qualOk (kind qual : Nat) : Bool := if kind = 0 then qual == 0 else if kind = 1 then decide (qual ≤ 4095) else decide (qual ≤ 7)

def runCounterSelect (c : HostCmd) (s : State) : CmdResult :=
  let ps := c.packet.params
  let sel := fld ps 2 2
  let kind := fld ps 4 1
  if !qualOk kind (fld ps 6 2) then .refuse erRange 6
  else if kind ≠ 0 ∧ kind ≠ qualifierOf sel then .refuse erRange 4
  else
    let n : Counter :=
      { value := 0, sel := sel, irq := fld ps 1 1 == 1, qualKind := kind, qual := fld ps 6 2, overflow := false }
    .ok (s.modCounters fun k => { k with counters := k.counters.set (fld ps 0 1) n }) []

/-- One instant for all 64 counters (R493). -/
def counterControl (op mask mtbNs : Nat) (k : Counters) : Counters :=
  if op = 0 then { k with frozen := true }
  else if op = 1 then { k with frozen := false }
  else if op = 2 then { k with snap := k.counters.map (·.value), snapMtb := mtbNs }
  else { k with counters := k.counters.mapIdx fun i c => if mask.testBit i then { c with value := 0 } else c }

def runCounterControl (c : HostCmd) (s : State) : CmdResult :=
  let ps := c.packet.params
  let op := fld ps 0 1
  if op ≠ 3 ∧ fld ps 8 8 ≠ 0 then .refuse erRange 8
  else .ok (s.modCounters (counterControl op (fld ps 8 8) s.mtbNs)) (leBytes 8 s.mtbNs)

/-- One counter as COUNTER.READ gives it. -/
def counterBytes (k : Counters) (snap : Bool) (i : Nat) : List Byte :=
  let c := k.counters.getD i default
  leBytes 6 (if snap then k.snap.getD i 0 else c.value) ++ leBytes 1 (b2n c.overflow + 2 * b2n c.irq) ++ zeros 1

def runCounterRead (c : HostCmd) (s : State) : CmdResult :=
  let ps := c.packet.params
  let first := fld ps 0 1
  let count := fld ps 1 1
  let op := fld ps 2 1
  let k := s.vol.counters
  if 64 < first + count then .refuse erRange 1
  else
    let bs := leBytes 8 (if op = 1 then k.snapMtb else s.mtbNs) ++ leBytes 1 (b2n k.frozen) ++ zeros 7 ++
      (List.range count).flatMap fun i => counterBytes k (op == 1) (first + i)
    let t := if op = 2 then
        s.modCounters fun k => { k with counters := k.counters.mapIdx fun i c =>
          if first ≤ i ∧ i < first + count then { c with overflow := false } else c }
      else s
    .ok t bs

/-- A counter passes from its highest value to 0 (R492). -/
def execCounterOverflow (counter : Nat) (s : State) : Host.Outcome State Fault Refusal :=
  match s.vol.counters.counters[counter]? with
  | none => .next s
  | some c =>
    if c.sel = 0 ∨ s.vol.counters.frozen then .next s
    else
      let s := s.modCounters fun k =>
        { k with counters := k.counters.set counter { c with value := 0, overflow := true } }
      .next (if c.irq then sendMsg 0x1380 (overflowMsg counter c.sel s.mtbNs) s else s)

def execRecordRead (p : Packet) (s : State) : Host.Outcome State Fault Refusal := .next (serve 0x1201 runRecordRead p s)
def execRecordStatus (p : Packet) (s : State) : Host.Outcome State Fault Refusal := .next (serve 0x1202 runRecordStatus p s)
def execRecordConfig (p : Packet) (s : State) : Host.Outcome State Fault Refusal := .next (serve 0x1203 runRecordConfig p s)
def execRecordMark (p : Packet) (s : State) : Host.Outcome State Fault Refusal := .next (serve 0x1204 runRecordMark p s)
def execCounterSelect (p : Packet) (s : State) : Host.Outcome State Fault Refusal :=
  .next (serve 0x1301 runCounterSelect p s)
def execCounterControl (p : Packet) (s : State) : Host.Outcome State Fault Refusal :=
  .next (serve 0x1302 runCounterControl p s)
def execCounterRead (p : Packet) (s : State) : Host.Outcome State Fault Refusal := .next (serve 0x1303 runCounterRead p s)

end Sys2Proof.Machine
end

