-- ==== Sys2Proof/Machine/Tasks.lean ====
section
/-! DEFINITION.
Tasks and the allotter (R332 to R335), the tick boundary (R314, R326), and the opcodes of tasks (chapter 12).
-/

namespace Sys2Proof.Machine

/-! ### The path search of the allotter (R333) -/

/-- A path found: its time up to the end of its last entry and up to the beginning of it, its entries, whether its last entry is the
second of a turn-back pair, and else the least turn_off of a turn-back on it. -/
structure Found where
  time   : Rat
  into   : Rat
  path   : List PathEntry
  turned : Bool
  least  : Nat

/-- The order of two lists of segment numbers. -/
def segsBefore : List PathEntry → List PathEntry → Bool
  | [], b => !b.isEmpty
  | _ :: _, [] => false
  | x :: xs, y :: ys => decide (x.seg < y.seg) || (x.seg == y.seg && segsBefore xs ys)

/-- The shorter time, or of equal times the lexicographically lowest list of segments. -/
def Found.beats (a b : Found) : Bool := decide (a.time < b.time) || (decide (a.time = b.time) && segsBefore a.path b.path)

/-- Time of a length on a segment. -/
def runTime (c : DykeClass) (x : Segment) (len : Rat) : Rat := len / (max 1 (min x.speed c.vMax) : Nat)

/-- Whether a member of a class may be led over a segment in a direction (R305, R306, R331). -/
def State.usableSeg (s : State) (node : Nat) (c : DykeClass) (g : Nat) (x : Segment) (rev : Bool) : Bool :=
  decide (c.widthNeed ≤ x.width) && !(x.rule == 0 && rev) && s.enterable node g x

/-- The entries that can follow an entry through its junction. -/
def State.nextEntries (s : State) (node : Nat) (c : DykeClass) (e : PathEntry) : List (PathEntry × Segment) :=
  match s.segment e.seg with
  | none => []
  | some x =>
    let j := (entryJunctions x e.rev).2
    match tget s.cfg.dyke.live.juncs j with
    | none => []
    | some k =>
      (k.ends.filter fun g => k.turn e.seg g).eraseDups.flatMap fun g =>
        match s.segment g with
        | none => []
        | some y => ([false, true].filter fun r =>
            (entryJunctions y r).1 == j && s.usableSeg node c g y r && !(g == e.seg && r != e.rev)).map fun r =>
              (⟨g, r, 0⟩, y)

/-- A path that turns back on its last entry, at `off` from the entry's beginning (R315): a turn-back pair takes the place of the entry. -/
def State.turnOn (s : State) (c : DykeClass) (f : Found) (off : Nat) : Option Found :=
  f.path.getLast?.bind fun e => (s.segment e.seg).bind fun x =>
    if !f.turned && (x.rule == 1 || x.rule == 2) && x.reversible && c.mayReverse && decide (1 ≤ off) && decide (off ≤ x.lengthMm) then
      let into := f.into + runTime c x off
      some ⟨into + runTime c x off, into, f.path.dropLast ++ [{ e with turnOff := off }, ⟨e.seg, !e.rev, 0⟩], true, 0⟩
    else none

/-- The paths that are one entry longer than a path: through a junction, or by the turn-back that takes the least time. -/
def State.onward (s : State) (node : Nat) (c : DykeClass) (f : Found) : List Found :=
  match f.path.getLast? with
  | none => []
  | some e =>
    ((s.nextEntries node c e).map fun (n, y) => ⟨f.time + runTime c y y.lengthMm, f.time, f.path ++ [n], false, 1⟩) ++
      (s.turnOn c f f.least).toList

/-- One round of the search: the best paths known, and those that the last round found or bettered. -/
def searchRound (s : State) (node : Nat) (c : DykeClass) (best front : List Found) : List Found × List Found :=
  (front.flatMap (s.onward node c)).foldl (fun (best, out) cand =>
    let same := fun b : Found => b.path.getLast? == cand.path.getLast? && b.turned == cand.turned
    match best.find? same with
    | some b => if cand.beats b then (cand :: best.filter fun b => !same b, cand :: out.filter fun b => !same b) else (best, out)
    | none => (cand :: best, cand :: out)) (best, [])

/-- The best paths to the end of every entry that can be reached, of at most 256 entries. -/
def searchAll (s : State) (node : Nat) (c : DykeClass) : Nat → List Found → List Found → List Found
  | 0, best, _ => best
  | n + 1, best, front =>
    if front.isEmpty then best
    else
      let (b, f) := searchRound s node c best front
      searchAll s node c n b f

/-- The offset of a location on an entry, from its beginning in its direction. A task's offset counts from the
from-junction (DEDUCED, log 36). -/
def locOffset (x : Segment) (rev : Bool) (off : Nat) : Nat := if rev then x.lengthMm - off else off

/-- The paths that end at a task's location from a path found: on an entry more, or by a turn-back on its last entry, with the offset of
the location there. -/
def State.arrivals (s : State) (node : Nat) (c : DykeClass) (t : Task) (y : Segment) (dirs : List Bool) (f : Found) :
    List (Found × Nat) :=
  match f.path.getLast? with
  | none => []
  | some e =>
    let on := ((s.nextEntries node c e).filter fun n => n.1.seg == t.seg && dirs.contains n.1.rev).map fun n =>
      let o := locOffset y n.1.rev t.offset
      ((⟨f.time + runTime c y o, f.time, f.path ++ [n.1], false, 1⟩ : Found), o)
    let back :=
      if e.seg = t.seg ∧ dirs.contains (!e.rev) then
        let x := locOffset y e.rev t.offset
        let off := max f.least x
        ((s.turnOn c f off).map fun g => ({ g with time := g.into + runTime c y (off - x : Nat) }, off - x)).toList
      else []
    on ++ back

/-- The least-time path from the member's present entry at distance `d` to a task's location, with the offset there. -/
def State.taskPath (s : State) (node : Nat) (c : DykeClass) (here : PathEntry) (turned : Bool) (d : Rat) (t : Task) :
    Option (List PathEntry × Nat) :=
  match s.segment here.seg, s.segment t.seg with
  | some x, some y =>
    let dirs := [false, true].filter fun r => (t.dir == 2 || (t.dir == 1) == r) && s.usableSeg node c t.seg y r
    let start : Found :=
      ⟨runTime c x (x.lengthMm - d), 0 - runTime c x d, [{ here with turnOff := 0 }], turned, max 1 d.ceil.toNat⟩
    let all := searchAll s node c 255 [start] [start]
    let direct := (dirs.filter fun r => t.seg == here.seg && r == here.rev &&
        decide (d ≤ (locOffset y r t.offset : Rat))).map fun r =>
      ({ start with time := runTime c y (locOffset y r t.offset - d) }, locOffset y r t.offset)
    ((direct ++ all.flatMap (s.arrivals node c t y dirs)).filter fun e => decide (e.1.path.length ≤ 256)).foldl (fun m e =>
      match m with
      | none => some e
      | some b => if e.1.beats b.1 then some e else some b) none |>.map fun e => (e.1.path, e.2)
  | _, _ => none

/-- Lists of entries that extend a path, one entry longer, lowest segment numbers first. -/
def State.longer (s : State) (node : Nat) (c : DykeClass) (last : PathEntry) (l : List (List PathEntry)) :
    List (List PathEntry) :=
  l.flatMap fun x => ((s.nextEntries node c (x.getLast?.getD last)).map fun n => x ++ [n.1]).mergeSort fun a b =>
    !segsBefore b a

/-- The plan of an offer with the fewest overrun entries that its reach needs, then the lowest ids. -/
def extendPlan (s : State) (node : Nat) (c : DykeClass) (mk : List PathEntry → PathReq) (last : PathEntry) :
    Nat → List (List PathEntry) → Option (PathReq × List Phase × Nat × List (Nat × Nat × Window))
  | 0, _ => none
  | n + 1, l =>
    let tried := l.map fun x => (mk x, (mk x).plan node)
    match tried.findSome? fun (q, r) => match r with
      | .ok (ps, a, ws) => some (q, ps, a, ws)
      | .error _ => none with
    | some r => some r
    | none =>
      if tried.any fun (_, r) => match r with
          | .error (2, _) => true
          | _ => false then extendPlan s node c mk last n (s.longer node c last l)
      else none

/-! ### The allotter -/

/-- Whether a member is idle (R333). -/
def State.idleMember (s : State) (node : Nat) : Bool :=
  (s.conn node).isSome && (s.dykeClass node).isSome && (s.taskOf node).isNone && !s.covered node && !s.withheld node &&
    (match s.allot node with
     | some al => al.ended
     | none => false) &&
    (match s.planned node s.atbNow with
     | some (k, _, _) => !k.moves
     | none => false) &&
    match s.posRec node with
    | some r => r.usable
    | none => false

/-- A task's location in the plane. -/
def State.taskPoint (s : State) (t : Task) : Option (Rat × Rat) :=
  (s.segment t.seg).bind fun x => (s.cfg.dyke.live.curve x).map fun c => c.point (t.offset * c.arc / (max 1 x.lengthMm : Nat))

/-- The square of a member's straight-line distance from a point. -/
def State.distance2 (s : State) (node : Nat) (p : Rat × Rat) : Rat :=
  match s.posRec node with
  | none => 0
  | some r =>
    let (x, y) := localOf s.origin (r.x, r.y, r.z)
    (x - p.1) * (x - p.1) + (y - p.2) * (y - p.2)

/-- Seconds left of a task's deadline. -/
def State.remaining (s : State) (t : Task) : Rat := t.deadlineS - mkRat (s.clock - t.queuedAt) tickS

/-- The plan that a member would make for a task: the request, its phases, arrival and windows. The offer is planned at
the limits of the class (DEDUCED, log 36). -/
def State.offerPlan (s : State) (node : Nat) (t : Task) :
    Option (PathReq × List Phase × Nat × List (Nat × Nat × Window)) :=
  let tick0 := s.tick + 1
  match s.allot node, s.dykeClass node, s.planned node (atbOfAsn (5 * tick0)) with
  | some al, some c, some (k, _, rev) =>
    let sp := pathSpans al.path al.lens
    let i := entryAt sp k.s
    let m0 := entryAt sp (k.s - (c.ends rev).2)
    let m := if turnSecond al.path m0 then m0 - 1 else m0
    match al.path[i]? with
    | none => none
    | some e =>
      let base := (sp.getD m (0, 0)).1
      let tail := (al.path.take i).drop m
      (s.taskPath node c e (turnSecond al.path i) (k.s - (sp.getD i (0, 0)).1 + entryBase al.path al.lens i) t).bind fun (path, o) =>
        let n := tail.length + path.length
        let mk := fun ext => s.request c (tail ++ path ++ ext) tail.length (n - 1) o c.vMax c.aMax (min c.jMax 65535)
          ⟨k.s - base, 0, 0⟩ rev tick0 (s.cfg.dyke.offerS * 1000000)
        extendPlan s node c mk (path.getLast?.getD e) (257 - min 256 n) [[]]
  | _, _, _ => none

/-- A candidate's plan when its check passes and it meets the deadline: windows on border segments need their owners ready (R310). -/
def State.candidate (s : State) (t : Task) (node : Nat) : Option (PathReq × Nat) :=
  (s.offerPlan node t).bind fun (q, _, a, ws) =>
    let owners := s.ownersOf (ws.map fun e => e.2.1)
    if (s.clash node (ws.filter fun e => !s.border e.2.1)).isSome || owners.any (fun o => !s.ownerReady o) then none
    else if t.deadlineS = 0 ∨ (mkRat (a - s.tick) 100 + t.durationS : Rat) ≤ s.remaining t then some (q, a)
    else none

/-- An offer is a path request of the allotter: it commits the member's windows, or asks the owners of border segments first, and its
profile waits for acceptance (R310, R321, R334). -/
def offerTask (no node : Nat) (q : PathReq) (s : State) : State :=
  match submit node { q with task := some no, offer := true } none none s with
  | .done s => match s.allot node with
    | some al => offered node al s
    | none => s
  | .waits s => s
  | _ => s

/-- Whether a task's offer, or a request of a node, waits for other owners. -/
def State.bordering (s : State) (f : BorderRun → Bool) : Bool := s.vol.dyke.border.any f

/-- One pending task is served (R333). -/
def serveTask (no : Nat) (s : State) : State :=
  match tget s.ctl.dyke.tasks no with
  | none => s
  | some t =>
    match s.taskPoint t with
    | none => s
    | some p =>
      let now := s.clock
      let idle := (tkeys s.ctl.conns).filter fun n => s.idleMember n && !(s.bordering fun b => b.node == n) &&
        ((tget s.cfg.dyke.members n).map fun c => t.mask.testBit c).getD false &&
        !(t.bars.any fun b => b.1 == n && decide (now < b.2))
      let near := (idle.mergeSort fun a b => decide (s.distance2 a p ≤ s.distance2 b p)).take s.cfg.dyke.maxCand
      let best := near.foldl (fun m n => match s.candidate t n, m with
        | some (q, a), none => some (n, q, a)
        | some (q, a), some (b, _, a0) => if a < a0 ∨ (a = a0 ∧ n < b) then some (n, q, a) else m
        | none, _ => m) none
      if s.bordering fun b => b.allot.waiting && b.allot.task == some no then s
      else
        let s := near.foldl (fun s _ => countCheck s) s
        match best with
        | some (n, q, _) => offerTask no n q s
        | none => s

/-- The order in which pending tasks are served: priority, deadline, queueing. -/
def State.taskBefore (s : State) (a b : Task) : Bool :=
  let d := fun t : Task => if t.deadlineS = 0 then none else some (s.remaining t)
  if a.priority ≠ b.priority then decide (b.priority < a.priority)
  else match d a, d b with
    | some x, some y => if x = y then decide (a.order ≤ b.order) else decide (x < y)
    | some _, none => true
    | none, some _ => false
    | none, none => decide (a.order ≤ b.order)

/-- A run of the allotter. -/
def allotterRun (s : State) : State :=
  let pend := (s.ctl.dyke.tasks.filter fun e => e.2.state == .pending).mergeSort fun a b => s.taskBefore a.2 b.2
  pend.foldl (fun s e => serveTask e.1 s) s

def execAllotterRun (s : State) : Host.Outcome State Fault Refusal := .next (workOn 10 0x882 0 .allotterRun allotterRun s)
def execAllotterPeriodic (s : State) : Host.Outcome State Fault Refusal := .next (workOn 10 0x882 0 .allotterPeriodic allotterRun s)

/-! ### The life of a task (R334, R335) -/

/-- An offer ends without acceptance: the windows are freed except the footprint, and the member stays at rest. -/
def withdrawOffer (node : Nat) (s : State) : State :=
  let s := s.modAllot node fun al =>
    let sp := pathSpans al.path al.lens
    let i := entryAt sp al.plan.s
    { al with
      plan := { al.plan with v := 0, a := 0, phases := [] }, targetIdx := i
      target := (al.plan.s - (sp.getD i (0, 0)).1).floor.toNat, ended := true, waiting := false, task := none }
  let segs := s.footprint node
  let old := (s.nodeCopies node).map (·.1)
  let s := (freeWindows node (fun g _ => segs.contains g) (pinFootprint node s)).2
  let left := (s.nodeCopies node).map (·.1)
  releaseCopies node (old.filter fun g => !left.contains g) s

/-- A declined or timed-out offer: the member is barred for decline_s, and the task is pending again. -/
def returnTask (no state : Nat) (s : State) : State :=
  match tget s.ctl.dyke.tasks no with
  | none => s
  | some t =>
    let now := s.clock
    let s := withdrawOffer t.node s
    let s := taskEvent no t state t.node 0xFFFF s
    let bar := (t.node, now + s.cfg.dyke.declineS * tickS)
    let s := s.modTask no fun t => { t with state := .pending, node := 0, bars := t.bars ++ [bar] }
    askAllot (taskEvent no t 0 0 0xFFFF s)

/-- A task is taken from the list with its last event. -/
def endTask (no state : Nat) (s : State) : State :=
  match tget s.ctl.dyke.tasks no with
  | none => s
  | some t =>
    let s := if t.state = .offered then withdrawOffer t.node s else s
    let s := { s with ctl.dyke := { s.ctl.dyke with tasks := tdel s.ctl.dyke.tasks no } }
    taskEvent no t state t.node (if t.state = .accepted ∨ t.state = .arrived then t.arrive % 65536 else 0xFFFF) s

def State.taskState (s : State) (no : Nat) : Option TaskState := (tget s.ctl.dyke.tasks no).map (·.state)

def execOfferTimeout (task : Nat) (s : State) : Host.Outcome State Fault Refusal :=
  .next (if s.taskState task = some .offered then returnTask task 4 s else s)

def execDeclineBarExpiry (task node : Nat) (s : State) : Host.Outcome State Fault Refusal :=
  .next (s.modTask task fun t => { t with bars := t.bars.filter fun b => b.1 != node })

def execTaskDeadlineExpiry (task : Nat) (s : State) : Host.Outcome State Fault Refusal :=
  match tget s.ctl.dyke.tasks task with
  | some t =>
    if t.deadlineS ≠ 0 ∧ (t.state = .pending ∨ t.state = .offered) then .next (endTask task 7 s) else .next s
  | none => .next s

/-- Whether a member rests at the location of its task: its allotment for that task has ended, and it has not moved off. -/
def State.restsAt (s : State) (node no : Nat) : Bool :=
  match s.allot node, s.planned node s.atbNow with
  | some al, some (k, _, _) => al.task == some no && al.ended && !k.moves
  | _, _ => false

/-- A task is done once its member has rested at its location for its duration (R335). -/
def execTaskDone (task : Nat) (s : State) : Host.Outcome State Fault Refusal :=
  match tget s.ctl.dyke.tasks task with
  | some t => .next (if t.state = .arrived ∧ s.restsAt t.node task then endTask task 6 s else s)
  | none => .next s

/-! ### The tick boundary (R314, R326) -/

/-- The members that are idle now; when one has become idle since the last tick, a run of the allotter is asked for (R333). -/
def noteIdle (s : State) : State :=
  let now := (tkeys s.ctl.conns).filter s.idleMember
  let t := { s with vol.dyke := { s.vol.dyke with idle := now } }
  if now.all s.vol.dyke.idle.contains then t else askAllot t

/-- ATB passes to the next tick: unpinned windows that have ended are freed, footprints due are pinned, and plans make
progress. -/
def execTickBoundary (s : State) : Host.Outcome State Fault Refusal :=
  let s := passToAtb (atbOfAsn (5 * (s.tick + 1))) s
  let t := s.tick
  let live := fun (_ : Nat) (w : Window) => if !w.pinned && decide (w.stop ≤ t) then none else some w
  let s := s.mapWindows live
  let s := (tkeys s.ctl.dyke.copies).foldl (fun s n => s.mapCopies n live) s
  let due := s.vol.dyke.pinDue
  let s := due.foldl (fun s n => pinFootprint n s) { s with vol.dyke := { s.vol.dyke with pinDue := [] } }
  .next (noteIdle ((tkeys s.ctl.dyke.allots).foldl (fun s n => progress n s) s))

/-! ### Opcodes -/

/-- The next task number that no task holds. -/
def freeTask (tasks : Tbl Task) : Nat → Nat → Nat
  | 0, n => n
  | f + 1, n => if (tget tasks (n % 65536)).isSome then freeTask tasks f (n + 1) else n % 65536

def runTaskQueue (c : HostCmd) (s : State) : CmdResult :=
  let ps := c.packet.params
  let d := s.ctl.dyke
  let dir := fld ps 6 1
  let seg := s.segment (fld ps 4 2)
  let long := match seg with
    | some x => decide (x.lengthMm < fld ps 8 4)
    | none => false
  let bad := match seg with
    | some x => x.rule == 0 && dir == 1
    | none => true
  if long then .refuse erRange 8
  else if 8192 ≤ d.tasks.length then .refuse erCapacity 0
  else if bad then .refuse erRange 4
  else
    let no := freeTask d.tasks 8192 d.nextTask
    let t : Task :=
      { order := d.nextOrder, ref := fld ps 0 4, seg := fld ps 4 2, dir := dir, priority := fld ps 7 1, offset := fld ps 8 4,
        mask := fld ps 12 8, deadlineS := fld ps 20 4, durationS := fld ps 24 2, queuedAt := s.clock, state := .pending,
        node := 0, arrive := 0, bars := [] }
    let s := { s with ctl.dyke := { d with
      tasks := tput d.tasks no t, nextTask := (no + 1) % 65536, nextOrder := d.nextOrder + 1 } }
    .accepted (askAllot (taskEvent no t 0 0 0xFFFF s)) (leBytes 2 no ++ zeros 2)

/-- The state of a task as TASK.EVENT codes it; 8 for one that is not held. -/
def taskCode : Option TaskState → Nat
  | some .pending => 0
  | some .offered => 1
  | some .accepted => 2
  | some .arrived => 5
  | none => 8

def runTaskAccept (c : HostCmd) (s : State) : CmdResult :=
  let no := fld c.packet.params 0 2
  match tget s.ctl.dyke.tasks no with
  | none => .refuse erState (taskCode none)
  | some t =>
    if t.state ≠ .offered then .refuse erState (taskCode (some t.state))
    else if fld c.packet.params 2 1 = 1 then .accepted (returnTask no 3 s) []
    else
      let s := s.modTask no fun t => { t with state := .accepted }
      let s := freshFrame t.node (s.modAllot t.node fun a => { a with waiting := false })
      .accepted (taskEvent no t 2 t.node (t.arrive % 65536) s) []

def runTaskCancel (c : HostCmd) (s : State) : CmdResult :=
  let no := fld c.packet.params 0 2
  match tget s.ctl.dyke.tasks no with
  | none => .refuse erState 0
  | some _ => .accepted (endTask no 8 s) []

def execTaskQueue (p : Packet) (s : State) : Host.Outcome State Fault Refusal := .next (serve 0x0911 runTaskQueue p s)
def execTaskAccept (p : Packet) (s : State) : Host.Outcome State Fault Refusal := .next (serve 0x0912 runTaskAccept p s)
def execTaskCancel (p : Packet) (s : State) : Host.Outcome State Fault Refusal := .next (serve 0x0913 runTaskCancel p s)

end Sys2Proof.Machine
end

