-- ==== Sys2Proof/Machine/Flags.lean ====
section
/-! DEFINITION.
The status words of the host window, as read (Tables Host-8 to Host-19).
-/

namespace Sys2Proof.Machine

/-- HW_IDENT (Table Host-8). -/
def hwIdent : Nat := 0x9480B007

/-- HW_ACTIVE (Table Host-10). -/
def hwActive (s : State) : Nat :=
  let h := s.hsw
  (sideNo (h.active.getD h.last)) + 2 * b2n h.serving + 4 * b2n s.standbyOk + 8 * b2n h.strapFault +
    16 * b2n h.active.isNone + 256 * (h.changes % 256)

/-- BUSY of HW_RING_CTRL: fetched packets or unwritten entries of the ring set are held (Table Host-17). -/
def ringBusy (n : Nat) (s : State) : Bool :=
  let r := s.ring n
  !r.held.isEmpty || (s.sess n).inFlight.any fun f => f.phase != .awaitingDurable && viaRing? f.cmd.packet.via == some n

/-- HW_RING_CTRL (Table Host-17). -/
def hwRingCtrl (n : Nat) (s : State) : Nat :=
  let r := s.ring n
  b2n r.enable + 2 * b2n (ringBusy n s) + 16 * r.sqOrder + 256 * r.cqOrder

/-- HW_RING_ERR (Table Host-14). -/
def hwRingErr (s : State) : Nat :=
  s.hsw.ringErrCode + 16 * s.hsw.ringErrSet + 65536 * s.hsw.ringErrCount

/-- HW_MODERATE (Table Host-19). -/
def hwModerate (n : Nat) (s : State) : Nat :=
  let r := s.ring n
  r.count + 65536 * r.timerUs

/-- One register of ring set `n` at its offset from 0x0100 + 0x40 × n. -/
def ringRegister (n off : Nat) (s : State) : Nat :=
  let r := s.ring n
  if off = 0x00 then r.sqBaseLo
  else if off = 0x04 then r.sqBaseHi
  else if off = 0x08 then r.cqBaseLo
  else if off = 0x0C then r.cqBaseHi
  else if off = 0x10 then hwRingCtrl n s
  else if off = 0x14 then r.sqHead
  else if off = 0x18 then r.cqTail
  else if off = 0x1C then hwModerate n s
  else 0

/-- A register of the host window as read (Table Host-7); reserved offsets and HW_DOORBELL read zero. -/
def hwRegister (off : Nat) (s : State) : Nat :=
  if off = 0x00 then hwIdent
  else if off = 0x04 then s.hsw.alive
  else if off = 0x08 then hwActive s
  else if off = 0x0C then s.hsw.epoch
  else if off = 0x10 then s.hsw.irqCause.toNat
  else if off = 0x14 then s.hsw.irqMask.toNat
  else if off = 0x1C then hwRingErr s
  else if 0x100 ≤ off ∧ off < 0x140 then ringRegister 0 (off - 0x100) s
  else if 0x140 ≤ off ∧ off < 0x180 then ringRegister 1 (off - 0x140) s
  else 0

/-- The maintenance status word (R116): READY while a packet can be taken (R117, R435). -/
def mntStatus (s : State) : Nat :=
  let m := s.hsw.mnt
  b2n (s.canFetch .mnt) + 2 * b2n (!m.held.isEmpty) + 4 * b2n m.crcErr +
    8 * b2n m.short + 256 * m.held.length

end Sys2Proof.Machine
end

