-- ==== Sys2Proof/Machine/Host.lean ====
section
/-! DEFINITION.
The host window, the rings, the maintenance port and the sessions (chapter 04).
-/

namespace Sys2Proof.Machine

/-! ### Host window registers -/

/-- A write of HW_DOORBELL with KIND 0 (R91, R120). An INDEX that is no counter value is a ring error 2: DESIGN CHOICE (log 140). -/
def sqDoorbell (n index : Nat) (s : State) : State :=
  let r := s.ring n
  if !s.hsw.serving then s
  else if !r.enable then ringError 1 n s
  else if 2 * 2 ^ r.sqOrder ≤ index ∨ 2 ^ r.sqOrder < ringDist r.sqOrder index r.sqHead then ringError 2 n s
  else s.modRing n fun r => { r with sqTail := index }

/-- A write of HW_DOORBELL with KIND 1: the entries passed leave the ring, and held entries are written (R93). An INDEX that is no
counter value is a ring error 3: DESIGN CHOICE (log 140). -/
def cqDoorbell (n index : Nat) (s : State) : State :=
  let r := s.ring n
  if !s.hsw.serving then s
  else if !r.enable then ringError 1 n s
  else if 2 * 2 ^ r.cqOrder ≤ index ∨
      ringDist r.cqOrder r.cqTail r.cqHead < ringDist r.cqOrder index r.cqHead then ringError 3 n s
  else
    let k := ringDist r.cqOrder index r.cqHead
    flushHeld n (2 ^ r.cqOrder) (s.modRing n fun r => { r with cqHead := index, cq := r.cq.drop k })

/-- A W1C write of HW_IRQ_CAUSE with the causes that events set in the same cycle. MNT is set again while entries are
held, and TAMPER while a side's tamper mark stands and a side serves (Table Host-11, R455). -/
def clearIrq (value events : Nat) (s : State) : State :=
  let s := { s with hsw.irqCause := s.hsw.irqCause &&& ~~~(BitVec.ofNat 11 value) }
  let s := (bitsOf 11 events).foldl (fun s k => raiseIrq k s) s
  let s := if s.hsw.mnt.held.isEmpty then s else raiseIrq irqMnt s
  if (s.hsw.nv.tamperA || s.hsw.nv.tamperB) && s.hsw.serving then raiseIrq irqTamper s else s

/-- An order field: 4 to 8, other values read back as 4 (Table Host-17). -/
def ringOrder (v : Nat) : Nat := if 4 ≤ v ∧ v ≤ 8 then v else 4

/-- The session of a ring set ends when its ring or link does (R110). -/
def ringLost (n : Nat) (s : State) : State :=
  let x := s.sess n
  let s := if x.isOpen && viaRing? x.via == some n then endSession n 2 s else s
  resetRing n s

/-- A write of HW_RING_CTRL (Table Host-17, R110, R120). While ENABLE is set it is ring error 6 when it names another order, so that
ENABLE can be cleared without an error: DESIGN CHOICE (log 141). -/
def ringCtrlWrite (n value : Nat) (s : State) : State :=
  let r := s.ring n
  let sq := ringOrder (value / 16 % 16)
  let cq := ringOrder (value / 256 % 16)
  if r.enable then
    let s := if sq = r.sqOrder ∧ cq = r.cqOrder then s else ringError 6 n s
    if value.testBit 0 then s else ringLost n s
  else s.modRing n fun r => { r with sqOrder := sq, cqOrder := cq, enable := value.testBit 0 }

/-- A write of a base register: bits 31:12 of a low word; ring error 6 while ENABLE is set, of the same value too (log 141). -/
def ringBaseWrite (n off value : Nat) (s : State) : State :=
  if (s.ring n).enable then ringError 6 n s
  else
    let lo := value / 4096 % 1048576 * 4096
    let hi := value % 2 ^ 32
    s.modRing n fun r =>
      if off = 0x00 then { r with sqBaseLo := lo }
      else if off = 0x04 then { r with sqBaseHi := hi }
      else if off = 0x08 then { r with cqBaseLo := lo }
      else { r with cqBaseHi := hi }

/-- A write of a register of ring set `n`. -/
def ringRegisterWrite (n off value : Nat) (s : State) : State :=
  if off ≤ 0x0C ∧ off % 4 = 0 then ringBaseWrite n off value s
  else if off = 0x10 then ringCtrlWrite n value s
  else if off = 0x1C then s.modRing n fun r => { r with timerUs := value / 65536 % 1024, count := value % 256 }
  else s

/-- A write of word `k` of an MSI-X table entry: PRESUMED, the layout of the PCIe standard (log 139). -/
def MsixEntry.put (k w : Nat) (e : MsixEntry) : MsixEntry :=
  match k with
  | 0 => { e with addrLo := w }
  | 1 => { e with addrHi := w }
  | 2 => { e with data := w }
  | _ => { e with masked := w.testBit 0 }

/-- Word `k` of the MSI-X table entry of vector `v` is written (R112); the vector goes out when its mask bit clears while it is
pending. -/
def msixWrite (v k w : Nat) (s : State) : State :=
  let s := { s with hsw.msixTable := s.hsw.msixTable.modify v (MsixEntry.put k w) }
  if s.hsw.msixPba.testBit v && !((s.hsw.msixTable.getD v default).masked) then
    sendVector v { s with hsw.msixPba := setBit s.hsw.msixPba v false }
  else s

/-- A write to BAR0 past the host window: the MSI-X table from 0x2000, 16 bytes for each vector. The pending-bit array at 0x3000
takes no write. -/
def bar0Write (off value : Nat) (s : State) : State :=
  let v := (off - 0x2000) / 16
  if 0x2000 ≤ off ∧ v < 32 then msixWrite v (off / 4 % 4) (value % 2 ^ 32) s else s

/-- A write of a host window register (Table Host-7). Read-only and reserved offsets take nothing. -/
def writeRegister (off value : Nat) (s : State) : State :=
  if off = 0x10 then clearIrq value 0 s
  else if off = 0x14 then { s with hsw.irqMask := BitVec.ofNat 11 value }
  else if off = 0x18 then
    if value.testBit 31 then cqDoorbell (b2n (value.testBit 16)) (value % 512) s
    else sqDoorbell (b2n (value.testBit 16)) (value % 512) s
  else if 0x100 ≤ off ∧ off < 0x140 then ringRegisterWrite 0 (off - 0x100) value s
  else if 0x140 ≤ off ∧ off < 0x180 then ringRegisterWrite 1 (off - 0x140) value s
  else s

/-- What the module answers on a read is appended to the record of its outputs. -/
def answerRead (bs : List Byte) (s : State) : State := { s with out.reads := s.out.reads ++ [bs] }

/-- A read of a host window register: reading HW_RING_ERR clears it (Table Host-14). -/
def readRegister (off : Nat) (s : State) : Nat × State :=
  (hwRegister off s,
   if off = 0x1C then { s with hsw := { s.hsw with ringErrCode := 0, ringErrSet := 0, ringErrCount := 0 } } else s)

def execSqTailDoorbell (set index : Nat) (s : State) : Host.Outcome State Fault Refusal :=
  .next (sqDoorbell (set % 2) (index % 512) s)

def execCqHeadDoorbell (set index : Nat) (s : State) : Host.Outcome State Fault Refusal :=
  .next (cqDoorbell (set % 2) (index % 512) s)

def execIrqCauseClear (value events : Nat) (s : State) : Host.Outcome State Fault Refusal :=
  .next (clearIrq value events s)

def execRingErrRead (s : State) : Host.Outcome State Fault Refusal :=
  let (v, s) := readRegister 0x1C s
  .next (answerRead (leBytes 4 v) s)

def execRingCtrlWrite (set value : Nat) (s : State) : Host.Outcome State Fault Refusal :=
  .next (ringCtrlWrite (set % 2) value s)

def execRegisterWrite (offset value : Nat) (s : State) : Host.Outcome State Fault Refusal :=
  .next (if offset < 0x200 then writeRegister offset value s else bar0Write offset value s)

/-- The ring's cause is raised TIMER_US after its first unsignalled entry (R113). -/
def execModerationTimerExpiry (set : Nat) (s : State) : Host.Outcome State Fault Refusal :=
  let n := set % 2
  if (s.ring n).timerRuns then
    .next (raiseIrq n (s.modRing n fun r => { r with timerRuns := false, unsignalled := 0 }))
  else .next s

/-! ### Sessions -/

/-- Reply of SESSION.OPEN. -/
def openReply (edition : Nat) (s : State) : List Byte :=
  let fw := fun f : Firmware => if f.running = 0 then f.slot0.version else f.slot1.version
  leBytes 1 edition ++ leBytes 1 (sideNo s.actId) ++ leBytes 1 0xB0 ++ leBytes 1 (s.cfg.fed.controller.getD 0xFF) ++
    leBytes 4 0x9480 ++ leBytes 4 s.hsw.epoch ++ leBytes 4 (fw s.act.firmware) ++ leBytes 4 (fw s.hsw.nv.firmware) ++
    leBytes 2 4064 ++ zeros 2

/-- The checks specific to SESSION.OPEN, with the session not open on this transport (R88, R115, R420). -/
def openError (p : Packet) (s : State) : Option (Nat × Nat) :=
  let k := viaSession p.via
  if commonEdition (fld p.params 0 1) = 0 then some (erVersion, moduleEditions)
  else if (s.sess k).isOpen then some (erBusy, if (s.sess k).via = .mnt then 1 else 0)
  else if 2 ≤ k && (s.boundPeer k).isNone then some (erAuth, 0)
  else none

/-- SESSION.OPEN as fetched on a transport that its session is not open on: refused with fetch_seq 0, or the instance
begins with this command as fetch sequence 1 (R97). -/
def openFetched (p : Packet) (s : State) : State :=
  let k := viaSession p.via
  let c := mkCmd 0x0101 p 0 (s.sqIndexOf p.via) s
  let s := countEvents 0x0001 none 1 (takeSlot p.via s)
  match (checkPacket 0x0101 p s).or (openError p s) with
  | some (st, d) => post p.via (cmdEntry c st d false []) s
  | none =>
    let e := commonEdition (fld p.params 0 1)
    let s := s.modSess k fun x =>
      { x with isOpen := true, via := p.via, edition := e, hostId := fld p.params 2 2, inst := x.inst + 1,
               lastSeq := 1, openEpoch := s.hsw.epoch, inFlight := [], effects := [] }
    post p.via (cmdEntry { c with fetchSeq := 1, inst := (s.sess k).inst } 0 0 false (openReply e s)) s

/-- SESSION.OPEN in a session that is open on its transport. -/
def runSessionOpen (c : HostCmd) (s : State) : CmdResult :=
  match openError c.packet s with
  | some (st, d) => .refuse st d
  | none => .ok s (openReply (s.sess c.session).edition s)

/-- The instance closes once its completion is posted (SESSION.CLOSE). It completes with ST_OK: DEDUCED (log 145). -/
def runSessionClose (c : HostCmd) (s : State) : CmdResult :=
  let n := ((s.sess c.session).inFlight.filter fun f => f.cmd.fetchSeq != c.fetchSeq).length
  if n ≠ 0 then .refuse erBusy n
  else .deferred (endSession c.session 1 (finish c 0 0 (leBytes 4 (s.sess c.session).lastSeq) s))

/-- One entry of the list of SESSION.TAGS. -/
def tagEntryBytes (e : TagEntry) : List Byte := leBytes 4 e.fetchSeq ++ leBytes 1 e.tag ++ zeros 1 ++ leBytes 2 e.opcode

def runSessionTags (c : HostCmd) (s : State) : CmdResult :=
  let r := s.ctl.records.getD (fld c.packet.params 0 1) SessionRecord.moduleStart
  .ok s (leBytes 4 r.epoch ++ leBytes 1 r.cause ++ zeros 1 ++ leBytes 2 r.list.length ++ leBytes 4 r.floor ++ zeros 4 ++
    r.list.flatMap tagEntryBytes)

/-! ### Fetch and start -/

/-- A packet is fetched (R98, R101, R103, R121). A poisoned packet is counted and refused with ER_INTEGRITY
(R380). The packet that would take
the last fetch sequence number is dropped with its instance: DESIGN CHOICE (log 144). -/
def fetchPacket (opcode : Nat) (p : Packet) (poisoned : Bool) (s : State) : State :=
  if !s.canFetch p.via then s
  else if !s.openOn p.via then
    if opcode = 0x0101 then openFetched p s
    else refuseClosed (mkCmd opcode p 0 (s.sqIndexOf p.via) s) (takeSlot p.via s)
  else if 0xFFFFFFFF ≤ (s.sess (viaSession p.via)).lastSeq + 1 then
    endSession (viaSession p.via) 2 (countEvents 0x0001 none 1 (takeSlot p.via s))
  else if poisoned then
    let k := viaSession p.via
    let c := mkCmd opcode p ((s.sess k).lastSeq + 1) (s.sqIndexOf p.via) s
    let s := (countEvents 0x0001 none 1 (takeSlot p.via s)).modSess k fun x => { x with lastSeq := x.lastSeq + 1 }
    let s := { s with vol.peat.uncorrect := satInc 32 s.vol.peat.uncorrect }
    let s := s.modQueue (0x810 + k) fun q => { q with poisoned := satInc 16 q.poisoned }
    post p.via (cmdEntry c erIntegrity (0x810 + k) false []) s
  else (admitPacket opcode p s).1

/-- Whether an SQ slot is filled (R91). -/
def State.sqFilled (s : State) (via : Transport) : Bool :=
  match viaRing? via with
  | some n => (s.ring n).sqTail != (s.ring n).sqHead
  | none => true

def execPacketFetch (via : Transport) (opcode : Nat) (packet : Packet) (readError poisoned : Bool) (s : State) :
    Host.Outcome State Fault Refusal :=
  let p := { packet with via := via }
  if !s.canFetch via || !s.sqFilled via then .next s
  else if readError then
    match viaRing? via with
    | some n => .next (ringError 4 n s)
    | none => .next s
  else .next (fetchPacket opcode p poisoned s)

/-- The whole path of SESSION.OPEN. -/
def serveOpen (p : Packet) (s : State) : State :=
  if s.canFetch p.via && !s.openOn p.via then openFetched p s else serve 0x0101 runSessionOpen p s

def execSessionOpen (p : Packet) (s : State) : Host.Outcome State Fault Refusal := .next (serveOpen p s)

def execSessionClose (p : Packet) (s : State) : Host.Outcome State Fault Refusal :=
  .next (serve 0x0102 runSessionClose p s)

def execSessionTags (p : Packet) (s : State) : Host.Outcome State Fault Refusal :=
  .next (serve 0x0103 runSessionTags p s)

/-! ### Maintenance port (R116 to R118) -/

/-- Transfer 0xA1. A good packet clears CRC_ERR and SHORT, which tell of the last packet and transfer: DEDUCED (log 146). -/
def execMntWritePacket (opcode : Nat) (packet : Packet) (crcOk complete : Bool) (s : State) :
    Host.Outcome State Fault Refusal :=
  if !s.hsw.ready then .next s
  else if !complete || !s.canFetch .mnt then
    .next { s with hsw.mnt.short := true }
  else if !crcOk then .next { s with hsw.mnt.crcErr := true }
  else
    let s := { s with hsw.mnt := { s.hsw.mnt with crcErr := false, short := false } }
    .next (fetchPacket opcode { packet with via := .mnt } false s)

/-- An entry removed from the port makes room for one that waits (R117). -/
def mntRefill (s : State) : State :=
  match s.hsw.mnt.waiting with
  | [] => s
  | e :: t =>
    let e := { e with epoch := s.hsw.epoch, mtbNs := s.mtbNs }
    raiseIrq irqMnt { s with hsw.mnt := { s.hsw.mnt with held := s.hsw.mnt.held ++ [e], waiting := t } }

/-- Transfer 0xA3: dummy, length, entry, CRC-32C over length and entry. -/
def execMntReadCompletion (complete : Bool) (s : State) : Host.Outcome State Fault Refusal :=
  if !s.hsw.ready then .next s
  else if !complete then .next { s with hsw.mnt.short := true }
  else
    match s.hsw.mnt.held with
    | [] => .next (answerRead (zeros 3 ++ leBytes 4 (crc32c (zeros 2))) s)
    | e :: t =>
      let body := leBytes 2 e.bytes.length ++ e.bytes
      .next (answerRead (zeros 1 ++ body ++ leBytes 4 (crc32c body))
        (mntRefill { s with hsw.mnt.held := t }))

/-- Transfer 0xA5: the status word, whose reading clears CRC_ERR and SHORT. A transfer that ends early is discarded (R116). -/
def execMntReadStatus (complete : Bool) (s : State) : Host.Outcome State Fault Refusal :=
  if !s.hsw.ready then .next s
  else if !complete then .next { s with hsw.mnt.short := true }
  else .next (answerRead (zeros 1 ++ leBytes 4 (mntStatus s))
    { s with hsw.mnt := { s.hsw.mnt with crcErr := false, short := false } })

/-- Transfer 0xA7. -/
def execMntReadRegister (offset : Nat) (complete : Bool) (s : State) : Host.Outcome State Fault Refusal :=
  if !s.hsw.ready then .next s
  else if !complete then .next { s with hsw.mnt.short := true }
  else
    let (v, s) := readRegister offset s
    .next (answerRead (zeros 1 ++ leBytes 4 v) s)

/-- Transfer 0xA8: HW_DOORBELL is out of reach, and ring set 1 takes nothing while session 1 is bound here (R118). -/
def execMntWriteRegister (offset value : Nat) (complete : Bool) (s : State) : Host.Outcome State Fault Refusal :=
  let bound := (s.sess 1).isOpen && (s.sess 1).via == .mnt
  if s.hsw.ready && !complete then .next { s with hsw.mnt.short := true }
  else if !s.hsw.ready || offset == 0x18 || (bound && decide (0x140 ≤ offset)) then .next s
  else .next (writeRegister offset value s)

/-! ### Link and host switch -/

/-- The PCIe session instances end and their ring sets return to reset values (R110); so does the MSI-X table (log 139). -/
def linkLoss (s : State) : State :=
  let s := ringLost 1 (ringLost 0 s)
  { s with hsw := { s.hsw with msixTable := msixReset, msixPba := 0 } }

/-- PCIE_PERST_N falls or rises (R55). -/
def execPciePerst (low : Bool) (s : State) : Host.Outcome State Fault Refusal :=
  if low then .next (linkLoss { s with hsw.pcieUp := false, hsw.perst := true })
  else .next { s with hsw.pcieUp := s.hsw.ready, hsw.perst := false }

def execPcieLinkLoss (s : State) : Host.Outcome State Fault Refusal := .next (linkLoss s)

/-- HW_ALIVE counts from host switch ready (Table Host-9). -/
def execHwAliveIncrement (s : State) : Host.Outcome State Fault Refusal :=
  if s.hsw.ready then .next { s with hsw.alive := (s.hsw.alive + 1) % 2 ^ 32 } else .next s

end Sys2Proof.Machine
end

