-- ==== Sys2Proof/Machine/Power.lean ====
section
/-! DEFINITION.
Power modes, RESET.SIDE, GPIO and senses, supply and thermal events, and the brown-out warning (chapters 02, 03).
-/

namespace Sys2Proof.Machine

/-! ### Power mode (R73, R143, R360, R396) -/

def modeCode : PowerMode → Nat
  | .run => 0
  | .idle => 1
  | .fen => 2

def modeOf (n : Nat) : PowerMode := if n = 1 then .idle else if n = 2 then .fen else .run

/-- The least of a list of nodes. -/
def leastNode (l : List Nat) : Option Nat := l.min?

/-- A change of mode is accepted and takes effect later; a mode equal to the present one completes with no change. -/
def runPowerMode (c : HostCmd) (s : State) : CmdResult :=
  let m := modeOf (fld c.packet.params 0 1)
  match (if m = .idle then leastNode s.grantedNodes else none) with
  | some n => .refuse erState n
  | none =>
    match (if m = .fen then leastNode (tkeys s.cfg.solver.members) else none) with
    | some n => .refuse erState n
    | none =>
      if s.vol.pendingMode.isSome then .refuse erBusy 0
      else if m = s.ctl.mode then .ok s (leBytes 1 (modeCode m) ++ zeros 3)
      else .deferred { s with vol.pendingMode := some (m, c) }

/-- What ends with the mode in force. Leaving active idle grants no permission: the permission map is kept (Table Reset-5), in which no
member held any. After a brown-out warning one core stays in service (R44). -/
def leaveMode (s : State) : State :=
  match s.ctl.mode with
  | .run => s
  | .idle => if s.hsw.warned then { s with ctl.mode := .run } else unparkCores { s with ctl.mode := .run }
  | .fen => timeFen (leaveFen { s with ctl.mode := .run })

/-- What begins with a mode. -/
def enterMode (m : PowerMode) (s : State) : State :=
  match m with
  | .run => { s with ctl.mode := .run }
  | .idle => stopPorts 3 (fun _ => true) (parkCores { s with ctl.mode := .idle })
  | .fen => stopPorts 4 (fun src => decide (src ≤ 3)) (timeFen (enterFen { s with ctl.mode := .fen }))

/-- A change of mode takes effect. -/
def changeMode (m : PowerMode) (s : State) : State :=
  (enterMode m (leaveMode s)).modAct fun d => { d with power := modePower m }

/-- A change to or from Fen mode takes effect at the next STB second, to which time passes. -/
def execPowerModeTakesEffect (s : State) : Host.Outcome State Fault Refusal :=
  match s.vol.pendingMode with
  | none => .next s
  | some (m, c) =>
    let fen := m == .fen || s.ctl.mode == .fen
    let s := if fen then passToStb ((s.ctl.time.stb.getD 0 / unitS + 1) * unitS) s else s
    .next (finish c 1 0 (leBytes 1 (modeCode m) ++ zeros 3) (changeMode m { s with vol.pendingMode := none }))

/-! ### RESET.SIDE (R86) -/

def runResetSide (c : HostCmd) (s : State) : CmdResult :=
  let x : SideId := if fld c.packet.params 0 1 = 0 then .a else .b
  if s.hsw.active = some x then .refuse erState 0
  else if (s.side x).locked then .refuse erTamper 0
  else if (s.side x).start.isSome then
    .deferred { s with vol.redun := { s.vol.redun with resetWait := s.vol.redun.resetWait ++ [c] } }
  else .deferred (beginReset c s)

/-- The reset is over: after a self-test that passed it is eligible and its trial image confirmed (R428, R469);
after one that failed its trial is over (R470). The side shuts its heads down (R86). -/
def resetDone (x : SideId) (r : StartRun) (passed : Bool) (s : State) : State :=
  let s := if r.trial then (if passed then confirmSide x s else dropTrial x s) else s
  let s := shutOther x 1 (shutOther x 0 s)
  s.modSide x fun d =>
    { d.afterReset with suspect := d.suspect && !passed, passed := d.passed || passed,
                        startRec := { d.startRec with result := 0 } }

def execResetSideDone (passed : Bool) (testCode : Nat) (s : State) : Host.Outcome State Fault Refusal :=
  match s.other.start with
  | none => .next s
  | some r =>
    if r.kind ≠ .sideReset ∨ r.stage ≠ .gnss ∨ s.hsw.active = none then .next s
    else
      let reply := leBytes 1 (if passed then 0 else 6) ++ leBytes 1 r.slot ++ zeros 2 ++
        leBytes 4 (if passed then 0 else testCode)
      let s := resetDone s.otherId r passed s
      .next (nextReset (match r.cmd with
        | some c => finish c 0 0 reply s
        | none => s))

/-- The start record of one side (RESET.CAUSE). -/
def causeBytes (s : State) (x : SideId) : List Byte :=
  let d := s.side x
  let r := d.startRec
  leBytes 1 r.kind ++ leBytes 1 r.kindDetail ++ leBytes 1 (s.hsw.strapBits + 128 * b2n s.hsw.strapFault) ++
    leBytes 1 r.slot ++ leBytes 4 d.recorder.powerCycles ++ leBytes 4 d.recorder.opSeconds ++
    r.stageMs.flatMap (leBytes 2) ++ leBytes 1 r.result ++ leBytes 1 (powerCode d.power) ++ zeros 6

def runResetCause (_ : HostCmd) (s : State) : CmdResult := .ok s (causeBytes s .a ++ causeBytes s .b)

/-! ### GPIO and senses (R66) -/

/-- The levels read on the pads: an output's own, an input's as the carrier applies it (a free value). -/
def gpioRead (s : State) : Nat × State :=
  let (k, s) := s.draw
  let d := s.ctl.gpioDir
  (maskOf ((List.range 16).filter fun n =>
    if d.testBit n then s.ctl.gpioLvl.testBit n else (Config.gpioPads k).getLsbD n), s)

/-- `old` with the bits of `mask` taken from `new`. -/
def masked (mask old new : Nat) : Nat := (old ^^^ (old &&& mask)) ||| (new &&& mask)

def runPowerGpio (c : HostCmd) (s : State) : CmdResult :=
  let ps := c.packet.params
  let m := fld ps 0 2
  let s := { s with
    ctl.gpioDir := masked m s.ctl.gpioDir (fld ps 2 2), ctl.gpioLvl := masked m s.ctl.gpioLvl (fld ps 4 2) }
  let (v, s) := gpioRead s
  .accepted s (leBytes 2 v ++ leBytes 2 s.ctl.gpioDir)

/-- POWER.SENSE: what it measures are free values. -/
def runPowerSense (_ : HostCmd) (s : State) : CmdResult :=
  let (k, s) := s.draw
  let v := fun q : Nat => leBytes 2 (Config.sense q k % 65536)
  let (bias, ma, s) := biasNow s
  .ok s (v 1 ++ v 2 ++ v 3 ++ v 5 ++ v 7 ++ leBytes 1 ma ++ leBytes 1 bias ++ leBytes 2 s.hsw.supplyEvents ++
    zeros 2)

/-! ### Supply and thermal events (R41, R50) -/

/-- One excursion of VIN below 10.8 V (R41). -/
def execVinSupplyEvent (vinMv : Nat) (s : State) : Host.Outcome State Fault Refusal :=
  if !s.actOn then .next s else .next (countSupply (record 0x1402 0 (leBytes 2 vinMv) s))

/-- An internal rail outside its window for 10 µs (cause 6). -/
def execRailOutOfWindow (mv : Nat) (s : State) : Host.Outcome State Fault Refusal :=
  if !s.actOn then .next s else .next (relinquish 6 (countSupply (record 0x1402 2 (leBytes 2 mv) s)))

/-- A junction sensor at 115 °C or more; 123 °C or more is the thermal limit (R50). Sensors 0 to 5 are those of the active side and 6 to 11
those of the other, which are read while its main domains are on: it records its own events, and only the active side relinquishes. -/
def execJunctionTempThreshold (sensor : Nat) (temp : Int) (s : State) : Host.Outcome State Fault Refusal :=
  let hot := decide (1230 ≤ temp)
  let p := leInt 2 temp ++ leBytes 1 (b2n hot)
  if s.hsw.active.isNone || decide (temp < 1150) then .next s
  else if 6 ≤ sensor % 12 then
    .next (if s.other.mainOn then recordOn s.otherId 0x1405 (sensor % 6) p s else s)
  else if !s.act.mainOn then .next s
  else
    let s := record 0x1405 (sensor % 6) p s
    .next (if hot then relinquish 5 s else s)

/-! ### Brown-out warning and overvoltage (R44, R47) -/

/-- One side's part of step 3: operating seconds saved, the event recorded, folds in MRAM (R44, R484, R488). -/
def brownOutSide (x : SideId) (vinMv : Nat) (s : State) : State :=
  (recordOn x 0x1403 0xFFFF (leBytes 2 vinMv) s).modSide x fun d =>
    { d with recorder := d.recorder.flushFold.save }

/-- The active side after a warning: no permission, one core, Reedbed and Wader off, no new checkpoint. -/
def brownOutActive (s : State) : State :=
  let s := { s with
    vol.sluice := { s.vol.sluice with state := if s.vol.sluice.state = .running then .withdrawn else s.vol.sluice.state }
    vol.gnss := { s.vol.gnss with channels := [] }
    vol.redun := { s.vol.redun with noNewCkpt := true, due := false } }
  parkCores (stopPorts 3 (fun _ => true) s)

/-- The warning of R44 or of R47, of which the next power-on tells by `why`. -/
def brownOut (why vinMv : Nat) (s : State) : State :=
  if !s.env.vinUp || s.hsw.warned then s
  else
    let h := s.hsw
    let s := { s with hsw := { h with warned := true, downWhy := why } }
    let s := if s.actOn then brownOutActive s else s
    raiseIrq irqSupply (brownOutSide .b vinMv (brownOutSide .a vinMv s))

def execBrownOutWarning (vinMv : Nat) (s : State) : Host.Outcome State Fault Refusal := .next (brownOut 1 vinMv s)

def execOvervoltageLockout (vinMv : Nat) (s : State) : Host.Outcome State Fault Refusal := .next (brownOut 2 vinMv s)

def execPowerMode (p : Packet) (s : State) : Host.Outcome State Fault Refusal := .next (serve 0x1410 runPowerMode p s)
def execResetSide (p : Packet) (s : State) : Host.Outcome State Fault Refusal := .next (serve 0x1401 runResetSide p s)
def execResetCause (p : Packet) (s : State) : Host.Outcome State Fault Refusal := .next (serve 0x1402 runResetCause p s)
def execPowerGpio (p : Packet) (s : State) : Host.Outcome State Fault Refusal := .next (serve 0x1421 runPowerGpio p s)
def execPowerSense (p : Packet) (s : State) : Host.Outcome State Fault Refusal := .next (serve 0x1420 runPowerSense p s)

end Sys2Proof.Machine
end

