-- ==== Sys2Proof/Machine/Security.lean ====
section
/-! DEFINITION.
Crowns, zeroisation and tamper, key faults, attestation, key import and the debug port (chapter 19).
-/

namespace Sys2Proof.Machine

/-! ### Zeroisation (R445) -/

/-- The tamper record that a zeroisation writes (Table Sec-5). The always-on count is a free value. -/
def tamperRecord (x : SideId) (st : TamperState) (sensors : Nat) (temp : Int) (vbat : Nat) (keyOp : Bool) (s : State) :
    TamperRecord × State :=
  let (k, s) := s.draw
  let d := s.side x
  ({ state := st, sensors := sensors, temp := temp, vbat := vbat % 65536, sideState := powerCode d.power,
     keyOp := b2n keyOp, powerCycles := d.recorder.powerCycles, opSeconds := d.recorder.lastSave,
     aonTicks := Config.sense 11 k % 2 ^ 64 }, s)

/-- A side zeroes its Crown, pairing record and stores, and latches tamper-locked; the radio MAC store of the active side
stays until its main domains are off (R453). Its checkpoint area reads as empty (R448). -/
def zeroise (x : SideId) (st : TamperState) (sensors : Nat) (temp : Int) (vbat : Nat) (keyOp : Bool) (s : State) : State :=
  let (r, s) := tamperRecord x st sensors temp vbat keyOp s
  let keep := s.hsw.active == some x && (s.side x).mainOn
  s.modSide x fun d =>
    { d with
      ckpts := CkptArea.empty
      security := { d.security with
        record := r, crownValid := false, pairing := false, otherStores := false
        radioStore := d.security.radioStore && keep } }

/-! ### Tamper (R444, R446, R455) -/

/-- The host switch marks the tamper, and shows it while a side serves (R455). -/
def markTamper (x : SideId) (s : State) : State :=
  let h := s.hsw
  let v := s.vol.sec
  let now := s.mtbNs
  let s := match x with
    | .a => { s with hsw := { h with nv := { h.nv with tamperA := true } }, vol.sec := { v with learnedA := now } }
    | .b => { s with hsw := { h with nv := { h.nv with tamperB := true } }, vol.sec := { v with learnedB := now } }
  if s.hsw.serving then raiseIrq irqTamper s else s

/-- The sensors that can trip now: sensor 3 only while the island runs from VBAT (Table Sec-1). -/
def State.trips (s : State) (sensors : Nat) : Nat :=
  maskOf ((bitsOf 5 sensors).filter fun k => k != 3 || s.env.vinBelow)

/-- A command that started the key operation in progress: the first security command in flight. -/
def State.keyCommand (s : State) : Option HostCmd :=
  (s.hsw.sessions.flatMap fun x =>
    (x.inFlight.filter fun f => f.cmd.opcode / 256 == 0x10 && f.phase != .awaitingDurable).map (·.cmd)).head?

/-- A tamper of the active side (Table Sec-2): a key operation is aborted, then control is given up. -/
def tamperActive (keyOp : Bool) (s : State) : State :=
  let s := if keyOp then
      match s.keyCommand with
      | some c => finish c erTamper 0 [] s
      | none => s
    else s
  relinquish 9 s

/-- What a tamper does beside the zeroisation, by the state of the side (Table Sec-2). -/
def tamperByState (x : SideId) (keyOp : Bool) (s : State) : State :=
  let other := s.actOn && s.actId != x
  if (s.side x).start.isSome && s.hsw.active.isSome then
    let s := if other then sinkLost s else s
    failStart x 4 s
  else if s.hsw.active = some x ∧ (s.side x).mainOn then tamperActive keyOp s
  else
    let p := leBytes 1 2
    let s := recordOn x 0x1001 (sideNo x) p s
    let s := s.modSide x fun d => { d with power := .poweredDown }
    if other then sinkLost s else s

/-- A tamper sensor of an armed side trips (R444 to R446): reset kind 0x07. -/
def execTamperDetected (side : SideId) (sensors : Nat) (temp : Int) (vbat : Nat) (keyOp : Bool) (s : State) :
    Host.Outcome State Fault Refusal :=
  let m := s.trips sensors
  if (s.side side).security.record.state ≠ .armed ∨ m = 0 then .next s
  else
    let busy := keyOp && s.hsw.active == some side && s.keyCommand.isSome
    let s := markTamper side (zeroise side .locked m temp vbat busy s)
    let s := tamperByState side busy s
    .next (s.modSide side fun d => { d with startRec := { d.startRec with kind := 7, kindDetail := 0 } })

/-- The 32 bytes of a tamper record (Table Sec-5). -/
def tamperCode : TamperState → Nat
  | .shipping => 0
  | .armed => 1
  | .locked => 2
  | .debug => 3

/-- `state` of Table Sec-5. -/
def TamperRecord.stateWord (r : TamperRecord) : Nat := tamperCode r.state + 256 * (r.sensors % 32)

def TamperRecord.bytes (r : TamperRecord) : List Byte :=
  leBytes 2 r.stateWord ++ leInt 2 r.temp ++ leBytes 2 r.vbat ++ leBytes 1 r.sideState ++ leBytes 1 r.keyOp ++
    leBytes 4 r.powerCycles ++ leBytes 4 r.opSeconds ++ leBytes 8 r.aonTicks ++ zeros 8

/-- One marked tamper is recorded and sent; the mark is cleared once the message is posted (R455). -/
def reportTamper (x : SideId) (s : State) : State :=
  let h := s.hsw
  let marked := if x = .a then h.nv.tamperA else h.nv.tamperB
  if !marked || !(s.sess 0).isOpen then s
  else
    let r := (s.side x).security.record
    let at' := if x = .a then s.vol.sec.learnedA else s.vol.sec.learnedB
    let s := record 0x1001 (sideNo x) (r.bytes.take 16) s
    let s := sendMsg 0x1080 (leBytes 1 (sideNo x) ++ zeros 1 ++ r.bytes ++ leBytes 8 at') s
    let h := s.hsw
    { s with hsw := { h with nv :=
        { h.nv with tamperA := h.nv.tamperA && x != .a, tamperB := h.nv.tamperB && x != .b } } }

/-- The first whole second of STB after a tamper, or after SERVING has risen: STB passes to it. -/
def execTamperReport (s : State) : Host.Outcome State Fault Refusal :=
  if !s.hsw.serving || !(s.hsw.nv.tamperA || s.hsw.nv.tamperB) then .next s
  else
    let s := match s.ctl.time.stb with
      | some t => passToStb ((t / unitS + 1) * unitS) s
      | none => s
    .next (reportTamper .b (reportTamper .a s))

/-- An engine has read a key store that it is not named for (R450). `cmd` names the command that the read served. -/
def execKeyFault (engine : Nat) (cmd : Option (Nat × Nat)) (s : State) : Host.Outcome State Fault Refusal :=
  if !s.actOn then .next s
  else
    let s := { s with hsw.keyFaults := satInc 32 s.hsw.keyFaults }
    let s := raiseIrq irqTamper (record 0x1002 engine [] s)
    match cmd with
    | none => .next s
    | some (n, tag) =>
      match (s.sess n).inFlight.find? fun f => f.cmd.packet.tag == tag && f.phase != .awaitingDurable with
      | some f => .next (finish f.cmd erInternal s.act.recorder.head [] s)
      | none => .next s

/-! ### Attestation (R456) -/

/-- One side's byte in derivations and signatures: 0x41 or 0x42 (R449). -/
def sideByte (x : SideId) : Byte := if x = .a then 0x41 else 0x42

/-- The head profiles as m_heads hashes them: steps of 8 bytes in head and sequence order. -/
def headsBytes (s : State) : List Byte :=
  s.cfg.radio.heads.flatMap fun q => q.flatMap fun steps => steps.flatMap fun x =>
    leBytes 1 x.op ++ leBytes 1 x.arg ++ leBytes 2 x.addr ++ leBytes 4 x.value

/-- Bytes 0 to 319 of the statement (Table Sec-6). config_hash is a free value: the blocks' layout is not given (log 53). -/
def statement (nonce : List Byte) (draw : Nat) (s : State) : List Byte :=
  let d := s.act
  let h := fun bs : List Byte => slice (Config.sha384 bs) 0 48
  leBytes 1 1 ++ leBytes 1 (sideNo s.actId) ++ leBytes 1 0xB0 ++ zeros 1 ++ leBytes 4 0x9480 ++
    leBytes 8 Config.serial.toNat ++ slice nonce 0 32 ++ slice (Config.romHash (sideNo s.actId)) 0 48 ++
    h d.firmware.image.image ++ h s.hsw.nv.firmware.image.image ++ h (headsBytes s) ++
    slice (Config.random 48 draw) 0 48 ++ leBytes 4 d.firmware.image.version ++ leBytes 4 d.recorder.powerCycles ++
    leBytes 4 d.recorder.opSeconds ++ leBytes 4 d.security.attestCount ++ leBytes 4 s.hsw.epoch ++
    leBytes 2 s.sideA.security.record.stateWord ++ leBytes 2 s.sideB.security.record.stateWord ++
    leBytes 4 s.hsw.keyFaults ++ zeros 4

def runSecAttest (c : HostCmd) (s : State) : CmdResult :=
  if s.act.security.record.state = .shipping then .refuse erState 0
  else
    let s := s.modAct fun d =>
      { d with security := { d.security with attestCount := (d.security.attestCount + 1) % 2 ^ 32 } }
    let (k, s) := s.draw
    let st := statement c.packet.params k s
    .ok s (st ++ slice (Config.ecdsaSign (10 + sideNo s.actId) st k) 0 96)

def runSecCert (_ : HostCmd) (s : State) : CmdResult :=
  let c := fun n : Nat => Config.certificate (sideNo s.actId) n
  .ok s (leBytes 2 2 ++ zeros 2 ++ leBytes 2 (c 0).length ++ c 0 ++ leBytes 2 (c 1).length ++ c 1)

/-! ### Imported keys (R454) -/

/-- The order n of P-384. -/
def p384Order : Nat :=
  0xFFFFFFFFFFFFFFFFFFFFFFFFFFFFFFFFFFFFFFFFFFFFFFFFC7634D81F4372DDF581A0DB248B0A77AECEC196ACCC52973

/-- Fields whose range depends on `kind`. -/
def keyKindError (ps : List Byte) : Option Nat :=
  if fld ps 0 1 = 1 then none
  else if fld ps 1 1 ≠ 0 then some 1
  else if fld ps 8 4 ≠ 0 then some 8
  else none

/-- Superframes from now to a switch ASN given by its low 32 bits (DEDUCED, log 54). -/
def State.toSwitch (s : State) (low : Nat) : Nat := (low + 2 ^ 32 - s.asn % 2 ^ 32) % 2 ^ 32

/-- The refusals of a site key, in order. -/
def siteKeyError (id low : Nat) (s : State) : Option (Nat × Nat) :=
  if low = 0 ∧ s.ctl.conns ≠ [] then some (erState, s.ctl.conns.length)
  else if low ≠ 0 ∧ (s.toSwitch low < 30000 ∨ 2 ^ 31 ≤ s.toSwitch low) then some (erRange, 8)
  else
    match s.cfg.keys.next, s.cfg.keys.current with
    | some k, _ => some (erBusy, k.keyId)
    | none, some k => if k.keyId = id then some (erConflict, id) else none
    | none, none => none

/-- The accepted counter is in the host switch's memory before the import takes effect (R454). -/
def acceptCounter (n : Nat) (s : State) : State :=
  let h := s.hsw
  { s with hsw := { h with nv := { h.nv with importCtr := n } } }

/-- A site key is imported: current at once, or next with SITE_KEY to every connected member. -/
def importSite (id low : Nat) (key : List Byte) (s : State) : State :=
  let k : SiteKey := { keyId := id, key := key, switchAsn := if low = 0 then 0 else s.asn + s.toSwitch low }
  if low = 0 then { s with ctl.cfg.keys := { s.cfg.keys with current := some k, former := none } }
  else
    let s := { s with ctl.cfg.keys := { s.cfg.keys with next := some k } }
    (tkeys s.ctl.conns).foldl (fun s n => sendSiteKey k n s) s

def runSecKeyImport (c : HostCmd) (s : State) : CmdResult :=
  let ps := c.packet.params
  let kind := fld ps 0 1
  let id := fld ps 1 1
  let counter := fld ps 4 4
  let low := fld ps 8 4
  match keyKindError ps with
  | some o => .refuse erRange o
  | none =>
    if s.act.security.record.state = .shipping then .refuse erState 0
    else if counter ≤ s.hsw.nv.importCtr then .refuse erRange 4
    else
      match Config.gcmOpen (sideByte s.actId :: slice ps 0 68) (slice ps 68 12) (slice ps 80 48) (slice ps 128 16) with
      | none => .refuse erAuth 0
      | some m =>
        if kind = 2 then
          let scalar := slice m 0 48
          if beNat scalar = 0 ∨ p384Order ≤ beNat scalar then .refuse erRange 80
          else
            let s := acceptCounter counter s
            .accepted { s with ctl.cfg.keys := { s.cfg.keys with signing := some scalar } }
              (slice (Config.p384Public scalar) 0 49)
        else
          match siteKeyError id low s with
          | some (st, d) => .refuse st d
          | none =>
            .accepted (importSite id low (slice m 0 16) (acceptCounter counter s))
              (leBytes 1 id ++ zeros 3 ++ leBytes 4 low)

def runSecStatus (_ : HostCmd) (s : State) : CmdResult :=
  let k := s.cfg.keys
  let id := fun o : Option SiteKey => match o with
    | some k => k.keyId
    | none => 0xFF
  .ok s (s.sideA.security.record.bytes ++ s.sideB.security.record.bytes ++ leBytes 1 (id k.current) ++
    leBytes 1 (id k.next) ++ leBytes 1 (b2n k.signing.isSome) ++ zeros 1 ++
    leBytes 4 (match k.next with
      | some k => k.switchAsn
      | none => 0) ++ leBytes 4 s.hsw.nv.importCtr ++ leBytes 4 s.hsw.keyFaults)

/-! ### Debug port (R457) -/

/-- What the unlock signature covers. -/
def debugMessage (s : State) (challenge : List Byte) : List Byte :=
  [0x48, 0x4C, 0x54, 0x2D, 0x44, 0x42, 0x47] ++ beBytes 8 Config.serial.toNat ++ [sideByte s.actId] ++ challenge

/-- The command completes; then the side zeroes its Crown, gives up control and opens its debug port. -/
def unlockDebug (c : HostCmd) (s : State) : State :=
  let x := s.actId
  let s := finish c 0 0 [] s
  let (t, s) := s.draw
  let s := zeroise x .debug 0 (signed 16 (Config.sense 12 t % 65536)) (Config.sense 2 t) false s
  (relinquish 9 s).modSide x fun d => { d with security := { d.security with debugOpen := true } }

def runSecDebugUnlock (c : HostCmd) (s : State) : CmdResult :=
  let ps := c.packet.params
  let sig := slice ps 4 96
  if fld ps 0 1 = 0 then
    if sig.any (· != 0) then .refuse erRange 4
    else
      let (k, s) := s.draw
      let ch := slice (Config.random 32 k) 0 32
      .ok { s with vol.sec := { s.vol.sec with challenge := some ch } } ch
  else
    match s.vol.sec.challenge with
    | none => .refuse erState 0
    | some ch =>
      if !s.standbyOk then .refuse erState 1
      else if Config.ecdsaVerify 1 (Config.sha384 (debugMessage s ch)) sig then .deferred (unlockDebug c s)
      else .deferred (finish c erAuth 0 [] { s with vol.sec := { s.vol.sec with challenge := none } })

def execDebugChallengeExpiry (s : State) : Host.Outcome State Fault Refusal :=
  .next { s with vol.sec := { s.vol.sec with challenge := none } }

def execSecAttest (p : Packet) (s : State) : Host.Outcome State Fault Refusal := .next (serve 0x1001 runSecAttest p s)
def execSecCert (p : Packet) (s : State) : Host.Outcome State Fault Refusal := .next (serve 0x1002 runSecCert p s)
def execSecKeyImport (p : Packet) (s : State) : Host.Outcome State Fault Refusal :=
  .next (serve 0x1003 runSecKeyImport p s)
def execSecStatus (p : Packet) (s : State) : Host.Outcome State Fault Refusal := .next (serve 0x1004 runSecStatus p s)
def execSecDebugUnlock (p : Packet) (s : State) : Host.Outcome State Fault Refusal :=
  .next (serve 0x1005 runSecDebugUnlock p s)

end Sys2Proof.Machine
end

