-- ==== Sys2Proof/Machine/Update.lean ====
section
/-! DEFINITION.
Firmware update: packages, the update lock, apply, activation, the confirmation window and the store opcode (chapter 20).
-/

namespace Sys2Proof.Machine

/-! ### The manifest (R461) -/

/-- Bytes of a block of the staging area (R460). -/
def blockSize : Nat := 262144

/-- Part entry `k` of a manifest. -/
def manifestPart (m : List Byte) (k : Nat) : ManifestPart :=
  let o := 16 + 160 * k
  { part := fld m o 1, version := fld m (o + 4) 4, bodyOff := fld m (o + 8) 4, bodyLen := fld m (o + 12) 4,
    resultLen := fld m (o + 16) 4, ckWrite := fld m (o + 20) 2, ckReadLo := fld m (o + 22) 2,
    ckReadHi := fld m (o + 24) 2, baseHash := slice m (o + 32) 48, resultHash := slice m (o + 80) 48,
    reqHeadsLo := fld m (o + 128) 4, reqHeadsHi := fld m (o + 132) 4, reqSideLo := fld m (o + 136) 4,
    reqSideHi := fld m (o + 140) 4, reqSwitchLo := fld m (o + 144) 4, reqSwitchHi := fld m (o + 148) 4 }

/-- The manifest of UPDATE.BEGIN. -/
def manifestOf (m : List Byte) : Manifest :=
  let np := fld m 1 1
  let nb := fld m 2 2
  { nBlocks := nb, pkgLen := fld m 4 4, secVersion := fld m 8 4, parts := (List.range np).map (manifestPart m),
    blockHash := (List.range nb).map fun j => slice m (16 + 160 * np + 48 * j) 48 }

/-- The largest result of a part: the slot size of its slots (Table Update-1). -/
def resultLimit (part : Nat) : Nat := if part = 2 then 25165824 else if part = 3 then 4194304 else 2 ^ 32

/-- The requirement of a part entry on its own part, which is zero. -/
def ManifestPart.ownReq (p : ManifestPart) : Nat :=
  if p.part = 1 then p.reqHeadsLo + p.reqHeadsHi
  else if p.part = 2 then p.reqSideLo + p.reqSideHi
  else p.reqSwitchLo + p.reqSwitchHi

/-- The first field of part entry `k`, by its offset in the parameters, whose dependent range its value breaks. -/
def partRangeError (m : Manifest) (k : Nat) : Option Nat :=
  match m.parts[k]? with
  | none => none
  | some p =>
    let o := 20 + 160 * k
    let prev := if k = 0 then 0 else ((m.parts[k - 1]?).map (·.part)).getD 0
    if p.part ≤ prev then some o
    else if resultLimit p.part < p.resultLen then some (o + 16)
    else if p.part ≠ 2 ∧ p.ckWrite ≠ 0 then some (o + 20)
    else if p.ownReq ≠ 0 then some (o + 128 + 8 * (p.part - 1))
    else none

/-- Ranges of the manifest that depend on other fields (Table Update-2): the offset of the first field refused. -/
def manifestRangeError (m : Manifest) : Option Nat :=
  if m.pkgLen ≤ (m.nBlocks - 1) * blockSize ∨ m.nBlocks * blockSize < m.pkgLen then some 8
  else (List.range m.parts.length).findSome? (partRangeError m)

/-! ### Deltas (R462) -/

/-- A delta applied to a base, its records in order; none when it fails verification. Fuel: a record has at least a byte. -/
def applyDelta (base : List Byte) : Nat → List Byte → List Byte → Option (List Byte)
  | 0, _, _ => none
  | n + 1, out, d =>
    match d with
    | [] => none
    | op :: t =>
      if op = 0 then some out
      else if op = 1 then
        let src := fld t 0 4
        let len := fld t 4 4
        if t.length < 8 ∨ base.length < src + len then none
        else applyDelta base n (out ++ (base.drop src).take len) (t.drop 8)
      else if op = 2 then
        let len := fld t 0 4
        if t.length < 4 + len then none else applyDelta base n (out ++ (t.drop 4).take len) (t.drop (4 + len))
      else if op = 3 then
        if t.length < 5 then none
        else applyDelta base n (out ++ List.replicate (fld t 0 4) (BitVec.ofNat 8 (fld t 4 1))) (t.drop 5)
      else none

/-- The head profile set in force as four numbers a step. -/
def headsTuple (h : List (List (List HeadStep))) : List (List (List (Nat × Nat × Nat × Nat))) :=
  h.map fun q => q.map fun steps => steps.map fun x => (x.op, x.arg, x.addr, x.value)

/-- The head profile set that a verified part-1 result holds: five sequences for each of the two heads. -/
def headsOf (image : List Byte) : List (List (List HeadStep)) :=
  let t := Config.headSet image
  (List.range 2).map fun h => (List.range 5).map fun q =>
    ((t.getD h []).getD q []).map fun x => { op := x.1 % 256, arg := x.2.1 % 256, addr := x.2.2.1 % 65536, value := x.2.2.2 % 2 ^ 32 }

/-- The base of a part (R462). -/
def State.baseOf (s : State) (part : Nat) : List Byte :=
  if part = 1 then Config.headBlock (headsTuple s.cfg.radio.heads)
  else if part = 2 then (s.act.firmware.slot s.act.firmware.flags.active).image
  else s.hsw.nv.firmware.image.image

/-- Whether a part applies to its base: a full image needs none. -/
def State.baseMatches (s : State) (p : ManifestPart) : Bool :=
  p.baseHash == zeros 48 || slice (Config.sha384 (s.baseOf p.part)) 0 48 == p.baseHash

/-- The result of a part, when it passes verification (R465). The signature of the manifest was verified when it was staged,
and a second verification of the same bytes gives the same answer. -/
def State.partResult (s : State) (body : List Byte) (p : ManifestPart) : Option (List Byte) :=
  if !s.baseMatches p then none
  else
    let base := if p.baseHash = zeros 48 then [] else s.baseOf p.part
    let delta := (body.drop p.bodyOff).take p.bodyLen
    match applyDelta base (delta.length + 1) [] delta with
    | none => none
    | some out =>
      if out.length = p.resultLen ∧ slice (Config.sha384 out) 0 48 = p.resultHash then some out else none

/-! ### The staged package (R464) -/

/-- The next expected byte of the body. -/
def Staging.next (g : Staging) : Nat :=
  match g.manifest with
  | none => 0
  | some m => min m.pkgLen (g.blocks.length * blockSize + g.partialBlk.length)

def Staging.blocksLeft (g : Staging) : Bool :=
  match g.manifest with
  | none => true
  | some m => decide (g.blocks.length < m.nBlocks)

/-- Whether a download is in progress. -/
def Staging.downloading (g : Staging) : Bool := g.manifest.isSome && g.blocksLeft

/-- Length of block `j` of a body: the last may be short. -/
def Manifest.blockLen (m : Manifest) (j : Nat) : Nat := min blockSize (m.pkgLen - j * blockSize)

/-- Bytes of the body arrive: each block that they complete is verified or discarded, and what follows a discarded block is
not stored. The result is that of UPDATE.CHUNK. -/
def Staging.take (m : Manifest) : Nat → Nat → List Byte → Staging → Nat × Staging
  | 0, r, _, g => (r, g)
  | n + 1, r, bs, g =>
    let j := g.blocks.length
    let need := m.blockLen j - g.partialBlk.length
    if bs.length < need ∨ m.nBlocks ≤ j then (r, { g with partialBlk := g.partialBlk ++ bs })
    else
      let blk := g.partialBlk ++ bs.take need
      if slice (Config.sha384 blk) 0 48 = m.blockHash.getD j [] then
        let g := { g with blocks := g.blocks ++ [blk], partialBlk := [] }
        if bs.length = need then (1, g) else Staging.take m n 1 (bs.drop need) g
      else (2, { g with partialBlk := [] })

/-- The result of a part of the staged package. -/
def Staging.resultOf (g : Staging) (part : Nat) : Option PartResult :=
  match g.manifest with
  | none => none
  | some m => (m.parts.zip g.results).findSome? fun e => if e.1.part = part then some e.2 else none

def Staging.entry (g : Staging) (part : Nat) : Option ManifestPart :=
  g.manifest.bind fun m => m.parts.find? fun p => p.part == part

/-- `state` of UPDATE.STATUS. -/
def Staging.code (g : Staging) : Nat :=
  if g.manifest.isNone then 0
  else if !g.activated.isEmpty then 5
  else if !g.applying.isEmpty then 3
  else if g.blocksLeft then 1
  else if g.results.all (· == .verified) then 4 else 2

def State.modStaging (s : State) (f : Staging → Staging) : State := s.modAct fun d => { d with staging := f d.staging }

/-! ### The update lock (R463) -/

/-- The refusal of a command from another identity than the holder's. -/
def lockError (c : HostCmd) (s : State) : Option (Nat × Nat) :=
  let l := s.act.lock
  if l.held && !(l.session == c.session && l.hostId == (s.sess c.session).hostId) then
    some (erBusy, 0x80000000 + l.session * 0x01000000 + l.hostId)
  else none

/-- A command of the holder, or of any identity while the lock is free (log 55). -/
def underLock (run : HostCmd → State → CmdResult) (c : HostCmd) (s : State) : CmdResult :=
  match lockError c s with
  | some (st, d) => .refuse st d
  | none => run c s

def setLock (l : UpdateLock) (s : State) : State := s.modAct fun d => { d with lock := l }

def UpdateLock.free : UpdateLock := { held := false, session := 0, hostId := 0 }

/-- Whether the holder's identity has an open session. -/
def State.holderOpen (s : State) : Bool :=
  let l := s.act.lock
  (s.sess l.session).isOpen && (s.sess l.session).hostId == l.hostId

/-- The holder's identity has had no open session for 600 s of active time. -/
def execUpdateLockExpiry (s : State) : Host.Outcome State Fault Refusal :=
  if s.actOn && s.act.lock.held && !s.holderOpen then .next (updateEvent 6 0 0 (setLock UpdateLock.free s)) else .next s

/-! ### UPDATE.BEGIN, UPDATE.CHUNK, UPDATE.END -/

/-- Whether a part's trial is pending. -/
def State.trialPending (s : State) (part : Nat) : Bool :=
  (part == 2 && s.act.firmware.flags.trial == .pending) || (part == 3 && s.hsw.nv.firmware.flags.trial == .pending)

/-- Whether the side runs a trial image that is not confirmed: in its window, or after it (R470). -/
def SideState.unconfirmed (d : SideState) : Bool := d.firmware.onTrial || d.store.blocked

/-- The refusals of UPDATE.BEGIN after the first two, for the package named. -/
def beginError (m : Manifest) (s : State) : Option (Nat × Nat) :=
  if s.act.unconfirmed then some (erState, 2)
  else if m.parts.any fun p => s.trialPending p.part then some (erState, 3)
  else if !s.act.staging.applying.isEmpty then some (erState, 4)
  else (m.parts.find? fun p => !s.baseMatches p).map fun p => (erConflict, p.part)

/-- Reply of UPDATE.BEGIN. -/
def beginReply (s : State) : List Byte :=
  leBytes 4 s.act.staging.next ++ leBytes 1 s.act.staging.blocks.length ++ zeros 3

/-- Op 1 of UPDATE.BEGIN: the staged package resumes. -/
def resumePackage (s : State) : CmdResult :=
  match s.act.staging.manifest with
  | none => .refuse erState 1
  | some m =>
    match beginError m s with
    | some (st, d) => .refuse st d
    | none => .ok s (beginReply s)

/-- Op 0: the manifest is accepted and staged, and the lock taken. -/
def newPackage (c : HostCmd) (bytes : List Byte) (s : State) : CmdResult :=
  let m := manifestOf bytes
  let n := bytes.length - 96
  match manifestRangeError m with
  | some o => .refuse erRange o
  | none =>
    if !Config.ecdsaVerify 0 (bytes.take n) (bytes.drop n) then .refuse erAuth 0
    else if m.secVersion < s.act.floor then .refuse erAuth 1
    else
      match beginError m s with
      | some (st, d) => .refuse st d
      | none =>
        let s := s.modStaging fun _ =>
          { Staging.empty with manifest := some m, results := m.parts.map fun _ => .unverified }
        let s := setLock { held := true, session := c.session, hostId := (s.sess c.session).hostId } s
        .ok s (beginReply s)

def updateBegin (c : HostCmd) (s : State) : CmdResult :=
  if fld c.packet.params 0 1 = 1 then resumePackage s else newPackage c (c.packet.params.drop 4) s

def runUpdateBegin (c : HostCmd) (s : State) : CmdResult := underLock updateBegin c s

def updateChunk (c : HostCmd) (s : State) : CmdResult :=
  let ps := c.packet.params
  let g := s.act.staging
  match g.manifest with
  | none => .refuse erState 0
  | some m =>
    if !g.downloading then .refuse erState 0
    else if fld ps 0 4 ≠ g.next then .refuse erRange 0
    else if m.pkgLen < fld ps 0 4 + fld ps 4 2 then .refuse erRange 4
    else
      let bs := ps.drop 8
      let (r, h) := Staging.take m (bs.length + 1) 0 bs g
      let s := s.modStaging fun _ => h
      let s := if r = 2 then updateEvent 1 0 0 s else s
      .ok s (leBytes 4 h.next ++ leBytes 1 h.blocks.length ++ leBytes 1 r ++ zeros 2)

def runUpdateChunk (c : HostCmd) (s : State) : CmdResult := underLock updateChunk c s

/-- Pending trial states are cleared (UPDATE.END op 1). -/
def clearPending (f : Firmware) : Firmware := if f.flags.trial = .pending then f.endTrial else f

def updateEnd (c : HostCmd) (s : State) : CmdResult :=
  let s' := setLock UpdateLock.free s
  if fld c.packet.params 0 1 = 0 then .ok s' []
  else if !s.act.staging.applying.isEmpty then .refuse erState 4
  else
    let h := s'.hsw
    let s' := { s' with hsw := { h with nv := { h.nv with firmware := clearPending h.nv.firmware } } }
    .ok (s'.modAct fun d => { d with staging := Staging.empty, firmware := clearPending d.firmware }) []

def runUpdateEnd (c : HostCmd) (s : State) : CmdResult := underLock updateEnd c s

/-! ### UPDATE.APPLY (R465) -/

/-- The host switch's firmware is changed. -/
def modSwitchFw (f : Firmware → Firmware) (s : State) : State :=
  let h := s.hsw
  { s with hsw := { h with nv := { h.nv with firmware := f h.nv.firmware } } }

/-- The inactive slot of a part becomes `x`. -/
def setTarget (part : Nat) (x : SlotImage) (s : State) : State :=
  if part = 2 then s.modAct fun d => { d with firmware := d.firmware.modSlot d.firmware.inactive fun _ => x }
  else if part = 3 then modSwitchFw (fun f => f.modSlot f.inactive fun _ => x) s
  else s

/-- The slot record that a verified part leaves with its image. -/
def slotOf (m : Manifest) (p : ManifestPart) (image : List Byte) : SlotImage :=
  { valid := true, version := p.version, secVersion := m.secVersion, ckWrite := p.ckWrite, ckReadLo := p.ckReadLo,
    ckReadHi := p.ckReadHi, reqHeadsLo := p.reqHeadsLo, reqHeadsHi := p.reqHeadsHi, reqSideLo := p.reqSideLo,
    reqSideHi := p.reqSideHi, reqSwitchLo := p.reqSwitchLo, reqSwitchHi := p.reqSwitchHi, image := image }

/-- Application begins: every target is invalid, and no part is verified. -/
def beginApply (s : State) : State :=
  let parts := ((s.act.staging.manifest).map (·.parts)).getD []
  let s := parts.foldl (fun s p => setTarget p.part SlotImage.empty s) s
  s.modStaging fun g => { g with results := parts.map fun _ => .unverified, activated := [], headsImage := [] }

/-- UPDATE.APPLY completes when every part is applied and verified; a second one follows it (R99). -/
def updateApply (c : HostCmd) (s : State) : CmdResult :=
  let g := s.act.staging
  if g.blocksLeft then .refuse erState g.next
  else
    let s := if g.applying.isEmpty then beginApply s else s
    .deferred (s.modStaging fun g => { g with applying := g.applying ++ [c] })

def runUpdateApply (c : HostCmd) (s : State) : CmdResult := underLock updateApply c s

/-- One part is applied and verified. -/
def applyPart (m : Manifest) (body : List Byte) (p : ManifestPart) (s : State) : State :=
  match s.partResult body p with
  | none => s.modStaging fun g => { g with results := g.results ++ [.failed] }
  | some out =>
    let s := if p.part = 1 then s.modStaging fun g => { g with headsImage := out } else setTarget p.part (slotOf m p out) s
    s.modStaging fun g => { g with results := g.results ++ [.verified] }

/-- Every part in ascending code. -/
def applyAll (m : Manifest) (s : State) : State :=
  let body := s.act.staging.blocks.flatten
  m.parts.foldl (fun s p => applyPart m body p s) (s.modStaging fun g => { g with results := [] })

/-- Reply of UPDATE.APPLY. -/
def applyReply (g : Staging) : List Byte :=
  let bs := g.results.map fun r => if r = .verified then (1 : Byte) else 2
  slice bs 0 4

def execUpdateApplyComplete (s : State) : Host.Outcome State Fault Refusal :=
  match s.act.staging.applying, s.act.staging.manifest with
  | c :: rest, some m =>
    if !s.actOn then .next s
    else
      let s := applyAll m (ranItem 11 0x883 0 (s.modStaging fun g => { g with applying := rest }))
      .next (updateEvent 2 0 0 (finish c 0 0 (applyReply s.act.staging) s))
  | _, _ => .next s

/-! ### Compatibility (R474, R475) -/

/-- The installed set: the head profiles' version with its requirement on the sides, and the images that the host switch, this
side and the other side boot next. -/
structure InstalledSet where
  heads    : Nat
  headsReq : Nat × Nat
  switch   : SlotImage
  this     : SlotImage
  other    : SlotImage
  deriving DecidableEq, Repr, Inhabited

def State.installedSet (s : State) : InstalledSet :=
  let next := fun f : Firmware => f.slot f.nextSlot
  { heads := s.cfg.radio.headsVer, headsReq := s.cfg.radio.headsReq, switch := next s.hsw.nv.firmware,
    this := next s.act.firmware, other := next s.other.firmware }

/-- Whether a version lies in a range. -/
def inReq (lo hi v : Nat) : Bool := decide (lo ≤ v) && decide (v ≤ hi)

/-- The requirements of the set in turn: the part whose requirement it is, the part that it names, and whether it is met
(1 heads, 2 this side, 3 switch, 4 other side). -/
def InstalledSet.requirements (x : InstalledSet) : List (Nat × Nat × Bool) :=
  [(1, 2, inReq x.headsReq.1 x.headsReq.2 x.this.version), (1, 4, inReq x.headsReq.1 x.headsReq.2 x.other.version),
   (2, 1, inReq x.this.reqHeadsLo x.this.reqHeadsHi x.heads), (2, 3, inReq x.this.reqSwitchLo x.this.reqSwitchHi x.switch.version),
   (2, 4, inReq x.this.ckReadLo x.this.ckReadHi x.other.ckWrite),
   (3, 2, inReq x.switch.reqSideLo x.switch.reqSideHi x.this.version),
   (3, 4, inReq x.switch.reqSideLo x.switch.reqSideHi x.other.version),
   (4, 1, inReq x.other.reqHeadsLo x.other.reqHeadsHi x.heads), (4, 2, inReq x.other.ckReadLo x.other.ckReadHi x.this.ckWrite),
   (4, 3, inReq x.other.reqSwitchLo x.other.reqSwitchHi x.switch.version)]

/-- The detail word of the first requirement that fails. -/
def InstalledSet.conflict (x : InstalledSet) : Option Nat :=
  (x.requirements.find? fun e => !e.2.2).map fun e => e.1 * 256 + e.2.1

/-- The set that activating a part would give. -/
def State.setWith (s : State) (p : ManifestPart) : InstalledSet :=
  let x := s.installedSet
  if p.part = 1 then { x with heads := p.version, headsReq := (p.reqSideLo, p.reqSideHi) }
  else if p.part = 2 then { x with this := s.act.firmware.slot s.act.firmware.inactive }
  else { x with switch := s.hsw.nv.firmware.slot s.hsw.nv.firmware.inactive }

/-- A part of lower code that is verified and not activated. -/
def Staging.earlier (g : Staging) (part : Nat) : Option Nat :=
  [1, 2, 3].find? fun k => decide (k < part) && g.resultOf k == some .verified && !g.activated.contains k

/-! ### UPDATE.ACTIVATE (R468, R472, R473) -/

/-- Trial slot = the inactive slot, pending, in one flags write. -/
def Firmware.makePending (f : Firmware) : Firmware :=
  f.writeFlags fun c => { c with trialSlot := 1 - c.active, trial := .pending }

def activated (part : Nat) (s : State) : State :=
  s.modStaging fun g => { g with activated := if g.activated.contains part then g.activated else g.activated ++ [part] }

/-- The enabled links that no RADIO.LINK_CONFIG is starting. -/
def State.linksToRestart (s : State) : List Nat :=
  (List.range 2).filter fun k => (s.link k).enable && (s.linkRun k).cmd.isNone

/-- One link starts on the set in force and reaches its data phase or does not; how its training ends, and the latency that it
gives, are free values (log 56). -/
def trainLink (k : Nat) (s : State) : Bool × State :=
  match startLink k s with
  | (some _, s) => (false, s)
  | (none, s) =>
    let (d, s) := s.draw
    match Config.flag 31 d, tuneLanes k s with
    | true, (true, s) =>
      (true, linkUp k (Config.flag 33 d) s)
    | _, (_, s) => (false, s)

/-- The links in turn, up to the first that fails. -/
def trainLinks : List Nat → State → Option Nat × State
  | [], s => (none, s)
  | k :: t, s =>
    match trainLink k s with
    | (true, s) => trainLinks t s
    | (false, s) => (some k, s)

/-- The head profile set in force is replaced. -/
def setHeads (heads : List (List (List HeadStep))) (ver : Nat) (req : Nat × Nat) (s : State) : State :=
  { s with ctl.cfg.radio := { s.cfg.radio with heads := heads, headsVer := ver, headsReq := req } }

/-- Links run their shutdown sequence and leave the data phase; captures on their lanes stop. -/
def shutLinks (ks : List Nat) (s : State) : State :=
  ks.foldl (fun s k => linkDown k (setResetN s.actId k false ((runHead k 4 (4 * k) s).2.modLink k fun l => { l with state := .down }))) s

/-- The old set is restored, and each link restarts on it. -/
def restoreHeads (r : RadioSettings) (ks : List Nat) (s : State) : State :=
  ks.foldl (fun s k =>
    match trainLink k s with
    | (true, s) => s
    | (false, s) => restartFailed k s) (setHeads r.heads r.headsVer r.headsReq s)

/-- The block 0x0602 of a generation (R473, R477). -/
def Generation.withHeads (r : RadioSettings) (g : Generation) : Generation :=
  let (c, t) := g.cfg.getD (Settings.factory, TimeSettings.factory)
  { g with cfg := some ({ c with radio :=
      { c.radio with heads := r.heads, headsVer := r.headsVer, headsReq := r.headsReq } }, t) }

/-- Part 1 is activated (R473). -/
def activateHeads (c : HostCmd) (p : ManifestPart) (s : State) : CmdResult :=
  match leastNode s.grantedNodes with
  | some n => .refuse erState n
  | none =>
    let was := s.cfg.radio
    let ks := s.linksToRestart
    let s := setHeads (headsOf s.act.staging.headsImage) p.version (p.reqSideLo, p.reqSideHi) (shutLinks ks s)
    match trainLinks ks s with
    | (some k, s) => .deferred (finish c erTimeout k [] (restoreHeads was ks s))
    | (none, s) =>
      .accepted (autoWrite (Generation.withHeads s.cfg.radio) (activated 1 s)) (leBytes 1 0xFF ++ zeros 3)

/-- Part 2: the trial is pending until the side's next module start or RESET.SIDE. -/
def activateSide (confirmS : Nat) (s : State) : CmdResult :=
  let s := s.modAct fun d =>
    { d with firmware := d.firmware.makePending, staging := { d.staging with confirmS := confirmS } }
  .ok (activated 2 s) (leBytes 1 s.act.firmware.flags.trialSlot ++ zeros 3)

/-- Part 3: the host switch restarts 10 ms after the completion. -/
def activateSwitch (s : State) : CmdResult :=
  let s := activated 3 (modSwitchFw Firmware.makePending { s with hsw.restartDue := true })
  .ok s (leBytes 1 s.hsw.nv.firmware.flags.trialSlot ++ zeros 3)

def updateActivate (c : HostCmd) (s : State) : CmdResult :=
  let part := fld c.packet.params 0 1
  let confirmS := fld c.packet.params 2 2
  let g := s.act.staging
  if part = 1 ∧ confirmS ≠ 0 then .refuse erRange 2
  else if g.resultOf part ≠ some .verified then .refuse erState part
  else
    match g.earlier part, g.entry part with
    | some k, _ => .refuse erState (0x100 + k)
    | none, none => .refuse erState part
    | none, some p =>
      match (s.setWith p).conflict with
      | some d => .refuse erConflict d
      | none =>
        if part = 1 then activateHeads c p s else if part = 2 then activateSide confirmS s else activateSwitch s

def runUpdateActivate (c : HostCmd) (s : State) : CmdResult := underLock updateActivate c s

/-! ### UPDATE.STATUS and UPDATE.STORE -/

/-- `trial` of UPDATE.STATUS. -/
def Firmware.trialByte (f : Firmware) : Nat :=
  (match f.flags.trial with
    | .none => 0
    | .pending => 1
    | .booted => 2) + 128 * f.flags.trialSlot

/-- The version in a slot, 0 when it is invalid. -/
def SlotImage.shown (x : SlotImage) : Nat := if x.valid then x.version else 0

/-- Seconds left of the confirmation window, rounded up. -/
def State.confirmLeft (s : State) : Nat :=
  match s.vol.redun.confirmFrom with
  | some t => ceilDiv (s.act.staging.confirmS * tickS - (s.clock - t)) tickS
  | none => 0

def runUpdateStatus (_ : HostCmd) (s : State) : CmdResult :=
  let d := s.act
  let g := d.staging
  let nb := match g.manifest with
    | some m => m.nBlocks
    | none => 0
  .ok s (leBytes 1 g.code ++ leBytes 1 (b2n d.lock.held) ++ leBytes 1 d.lock.session ++ leBytes 1 g.blocks.length ++
    leBytes 2 d.lock.hostId ++ leBytes 2 nb ++ leBytes 4 g.next ++ leBytes 4 d.firmware.slot0.shown ++
    leBytes 4 d.firmware.slot1.shown ++ leBytes 1 d.firmware.flags.active ++ leBytes 1 d.firmware.trialByte ++
    leBytes 1 s.hsw.nv.firmware.trialByte ++ leBytes 1 (b2n d.store.kept.isSome) ++
    leBytes 4 (s.other.firmware.slot s.other.firmware.nextSlot).version ++ leBytes 4 s.hsw.nv.firmware.image.version ++
    leBytes 4 s.cfg.radio.headsVer ++ leBytes 4 d.floor ++ leBytes 2 d.store.freePages ++ leBytes 2 s.confirmLeft)

/-- The configuration in force becomes a new current generation. -/
def runUpdateStore (_ : HostCmd) (s : State) : CmdResult :=
  let t := s.act.store
  if t.blocked then .refuse erState 2
  else
    let (n, s) := pagesNeeded s
    if t.freePages < n then .refuse erCapacity t.freePages
    else
      let s := commitStore s.actId s.generation s
      .ok s (leBytes 4 s.act.store.dirSeq ++ leBytes 2 n ++ leBytes 2 s.act.store.freePages)

/-! ### The confirmation window and the host switch's restart (R470, R472) -/

/-- The window ends without confirmation on the active side. -/
def execConfirmationWindowExpiry (s : State) : Host.Outcome State Fault Refusal :=
  if !s.actOn || !s.act.firmware.onTrial || s.vol.redun.confirmFrom.isNone then .next s
  else
    let ver := s.act.firmware.image.version
    let s := dropTrial s.actId { s with vol.redun := { s.vol.redun with confirmFrom := none } }
    let s := updateEvent 5 2 ver s
    .next (if s.standbyOk then relinquish 7 s else s)

/-- 10 ms after the completion of UPDATE.ACTIVATE of part 3. -/
def execHostSwitchRestart (s : State) : Host.Outcome State Fault Refusal :=
  if !s.hsw.restartDue || !s.hsw.ready then .next s
  else
    let s := linkLoss s
    let s := if (s.sess 1).via == .mnt then endSession 1 2 s else s
    let h := s.hsw
    .next { s with hsw := { h with
      restartDue := false, restarting := true, ready := false, pcieUp := false, mnt := MntPort.start, alive := 0 } }

def execUpdateBegin (p : Packet) (s : State) : Host.Outcome State Fault Refusal := .next (serve 0x1101 runUpdateBegin p s)
def execUpdateChunk (p : Packet) (s : State) : Host.Outcome State Fault Refusal := .next (serve 0x1102 runUpdateChunk p s)
def execUpdateApply (p : Packet) (s : State) : Host.Outcome State Fault Refusal := .next (serve 0x1103 runUpdateApply p s)
def execUpdateActivate (p : Packet) (s : State) : Host.Outcome State Fault Refusal :=
  .next (serve 0x1104 runUpdateActivate p s)
def execUpdateEnd (p : Packet) (s : State) : Host.Outcome State Fault Refusal := .next (serve 0x1105 runUpdateEnd p s)
def execUpdateStatus (p : Packet) (s : State) : Host.Outcome State Fault Refusal := .next (serve 0x1106 runUpdateStatus p s)
def execUpdateStore (p : Packet) (s : State) : Host.Outcome State Fault Refusal := .next (serve 0x1110 runUpdateStore p s)

end Sys2Proof.Machine
end

