-- ==== Sys2Proof/Machine/Commands.lean ====
section
/-! DEFINITION.
The start of fetched commands of every opcode (R94), and packets that a peer carries (R420).
-/

namespace Sys2Proof.Machine

/-- What each opcode does when its command starts. -/
def opcodeRuns : List (Nat × (HostCmd → State → CmdResult)) :=
  [(0x0101, runSessionOpen), (0x0102, runSessionClose), (0x0103, runSessionTags), (0x0201, runGnssConfig),
   (0x0202, runGnssChannelSet), (0x0203, runGnssChannelRead), (0x0204, runGnssNotch), (0x0205, runGnssMonitor),
   (0x0206, runGnssMpmap), (0x0207, runGnssStatus), (0x0301, runCorrBase), (0x0302, runCorrStream),
   (0x0303, runCorrDescriptor), (0x0304, runCorrWatchdog), (0x0305, runCorrStatus), (0x0306, runCorrInject),
   (0x0401, runSolverConfig), (0x0402, runSolverMember), (0x0403, runSolverRead), (0x0404, runSolverStatus)] ++
  [(0x0405, runSolverReset), (0x0406, runSolverIntegrity), (0x0501, runTimeConfig), (0x0502, runTimePtpConfig),
   (0x0503, runTimeLeap), (0x0504, runTimeStatus), (0x0505, runTimeRead), (0x0601, runRadioLinkConfig),
   (0x0602, runRadioHeadProfile), (0x0603, runRadioLaneConfig), (0x0604, runRadioRegionLoad), (0x0605, runRadioTxCal),
   (0x0606, runRadioBudget), (0x0607, runRadioLaneStatus), (0x0701, runMacConfig), (0x0702, runMacLaneMac),
   (0x0703, runMacProvision), (0x0704, runMacConnParam), (0x0705, runMacDrop), (0x0706, runMacMemberRead)] ++
  [(0x0707, runMacStatus), (0x0708, runMacSend), (0x0801, runSluiceConfig), (0x0802, runSluiceGrant),
   (0x0803, runSluiceStop), (0x0804, runSluiceRelease), (0x0805, runSluiceStatus), (0x0901, runDykeConfig),
   (0x0902, runDykeClass), (0x0903, runDykeMember), (0x0904, runDykeGraphEdit), (0x0905, runDykeSwap),
   (0x0906, runDykeReserve), (0x0907, runDykeRelease), (0x0908, runDykeRead), (0x0909, runDykeStatus),
   (0x0911, runTaskQueue), (0x0912, runTaskAccept), (0x0913, runTaskCancel), (0x0A01, runProfileConfig)] ++
  [(0x0A02, runProfileMember), (0x0A03, runProfileRetarget), (0x0A04, runProfileRead), (0x0B01, runSchedConfig),
   (0x0B02, runSchedCore), (0x0B03, runSchedStatus), (0x0B04, runSchedHist), (0x0B05, runSchedFlowRead),
   (0x0B06, runSchedItemRead), (0x0C01, runQueueConfig), (0x0C02, runQueuePool), (0x0C03, runQueueStatus),
   (0x0C04, runQueueRead), (0x0C05, runQueueMbxRead), (0x0D01, runCapturePort), (0x0D02, runCaptureArm),
   (0x0D03, runCaptureTrigger), (0x0D04, runCaptureSyncConfig), (0x0D05, runCaptureSyncCal), (0x0D06, runCaptureStatus)] ++
  [(0x0E01, runFedConfig), (0x0E02, runFedPort), (0x0E03, runFedPeer), (0x0E04, runFedHandover),
   (0x0E05, runFedSiteStop), (0x0E06, runFedStatus), (0x0F01, runRedunConfig), (0x0F02, runRedunHandover),
   (0x0F03, runRedunCheckpoint), (0x0F04, runRedunStatus), (0x0F05, runRedunSideRead), (0x1001, runSecAttest),
   (0x1002, runSecCert), (0x1003, runSecKeyImport), (0x1004, runSecStatus), (0x1005, runSecDebugUnlock),
   (0x1101, runUpdateBegin), (0x1102, runUpdateChunk), (0x1103, runUpdateApply), (0x1104, runUpdateActivate)] ++
  [(0x1105, runUpdateEnd), (0x1106, runUpdateStatus), (0x1110, runUpdateStore), (0x1201, runRecordRead),
   (0x1202, runRecordStatus), (0x1203, runRecordConfig), (0x1204, runRecordMark), (0x1301, runCounterSelect),
   (0x1302, runCounterControl), (0x1303, runCounterRead), (0x1401, runResetSide), (0x1402, runResetCause),
   (0x1410, runPowerMode), (0x1420, runPowerSense), (0x1421, runPowerGpio)]

/-- An opcode that no packet gets past step 1 of R103 with is never started. -/
def runOpcode (c : HostCmd) (s : State) : CmdResult :=
  match opcodeRuns.find? fun e => e.1 == c.opcode with
  | some e => e.2 c s
  | none => .refuse erOpcode c.opcode

/-- The first fetched command of a session that fences let start; none while a planned handover stops the starting of
commands (R435). -/
def State.nextCommand (s : State) (n : Nat) : Option HostCmd :=
  if s.vol.redun.handover.isSome || !s.hsw.serving then none
  else ((s.sess n).inFlight.find? fun f => f.phase == .fetched && s.mayStart f.cmd && (s.spoiled f.cmd).isNone).map (·.cmd)

/-- The first fetched command of a session that could start if an uncorrectable word had not spoiled its packet, with the number of its
command queue. -/
def State.spoiledCommand (s : State) (n : Nat) : Option (HostCmd × Nat) :=
  if s.vol.redun.handover.isSome || !s.hsw.serving then none
  else (s.sess n).inFlight.findSome? fun f =>
    if f.phase == .fetched && s.mayStart f.cmd then (s.spoiled f.cmd).map fun q => (f.cmd, q) else none

/-- A command starts; a poisoned command packet is refused with ER_INTEGRITY, and nothing else changes (R380). -/
def execCommandStart (session : Nat) (s : State) : Host.Outcome State Fault Refusal :=
  match s.nextCommand session with
  | some c => .next (startCmd runOpcode c s)
  | none =>
    match s.spoiledCommand session with
    | some (c, q) => .next (finish c erIntegrity q [] (serveItem c s))
    | none => .next s

/-! ### Packets that a peer carries (R420) -/

/-- The transport of a session that a peer binds. -/
def siteVia (n : Nat) : Transport := if n = 2 then .site2 else .site3

/-- The refusal of a SESSION.OPEN for a session that is not bound to the peer that asks: it goes back to that peer. -/
def refuseUnbound (peer : Nat) (p : Packet) (s : State) : State :=
  let h := cmdEntry (mkCmd 0x0101 p 0 0xFFFF s) erAuth 0 false []
  fedSend peer 20 0 ({ h.entry with epoch := s.hsw.epoch, mtbNs := s.mtbNs } : Entry).bytes s

/-- What the item of a UCP message does: the packet is fetched, or an unbound SESSION.OPEN is refused. -/
def ucpWork (src opcode : Nat) (p : Packet) (s : State) : State :=
  if s.boundPeer (p.session % 4) == some src then fetchPacket opcode p false s
  else if opcode = 0x0101 then refuseUnbound src p s
  else fedDiscard s

/-! ### Items in service (R24, R357) -/

/-- The sync of a connection after a takeover is reported (R265, R354). -/
def syncWork (node : Nat) (s : State) : State :=
  match s.conn node with
  | some c => linkEvent node c.par.lane 10 s
  | none => s

/-- The admission that a CONN item carries out (R257). -/
def joinWork (l : Nat) (s : State) : State :=
  match (s.macLane l).join with
  | some j => if j.step = 2 then joinDone l j s else s
  | none => s

/-- The work of an event that waited as an item (R354). -/
def eventWork (i : WorkItem) (s : State) : State :=
  match i.work with
  | some (.profileFrameDue n) => frameWork n s
  | some (.resumeRetry n) => resumeWork n s
  | some (.resumePlan n) => resume n s
  | some (.borderCommit t) => borderWork t s
  | some (.epochPartWaitExpiry n e) => partWaitWork n e s
  | some (.missingEpoch n e) => predictWork n e s
  | some (.supervisionTimeout n) => endConn n 2 s
  | some (.endConn k) => endConn i.node k s
  | some .syncDone => syncWork i.node s
  | some (.joinAuthReceived l _) => joinWork l s
  | some (.handoverInstant n) => stageWork n s
  | some (.handoverEnd k n o) => partWork k n o s
  | some .allotterRun => allotterRun s
  | some .allotterPeriodic => allotterRun s
  | some .hotStartWrite => hotStartWork s
  | some .budgetAccountingWrite => budgetWork s
  | some (.gnssEpoch e m) => baseWork e m s
  | some (.fedUcpReceived h o p) => ucpWork h.src o p s
  | some row => fedWork row s
  | none => if i.kind = 3 then frameWork i.node s else if i.kind = 12 then takeBase id s else s

/-- What an item does when it has not done it yet. -/
def itemWork (i : WorkItem) (s : State) : State :=
  if i.acted then s
  else
    let s := actedOn i s
    match i.kind with
    | 1 => uplinkWork i s
    | 2 => memberMsgWork i s
    | 7 =>
      match i.run with
      | some c => runStarted runOpcode c s
      | none => eventWork i s
    | _ => eventWork i s

/-- The item in service on a core ends, with its effect if a row of its own has not shown that yet (R357). -/
def execWorkItemDone (core : Nat) (s : State) : Host.Outcome State Fault Refusal :=
  let f := match (s.core core).state with
    | .busy f _ => f
    | .leaving f _ => f
    | _ => 0xFFFF
  let s := match (s.flow f).items.find? fun i => i.core == some core with
    | some i => itemWork i s
    | none => s
  .next (bistGo 40 (coreDone core s))

/-- A packet of a peer session enters as from any transport; one that cannot be fetched yet stays with the peer. -/
def execFedUcpReceived (h : FedHead) (opcode : Nat) (p : Packet) (s : State) : Host.Outcome State Fault Refusal :=
  let n := p.session % 4
  let p := { p with via := siteVia n }
  let bound := (n == 2 || n == 3) && s.boundPeer n == some h.src
  let new := match tget s.vol.fed.peers h.src with
    | some r => decide (2 ≤ r.edition)
    | none => false
  if !new || (bound && !s.canFetch p.via) then .next s
  else
    fedTake h (.fedUcpReceived h opcode p) (ucpWork h.src opcode p) s

end Sys2Proof.Machine
end

