-- ==== Sys2Proof/Machine/Dispatch.lean ====
section
/-! DEFINITION.
The meaning of every command, arm by arm.
-/

namespace Sys2Proof.Machine

def exec (i : Instr) (s : State) : Host.Outcome State Fault Refusal :=
  match i with
  | .modulePowerOn strap1 strap0 => Sys2Proof.Machine.execModulePowerOn strap1 strap0 s
  | .brownOutWarning vinMv => Sys2Proof.Machine.execBrownOutWarning vinMv s
  | .modulePowerDown absent => Sys2Proof.Machine.execModulePowerDown absent s
  | .overvoltageLockout vinMv => Sys2Proof.Machine.execOvervoltageLockout vinMv s
  | .vbatLoss vbatMv => Sys2Proof.Machine.execVbatLoss vbatMv s
  | .vbatRestored => Sys2Proof.Machine.execVbatRestored s
  | .modResetNAsserted => Sys2Proof.Machine.execModResetNAsserted s
  | .modResetNRelease strap1 strap0 => Sys2Proof.Machine.execModResetNRelease strap1 strap0 s
  | .pciePerst low => Sys2Proof.Machine.execPciePerst low s
  | .pcieLinkLoss => Sys2Proof.Machine.execPcieLinkLoss s
  | .hostSwitchReady selfTest => Sys2Proof.Machine.execHostSwitchReady selfTest s
  | .hwAliveIncrement => Sys2Proof.Machine.execHwAliveIncrement s
  | .bootRomDone iosel33 => Sys2Proof.Machine.execBootRomDone iosel33 s
  | .imageVerifyDone ok0 ok1 => Sys2Proof.Machine.execImageVerifyDone ok0 ok1 s
  | .stateLoadDone cfgOk ckptOk prevOk torn => Sys2Proof.Machine.execStateLoadDone cfgOk ckptOk prevOk torn s
  | .radioHeadBringupDone up0 up1 => Sys2Proof.Machine.execRadioHeadBringupDone up0 up1 s
  | .gnssStartEnd stb => Sys2Proof.Machine.execGnssStartEnd stb s
  | .gnssStartDeadline => Sys2Proof.Machine.execGnssStartDeadline s
  | .heartbeatStart => Sys2Proof.Machine.execHeartbeatStart s
  | .startStageOverrun => Sys2Proof.Machine.execStartStageOverrun s
  | .supervisorWatchdogExpiry => Sys2Proof.Machine.execSupervisorWatchdogExpiry s
  | .lockstepMismatch => Sys2Proof.Machine.execLockstepMismatch s
  | .uncorrectableMemoryError partition words queue cell => Sys2Proof.Machine.execUncorrectableMemoryError partition words queue cell s
  | .railOutOfWindow mv => Sys2Proof.Machine.execRailOutOfWindow mv s
  | .junctionTempThreshold sensor temp => Sys2Proof.Machine.execJunctionTempThreshold sensor temp s
  | .bistPeriod passed => Sys2Proof.Machine.execBistPeriod passed s
  | .checkpointSnapshot => Sys2Proof.Machine.execCheckpointSnapshot s
  | .checkpointCommit => Sys2Proof.Machine.execCheckpointCommit s
  | .sqTailDoorbell set index => Sys2Proof.Machine.execSqTailDoorbell set index s
  | .cqHeadDoorbell set index => Sys2Proof.Machine.execCqHeadDoorbell set index s
  | .irqCauseClear value events => Sys2Proof.Machine.execIrqCauseClear value events s
  | .ringErrRead => Sys2Proof.Machine.execRingErrRead s
  | .ringCtrlWrite set value => Sys2Proof.Machine.execRingCtrlWrite set value s
  | .registerWrite offset value => Sys2Proof.Machine.execRegisterWrite offset value s
  | .packetFetch via opcode packet readError poisoned => Sys2Proof.Machine.execPacketFetch via opcode packet readError poisoned s
  | .commandStart session => Sys2Proof.Machine.execCommandStart session s
  | .moderationTimerExpiry set => Sys2Proof.Machine.execModerationTimerExpiry set s
  | .mntWritePacket opcode packet crcOk complete => Sys2Proof.Machine.execMntWritePacket opcode packet crcOk complete s
  | .mntReadCompletion complete => Sys2Proof.Machine.execMntReadCompletion complete s
  | .mntReadStatus complete => Sys2Proof.Machine.execMntReadStatus complete s
  | .mntReadRegister offset complete => Sys2Proof.Machine.execMntReadRegister offset complete s
  | .mntWriteRegister offset value complete => Sys2Proof.Machine.execMntWriteRegister offset value complete s
  | .sessionOpen p => Sys2Proof.Machine.execSessionOpen p s
  | .sessionClose p => Sys2Proof.Machine.execSessionClose p s
  | .sessionTags p => Sys2Proof.Machine.execSessionTags p s
  | .powerGpio p => Sys2Proof.Machine.execPowerGpio p s
  | .powerSense p => Sys2Proof.Machine.execPowerSense p s
  | .powerMode p => Sys2Proof.Machine.execPowerMode p s
  | .powerModeTakesEffect => Sys2Proof.Machine.execPowerModeTakesEffect s
  | .resetSide p => Sys2Proof.Machine.execResetSide p s
  | .resetSideDone passed testCode => Sys2Proof.Machine.execResetSideDone passed testCode s
  | .resetCause p => Sys2Proof.Machine.execResetCause p s
  | .gnssConfig p => Sys2Proof.Machine.execGnssConfig p s
  | .gnssChannelSet p => Sys2Proof.Machine.execGnssChannelSet p s
  | .gnssChannelRead p => Sys2Proof.Machine.execGnssChannelRead p s
  | .gnssNotch p => Sys2Proof.Machine.execGnssNotch p s
  | .gnssMonitor p => Sys2Proof.Machine.execGnssMonitor p s
  | .gnssMpmap p => Sys2Proof.Machine.execGnssMpmap p s
  | .gnssStatus p => Sys2Proof.Machine.execGnssStatus p s
  | .channelIntegration channel taps sync preamble => Sys2Proof.Machine.execChannelIntegration channel taps sync preamble s
  | .acquisitionDwellDone found => Sys2Proof.Machine.execAcquisitionDwellDone found s
  | .gnssEpoch epoch m => Sys2Proof.Machine.execGnssEpoch epoch m s
  | .monitorUpdate fe agc flat blanked => Sys2Proof.Machine.execMonitorUpdate fe agc flat blanked s
  | .interferenceFlagSet fe => Sys2Proof.Machine.execInterferenceFlagSet fe s
  | .interferenceFlagClear fe => Sys2Proof.Machine.execInterferenceFlagClear fe s
  | .adaptiveNotchMove fe index offset level => Sys2Proof.Machine.execAdaptiveNotchMove fe index offset level s
  | .mpmapSecond taps => Sys2Proof.Machine.execMpmapSecond taps s
  | .mpmapDurationEnd => Sys2Proof.Machine.execMpmapDurationEnd s
  | .fenBurstStart => Sys2Proof.Machine.execFenBurstStart s
  | .fenBurstEnd => Sys2Proof.Machine.execFenBurstEnd s
  | .hotStartWrite => Sys2Proof.Machine.execHotStartWrite s
  | .budgetAccountingWrite => Sys2Proof.Machine.execBudgetAccountingWrite s
  | .antennaBiasLimit ma => Sys2Proof.Machine.execAntennaBiasLimit ma s
  | .biasRetry below ma => Sys2Proof.Machine.execBiasRetry below ma s
  | .corrBase p => Sys2Proof.Machine.execCorrBase p s
  | .corrStream p => Sys2Proof.Machine.execCorrStream p s
  | .corrDescriptor p => Sys2Proof.Machine.execCorrDescriptor p s
  | .corrWatchdog p => Sys2Proof.Machine.execCorrWatchdog p s
  | .corrInject p => Sys2Proof.Machine.execCorrInject p s
  | .corrStatus p => Sys2Proof.Machine.execCorrStatus p s
  | .surveyMaxTime => Sys2Proof.Machine.execSurveyMaxTime s
  | .watchdogHoldoffExpiry cause => Sys2Proof.Machine.execWatchdogHoldoffExpiry cause s
  | .neighbourBufferTimeout station => Sys2Proof.Machine.execNeighbourBufferTimeout station s
  | .solverConfig p => Sys2Proof.Machine.execSolverConfig p s
  | .solverMember p => Sys2Proof.Machine.execSolverMember p s
  | .solverRead p => Sys2Proof.Machine.execSolverRead p s
  | .solverStatus p => Sys2Proof.Machine.execSolverStatus p s
  | .solverReset p => Sys2Proof.Machine.execSolverReset p s
  | .solverIntegrity p => Sys2Proof.Machine.execSolverIntegrity p s
  | .uplinkItem core => Sys2Proof.Machine.execUplinkItem core s
  | .epochPartWaitExpiry node => Sys2Proof.Machine.execEpochPartWaitExpiry node s
  | .missingEpoch node epoch => Sys2Proof.Machine.execMissingEpoch node epoch s
  | .crossMemberTest => Sys2Proof.Machine.execCrossMemberTest s
  | .solverExclusionExpiry const sv => Sys2Proof.Machine.execSolverExclusionExpiry const sv s
  | .solverAlarmClearExpiry code const sv east north => Sys2Proof.Machine.execSolverAlarmClearExpiry code const sv east north s
  | .filterRetentionExpiry node => Sys2Proof.Machine.execFilterRetentionExpiry node s
  | .timeConfig p => Sys2Proof.Machine.execTimeConfig p s
  | .timePtpConfig p => Sys2Proof.Machine.execTimePtpConfig p s
  | .timeLeap p => Sys2Proof.Machine.execTimeLeap p s
  | .timeStatus p => Sys2Proof.Machine.execTimeStatus p s
  | .timeRead p => Sys2Proof.Machine.execTimeRead p s
  | .stbDisciplineLoss => Sys2Proof.Machine.execStbDisciplineLoss s
  | .stbQualified err => Sys2Proof.Machine.execStbQualified err s
  | .slewComplete => Sys2Proof.Machine.execSlewComplete s
  | .timeStepAtB => Sys2Proof.Machine.execTimeStepAtB s
  | .holdoverBoundCrossing => Sys2Proof.Machine.execHoldoverBoundCrossing s
  | .syncRefInLost => Sys2Proof.Machine.execSyncRefInLost s
  | .ppsInfoSend => Sys2Proof.Machine.execPpsInfoSend s
  | .ppsPulse => Sys2Proof.Machine.execPpsPulse s
  | .atbStepAtHyperframe => Sys2Proof.Machine.execAtbStepAtHyperframe s
  | .utcParametersDecoded const taiUtc next changeAt => Sys2Proof.Machine.execUtcParametersDecoded const taiUtc next changeAt s
  | .leapTableChange => Sys2Proof.Machine.execLeapTableChange s
  | .ppsInEdge => Sys2Proof.Machine.execPpsInEdge s
  | .ptpEventMessageRx port body => Sys2Proof.Machine.execPtpEventMessageRx port body s
  | .ptpEventMessageTx port msgType => Sys2Proof.Machine.execPtpEventMessageTx port msgType s
  | .ptpTransparentPass port residence sum body => Sys2Proof.Machine.execPtpTransparentPass port residence sum body s
  | .radioLinkConfig p => Sys2Proof.Machine.execRadioLinkConfig p s
  | .radioHeadProfile p => Sys2Proof.Machine.execRadioHeadProfile p s
  | .radioLaneConfig p => Sys2Proof.Machine.execRadioLaneConfig p s
  | .radioRegionLoad p => Sys2Proof.Machine.execRadioRegionLoad p s
  | .radioTxCal p => Sys2Proof.Machine.execRadioTxCal p s
  | .radioBudget p => Sys2Proof.Machine.execRadioBudget p s
  | .radioLaneStatus p => Sys2Proof.Machine.execRadioLaneStatus p s
  | .linkDataPhaseLost link crcErrors => Sys2Proof.Machine.execLinkDataPhaseLost link crcErrors s
  | .linkRetrain link => Sys2Proof.Machine.execLinkRetrain link s
  | .headAlarmOrLockLoss link alarm => Sys2Proof.Machine.execHeadAlarmOrLockLoss link alarm s
  | .headRestart link => Sys2Proof.Machine.execHeadRestart link s
  | .headLockCheckTimeout link => Sys2Proof.Machine.execHeadLockCheckTimeout link s
  | .frameTransmit lane chan rate type node body => Sys2Proof.Machine.execFrameTransmit lane chan rate type node body s
  | .budgetBinBoundary lane lo chan => Sys2Proof.Machine.execBudgetBinBoundary lane lo chan s
  | .lbtMeasurement lane levels => Sys2Proof.Machine.execLbtMeasurement lane levels s
  | .radarDetected lane chan => Sys2Proof.Machine.execRadarDetected lane chan s
  | .dfsStopWindowEnd lane chan => Sys2Proof.Machine.execDfsStopWindowEnd lane chan s
  | .cacComplete lane chan => Sys2Proof.Machine.execCacComplete lane chan s
  | .nonOccupancyEnd lane chan => Sys2Proof.Machine.execNonOccupancyEnd lane chan s
  | .noiseFloorAverage lane floors => Sys2Proof.Machine.execNoiseFloorAverage lane floors s
  | .macConfig p => Sys2Proof.Machine.execMacConfig p s
  | .macLaneMac p => Sys2Proof.Machine.execMacLaneMac p s
  | .macProvision p => Sys2Proof.Machine.execMacProvision p s
  | .macConnParam p => Sys2Proof.Machine.execMacConnParam p s
  | .macDrop p => Sys2Proof.Machine.execMacDrop p s
  | .macMemberRead p => Sys2Proof.Machine.execMacMemberRead p s
  | .macStatus p => Sys2Proof.Machine.execMacStatus p s
  | .macSend p => Sys2Proof.Machine.execMacSend p s
  | .slotBoundary lane asn slot => Sys2Proof.Machine.execSlotBoundary lane asn slot s
  | .frameReceived lane fcsType fec modeSwitch fcsOk micOk dbfs bytes => Sys2Proof.Machine.execFrameReceived lane fcsType fec modeSwitch fcsOk micOk dbfs bytes s
  | .joinReqReceived lane asn memberId editions memTol reqAddr bytes => Sys2Proof.Machine.execJoinReqReceived lane asn memberId editions memTol reqAddr bytes s
  | .joinAuthReceived lane sig => Sys2Proof.Machine.execJoinAuthReceived lane sig s
  | .joinAuthMissing lane => Sys2Proof.Machine.execJoinAuthMissing lane s
  | .dataFrameReceived lane node ctr seq kind ack sync rssi payload => Sys2Proof.Machine.execDataFrameReceived lane node ctr seq kind ack sync rssi payload s
  | .supervisionTimeout node => Sys2Proof.Machine.execSupervisionTimeout node s
  | .connectionInstant node => Sys2Proof.Machine.execConnectionInstant node s
  | .siteKeySwitch => Sys2Proof.Machine.execSiteKeySwitch s
  | .oldSiteKeyDiscard => Sys2Proof.Machine.execOldSiteKeyDiscard s
  | .seenCacheAgeOut origin mseq => Sys2Proof.Machine.execSeenCacheAgeOut origin mseq s
  | .sluiceConfig p => Sys2Proof.Machine.execSluiceConfig p s
  | .sluiceGrant p => Sys2Proof.Machine.execSluiceGrant p s
  | .sluiceStop p => Sys2Proof.Machine.execSluiceStop p s
  | .sluiceRelease p => Sys2Proof.Machine.execSluiceRelease p s
  | .sluiceStatus p => Sys2Proof.Machine.execSluiceStatus p s
  | .sluiceSlot asn => Sys2Proof.Machine.execSluiceSlot asn s
  | .subghzStopSpan lane asn => Sys2Proof.Machine.execSubghzStopSpan lane asn s
  | .sluInOpen input => Sys2Proof.Machine.execSluInOpen input s
  | .sluInClosed input => Sys2Proof.Machine.execSluInClosed input s
  | .sluInFault input => Sys2Proof.Machine.execSluInFault input s
  | .loopDiscrepancyTimeout => Sys2Proof.Machine.execLoopDiscrepancyTimeout s
  | .memberMsgItem core => Sys2Proof.Machine.execMemberMsgItem core s
  | .confirmTimeout stop => Sys2Proof.Machine.execConfirmTimeout stop s
  | .stopStatusReport stop => Sys2Proof.Machine.execStopStatusReport stop s
  | .dykeConfig p => Sys2Proof.Machine.execDykeConfig p s
  | .dykeClass p => Sys2Proof.Machine.execDykeClass p s
  | .dykeMember p => Sys2Proof.Machine.execDykeMember p s
  | .dykeGraphEdit p => Sys2Proof.Machine.execDykeGraphEdit p s
  | .dykeSwap p => Sys2Proof.Machine.execDykeSwap p s
  | .dykeReserve p => Sys2Proof.Machine.execDykeReserve p s
  | .dykeRelease p => Sys2Proof.Machine.execDykeRelease p s
  | .dykeRead p => Sys2Proof.Machine.execDykeRead p s
  | .dykeStatus p => Sys2Proof.Machine.execDykeStatus p s
  | .taskQueue p => Sys2Proof.Machine.execTaskQueue p s
  | .taskAccept p => Sys2Proof.Machine.execTaskAccept p s
  | .taskCancel p => Sys2Proof.Machine.execTaskCancel p s
  | .tickBoundary => Sys2Proof.Machine.execTickBoundary s
  | .resumeRetry node => Sys2Proof.Machine.execResumeRetry node s
  | .graphSwapApply => Sys2Proof.Machine.execGraphSwapApply s
  | .allotterRun => Sys2Proof.Machine.execAllotterRun s
  | .allotterPeriodic => Sys2Proof.Machine.execAllotterPeriodic s
  | .offerTimeout task => Sys2Proof.Machine.execOfferTimeout task s
  | .declineBarExpiry task node => Sys2Proof.Machine.execDeclineBarExpiry task node s
  | .taskDeadlineExpiry task => Sys2Proof.Machine.execTaskDeadlineExpiry task s
  | .taskDone task => Sys2Proof.Machine.execTaskDone task s
  | .borderCommitTimeout txn => Sys2Proof.Machine.execBorderCommitTimeout txn s
  | .profileConfig p => Sys2Proof.Machine.execProfileConfig p s
  | .profileMember p => Sys2Proof.Machine.execProfileMember p s
  | .profileRetarget p => Sys2Proof.Machine.execProfileRetarget p s
  | .profileRead p => Sys2Proof.Machine.execProfileRead p s
  | .profileFrameDue node => Sys2Proof.Machine.execProfileFrameDue node s
  | .schedConfig p => Sys2Proof.Machine.execSchedConfig p s
  | .schedCore p => Sys2Proof.Machine.execSchedCore p s
  | .schedStatus p => Sys2Proof.Machine.execSchedStatus p s
  | .schedHist p => Sys2Proof.Machine.execSchedHist p s
  | .schedFlowRead p => Sys2Proof.Machine.execSchedFlowRead p s
  | .schedItemRead p => Sys2Proof.Machine.execSchedItemRead p s
  | .coreDispatch core => Sys2Proof.Machine.execCoreDispatch core s
  | .workItemDone core => Sys2Proof.Machine.execWorkItemDone core s
  | .affinityWindowExpiry flow => Sys2Proof.Machine.execAffinityWindowExpiry flow s
  | .controlStarvation flow running => Sys2Proof.Machine.execControlStarvation flow running s
  | .delayListTick => Sys2Proof.Machine.execDelayListTick s
  | .packetCommit queue maxLen kind node data => Sys2Proof.Machine.execPacketCommit queue maxLen kind node data s
  | .headReadStallExpiry queue => Sys2Proof.Machine.execHeadReadStallExpiry queue s
  | .poolScrub corrected => Sys2Proof.Machine.execPoolScrub corrected s
  | .queueConfig p => Sys2Proof.Machine.execQueueConfig p s
  | .queuePool p => Sys2Proof.Machine.execQueuePool p s
  | .queueStatus p => Sys2Proof.Machine.execQueueStatus p s
  | .queueRead p => Sys2Proof.Machine.execQueueRead p s
  | .queueMbxRead p => Sys2Proof.Machine.execQueueMbxRead p s
  | .mbxReadWaitEnd session tag => Sys2Proof.Machine.execMbxReadWaitEnd session tag s
  | .capturePort p => Sys2Proof.Machine.execCapturePort p s
  | .captureArm p => Sys2Proof.Machine.execCaptureArm p s
  | .captureTrigger p => Sys2Proof.Machine.execCaptureTrigger p s
  | .captureSyncConfig p => Sys2Proof.Machine.execCaptureSyncConfig p s
  | .captureSyncCal p => Sys2Proof.Machine.execCaptureSyncCal p s
  | .captureStatus p => Sys2Proof.Machine.execCaptureStatus p s
  | .capturePrefillComplete port => Sys2Proof.Machine.execCapturePrefillComplete port s
  | .captureTriggerFired port kinds => Sys2Proof.Machine.execCaptureTriggerFired port kinds s
  | .captureRecordComplete port => Sys2Proof.Machine.execCaptureRecordComplete port s
  | .captureRecordDrain => Sys2Proof.Machine.execCaptureRecordDrain s
  | .captureRoomAvailable port => Sys2Proof.Machine.execCaptureRoomAvailable port s
  | .syncTrgEdge widthPs fracPs => Sys2Proof.Machine.execSyncTrgEdge widthPs fracPs s
  | .syncCalPulse answered readingPs widthPs => Sys2Proof.Machine.execSyncCalPulse answered readingPs widthPs s
  | .fedConfig p => Sys2Proof.Machine.execFedConfig p s
  | .fedPort p => Sys2Proof.Machine.execFedPort p s
  | .fedPeer p => Sys2Proof.Machine.execFedPeer p s
  | .fedHandover p => Sys2Proof.Machine.execFedHandover p s
  | .fedSiteStop p => Sys2Proof.Machine.execFedSiteStop p s
  | .fedStatus p => Sys2Proof.Machine.execFedStatus p s
  | .helloReceived src body => Sys2Proof.Machine.execHelloReceived src body s
  | .helloRspReceived src body => Sys2Proof.Machine.execHelloRspReceived src body s
  | .helloFinReceived src body => Sys2Proof.Machine.execHelloFinReceived src body s
  | .fedStatusReceived h liveSet coordinator digest stopSeq => Sys2Proof.Machine.execFedStatusReceived h liveSet coordinator digest stopSeq s
  | .fedRtcmReceived h data => Sys2Proof.Machine.execFedRtcmReceived h data s
  | .reserveReceived h body => Sys2Proof.Machine.execReserveReceived h body s
  | .reserveRspReceived h body => Sys2Proof.Machine.execReserveRspReceived h body s
  | .commitReceived h body => Sys2Proof.Machine.execCommitReceived h body s
  | .commitAckReceived h body => Sys2Proof.Machine.execCommitAckReceived h body s
  | .releaseReceived h body => Sys2Proof.Machine.execReleaseReceived h body s
  | .releaseAckReceived h => Sys2Proof.Machine.execReleaseAckReceived h s
  | .handoverOfferReceived h offer => Sys2Proof.Machine.execHandoverOfferReceived h offer s
  | .handoverAcceptReceived h status instant par chanMap => Sys2Proof.Machine.execHandoverAcceptReceived h status instant par chanMap s
  | .handoverInstant node => Sys2Proof.Machine.execHandoverInstant node s
  | .handoverDoneReceived h node outcome => Sys2Proof.Machine.execHandoverDoneReceived h node outcome s
  | .doneAckReceived h => Sys2Proof.Machine.execDoneAckReceived h s
  | .handoverAcceptTimeout node => Sys2Proof.Machine.execHandoverAcceptTimeout node s
  | .handoverOutcomeTimeout node => Sys2Proof.Machine.execHandoverOutcomeTimeout node s
  | .siteStopReceived h origin no cat => Sys2Proof.Machine.execSiteStopReceived h origin no cat s
  | .siteStopAckReceived h => Sys2Proof.Machine.execSiteStopAckReceived h s
  | .siteReleaseReceived h origin no => Sys2Proof.Machine.execSiteReleaseReceived h origin no s
  | .siteReleaseAckReceived h => Sys2Proof.Machine.execSiteReleaseAckReceived h s
  | .fedUcpReceived h opcode p => Sys2Proof.Machine.execFedUcpReceived h opcode p s
  | .fedStatusSend => Sys2Proof.Machine.execFedStatusSend s
  | .peerLivenessTimeout peer => Sys2Proof.Machine.execPeerLivenessTimeout peer s
  | .fedRetransmit peer txn => Sys2Proof.Machine.execFedRetransmit peer txn s
  | .handshakeRetry peer => Sys2Proof.Machine.execHandshakeRetry peer s
  | .tentativeWindowExpiry peer txn => Sys2Proof.Machine.execTentativeWindowExpiry peer txn s
  | .responseCacheExpiry peer txn => Sys2Proof.Machine.execResponseCacheExpiry peer txn s
  | .coordinatorDisagreementTimer => Sys2Proof.Machine.execCoordinatorDisagreementTimer s
  | .digestMismatchTimer peer => Sys2Proof.Machine.execDigestMismatchTimer peer s
  | .redunConfig p => Sys2Proof.Machine.execRedunConfig p s
  | .redunHandover p => Sys2Proof.Machine.execRedunHandover p s
  | .holdWaitExpiry => Sys2Proof.Machine.execHoldWaitExpiry s
  | .redunCheckpoint p => Sys2Proof.Machine.execRedunCheckpoint p s
  | .redunStatus p => Sys2Proof.Machine.execRedunStatus p s
  | .redunSideRead p => Sys2Proof.Machine.execRedunSideRead p s
  | .secAttest p => Sys2Proof.Machine.execSecAttest p s
  | .secCert p => Sys2Proof.Machine.execSecCert p s
  | .secKeyImport p => Sys2Proof.Machine.execSecKeyImport p s
  | .secStatus p => Sys2Proof.Machine.execSecStatus p s
  | .secDebugUnlock p => Sys2Proof.Machine.execSecDebugUnlock p s
  | .tamperDetected side sensors temp vbat keyOp => Sys2Proof.Machine.execTamperDetected side sensors temp vbat keyOp s
  | .tamperReport => Sys2Proof.Machine.execTamperReport s
  | .keyFault engine cmd => Sys2Proof.Machine.execKeyFault engine cmd s
  | .debugChallengeExpiry => Sys2Proof.Machine.execDebugChallengeExpiry s
  | .updateBegin p => Sys2Proof.Machine.execUpdateBegin p s
  | .updateChunk p => Sys2Proof.Machine.execUpdateChunk p s
  | .updateApply p => Sys2Proof.Machine.execUpdateApply p s
  | .updateApplyComplete => Sys2Proof.Machine.execUpdateApplyComplete s
  | .updateActivate p => Sys2Proof.Machine.execUpdateActivate p s
  | .updateEnd p => Sys2Proof.Machine.execUpdateEnd p s
  | .updateStatus p => Sys2Proof.Machine.execUpdateStatus p s
  | .updateStore p => Sys2Proof.Machine.execUpdateStore p s
  | .updateLockExpiry => Sys2Proof.Machine.execUpdateLockExpiry s
  | .confirmationWindowExpiry => Sys2Proof.Machine.execConfirmationWindowExpiry s
  | .hostSwitchRestart => Sys2Proof.Machine.execHostSwitchRestart s
  | .recordRead p => Sys2Proof.Machine.execRecordRead p s
  | .recordStatus p => Sys2Proof.Machine.execRecordStatus p s
  | .recordConfig p => Sys2Proof.Machine.execRecordConfig p s
  | .recordMark p => Sys2Proof.Machine.execRecordMark p s
  | .opSecondsTick => Sys2Proof.Machine.execOpSecondsTick s
  | .counterBlockSave => Sys2Proof.Machine.execCounterBlockSave s
  | .foldJournalWrite => Sys2Proof.Machine.execFoldJournalWrite s
  | .repeatWindowEnd => Sys2Proof.Machine.execRepeatWindowEnd s
  | .appendsDroppedReport => Sys2Proof.Machine.execAppendsDroppedReport s
  | .counterSelect p => Sys2Proof.Machine.execCounterSelect p s
  | .counterControl p => Sys2Proof.Machine.execCounterControl p s
  | .counterRead p => Sys2Proof.Machine.execCounterRead p s
  | .counterOverflow counter => Sys2Proof.Machine.execCounterOverflow counter s
  | .vinSupplyEvent vinMv => Sys2Proof.Machine.execVinSupplyEvent vinMv s
  | .syncRefInRestored => Sys2Proof.Machine.execSyncRefInRestored s
  | .linkRestored link late => Sys2Proof.Machine.execLinkRestored link late s
  | .ptpAnnounceReceived port body => Sys2Proof.Machine.execPtpAnnounceReceived port body s
  | .ptpAnnounceReceiptTimeout port => Sys2Proof.Machine.execPtpAnnounceReceiptTimeout port s
  | .syncCalTimeout => Sys2Proof.Machine.execSyncCalTimeout s
  | .plannedHandoverRelinquish => Sys2Proof.Machine.execPlannedHandoverRelinquish s
  | .gnssFailTimeout => Sys2Proof.Machine.execGnssFailTimeout s

end Sys2Proof.Machine
end

