-- ==== Sys2Proof/Machine/Step.lean ====
section
/-! DEFINITION.
One step: the command at the front of the queue is carried out on the module with the rest of the queue. On an empty
queue one tick of MTB passes (log 6).
-/

namespace Sys2Proof.Machine

def step (s : State) : Host.Outcome State Fault Refusal :=
  match s.pending with
  | [] => .next (passTicks 1 s)
  | c :: rest => exec c { s with pending := rest }

/-- The opcode table gives its rows no bits, so no word spells a command: the queue stays as it is. -/
def State.withFetchWord (s : State) (nbits w : Nat) : State :=
  match decodeTableWord nbits w with
  | some c => { s with pending := c :: s.pending }
  | none => s

end Sys2Proof.Machine
end

