-- ==== Sys2Proof/Safety.lean ====
section
/-! DEFINITION.
What counts as a safe run, and the words in which the statements speak: what the path of a command uses, a packet whose command
starts at once, the completion of a command, and the order of the tamper states.
-/

namespace Sys2Proof

/-- The step of this state answers a next state: the module neither faults nor refuses. -/
def StepRuns (s : Machine.State) : Prop := ∃ t, Machine.step s = .next t

/-- Every one of the first `k` steps from a state answers a next state. -/
def RunsFor : Nat → Machine.State → Prop
  | 0, _ => True
  | k + 1, s => ∃ t, Machine.step s = .next t ∧ RunsFor k t

namespace Machine

/-! ### The path of a command -/

/-- The state without what fetching, queueing and completing commands use: the rings, the maintenance port, the sessions, the
interrupt causes and pending vectors, the ring errors, the work flows, the pool, the counters of corrected errors and of events, the
peerings, the recorders, and the vectors and site messages sent. -/
def State.offPath (s : State) : State :=
  { s with
    hsw := { s.hsw with
      sessions := [], ring0 := default, ring1 := default, mnt := default, irqCause := 0#11, msixPba := 0
      ringErrCode := 0, ringErrSet := 0, ringErrCount := 0 }
    sideA := { s.sideA with recorder := default }
    sideB := { s.sideB with recorder := default }
    vol := { s.vol with
      sched := default, peat := default, counters := default, fed := { s.vol.fed with peers := [] }
      redun := { s.vol.redun with corrected := [] } }
    out := { s.out with sqReads := [], cqWrites := [], msix := [], site := [] }
    fresh := 0 }

/-- The second state differs from the first at most in what the path of commands and messages uses. -/
def PathOnly (s t : State) : Prop := t.offPath = s.offPath

/-- The command that a packet with an opcode becomes when it is fetched now (R97). -/
def fetchedCmd (op : Nat) (p : Packet) (s : State) : HostCmd :=
  mkCmd op p ((s.sess (viaSession p.via)).lastSeq + 1) (s.sqIndexOf p.via) s

/-- The packet has left its transport, its command has a fetch sequence number and a tag in flight (R91, R97, R101). -/
def fetched (op : Nat) (p : Packet) (s : State) : State :=
  let c := fetchedCmd op p s
  ((countEvents 0x0001 none 1 (takeSlot p.via s)).modSess c.session fun n => { n with lastSeq := c.fetchSeq }).modSess
    c.session fun n => { n with inFlight := n.inFlight ++ [⟨c, .fetched, [], none⟩] }

/-- The state in which the effect of a packet's command begins: fetched, queued, served, and started (R94 to R101). -/
def started (op : Nat) (p : Packet) (s : State) : State :=
  let c := fetchedCmd op p s
  (serveItem c (queueCommand c (fetched op p s))).modSess c.session fun n =>
    { n with inFlight := n.inFlight.map fun f =>
        if f.cmd.fetchSeq = c.fetchSeq then { f with phase := .started } else f }

/-- A packet that passes steps 1 to 4 of R103 on an open session and whose command starts at once: nothing bars its fetch (R93,
R98, R117, R435), no fence waits (R94), its member, if it names one, is in no handover (R413), no command fetched earlier on its family's objects
waits (R99), and its work item heads its flow as a core takes it (R24, R26, R361). -/
structure Ready (op : Nat) (p : Packet) (s : State) : Prop where
  canFetch : s.canFetch p.via = true
  openOn   : s.openOn p.via = true
  room     : (s.sess (viaSession p.via)).lastSeq + 1 < 0xFFFFFFFF
  passes   : checkPacket op p s = none
  noFence  : ∀ f ∈ (s.sess (viaSession p.via)).inFlight,
    f.phase = .awaitingDurable ∨ (isFence f.cmd.packet = false ∧ isFence p = false)
  noHandover : s.inHandover (fetchedCmd op p s) = false
  objects  : (queueCommand (fetchedCmd op p s) (fetched op p s)).objectsFree (fetchedCmd op p s) = true
  turn     : (queueCommand (fetchedCmd op p s) (fetched op p s)).itemTurn (fetchedCmd op p s) = true

/-- A command completes with its reply: ST_OK when nothing that a checkpoint contains has changed since `b`, else ST_ACCEPTED
(R100, R106). -/
def accept (c : HostCmd) (b t : State) (reply : List Byte) : State :=
  finish c (if t.ctl = b.ctl then 0 else 1) 0 reply t

/-- A command completes with ST_OK and its reply (R106). -/
def answer (c : HostCmd) (t : State) (reply : List Byte) : State := finish c 0 0 reply t

/-- A command is refused: it changes nothing (R100, R102). -/
def refuse (c : HostCmd) (b : State) (status detail : Nat) : State := finish c status detail [] b

/-- On every packet whose command starts at once, and when its own conditions hold of the command and of the state in which its
effect begins, the row of an opcode answers the given next state. -/
def Carries (op : Nat) (row : Packet → Instr) (holds : HostCmd → State → Prop) (result : HostCmd → State → State) : Prop :=
  ∀ p s, Ready op p s → holds (fetchedCmd op p s) (started op p s) →
    exec (row p) s = .next (result (fetchedCmd op p s) (started op p s))

/-- The opcode and the packet that a row of the table carries, for the rows of every opcode but SESSION.OPEN. -/
def opcodeOf : Instr → Option (Nat × Packet)
  | .sessionClose p => some (0x0102, p)
  | .sessionTags p => some (0x0103, p)
  | .gnssConfig p => some (0x0201, p)
  | .gnssChannelSet p => some (0x0202, p)
  | .gnssChannelRead p => some (0x0203, p)
  | .gnssNotch p => some (0x0204, p)
  | .gnssMonitor p => some (0x0205, p)
  | .gnssMpmap p => some (0x0206, p)
  | .gnssStatus p => some (0x0207, p)
  | .corrBase p => some (0x0301, p)
  | .corrStream p => some (0x0302, p)
  | .corrDescriptor p => some (0x0303, p)
  | .corrWatchdog p => some (0x0304, p)
  | .corrStatus p => some (0x0305, p)
  | .corrInject p => some (0x0306, p)
  | .solverConfig p => some (0x0401, p)
  | .solverMember p => some (0x0402, p)
  | .solverRead p => some (0x0403, p)
  | .solverStatus p => some (0x0404, p)
  | .solverReset p => some (0x0405, p)
  | .solverIntegrity p => some (0x0406, p)
  | .timeConfig p => some (0x0501, p)
  | .timePtpConfig p => some (0x0502, p)
  | .timeLeap p => some (0x0503, p)
  | .timeStatus p => some (0x0504, p)
  | .timeRead p => some (0x0505, p)
  | .radioLinkConfig p => some (0x0601, p)
  | .radioHeadProfile p => some (0x0602, p)
  | .radioLaneConfig p => some (0x0603, p)
  | .radioRegionLoad p => some (0x0604, p)
  | .radioTxCal p => some (0x0605, p)
  | .radioBudget p => some (0x0606, p)
  | .radioLaneStatus p => some (0x0607, p)
  | .macConfig p => some (0x0701, p)
  | .macLaneMac p => some (0x0702, p)
  | .macProvision p => some (0x0703, p)
  | .macConnParam p => some (0x0704, p)
  | .macDrop p => some (0x0705, p)
  | .macMemberRead p => some (0x0706, p)
  | .macStatus p => some (0x0707, p)
  | .macSend p => some (0x0708, p)
  | .sluiceConfig p => some (0x0801, p)
  | .sluiceGrant p => some (0x0802, p)
  | .sluiceStop p => some (0x0803, p)
  | .sluiceRelease p => some (0x0804, p)
  | .sluiceStatus p => some (0x0805, p)
  | .dykeConfig p => some (0x0901, p)
  | .dykeClass p => some (0x0902, p)
  | .dykeMember p => some (0x0903, p)
  | .dykeGraphEdit p => some (0x0904, p)
  | .dykeSwap p => some (0x0905, p)
  | .dykeReserve p => some (0x0906, p)
  | .dykeRelease p => some (0x0907, p)
  | .dykeRead p => some (0x0908, p)
  | .dykeStatus p => some (0x0909, p)
  | .taskQueue p => some (0x0911, p)
  | .taskAccept p => some (0x0912, p)
  | .taskCancel p => some (0x0913, p)
  | .profileConfig p => some (0x0A01, p)
  | .profileMember p => some (0x0A02, p)
  | .profileRetarget p => some (0x0A03, p)
  | .profileRead p => some (0x0A04, p)
  | .schedConfig p => some (0x0B01, p)
  | .schedCore p => some (0x0B02, p)
  | .schedStatus p => some (0x0B03, p)
  | .schedHist p => some (0x0B04, p)
  | .schedFlowRead p => some (0x0B05, p)
  | .schedItemRead p => some (0x0B06, p)
  | .queueConfig p => some (0x0C01, p)
  | .queuePool p => some (0x0C02, p)
  | .queueStatus p => some (0x0C03, p)
  | .queueRead p => some (0x0C04, p)
  | .queueMbxRead p => some (0x0C05, p)
  | .capturePort p => some (0x0D01, p)
  | .captureArm p => some (0x0D02, p)
  | .captureTrigger p => some (0x0D03, p)
  | .captureSyncConfig p => some (0x0D04, p)
  | .captureSyncCal p => some (0x0D05, p)
  | .captureStatus p => some (0x0D06, p)
  | .fedConfig p => some (0x0E01, p)
  | .fedPort p => some (0x0E02, p)
  | .fedPeer p => some (0x0E03, p)
  | .fedHandover p => some (0x0E04, p)
  | .fedSiteStop p => some (0x0E05, p)
  | .fedStatus p => some (0x0E06, p)
  | .redunConfig p => some (0x0F01, p)
  | .redunHandover p => some (0x0F02, p)
  | .redunCheckpoint p => some (0x0F03, p)
  | .redunStatus p => some (0x0F04, p)
  | .redunSideRead p => some (0x0F05, p)
  | .secAttest p => some (0x1001, p)
  | .secCert p => some (0x1002, p)
  | .secKeyImport p => some (0x1003, p)
  | .secStatus p => some (0x1004, p)
  | .secDebugUnlock p => some (0x1005, p)
  | .updateBegin p => some (0x1101, p)
  | .updateChunk p => some (0x1102, p)
  | .updateApply p => some (0x1103, p)
  | .updateActivate p => some (0x1104, p)
  | .updateEnd p => some (0x1105, p)
  | .updateStatus p => some (0x1106, p)
  | .updateStore p => some (0x1110, p)
  | .recordRead p => some (0x1201, p)
  | .recordStatus p => some (0x1202, p)
  | .recordConfig p => some (0x1203, p)
  | .recordMark p => some (0x1204, p)
  | .counterSelect p => some (0x1301, p)
  | .counterControl p => some (0x1302, p)
  | .counterRead p => some (0x1303, p)
  | .resetSide p => some (0x1401, p)
  | .resetCause p => some (0x1402, p)
  | .powerMode p => some (0x1410, p)
  | .powerSense p => some (0x1420, p)
  | .powerGpio p => some (0x1421, p)
  | _ => none

/-- The opcodes that only read: what they answer is all that they do. -/
def readOpcodes : List Nat :=
  [0x0103, 0x0203, 0x0207, 0x0305, 0x0403, 0x0404, 0x0504, 0x0505, 0x0706, 0x0707, 0x0805, 0x0908, 0x0909, 0x0A04,
   0x0B03, 0x0B05, 0x0B06, 0x0C03, 0x0C04, 0x0D06, 0x0E06, 0x0F04, 0x0F05, 0x1002, 0x1004, 0x1106, 0x1201, 0x1202, 0x1402,
   0x1420]

/-- A state that some number of steps leads to, whatever commands arrive meanwhile. -/
inductive Reaches : State → State → Prop where
  | refl (s : State) : Reaches s s
  | arrive {s t : State} (l : List Instr) : Reaches s t → Reaches s { t with pending := l }
  | step {s t u : State} : Reaches s t → step t = .next u → Reaches s u

/-! ### The update lock (R463) -/

/-- The update lock is held, and by the host of another session than the command's. -/
abbrev LockedOut (c : HostCmd) (b : State) : Prop := b.act.lock.held = true ∧ b.act.lock.session ≠ c.session

/-- ER_BUSY with the identity of the lock's holder. -/
def lockRefusal (c : HostCmd) (b : State) : State :=
  refuse c b erBusy (0x80000000 + b.act.lock.session * 0x01000000 + b.act.lock.hostId)

/-! ### Requests of the site federation (R403) -/

/-- A message of a live peer is accepted, which gives `u`, and no response of its transaction is kept: a new request. -/
abbrev FedNews (h : FedHead) (s u : State) : Prop :=
  fedTaken h s = some u ∧ ((u.peer h.src).getD PeerRun.start).responses.find? (fun x => x.txn == h.txn) = none

/-- The response to a request is kept and sent. -/
def fedRespond (h : FedHead) (type : Nat) (body : List Byte) (u : State) : State :=
  fedSend h.src type h.txn body (u.modPeer h.src fun r => { r with responses := r.responses ++ [⟨h.txn, type, body⟩] })

/-! ### What only moves one way -/

/-- How far a side's tamper state has come: it never goes back (R442, R448, Table Sec-5). -/
def TamperState.rank : TamperState → Nat
  | .shipping => 0
  | .armed => 1
  | .locked => 2
  | .debug => 2

end Machine

end Sys2Proof
end

