-- ==== Sys2Proof/Certificates/Slice0/Obligations.lean ====
section
/-! DEFINITION.
The statements for the provers.
-/

open Sys2Proof Sys2Proof.Machine

/-- A step carries out the command at the front of the queue on the module with the queue's rest; on an empty queue one tick
passes (log 6). -/
def Obligations.StepRunsFront : Prop :=
  (∀ (c : Instr) (rest : List Instr) (s : State), step { s with pending := c :: rest } = exec c { s with pending := rest }) ∧
  ∀ s : State, s.pending = [] → step s = .next (passTicks 1 s)

/-- R2, R68, R71, R85, R89, R442: what State.reset leaves; the values the spec does not give are the model's choice (log 1). -/
def Obligations.ResetState : Prop :=
  State.reset.pending = [] ∧ State.reset.hsw.active = some .a ∧ State.reset.env.vinUp = true ∧
  State.reset.sideA.start = some (StartRun.module 0) ∧ State.reset.sideB.start = none ∧
  State.reset.hsw.serving = false ∧ State.reset.hsw.ready = false ∧
  (∀ n, n < 4 → (State.reset.sess n).isOpen = false) ∧ State.reset.hsw.epoch = 0 ∧
  State.reset.hsw.epoch ≤ State.reset.hsw.nv.epochMax ∧
  State.reset.sideA.security.record.state = .shipping ∧ State.reset.sideB.security.record.state = .shipping ∧
  State.reset.sideA.mainOn = false ∧ State.reset.sideB.mainOn = false ∧
  State.reset.hsw.irqCause = 0#11 ∧ State.reset.ring 0 = RingSet.resetValue ∧ State.reset.ring 1 = RingSet.resetValue ∧
  (State.reset.ring 0).enable = false ∧ (State.reset.ring 0).sqTail = 0 ∧ (State.reset.ring 0).sqHead = 0 ∧
  (State.reset.ring 0).cqTail = 0 ∧ (State.reset.ring 0).cqHead = 0 ∧ State.reset.mtb = 0

/-- R100, R102, R103, R106: what becomes of a fetched packet of any opcode. -/
def Obligations.OpcodeRowsRunOrRefuse : Prop :=
  (∀ (i : Instr) (op : Nat) (p : Packet) (s : State), opcodeOf i = some (op, p) → Ready op p s →
    let c := fetchedCmd op p s
    let b := started op p s
    exec i s = .next (conclude c b (runOpcode c b)) ∧
    ∀ st d, runOpcode c b = .refuse st d → exec i s = .next (refuse c b st d) ∧ PathOnly s (refuse c b st d)) ∧
  (∀ (i : Instr) (op st d : Nat) (p : Packet) (s : State), opcodeOf i = some (op, p) → s.canFetch p.via = true →
    s.openOn p.via = true → (s.sess (viaSession p.via)).lastSeq + 1 < 0xFFFFFFFF → checkPacket op p s = some (st, d) →
    ∃ t, exec i s = .next t ∧ PathOnly s t ∧
      (t.sess (viaSession p.via)).inFlight = (s.sess (viaSession p.via)).inFlight ∧
      (t.sess (viaSession p.via)).lastSeq = (s.sess (viaSession p.via)).lastSeq + 1 ∧
      ∃ u, u.offPath = s.offPath ∧ t = post p.via (cmdEntry (fetchedCmd op p s) st d false []) u) ∧
  (∀ (i : Instr) (op : Nat) (p : Packet) (s : State), opcodeOf i = some (op, p) → s.canFetch p.via = false →
    exec i s = .next s)

/-- R121. -/
def Obligations.ClosedSessionIsRefused : Prop :=
  ∀ (i : Instr) (op : Nat) (p : Packet) (s : State), opcodeOf i = some (op, p) →
    p.via = .ring0 ∨ p.via = .ring1 ∨ p.via = .mnt →
    s.canFetch p.via = true → s.openOn p.via = false →
    ∃ t e, exec i s = .next t ∧ e.status = erState ∧ e.detail = 0xFFFF0101 ∧ e.tag = p.tag ∧ e.fetchSeq = 0 ∧
      e.epoch = s.hsw.epoch ∧ e.msg = false ∧
      (∀ n, viaRing? p.via = some n →
        (t.ring n).cq.filter (fun x => !x.msg) = (s.ring n).cq.filter (fun x => !x.msg) ++ [e]) ∧
      (p.via = .mnt → s.hsw.mnt.waiting = [] →
        t.hsw.mnt.held.filter (fun x => !x.msg) = s.hsw.mnt.held.filter (fun x => !x.msg) ++ [e]) ∧
      (p.via = .mnt → s.hsw.mnt.waiting ≠ [] →
        ∃ w, t.hsw.mnt.waiting = s.hsw.mnt.waiting ++ [w] ∧ { w with epoch := e.epoch, mtbNs := e.mtbNs } = e) ∧
      t.hsw.sessions = s.hsw.sessions ∧ PathOnly s t

/-- R101. -/
def Obligations.BusyTagIsRefused : Prop :=
  (∀ (i : Instr) (op : Nat) (p : Packet) (s : State), opcodeOf i = some (op, p) → s.canFetch p.via = true →
    s.openOn p.via = true → (s.sess (viaSession p.via)).lastSeq + 1 < 0xFFFFFFFF → headerError op p s = none →
    (namesStandby p s = false ∨ op = 0x0F05) →
    (∃ f ∈ (s.sess (viaSession p.via)).inFlight, f.cmd.packet.tag = p.tag) →
    ∃ t u e, exec i s = .next t ∧ t = post p.via e u ∧ e.entry.status = erBusy ∧ e.entry.detail = 0x10000 + p.tag ∧
      e.entry.sqIndex = s.sqIndexOf p.via ∧
      (t.sess (viaSession p.via)).inFlight = (s.sess (viaSession p.via)).inFlight ∧ PathOnly s t) ∧
  (∀ (op : Nat) (p : Packet) (s : State), s.sqFilled p.via = true → s.canFetch p.via = true → s.openOn p.via = true →
    (s.sess (viaSession p.via)).lastSeq + 1 < 0xFFFFFFFF → checkPacket op p s = none →
    ∃ t, exec (.packetFetch p.via op p false false) s = .next t ∧
      ∃ f ∈ (t.sess (viaSession p.via)).inFlight, f.cmd.packet.tag = p.tag ∧ f.cmd = fetchedCmd op p s) ∧
  (∀ (c : HostCmd) (st d : Nat) (reply : List Byte) (s : State), c.session < s.hsw.sessions.length →
    (s.sess c.session).isOpen = true → (s.sess c.session).inst = c.inst →
    (¬ (st = 1 ∧ wantsDurable c.packet = true ∧ s.sinkAccepts = true ∧ s.keptIn c = none) →
      ((finish c st d reply s).sess c.session).inFlight =
        (s.sess c.session).inFlight.filter fun f => f.cmd.fetchSeq != c.fetchSeq) ∧
    (st = 1 ∧ wantsDurable c.packet = true ∧ s.sinkAccepts = true ∧ s.keptIn c = none →
      ∀ f ∈ (s.sess c.session).inFlight, f.cmd.fetchSeq = c.fetchSeq →
        { f with phase := .awaitingDurable, reply := reply } ∈ ((finish c st d reply s).sess c.session).inFlight)) ∧
  (∀ (q : Nat) (f : InFlight) (s : State), f.cmd.session < s.hsw.sessions.length →
    ((durable q f s).sess f.cmd.session).inFlight =
      (s.sess f.cmd.session).inFlight.filter fun g => g.cmd.fetchSeq != f.cmd.fetchSeq)

/-- R490, and the opcode page of RECORD.READ. -/
def Obligations.RecordReadReadsTheActiveSide : Prop :=
  (∀ (p : Packet) (x : SideId) (s : State), s.hsw.active = some x → Ready 0x1201 p s →
    let c := fetchedCmd 0x1201 p s
    let b := started 0x1201 p s
    let r := (b.side x).recorder
    let first := fld p.params 0 4
    let tail := recordTail r.head
    let l := (r.ring.reverse.filter fun y => decide (max tail first ≤ y.seq)).take (fld p.params 4 1)
    let opened := r.isOpen b.mtb && l.any fun y => y.seq == r.head
    exec (.recordRead p) s = .next
      (if r.head + 1 < first then refuse c b erRange 0
       else answer c b (leBytes 4 r.head ++ leBytes 4 tail ++ leBytes 4 r.head ++
        leBytes 4 (if first = 0 then 0 else tail - first) ++ leBytes 4 (max tail first + l.length) ++ leBytes 1 l.length ++
        leBytes 1 (b2n opened) ++ zeros 2 ++ leBytes 4 r.opSeconds ++ leBytes 4 r.powerCycles ++ l.flatMap Record.bytes))) ∧
  (∀ (c : HostCmd) (x : SideId) (r : Recorder) (b : State), b.hsw.active = some x →
    let u := b.modSide (otherSide x) fun y => { y with recorder := r }
    (∀ st d, runRecordRead c b = .refuse st d ↔ runRecordRead c u = .refuse st d) ∧
    (∀ reply, runRecordRead c b = .ok b reply ↔ runRecordRead c u = .ok u reply)) ∧
  (∀ (p : Packet) (s : State), s.canFetch p.via = true → s.openOn p.via = true →
    (s.sess (viaSession p.via)).lastSeq + 1 < 0xFFFFFFFF → headerError 0x1201 p s = none → namesStandby p s = true →
    ∃ t u, exec (.recordRead p) s = .next t ∧ PathOnly s t ∧
      t = post p.via (cmdEntry (fetchedCmd 0x1201 p s) erRole (sideNo s.actId) false []) u)

/-- R102, R106: the frame of the opcodes that only read. -/
def Obligations.ReadOpcodesChangeNothing : Prop :=
  ∀ (i : Instr) (op : Nat) (p : Packet) (s : State), opcodeOf i = some (op, p) → op ∈ readOpcodes →
    (s.sess (viaSession p.via)).lastSeq + 1 < 0xFFFFFFFF → ∃ t, exec i s = .next t ∧ PathOnly s t

/-- Every command has its effect in every state, and no effect reaches the queue. -/
def Obligations.EveryCommandRuns : Prop :=
  (∀ (i : Instr) (s : State), ∃ t, exec i s = .next t ∧ t.pending = s.pending) ∧ ∀ (k : Nat) (s : State), RunsFor k s

/-- R91, R93: a legal doorbell moves its counter and, for the completion queue, takes the entries passed out of the ring and lets
held entries in; an illegal one is a ring error. -/
def Obligations.DoorbellsMoveRings : Prop :=
  (∀ (n i : Nat) (s : State), n < 2 → i < 512 → s.hsw.serving = true → (s.ring n).enable = true →
    i < 2 * 2 ^ (s.ring n).sqOrder →
    ringDist (s.ring n).sqOrder i (s.ring n).sqHead ≤ 2 ^ (s.ring n).sqOrder →
    exec (.sqTailDoorbell n i) s = .next (s.modRing n fun r => { r with sqTail := i })) ∧
  (∀ (n i : Nat) (s : State), n < 2 → i < 512 → s.hsw.serving = true → (s.ring n).enable = true →
    i < 2 * 2 ^ (s.ring n).cqOrder →
    ringDist (s.ring n).cqOrder i (s.ring n).cqHead ≤ ringDist (s.ring n).cqOrder (s.ring n).cqTail (s.ring n).cqHead →
    ∃ t, exec (.cqHeadDoorbell n i) s = .next t ∧ (t.ring n).cqHead = i ∧ (t.ring n).sqTail = (s.ring n).sqTail ∧
      ((s.ring n).held = [] → t = s.modRing n fun r =>
        { r with cqHead := i, cq := r.cq.drop (ringDist (s.ring n).cqOrder i (s.ring n).cqHead) })) ∧
  (∀ (n i : Nat) (s : State), n < 2 → i < 512 → s.hsw.serving = true → (s.ring n).enable = false →
    exec (.sqTailDoorbell n i) s = .next (ringError 1 n s) ∧ exec (.cqHeadDoorbell n i) s = .next (ringError 1 n s)) ∧
  (∀ (n i : Nat) (s : State), n < 2 → i < 512 → s.hsw.serving = true → (s.ring n).enable = true →
    2 ^ (s.ring n).sqOrder < ringDist (s.ring n).sqOrder i (s.ring n).sqHead →
    exec (.sqTailDoorbell n i) s = .next (ringError 2 n s)) ∧
  (∀ (n i : Nat) (s : State), n < 2 → i < 512 → s.hsw.serving = true → (s.ring n).enable = true →
    ringDist (s.ring n).cqOrder (s.ring n).cqTail (s.ring n).cqHead < ringDist (s.ring n).cqOrder i (s.ring n).cqHead →
    exec (.cqHeadDoorbell n i) s = .next (ringError 3 n s))

/-- R94, R97, R98, R101, R103: the fetch admits a packet that passes its checks; a command starts, or is refused when late. -/
def Obligations.FetchAndStart : Prop :=
  (∀ (op : Nat) (p : Packet) (s : State), s.sqFilled p.via = true → Ready op p s →
    exec (.packetFetch p.via op p false false) s = .next (queueCommand (fetchedCmd op p s) (fetched op p s))) ∧
  (∀ (n op : Nat) (p : Packet) (b : Bool) (s : State), viaRing? p.via = some n → (s.ring n).sqTail ≠ (s.ring n).sqHead →
    s.canFetch p.via = true → exec (.packetFetch p.via op p true b) s = .next (ringError 4 n s)) ∧
  (∀ (n : Nat) (c : HostCmd) (s : State), s.nextCommand n = some c → (serveItem c s).late c = false →
    (serveItem c s).inHandover c = false →
    let b := (serveItem c s).modSess c.session fun x =>
      { x with inFlight := x.inFlight.map fun f => if f.cmd.fetchSeq = c.fetchSeq then { f with phase := .started } else f }
    exec (.commandStart n) s = .next (conclude c b (runOpcode c b))) ∧
  (∀ (n : Nat) (c : HostCmd) (s : State), s.nextCommand n = some c → (serveItem c s).late c = true →
    exec (.commandStart n) s = .next (finish c erTimeout 0 [] (serveItem c s)))

/-- R55, R90, R110, R112, R113 and Tables Host-9, Host-11, Host-14, Host-17: the host window's registers and the link. -/
def Obligations.RegistersAndInterrupts : Prop :=
  (∀ (v k : Nat) (s : State), k < 11 → s.hsw.mnt.held = [] → s.hsw.nv.tamperA = false → s.hsw.nv.tamperB = false →
    ∃ t, exec (.irqCauseClear v 0) s = .next t ∧ t.hsw.irqCause.getLsbD k = (s.hsw.irqCause.getLsbD k && !v.testBit k)) ∧
  (∀ (k : Nat) (s : State), k < 11 →
    ∃ t, exec (.irqCauseClear (2 ^ k) (2 ^ k)) s = .next t ∧ t.hsw.irqCause.getLsbD k = true) ∧
  (∀ s : State, exec .ringErrRead s = .next { s with
    hsw := { s.hsw with ringErrCode := 0, ringErrSet := 0, ringErrCount := 0 }
    out := { s.out with reads := s.out.reads ++ [leBytes 4 (hwRingErr s)] } }) ∧
  (∀ (n v : Nat) (s : State), n < 2 → (s.ring n).enable = false →
    exec (.ringCtrlWrite n v) s = .next (s.modRing n fun r =>
      { r with sqOrder := ringOrder (v / 16 % 16), cqOrder := ringOrder (v / 256 % 16), enable := v.testBit 0 })) ∧
  (∀ (n v : Nat) (s : State), n < 2 → (s.ring n).enable = true → v.testBit 0 = false →
    ∃ t, exec (.ringCtrlWrite n v) s = .next t ∧ t.ring n = RingSet.resetValue ∧
      ((s.sess n).isOpen = true → viaRing? (s.sess n).via = some n → (t.sess n).isOpen = false)) ∧
  (∀ (v : Nat) (s : State), exec (.registerWrite 0x14 v) s = .next { s with hsw.irqMask := BitVec.ofNat 11 v }) ∧
  (∀ (n : Nat) (s : State), n < 2 → (s.ring n).timerRuns = true →
    exec (.moderationTimerExpiry n) s =
      .next (raiseIrq n (s.modRing n fun r => { r with timerRuns := false, unsignalled := 0 }))) ∧
  (∀ s : State, s.hsw.ready = true →
    exec .hwAliveIncrement s = .next { s with hsw.alive := (s.hsw.alive + 1) % 2 ^ 32 }) ∧
  (∀ s : State, ∃ t, exec .pcieLinkLoss s = .next t ∧ t.ring 0 = RingSet.resetValue ∧ t.ring 1 = RingSet.resetValue ∧
    ∀ n, n < 2 → (s.sess n).isOpen = true → viaRing? (s.sess n).via = some n → (t.sess n).isOpen = false) ∧
  (∀ s : State, ∃ t, exec (.pciePerst true) s = .next t ∧ t.hsw.pcieUp = false ∧ t.hsw.perst = true ∧
    t.ring 0 = RingSet.resetValue ∧ t.ring 1 = RingSet.resetValue) ∧
  (∀ s : State, exec (.pciePerst false) s = .next { s with hsw.pcieUp := s.hsw.ready, hsw.perst := false })

/-- R116 to R118: transfers 0xA1, 0xA3, 0xA5, 0xA7 and 0xA8 of the maintenance port. It rests on the model's choices of log 146. -/
def Obligations.MaintenancePort : Prop :=
  (∀ (op : Nat) (p : Packet) (s : State), p.via = .mnt → s.canFetch .mnt = true →
    let u : State := { s with hsw.mnt := { s.hsw.mnt with crcErr := false, short := false } }
    u.openOn .mnt = true → (u.sess 1).lastSeq + 1 < 0xFFFFFFFF → checkPacket op p u = none →
    exec (.mntWritePacket op p true true) s = .next (queueCommand (fetchedCmd op p u) (fetched op p u))) ∧
  (∀ (op : Nat) (p : Packet) (s : State), s.canFetch .mnt = true →
    exec (.mntWritePacket op p false true) s = .next { s with hsw.mnt.crcErr := true }) ∧
  (∀ (op : Nat) (p : Packet) (b : Bool) (s : State), s.hsw.ready = true →
    exec (.mntWritePacket op p b false) s = .next { s with hsw.mnt.short := true }) ∧
  (∀ (e : Entry) (l : List Entry) (s : State), s.hsw.ready = true → s.hsw.mnt.held = e :: l → s.hsw.mnt.waiting = [] →
    exec (.mntReadCompletion true) s = .next { s with
      hsw.mnt.held := l
      out.reads := s.out.reads ++ [zeros 1 ++ (leBytes 2 e.bytes.length ++ e.bytes) ++
        leBytes 4 (crc32c (leBytes 2 e.bytes.length ++ e.bytes))] }) ∧
  (∀ (s : State), s.hsw.ready = true → s.hsw.mnt.held = [] →
    exec (.mntReadCompletion true) s = .next { s with
      out.reads := s.out.reads ++ [zeros 3 ++ leBytes 4 (crc32c (zeros 2))] }) ∧
  (∀ s : State, s.hsw.ready = true → exec (.mntReadStatus true) s = .next { s with
    hsw.mnt := { s.hsw.mnt with crcErr := false, short := false }
    out.reads := s.out.reads ++ [zeros 1 ++ leBytes 4 (mntStatus s)] }) ∧
  (∀ (k : Nat) (s : State), s.hsw.ready = true → k ≠ 0x1C → exec (.mntReadRegister k true) s = .next { s with
    out.reads := s.out.reads ++ [zeros 1 ++ leBytes 4 (hwRegister k s)] }) ∧
  (∀ (k v : Nat) (s : State), s.hsw.ready = true → k ≠ 0x18 → k < 0x200 →
    (0x140 ≤ k → (s.sess 1).isOpen = false ∨ (s.sess 1).via ≠ .mnt) →
    exec (.mntWriteRegister k v true) s = .next (writeRegister k v s) ∧
    exec (.registerWrite k v) s = .next (writeRegister k v s)) ∧
  (∀ (v : Nat) (s : State), s.hsw.ready = true → exec (.mntWriteRegister 0x14 v true) s =
    .next { s with hsw.irqMask := BitVec.ofNat 11 v }) ∧
  (∀ (v : Nat) (s : State), s.hsw.ready = true → exec (.mntWriteRegister 0x18 v true) s = .next s) ∧
  (∀ (i : Instr) (s : State), s.hsw.ready = true →
    i ∈ [.mntReadCompletion false, .mntReadStatus false] ∨ (∃ k, i = .mntReadRegister k false) ∨
      (∃ k v, i = .mntWriteRegister k v false) →
    exec i s = .next { s with hsw.mnt.short := true })

/-- R87, R88, R97, R110, R111, R115 and the opcode pages of SESSION.OPEN, SESSION.CLOSE and SESSION.TAGS. -/
def Obligations.SessionCommands : Prop :=
  (∀ (p : Packet) (s : State),
    let n := viaSession p.via
    let f := countEvents 0x0001 none 1 (takeSlot p.via s)
    s.canFetch p.via = true → s.openOn p.via = false → checkPacket 0x0101 p s = none → (s.sess n).isOpen = false →
    (2 ≤ n → (f.boundPeer n).isSome = true) → n < s.hsw.sessions.length → commonEdition (fld p.params 0 1) ≠ 0 →
    ∃ t, exec (.sessionOpen p) s = .next t ∧ (t.sess n).isOpen = true ∧ (t.sess n).via = p.via ∧
      (t.sess n).edition = commonEdition (fld p.params 0 1) ∧ (t.sess n).inst = (s.sess n).inst + 1 ∧
      (t.sess n).lastSeq = 1 ∧ (t.sess n).openEpoch = s.hsw.epoch ∧ (t.sess n).inFlight = [] ∧
      ∃ u : State, u.offPath = f.offPath ∧
        t = post p.via (cmdEntry { mkCmd 0x0101 p 1 (s.sqIndexOf p.via) s with inst := (s.sess n).inst + 1 } 0 0 false
          (openReply (commonEdition (fld p.params 0 1)) u)) u) ∧
  Carries 0x0102 .sessionClose
    (fun c b => ∀ f ∈ (b.sess c.session).inFlight, f.cmd.fetchSeq = c.fetchSeq)
    (fun c b => endSession c.session 1 (answer c b (leBytes 4 (b.sess c.session).lastSeq))) ∧
  Carries 0x0103 .sessionTags (fun _ _ => True)
    (fun c b =>
      let r := b.ctl.records.getD (fld c.packet.params 0 1) SessionRecord.moduleStart
      answer c b (leBytes 4 r.epoch ++ leBytes 1 r.cause ++ zeros 1 ++ leBytes 2 r.list.length ++ leBytes 4 r.floor ++
        zeros 4 ++ r.list.flatMap tagEntryBytes))

/-- R45, R68, R70 to R72: power-on, power-down, MOD_RESET_N and VBAT. -/
def Obligations.ModulePowerAndReset : Prop :=
  (∀ (s1 s0 : Bool) (s : State), s.env.vinUp = false → ∃ t, exec (.modulePowerOn s1 s0) s = .next t ∧
    t.env.vinUp = true ∧ t.hsw.ready = false ∧ t.hsw.serving = false ∧ t.hsw.active = some (if s1 && !s0 then .b else .a) ∧
    t.hsw.strapBits = 2 * b2n s1 + b2n s0 ∧ t.hsw.strapFault = (s1 == s0) ∧ t.hsw.supplyEvents = 0 ∧
    t.act.startRec.kind = 1 ∧ t.act.startRec.kindDetail = s.hsw.downWhy ∧ t.vol = Volatile.start ∧
    ∃ r, t.act.start = some r ∧ r.kind = .module ∧ r.stage = .bootRom ∧ r.t0 = t.clock) ∧
  (∀ (s1 s0 : Bool) (s : State), s.env.vinUp = true → s.hsw.resetHeld = true → s.hsw.warned = false →
    ∃ t, exec (.modResetNRelease s1 s0) s = .next t ∧ t.hsw.resetHeld = false ∧ t.hsw.ready = false ∧ t.hsw.serving = false ∧
    t.hsw.active = some (if s1 && !s0 then .b else .a) ∧
    t.hsw.strapBits = 2 * b2n s1 + b2n s0 ∧ t.hsw.strapFault = (s1 == s0) ∧ t.act.startRec.kind = 3 ∧ t.vol = Volatile.start ∧
    ∃ r, t.act.start = some r ∧ r.kind = .module ∧ r.stage = .bootRom ∧ r.t0 = t.clock) ∧
  (∀ s : State, s.env.vinUp = true → ∃ t, exec .modResetNAsserted s = .next t ∧ t.hsw.resetHeld = true ∧
    t.hsw.active = none ∧ t.hsw.serving = false ∧ t.hsw.ready = false ∧ t.sideA.mainOn = false ∧ t.sideB.mainOn = false) ∧
  (∀ (absent : Bool) (s : State), s.env.vinUp = true → (s.hsw.warned = true ∨ absent = true) →
    ∃ t, exec (.modulePowerDown absent) s = .next t ∧ t.env.vinUp = false ∧ t.env.vinBelow = absent ∧ t.hsw.active = none ∧
      t.hsw.serving = false ∧ t.sideA.mainOn = false ∧ t.sideB.mainOn = false ∧
      t.hsw.downWhy = if s.hsw.warned then s.hsw.downWhy else 0) ∧
  (∀ (mv : Nat) (s : State), s.env.vinBelow = false → ∃ t, exec (.vbatLoss mv) s = .next t ∧ t.env.vbatOk = false ∧
    t.hsw.supplyEvents = satInc 16 s.hsw.supplyEvents ∧ t.sideA.security = s.sideA.security ∧
    t.sideB.security = s.sideB.security ∧ t.ctl = s.ctl) ∧
  (∀ (mv : Nat) (s : State), s.env.vinBelow = true → ∃ t, exec (.vbatLoss mv) s = .next t ∧ t.env.vbatOk = false ∧
    (s.sideA.security.record.state ≠ .shipping → t.sideA.security.crownValid = false) ∧
    (s.sideB.security.record.state ≠ .shipping → t.sideB.security.crownValid = false)) ∧
  (∀ s : State, exec .vbatRestored s = .next { s with env := { s.env with vbatOk := true } })

/-- R76 to R79, R85, R442, R443, R467, R472: the stages of a start. It rests on the model's choices of log 138. -/
def Obligations.StartStages : Prop :=
  (∀ (ok : Bool) (s : State), s.env.vinUp = true → s.hsw.resetHeld = false → s.hsw.ready = false →
    s.hsw.wakeDue = false → s.vol.redun.due = false →
    ∃ t, exec (.hostSwitchReady ok) s = .next t ∧ t.hsw.ready = true ∧ t.hsw.pcieUp = !s.hsw.perst ∧
      t.hsw.restarting = false ∧ t.hsw.nv.firmware = (bootSwitch ok s.hsw.nv.firmware).1) ∧
  (∀ (v : Bool) (x : SideId) (r : StartRun) (s : State), s.starting .bootRom = some (x, r) →
    (r.kind = .module → s.hsw.ready = true) → (s.side x).security.record.state = .armed →
    (s.side x).security.crownValid = true →
    exec (.bootRomDone v) s = .next (endStage x 0 .imageVerify
      { s.modSide x fun d => { d with mainOn := true, bank33 := v } with
        mtbZero := if r.kind = .sideReset then s.mtbZero else s.clock })) ∧
  (∀ (v : Bool) (x : SideId) (r : StartRun) (s : State), s.starting .bootRom = some (x, r) →
    (r.kind = .module → s.hsw.ready = true) → (s.side x).locked = true →
    exec (.bootRomDone v) s = .next (failStart x 4 s)) ∧
  (∀ (ok0 ok1 : Bool) (x : SideId) (r : StartRun) (s : State), s.starting .imageVerify = some (x, r) →
    (s.side x).firmware.flags.trial = .none →
    let f := (s.side x).firmware
    let k := f.flags.active
    let put := fun (f : Firmware) (n : Nat) => endStage x 1 .stateLoad (s.modSide x fun d =>
      { d with firmware := { f with running := n }, startRec := { d.startRec with slot := n }
               start := some { r with slot := n, fallback := false, trial := false } })
    ((f.slot k).valid && (if k = 0 then ok0 else ok1)) = true →
    exec (.imageVerifyDone ok0 ok1) s = .next (put f k)) ∧
  (∀ (ok : Bool) (a b torn : Bool) (x : SideId) (r : StartRun) (s : State), s.starting .stateLoad = some (x, r) →
    r.kind = .module → ok = true →
    ∃ t, exec (.stateLoadDone ok a b torn) s = .next t ∧ t.hsw.serving = true ∧ s.hsw.nv.epochMax < t.hsw.epoch ∧
      (s.side x).store.epoch < t.hsw.epoch ∧ t.hsw.nv.epochMax = t.hsw.epoch) ∧
  (∀ (ok a b torn : Bool) (x : SideId) (r : StartRun) (c : Checkpoint) (n : Nat) (e : Option Nat) (s : State),
    s.starting .stateLoad = some (x, r) → r.kind = .handover →
    selectCheckpoint (s.side x) s.hsw.runNo a b = some (c, n, e) →
    ∃ t, exec (.stateLoadDone ok a b torn) s = .next t ∧ t.hsw.serving = true ∧ s.hsw.nv.epochMax < t.hsw.epoch ∧
      c.epoch < t.hsw.epoch ∧ t.hsw.nv.epochMax = t.hsw.epoch ∧ t.vol.redun.installed = c.seq) ∧
  (∀ (a b : Option Bool) (x : SideId) (r : StartRun) (s : State), s.starting .radioHead = some (x, r) →
    exec (.radioHeadBringupDone a b) s = .next (
      if r.kind = .sideReset then endStage x 3 .gnss (bringUpOther x 1 b (bringUpOther x 0 a s))
      else endStage x 3 (if r.kind = .handover then .heartbeat else .gnss) (bringUp 1 b (bringUp 0 a s)))) ∧
  (∀ (stb : Nat) (s : State), s.actOn = true → s.stageEnded 6 = true → s.hsw.warned = false →
    (s.vol.time.state = .invalid → s.firstReady = true) →
    exec (.gnssStartEnd stb) s = .next (endGnssStart (firstDiscipline stb s))) ∧
  (∀ (r : StartRun) (s : State), s.actOn = true → s.hsw.warned = false → s.act.start = some r → r.stage = .gnss →
    exec .gnssStartDeadline s = .next (endStage s.actId 4 .heartbeat s)) ∧
  (∀ (r : StartRun) (s : State), s.actOn = true → s.hsw.warned = false → s.act.start = some r → r.stage = .heartbeat → r.kind = .module →
    ∃ t, exec .heartbeatStart s = .next t ∧ t.vol.sluice.state = .running ∧ t.vol.redun.running = true ∧
      t.hsw.handoverN = false ∧ t.hsw.runNo = s.hsw.runNo + 1 ∧ t.act.start = none ∧
      t.ctl.time.atb = some (s.ctl.time.stb.getD 0)) ∧
  (∀ (r : StartRun) (s : State), s.actOn = true → s.hsw.warned = false → s.act.start = some r → r.stage = .heartbeat → r.kind = .handover →
    exec .heartbeatStart s = .next (heartbeatStart r s)) ∧
  (∀ (r : StartRun) (s : State), s.hsw.active ≠ none → s.hsw.warned = false → s.act.start = some r → r.stage ≠ .gnss →
    exec .startStageOverrun s = .next (failStart s.actId 3 s))

/-- R66, R73, R86, R99 and the opcode pages of chapters 02 and 03. It rests on the model's choices of log 39. -/
def Obligations.PowerAndResetOpcodes : Prop :=
  Carries 0x1421 .powerGpio (fun _ _ => True)
    (fun c b =>
      let ps := c.packet.params
      let t := gpioRead { b with
        ctl.gpioDir := masked (fld ps 0 2) b.ctl.gpioDir (fld ps 2 2)
        ctl.gpioLvl := masked (fld ps 0 2) b.ctl.gpioLvl (fld ps 4 2) }
      accept c b t.2 (leBytes 2 t.1 ++ leBytes 2 t.2.ctl.gpioDir)) ∧
  Carries 0x1420 .powerSense (fun _ _ => True)
    (fun c b =>
      let v := fun q : Nat => leBytes 2 (Config.sense q b.fresh % 65536)
      let m := biasNow { b with fresh := b.fresh + 1 }
      answer c m.2.2 (v 1 ++ v 2 ++ v 3 ++ v 5 ++ v 7 ++ leBytes 1 m.2.1 ++ leBytes 1 m.1 ++
        leBytes 2 b.hsw.supplyEvents ++ zeros 2)) ∧
  Carries 0x1410 .powerMode
    (fun c b => (fld c.packet.params 0 1 = 1 → b.grantedNodes = []) ∧
      (fld c.packet.params 0 1 = 2 → tkeys b.cfg.solver.members = []) ∧ b.vol.pendingMode = none)
    (fun c b =>
      let m := modeOf (fld c.packet.params 0 1)
      if m = b.ctl.mode then answer c b (leBytes 1 (modeCode m) ++ zeros 3)
      else { b with vol.pendingMode := some (m, c) }) ∧
  Carries 0x1410 .powerMode
    (fun c b => fld c.packet.params 0 1 = 1 ∧ b.grantedNodes ≠ [])
    (fun c b => refuse c b erState ((leastNode b.grantedNodes).getD 0)) ∧
  Carries 0x1410 .powerMode
    (fun c b => fld c.packet.params 0 1 = 2 ∧ tkeys b.cfg.solver.members ≠ [])
    (fun c b => refuse c b erState ((leastNode (tkeys b.cfg.solver.members)).getD 0)) ∧
  Carries 0x1401 .resetSide
    (fun c b => (b.side (if fld c.packet.params 0 1 = 0 then .a else .b)).locked = false ∧
      b.hsw.active ≠ some (if fld c.packet.params 0 1 = 0 then .a else .b))
    (fun c b =>
      if (b.side (if fld c.packet.params 0 1 = 0 then .a else .b)).start.isSome then
        { b with vol.redun := { b.vol.redun with resetWait := b.vol.redun.resetWait ++ [c] } }
      else beginReset c b) ∧
  Carries 0x1401 .resetSide
    (fun c b => b.hsw.active = some (if fld c.packet.params 0 1 = 0 then .a else .b))
    (fun c b => refuse c b erState 0) ∧
  Carries 0x1401 .resetSide
    (fun c b => b.hsw.active ≠ some (if fld c.packet.params 0 1 = 0 then .a else .b) ∧
      (b.side (if fld c.packet.params 0 1 = 0 then .a else .b)).locked = true)
    (fun c b => refuse c b erTamper 0) ∧
  Carries 0x1402 .resetCause (fun _ _ => True) (fun c b => answer c b (causeBytes b .a ++ causeBytes b .b))

/-- R41, R44, R47, R50, R73, R86: supply and thermal events, POWER_MODE_TAKES_EFFECT and RESET_SIDE_DONE. It rests on the model's choices
of log 7. -/
def Obligations.SupplyModeAndResetEvents : Prop :=
  (∀ (mv : Nat) (s : State), s.actOn = true →
    exec (.vinSupplyEvent mv) s = .next (countSupply (record 0x1402 0 (leBytes 2 mv) s))) ∧
  (∀ (mv : Nat) (s : State), s.env.vinUp = true → s.hsw.warned = false → ∃ t, exec (.brownOutWarning mv) s = .next t ∧
    t.hsw.warned = true ∧ t.hsw.downWhy = 1 ∧ t.hsw.irqCause.getLsbD irqSupply = true ∧
    (s.actOn = true → t.vol.redun.noNewCkpt = true ∧ t.vol.sluice.state ≠ .running ∧ t.vol.gnss.channels = [])) ∧
  (∀ (mv : Nat) (s : State), s.env.vinUp = true → s.hsw.warned = false → ∃ t, exec (.overvoltageLockout mv) s = .next t ∧
    t.hsw.warned = true ∧ t.hsw.downWhy = 2 ∧ t.hsw.irqCause.getLsbD irqSupply = true ∧
    (s.actOn = true → t.vol.redun.noNewCkpt = true ∧ t.vol.sluice.state ≠ .running ∧ t.vol.gnss.channels = [])) ∧
  (∀ (k : Nat) (c : Int) (s : State), s.actOn = true → 1150 ≤ c → c < 1230 → k % 12 < 6 →
    exec (.junctionTempThreshold k c) s = .next (record 0x1405 (k % 6) (leInt 2 c ++ leBytes 1 0) s)) ∧
  (∀ (k : Nat) (c : Int) (s : State), s.hsw.active ≠ none → s.other.mainOn = true → 1150 ≤ c → 6 ≤ k % 12 →
    exec (.junctionTempThreshold k c) s =
      .next (recordOn s.otherId 0x1405 (k % 6) (leInt 2 c ++ leBytes 1 (b2n (decide (1230 ≤ c)))) s)) ∧
  (∀ (m : PowerMode) (c : HostCmd) (s : State), s.vol.pendingMode = some (m, c) → m ≠ .fen → s.ctl.mode ≠ .fen →
    exec .powerModeTakesEffect s = .next (finish c 1 0 (leBytes 1 (modeCode m) ++ zeros 3)
      (changeMode m { s with vol.pendingMode := none }))) ∧
  (∀ (m : PowerMode) (c : HostCmd) (s : State), s.vol.pendingMode = some (m, c) → (m = .fen ∨ s.ctl.mode = .fen) →
    exec .powerModeTakesEffect s = .next (finish c 1 0 (leBytes 1 (modeCode m) ++ zeros 3)
      (changeMode m { passToStb ((s.ctl.time.stb.getD 0 / unitS + 1) * unitS) s with vol.pendingMode := none }))) ∧
  (∀ (ok : Bool) (code : Nat) (r : StartRun) (c : HostCmd) (s : State), s.other.start = some r → r.kind = .sideReset →
    r.stage = .gnss → s.hsw.active ≠ none → r.cmd = some c →
    exec (.resetSideDone ok code) s = .next (nextReset (answer c (resetDone s.otherId r ok s)
      (leBytes 1 (if ok then 0 else 6) ++ leBytes 1 r.slot ++ zeros 2 ++ leBytes 4 (if ok then 0 else code)))))

/-- R69, R298, R363, R364, R380, R429, R430, R435: who gives up control, and what then holds. It rests on the model's choices of logs 100
and 174. -/
def Obligations.RelinquishingGivesUpControl : Prop :=
  ∀ s : State, s.actOn = true → s.vol.redun.relinquish = none → s.hsw.warned = false →
    let gives := fun (i : Instr) (cause : Nat) =>
      ∃ t, exec i s = .next t ∧ t.hsw.lastCause = cause ∧ t.hsw.serving = false ∧ t.hsw.handoverN = true
    gives .lockstepMismatch 1 ∧
    gives .supervisorWatchdogExpiry 8 ∧
    (∀ mv, gives (.railOutOfWindow mv) 6) ∧
    (∀ k (c : Int), 1230 ≤ c → k % 12 < 6 → gives (.junctionTempThreshold k c) 5) ∧
    (∀ w q k, 0 < w → gives (.uncorrectableMemoryError 8 w q k) 2) ∧
    (s.hsw.serving = true → s.vol.redun.bist = none → s.coresOut < 8 → gives (.bistPeriod false) 7) ∧
    (s.vol.redun.running = true → s.cfg.redun.gnssFailS ≠ 0 → s.vol.corr.withheld = true → s.vol.redun.streamsOnce = true →
      gives .gnssFailTimeout 3) ∧
    (∀ h, s.vol.redun.handover = some h → h.posted = true → gives .plannedHandoverRelinquish 10) ∧
    (∀ f b i, s.starvedItem f b = some i → s.cfg.redun.starveMax ≤ 1 → gives (.controlStarvation f b) 4)

/-- R107, R423, R424, R435, R469: CHECKPOINT_SNAPSHOT, CHECKPOINT_COMMIT, BIST_PERIOD, HOLD_WAIT_EXPIRY and their fellows. It rests on the
model's choices of logs 52, 150 and 174. -/
def Obligations.RedundancyEvents : Prop :=
  (∀ s : State, s.canSnapshot = true → s.vol.redun.handover = none →
    ∃ t c, exec .checkpointSnapshot s = .next t ∧ t.vol.redun.transfer = some c ∧ c.ctl = t.ctl ∧ c.epoch = s.hsw.epoch ∧
      c.seq = s.vol.redun.seq + 1 ∧ t.vol.redun.seq = c.seq ∧ c.final = false ∧ t.vol.redun.due = false) ∧
  (∀ (c : Checkpoint) (s : State), s.vol.redun.transfer = some c → s.vol.redun.due = false → c.final = false →
    (s.flow 0x881).items = [] → ∃ t, exec .checkpointCommit s = .next t ∧ t.other.ckpts.newest = some (c.seal s.mtb s.ckptKey) ∧
      t.other.ckpts.previous = s.other.ckpts.newest ∧ t.other.ckpts.newestAt = s.clock ∧ t.vol.redun.transfer = none ∧
      t.vol.redun.commits = satInc 32 s.vol.redun.commits ∧ t.ctl = s.ctl) ∧
  (∀ (p w q k : Nat) (s : State), s.actOn = true → 0 < w → p < 8 → p ≠ 2 → w < s.cfg.redun.eccMax →
    s.vol.redun.eccAt = [] →
    exec (.uncorrectableMemoryError p w q k) s = .next { s with
      vol.redun := { s.vol.redun with eccAt := (List.replicate w s.clock).take 64 } }) ∧
  (∀ s : State, s.actOn = true → s.hsw.serving = true → s.vol.redun.bist = none →
    exec (.bistPeriod true) s = .next (bistGo 40 { s with vol.redun := { s.vol.redun with bist := some ⟨0, false⟩ } })) ∧
  (∀ (b : BistRun) (n : Nat) (s : State), s.vol.redun.bist = some b → 16 ≤ b.core →
    bistGo (n + 1) s = tryConfirm (testMemories { s with
      vol.redun := { s.vol.redun with bist := none, bistAt := s.clock, selfTestOk := true } })) ∧
  (∀ (b : BistRun) (f p n : Nat) (s : State), s.vol.redun.bist = some b → b.core < s.vol.sched.cores.length → b.core < 16 →
    b.out = false → (s.core b.core).state = .busy f p → s.oneCore = false → s.coresOut < 8 →
    ∃ t, bistGo (n + 2) s = t ∧ (t.core b.core).state = .leaving f p ∧ t.vol.redun.bist = some ⟨b.core, true⟩) ∧
  (∀ (b : BistRun) (n : Nat) (s : State), s.vol.redun.bist = some b → b.core < 16 → b.out = false →
    (s.core b.core).state = .idle → s.oneCore = false → 8 ≤ s.coresOut →
    bistGo (n + 1) s = redunEvent 7 0 s.lastCommitted { s with vol.redun := { s.vol.redun with bist := none } }) ∧
  (∀ (h : HandoverRun) (s : State), s.vol.redun.handover = some h →
    exec .holdWaitExpiry s = .next (handoverProgress { s with vol.redun.handover := some { h with waited := true } }))

/-- R423, R427, R428, R435, R441 and the opcode pages of chapter 18. -/
def Obligations.RedundancyOpcodes : Prop :=
  Carries 0x0F01 .redunConfig (fun _ _ => True)
    (fun c b =>
      let ps := c.packet.params
      accept c b { b with ctl.cfg.redun :=
        { periodMs := fld ps 0 2, eccMax := fld ps 2 1, starveMax := fld ps 3 1, gnssFailS := fld ps 4 2, bistS := fld ps 8 4 } }
        []) ∧
  Carries 0x0F02 .redunHandover (fun _ b => b.standbyOk = true ∧ b.act.lock.held = false)
    (fun c b =>
      let h : HandoverRun :=
        { cmd := c, force := fld c.packet.params 2 1 == 1, final := false, moving := 0, posted := false,
          waited := fld c.packet.params 0 2 == 0 }
      handoverProgress { b with vol.sluice.state := .withdrawn, vol.redun.handover := some h }) ∧
  Carries 0x0F02 .redunHandover (fun _ b => b.standbyOk = false) (fun c b => refuse c b erState 1) ∧
  Carries 0x0F02 .redunHandover (fun _ b => b.standbyOk = true ∧ b.act.lock.held = true)
    (fun c b => refuse c b erBusy b.act.lock.session) ∧
  Carries 0x0F03 .redunCheckpoint (fun _ b => b.sinkAccepts = true)
    (fun c b => snapshotOrWait false { b with vol.redun.ckptCmds := b.vol.redun.ckptCmds ++ [c] }) ∧
  Carries 0x0F03 .redunCheckpoint (fun _ b => b.sinkAccepts = false) (fun c b => refuse c b erState 0) ∧
  Carries 0x0F04 .redunStatus (fun _ _ => True)
    (fun c b =>
      let age := match b.other.ckpts.newest with
        | some _ => sat 32 ((b.clock - b.other.ckpts.newestAt) / tickMs)
        | none => Config.sense 8 b.fresh % 2 ^ 32
      answer c { b with fresh := b.fresh + 1 }
        (leBytes 1 b.sinkCode ++ leBytes 1 (b2n b.standbyOk) ++ leBytes 1 (sat 8 b.ctl.sluice.requal.length) ++
          leBytes 1 b.hsw.lastCause ++ leBytes 4 b.lastCommitted ++ leBytes 4 age ++ leBytes 2 b.vol.redun.image ++
          leBytes 2 b.vol.redun.lastPages ++ leBytes 4 b.vol.redun.commits ++
          leBytes 4 (sat 32 ((b.clock - b.vol.redun.bistAt) / tickS)))) ∧
  Carries 0x0F05 .redunSideRead (fun _ _ => True)
    (fun c b =>
      let d := b.side ((targetSide? c.packet).getD b.actId)
      let seq := match d.ckpts.newest with
        | some x => x.seq
        | none => 0
      let epoch := match d.ckpts.newest with
        | some x => x.epoch
        | none => 0
      answer c { b with fresh := b.fresh + 1 }
        (leBytes 1 (powerCode d.power) ++ leBytes 1 (b2n d.locked) ++ leBytes 1 d.relCause ++ leBytes 1 (b2n d.passed) ++
          leBytes 4 seq ++ leBytes 4 epoch ++ leBytes 2 (Config.sense 2 b.fresh % 65536) ++ zeros 2))

/-- R124 to R126, R133, R139 to R143, R145 and the opcode pages of chapter 05. It rests on the model's choices of log 42. -/
def Obligations.GnssOpcodes : Prop :=
  Carries 0x0201 .gnssConfig
    (fun c b => (b.cfg.gnss.pinned.find? fun e => !(fld c.packet.params 4 4).testBit e.2.sig) = none ∧
      b.topRate ≤ 10 * fld c.packet.params 0 1)
    (fun c b =>
      let ps := c.packet.params
      let g := { b.cfg.gnss with
        epochRate := fld ps 0 1, elevMask := fld ps 1 1, assign := fld ps 2 1, obsDecim := fld ps 3 1,
        signalMask := fld ps 4 4, pllBw := fld ps 8 2, fllBw := fld ps 10 2, dllBw := fld ps 12 2, pllOrder := fld ps 14 1,
        fllMode := fld ps 15 1 }
      accept c b { b with ctl.cfg.gnss := g, vol.gnss.cfgDue := true } []) ∧
  (∀ e : Nat × ChanSettings, Carries 0x0201 .gnssConfig
    (fun c b => (b.cfg.gnss.pinned.find? fun e => !(fld c.packet.params 4 4).testBit e.2.sig) = some e ∧
      b.topRate ≤ 10 * fld c.packet.params 0 1)
    (fun c b => refuse c b erConflict e.1)) ∧
  Carries 0x0202 .gnssChannelSet
    (fun c b => fld c.packet.params 2 1 = 0 ∧ firstNonZero ((c.packet.params.drop 3).take 17) = none ∧
      b.mappingChan (fld c.packet.params 0 2) = false)
    (fun c b =>
      let k := fld c.packet.params 0 2
      let t : State := { b with ctl.cfg.gnss.pinned := tdel b.cfg.gnss.pinned k }
      accept c b ((cancelMove k t).modChan k fun x =>
        { x with pending := some (b.cfg.gnss.autoSet x.set.sig x.set.sv x.set.fcn) }) []) ∧
  Carries 0x0202 .gnssChannelSet
    (fun c b => fld c.packet.params 2 1 ≠ 0 ∧ chanRange (readChan c.packet.params) = none ∧
      b.mappingChan (fld c.packet.params 0 2) = false ∧
      (∀ e ∈ b.cfg.gnss.pinned, e.1 = fld c.packet.params 0 2 ∨ e.2.sig ≠ (readChan c.packet.params).sig ∨
        e.2.sv ≠ (readChan c.packet.params).sv) ∧
      b.cfg.gnss.signalMask.testBit (readChan c.packet.params).sig = true)
    (fun c b => accept c b (pinChan (fld c.packet.params 0 2) (readChan c.packet.params) b) []) ∧
  Carries 0x0203 .gnssChannelRead (fun c b => b.chan (fld c.packet.params 0 2) = none)
    (fun c b =>
      let k := fld c.packet.params 0 2
      answer c b (zeros 1 ++ leBytes 1 (if b.mappingChan k then 2 else if b.pinnedChan k then 1 else 0) ++ zeros 22)) ∧
  (∀ x : Channel, Carries 0x0203 .gnssChannelRead (fun c b => b.chan (fld c.packet.params 0 2) = some x)
    (fun c b =>
      let k := fld c.packet.params 0 2
      answer c b (leBytes 1 (chanCode x.state) ++ leBytes 1 (if b.mappingChan k then 2 else if b.pinnedChan k then 1 else 0) ++
        leBytes 1 x.set.sig ++ leBytes 1 x.set.sv ++ leInt 1 x.set.fcn ++ leBytes 1 x.tNow ++ leBytes 1 x.set.dEl ++
        leBytes 1 x.set.dV ++ leBytes 2 x.cn0 ++ leInt 2 (roundRat (x.pli * 10000)) ++ leBytes 4 x.lockMs ++
        leInt 4 (roundRat (x.fCarrier * 1000)) ++ leBytes 1 x.slipCount ++ zeros 3))) ∧
  Carries 0x0204 .gnssNotch
    (fun c _ => notchFits (fld c.packet.params 0 1)
      ⟨fld c.packet.params 2 1, sfld c.packet.params 4 4, fld c.packet.params 8 2, fld c.packet.params 10 2⟩ = true)
    (fun c b =>
      let ps := c.packet.params
      accept c b (setNotch (fld ps 0 1) (fld ps 1 1) ⟨fld ps 2 1, sfld ps 4 4, fld ps 8 2, fld ps 10 2⟩ b) []) ∧
  Carries 0x0205 .gnssMonitor
    (fun c b => (fld c.packet.params 1 1 = 0 →
        firstNonZeroField c.packet.params [(2, 2), (4, 1), (6, 2), (8, 2), (10, 2), (12, 2)] = none) ∧
      (fld c.packet.params 1 1 = 2 →
        ∀ k ∈ (if fld c.packet.params 0 1 = 0xFF then [0, 1, 2, 3] else [fld c.packet.params 0 1]), (b.monitor k).flag = false))
    (fun c b =>
      let ps := c.packet.params
      let fes := if fld ps 0 1 = 0xFF then [0, 1, 2, 3] else [fld ps 0 1]
      let t := if fld ps 1 1 = 0 then b else fes.foldl (setMonitor ps) b
      accept c b t (fes.flatMap t.monitorBytes)) ∧
  Carries 0x0206 .gnssMpmap
    (fun c b => b.vol.gnss.fen = false ∧ fld c.packet.params 0 1 ≠ 0 ∧ b.vol.gnss.map = none ∧
      ∀ k, k < fld c.packet.params 2 1 → (b.chan (fld c.packet.params (8 + 2 * k) 2)).isSome = true)
    (fun c b =>
      let ps := c.packet.params
      let cs := ((List.range (fld ps 2 1)).map fun k => fld ps (8 + 2 * k) 2).foldl (fun t k => match b.chan k with
        | some x => tput t k (x.set.sig, x.set.sv)
        | none => t) []
      accept c b { b with vol.gnss.map := some ⟨fld ps 1 1, fld ps 4 2, cs⟩ } []) ∧
  Carries 0x0206 .gnssMpmap
    (fun c b => b.vol.gnss.fen = false ∧ fld c.packet.params 0 1 = 0 ∧ fld c.packet.params 2 1 = 0 ∧ b.vol.gnss.map ≠ none)
    (fun c b => accept c b (endMap 2 b) []) ∧
  Carries 0x0207 .gnssStatus (fun _ _ => True)
    (fun c b =>
      let g := b.vol.gnss
      let n := match g.map with
        | some m => m.channels.length
        | none => 0
      let m := biasNow b
      answer c m.2.2 (leBytes 1 g.rate ++ leBytes 1 (b2n g.fen) ++ (List.range 5).flatMap (fun k => leBytes 1 (b.lockedSats k)) ++
        leBytes 1 (maskOf ((List.range 4).filter fun k => b.interf k)) ++ leBytes 2 b.cfg.gnss.pinned.length ++ leBytes 1 n ++
        leBytes 1 m.1 ++ leBytes 1 m.2.1 ++ zeros 1 ++ leBytes 2 (sat 16 b.estNs) ++ leBytes 4 b.hotAge))

/-- R61, R126, R134, R139 to R144: what happens in the GNSS baseband by itself. It rests on the model's choices of logs 183, 184, 185, 186
and 187. -/
def Obligations.GnssEvents : Prop :=
  (∀ (k : Nat) (taps : List (Int × Int)) (sync : Bool) (pre : Nat) (x : Channel) (s : State), s.chan k = some x →
    x.tracks = true → s.hsw.warned = false → exec (.channelIntegration k taps sync pre) s = .next (countEvents 0x0501 none 1 (finishMove k
      (({ s with fresh := s.fresh + 1 } : State).modChan k fun c => c.integrate s.fresh taps sync pre)))) ∧
  (∀ (k : Nat) (code : Rat) (mhz : Int) (x : Channel) (s : State), (k, x) ∈ s.acqBatch →
    s.hsw.warned = false → (s.vol.gnss.fen = true → s.vol.gnss.burst = true) → s.withinSearch x.set code mhz = true →
    let old := if (s.acqBatch.all fun b => s.vol.gnss.searched.contains b.1) = true then [] else s.vol.gnss.searched
    exec (.acquisitionDwellDone [(k, code, mhz)]) s = .next (
      ((countEvents 0x0502 none (s.acqBatch.map fun b => s.dwells b.2.set).sum s).modGnss fun g =>
        { g with searched := old ++ s.acqBatch.map (·.1) }).modChan k fun c =>
      if c.state = .acquiring then
        { c with state := .codeLock, codePhase := code, a := mkRat mhz 1000, fCarrier := mkRat mhz 1000, fll := true }
      else c)) ∧
  (∀ (fe flat blank : Nat) (agc : Int) (s : State),
    let c := monitorCauses (s.monSet fe) agc flat blank
    exec (.monitorUpdate fe agc flat blank) s = .next (s.modMonitor fe fun m =>
      { m with
        agc := agc, flat := flat, blanked := blank, causes := c
        causeMs := (List.range 3).map fun k => if c.testBit k then m.causeMs.getD k 0 + 100 else 0
        clearMs := if c = 0 then m.clearMs + 100 else 0 })) ∧
  (∀ (fe t : Nat) (s : State), fe < 4 → (s.monitor fe).flag = false → t ∈ (s.monitor fe).causeMs →
    (s.monSet fe).persist ≤ t → exec (.interferenceFlagSet fe) s = .next (gnssAlert fe true (s.monitor fe).causes
      (s.modMonitor fe fun m => { m with flag := true, flagAt := s.mtb }))) ∧
  (∀ (fe : Nat) (s : State), fe < 4 → (s.monitor fe).flag = true → 5000 ≤ (s.monitor fe).clearMs →
    exec (.interferenceFlagClear fe) s = .next (gnssAlert fe false 0 (s.modMonitor fe fun m => { m with flag := false }))) ∧
  (∀ (fe k level : Nat) (off : Int) (s : State),
    let n := (s.cfg.gnss.notches.getD fe []).getD k Notch.off
    n.mode = 2 → (off - n.offset).natAbs ≤ 2000 → n.thresh ≤ level → s.notchRested fe k = true →
    exec (.adaptiveNotchMove fe k off level) s = .next (notchMark fe (s.notchNow fe k) { n with offset := off }
      { s with
        vol.gnss.notchAt := tput s.vol.gnss.notchAt (8 * fe + k) off
        vol.gnss.notchMoved := tput s.vol.gnss.notchMoved (8 * fe + k) s.mtb })) ∧
  (∀ (k az el sig sv : Nat) (mags : List Nat) (m : MapRun) (x : Channel) (s : State), mapLost s = s →
    s.vol.gnss.map = some m → m.channels = [(k, sig, sv)] → s.chan k = some x → x.state = .phaseLock →
    exec (.mpmapSecond [(k, az, el, mags)]) s = .next (mapMessage k sig sv az el 0 mags s)) ∧
  (∀ (m : MapRun) (x : Channel) (k sig sv : Nat) (s : State), s.vol.gnss.map = some m → m.channels = [(k, sig, sv)] →
    s.chan k = some x → (x.set.sig ≠ sig ∨ x.set.sv ≠ sv) →
    exec (.mpmapSecond []) s = .next (mapMeasured k sig sv 4 { s with vol.gnss.map := none })) ∧
  (∀ (m : MapRun) (s : State), s.vol.gnss.map = some m → ∃ t, exec .mpmapDurationEnd s = .next t ∧ t.vol.gnss.map = none ∧
    t.vol.gnss.channels = s.vol.gnss.channels ∧ t.ctl = s.ctl) ∧
  (∀ (t : Nat) (s : State), s.ctl.time.stb = some t → s.vol.gnss.fen = true → s.vol.gnss.burst = false →
    ∃ u, exec .fenBurstStart s = .next u ∧ u.vol.gnss.burst = true ∧ u.ctl.cfg = s.ctl.cfg ∧
      u.vol.gnss.channels = s.vol.gnss.channels.map fun e => (e.1, e.2.wake)) ∧
  (∀ c : Channel, c.state = .fenSleep → c.wake.a = c.a + c.b * (4 / 5) ∧ c.wake.fCarrier = c.wake.a ∧
    c.wake.state = .pullIn ∧ c.wake.carPhase = c.carPhase + (c.a * (4 / 5) + c.b * (4 / 5) * (4 / 5) / 2) ∧
    (c.wake.resume = some 0 ↔ c.wasLocked = true)) ∧
  (∀ (n ms : Nat) (ep : Rat) (c : Channel), c.resume = some n →
    (50 < n + ms → c.reenter ms ep = c.slip) ∧
    (n + ms ≤ 50 → 4 / 5 ≤ c.pli → (c.reenter ms ep).state = .phaseLock ∧ (c.reenter ms ep).check = true)) ∧
  (∀ (ms : Nat) (ep : Rat) (c : Channel), c.resume = none → c.check = true → 1 / 10 < |ep| → c.reenter ms ep = c.slip) ∧
  (∀ (t : Nat) (s : State), s.ctl.time.stb = some t → s.vol.gnss.fen = true → s.vol.gnss.burst = true →
    ∃ u, exec .fenBurstEnd s = .next u ∧ u.vol.gnss.burst = false ∧
      u.vol.gnss.channels = s.vol.gnss.channels.map fun e => (e.1, e.2.sleep)) ∧
  (∀ (ma : Nat) (s : State), s.actOn = true → s.vol.gnss.biasState ≠ 0 → s.vol.gnss.biasState ≠ 2 →
    exec (.antennaBiasLimit ma) s = .next (record 0x1406 0xFFFF (leBytes 1 ma)
    { s with vol.gnss.biasState := 2, vol.gnss.biasMa := 0 })) ∧
  (∀ (ma : Nat) (s : State), s.actOn = true → s.vol.gnss.biasState = 2 →
    exec (.biasRetry true ma) s =
      .next { s with vol.gnss.biasState := if ma < 4 then 3 else 1, vol.gnss.biasMa := ma })

/-- R146 to R150, R157 to R159 and the opcode pages of chapter 06. -/
def Obligations.CorrectionOpcodes : Prop :=
  Carries 0x0301 .corrBase
    (fun c _ => fld c.packet.params 0 1 = 0 ∧ baseRange c.packet.params = none ∧
      arpOk (sfld c.packet.params 4 8, sfld c.packet.params 12 8, sfld c.packet.params 20 8) = true)
    (fun c b =>
      let ps := c.packet.params
      let p : BasePos :=
        { source := 0, frameYear := fld ps 1 1, x := sfld ps 4 8, y := sfld ps 12 8, z := sfld ps 20 8, arpHeight := fld ps 28 2 }
      let u := endRun 3 b
      accept c b { u with ctl.cfg.corr.pending := some p } (leBytes 1 ((u.cfg.corr.iods + 1) % 8) ++ zeros 3)) ∧
  Carries 0x0301 .corrBase (fun c _ => fld c.packet.params 0 1 = 1 ∧ baseRange c.packet.params = none)
    (fun c b =>
      let ps := c.packet.params
      let r : BaseRun :=
        { source := 1, frameYear := fld ps 1 1, arpHeight := fld ps 28 2, minS := fld ps 32 4, maxS := fld ps 36 4,
          targetMm := fld ps 40 2, neighbour := fld ps 42 2, fixHoldS := fld ps 44 2 }
      let u := endRun 3 b
      accept c b { u with ctl.cfg.corr.run := some r } (leBytes 1 u.cfg.corr.iods ++ zeros 3)) ∧
  Carries 0x0301 .corrBase
    (fun c b => fld c.packet.params 0 1 = 2 ∧ baseRange c.packet.params = none ∧ b.ctl.hot.position = none ∧
      b.heard (fld c.packet.params 42 2) = true ∧ b.vol.gnss.fen = false ∧ capacityError b.cfg.solver.members true = none)
    (fun c b =>
      let ps := c.packet.params
      let r : BaseRun :=
        { source := 2, frameYear := fld ps 1 1, arpHeight := fld ps 28 2, minS := fld ps 32 4, maxS := fld ps 36 4,
          targetMm := fld ps 40 2, neighbour := fld ps 42 2, fixHoldS := fld ps 44 2 }
      let u := endRun 3 b
      accept c b { u with ctl.cfg.corr.run := some r } (leBytes 1 u.cfg.corr.iods ++ zeros 3)) ∧
  Carries 0x0302 .corrStream
    (fun c b => streamRange (fld c.packet.params 0 1) (readStream c.packet.params) c.packet.params = none ∧
      fld c.packet.params 5 1 = 0 ∧ b.epochRate ≤ 20 * fld c.packet.params 3 1)
    (fun c b => accept c b { b with
      ctl.cfg.corr.streams := b.cfg.corr.streams.set (fld c.packet.params 0 1) (readStream c.packet.params) } []) ∧
  Carries 0x0303 .corrDescriptor (fun _ _ => True)
    (fun c b =>
      let ps := c.packet.params
      let d := { b.cfg.corr with
        setupId := fld ps 0 1, gloAlign := fld ps 3 1 = 1, desc := slice ps 4 (fld ps 1 1),
        serial := slice ps 36 (fld ps 2 1) }
      accept c b { b with ctl.cfg.corr := d } []) ∧
  Carries 0x0304 .corrWatchdog (fun c _ => fld c.packet.params 0 1 = 1)
    (fun c b =>
      let ps := c.packet.params
      let w : WatchdogSettings := ⟨fld ps 1 1, fld ps 2 2, fld ps 4 4, fld ps 8 2, fld ps 10 2, fld ps 12 2⟩
      accept c b { b with ctl.cfg.corr.watchdog := w }
        (leBytes 1 b.vol.corr.active ++ leBytes 1 b.cfg.corr.latched ++ leBytes 1 (b2n b.vol.corr.withheld) ++ zeros 1)) ∧
  Carries 0x0304 .corrWatchdog
    (fun c _ => fld c.packet.params 0 1 = 2 ∧
      firstNonZeroField c.packet.params [(1, 1), (2, 2), (4, 4), (8, 2), (10, 2), (12, 2)] = none)
    (fun c b =>
      let u := setCauses b.vol.corr.active b.vol.corr.absent 0 b
      accept c b u (leBytes 1 u.vol.corr.active ++ leBytes 1 u.cfg.corr.latched ++ leBytes 1 (b2n u.vol.corr.withheld) ++
        zeros 1)) ∧
  Carries 0x0306 .corrInject (fun _ _ => True)
    (fun c b =>
      let r := takeInput (slice c.packet.params 4 (fld c.packet.params 0 2)) b
      answer c r.2.2 (leBytes 2 r.1 ++ leBytes 2 r.2.1)) ∧
  Carries 0x0305 .corrStatus (fun _ b => b.cfg.corr.run = none ∧ b.cfg.corr.base = none)
    (fun c b => answer c b (leBytes 1 0xFF ++ leBytes 1 0 ++ leBytes 1 b.cfg.corr.iods ++ leBytes 1 b.cfg.corr.baseSeq ++
      zeros 24 ++ leBytes 4 b.runSeconds ++ leBytes 2 (sat 16 b.vol.corr.sigma) ++ leBytes 1 b.vol.corr.active ++
      leBytes 1 b.cfg.corr.latched ++ leBytes 1 b.vol.corr.neighbours.length ++ zeros 3 ++ leBytes 4 b.vol.corr.discarded ++
      leBytes 4 (sat 32 b.vol.corr.dropped))) ∧
  (∀ p : BasePos, Carries 0x0305 .corrStatus (fun _ b => b.cfg.corr.run = none ∧ b.cfg.corr.base = some p)
    (fun c b => answer c b (leBytes 1 p.source ++ leBytes 1 3 ++ leBytes 1 b.cfg.corr.iods ++ leBytes 1 b.cfg.corr.baseSeq ++
      xyzBytes (p.x, p.y, p.z) ++ leBytes 4 b.runSeconds ++ leBytes 2 (sat 16 b.vol.corr.sigma) ++
      leBytes 1 b.vol.corr.active ++ leBytes 1 b.cfg.corr.latched ++ leBytes 1 b.vol.corr.neighbours.length ++ zeros 3 ++
      leBytes 4 b.vol.corr.discarded ++ leBytes 4 (sat 32 b.vol.corr.dropped))))

/-- R84, R135, R146, R147, R157 to R159, R477: GNSS_EPOCH, SURVEY_MAX_TIME, WATCHDOG_HOLDOFF_EXPIRY and the store's writes. It rests on
the model's choices of logs 5, 7 and 21. -/
def Obligations.CorrectionEvents : Prop :=
  (∀ (k t : Nat) (m : EpochMeas) (s : State), s.ctl.time.stb = some t → s.hsw.warned = false →
    k % (1000 / max 1 s.epochRate) = 0 → t ≤ k * unitMs →
    let u := observe k m (passToStb (k * unitMs) s)
    let d := u.epochData k
    (∀ (n : Nat) (v : State), commitPacket 0x820 d.length 0 0 d u = some (n, v) → v.servesNow 12 0x884 = true →
      exec (.gnssEpoch k m) s = .next (baseWork k m (ranItem 12 0x884 0 v))) ∧
    (∀ (n : Nat) (v : State), commitPacket 0x820 d.length 0 0 d u = some (n, v) → v.servesNow 12 0x884 = false →
      exec (.gnssEpoch k m) s = .next (enqueue { newItem 12 0x884 0 with work := some (.gnssEpoch k m) } v)) ∧
    (commitPacket 0x820 d.length 0 0 d u = none → exec (.gnssEpoch k m) s = .next (commitOrDrop 0x820 d.length 0 0 d u))) ∧
  (∀ (k : Nat) (m : EpochMeas) (p : PeatPacket) (s t : State), takePacket 0x820 s = some (p, t) →
    (p.poison = false → baseWork k m s = corrEpoch k m (timeEpoch m t)) ∧
    (p.poison = true → baseWork k m s = record 0x0C02 0x820 (leBytes 4 (firstCell p.cell)) t)) ∧
  (∀ (k : Nat) (m : EpochMeas) (s : State), s.ctl.time.stb = none → s.hsw.warned = false →
    exec (.gnssEpoch k m) s = .next (timeEpoch m (assign m.sky { s with vol.gnss.sky := m.sky }))) ∧
  (∀ (r : BaseRun) (s : State), s.cfg.corr.run = some r → r.source = 1 → ∃ t, exec .surveyMaxTime s = .next t ∧
    t.cfg.corr.run = none ∧ t.cfg.corr.base = s.cfg.corr.base ∧ t.vol.corr.runAt = none) ∧
  (∀ (k : Nat) (s : State), s.vol.corr.absent.testBit k = true → ∃ t, exec (.watchdogHoldoffExpiry k) s = .next t ∧
    t.vol.corr.active = setBit s.vol.corr.active k false ∧ t.cfg.corr.latched = s.cfg.corr.latched ∧
    t.vol.corr.withheld = decide (t.vol.corr.active ≠ 0 ∨ t.cfg.corr.latched ≠ 0)) ∧
  (∀ (st : Nat) (s : State),
    exec (.neighbourBufferTimeout st) s = .next { s with vol.corr.neighbours := tdel s.vol.corr.neighbours st }) ∧
  (∀ s : State, s.act.mainOn = true → s.hsw.serving = true → s.act.store.blocked = false →
    s.servesNow 11 0x883 = true → (pagesNeeded (ranItem 11 0x883 0 s)).1 ≤ s.act.store.freePages →
    ∃ t, exec .hotStartWrite s = .next t ∧ t.ctl = s.ctl ∧
      t.act.store.current = { s.act.store.current with hot := some s.ctl.hot }) ∧
  (∀ s : State, s.act.mainOn = true → s.hsw.serving = true → s.act.store.blocked = false →
    s.servesNow 11 0x883 = true → (pagesNeeded (ranItem 11 0x883 0 s)).1 ≤ s.act.store.freePages →
    ∃ t, exec .budgetAccountingWrite s = .next t ∧ t.ctl = s.ctl ∧
      t.act.store.current = { s.act.store.current with
        budget := some s.ctl.budget, budgetOp := s.act.recorder.opSeconds, budgetAt := s.clock }) ∧
  (∀ s : State, s.act.mainOn = true → s.hsw.serving = true → s.act.store.blocked = false →
    let u := ranItem 11 0x883 0 s
    s.servesNow 11 0x883 = true → s.act.store.freePages < (pagesNeeded u).1 →
      exec .hotStartWrite s = .next (updateEvent 7 0 0 { u with fresh := u.fresh + 1 })) ∧
  (∀ s : State, s.act.mainOn = true → s.hsw.serving = true → s.servesNow 11 0x883 = false →
    exec .hotStartWrite s = .next (enqueue { newItem 11 0x883 0 with work := some .hotStartWrite } s) ∧
    exec .budgetAccountingWrite s = .next (enqueue { newItem 11 0x883 0 with work := some .budgetAccountingWrite } s))

/-- R170, R179, R181, R187 to R189 and the opcode pages of chapter 07. -/
def Obligations.SolverOpcodes : Prop :=
  Carries 0x0401 .solverConfig (fun _ _ => True)
    (fun c b =>
      let ps := c.packet.params
      let v := { b.cfg.solver with
        codeSigma := fld ps 0 2, phaseSigma := fld ps 2 2, qH := fld ps 4 4, qV := fld ps 8 4, qIono := fld ps 12 2,
        qTrop := fld ps 14 2, ratio := fld ps 16 2, minFix := fld ps 18 1, fixEpochs := fld ps 19 1, arElev := fld ps 20 1,
        exclMax := fld ps 21 1, tThr := fld ps 22 2, kH := fld ps 24 2, kV := fld ps 26 2, extrapMax := fld ps 28 2,
        partWait := fld ps 30 2 }
      accept c b { b with ctl.cfg.solver := v } []) ∧
  Carries 0x0402 .solverMember
    (fun c b => fld c.packet.params 2 1 = 0 ∧ (tget b.cfg.solver.members (fld c.packet.params 0 2)).isSome = true ∧
      b.ctl.mode ≠ .fen ∧ (∀ k ∈ b.conn (fld c.packet.params 0 2), k.edition ≠ 1) ∧
      firstNonZeroField c.packet.params
        [(3, 1), (4, 1), (5, 1), (6, 1), (7, 1), (8, 4), (12, 4), (16, 2), (20, 4)] = none)
    (fun c b =>
      let n := fld c.packet.params 0 2
      let u := sendRate false n (dropMember n b)
      accept c b u (memberReply u)) ∧
  Carries 0x0402 .solverMember
    (fun c b => fld c.packet.params 2 1 ≠ 0 ∧ b.ctl.mode ≠ .fen ∧
      (∀ k ∈ b.conn (fld c.packet.params 0 2), k.edition ≠ 1) ∧
      rate10 (readMember c.packet.params).rate ≤ 10 * b.cfg.gnss.epochRate ∧
      capacityError (tput b.cfg.solver.members (fld c.packet.params 0 2) (readMember c.packet.params)) b.baselineRun = none)
    (fun c b =>
      let n := fld c.packet.params 0 2
      let u := sendRate false n (setMember n (readMember c.packet.params) b)
      accept c b u (memberReply u)) ∧
  (∀ (n : Nat) (s : State), (dropMember n s).cfg.solver.members = tdel s.cfg.solver.members n ∧
    (dropMember n s).ctl.filters = tdel s.ctl.filters n ∧ ((dropMember n s).solveRun n).reinit = 7) ∧
  (∀ (n : Nat) (m : SolverMember) (s : State),
    (setMember n m s).cfg.solver.members = tput s.cfg.solver.members n m ∧
    (tget s.cfg.solver.members n = none → ((setMember n m s).solveRun n).reinit = 7) ∧
    ∀ o, tget s.cfg.solver.members n = some o →
      ((setMember n m s).solveRun n).reinit =
        (if o.mode = m.mode then (s.solveRun n).reinit else (s.solveRun n).reinit ||| 6) ∧
      ((setMember n m s).solveRun n).held = if o.mode = m.mode then (s.solveRun n).held else []) ∧
  Carries 0x0402 .solverMember
    (fun c b => fld c.packet.params 2 1 ≠ 0 ∧ b.ctl.mode = .fen)
    (fun c b => refuse c b erState 2) ∧
  Carries 0x0403 .solverRead (fun _ _ => True)
    (fun c b => answer c b ((List.range (fld c.packet.params 0 1)).flatMap fun k =>
      (b.readRecord (fld c.packet.params (4 + 2 * k) 2)).bytes)) ∧
  Carries 0x0404 .solverStatus (fun _ _ => True)
    (fun c b =>
      let ms := b.cfg.solver.members
      let recs := ms.filterMap fun e => (b.solveRun e.1).record
      let count := fun f : SolverRecord → Bool => leBytes 2 (recs.filter f).length
      answer c b (leBytes 2 ms.length ++ leBytes 2 (ms.filter fun e => (b.solved e.1).isSome).length ++
        leBytes 2 (capacityOf ms b.baselineRun).1 ++ leBytes 2 (capacityOf ms b.baselineRun).2 ++
        count (fun x => x.state == 3 || x.state == 4) ++ count (fun x => x.state == 2) ++
        count (fun x => x.state == 0 || x.state == 1 || x.state == 5) ++ count (fun x => !x.usable) ++
        leBytes 1 b.alarmBits ++ leBytes 1 b.vol.solver.exclusions.length ++ zeros 2 ++ leBytes 4 b.vol.solver.stale ++
        leBytes 4 b.vol.solver.bad ++ leBytes 4 b.vol.solver.timedOut)) ∧
  Carries 0x0405 .solverReset
    (fun c b => fld c.packet.params 0 2 ≠ 0xFFFF ∧ (tget b.cfg.solver.members (fld c.packet.params 0 2)).isSome = true)
    (fun c b => accept c b (resetFilter (fld c.packet.params 0 2) b) []) ∧
  Carries 0x0405 .solverReset (fun c _ => fld c.packet.params 0 2 = 0xFFFF)
    (fun c b => accept c b ((tkeys b.cfg.solver.members).foldl (fun s n => resetFilter n s) b) []) ∧
  Carries 0x0405 .solverReset
    (fun c b => fld c.packet.params 0 2 ≠ 0xFFFF ∧ tget b.cfg.solver.members (fld c.packet.params 0 2) = none)
    (fun c b => refuse c b erState 0) ∧
  Carries 0x0406 .solverIntegrity (fun c _ => fld c.packet.params 0 1 = 1)
    (fun c b => accept c b (setIntegrity c.packet.params b) (integrityReply (setIntegrity c.packet.params b))) ∧
  Carries 0x0406 .solverIntegrity
    (fun c _ => fld c.packet.params 0 1 = 2 ∧
      firstNonZeroField c.packet.params [(1, 1), (2, 2), (4, 2), (6, 1), (8, 2), (10, 2)] = none)
    (fun c b =>
      let u : State := { b with ctl.cfg.solver.clear3 := b.cfg.solver.code3 }
      accept c b u (integrityReply u))

/-- R44, R164, R169, R181, R182, R186 and the items of Table Sched-2. It rests on the model's choices of logs 7, 9 and 21. -/
def Obligations.SolverEvents : Prop :=
  (∀ (core : Nat) (i : WorkItem) (k : Nat) (d : List Byte) (s u : State), s.servedItem core 1 = some i →
    itemPacket i s = (some (k, d), u) →
    exec (.uplinkItem core) s = .next (if k = 1 then uploadItem i.node i.enq d u else positionItem i.node d u)) ∧
  (∀ (core : Nat) (i : WorkItem) (d : List Byte) (s u : State), s.servedItem core 2 = some i →
    itemPacket i s = (some (5, d), u) →
    exec (.memberMsgItem core) s = .next (sendMsg 0x0782 (leBytes 2 i.node ++ leBytes 2 d.length ++ zeros 4 ++ d) u)) ∧
  (∀ (core : Nat) (i : WorkItem) (d : List Byte) (s u : State), s.servedItem core 2 = some i →
    itemPacket i s = (some (4, d), u) →
    exec (.memberMsgItem core) s = .next (handoverProgress (memberStatus i.node d u))) ∧
  (∀ (n : Nat) (m : SolverMember) (s : State), s.solved n = some m → (s.solveRun n).waiting = true → s.hsw.warned = false →
    let v := s.modSolveRun n fun x => { x with readyAt := s.mtb }
    v.servesNow 4 (s.flowOf n) = true →
    exec (.epochPartWaitExpiry n) s = .next (settle n (solveParts n m true (ranItem 4 (s.flowOf n) n v)))) ∧
  (∀ (n : Nat) (m : SolverMember) (s : State), s.solved n = some m → (s.solveRun n).waiting = true → s.hsw.warned = false →
    let v := s.modSolveRun n fun x => { x with readyAt := s.mtb }
    v.servesNow 4 (s.flowOf n) = false →
    exec (.epochPartWaitExpiry n) s = .next (enqueue
      { newItem 4 (s.flowOf n) n with work := some (.epochPartWaitExpiry n (s.solveRun n).epochMs) } v)) ∧
  (∀ (n e : Nat) (m : SolverMember) (s : State), s.solved n = some m → s.ctl.time.stb.isSome = true →
    s.hsw.warned = false → (s.solveRun n).lacks e = true →
    let iv := (s.solveRun n).interval m e
    let p := passToStb ((e + iv + 20) * 65536000000) s
    let v := p.modSolveRun n fun x => { x with readyAt := p.mtb }
    onGrid iv e = true → v.servesNow 4 (s.flowOf n) = true →
    exec (.missingEpoch n e) s = .next (settle n (envelopeStep n (predict n e m (ranItem 4 (s.flowOf n) n v))))) ∧
  (∀ (n e : Nat) (s : State), (s.solveRun n).lacks e = false → predictWork n e s = s) ∧
  (∀ (r : SolveRun) (e : Nat), r.lacks e = true ↔ r.begun = true ∧ e ∉ r.seen ∧ (∀ l ∈ r.lastSolved, l < e) ∧
    ∀ l ∈ r.lastEpoch, l < e) ∧
  (∀ (n : Nat) (s : State), s.conn n = none → (s.solveRun n).endedAt ≠ none → ∃ t, exec (.filterRetentionExpiry n) s = .next t ∧
    (t.solveRun n).held = [] ∧ (t.solveRun n).reinit = 7 ∧ (t.solveRun n).solution = none ∧ t.ctl = { s.ctl with filters := tdel s.ctl.filters n }) ∧
  (∀ (v : Nat) (b : BasePos) (s : State), s.ctl.time.stb = some v → s.cfg.corr.base = some b →
    s.hsw.warned = false →
    exec .crossMemberTest s =
      .next (crossTest ((v / unitS + 1) * 1000) (passToStb ((v / unitS + 1) * unitS) s))) ∧
  (∀ (c v : Nat) (s : State), exec (.solverExclusionExpiry c v) s = .next { s with
    vol.solver := { s.vol.solver with
      exclusions := s.vol.solver.exclusions.map fun x =>
        if x.const = c ∧ x.sv = v ∧ !x.elapsed then { x with elapsed := true, clean := 0 } else x } }) ∧
  (∀ (c v : Nat) (x : SatExclusion) (s : State),
    (s.vol.solver.exclusions.find? fun y => y.const == c && y.sv == v) = some x → x.elapsed = true →
    s.cfg.solver.clearS ≤ x.clean →
    exec (.solverAlarmClearExpiry 1 c v 0 0) s = .next (solverAlarm 1 false c v x.tile (s.testedIn x.tile)
      { s with vol.solver := { s.vol.solver with
        exclusions := s.vol.solver.exclusions.filter fun y => !(y.const == c && y.sv == v) } })) ∧
  (∀ (e n : Int) (a : TileAlarm) (s : State), (s.vol.solver.tiles.find? fun a => a.tile == (e, n)) = some a →
    s.cfg.solver.clearS ≤ a.clean →
    exec (.solverAlarmClearExpiry 2 0xFF 0xFF e n) s = .next (solverAlarm 2 false 0xFF 0xFF a.tile (s.testedIn a.tile)
      { s with vol.solver := { s.vol.solver with tiles := s.vol.solver.tiles.filter fun b => b.tile != a.tile } }))

/-- R195, R198, R206, R209, R213, R216 to R218 and the opcode pages of chapter 08. -/
def Obligations.TimeOpcodes : Prop :=
  Carries 0x0501 .timeConfig
    (fun c b => (fld c.packet.params 0 1 = 1 ∨ fld c.packet.params 1 1 = 2 → b.vol.time.syncRef = true) ∧
      (b.ctl.timeCfg.atbSlew < fld c.packet.params 12 2 → b.ctl.conns = []))
    (fun c b =>
      let ps := c.packet.params
      let v := { b.ctl.timeCfg with
        holdoverRef := fld ps 0 1, refOut := fld ps 1 1, ppsOut := fld ps 2 1 = 1, ppsIn := fld ps 3 1 = 1,
        ppsWidth := fld ps 4 4, ppsDelay := sfld ps 8 4, atbSlew := fld ps 12 2, info := fld ps 14 1 = 1,
        lockHold := fld ps 15 1 }
      accept c b { b with ctl.timeCfg := v } []) ∧
  Carries 0x0501 .timeConfig
    (fun c b => (fld c.packet.params 0 1 = 1 ∨ fld c.packet.params 1 1 = 2) ∧ b.vol.time.syncRef = false)
    (fun c b => refuse c b erState 0) ∧
  Carries 0x0502 .timePtpConfig
    (fun c b => ptpError (readPtp c.packet.params) = none ∧
      ∀ p, p < 2 → (readPtpPort c.packet.params p).enable = true → (b.cfg.fed.ports.getD p SitePort.factory).enable = true)
    (fun c b =>
      let v := { b.ctl.timeCfg with ptp := readPtp c.packet.params }
      accept c b (restartPtp (ptbFollows { b with ctl.timeCfg := v })) []) ∧
  Carries 0x0503 .timeLeap
    (fun c b => fld c.packet.params 2 6 = 0 ∧ fld c.packet.params 1 1 = fld c.packet.params 0 1 ∨
      fld c.packet.params 2 6 ≠ 0 ∧ (∀ x ∈ b.ctl.time.stb, x < fld c.packet.params 2 6 * unitS) ∧
        (fld c.packet.params 1 1 = fld c.packet.params 0 1 + 1 ∨ fld c.packet.params 0 1 = fld c.packet.params 1 1 + 1))
    (fun c b =>
      let ps := c.packet.params
      let u : State := { b with ctl.timeCfg := { b.ctl.timeCfg with leapHost := some ⟨fld ps 0 1, fld ps 1 1, fld ps 2 6⟩ } }
      accept c b u (leBytes 1 (b2n u.vol.time.decoded.isSome) ++ leBytes 1 (u.leap.value u.stbSecond) ++ zeros 2)) ∧
  Carries 0x0504 .timeStatus (fun _ b => b.vol.time.state.holdover = false)
    (fun c b =>
      let r := b.vol.time
      let seen := match r.ppsInAt with
        | some a => decide (b.mtb ≤ a + 2 * tickS)
        | none => false
      answer c b (leBytes 1 (stbCode r.state) ++ leBytes 1 (b2n (b.ctl.timeCfg.holdoverRef == 1 && r.syncRef)) ++
        leBytes 1 (b2n b.atbAligned + 2 * b2n r.pending.isSome + 4 * b2n r.syncRef + 8 * b2n seen +
          16 * b2n (b.leapPending b.stbSecond)) ++
        leBytes 1 (b.leap.value b.stbSecond) ++ leBytes 4 b.estNs ++ leBytes 4 0 ++ leInt 4 b.atbPhaseNs ++
        leInt 4 (clampInt (-2147483648) 2147483647 b.ctl.time.atbOffsetSf) ++
        leInt 8 (diffNs b.ctl.time.ptb b.ctl.time.stb) ++ leInt 4 r.ppsInPs ++ leBytes 1 (ptpCode (b.ptpPort 0).state) ++
        leBytes 1 (ptpCode (b.ptpPort 1).state) ++ zeros 2 ++
        (if r.gmIdentity = [] then clockIdentity else r.gmIdentity))) ∧
  Carries 0x0504 .timeStatus (fun _ b => b.vol.time.state.holdover = true)
    (fun c b =>
      let r := b.vol.time
      let seen := match r.ppsInAt with
        | some a => decide (b.mtb ≤ a + 2 * tickS)
        | none => false
      answer c b (leBytes 1 (stbCode r.state) ++ leBytes 1 r.refInUse ++
        leBytes 1 (b2n b.atbAligned + 2 * b2n r.pending.isSome + 4 * b2n r.syncRef + 8 * b2n seen +
          16 * b2n (b.leapPending b.stbSecond)) ++
        leBytes 1 (b.leap.value b.stbSecond) ++ leBytes 4 b.estNs ++
        leBytes 4 (sat 32 ((b.mtb - r.enteredAt) / tickS)) ++ leInt 4 b.atbPhaseNs ++
        leInt 4 (clampInt (-2147483648) 2147483647 b.ctl.time.atbOffsetSf) ++
        leInt 8 (diffNs b.ctl.time.ptb b.ctl.time.stb) ++ leInt 4 r.ppsInPs ++ leBytes 1 (ptpCode (b.ptpPort 0).state) ++
        leBytes 1 (ptpCode (b.ptpPort 1).state) ++ zeros 2 ++
        (if r.gmIdentity = [] then clockIdentity else r.gmIdentity))) ∧
  Carries 0x0505 .timeRead (fun _ _ => True)
    (fun c b => answer c b
      (timeBytes b.ctl.time.stb ++ timeBytes b.ctl.time.ptb ++ timeBytes b.ctl.time.atb ++ leBytes 8 b.mtbNs))

/-- R195, R197, R198, R200 to R204, R207, R210: what happens to site time. It rests on the model's choices of logs 6, 7 and 197. -/
def Obligations.SiteTimeEvents : Prop :=
  (∀ s : State, s.vol.time.state = .locked ∨ s.vol.time.state = .fenLocked ∨ s.vol.time.state = .returning →
    ∃ t, exec .stbDisciplineLoss s = .next t ∧ t.vol.time.state = .holdoverA ∧ t.vol.time.entryErr = s.estNow ∧
      t.vol.time.pending = none ∧ t.vol.time.enteredAt = s.mtb ∧ t.ctl = s.ctl) ∧
  (∀ s : State, s.vol.time.state = .holdoverA → s.vol.time.pending = none →
    ∃ t, exec .holdoverBoundCrossing s = .next t ∧ t.vol.time.state = .holdoverB ∧ unit100Ns < t.vol.time.estErr) ∧
  (∀ s : State, s.vol.time.state = .holdoverB → s.vol.time.pending = none →
    ∃ t, exec .holdoverBoundCrossing s = .next t ∧ t.vol.time.state = .holdoverC ∧ unitUs < t.vol.time.estErr) ∧
  (∀ (e : Int) (s : State), s.vol.time.state.holdover = true ∨ s.vol.time.state = .restored → s.vol.time.pending = none →
    s.returnReady = true → s.vol.time.timingOk = true → e.natAbs < unitUs →
    ∃ t, exec (.stbQualified e) s = .next t ∧ t.vol.time.state = .returning ∧
      t.vol.time.nextSlew.getD t.vol.time.remaining = e ∧
      t.ctl = (passHold s).ctl) ∧
  (∀ (e : Int) (s : State), s.vol.time.state.holdover = true ∨ s.vol.time.state = .restored → s.vol.time.pending = none →
    s.returnReady = true → s.vol.time.timingOk = true → unitUs ≤ e.natAbs →
    ∃ t x, exec (.stbQualified e) s = .next t ∧ t.vol.time.pending = some x ∧ x.step = -e ∧
      (passHold s).ctl.time.stb.getD 0 + 3 * unitS ≤ x.second * unitS ∧ t.vol.time.state = s.vol.time.state ∧
      t.ctl = (passHold s).ctl) ∧
  (∀ s : State, s.vol.time.state = .returning → s.vol.time.nextSlew = none → ∃ t, exec .slewComplete s = .next t ∧
    t.ctl = (passTicks s.slewTicks s).ctl ∧ t.vol.time.nextSlew.getD t.vol.time.remaining = 0 ∧
    t.vol.time.estErr = (passTicks s.slewTicks s).vol.time.remaining.natAbs ∧
    (t.vol.time.state = .locked ∨ t.vol.time.state = .fenLocked)) ∧
  (∀ (x : StbStep) (s : State), s.vol.time.pending = some x → ∃ t, exec .timeStepAtB s = .next t ∧
    t.vol.time.pending = none ∧ t.vol.time.stepped = true ∧ (t.vol.time.state = .locked ∨ t.vol.time.state = .fenLocked) ∧
    t.ctl.time.stb = moved x.step (passToStb (x.second * unitS) s).ctl.time.stb) ∧
  (∀ s : State, s.pulsesRun = true → exec .ppsPulse s =
    .next (countRef (emitPulse s.nextPulse (passToStb (s.nextPulse * unitS) s)))) ∧
  (∀ (x : SideId) (s : State), s.hsw.active ≠ some x → s.syncRefOut x = none ∧ s.ppsOut x = none) ∧
  (∀ (n : Nat) (s : State), (s.pulseOf n).edge = nearestEdge (s.idealTick n) ∧ (s.pulseOf n).widthUs = s.ctl.timeCfg.ppsWidth) ∧
  (∀ (k n : Nat) (x : Rat), 0 ≤ x → nearestEdge x = n → |(n : Rat) * 16 / 5 - x| ≤ |(k : Rat) * 16 / 5 - x|) ∧
  (∀ s : State, s.pulsesRun = true → s.ctl.timeCfg.info = true →
    let n := max s.nextPulse (firstPulse (s.ctl.time.stb.getD 0))
    let n := if s.vol.time.pulses.any fun p => p.second == n then n + 1 else n
    let u := passToStb (n * unitS - 9 * unitS / 10) s
    exec .ppsInfoSend s = .next (ppsInfo (u.pulseOf n) (u.modTime fun r => { r with pulses := r.pulses ++ [u.pulseOf n] }))) ∧
  (∀ (a : Nat) (s : State), s.ctl.time.atb = some a → s.ctl.time.stb.isSome = true → s.ctl.time.atbOffsetSf ≠ 0 →
    s.ctl.conns = [] → ∃ t, exec .atbStepAtHyperframe s = .next t ∧ t.ctl.time.atb = t.ctl.time.stb ∧
      t.ctl.time.atbOffsetSf = 0 ∧ t.ctl.conns = [] ∧ t.vol.gnss = s.vol.gnss ∧ t.hsw = s.hsw) ∧
  (∀ (g a n k : Nat) (s : State), s.ctl.timeCfg.leapHost = none →
    (s.vol.time.decoded = none ∨ s.vol.time.decodedBy ≠ 0 ∨ g = 0) →
    exec (.utcParametersDecoded g a n k) s = .next { s with
      vol.time.decoded := some ⟨a % 256, n % 256, k⟩, vol.time.decodedBy := g }) ∧
  (∀ (g a n k : Nat) (s : State), s.ctl.timeCfg.leapHost = none → s.vol.time.decoded ≠ none → s.vol.time.decodedBy = 0 →
    g ≠ 0 → exec (.utcParametersDecoded g a n k) s = .next s) ∧
  (∀ s : State, s.leap.changeAt ≠ 0 → s.ctl.time.stb.isSome = true → ∃ t, exec .leapTableChange s = .next t ∧
    t.leap = ⟨s.leap.next, s.leap.next, 0⟩) ∧
  (∀ s : State, exec .syncRefInRestored s = .next { s with vol.time.syncRef := true }) ∧
  (∀ s : State, s.vol.time.state.holdover = true → s.vol.time.refInUse = 1 → ∃ t, exec .syncRefInLost s = .next t ∧
    t.vol.time.syncRef = false ∧ t.vol.time.refInUse = 0 ∧ t.vol.time.entryErr = s.estNow) ∧
  (∀ s : State, s.vol.time.state.holdover = false →
    exec .syncRefInLost s = .next { s with vol.time.syncRef := false }) ∧
  (∀ (v : Nat) (s : State), s.ctl.time.stb = some v → s.ctl.timeCfg.ppsIn = true → ∃ t, exec .ppsInEdge s = .next t ∧
    t.vol.time.ppsInAt = some s.mtb ∧ t.ctl = s.ctl)

/-- R212 to R217: PTP_EVENT_MESSAGE_RX, PTP_EVENT_MESSAGE_TX, PTP_TRANSPARENT_PASS and the Announce rows. It rests on the model's choices
of logs 39, 47, 159 and 198. -/
def Obligations.PtpEvents : Prop :=
  (∀ (p : Nat) (b : List Byte) (s : State), s.ptpOn p = true → s.ptpMine b = true →
    let u := countEvents 0x0A01 none 1 (countEvents 0x0B01 none 1 s)
    (ptpType b = 0 → (s.ptpPort p).state = .slave → ptpTwoStep b = false → exec (.ptpEventMessageRx p b) s =
      .next (syncDone p (ptpStamp b) (u.eventStamp p false) (ptpCorr b + u.asymmetry p) u)) ∧
    (ptpType b = 0 → (s.ptpPort p).state = .slave → ptpTwoStep b = true → exec (.ptpEventMessageRx p b) s =
      .next (u.modPtp p fun x => { x with waitSync := some (ptpSeq b, u.eventStamp p false, ptpCorr b + u.asymmetry p) })) ∧
    (ptpType b = 1 → (s.ptpPort p).state = .master → (s.ptpSet p).delayMech = 0 → exec (.ptpEventMessageRx p b) s =
      .next (ptpSend p (u.ptpMsg p 9 0 (ptpCorr b) (ptpSeq b) (s.ptpSet p).logDelay
        (stampBytes (u.eventStamp p false) ++ ptpSource b)) u)) ∧
    (ptpType b = 2 → (s.ptpSet p).delayMech ≠ 0 → (s.ptpSet p).oneStep = 1 →
      let v := countEvents 0x0A01 none 1 u
      exec (.ptpEventMessageRx p b) s = .next (ptpSend p (v.ptpMsg p 3 0
        (ptpCorr b + ((u.eventStamp p true : Int) - u.eventStamp p false)) (ptpSeq b) 0x7F (stampBytes 0 ++ ptpSource b)) v)) ∧
    ∀ n t1, ptpType b = 3 → (s.ptpSet p).delayMech ≠ 0 → (s.ptpPort p).pdelayReq = some (n, t1) → ptpSeq b = n →
      ptpRequester b = portIdentity p → ptpTwoStep b = false → exec (.ptpEventMessageRx p b) s =
        .next (u.modPtp p fun x => { x with
          peerDelay := ((u.eventStamp p false : Int) - t1 - (ptpCorr b + u.asymmetry p)) / 2, pdelayReq := none })) ∧
  (∀ (p : Nat) (s : State), s.ptpOn p = true →
    let w := countEvents 0x0A01 none 1 (announceDue p s)
    let x := w.ptpPort p
    ((s.ptpPort p).state = .master → (s.ptpSet p).oneStep = 1 →
      let v := w.modPtp p fun x => { x with seqSync := (x.seqSync + 1) % 65536 }
      exec (.ptpEventMessageTx p 0) s = .next (ptpSend p (v.ptpMsg p 0 0 0 x.seqSync (s.ptpSet p).logSync
        (stampBytes (w.eventStamp p true))) v)) ∧
    ((s.ptpPort p).state = .master → (s.ptpSet p).oneStep ≠ 1 → exec (.ptpEventMessageTx p 0) s = .next (txSync p w)) ∧
    ((s.ptpSet p).delayMech = 0 → (s.ptpPort p).state = .slave →
      let v := w.modPtp p fun x =>
        { x with seqDelay := (x.seqDelay + 1) % 65536, delayReq := some (x.seqDelay, w.eventStamp p true) }
      exec (.ptpEventMessageTx p 1) s =
        .next (ptpSend p (w.ptpMsg p 1 0 (-w.asymmetry p) x.seqDelay 0x7F (stampBytes 0)) v)) ∧
    ((s.ptpSet p).delayMech = 1 → exec (.ptpEventMessageTx p 2) s = .next (txRequest p 2 w))) ∧
  (∀ (p : Nat) (s : State), s.ptpOn p = false → s.peerOn p = true → (s.ptpSet p).delayMech = 1 →
    exec (.ptpEventMessageTx p 2) s = .next (txRequest p 2 (countEvents 0x0A01 none 1 s))) ∧
  (∀ (p : Nat) (s : State), s.ptpOn p = true → (s.ptpPort p).state = .master → (s.ptpPort p).announced = none →
    announceDue p s = ptpSend p (s.announce p) (s.modPtp p fun x =>
      { x with announced := some s.mtb, seqAnn := (x.seqAnn + 1) % 65536 })) ∧
  (∀ (p r sum : Nat) (b : List Byte) (s : State), p < 2 → (s.ptpSet p).enable = true → ptpType b ≤ 3 →
    s.ctl.timeCfg.ptp.mode = 3 ∨ s.ctl.timeCfg.ptp.mode = 4 →
    let v := countEvents 0x0B01 none 1 s
    let d : Int := r + (if s.ctl.timeCfg.ptp.mode = 4 then (s.ptpPort p).peerDelay else 0) +
      (if ptpType b = 0 ∨ ptpType b = 3 then s.asymmetry p else -s.asymmetry (1 - p))
    exec (.ptpTransparentPass p r sum b) s = .next (countEvents 0x0A01 none 2 (ptpPass (1 - p)
      (udpSum s.ctl.timeCfg.ptp.transport sum b (addCorrection d b)) (addCorrection d b) v))) ∧
  (∀ (p r sum : Nat) (b : List Byte) (s : State), p < 2 → (s.ptpSet p).enable = true → 3 < ptpType b →
    s.ctl.timeCfg.ptp.mode = 3 ∨ s.ctl.timeCfg.ptp.mode = 4 →
    exec (.ptpTransparentPass p r sum b) s = .next (ptpPass (1 - p) sum b (countEvents 0x0B01 none 1 s))) ∧
  (∀ (p : Nat) (b : List Byte) (s : State), s.ptpOn p = true → s.ptpMine b = true → ptpType b = 11 → 64 ≤ b.length →
    slice b 53 8 ≠ clockIdentity → (announceSet b).2 < 255 →
    let u := countEvents 0x0B01 none 1 s
    let v := u.modPtp p fun x =>
      { x with foreign := (ptpSource b, s.mtb) :: (x.foreign.filter fun f => f.1 != ptpSource b).take 4 }
    let again := (s.ptpPort p).foreign.any fun f =>
      f.1 == ptpSource b && decide (s.mtb ≤ f.2 + 4 * tickS * 2 ^ (s.ptpSet p).logAnn)
    exec (.ptpAnnounceReceived p b) s = .next (if !again then v else runBmca (v.modPtp p fun x =>
      { x with bestGm := match x.bestGm with
          | some c => if clockLt (announceSet b) c ∨ c.1.getLast? = (announceSet b).1.getLast? then some (announceSet b)
              else some c
          | none => some (announceSet b) }))) ∧
  (∀ (p n t2 : Nat) (c : Int) (b : List Byte) (s : State), s.ptpOn p = true → s.ptpMine b = true → ptpType b = 8 →
    (s.ptpPort p).waitSync = some (n, t2, c) → ptpSeq b = n →
    exec (.ptpAnnounceReceived p b) s =
      .next (syncDone p (ptpStamp b) t2 (c + ptpCorr b) (countEvents 0x0B01 none 1 s))) ∧
  (∀ (p : Nat) (s : State), s.ptpOn p = true → exec (.ptpAnnounceReceiptTimeout p) s =
    .next (runBmca (s.modPtp p fun x => { x with bestGm := none, foreign := [], state := .preMaster })))

/-- R99, R219, R225, R228, R231, R233, R234, R237 and the opcode pages of chapter 09. It rests on the model's choices of logs 20, 39, 160
and 164. -/
def Obligations.RadioOpcodes : Prop :=
  Carries 0x0601 .radioLinkConfig (fun c b => (b.linkRun (fld c.packet.params 0 1)).cmd.isSome = true)
    (fun c b => b.modLink (fld c.packet.params 0 1) fun l => { l with waiting := l.waiting ++ [c] }) ∧
  Carries 0x0601 .radioLinkConfig
    (fun c b => (b.linkRun (fld c.packet.params 0 1)).cmd = none ∧ linkError c.packet.params b = none ∧
      (linkOf c.packet.params).enable = false ∧ (b.link (fld c.packet.params 0 1)).enable = false)
    (fun c b =>
      let k := fld c.packet.params 0 1
      let t := setResetN b.actId k false ((setLink k { b.link k with enable := false } b).modLink k fun l =>
        { l with state := .down, restarts := 0 })
      answer c t (leBytes 4 (t.linkRun k).latency)) ∧
  Carries 0x0601 .radioLinkConfig
    (fun c b => (b.linkRun (fld c.packet.params 0 1)).cmd = none ∧ linkError c.packet.params b = none ∧
      (linkOf c.packet.params).enable = true ∧
      (startLink (fld c.packet.params 0 1) (b.modLink (fld c.packet.params 0 1) fun l => { l with cmd := some c })).1 = none)
    (fun c b =>
      (startLink (fld c.packet.params 0 1) (b.modLink (fld c.packet.params 0 1) fun l => { l with cmd := some c })).2) ∧
  (∀ r : Nat, Carries 0x0601 .radioLinkConfig
    (fun c b => (b.linkRun (fld c.packet.params 0 1)).cmd = none ∧ linkError c.packet.params b = none ∧
      (linkOf c.packet.params).enable = true ∧
      (startLink (fld c.packet.params 0 1) (b.modLink (fld c.packet.params 0 1) fun l => { l with cmd := some c })).1 = some r)
    (fun c b => refusedStart c (fld c.packet.params 0 1) r
      (startLink (fld c.packet.params 0 1) (b.modLink (fld c.packet.params 0 1) fun l => { l with cmd := some c })).2)) ∧
  Carries 0x0602 .radioHeadProfile
    (fun c b => (b.link (fld c.packet.params 0 1)).enable = false ∧
      ∀ k, k < fld c.packet.params 2 2 → badStep (stepOf c.packet.params k) (k + 1 == fld c.packet.params 2 2) = false)
    (fun c b =>
      let ps := c.packet.params
      let hs := b.cfg.radio.heads.modify (fld ps 0 1) fun q => q.set (fld ps 1 1) ((List.range (fld ps 2 2)).map (stepOf ps))
      accept c b { b with ctl.cfg.radio :=
        { b.cfg.radio with heads := hs, headsVer := 0, headsReq := (0, 0xFFFFFFFF) } } []) ∧
  Carries 0x0603 .radioLaneConfig
    (fun c b => (laneOf c.packet.params).cls ≠ 0 ∧ (laneOf c.packet.params).preamble = 0 ∧
      b.laneCarried (fld c.packet.params 0 1) = true ∧ (laneOf c.packet.params).enable = false ∧
      (b.lane (fld c.packet.params 0 1)).enable = true)
    (fun c b => accept c b (disableLane (fld c.packet.params 0 1) b) (zeros 4)) ∧
  Carries 0x0603 .radioLaneConfig
    (fun c b => (laneOf c.packet.params).cls ≠ 0 ∧ (laneOf c.packet.params).preamble = 0 ∧
      b.laneCarried (fld c.packet.params 0 1) = true ∧ (laneOf c.packet.params).enable = true ∧
      (b.lane (fld c.packet.params 0 1)).enable = false ∧
      laneError (fld c.packet.params 0 1) (laneOf c.packet.params) b = none ∧
      (tuneHead (fld c.packet.params 0 1) (setLane (fld c.packet.params 0 1)
        { b.lane (fld c.packet.params 0 1) with tune := (laneOf c.packet.params).tune } b)).1 = true)
    (fun c b =>
      let l := fld c.packet.params 0 1
      let r := tuneHead l (setLane l { b.lane l with tune := (laneOf c.packet.params).tune } b)
      accept c b (enableLane l (laneOf c.packet.params) r.2) (leBytes 1 1 ++ zeros 3)) ∧
  Carries 0x0604 .radioRegionLoad
    (fun c b => fld c.packet.params 0 1 = 1 ∧ (subBandOf c.packet.params 0).lo < (subBandOf c.packet.params 0).hi ∧
      ((subBandOf c.packet.params 0).duty && (subBandOf c.packet.params 0).dwell) = false ∧
      ∀ l, l < 8 → b.laneOn l = true → (b.lane l).region ≠ 3)
    (fun c b => accept c b { b with ctl.cfg.radio := { b.cfg.radio with custom := [subBandOf c.packet.params 0] } } []) ∧
  Carries 0x0605 .radioTxCal (fun c _ => fld c.packet.params 2 1 = 0)
    (fun c b =>
      let ps := c.packet.params
      let o : LaneOffsets := ⟨fld ps 4 2, fld ps 8 4, fld ps 12 4⟩
      accept c b (setOffs (fld ps 1 1) (fld ps 0 1) o b) (leBytes 4 o.tx ++ leBytes 4 o.rx ++ leBytes 4 0)) ∧
  Carries 0x0605 .radioTxCal
    (fun c b => fld c.packet.params 2 1 ≠ 0 ∧ fld c.packet.params 1 1 = sideNo b.actId ∧
      ((b.cfg.radio.heads.getD (fld c.packet.params 0 1 / 4) []).getD 2 []).isEmpty = false ∧
      ((b.cfg.radio.heads.getD (fld c.packet.params 0 1 / 4) []).getD 3 []).isEmpty = false ∧
      (b.ctl.conns.filter fun e => e.2.par.lane == fld c.packet.params 0 1) = [] ∧
      (loopback (fld c.packet.params 0 1) b).1 = true)
    (fun c b =>
      let ps := c.packet.params
      let u := (loopback (fld ps 0 1) b).2
      let d := Config.sense 5 u.fresh
      let o := measuredOffs { u with fresh := u.fresh + 1 } (fld ps 0 1) (fld ps 4 2) d
      accept c b (setOffs (fld ps 1 1) (fld ps 0 1) o { u with fresh := u.fresh + 1 }) (calReply o d)) ∧
  Carries 0x0606 .radioBudget (fun _ _ => True)
    (fun c b =>
      let l := fld c.packet.params 0 1
      let u := refreshLane l b
      let bs := if u.laneOn l then (u.bandsUsed (u.lane l)).filter fun x => x.duty || x.dwell else []
      answer c u (leBytes 1 bs.length ++ zeros 3 ++ bs.flatMap (budgetBytes u l))) ∧
  Carries 0x0607 .radioLaneStatus (fun _ _ => True)
    (fun c b =>
      let l := fld c.packet.params 0 1
      let u := countCrc (l / 4) b
      let chan := fun ch =>
        leInt 2 (if u.laneUp l then tgetD (u.laneRun l).noise ch (-32768) else -32768) ++
          leBytes 1 (match u.dfs l ch with
            | some d => dfsCode d.state
            | none => 0) ++ zeros 1
      answer c u (leBytes 1 (u.laneCode l) ++ leBytes 1 (u.lane l).channels.length ++ zeros 2 ++
        leBytes 4 (u.linkRun (l / 4)).crcErrs ++ leBytes 4 (u.laneRun l).phyErrs ++ leBytes 4 (u.laneRun l).lbtDefs ++
        leBytes 4 (u.linkRun (l / 4)).latency ++ (List.range (u.lane l).channels.length).flatMap chan))

/-- R223, R226, R228, R229: what happens to links and heads. It rests on the model's choices of log 164. -/
def Obligations.RadioLinkEvents : Prop :=
  (∀ (k n : Nat) (s : State), (s.linkRun k).state = .dataPhase →
    exec (.linkDataPhaseLost k n) s = .next (radioEvent (0xF0 + k) 6 0xFF 0 (linkDown k (s.modLink k fun l =>
      { l with state := .lost, crcErrs := sat 32 (l.crcErrs + n) })))) ∧
  (∀ (k : Nat) (s : State), (s.linkRun k).state = .lost →
    exec (.linkRetrain k) s = .next (s.modLink k fun l => { l with state := .retraining })) ∧
  (∀ (k : Nat) (alarm : Bool) (s : State), (s.link k).enable = true → (s.linkRun k).state = .dataPhase →
    let u := s.modLink k fun l => if alarm then { l with alarmN := false } else { l with lock := false }
    exec (.headAlarmOrLockLoss k alarm) s = .next (radioEvent (0xF0 + k) 8 0xFF 0 (linkDown k (u.modLink k fun l =>
      { l with state := .headFault, restarts := 0 })))) ∧
  (∀ (k : Nat) (s : State), (s.linkRun k).state = .headFault → exec (.headRestart k) s = .next (restartLink k s)) ∧
  (∀ (k : Nat) (s : State), (s.linkRun k).state = .starting → exec (.headLockCheckTimeout k) s = .next (startFailed k 2 s)) ∧
  (∀ (k : Nat) (late : Bool) (s : State), (s.linkRun k).state = .retraining →
    exec (.linkRestored k late) s = .next (radioEvent (0xF0 + k) 7 0xFF 0 (s.modLink k fun l =>
      { l with state := .dataPhase, latency := s.latencyOf k late, restarts := 0, lock := true, cmd := none }))) ∧
  (∀ (k : Nat) (s : State), s.latencyOf k true = (s.latencyOf k false + 1) % 2 ^ 32) ∧
  (∀ (k : Nat) (late : Bool) (c : HostCmd) (s u : State), (s.linkRun k).state = .starting → tuneLanes k s = (true, u) →
    (u.linkRun k).cmd = some c →
    let t := setLink k (linkOf c.packet.params) (linkUp k late u)
    let w := accept c u t (leBytes 4 (t.linkRun k).latency)
    exec (.linkRestored k late) s = .next (linkCommands k (w.linkRun k).waiting w))

/-- R232, R234, R235, R238 to R240: what happens on a lane. It rests on the model's choices of logs 6, 7 and 14. -/
def Obligations.RadioLaneEvents : Prop :=
  (∀ (l ch rate ty n : Nat) (d : List Byte) (s : State),
    let us := airTime (s.lane l) rate (psduLen ty false d.length)
    ((s.lane l).ofdm = true → us ≤ 100 ∧ rate ≤ 15) → exec (.frameTransmit l ch rate ty n d) s =
      .next (transmit us
        { lane := l, chan := ch, asn := s.asn, slot := 0, type := ty, node := n, ctr := siteCtr s.asn 0, mesh := none,
          body := d, edition := s.txEdition ty n, wave := ppduOf (s.lane l) rate } s).2) ∧
  (∀ (l ch rate ty n : Nat) (d : List Byte) (s : State), (s.lane l).ofdm = true →
    100 < airTime (s.lane l) rate (psduLen ty false d.length) ∨ 15 < rate →
    exec (.frameTransmit l ch rate ty n d) s = .next s) ∧
  (∀ (us : Nat) (f : AirFrame) (s t : State), s.laneUp f.lane = true → f.chan < (s.lane f.lane).channels.length →
    s.hsw.warned = false → s.busyNow f.lane f.chan = false → s.dfsAllows f.lane f.chan us (f.type == 8) = true →
    charge f.lane f.chan us (f.type == 8) s = (true, t) →
    let g := (flood f t).1
    let u := (flood f t).2
    transmit us f s = (.sent, noteSent f.lane f.chan us { u with out.air := u.out.air ++
      [{ g with lead := (u.offs (sideNo u.actId) g.lane).tx, ends := u.clock + us * 1600, psdu := u.psdu g }] })) ∧
  (∀ (f : AirFrame) (x : MeshExt) (s : State), f.mesh = some x →
    (flood f s).1 = { f with mesh := some ⟨x.ttl, s.cfg.mac.ctlNode, (s.vol.mac.mseq + 1) % 65536⟩ } ∧
    (flood f s).2 = { s with vol.mac.mseq := (s.vol.mac.mseq + 1) % 65536 }) ∧
  (∀ (l lo ch : Nat) (x : Budget) (s : State), s.budget l lo ch = some x →
    exec (.budgetBinBoundary l lo ch) s = .next (refresh l lo ch (passTicks (x.binEnd - s.clock) s))) ∧
  (∀ (l : Nat) (e : List (Nat × Int)) (s : State), s.laneUp l = true → (s.lane l).ofdm = true →
    (∀ x ∈ e, ∀ b ∈ s.chanBand l x.1, b.lbt = true →
      x.2 ≤ lbtLevel (s.lane l) ((s.lane l).channels.getD x.1 0)) →
    exec (.lbtMeasurement l e) s = .next (s.modLaneRun l fun r => { r with busy := [], busyAsn := s.asn + 1 })) ∧
  (∀ (l ch : Nat) (v : Int) (b : SubBand) (s : State), s.laneUp l = true → (s.lane l).ofdm = true →
    s.chanBand l ch = some b → b.lbt = true → lbtLevel (s.lane l) ((s.lane l).channels.getD ch 0) < v →
    exec (.lbtMeasurement l [(ch, v)]) s = .next (countEvents 0x0702 (some l) 1 (s.modLaneRun l fun r =>
      { r with busy := [ch], busyAsn := s.asn + 1, lbtDefs := satInc 32 r.lbtDefs }))) ∧
  (∀ (l ch : Nat) (d : DfsChan) (s : State), s.dfs l ch = some d → d.state ≠ .unavailable → d.state ≠ .none →
    let u := s.modDfs l ch fun d => { d with state := .unavailable, stopsOk := d.state != .cac, stopUs := 0 }
    exec (.radarDetected l ch) s = .next (updateMaps l (radioEvent l 3 ch (((u.chanBand l ch).map (·.lo)).getD 0) u))) ∧
  (∀ (l ch : Nat) (s : State),
    exec (.dfsStopWindowEnd l ch) s = .next (s.modDfs l ch fun d => { d with stopsOk := false })) ∧
  (∀ (l ch : Nat) (d : DfsChan) (s : State), s.dfs l ch = some d → d.state = .cac →
    let u := s.modDfs l ch fun d => { d with state := .available }
    exec (.cacComplete l ch) s = .next (updateMaps l (radioEvent l 4 ch (((u.chanBand l ch).map (·.lo)).getD 0) u))) ∧
  (∀ (l ch : Nat) (d : DfsChan) (s : State), s.dfs l ch = some d → d.state = .unavailable →
    let u := s.modDfs l ch fun d => { d with state := .cac, stopsOk := false, stopUs := 0 }
    exec (.nonOccupancyEnd l ch) s = .next (updateMaps l (radioEvent l 5 ch (((u.chanBand l ch).map (·.lo)).getD 0) u))) ∧
  (∀ (l : Nat) (e : List (Nat × Int)) (s : State), exec (.noiseFloorAverage l e) s =
    .next (s.modLaneRun l fun r => { r with noise := e.foldl (fun t x => tput t x.1 x.2) [] }))

/-- R248, R253, R256, R258, R259, R262, R264, R265, R271 and the opcode pages of chapter 10. -/
def Obligations.MacOpcodes : Prop :=
  Carries 0x0701 .macConfig
    (fun c b => fld c.packet.params 4 2 ≤ fld c.packet.params 6 2 ∧ fld c.packet.params 6 2 ≠ 0xFFFF ∧
      (fld c.packet.params 0 2 < fld c.packet.params 4 2 ∨ fld c.packet.params 6 2 < fld c.packet.params 0 2) ∧
      b.ctl.conns = [])
    (fun c b =>
      let ps := c.packet.params
      let m := { b.cfg.mac with
        ctlNode := fld ps 0 2, editions := fld ps 2 1, poolLo := fld ps 4 2, poolHi := fld ps 6 2, defInterval := fld ps 8 2,
        defSup := fld ps 10 2, meshTtl := fld ps 12 1 }
      accept c b { b with ctl.cfg.mac := m } []) ∧
  Carries 0x0701 .macConfig
    (fun c b => fld c.packet.params 4 2 ≤ fld c.packet.params 6 2 ∧ fld c.packet.params 6 2 ≠ 0xFFFF ∧
      fld c.packet.params 0 2 ≠ b.cfg.mac.ctlNode ∧ b.ctl.conns ≠ [])
    (fun c b => refuse c b erState b.ctl.conns.length) ∧
  Carries 0x0702 .macLaneMac
    (fun c b =>
      let ps := c.packet.params
      let l := fld ps 0 1
      (if (b.lane l).ofdm then 4 ≤ fld ps 3 1 ∧ fld ps 3 1 ≤ 7 ∧ fld ps 5 1 = 0
        else fld ps 3 1 = 0 ∧ 1 ≤ fld ps 5 1 ∧ fld ps 5 1 ≤ 8) ∧
      b.laneOn l = true ∧ fld ps 4 1 < (b.lane l).channels.length ∧
      (fld ps 5 1 ≠ (b.laneMac l).span → (b.ctl.conns.filter fun e => e.2.par.lane == l) = []))
    (fun c b =>
      let ps := c.packet.params
      let x : LaneMac := ⟨fld ps 1 1 == 1, fld ps 2 1, fld ps 3 1, fld ps 4 1, fld ps 5 1⟩
      accept c b { b with ctl.cfg.mac.lanes := b.cfg.mac.lanes.set (fld ps 0 1) (some x) } []) ∧
  Carries 0x0703 .macProvision (fun c b => fld c.packet.params 0 1 = 0 ∧ b.connOfMember (fld c.packet.params 4 8) = none)
    (fun c b =>
      let t := tdel b.cfg.mac.provisions (fld c.packet.params 4 8)
      accept c b { b with ctl.cfg.mac.provisions := t } (leBytes 2 t.length)) ∧
  Carries 0x0703 .macProvision
    (fun c b => fld c.packet.params 0 1 ≠ 0 ∧ b.cfg.mac.provisions.length < 4096 ∧ fld c.packet.params 2 2 = 0 ∧
      b.connOfMember (fld c.packet.params 4 8) = none)
    (fun c b =>
      let ps := c.packet.params
      let p : Provision :=
        { maxEdition := fld ps 1 1, addr := fld ps 2 2, squad := fld ps 12 1, lanes := fld ps 13 1, maxLatency := fld ps 14 2,
          flags := fld ps 16 1, pubkey := slice ps 20 49 }
      let t := tput b.cfg.mac.provisions (fld ps 4 8) p
      accept c b { b with ctl.cfg.mac.provisions := t } (leBytes 2 t.length)) ∧
  (∀ (k : Conn) (u : ConnUpdate), Carries 0x0704 .macConnParam
    (fun c b =>
      let ps := c.packet.params
      connRangeError ps b = none ∧ b.conn (fld ps 0 2) = some k ∧
        connParamError (fld ps 0 2) k (connParamsOf ps k) (fld ps 12 8) b = none ∧
        placeUpdate (fld ps 0 2) k (connParamsOf ps k) (fld ps 12 8) b = some u)
    (fun c b => accept c b (startUpdate (fld c.packet.params 0 2) k u b) (leBytes 2 u.instant ++ leBytes 4 u.newAsn))) ∧
  Carries 0x0704 .macConnParam
    (fun c b => connRangeError c.packet.params b = none ∧ b.conn (fld c.packet.params 0 2) = none)
    (fun c b => refuse c b erState 0) ∧
  Carries 0x0705 .macDrop (fun c b => (b.conn (fld c.packet.params 0 2)).isSome = true)
    (fun c b => accept c b (disconnect (fld c.packet.params 0 2) 1 b).2 []) ∧
  Carries 0x0705 .macDrop (fun c b => b.conn (fld c.packet.params 0 2) = none) (fun c b => refuse c b erState 0) ∧
  Carries 0x0706 .macMemberRead (fun c b => b.conn (fld c.packet.params 0 2) = none) (fun c b => answer c b (zeros 56)) ∧
  (∀ k : Conn, Carries 0x0706 .macMemberRead (fun c b => b.conn (fld c.packet.params 0 2) = some k)
    (fun c b =>
      let r := b.connRun (fld c.packet.params 0 2)
      let p := k.par
      answer c b (leBytes 8 k.memberId ++ leBytes 1 (if k.update.isSome then 2 else 1) ++ leBytes 1 k.edition ++
        leBytes 1 p.lane ++ leBytes 1 p.squad ++ leBytes 2 p.interval ++ leBytes 2 p.latency ++ leBytes 2 p.sup ++
        leBytes 2 (eventAt k b.asn) ++ leInt 2 r.rssi ++ leBytes 1 k.memTol ++
        leBytes 1 (b2n p.relay + 2 * b2n p.mesh + 4 * b2n k.downSync) ++ leBytes 2 k.seqDn ++ leBytes 2 k.nextUp ++
        leBytes 4 k.ctrDn ++ leBytes 4 k.ctrUp ++ leBytes 4 r.repeats ++ leBytes 4 r.dups ++ leBytes 4 r.skipped ++
        leBytes 8 (b.effective k)))) ∧
  Carries 0x0707 .macStatus (fun _ _ => True)
    (fun c b =>
      let l := fld c.packet.params 0 1
      let m := b.macLane l
      let on := b.ctl.conns.filter fun e => e.2.par.lane == l
      answer c b (([on.length, (on.filter fun e => e.2.par.mesh).length, m.admitted, m.refused, m.beacons, m.beaconsSkipped,
        m.fcs, m.mic, m.stale, m.order, m.dups, m.protocol, m.skips, m.seenDisc] : List Nat).flatMap fun n => leBytes 4 n)) ∧
  (∀ (k : Conn) (rate seq : Nat) (u : State), Carries 0x0708 .macSend
    (fun c b =>
      let ps := c.packet.params
      b.conn (fld ps 0 2) = some k ∧ b.poolGrants k.flow (4 + fld ps 2 2) = true ∧
        fitRate (b.lane k.par.lane) (b.slotRange k.par.lane).2.2 (b.rateInForce (fld ps 0 2) k)
          (psduLen 5 k.par.mesh (4 + fld ps 2 2)) = some rate ∧
        queueFrame (fld ps 0 2) 5 ((ps.drop 4).take (fld ps 2 2)) b = some (seq, u))
    (fun c b => accept c b u (leBytes 2 seq)))

/-- R241, R250, R253 to R257, R262, R265: SLOT_BOUNDARY, CONNECTION_INSTANT and the join rows. It rests on the model's choices of logs 7,
17, 18 and 21. -/
def Obligations.MacSlotsAndJoins : Prop :=
  (∀ (l asn k a : Nat) (s : State), s.ctl.time.atb = some a → a ≤ slotAtb true asn k → s.laneUp l = true →
    (s.lane l).ofdm = true →
    exec (.slotBoundary l asn k) s = .next (ofdmSlot l asn k
      ((s.ctl.conns.filter fun e => e.2.par.lane == l).foldl (fun s e => applyInstants e.1 asn s)
        (passToAtb (slotAtb true asn k) s)))) ∧
  (∀ (l asn k a : Nat) (s : State), s.ctl.time.atb = some a → a ≤ slotAtb false asn k → s.laneUp l = true →
    (s.lane l).ofdm = false → asn % 50 = 0 →
    exec (.slotBoundary l asn k) s = .next (subSlot l asn k
      ((s.ctl.conns.filter fun e => e.2.par.lane == l).foldl (fun s e => applyInstants e.1 asn s)
        (passToAtb (slotAtb false asn k) s)))) ∧
  (∀ (n : Nat) (c : Conn) (u : ConnUpdate) (s : State), s.conn n = some c → c.update = some u →
    exec (.connectionInstant n) s =
      .next (applyInstants n (max u.newAsn s.asn) (passToAtb (atbOfAsn u.newAsn) s))) ∧
  (∀ (l asn m ed tol req : Nat) (d : List Byte) (j : JoinRun) (s : State),
    let v := stampRx l s
    v.joinsOn l asn = true → joinCheck l asn m ed req v = (0, some j) →
    ∃ t j', exec (.joinReqReceived l asn m ed tol req d) s = .next t ∧
      t = { v with fresh := v.fresh + 1 }.modMacLane l (fun x => { x with join := some j' }) ∧ j'.memberId = j.memberId ∧
      j'.node = j.node ∧ j'.status = j.status ∧ j'.firstAsn = j.firstAsn ∧ j'.memTol = tol) ∧
  (∀ (l asn m ed tol req k : Nat) (d : List Byte) (s : State),
    let v := stampRx l s
    v.joinsOn l asn = true → k ≠ 0 → joinCheck l asn m ed req v = (k, none) →
    ∃ j', exec (.joinReqReceived l asn m ed tol req d) s =
        .next ((joinRefused j' l { v with fresh := v.fresh + 1 }).modMacLane l fun x => { x with join := some j' }) ∧
      j'.memberId = m ∧ j'.status = k) ∧
  (∀ (l : Nat) (sig : List Byte) (j : JoinRun) (s : State), (s.macLane l).join = some j → j.step = 2 →
    let ok := Config.ecdsaVerify (leNat (((tget s.cfg.mac.provisions j.memberId).map (·.pubkey)).getD []))
          (Config.sha384 (j.hash ++ slice j.rsp 85 96)) sig
    exec (.joinAuthReceived l sig) s =
      .next (if ok then
          if s.servesNow 6 j.flow then joinDone l j (ranItem 6 j.flow j.node s)
          else enqueue { newItem 6 j.flow j.node with work := some (.joinAuthReceived l sig) } s
        else (joinRefused { j with status := 8, step := 3 } l s).modMacLane l fun x =>
          { x with join := some { j with status := 8, step := 3 } })) ∧
  (∀ (l : Nat) (j : JoinRun) (s : State), (s.macLane l).join = some j → j.step = 2 →
    exec (.joinAuthMissing l) s = .next (s.modMacLane l fun m => { m with join := none }))

/-- R245, R246, R249, R265 to R267, R270, R274, R454: FRAME_RECEIVED, DATA_FRAME_RECEIVED and the rest of the link MAC. It rests on the
model's choices of logs 21, 83 and 178. -/
def Obligations.MacFramesAndKeys : Prop :=
  (∀ (l : Nat) (t e w f m : Bool) (r : Int) (d : List Byte) (s : State), s.laneUp l = true →
    (stampRx l s).frameHeard l d = false → exec (.frameReceived l t e w f m r d) s = .next (stampRx l s)) ∧
  (∀ (l n : Nat) (c : Conn) (d : List Byte) (s : State),
    (fld d 0 1 / 16 ≠ 5 ∨ (fld d 0 1).testBit 1 = true → s.frameHeard l d = true) ∧
    (fld d 0 1 / 16 = 5 → (fld d 0 1).testBit 1 = false → beNat (slice d 2 2) = n → s.conn n = some c →
      s.frameHeard l d = s.heardInWindow l c)) ∧
  (∀ (l : Nat) (t e w f m : Bool) (r : Int) (d : List Byte) (s : State), s.laneUp l = true →
    let v := stampRx l s
    v.frameHeard l d = true → s.phyError l t e w = true →
    exec (.frameReceived l t e w f m r d) s = .next (v.modLaneRun l fun x => { x with phyErrs := satInc 32 x.phyErrs })) ∧
  (∀ (l : Nat) (t e w m : Bool) (r : Int) (d : List Byte) (s : State), s.laneUp l = true →
    let v := stampRx l s
    v.frameHeard l d = true → s.phyError l t e w = false →
    exec (.frameReceived l t e w false m r d) s = .next (v.modMacLane l fun x => { x with fcs := satInc 32 x.fcs })) ∧
  (∀ (l : Nat) (t e w m : Bool) (r : Int) (d : List Byte) (s : State), s.laneUp l = true → s.phyError l t e w = false →
    let v := stampRx l s
    let type := fld d 0 1 / 16
    let tail := if type = 1 ∨ type = 2 then 0 else 12
    let ctrl := fld d 1 1
    v.frameHeard l d = true → type < 9 → s.cfg.fed.controller = some (ctrl / 2) → ctrl % 2 = 1 →
    (fld d 0 1).testBit 1 = false → (m = true ∧ v.micFits l d = true ∨ tail = 0) →
    exec (.frameReceived l t e w true m r d) s = .next (if v.editionFits l d = true then
        frameBody l type (beNat (slice d 2 2)) r ((d.drop 4).take (d.length - 4 - tail)) (beNat (slice d (d.length - 12) 4)) d v
      else v.modMacLane l fun x => { x with protocol := satInc 32 x.protocol })) ∧
  (∀ (l : Nat) (t e w m : Bool) (r : Int) (d : List Byte) (s : State), s.laneUp l = true → s.phyError l t e w = false →
    let v := stampRx l s
    let type := fld d 0 1 / 16
    let ctrl := fld d 1 1
    v.frameHeard l d = true → 3 ≤ type → type < 9 → s.cfg.fed.controller = some (ctrl / 2) → ctrl % 2 = 1 →
    (fld d 0 1).testBit 1 = false → (m = false ∨ v.micFits l d = false) →
    exec (.frameReceived l t e w true m r d) s =
      .next (countEvents 0x0603 (some l) 1 (v.modMacLane l fun m => { m with mic := satInc 32 m.mic }))) ∧
  (∀ (l : Nat) (d : List Byte) (s : State), (fld d 0 1).testBit 1 = false →
    (fld d 0 1 / 16 = 3 ∨ fld d 0 1 / 16 = 5 → (s.micFits l d = true ↔
      ∃ k, s.rxKey l (fld d 0 1 / 16) (beNat (slice d 2 2)) = some k ∧
        d.drop (d.length - 8) = mic k (beBytes 1 l ++ d.take (d.length - 8)))) ∧
    (fld d 0 1 / 16 ≠ 3 → fld d 0 1 / 16 ≠ 5 → s.micFits l d = true)) ∧
  (∀ (l : Nat) (t e w m : Bool) (r : Int) (d : List Byte) (s : State), s.laneUp l = true → s.phyError l t e w = false →
    (stampRx l s).frameHeard l d = true →
    fld d 0 1 / 16 < 9 → s.cfg.fed.controller = some (fld d 1 1 / 2) → fld d 1 1 % 2 = 1 →
    (fld d 0 1).testBit 1 = true → s.vol.mac.seen.contains (beNat (slice d 5 2), beNat (slice d 7 2)) = true →
    exec (.frameReceived l t e w true m r d) s =
      .next ((stampRx l s).modMacLane l fun m => { m with seenDisc := satInc 32 m.seenDisc })) ∧
  (∀ (l : Nat) (t e w : Bool) (r : Int) (d : List Byte) (s : State), s.laneUp l = true → s.phyError l t e w = false →
    let type := fld d 0 1 / 16
    let tail := if type = 1 ∨ type = 2 then 0 else 12
    let key := (beNat (slice d 5 2), beNat (slice d 7 2))
    type < 9 → s.cfg.fed.controller = some (fld d 1 1 / 2) → fld d 1 1 % 2 = 1 → (fld d 0 1).testBit 1 = true →
    key ∉ s.vol.mac.seen → key.1 ≠ s.cfg.mac.ctlNode → s.vol.mac.seen.length < 4096 →
    let u := stampRx l s
    u.frameHeard l d = true → u.micFits l d = true → u.editionFits l d = true →
    exec (.frameReceived l t e w true true r d) s =
      .next (frameBody l type (beNat (slice d 2 2)) r ((d.drop 9).take (d.length - 9 - tail))
        (beNat (slice d (d.length - 12) 4)) d { u with vol.mac := { u.vol.mac with seen := u.vol.mac.seen ++ [key] } })) ∧
  (∀ (l : Nat) (t e w m : Bool) (r : Int) (d : List Byte) (s : State), s.laneUp l = true → s.phyError l t e w = false →
    (stampRx l s).frameHeard l d = true →
    (9 ≤ fld d 0 1 / 16 → exec (.frameReceived l t e w true m r d) s =
      .next ((stampRx l s).modMacLane l fun x => { x with protocol := satInc 32 x.protocol })) ∧
    (fld d 0 1 / 16 < 9 → (s.cfg.fed.controller ≠ some (fld d 1 1 / 2) ∨ fld d 1 1 % 2 = 0) →
      exec (.frameReceived l t e w true m r d) s =
        .next ((stampRx l s).modMacLane l fun x => { x with foreign := satInc 32 x.foreign }))) ∧
  (∀ (l : Nat) (t e w f m : Bool) (r : Int) (d : List Byte) (s : State), s.laneUp l = false →
    exec (.frameReceived l t e w f m r d) s = .next s) ∧
  (∀ (l n ctr seq k a : Nat) (b : Bool) (r : Int) (d : List Byte) (c : Conn) (s : State), s.conn n = some c → c.par.lane = l →
    ctr ≤ c.ctrUp → exec (.dataFrameReceived l n ctr seq k a b r d) s =
      .next ((stampRx l s).modMacLane l fun m => { m with stale := satInc 32 m.stale })) ∧
  (∀ (l n ctr seq k a : Nat) (r : Int) (c : Conn) (s : State), s.conn n = some c → c.par.lane = l →
    c.ctrUp < ctr → exec (.dataFrameReceived l n ctr seq k a false r []) s =
      .next (((countEvents 0x0602 (some l) 1 ((stampRx l s).modConn n fun c => { c with ctrUp := ctr })).modConnRun n fun x =>
        { x with lastHeard := s.mtb, rssi := s.rssiOf l r, heardInEvent := true }).modConnRun n fun x =>
          { x with held := ackHeld (a % 4096) x.held })) ∧
  (∀ (l n ctr seq k a : Nat) (r : Int) (d : List Byte) (c : Conn) (s : State), s.conn n = some c → c.par.lane = l →
    c.ctrUp < ctr → d ≠ [] → k % 16 ≠ 0 →
    exec (.dataFrameReceived l n ctr seq k a false r d) s =
      .next (acceptSeq n l (seq % 4096) (k % 16) d
        (((countEvents 0x0602 (some l) 1 ((stampRx l s).modConn n fun c => { c with ctrUp := ctr })).modConnRun n fun x =>
          { x with lastHeard := s.mtb, rssi := s.rssiOf l r, heardInEvent := true }).modConnRun n fun x =>
            { x with held := ackHeld (a % 4096) x.held }))) ∧
  (∀ (l n ctr seq k a : Nat) (b : Bool) (r : Int) (d : List Byte) (c : Conn) (s : State), s.conn n = some c → c.par.lane = l →
    c.ctrUp < ctr → (d.headD 0).toNat = 5 → d ≠ [] → k % 16 = 0 →
    let w := (countEvents 0x0602 (some l) 1 ((stampRx l s).modConn n fun c => { c with ctrUp := ctr })).modConnRun n fun x =>
      { x with lastHeard := s.mtb, rssi := s.rssiOf l r, heardInEvent := true }
    w.servesNow 6 c.flow = true →
    exec (.dataFrameReceived l n ctr seq k a b r d) s = .next (endConn n (fld d 1 1) (ranItem 6 c.flow n w))) ∧
  (∀ (n : Nat) (c : Conn) (s : State), s.conn n = some c → s.servesNow 6 c.flow = true →
    exec (.supervisionTimeout n) s = .next (endConn n 2 (ranItem 6 c.flow n s))) ∧
  (∀ (n : Nat) (c : Conn) (s : State), s.conn n = some c → s.servesNow 6 c.flow = false →
    exec (.supervisionTimeout n) s =
      .next (enqueue { newItem 6 c.flow n with work := some (.supervisionTimeout n) } s)) ∧
  (∀ (o m : Nat) (s : State), exec (.seenCacheAgeOut o m) s = .next { s with
    vol.mac.seen := s.vol.mac.seen.filter (· != (o, m)) }) ∧
  (∀ (k : SiteKey) (a : Nat) (s : State), s.cfg.keys.next = some k → s.ctl.time.atb = some a →
    ∃ t, exec .siteKeySwitch s = .next t ∧ t.cfg.keys.current = some k ∧ t.cfg.keys.next = none ∧
      t.cfg.keys.former = s.cfg.keys.current ∧ t.vol = { s.vol with time := t.vol.time } ∧ t.ctl.conns = s.ctl.conns) ∧
  (∀ (s : State), ∃ t, exec .oldSiteKeyDiscard s = .next t ∧ t.cfg.keys = { s.cfg.keys with former := none } ∧
    t.vol = { s.vol with time := t.vol.time } ∧ t.ctl.conns = s.ctl.conns)

/-- R288, R289, R292 to R294, R301 and the opcode pages of chapter 11. -/
def Obligations.SluiceOpcodes : Prop :=
  Carries 0x0801 .sluiceConfig (fun _ _ => True)
    (fun c b =>
      let ps := c.packet.params
      let x : SluiceSettings :=
        { lapseMs := fld ps 0 1, envAction := fld ps 1 1, envCat := fld ps 2 1, loopCat := fld ps 3 1, discCat := fld ps 4 1,
          diagCat := fld ps 5 1, confirmMs := fld ps 6 2 }
      accept c b { b with ctl.cfg.sluice := x } []) ∧
  Carries 0x0802 .sluiceGrant
    (fun c b => fld c.packet.params 0 1 = 1 ∧ fld c.packet.params 1 1 = 0 ∧ b.ofdmLanes = [])
    (fun c b =>
      let u := b.ctl.sluice
      let g := u.grantMap - (u.grantMap &&& fld c.packet.params 4 32)
      let t : State := { b with ctl.sluice := { u with grantMap := g } }
      accept c b t (leBytes 2 t.grantedNodes.length)) ∧
  Carries 0x0802 .sluiceGrant
    (fun c b => fld c.packet.params 0 1 = 2 ∧ fld c.packet.params 1 1 = 1 ∧ fld c.packet.params 4 32 = 0 ∧ b.ofdmLanes = [])
    (fun c b =>
      let u := b.ctl.sluice
      let n := fld c.packet.params 36 2
      let w := tput u.withheld n (tgetD u.withheld n 0 ||| 1)
      let t : State := { b with ctl.sluice := { u with withheld := w } }
      accept c b t (leBytes 2 t.grantedNodes.length)) ∧
  Carries 0x0802 .sluiceGrant
    (fun c b => (fld c.packet.params 0 1 = 0 ∧ fld c.packet.params 1 1 = 0 ∨
        fld c.packet.params 0 1 = 3 ∧ fld c.packet.params 4 32 = 0) ∧ b.vol.sluice.state ≠ .running)
    (fun c b => refuse c b erState (sluiceCode b.vol.sluice.state)) ∧
  Carries 0x0802 .sluiceGrant
    (fun c b => fld c.packet.params 0 1 = 0 ∧ fld c.packet.params 1 1 = 0 ∧ b.vol.sluice.state = .running ∧
      b.ctl.mode ≠ .idle ∧ b.loopClosed = true ∧ b.stops = [] ∧ b.hsw.active.isSome = true ∧ b.hasSiteKey = true ∧
      b.ofdmLanes ≠ [] ∧ b.ctl.sluice.grantMap ||| fld c.packet.params 4 32 ≠ b.ctl.sluice.grantMap)
    (fun c b =>
      let t : State := { b with ctl.sluice := { b.ctl.sluice with grantMap := b.ctl.sluice.grantMap ||| fld c.packet.params 4 32 } }
      markEffected c { t with vol.sluice := { t.vol.sluice with
        grantCmds := t.vol.sluice.grantCmds ++ [(c, leBytes 2 t.grantedNodes.length)] } }) ∧
  Carries 0x0803 .sluiceStop
    (fun c b => fld c.packet.params 1 1 = 0 ∧ b.suppressor 5 (fld c.packet.params 0 1) = none)
    (fun c b =>
      let r := newStop 5 (fld c.packet.params 0 1) [] .here b
      accept c b r.2 (leBytes 2 r.1)) ∧
  (∀ x : Stop, Carries 0x0803 .sluiceStop
    (fun c b => fld c.packet.params 1 1 = 0 ∧ b.suppressor 5 (fld c.packet.params 0 1) = some x)
    (fun c b => answer c (record 0x0802 x.no [5#8] b) (leBytes 2 x.no))) ∧
  (∀ (n : Nat) (f : Nat → Bool) (u : SluiceCtl),
    (f n = false ∨ (tgetD u.withheld n 0).testBit 2 = false → applyGrant 3 0 [n] f u = { u with withheld := tdel u.withheld n }) ∧
    (f n = true → (tgetD u.withheld n 0).testBit 2 = true → applyGrant 3 0 [n] f u = { u with withheld := tput u.withheld n 4 })) ∧
  (∀ p : Packet, 1 ≤ fld p.params 0 1 → fld p.params 0 1 ≤ 3 → fld p.params 1 1 = 2 → fld p.params 2 2 = 0 →
    0 < fld p.params 4 2 → fld p.params 4 2 < 0xFFFF → fld p.params 6 2 ≤ fld p.params 4 2 →
    fieldsError 0x0803 p = some (erRange, 6)) ∧
  Carries 0x0803 .sluiceStop
    (fun c b => b.suppressor 5 (fld c.packet.params 0 1) = none ∧ 0 < fld c.packet.params 1 1 ∧
      (b.stops.filter fun x => !x.all).length < 37)
    (fun c b =>
      let r := newStop 5 (fld c.packet.params 0 1)
        ((List.range (fld c.packet.params 1 1)).map fun k => fld c.packet.params (4 + 2 * k) 2) .here b
      accept c b r.2 (leBytes 2 r.1)) ∧
  Carries 0x0804 .sluiceRelease
    (fun c b => (fld c.packet.params 0 1 = 1 → fld c.packet.params 2 2 = 0) ∧ b.loopClosed = false)
    (fun c b => refuse c b erState 0x200) ∧
  (∀ x : Stop, Carries 0x0804 .sluiceRelease
    (fun c b => fld c.packet.params 0 1 = 0 ∧ b.loopClosed = true ∧ b.releasable x = true ∧
      (b.stops.filter fun y => y.no == fld c.packet.params 2 2) = [x])
    (fun c b => accept c b (releaseStop x b) (leBytes 2 (releaseStop x b).stops.length))) ∧
  (∀ x : Stop, Carries 0x0804 .sluiceRelease
    (fun c b => fld c.packet.params 0 1 = 0 ∧ b.loopClosed = true ∧ b.releasable x = false ∧
      (b.stops.filter fun y => y.no == fld c.packet.params 2 2) = [x])
    (fun c b => refuse c b erState (0x10000 + x.no))) ∧
  Carries 0x0805 .sluiceStatus (fun _ _ => True)
    (fun c b =>
      let u := b.ctl.sluice
      let v := b.vol.sluice
      answer c b (leBytes 1 (loopCode v.in0) ++ leBytes 1 (loopCode v.in1) ++ leBytes 1 (sluiceCode v.state) ++
        leBytes 1 b.allCat ++ leBytes 2 u.stopSeq ++ leBytes 1 u.stops.length ++ leBytes 1 v.overflow ++
        leBytes 2 b.grantedNodes.length ++ leBytes 2 b.withheldNodes.length ++ leBytes 1 b.cfg.sluice.lapseMs ++ zeros 3 ++
        leBytes 32 u.grantMap ++ u.stops.flatMap (stopBytes b)))

/-- R57, R58, R281, R282, R288, R290, R291, R294, R296, R300: the rows of the Sluice logic. -/
def Obligations.SluiceLoopAndSlots : Prop :=
  (∀ (i : Nat) (s : State), i ≤ 1 → s.loopOn = true → s.loopIn i ≠ .opened →
    s.suppressor (2 + i) s.cfg.sluice.loopCat = none →
    ∃ t, exec (.sluInOpen i) s = .next t ∧ t.loopIn i = .opened ∧
      t.ctl.sluice.stopSeq = (s.ctl.sluice.stopSeq + 1) % 65536 ∧ t.ctl.sluice.grantMap = 0 ∧
      t.allCat = max s.allCat s.cfg.sluice.loopCat ∧ t.stops.length = s.stops.length + 1 ∧
      t.ctl.sluice.withheld = s.ctl.sluice.withheld) ∧
  (∀ (i : Nat) (s : State), i ≤ 1 → s.loopOn = true →
    exec (.sluInClosed i) s = .next (classify i .closed s) ∧ exec (.sluInFault i) s = .next (classify i .fault s) ∧
    (classify i .closed s).ctl = s.ctl ∧ (classify i .closed s).loopIn i = .closed ∧
    (classify i .fault s).loopIn i = .fault ∧ (classify i .fault s).loopIn (1 - i) = s.loopIn (1 - i)) ∧
  (∀ s : State, s.loopOn = true → s.vol.sluice.discSince = true → s.vol.sluice.discStop = false →
    s.suppressor 4 s.cfg.sluice.discCat = none →
    ∃ t, exec .loopDiscrepancyTimeout s = .next t ∧ t.vol.sluice.discStop = true ∧ t.ctl.sluice.grantMap = 0 ∧
      t.ctl.sluice.stopSeq = (s.ctl.sluice.stopSeq + 1) % 65536 ∧ t.allCat = max s.allCat s.cfg.sluice.discCat) ∧
  (∀ (asn a : Nat) (s : State), s.ctl.time.atb = some a → a ≤ atbOfAsn asn →
    exec (.sluiceSlot asn) s = .next (afterSlot (settleAll (sluiceFrame asn (passToAtb (atbOfAsn asn) s))))) ∧
  (∀ (asn : Nat) (s : State), s.sluiceSends = true → s.ofdmLanes ≠ [] →
    chooseStop (countEvents 0x0201 none 1 (noteOverflow s.permission.2.2 s)).stopsDue = none →
    sluiceFrame asn s = grantsDone (sendAll 7 asn
      (heartbeatBody asn (countEvents 0x0201 none 1 (noteOverflow s.permission.2.2 s))) s.ofdmLanes
      (countEvents 0x0201 none 1 (noteOverflow s.permission.2.2 s))).2) ∧
  (∀ (l asn a : Nat) (s : State), s.ctl.time.atb = some a → a ≤ atbOfAsn asn → asn % 100 = 0 → (s.lane l).ofdm = false →
    s.sluiceSends = true →
    exec (.subghzStopSpan l asn) s = .next (stopSpan l asn (passToAtb (atbOfAsn asn) s))) ∧
  (∀ (n : Nat) (s : State), (s.stops.map Stop.no).Nodup →
    ∃ t, exec (.confirmTimeout n) s = .next t ∧ t.stops.map Stop.no = s.stops.map Stop.no ∧
      t.stops.map Stop.category = s.stops.map Stop.category ∧ t.ctl.sluice.grantMap = s.ctl.sluice.grantMap ∧
      ∀ x ∈ t.stops.find? (fun y : Stop => y.no == n), x.count .pending = 0 ∧ x.confirmOver = true) ∧
  (∀ (n : Nat) (x : Stop) (s : State), s.stops.find? (fun y => y.no == n) = some x →
    exec (.stopStatusReport n) s = .next (if x.counts = x.reported then s else stopStatus x 1 s))

/-- R309, R311, R328 to R331, R336 and the opcode pages of chapter 12; GRAPH_SWAP_APPLY. -/
def Obligations.DykeSettingsAndGraph : Prop :=
  Carries 0x0901 .dykeConfig
    (fun c b =>
      let ps := c.packet.params
      let r2 := sfld ps 0 8 * sfld ps 0 8 + sfld ps 8 8 * sfld ps 8 8 + sfld ps 16 8 * sfld ps 16 8
      6300000000 * 6300000000 ≤ r2 ∧ r2 ≤ 6400000000 * 6400000000 ∧ b.ctl.dyke.windows = [])
    (fun c b =>
      let ps := c.packet.params
      let x : DykeSettings := { b.cfg.dyke with
        originX := sfld ps 0 8, originY := sfld ps 8 8, originZ := sfld ps 16 8, margin := fld ps 24 2,
        posTol := fld ps 26 2, spdTol := fld ps 28 2, offerS := fld ps 30 2, declineS := fld ps 32 2, maxCand := fld ps 34 1 }
      accept c b { b with ctl.cfg.dyke := x } []) ∧
  Carries 0x0902 .dykeClass
    (fun c b => fld c.packet.params 18 2 ≤ fld c.packet.params 20 2 ∧
      2 * fld c.packet.params 12 2 ≤ widthMm (fld c.packet.params 2 1) ∧
      ∀ e ∈ b.cfg.dyke.members, e.2 = fld c.packet.params 0 1 → b.nodeWindows e.1 ++ b.nodeCopies e.1 = [])
    (fun c b =>
      let ps := c.packet.params
      let x : DykeClass :=
        { mayReverse := (fld ps 1 1).testBit 0, widthNeed := fld ps 2 1, front := fld ps 4 4, rear := fld ps 8 4,
          halfWidth := fld ps 12 2, vMax := fld ps 14 2, aMax := fld ps 16 2, aHold := fld ps 18 2, aFast := fld ps 20 2,
          reactMs := fld ps 22 2, jMax := fld ps 24 4 }
      accept c b { b with ctl.cfg.dyke := { b.cfg.dyke with classes := tput b.cfg.dyke.classes (fld ps 0 1) x } } []) ∧
  Carries 0x0903 .dykeMember
    (fun c b => b.nodeWindows (fld c.packet.params 0 2) ++ b.nodeCopies (fld c.packet.params 0 2) = [] ∧
      fld c.packet.params 2 1 ≠ 0xFF ∧ (tget b.cfg.dyke.classes (fld c.packet.params 2 1)).isSome = true)
    (fun c b =>
      let t := tput b.cfg.dyke.members (fld c.packet.params 0 2) (fld c.packet.params 2 1)
      accept c b { b with ctl.cfg.dyke := { b.cfg.dyke with members := t } } []) ∧
  Carries 0x0904 .dykeGraphEdit
    (fun c b => (∀ o ∈ editOffsets c.packet.params, editError c.packet.params o = none) ∧ b.vol.dyke.swap = none)
    (fun c b =>
      let g := (editOffsets c.packet.params).foldl (applyEdit c.packet.params) b.ctl.dyke.shadow
      let t : State := { b with ctl.dyke := { b.ctl.dyke with shadow := g } }
      accept c b t (leBytes 2 t.shadowEdits)) ∧
  Carries 0x0904 .dykeGraphEdit
    (fun c b => (∀ o ∈ editOffsets c.packet.params, editError c.packet.params o = none) ∧ b.vol.dyke.swap.isSome = true)
    (fun c b => refuse c b erBusy 0) ∧
  (∀ d : Nat, Carries 0x0905 .dykeSwap
    (fun c b => b.vol.dyke.swap = none ∧ b.ctl.dyke.shadow ≠ b.cfg.dyke.live ∧ fld c.packet.params 0 1 = 0 ∧
      b.swapError = some d)
    (fun c b => refuse c b erConflict d)) ∧
  Carries 0x0905 .dykeSwap
    (fun c b => b.vol.dyke.swap = none ∧ b.ctl.dyke.shadow ≠ b.cfg.dyke.live ∧ fld c.packet.params 0 1 = 0 ∧
      b.swapError = none)
    (fun c b => { b with vol.dyke := { b.vol.dyke with swap := some ⟨c, b.ctl.dyke.shadow⟩ } }) ∧
  Carries 0x0905 .dykeSwap
    (fun c b => b.vol.dyke.swap = none ∧ b.ctl.dyke.shadow ≠ b.cfg.dyke.live ∧ fld c.packet.params 0 1 = 1)
    (fun c b => accept c b { b with ctl.dyke := { b.ctl.dyke with shadow := b.cfg.dyke.live } } (zeros 6)) ∧
  (∀ (r : SwapRun) (s : State), s.vol.dyke.swap = some r →
    ∃ e h u t, swapGraph r.graph (passToAtb (atbOfAsn (s.asn + 1)) s) = (e, h, u) ∧
      exec .graphSwapApply s = .next t ∧ t = finish r.cmd 1 0 (leBytes 2 u.tick ++ leBytes 2 e ++ leBytes 2 h) u ∧
      t.cfg.dyke.live = r.graph ∧ t.ctl.dyke.shadow = r.graph ∧ t.vol.dyke.swap = none) ∧
  Carries 0x0908 .dykeRead (fun c _ => fld c.packet.params 0 1 = 0)
    (fun c b =>
      let id := fld c.packet.params 2 2
      answer c b (segmentBytes id (b.segment id) ++ leBytes 1 (b.windowsOn id).length ++ zeros 3 ++
        (b.windowsOn id).flatMap fun w => windowBytes b w.node w)) ∧
  Carries 0x0909 .dykeStatus (fun _ _ => True)
    (fun c b =>
      let ws := b.ctl.dyke.windows.flatMap (·.2)
      let count := fun st => (b.ctl.dyke.tasks.filter fun e => e.2.state == st).length
      answer c b (([b.tick % 65536, b.cfg.dyke.live.segs.length, b.cfg.dyke.live.juncs.length, ws.length,
        (ws.filter (·.pinned)).length, (ws.filter (·.invalid)).length, b.shadowEdits, b.vol.dyke.swaps,
        (b.vol.dyke.checks.filter fun t => decide (b.mtb < t + tickS)).length, b.vol.dyke.conflicts,
        b.vol.dyke.failures].flatMap fun x => leBytes 4 x) ++
        leBytes 2 (count .pending) ++ leBytes 2 (count .offered) ++ leBytes 2 (count .accepted + count .arrived) ++ zeros 2))

/-- R310, R317, R318, R320 to R322, R326, R408 and the opcode pages of chapter 12. -/
def Obligations.PathRequests : Prop :=
  let startOf : HostCmd → State → Except Nat (Kin × Bool) := fun c b =>
    b.startOf (fld c.packet.params 0 2) (readPath c.packet.params) (fld c.packet.params 6 1) (fld c.packet.params 8 4)
      (fld c.packet.params 2 1 == 1) (b.tick + 1)
  let asked : HostCmd → DykeClass → State → Prop := fun c cls b =>
    b.reserveRange c.packet.params = none ∧ (b.conn (fld c.packet.params 0 2)).isSome = true ∧
      b.dykeClass (fld c.packet.params 0 2) = some cls ∧ b.offered (fld c.packet.params 0 2) = none ∧
      b.badEntry (fld c.packet.params 0 2) cls (readPath c.packet.params) = none ∧ fld c.packet.params 22 2 = 0
  let request : HostCmd → DykeClass → Kin → Bool → State → PathReq := fun c cls k rev b =>
    b.request cls (readPath c.packet.params) (fld c.packet.params 6 1) (fld c.packet.params 7 1) (fld c.packet.params 12 4)
      (fld c.packet.params 16 2) (fld c.packet.params 18 2) (fld c.packet.params 20 2) k rev (b.tick + 1) 0
  (∀ (cls : DykeClass) (k : Kin) (rev : Bool) (ps : List Phase) (arr : Nat) (want : List (Nat × Nat × Window)),
    Carries 0x0906 .dykeReserve
      (fun c b => asked c cls b ∧ startOf c b = .ok (k, rev) ∧
        (request c cls k rev b).plan (fld c.packet.params 0 2) = .ok (ps, arr, want) ∧
        (∀ e ∈ want, b.border e.2.1 = false) ∧ b.clash (fld c.packet.params 0 2) want = none ∧
        b.nodeCopies (fld c.packet.params 0 2) = [])
      (fun c b =>
        let n := fld c.packet.params 0 2
        let t := commitAllot n ((request c cls k rev b).allotment ps arr) want [] (countCheck b)
        accept c b t (requestReply n (t.heldWant n) none t))) ∧
  (∀ (cls : DykeClass) (k : Kin) (rev : Bool) (ps : List Phase) (arr i g : Nat) (v : Window)
      (want : List (Nat × Nat × Window)),
    Carries 0x0906 .dykeReserve
      (fun c b => asked c cls b ∧ startOf c b = .ok (k, rev) ∧
        (request c cls k rev b).plan (fld c.packet.params 0 2) = .ok (ps, arr, want) ∧
        (∀ e ∈ want, b.border e.2.1 = false) ∧ b.clash (fld c.packet.params 0 2) want = some (.conflict i g v))
      (fun c b => finish c erConflict (i * 65536 + g) (conflictReply i g v)
        (countCheck { b with vol.dyke := { b.vol.dyke with conflicts := b.vol.dyke.conflicts + 1 } }))) ∧
  (∀ (cls : DykeClass) (k : Kin) (rev : Bool) (kind amount : Nat),
    Carries 0x0906 .dykeReserve
      (fun c b => asked c cls b ∧ startOf c b = .ok (k, rev) ∧
        (request c cls k rev b).plan (fld c.packet.params 0 2) = .error (kind, amount))
      (fun c b => refuse c b erEnvelope (kind * 65536 + sat 16 amount))) ∧
  (∀ (cls : DykeClass) (m : Nat), Carries 0x0906 .dykeReserve (fun c b => asked c cls b ∧ startOf c b = .error m)
    (fun c b => refuse c b erEnvelope (5 * 65536 + m))) ∧
  Carries 0x0906 .dykeReserve
    (fun c b => b.reserveRange c.packet.params = none ∧ b.conn (fld c.packet.params 0 2) = none)
    (fun c b => refuse c b erState 1) ∧
  Carries 0x0906 .dykeReserve
    (fun c b => b.reserveRange c.packet.params = none ∧ (b.conn (fld c.packet.params 0 2)).isSome = true ∧
      b.dykeClass (fld c.packet.params 0 2) = none)
    (fun c b => refuse c b erState 2) ∧
  Carries 0x0907 .dykeRelease
    (fun c b => fld c.packet.params 2 1 = 1 ∧ b.conn (fld c.packet.params 0 2) = none ∧
      b.offered (fld c.packet.params 0 2) = none ∧ b.nodeCopies (fld c.packet.params 0 2) = [])
    (fun c b =>
      let n := fld c.packet.params 0 2
      let r := freeWindows n (fun _ _ => false) b
      let d := r.2.ctl.dyke
      accept c b { r.2 with ctl.dyke := { d with allots := tdel d.allots n, profiles := tdel d.profiles n } } (leBytes 2 r.1)) ∧
  Carries 0x0907 .dykeRelease
    (fun c b => fld c.packet.params 2 1 = 1 ∧ (b.conn (fld c.packet.params 0 2)).isSome = true)
    (fun c b => refuse c b erState 1)

/-- R307, R314, R321, R322: what the check of DYKE.RESERVE, offers, resumes and new targets rests on. -/
def Obligations.ConflictCheckIsSound : Prop :=
  (∀ (s : State) (n : Nat) (want : List (Nat × Nat × Window)), s.clash n want = none →
    ∀ k g w, (k, g, w) ∈ want →
      (∀ v ∈ s.contending g, v.node ≠ n → w.overlaps v = true →
        sharedPasses (((s.segment g).map (·.rule)).getD 0) w v = true) ∧
      (∀ h ∈ ((s.segment g).map (·.conflicts)).getD [], ∀ v ∈ s.contending h, v.node ≠ n → w.overlaps v = false) ∧
      ((s.contending g).filter fun v => v.node != n).length < 16) ∧
  (∀ (s : State) (n k h : Nat) (v : Window) (want : List (Nat × Nat × Window)),
    s.clash n want = some (.conflict k h v) →
    v.node ≠ n ∧ v ∈ s.contending h ∧ ∃ g w, (k, g, w) ∈ want ∧ w.overlaps v = true ∧
      (h = g ∨ h ∈ ((s.segment g).map (·.conflicts)).getD []))

/-- R314, R326, R332 to R335 and the opcode pages of chapter 12; the rows of tasks and TICK_BOUNDARY. It rests on the model's choices of
logs 7, 21 and 181. -/
def Obligations.TaskOpcodesAndAllotter : Prop :=
  (∀ x : Segment, Carries 0x0911 .taskQueue
    (fun c b => b.segment (fld c.packet.params 4 2) = some x ∧ fld c.packet.params 8 4 ≤ x.lengthMm ∧
      b.ctl.dyke.tasks.length < 8192 ∧ (x.rule = 0 → fld c.packet.params 6 1 ≠ 1))
    (fun c b =>
      let ps := c.packet.params
      let d := b.ctl.dyke
      let no := freeTask d.tasks 8192 d.nextTask
      let t : Task :=
        { order := d.nextOrder, ref := fld ps 0 4, seg := fld ps 4 2, dir := fld ps 6 1, priority := fld ps 7 1,
          offset := fld ps 8 4, mask := fld ps 12 8, deadlineS := fld ps 20 4, durationS := fld ps 24 2, queuedAt := b.clock,
          state := .pending, node := 0, arrive := 0, bars := [] }
      let u : State := { b with ctl.dyke := { d with
        tasks := tput d.tasks no t, nextTask := (no + 1) % 65536, nextOrder := d.nextOrder + 1 } }
      accept c b (askAllot (taskEvent no t 0 0 0xFFFF u)) (leBytes 2 no ++ zeros 2))) ∧
  (∀ s : State, ((s.flow 0x882).items.any fun i => i.core.isNone && !i.acted) = false →
    askAllot s = enqueue { newItem 10 0x882 0 with work := some .allotterRun } s) ∧
  Carries 0x0911 .taskQueue
    (fun c b => b.segment (fld c.packet.params 4 2) = none ∧ b.ctl.dyke.tasks.length < 8192)
    (fun c b => refuse c b erRange 4) ∧
  (∀ t : Task, Carries 0x0912 .taskAccept
    (fun c b => tget b.ctl.dyke.tasks (fld c.packet.params 0 2) = some t ∧ t.state = .offered ∧ fld c.packet.params 2 1 = 0)
    (fun c b =>
      let no := fld c.packet.params 0 2
      let u := freshFrame t.node ((b.modTask no fun t => { t with state := .accepted }).modAllot t.node fun a =>
        { a with waiting := false })
      accept c b (taskEvent no t 2 t.node (t.arrive % 65536) u) [])) ∧
  (∀ t : Task, Carries 0x0912 .taskAccept
    (fun c b => tget b.ctl.dyke.tasks (fld c.packet.params 0 2) = some t ∧ t.state = .offered ∧ fld c.packet.params 2 1 = 1)
    (fun c b => accept c b (returnTask (fld c.packet.params 0 2) 3 b) [])) ∧
  (∀ t : Task, Carries 0x0912 .taskAccept
    (fun c b => tget b.ctl.dyke.tasks (fld c.packet.params 0 2) = some t ∧ t.state ≠ .offered)
    (fun c b => refuse c b erState (taskCode (some t.state)))) ∧
  (∀ t : Task, Carries 0x0913 .taskCancel (fun c b => tget b.ctl.dyke.tasks (fld c.packet.params 0 2) = some t)
    (fun c b => accept c b (endTask (fld c.packet.params 0 2) 8 b) [])) ∧
  Carries 0x0913 .taskCancel (fun c b => tget b.ctl.dyke.tasks (fld c.packet.params 0 2) = none)
    (fun c b => refuse c b erState 0) ∧
  (∀ s : State, s.servesNow 10 0x882 = true → exec .allotterRun s = .next (allotterRun (ranItem 10 0x882 0 s)) ∧
    exec .allotterPeriodic s = .next (allotterRun (ranItem 10 0x882 0 s))) ∧
  (∀ s : State, s.servesNow 10 0x882 = false →
    exec .allotterRun s = .next (enqueue { newItem 10 0x882 0 with work := some .allotterRun } s) ∧
    exec .allotterPeriodic s = .next (enqueue { newItem 10 0x882 0 with work := some .allotterPeriodic } s)) ∧
  (∀ (no : Nat) (t : Task) (s : State), tget s.ctl.dyke.tasks no = some t → t.state = .offered →
    ∃ u v, exec (.offerTimeout no) s = .next u ∧ tget u.ctl.dyke.tasks no = some v ∧ v.state = .pending ∧ v.ref = t.ref ∧
      v.bars = t.bars ++ [(t.node, s.clock + s.cfg.dyke.declineS * tickS)]) ∧
  (∀ (no n : Nat) (s : State), exec (.declineBarExpiry no n) s =
    .next (s.modTask no fun t => { t with bars := t.bars.filter fun b => b.1 != n })) ∧
  (∀ (no : Nat) (t : Task) (s : State), tget s.ctl.dyke.tasks no = some t → t.deadlineS ≠ 0 → t.state = .pending →
    exec (.taskDeadlineExpiry no) s = .next (taskEvent no t 7 t.node 0xFFFF
      { s with ctl.dyke := { s.ctl.dyke with tasks := tdel s.ctl.dyke.tasks no } })) ∧
  (∀ (no : Nat) (t : Task) (s : State), tget s.ctl.dyke.tasks no = some t → t.state = .arrived →
    s.restsAt t.node no = true → exec (.taskDone no) s = .next (taskEvent no t 6 t.node (t.arrive % 65536)
      { s with ctl.dyke := { s.ctl.dyke with tasks := tdel s.ctl.dyke.tasks no } })) ∧
  (∀ (no : Nat) (t : Task) (s : State), tget s.ctl.dyke.tasks no = some t → s.restsAt t.node no = false →
    exec (.taskDone no) s = .next s) ∧
  (∀ s : State,
    ∃ t, exec .tickBoundary s = .next t ∧ t.vol.dyke.pinDue = [] ∧ t.tick = (passToAtb (atbOfAsn (5 * (s.tick + 1))) s).tick ∧
      ∀ e ∈ t.ctl.dyke.windows, ∀ w ∈ e.2, w.pinned = true ∨ t.tick < w.stop)

/-- R310, R327, R343, R344, R347, R349, R350, R352, R409 and the opcode pages of chapter 13. It rests on the model's choices of logs 6, 7,
21 and 180. -/
def Obligations.ProfileOpcodesAndFrames : Prop :=
  Carries 0x0A01 .profileConfig (fun _ _ => True)
    (fun c b =>
      let ps := c.packet.params
      accept c b { b with ctl.cfg.profile := { b.cfg.profile with
        turnDwell := fld ps 0 2, restSpeed := fld ps 2 2, defRate := fld ps 4 1 } } []) ∧
  Carries 0x0A02 .profileMember
    (fun c b => b.conn (fld c.packet.params 0 2) = none ∧ fld c.packet.params 2 1 ≠ 0)
    (fun c b =>
      let t := tput b.cfg.profile.rates (fld c.packet.params 0 2) (fld c.packet.params 2 1)
      accept c b { b with ctl.cfg.profile := { b.cfg.profile with rates := t } } (leBytes 2 0)) ∧
  Carries 0x0A03 .profileRetarget
    (fun c b => b.retargetRange c.packet.params = none ∧ b.conn (fld c.packet.params 0 2) = none)
    (fun c b => refuse c b erState 1) ∧
  (∀ cls : DykeClass, Carries 0x0A03 .profileRetarget
    (fun c b => b.retargetRange c.packet.params = none ∧ (b.conn (fld c.packet.params 0 2)).isSome = true ∧
      b.dykeClass (fld c.packet.params 0 2) = some cls ∧ tget b.vol.sluice.status (fld c.packet.params 0 2) = none)
    (fun c b => refuse c b erState 3)) ∧
  (∀ (cls : DykeClass) (al : Allotment) (k : Kin) (l : List Phase) (rev : Bool) (q : PathReq) (m : MemberStatus) (u : State),
    Carries 0x0A03 .profileRetarget
      (fun c b =>
        let n := fld c.packet.params 0 2
        b.retargetRange c.packet.params = none ∧ (b.conn n).isSome = true ∧ b.dykeClass n = some cls ∧
          tget b.vol.sluice.status n = some m ∧ m.state = 1 ∧ b.allot n = some al ∧ b.offered n = none ∧
          b.planned n (atbOfAsn (5 * (b.tick + 1))) = some (k, l, rev) ∧ fld c.packet.params 16 1 = 0 ∧
          b.aheadReq cls al c.packet.params k rev = some q ∧
          submit n q (some c) (some (leBytes 2 0xFFFF ++ leBytes 4 0xFFFFFFFF)) b = .done u)
      (fun c b =>
        let n := fld c.packet.params 0 2
        accept c b (profileEvent 5 n u)
          (requestReply n (u.heldWant n) (some (leBytes 2 0xFFFF ++ leBytes 4 0xFFFFFFFF)) u))) ∧
  (∀ (cls : DykeClass) (al : Allotment) (k : Kin) (l : List Phase) (rev : Bool) (m : MemberStatus) (st d : Nat),
    Carries 0x0A03 .profileRetarget
      (fun c b =>
        let n := fld c.packet.params 0 2
        b.retargetRange c.packet.params = none ∧ (b.conn n).isSome = true ∧ b.dykeClass n = some cls ∧
          tget b.vol.sluice.status n = some m ∧ m.state = 1 ∧ b.allot n = some al ∧ b.offered n = none ∧
          b.planned n (atbOfAsn (5 * (b.tick + 1))) = some (k, l, rev) ∧ fld c.packet.params 16 1 ≠ 0 ∧
          b.turnBack n cls al c.packet.params k rev = .refuse st d)
      (fun c b => refuse c b st d)) ∧
  (∀ (f : List Byte) (k : Conn), Carries 0x0A04 .profileRead
    (fun c b => tget b.vol.dyke.frames (fld c.packet.params 0 2) = some f ∧ b.conn (fld c.packet.params 0 2) = some k)
    (fun c b => answer c b (leBytes 2 (b.effPeriod (fld c.packet.params 0 2) k) ++ zeros 2 ++ f))) ∧
  Carries 0x0A04 .profileRead (fun c b => tget b.vol.dyke.frames (fld c.packet.params 0 2) = none)
    (fun c b => refuse c b erState 0) ∧
  (∀ (n : Nat) (c : Conn) (x : Timer) (s : State), s.conn n = some c →
    (s.vol.sched.timers.find? fun t => t.flow == c.flow && t.item.kind == 3) = some x →
    exec (.profileFrameDue n) s = .next (frameTurn n c.flow (fireTimers (passTicks (s.ticksTo x.due) s)))) ∧
  (∀ (n : Nat) (c : Conn) (s : State), s.conn n = some c →
    (s.vol.sched.timers.find? fun t => t.flow == c.flow && t.item.kind == 3) = none →
    exec (.profileFrameDue n) s = .next (frameTurn n c.flow s)) ∧
  (∀ (n f k : Nat) (i : WorkItem) (s : State),
    ((s.flow f).items.find? fun i => i.kind == 3 && i.timer && i.core.isNone && !i.acted) = some i → s.takesItem i = some k →
    frameTurn n f s = emitFrame n (settle n (serveOn k i s))) ∧
  (∀ (n : Nat) (c : Conn) (s : State), s.conn n = some c → s.frameEvent n c = s.nextEvent c →
    ∃ f, tget (emitFrame n s).vol.dyke.frames n = some f ∧
      f = ((s.frameFields n (s.nextEvent c)).1 ++ (s.frameFields n (s.nextEvent c)).2).flatMap (fun x => leInt x.1 x.2)) ∧
  (∀ (n : Nat) (s : State), (s.profile n).resuming = true →
    (s.servesNow 5 (s.flowOf n) = true → exec (.resumeRetry n) s = .next (resumeWork n (ranItem 5 (s.flowOf n) n s))) ∧
    (s.servesNow 5 (s.flowOf n) = false → exec (.resumeRetry n) s =
      .next (enqueue { newItem 5 (s.flowOf n) n with work := some (.resumeRetry n) } s))) ∧
  (∀ (txn : Nat) (r : BorderRun) (e : Nat × Nat × Bool) (s : State),
    (s.vol.dyke.border.find? fun b => b.txn == txn) = some r →
    ((r.reserves.find? fun e => !e.2.2).or (r.commits.find? fun e => !e.2.2)) = some e →
    exec (.borderCommitTimeout txn) s = .next (refuseBorder r erTimeout e.2.1 0xFFFF [] s) ∧
      ∀ b ∈ (refuseBorder r erTimeout e.2.1 0xFFFF [] s).vol.dyke.border, b.txn ≠ r.txn)

/-- R360 to R362, R364 to R366, R369 and the opcode pages of chapter 14. -/
def Obligations.SchedOpcodes : Prop :=
  Carries 0x0B01 .schedConfig (fun _ _ => True)
    (fun c b =>
      let x := { b.cfg.sched with affinityUs := fld c.packet.params 0 2, starveUs := fld c.packet.params 2 2 }
      accept c b { b with ctl.cfg.sched := x } []) ∧
  Carries 0x0B02 .schedCore
    (fun c b => fld c.packet.params 1 1 = 0 ∧ (b.core (fld c.packet.params 0 1)).state = .idle ∧ b.ctl.mode ≠ .idle ∧
      b.coresOut < 8 ∧ fld c.packet.params 0 1 < b.vol.sched.cores.length)
    (fun c b =>
      let k := fld c.packet.params 0 1
      let t := (releaseAffinity k { b with ctl.cfg.sched.outMask := setBit b.cfg.sched.outMask k true }).modCore k fun w =>
        { w with state := .out }
      finish c 1 0 (leBytes 1 t.coresIn ++ leBytes 1 5 ++ zeros 2) t) ∧
  (∀ f p : Nat, Carries 0x0B02 .schedCore
    (fun c b => fld c.packet.params 1 1 = 0 ∧ (b.core (fld c.packet.params 0 1)).state = .busy f p ∧ b.ctl.mode ≠ .idle ∧
      b.coresOut < 8 ∧ fld c.packet.params 0 1 < b.vol.sched.cores.length ∧
      b.cfg.sched.outMask.testBit (fld c.packet.params 0 1) = false)
    (fun c b =>
      let k := fld c.packet.params 0 1
      markEffected c
        (((releaseAffinity k { b with ctl.cfg.sched.outMask := setBit b.cfg.sched.outMask k true }).modCore k fun w =>
          { w with state := .leaving f p }).modCore k fun w => { w with cmds := [c] }))) ∧
  Carries 0x0B02 .schedCore
    (fun c b => fld c.packet.params 1 1 = 0 ∧ (b.core (fld c.packet.params 0 1)).state = .idle ∧ b.ctl.mode ≠ .idle ∧
      8 ≤ b.coresOut)
    (fun c b => refuse c b erCapacity (16 - b.coresOut)) ∧
  Carries 0x0B02 .schedCore
    (fun c b => fld c.packet.params 1 1 = 0 ∧ (b.core (fld c.packet.params 0 1)).state = .out)
    (fun c b => refuse c b erState 1) ∧
  Carries 0x0B02 .schedCore
    (fun c b => fld c.packet.params 1 1 = 1 ∧ (b.core (fld c.packet.params 0 1)).state = .idle)
    (fun c b => refuse c b erState 0) ∧
  Carries 0x0B03 .schedStatus (fun c _ => fld c.packet.params 0 1 = 0) (fun c b => answer c b (schedStatus b)) ∧
  Carries 0x0B03 .schedStatus (fun c _ => fld c.packet.params 0 1 = 1)
    (fun c b =>
      let v := b.vol.sched
      answer c { b with vol.sched := { v with
        prios := v.prios.map fun p => { p with peak := p.now }, timersPeak := v.timers.length, refusals := 0,
        starvations := 0 } } (schedStatus b)) ∧
  Carries 0x0B04 .schedHist (fun c _ => fld c.packet.params 1 1 ≠ 1)
    (fun c b => answer c b ((histPrios (fld c.packet.params 0 1)).flatMap fun p =>
      (b.vol.sched.prios.getD p PrioCount.zero).hist.flatMap fun n => leBytes 4 n)) ∧
  Carries 0x0B05 .schedFlowRead (fun c _ => 4096 < fld c.packet.params 0 2 + fld c.packet.params 2 2)
    (fun c b => refuse c b erRange 2) ∧
  Carries 0x0B05 .schedFlowRead
    (fun c _ => fld c.packet.params 0 2 + fld c.packet.params 2 2 ≤ 4096 ∧ fld c.packet.params 4 1 = 0)
    (fun c b => answer c b (((List.range (fld c.packet.params 2 2)).map (fld c.packet.params 0 2 + ·)).flatMap (flowBytes b))) ∧
  Carries 0x0B06 .schedItemRead (fun _ _ => True)
    (fun c b =>
      let l := (b.flow (fld c.packet.params 0 2)).items.take 8
      answer c b (leBytes 1 l.length ++ zeros 3 ++ l.flatMap (itemBytes b)))

/-- R353, R357 to R359, R361 to R363, R365, R367, R369: the rows of Milliner. It rests on the model's choices of logs 21 and 174. -/
def Obligations.DispatchAndTimers : Prop :=
  (∀ (k f : Nat) (i : WorkItem) (l : List WorkItem) (s : State), (s.core k).state = .idle → k < s.vol.sched.cores.length →
    chooseFrom s k 8 = some f → (s.flow f).items = i :: l → i.kind ≠ 7 →
    ∃ t, exec (.coreDispatch k) s = .next t ∧ (t.core k).state = .busy f i.prio ∧ (t.core k).busySince = s.mtb ∧
      (t.flow f).lastCore = some k ∧ (t.flow f).items = { i with core := some k, start := some s.mtb } :: l ∧
      t.ctl = s.ctl) ∧
  (∀ (k f : Nat) (i : WorkItem) (l : List WorkItem) (c : HostCmd) (s : State), (s.core k).state = .idle →
    k < s.vol.sched.cores.length → chooseFrom s k 8 = some f → (s.flow f).items = i :: l → i.kind = 7 →
    let u := (s.modFlow f fun x => { x with items := { i with core := some k, start := some s.mtb } :: l }).itemCmd i
    u = some c → s.spoiled c = none → s.late c = false →
    ∃ t, exec (.coreDispatch k) s = .next t ∧ (t.core k).state = .busy f i.prio ∧
      (t.flow f).items.head? = some { i with core := some k, start := some s.mtb, run := some c } ∧ t.ctl = s.ctl) ∧
  (∀ (k f : Nat) (s : State), chooseFrom s k 8 = some f →
    ∃ x, (f, x) ∈ s.vol.sched.flows ∧ s.startable x = true ∧ s.heldForOther k x = false ∧ s.reserved x.prio = false ∧
      s.coreFor x.lastCore = some k ∧
      ∀ e ∈ s.vol.sched.flows, s.startable e.2 = true → s.reserved e.2.prio = false → s.coreFor e.2.lastCore = some k →
        x.prio < e.2.prio → e.2.prio < 8 → s.heldForOther k e.2 = true) ∧
  (∀ (k : Nat) (s : State), (s.core k).state ≠ .idle → exec (.coreDispatch k) s = .next s) ∧
  (∀ (k f p : Nat) (i : WorkItem) (s : State), (s.core k).state = .busy f p → k < s.vol.sched.cores.length →
    s.oneCore = false → s.vol.redun.bist = none → ((s.flow f).items.find? fun i => i.core == some k) = some i →
    i.acted = true →
    ∃ t, exec (.workItemDone k) s = .next t ∧ (t.core k).state = .idle ∧ t.ctl = s.ctl ∧
      (t.flow f).items.length ≤ (s.flow f).items.length) ∧
  (∀ (k f p : Nat) (i : WorkItem) (s : State), (s.core k).state = .busy f p →
    ((s.flow f).items.find? fun i => i.core == some k) = some i →
    exec (.workItemDone k) s = .next (bistGo 40 (coreDone k (itemWork i s)))) ∧
  (∀ (i : WorkItem) (s : State), i.acted = false →
    (i.kind = 1 → itemWork i s = uplinkWork i (actedOn i s)) ∧ (i.kind = 2 → itemWork i s = memberMsgWork i (actedOn i s)) ∧
    (∀ c, i.kind = 7 → i.run = some c → itemWork i s = runStarted runOpcode c (actedOn i s)) ∧
    (∀ n, 3 ≤ i.kind → i.kind ≠ 7 → i.work = some (.supervisionTimeout n) → itemWork i s = endConn n 2 (actedOn i s))) ∧
  (∀ (k f p : Nat) (i : WorkItem) (s : State), (s.core k).state = .leaving f p → k < s.vol.sched.cores.length →
    (s.core k).cmds = [] → s.vol.redun.bist = none → ((s.flow f).items.find? fun i => i.core == some k) = some i →
    i.acted = true → ∃ t, exec (.workItemDone k) s = .next t ∧ (t.core k).state = .out ∧ t.ctl = s.ctl) ∧
  (∀ (k f : Nat) (s : State), s.idleCore = some k → s.startable (s.flow f) = true → s.windowOver (s.flow f) = true →
    s.reserved (s.flow f).prio = false → s.comesBefore k f (s.flow f).readyAt (s.flow f).prio = false →
    exec (.affinityWindowExpiry f) s = .next (startItem k f s)) ∧
  (∀ (f : Nat) (s : State), s.idleCore = none ∨ s.windowOver (s.flow f) = false →
    exec (.affinityWindowExpiry f) s = .next s) ∧
  (∀ s : State, ∃ t, exec .delayListTick s = .next t ∧ t.clock = s.clock + (16000 - s.mtb % 16000) ∧ t.ctl.cfg = s.ctl.cfg ∧
    t.vol.sched.timers = s.vol.sched.timers.filter (fun x => decide (t.mtb < x.due)) ∧
    t.vol.sched.nextItem = s.vol.sched.nextItem + (s.vol.sched.timers.length - t.vol.sched.timers.length))

/-- R372, R373, R375, R377 to R382 and the opcode pages of chapter 15. It rests on the model's choices of logs 169, 171 and 173. -/
def Obligations.QueueOpcodesAndPool : Prop :=
  Carries 0x0C01 .queueConfig
    (fun c _ => 257 ≤ fld c.packet.params 4 4 ∨ fld c.packet.params 0 2 < 0x800 ∨
      (mailboxOf? (fld c.packet.params 0 2)).isSome = true)
    (fun c b =>
      let ps := c.packet.params
      let t := tput b.cfg.peat.queues (fld ps 0 2) ⟨fld ps 2 2, fld ps 4 4, fld ps 8 2⟩
      accept c b { b with ctl.cfg.peat := { b.cfg.peat with queues := t } } []) ∧
  Carries 0x0C01 .queueConfig
    (fun c _ => fld c.packet.params 4 4 < 257 ∧ 0x800 ≤ fld c.packet.params 0 2 ∧ fld c.packet.params 0 2 < 0xC00)
    (fun c b => refuse c b erRange 4) ∧
  Carries 0x0C02 .queuePool (fun c _ => fld c.packet.params 4 4 ≤ fld c.packet.params 0 4)
    (fun c b =>
      let x := { b.cfg.peat with wmWarn := fld c.packet.params 0 4, wmFloor := fld c.packet.params 4 4 }
      let t := watermarks { b with ctl.cfg.peat := x }
      accept c b t (leBytes 4 t.freeCells)) ∧
  Carries 0x0C02 .queuePool (fun c _ => fld c.packet.params 0 4 < fld c.packet.params 4 4)
    (fun c b => refuse c b erRange 4) ∧
  Carries 0x0C03 .queueStatus (fun _ _ => True)
    (fun c b =>
      let p := b.vol.peat
      answer c b (leBytes 4 b.freeCells ++ leBytes 4 p.minFree ++
        leBytes 4 (p.queues.map fun e => e.2.cellsReserved).sum ++ leBytes 4 p.corrected ++
        leBytes 4 p.uncorrect ++ leBytes 4 p.truncated ++ leBytes 4 p.floorRef ++
        leBytes 4 (sat 32 ((b.mtb - p.scrubAt) / tickS)))) ∧
  Carries 0x0C04 .queueRead
    (fun c _ => fld c.packet.params 0 2 + fld c.packet.params 2 2 ≤ 4096 ∧ fld c.packet.params 4 1 ≠ 1)
    (fun c b => answer c b (((List.range (fld c.packet.params 2 2)).map (fld c.packet.params 0 2 + ·)).flatMap
      (queueBytes b))) ∧
  Carries 0x0C04 .queueRead
    (fun c _ => fld c.packet.params 0 2 + fld c.packet.params 2 2 ≤ 4096 ∧ fld c.packet.params 4 1 = 1)
    (fun c b =>
      let first := fld c.packet.params 0 2
      let n := fld c.packet.params 2 2
      let cleared := fun e : Nat × PeatQueue =>
        (e.1, if first ≤ e.1 ∧ e.1 < first + n then { e.2 with peak := e.2.packets.length } else e.2)
      let p := { b.vol.peat with minFree := b.freeCells, queues := b.vol.peat.queues.map cleared }
      answer c { b with vol.peat := p } (((List.range n).map (first + ·)).flatMap (queueBytes b))) ∧
  Carries 0x0C04 .queueRead (fun c _ => 4096 < fld c.packet.params 0 2 + fld c.packet.params 2 2)
    (fun c b => refuse c b erRange 2) ∧
  Carries 0x0C05 .queueMbxRead
    (fun c b => (∀ r ∈ b.vol.peat.reads, r.mailbox ≠ fld c.packet.params 0 1) ∧
      (b.queue (0xC00 + fld c.packet.params 0 1)).packets = [] ∧ fld c.packet.params 2 2 ≠ 0)
    (fun c b =>
      let r : MbxRead := { cmd := c, mailbox := fld c.packet.params 0 1, maxPkts := fld c.packet.params 1 1 }
      { b with vol.peat.reads := b.vol.peat.reads ++ [r] }) ∧
  Carries 0x0C05 .queueMbxRead (fun c b => ∃ r ∈ b.vol.peat.reads, r.mailbox = fld c.packet.params 0 1)
    (fun c b =>
      let r : MbxRead := { cmd := c, mailbox := fld c.packet.params 0 1, maxPkts := fld c.packet.params 1 1 }
      { b with vol.peat.reads := b.vol.peat.reads ++ [r] }) ∧
  Carries 0x0C05 .queueMbxRead
    (fun c b => (∀ r ∈ b.vol.peat.reads, r.mailbox ≠ fld c.packet.params 0 1) ∧
      (b.queue (0xC00 + fld c.packet.params 0 1)).packets = [] ∧ fld c.packet.params 2 2 = 0)
    (fun c b => finish c 0 0 (zeros 8)
      (watermarks (b.modQueue (0xC00 + fld c.packet.params 0 1) fun k => { k with packets := [] }))) ∧
  (∀ x : PeatPacket, Carries 0x0C05 .queueMbxRead
    (fun c b => (∀ r ∈ b.vol.peat.reads, r.mailbox ≠ fld c.packet.params 0 1) ∧ 1 ≤ fld c.packet.params 1 1 ∧
      (b.queue (0xC00 + fld c.packet.params 0 1)).packets = [x] ∧ (mbxEntry x).length ≤ 4056)
    (fun c b =>
      let q := 0xC00 + fld c.packet.params 0 1
      finish c 0 0 (leBytes 2 1 ++ leBytes 2 0 ++ zeros 4 ++ mbxEntry x)
        (watermarks ((unlink x (cellsRead q b)).modQueue q fun k => { k with packets := [] })))) ∧
  (∀ (n tag : Nat) (r : MbxRead) (s : State),
    (s.vol.peat.reads.find? fun r => r.cmd.session == n && r.cmd.packet.tag == tag) = some r →
    exec (.mbxReadWaitEnd n tag) s = .next (mbxComplete r.cmd { s with
      vol.peat.reads := s.vol.peat.reads.eraseP fun r => r.cmd.session == n && r.cmd.packet.tag == tag })) ∧
  (∀ (q m kind node : Nat) (d : List Byte) (s : State), queueListed q = true → 1 ≤ d.length → d.length ≤ m →
    s.poolGrants q m = true → mailboxOf? q = none → (s.queue q).stalled = [] →
    ∃ t p, exec (.packetCommit q m kind node d) s = .next t ∧ (t.queue q).packets = (s.queue q).packets ++ [p] ∧
      p.data = d ∧ p.kind = kind ∧ p.node = node ∧ p.lost = (s.queue q).lost ∧ (t.queue q).lost = false ∧
      (∀ r, r ≠ q → t.queue r = s.queue r) ∧ t.ctl = s.ctl) ∧
  (∀ (q m kind node : Nat) (d : List Byte) (s : State), queueListed q = true → 1 ≤ d.length → d.length ≤ m →
    s.poolGrants q m = false → 0x814 ≤ q → (s.queue q).stalled = [] →
    ∃ t, exec (.packetCommit q m kind node d) s = .next t ∧ (t.queue q).packets = (s.queue q).packets ∧
      (t.queue q).lost = true ∧ (t.queue q).dropped = satInc 32 (s.queue q).dropped ∧
      (t.queue q).refused = satInc 32 (s.queue q).refused ∧ t.ctl = s.ctl) ∧
  (∀ (q m kind node : Nat) (d : List Byte) (s : State), queueListed q = true → 1 ≤ d.length → d.length ≤ m →
    s.poolGrants q m = false → (s.queue q).stalled = [] →
    (q < 0x800 → exec (.packetCommit q m kind node d) s = .next (recordOther 0x0C 0 (refuseReserve q m s))) ∧
    (0x800 ≤ q → q < 0x814 → exec (.packetCommit q m kind node d) s = .next (refuseReserve q m s))) ∧
  (∀ (q m kind node mb : Nat) (d : List Byte) (s : State), mailboxOf? q = some mb → 1 ≤ d.length → d.length ≤ m →
    s.poolGrants q m = true → (∀ r ∈ s.vol.peat.reads, r.mailbox ≠ mb) →
    ∃ t p, exec (.packetCommit q m kind node d) s = .next t ∧ (t.queue q).packets = (s.queue q).packets ++ [p] ∧
      p.data = d ∧ p.kind = kind ∧ p.node = node ∧ t.ctl = s.ctl ∧
      ((s.queue q).packets = [] → t.hsw.irqCause.getLsbD irqMailbox = true)) ∧
  (∀ (q m kind node n : Nat) (d : List Byte) (s : State), queueListed q = true → q < 0x800 → 1 ≤ d.length → d.length ≤ m →
    s.poolGrants q m = true → (s.queue q).stalled ≠ [] → s.nodeOfFlow q = some n →
    exec (.packetCommit q m kind node d) s = .next (fillDown q n (produce q m kind node d s))) ∧
  (∀ (q m kind node : Nat) (d : List Byte) (s : State), queueListed q = true → d = [] ∨ m < d.length → s.poolGrants q m = true →
    (∀ r ∈ (s.queue q).reserved, r.1 ≠ s.fresh) →
    ∃ t, exec (.packetCommit q m kind node d) s = .next t ∧ (t.queue q).packets = (s.queue q).packets ∧
      (t.queue q).reserved = (s.queue q).reserved ∧ t.ctl = s.ctl) ∧
  (∀ (q m kind node : Nat) (d : List Byte) (s : State), queueListed q = false →
    exec (.packetCommit q m kind node d) s = .next s) ∧
  (∀ (q : Nat) (r : HeadRead) (l : List HeadRead) (s : State), (s.queue q).stalled = r :: l →
    (0x800 ≤ q → exec (.headReadStallExpiry q) s = .next (s.modQueue q fun k =>
      { k with stalled := l, stallOut := satInc 16 k.stallOut })) ∧
    (∀ n, q < 0x800 → s.nodeOfFlow q = some n → exec (.headReadStallExpiry q) s =
      .next (sendDown n r.asn r.slot (s.modQueue q fun k => { k with stalled := l, stallOut := satInc 16 k.stallOut })))) ∧
  (∀ (q : Nat) (s : State), (s.queue q).stalled = [] → exec (.headReadStallExpiry q) s = .next s) ∧
  (∀ (l : List Nat) (s : State), s.vol.peat.corrected < 2 ^ 32 → ∃ t, exec (.poolScrub l) s = .next t ∧
    t.vol.peat.orphans = 0 ∧ t.vol.peat.scrubAt = s.mtb ∧ t.ctl = s.ctl ∧
    t.vol.peat.corrected = min (s.vol.peat.corrected + l.length) (2 ^ 32 - 1) ∧
    (∀ q, queueListed q = true → (t.queue q).packets = (s.queue q).packets) ∧
    (l = [] → t.freeCells = poolCells - (s.vol.peat.queues.map fun e => e.2.cells).sum)) ∧
  (∀ (w q k j : Nat) (p : PeatPacket) (s : State), s.actOn = true → 2 ≤ w → w < s.cfg.redun.eccMax →
    s.vol.redun.eccAt = [] → s.cellIn q k = some (p, j) →
    ∃ t, exec (.uncorrectableMemoryError 9 w q k) s = .next t ∧
      (t.queue q).packets = (s.queue q).packets.map (fun x => if x.cell = p.cell then x.cut (j + 1) else x) ∧
      t.vol.peat.truncated = satInc 32 s.vol.peat.truncated ∧
      t.vol.peat.orphans = s.vol.peat.orphans + (packetCells p.data.length - (j + 1)) ∧ t.ctl = s.ctl)

/-- R386, R387, R390, R392, R394, R396 and the opcode pages of chapter 16. -/
def Obligations.CaptureOpcodes : Prop :=
  Carries 0x0D01 .capturePort
    (fun c b =>
      let ps := c.packet.params
      let x := portOf ps
      portRangeError ps = none ∧ (b.port (fld ps 0 1)).state.armed = false ∧ x.source < 8 ∧
        recordBytes x x.n ≤ x.blocks * 4096 / (if x.repeated then 2 else 1) ∧
        b.blocksAssigned - ((b.portSet (fld ps 0 1)).map (·.blocks)).getD 0 + x.blocks ≤ 1024)
    (fun c b =>
      let ps := c.packet.params
      let p := fld ps 0 1
      let x := portOf ps
      let t : State := { b with ctl.cfg.wader := { b.cfg.wader with ports := b.cfg.wader.ports.set p (some x) } }
      let u := t.modPort p fun r => { r with state := .idle, d := x.decim, reduced := false }
      accept c b u (leBytes 2 (1024 - u.blocksAssigned) ++ zeros 2)) ∧
  Carries 0x0D01 .capturePort
    (fun c b => portRangeError c.packet.params = none ∧ (b.port (fld c.packet.params 0 1)).state.armed = true)
    (fun c b => refuse c b erState (fld c.packet.params 0 1)) ∧
  Carries 0x0D02 .captureArm
    (fun c b => fld c.packet.params 1 1 = 1 ∧ (∀ p ∈ bitsOf 4 (fld c.packet.params 0 1), (b.portSet p).isSome = true) ∧
      b.ctl.mode = .run ∧ b.vol.wader.cal = none)
    (fun c b => answer c ((bitsOf 4 (fld c.packet.params 0 1)).foldl (fun s p => armPort p s) b) []) ∧
  Carries 0x0D02 .captureArm
    (fun c b => fld c.packet.params 1 1 = 0 ∧ (∀ p ∈ bitsOf 4 (fld c.packet.params 0 1), (b.portSet p).isSome = true) ∧
      b.ctl.mode = .run ∧ b.vol.wader.cal = none)
    (fun c b => answer c ((bitsOf 4 (fld c.packet.params 0 1)).foldl (fun s p => stopPort 1 p s) b) []) ∧
  (∀ p : Nat, Carries 0x0D02 .captureArm
    (fun c b => (bitsOf 4 (fld c.packet.params 0 1)).find? (fun p => (b.portSet p).isNone) = some p)
    (fun c b => refuse c b erState p)) ∧
  Carries 0x0D02 .captureArm
    (fun c b => (∀ p ∈ bitsOf 4 (fld c.packet.params 0 1), (b.portSet p).isSome = true) ∧ b.ctl.mode = .run ∧
      b.vol.wader.cal.isSome = true)
    (fun c b => refuse c b erBusy 0) ∧
  Carries 0x0D03 .captureTrigger (fun c _ => fld c.packet.params 1 1 = 0)
    (fun c b =>
      let m := fld c.packet.params 0 1
      let r0 := commandTrigger m 0 b
      let r1 := commandTrigger m 1 r0.2
      let r2 := commandTrigger m 2 r1.2
      let r3 := commandTrigger m 3 r2.2
      answer c r3.2 [BitVec.ofNat 8 r0.1, BitVec.ofNat 8 r1.1, BitVec.ofNat 8 r2.1, BitVec.ofNat 8 r3.1]) ∧
  Carries 0x0D03 .captureTrigger (fun c b => fld c.packet.params 1 1 = 1 ∧ b.cfg.wader.txEnable = false)
    (fun c b => refuse c b erState 0) ∧
  Carries 0x0D04 .captureSyncConfig
    (fun c _ => fld c.packet.params 3 1 = 0xFF ∧ fld c.packet.params 4 4 = 0 ∧ fld c.packet.params 2 1 ≠ 0xFF)
    (fun c b =>
      let ps := c.packet.params
      let w := { b.cfg.wader with rxEnable := fld ps 0 1 == 1, txEnable := fld ps 1 1 == 1, busId := fld ps 2 1 }
      accept c b { b with ctl.cfg.wader := w } []) ∧
  Carries 0x0D05 .captureSyncCal
    (fun _ b => b.vol.wader.cal = none ∧ b.cfg.wader.txEnable = true ∧ b.cfg.wader.rxEnable = true ∧
      ∀ p, p < 4 → (b.port p).state.armed = false)
    (fun c b =>
      let r : CalRun :=
        { cmd := c, master := fld c.packet.params 0 1 == 0, pulses := fld c.packet.params 1 1, driven := 0, readings := [],
          peer := 0 }
      { b with vol.wader.cal := some r }) ∧
  Carries 0x0D05 .captureSyncCal
    (fun _ b => b.vol.wader.cal = none ∧ (b.cfg.wader.txEnable && b.cfg.wader.rxEnable) = false)
    (fun c b => refuse c b erState 0) ∧
  Carries 0x0D06 .captureStatus (fun _ _ => True)
    (fun c b => answer c b (leBytes 2 b.blocksAssigned ++ zeros 2 ++ leBytes 4 b.vol.wader.edges ++
      (List.range 4).flatMap (portStatus b)))

/-- R387, R389 to R392, R394, R395: the rows of Wader. -/
def Obligations.CaptureEvents : Prop :=
  (∀ (p : Nat) (s : State), (s.port p).state = .prefill →
    exec (.capturePrefillComplete p) s = .next (s.modPort p fun x => { x with state := .waiting })) ∧
  (∀ (p k : Nat) (c : PortSettings) (s : State), s.portSet p = some c → (s.port p).state = .waiting → c.trgOut = false →
    (k % 16 / 2 * 2) &&& c.mask ≠ 0 →
    ∃ t, exec (.captureTriggerFired p k) s = .next t ∧ t = s.modPort p fun x =>
      { x with state := .post, trigger := some ⟨(k % 16 / 2 * 2) % 16 &&& c.mask, s.ctl.time.stb, s.mtbNs, 0, false, false⟩ }) ∧
  (∀ (p k : Nat) (c : PortSettings) (s : State), s.portSet p = some c → (s.port p).state = .post →
    (k % 16 / 2 * 2) &&& c.mask ≠ 0 →
    exec (.captureTriggerFired p k) s = .next (ignoreTrigger p s)) ∧
  (∀ (p : Nat) (c : PortSettings) (s : State), s.portSet p = some c → (s.port p).state = .post → c.repeated = false →
    p < s.vol.wader.ports.length →
    ∃ t r, exec (.captureRecordComplete p) s = .next t ∧ (t.port p).state = .idle ∧
      (t.port p).records = (s.port p).records ++ [r] ∧ r.seq = (s.vol.wader.seq + 1) % 2 ^ 32 ∧ r.sent = 0 ∧
      t.vol.wader.seq = r.seq ∧ (t.port p).lastSeq = r.seq ∧ (t.port p).sealedNo = satInc 32 (s.port p).sealedNo ∧
      t.ctl = s.ctl) ∧
  (∀ (p : Nat) (c : PortSettings) (s : State), s.portSet p = some c → (s.port p).state = .waitRoom →
    hasRoom c (s.port p) = true →
    exec (.captureRoomAvailable p) s = .next (s.modPort p fun x => { x with state := .prefill })) ∧
  (∀ (p : Nat) (c : PortSettings) (s : State), s.portSet p = some c → (s.port p).state = .waitRoom →
    hasRoom c (s.port p) = false → exec (.captureRoomAvailable p) s = .next s) ∧
  (∀ (p m : Nat) (d : List Byte) (s : State),
    ((List.range 4).map fun k => (s.vol.wader.turn + k) % 4).find? (fun p => (drainable p s).isSome) = some p →
    drainable p s = some (m, d) →
    ∃ t, exec .captureRecordDrain s = .next t ∧ t.vol.wader.turn = (p + 1) % 4 ∧ t.ctl = s.ctl ∧
      (∀ q, q ≠ p → t.port q = s.port q) ∧ (t.port p).state = (s.port p).state) ∧
  (∀ (w f : Nat) (s : State), s.cfg.wader.rxEnable = true → s.vol.wader.lastEdge = none → s.vol.wader.cal = none →
    (∀ p, p < 4 → ∀ c ∈ s.portSet p, c.mask.testBit 4 = false) →
    exec (.syncTrgEdge w f) s = .next { s with
      vol.wader := { s.vol.wader with edges := satInc 32 s.vol.wader.edges, lastEdge := some s.mtbNs } }) ∧
  (∀ (w f e : Nat) (s : State), s.vol.wader.lastEdge = some e → s.mtbNs < e + 1000 → exec (.syncTrgEdge w f) s = .next s) ∧
  (∀ (w f : Nat) (s : State), s.cfg.wader.rxEnable = false → exec (.syncTrgEdge w f) s = .next s) ∧
  (∀ (x w : Nat) (r : CalRun) (s : State), s.vol.wader.cal = some r → r.driven + 1 < r.pulses →
    ∃ t q, exec (.syncCalPulse true x w) s = .next t ∧ t.vol.wader.cal = some q ∧ q.readings = r.readings ++ [x] ∧
      q.driven = r.driven + 1 ∧ t.vol.wader.driven = s.vol.wader.driven + 1 ∧ q.cmd = r.cmd ∧ t.ctl = s.ctl) ∧
  (∀ (r : CalRun) (s : State), s.vol.wader.cal = some r → s.vol.wader.calWait = [] → r.readings ≠ [] →
    ∃ t, exec .syncCalTimeout s = .next t ∧ t.vol.wader.cal = none ∧
      t = calNext [] (finish r.cmd 0 0 (leBytes 4 (r.readings.sum / r.readings.length) ++
        leBytes 4 (r.readings.foldl max 0 - r.readings.foldl min (r.readings.headD 0)) ++
        leBytes 1 r.readings.length ++ leBytes 1 r.peer ++ zeros 2) s)) ∧
  (∀ (r : CalRun) (s : State), s.vol.wader.cal = some r → s.vol.wader.calWait = [] → r.readings = [] →
    exec .syncCalTimeout s = .next (calNext [] (finish r.cmd erTimeout 0 [] s)))

/-- R398 to R400, R406, R411, R413, R418, R419 and the opcode pages of chapter 17. It rests on the model's choices of logs 15 and 39. -/
def Obligations.FedOpcodes : Prop :=
  Carries 0x0E01 .fedConfig
    (fun c b => b.cfg.fed.controller = some (fld c.packet.params 0 1) ∧ b.cfg.fed.district = fld c.packet.params 1 1 ∧
      b.cfg.fed.site = fld c.packet.params 4 4)
    (fun c b =>
      let x := { b.cfg.fed with exports := fld c.packet.params 2 1 }
      accept c b { b with ctl.cfg.fed := x } []) ∧
  Carries 0x0E01 .fedConfig
    (fun c b => b.cfg.fed.controller ≠ some (fld c.packet.params 0 1) ∧ b.ctl.conns = [] ∧ b.livePeers = [])
    (fun c b =>
      let ps := c.packet.params
      let x := { b.cfg.fed with
        controller := some (fld ps 0 1), district := fld ps 1 1, exports := fld ps 2 1, site := fld ps 4 4 }
      accept c b (startPeerings { b with ctl.cfg.fed := x }) []) ∧
  Carries 0x0E01 .fedConfig
    (fun c b => b.cfg.fed.controller ≠ some (fld c.packet.params 0 1) ∧ b.ctl.conns.length + b.livePeers.length ≠ 0)
    (fun c b => refuse c b erState (b.ctl.conns.length + b.livePeers.length)) ∧
  Carries 0x0E02 .fedPort (fun c _ => fld c.packet.params 1 1 = 1)
    (fun c b =>
      let ps := c.packet.params
      let x : SitePort :=
        { enable := true, mode := fld ps 2 1, v4Prefix := fld ps 3 1, ipv4 := slice ps 4 4, gw4 := slice ps 8 4,
          v6Prefix := fld ps 12 1, udpPort := fld ps 14 2, ipv6 := slice ps 16 16, gw6 := slice ps 32 16 }
      let t : State := { b.draw.2 with ctl.cfg.fed := { b.cfg.fed with ports := b.cfg.fed.ports.set (fld ps 0 1) x } }
      accept c b t (leBytes 1 (b2n (Config.flag 0x11 b.draw.1)) ++ zeros 3)) ∧
  Carries 0x0E03 .fedPeer (fun c b => b.cfg.fed.controller = some (fld c.packet.params 1 1)) (fun c b => refuse c b erRange 1) ∧
  Carries 0x0E03 .fedPeer
    (fun c b => b.cfg.fed.controller ≠ some (fld c.packet.params 1 1) ∧ fld c.packet.params 0 1 = 0 ∧
      b.peer (fld c.packet.params 1 1) = none)
    (fun c b =>
      let k := fld c.packet.params 1 1
      let t : State := { b with ctl.cfg.fed := { b.cfg.fed with peers := tdel b.cfg.fed.peers k } }
      let u := t.modFed fun f => { f with peers := tdel f.peers k }
      accept c b u (leBytes 1 u.cfg.fed.peers.length ++ zeros 3)) ∧
  Carries 0x0E03 .fedPeer
    (fun c b => b.cfg.fed.controller ≠ some (fld c.packet.params 1 1) ∧ fld c.packet.params 0 1 = 1 ∧
      tget b.cfg.fed.peers (fld c.packet.params 1 1) = none ∧ b.cfg.fed.peers.length < 127 ∧
      b.boundOther (fld c.packet.params 1 1) (fld c.packet.params 2 1) = none)
    (fun c b =>
      let ps := c.packet.params
      let x : PeerSettings :=
        { flags := fld ps 2 1, ports := fld ps 3 1, ip := slice ps 4 16, udpPort := fld ps 20 2, pubA := slice ps 24 49,
          pubB := slice ps 73 49 }
      let t : State := { b with ctl.cfg.fed := { b.cfg.fed with peers := tput b.cfg.fed.peers (fld ps 1 1) x } }
      accept c b (startHandshake (fld ps 1 1) t) (leBytes 1 t.cfg.fed.peers.length ++ zeros 3)) ∧
  Carries 0x0E03 .fedPeer
    (fun c b => b.cfg.fed.controller ≠ some (fld c.packet.params 1 1) ∧ fld c.packet.params 0 1 = 1 ∧
      tget b.cfg.fed.peers (fld c.packet.params 1 1) = none ∧ 127 ≤ b.cfg.fed.peers.length)
    (fun c b => refuse c b erCapacity 0) ∧
  Carries 0x0E04 .fedHandover (fun c b => b.conn (fld c.packet.params 0 2) = none) (fun c b => refuse c b erState 1) ∧
  (∀ k : Conn, Carries 0x0E04 .fedHandover
    (fun c b => b.conn (fld c.packet.params 0 2) = some k ∧ b.covered (fld c.packet.params 0 2) = true)
    (fun c b => refuse c b erState 2)) ∧
  (∀ k : Conn, Carries 0x0E04 .fedHandover
    (fun c b => b.conn (fld c.packet.params 0 2) = some k ∧ b.covered (fld c.packet.params 0 2) = false ∧
      b.alignedWith (fld c.packet.params 2 1) = true ∧ b.taskOf (fld c.packet.params 0 2) = none ∧
      b.livePeers.contains (fld c.packet.params 2 1) = true)
    (fun c b =>
      let ps := c.packet.params
      let r := fedRequest (fld ps 2 1) 12 (offerBody (b.offer (fld ps 0 2) (fld ps 3 1) (fld ps 4 1) k)) b
      let h : SourceHandover :=
        { node := fld ps 0 2, target := fld ps 2 1, txn := r.1, cmd := some c, stage := .offered, instant := 0 }
      { r.2 with ctl.handovers := { r.2.ctl.handovers with sources := r.2.ctl.handovers.sources ++ [h] } })) ∧
  Carries 0x0E05 .fedSiteStop
    (fun c b => siteStopRange c.packet.params = none ∧ fld c.packet.params 0 1 = 0 ∧
      b.suppressor 7 (fld c.packet.params 1 1) = none)
    (fun c b =>
      let r := newStop 7 (fld c.packet.params 1 1) [] .siteOwn b
      accept c b r.2 (leBytes 2 r.1 ++ zeros 2)) ∧
  Carries 0x0E05 .fedSiteStop
    (fun c b => siteStopRange c.packet.params = none ∧ fld c.packet.params 0 1 = 1 ∧
      b.mayReleaseFor (fld c.packet.params 2 1) = false)
    (fun c b => refuse c b erState (fld c.packet.params 2 1)) ∧
  Carries 0x0E06 .fedStatus (fun _ _ => True)
    (fun c b => answer c b (leBytes 1 b.ctlId ++ leBytes 1 b.cfg.fed.district ++ leBytes 1 b.coordinator ++
      leBytes 1 b.cfg.fed.peers.length ++ leBytes 4 (b.ctl.handovers.sources.filter fun h => h.stage != .offered).length ++
      b.cfg.fed.peers.flatMap fun e =>
        let r := (b.peer e.1).getD PeerRun.start
        leBytes 1 e.1 ++ leBytes 1 (peerCode r.state) ++ leBytes 1 r.edition ++
          leBytes 1 (b2n r.aligned + 2 * b2n r.mismatch) ++ leBytes 2 r.roundTrip ++ zeros 2))

/-- R400, R401, R403 to R405, R411, R412, R420: the rows of peerings. It rests on the model's choices of logs 17 and 21. -/
def Obligations.PeeringMessages : Prop :=
  (∀ (h : FedHead) (s : State), (fedAccept h s).isSome = true ↔
    ∃ r, s.peer h.src = some r ∧ r.state = .live ∧
      (r.seqHigh < h.seq ∨ (r.seqHigh ≤ h.seq + 64 ∧ h.seq ≠ r.seqHigh ∧ h.seq ∉ r.seen))) ∧
  (∀ (h : FedHead) (d : List Byte) (s : State), fedAccept h s = none → exec (.fedRtcmReceived h d) s =
    .next (s.modFed fun f => { f with discarded := satInc 32 f.discarded })) ∧
  (∀ (h : FedHead) (d : List Byte) (s u : State), fedAccept h s = some u → u.servesNow 8 (0x900 + h.src) = false →
    exec (.fedRtcmReceived h d) s =
      .next (enqueue { newItem 8 (0x900 + h.src) 0 with work := some (.fedRtcmReceived h d) } u)) ∧
  (∀ (h : FedHead) (d : List Byte) (s u : State), fedTaken h s = some u →
    exec (.fedRtcmReceived h d) s = .next (takeInput d u).2.2) ∧
  (∀ (k : Nat) (b : List Byte) (me : Nat) (x : PeerSettings) (s : State), s.cfg.fed.controller = some me →
    tget s.cfg.fed.peers k = some x → k < me → b.length = 66 → fedEdition (fld b 65 1) ≠ 0 →
    s.servesNow 8 (0x900 + k) = true →
    ∃ t r, exec (.helloReceived k b) s = .next t ∧ t.peer k = some r ∧ r.state = .handshaking ∧
      r.edition = fedEdition (fld b 65 1) ∧ (∃ m ∈ t.out.site, m.kind = 1 ∧ m.peer = k ∧ m.type = 2) ∧
      t.ctl = s.ctl) ∧
  (∀ (k : Nat) (b : List Byte) (r : PeerRun) (s : State), s.peer k = some r → r.state = .handshaking → s.ctlId ≤ k →
    fld b 65 1 ≠ 0 → s.servesNow 8 (0x900 + k) = true →
    ∃ t q, exec (.helloRspReceived k b) s = .next t ∧ t.peer k = some q ∧ t.ctl = s.ctl ∧
      (s.peerSigned k (Config.sha384 (r.transcript ++ b.take 66)) ((b.drop 66).take 96) = true →
        q.state = .live ∧ q.edition = fld b 65 1 ∧ q.seqHigh = 0) ∧
      (s.peerSigned k (Config.sha384 (r.transcript ++ b.take 66)) ((b.drop 66).take 96) = false → q.state = .absent)) ∧
  (∀ (k : Nat) (b : List Byte) (r : PeerRun) (s : State), s.peer k = some r → r.state = .handshaking → k ≤ s.ctlId →
    s.servesNow 8 (0x900 + k) = true →
    ∃ t q, exec (.helloFinReceived k b) s = .next t ∧ t.peer k = some q ∧ t.ctl = s.ctl ∧
      (s.peerSigned k (Config.sha384 r.transcript) b = true → q.state = .live ∧ q.edition = r.edition) ∧
      (s.peerSigned k (Config.sha384 r.transcript) b = false → q.state = .absent)) ∧
  (∀ (k : Nat) (r : PeerRun) (s : State), s.peer k = some r → r.state ≠ .live →
    exec (.handshakeRetry k) s = .next (startHandshake k s)) ∧
  (∀ (k : Nat) (r : PeerRun) (s : State), s.peer k = some r → r.state = .live →
    exec (.peerLivenessTimeout k) s = .next (startHandshake k (fedEvent 2 k 0 0 (s.modPeer k fun r =>
      { r with state := .absent, lostAt := some s.mtb, requests := [] })))) ∧
  (∀ (me : Nat) (s : State), s.cfg.fed.controller = some me →
    exec .fedStatusSend s = .next (s.livePeers.foldl (fun s k => fedSend k 4 0 s.fedStatus s) s)) ∧
  (∀ (h : FedHead) (v : List Byte) (co : Nat) (g : List Byte) (n : Nat) (s u : State), fedTaken h s = some u →
    ∃ t r, exec (.fedStatusReceived h v co g n) s = .next t ∧ t.peer h.src = some r ∧ r.liveSet = v ∧ r.coordinator = co ∧
      r.digest = g ∧ r.digestDiff = (h.district == s.cfg.fed.district && g != u.ownDigest) ∧ t.ctl = s.ctl) ∧
  (∀ (k x : Nat) (r : PeerRun) (q : FedRequest) (s : State), s.peer k = some r →
    (r.requests.find? fun q => q.txn == x) = some q →
    exec (.fedRetransmit k x) s = .next (fedSendAs true k q.type x q.body s)) ∧
  (∀ (k x : Nat) (s : State), exec (.responseCacheExpiry k x) s = .next (s.modPeer k fun r =>
    { r with responses := r.responses.filter fun y => y.txn != x })) ∧
  (∀ (e : Nat × PeerRun) (s : State), s.vol.fed.disagree = false →
    (s.vol.fed.peers.find? fun e => e.2.state == .live && e.2.district == s.cfg.fed.district &&
      e.2.coordinator != s.coordinator) = some e →
    exec .coordinatorDisagreementTimer s =
      .next (fedEvent 4 e.1 0 e.2.coordinator (s.modFed fun f => { f with disagree := true }))) ∧
  (∀ (k : Nat) (r : PeerRun) (s : State), s.peer k = some r → r.state = .live → r.digestDiff = true → r.mismatch = false →
    ∃ t q, exec (.digestMismatchTimer k) s = .next t ∧ t.peer k = some q ∧ q.mismatch = true ∧
      (s.coordinator = s.ctlId → t.hsw.irqCause.getLsbD irqAlarm = true)) ∧
  (∀ (h : FedHead) (op n : Nat) (p : Packet) (r : PeerRun) (s u : State), s.peer h.src = some r → r.edition = 2 →
    (n = 2 ∨ n = 3) → p.session = n → s.boundPeer n = some h.src → s.canFetch (siteVia n) = true → fedTaken h s = some u →
    exec (.fedUcpReceived h op p) s = .next (fetchPacket op { p with via := siteVia n } false u))

/-- R310, R322, R403, R406 to R410, R412: RESERVE, COMMIT and RELEASE at both ends. It rests on the model's choices of logs 15 and 21. -/
def Obligations.BorderMessages : Prop :=
  (∀ (h : FedHead) (b : List Byte) (n : Nat) (want : List (Nat × Nat × Window)) (s u : State), FedNews h s u →
    u.readReserve b = (n, false, want) → u.atbAligned = true → h.aligned = true → u.inMismatch = false →
    (∀ e ∈ want, (u.segment e.2.1).map Segment.owner = some u.ctlId) → u.clash n want = none →
    exec (.reserveReceived h b) s = .next (fedRespond h 7 (reserveRsp 0 0 0 none) ((countCheck u).modFed fun f =>
      { f with tentative := f.tentative ++ [⟨h.src, h.txn, want.map fun e => (e.2.1, e.2.2)⟩] }))) ∧
  (∀ (h : FedHead) (b : List Byte) (n k g : Nat) (v : Window) (want : List (Nat × Nat × Window)) (s u : State), FedNews h s u →
    u.readReserve b = (n, false, want) → u.atbAligned = true → h.aligned = true → u.inMismatch = false →
    (∀ e ∈ want, (u.segment e.2.1).map Segment.owner = some u.ctlId) → u.clash n want = some (.conflict k g v) →
    exec (.reserveReceived h b) s = .next (fedRespond h 7 (reserveRsp 1 k g (some v)) (countCheck u))) ∧
  (∀ (h : FedHead) (b : List Byte) (s u : State), FedNews h s u → (u.atbAligned && h.aligned) = false →
    exec (.reserveReceived h b) s = .next (fedRespond h 7 (reserveRsp 3 0 0 none) u)) ∧
  (∀ (h : FedHead) (b : List Byte) (r : FedResponse) (s u : State), fedTaken h s = some u →
    ((u.peer h.src).getD PeerRun.start).responses.find? (fun x => x.txn == h.txn) = some r →
    let again := Host.Outcome.next (fedSend h.src r.type h.txn r.body u)
    exec (.reserveReceived h b) s = again ∧ exec (.commitReceived h b) s = again ∧ exec (.releaseReceived h b) s = again ∧
      (∀ n o, exec (.handoverDoneReceived h n o) s = again) ∧ (∀ o, exec (.handoverOfferReceived h o) s = again) ∧
      (∀ o n k, exec (.siteStopReceived h o n k) s = again) ∧ (∀ o n, exec (.siteReleaseReceived h o n) s = again) ∧
      (fedSend h.src r.type h.txn r.body u).ctl = s.ctl) ∧
  (∀ (h : FedHead) (b : List Byte) (x : Tentative) (e : Nat × Window) (l : List (Nat × Window)) (s u : State), FedNews h s u →
    beNat (slice b 0 1) = 1 → (u.vol.fed.tentative.find? fun t => t.peer == h.src && t.txn == beNat (slice b 1 4)) = some x →
    x.windows = e :: l →
    exec (.commitReceived h b) s = .next (fedRespond h 9 (beBytes 1 0) (replaceWindows e.2.node x.windows (u.modFed fun f =>
      { f with tentative := f.tentative.filter fun t => !(t.peer == h.src && t.txn == beNat (slice b 1 4)) })))) ∧
  (∀ (h : FedHead) (b : List Byte) (s u : State), FedNews h s u → beNat (slice b 0 1) = 1 →
    (u.vol.fed.tentative.find? fun t => t.peer == h.src && t.txn == beNat (slice b 1 4)) = none →
    exec (.commitReceived h b) s = .next (fedRespond h 9 (beBytes 1 5) u)) ∧
  (∀ (h : FedHead) (b : List Byte) (s u : State), FedNews h s u →
    ∃ t, exec (.releaseReceived h b) s = .next t ∧ ∀ k < beNat (slice b 2 1),
      ∀ e ∈ t.ctl.dyke.windows, e.1 = beNat (slice b (3 + 2 * k) 2) → ∀ w ∈ e.2, w.node ≠ beNat (slice b 0 2)) ∧
  (∀ (k x : Nat) (s : State), exec (.tentativeWindowExpiry k x) s = .next (s.modFed fun f =>
    { f with tentative := f.tentative.filter fun t => !(t.peer == k && t.txn == x) })) ∧
  (∀ (h : FedHead) (b : List Byte) (s u : State), fedTaken h s = some u → beNat (slice b 0 1) = 0 →
    exec (.reserveRspReceived h b) s = .next (borderAccepted h.txn (endRequest h u)) ∧
    exec (.commitAckReceived h b) s = .next (borderAcked h.txn (endRequest h u))) ∧
  (∀ (h : FedHead) (b : List Byte) (r : BorderRun) (s u : State), fedTaken h s = some u → 3 ≤ beNat (slice b 0 1) →
    (endRequest h u).borderOf h.txn = some r →
    exec (.reserveRspReceived h b) s = .next (refuseBorder r erTimeout h.src 0xFFFF [] (endRequest h u)) ∧
    exec (.commitAckReceived h b) s = .next (refuseBorder r erTimeout h.src 0xFFFF [] (endRequest h u))) ∧
  (∀ (h : FedHead) (s u : State), fedTaken h s = some u →
    exec (.releaseAckReceived h) s = .next (endRequest h u) ∧ exec (.doneAckReceived h) s = .next (endRequest h u) ∧
    exec (.siteStopAckReceived h) s = .next (endRequest h u) ∧ exec (.siteReleaseAckReceived h) s = .next (endRequest h u))

/-- R406, R413 to R416, R421: the rows of Table Fed-3. It rests on the model's choices of logs 7, 21 and 48. -/
def Obligations.MemberHandovers : Prop :=
  (∀ (h : FedHead) (o : MemberOffer) (c : Conn) (i : Nat) (s u : State), FedNews h s u → u.offerCheck h o = .ok (c, i) →
    exec (.handoverOfferReceived h o) s =
      .next (fedRespond h 13 (beBytes 1 0 ++ beBytes 4 i ++ handoverPars u.ctlId c.par c.effMap)
        (bindFlow c.flow o.node { u with ctl.handovers := { u.ctl.handovers with
          targets := u.ctl.handovers.targets ++ [⟨h.src, h.txn, o, c, i, false⟩] } }))) ∧
  (∀ (h : FedHead) (o : MemberOffer) (k : Nat) (s u : State), FedNews h s u → u.offerCheck h o = .error k →
    exec (.handoverOfferReceived h o) s = .next (fedRespond h 13 (beBytes 1 k ++ zeros 4) u)) ∧
  (∀ (h : FedHead) (i m : Nat) (par : ConnParams) (x : SourceHandover) (c : Conn) (s u : State), fedTaken h s = some u →
    (u.ctl.handovers.sources.find? fun x => x.txn == h.txn && x.target == h.src && x.stage == .offered) = some x →
    u.conn x.node = some c →
    exec (.handoverAcceptReceived h 0 i par m) s =
      .next (queueOrRecord x.node 0 (beBytes 1 7 ++ beBytes 2 (eventAt c i) ++ handoverPars x.target par m)
        (fedRequest x.target 8 (beBytes 1 2 ++ beBytes 4 x.txn)
          ((endRequest h u).modSource x.node fun y => { y with stage := .committed, instant := i })).2)) ∧
  (∀ (h : FedHead) (k i m : Nat) (par : ConnParams) (x : SourceHandover) (c : Conn) (s u : State), fedTaken h s = some u →
    k ≠ 0 → (u.ctl.handovers.sources.find? fun x => x.txn == h.txn && x.target == h.src && x.stage == .offered) = some x →
    u.conn x.node = some c →
    exec (.handoverAcceptReceived h k i par m) s = .next (failHandover x erConflict (0x0E00 + k) (endRequest h u))) ∧
  (∀ (n : Nat) (x : TargetHandover) (s : State),
    (s.ctl.handovers.targets.find? fun t => t.offer.node == n) = some x → x.commit = true →
    (passToAtb (atbOfAsn x.instant) s).servesNow 6 x.conn.flow = true → (∀ e ∈ s.ctl.conns, e.2.memberId ≠ x.conn.memberId) →
    ∃ t, exec (.handoverInstant n) s = .next t ∧ t.conn n = some x.conn ∧
      (t.ctl.handovers.targets.find? fun t => t.offer.node == n) = none ∧
      t.ctl.dyke.windows = s.ctl.dyke.windows ∧ t.ctl.sluice = s.ctl.sluice) ∧
  (∀ (n : Nat) (x : TargetHandover) (s : State),
    (s.ctl.handovers.targets.find? fun t => t.offer.node == n) = some x → x.commit = false →
    ∃ t, exec (.handoverInstant n) s = .next t ∧ t.ctl.conns = s.ctl.conns ∧
      (t.ctl.handovers.targets.find? fun t => t.offer.node == n) = none ∧ t.ctl.dyke = s.ctl.dyke) ∧
  (∀ (h : FedHead) (n : Nat) (x : SourceHandover) (s u : State), FedNews h s u → u.source n = some x → x.stage ≠ .offered →
    x.target = h.src → (u.conn n).isSome = true → u.servesNow 6 (u.flowOf n) = true →
    ∃ t, exec (.handoverDoneReceived h n 1) s = .next t ∧ t.conn n = none ∧ t.source n = none ∧
      t.ctl.dyke.windows = s.ctl.dyke.windows ∧ t.allot n = none) ∧
  (∀ (h : FedHead) (n : Nat) (x : SourceHandover) (s u : State), FedNews h s u → u.source n = some x → x.stage ≠ .offered →
    x.target = h.src →
    ∃ t, exec (.handoverDoneReceived h n 2) s = .next t ∧ t.ctl.conns = s.ctl.conns ∧ t.source n = none) ∧
  (∀ (n : Nat) (x : SourceHandover) (s : State), s.source n = some x → x.stage = .offered →
    exec (.handoverAcceptTimeout n) s = .next (failHandover x erTimeout x.target s)) ∧
  (∀ (n : Nat) (x : SourceHandover) (s : State), s.source n = some x → x.stage = .committed →
    exec (.handoverOutcomeTimeout n) s = .next (tellOutcome x 3 (fedRequest x.target 8 (beBytes 1 2 ++ beBytes 4 x.txn)
      (s.modSource n fun y => { y with stage := .unknown, cmd := none })).2))

/-- R287, R301, R403, R418, R419: SITE_STOP and SITE_RELEASE. -/
def Obligations.SiteStops : Prop :=
  (∀ (h : FedHead) (o n k : Nat) (s u : State), FedNews h s u → o ≠ u.ctlId → seenPair u.vol.fed.siteStops u.mtb o n = false →
    u.suppressor 7 k = none →
    ∃ t x, exec (.siteStopReceived h o n k) s = .next t ∧ x ∈ t.stops ∧ x.cause = 7 ∧ x.category = k ∧ x.targets = [] ∧
      x.site = some ⟨o, n, false⟩ ∧ t.ctl.sluice.grantMap = 0 ∧ k ≤ t.allCat ∧
      t.ctl.sluice.stopSeq = (s.ctl.sluice.stopSeq + 1) % 65536) ∧
  (∀ (h : FedHead) (o n k : Nat) (s u : State), FedNews h s u → (o = u.ctlId ∨ seenPair u.vol.fed.siteStops u.mtb o n = true) →
    exec (.siteStopReceived h o n k) s = .next (fedRespond h 17 [] u)) ∧
  (∀ (h : FedHead) (o n : Nat) (s u : State), FedNews h s u → o ≠ u.ctlId → seenPair u.vol.fed.siteRels u.mtb o n = false →
    ∃ t, exec (.siteReleaseReceived h o n) s = .next t ∧ t.stops.map Stop.no = s.stops.map Stop.no ∧
      (∀ x ∈ t.stops, ∀ r ∈ x.site, r.origin = o → r.number = n → r.released = true) ∧
      t.ctl.sluice.grantMap = s.ctl.sluice.grantMap) ∧
  (∀ (h : FedHead) (o n : Nat) (s u : State), FedNews h s u → (o = u.ctlId ∨ seenPair u.vol.fed.siteRels u.mtb o n = true) →
    exec (.siteReleaseReceived h o n) s = .next (fedRespond h 19 [] u))

/-- R442, R449, R450, R454, R456, R457 and the opcode pages of chapter 19. -/
def Obligations.SecurityOpcodes : Prop :=
  Carries 0x1001 .secAttest (fun _ b => b.act.security.record.state = .shipping) (fun c b => refuse c b erState 0) ∧
  Carries 0x1001 .secAttest (fun _ b => b.act.security.record.state ≠ .shipping)
    (fun c b =>
      let t := b.modAct fun d =>
        { d with security := { d.security with attestCount := (d.security.attestCount + 1) % 2 ^ 32 } }
      let x := statement c.packet.params t.draw.1 t.draw.2
      answer c t.draw.2 (x ++ slice (Config.ecdsaSign (10 + sideNo b.actId) x t.draw.1) 0 96)) ∧
  Carries 0x1002 .secCert (fun _ _ => True)
    (fun c b =>
      let x := Config.certificate (sideNo b.actId) 0
      let y := Config.certificate (sideNo b.actId) 1
      answer c b (leBytes 2 2 ++ zeros 2 ++ leBytes 2 x.length ++ x ++ leBytes 2 y.length ++ y)) ∧
  Carries 0x1003 .secKeyImport
    (fun c b => keyKindError c.packet.params = none ∧ b.act.security.record.state ≠ .shipping ∧
      fld c.packet.params 4 4 ≤ b.hsw.nv.importCtr)
    (fun c b => refuse c b erRange 4) ∧
  Carries 0x1003 .secKeyImport
    (fun c b =>
      let ps := c.packet.params
      fld ps 0 1 = 2 ∧ keyKindError ps = none ∧ b.act.security.record.state ≠ .shipping ∧ b.hsw.nv.importCtr < fld ps 4 4)
    (fun c b =>
      let ps := c.packet.params
      match Config.gcmOpen (sideByte b.actId :: slice ps 0 68) (slice ps 68 12) (slice ps 80 48) (slice ps 128 16) with
      | none => refuse c b erAuth 0
      | some m =>
        if 1 ≤ beNat (slice m 0 48) ∧ beNat (slice m 0 48) < p384Order then
          accept c b
            { acceptCounter (fld ps 4 4) b with ctl.cfg.keys := { b.cfg.keys with signing := some (slice m 0 48) } }
            (slice (Config.p384Public (slice m 0 48)) 0 49)
        else refuse c b erRange 80) ∧
  Carries 0x1003 .secKeyImport
    (fun c b =>
      let ps := c.packet.params
      fld ps 0 1 = 1 ∧ b.act.security.record.state ≠ .shipping ∧ b.hsw.nv.importCtr < fld ps 4 4 ∧
        fld ps 8 4 = 0 ∧ b.ctl.conns = [] ∧ b.cfg.keys.next = none ∧ b.cfg.keys.current = none)
    (fun c b =>
      let ps := c.packet.params
      match Config.gcmOpen (sideByte b.actId :: slice ps 0 68) (slice ps 68 12) (slice ps 80 48) (slice ps 128 16) with
      | none => refuse c b erAuth 0
      | some m =>
        let k : SiteKey := { keyId := fld ps 1 1, key := slice m 0 16, switchAsn := 0 }
        accept c b
          { acceptCounter (fld ps 4 4) b with ctl.cfg.keys := { b.cfg.keys with current := some k, former := none } }
          (leBytes 1 (fld ps 1 1) ++ zeros 3 ++ leBytes 4 0)) ∧
  Carries 0x1004 .secStatus (fun _ _ => True)
    (fun c b =>
      let k := b.cfg.keys
      let id := fun o : Option SiteKey => (o.map (·.keyId)).getD 0xFF
      answer c b (b.sideA.security.record.bytes ++ b.sideB.security.record.bytes ++ leBytes 1 (id k.current) ++
        leBytes 1 (id k.next) ++ leBytes 1 (b2n k.signing.isSome) ++ zeros 1 ++
        leBytes 4 ((k.next.map (·.switchAsn)).getD 0) ++ leBytes 4 b.hsw.nv.importCtr ++ leBytes 4 b.hsw.keyFaults)) ∧
  Carries 0x1005 .secDebugUnlock
    (fun c _ => fld c.packet.params 0 1 = 0 ∧ (slice c.packet.params 4 96).any (· != 0) = false)
    (fun c b =>
      let x := slice (Config.random 32 b.draw.1) 0 32
      answer c { b.draw.2 with vol.sec := { b.vol.sec with challenge := some x } } x) ∧
  Carries 0x1005 .secDebugUnlock (fun c b => fld c.packet.params 0 1 = 1 ∧ b.vol.sec.challenge = none)
    (fun c b => refuse c b erState 0) ∧
  (∀ x : List Byte, Carries 0x1005 .secDebugUnlock
    (fun c b => fld c.packet.params 0 1 = 1 ∧ b.vol.sec.challenge = some x ∧ b.standbyOk = false)
    (fun c b => refuse c b erState 1)) ∧
  (∀ x : List Byte, Carries 0x1005 .secDebugUnlock
    (fun c b => fld c.packet.params 0 1 = 1 ∧ b.vol.sec.challenge = some x ∧ b.standbyOk = true)
    (fun c b =>
      if Config.ecdsaVerify 1 (Config.sha384 (debugMessage b x)) (slice c.packet.params 4 96) = true then unlockDebug c b
      else refuse c { b with vol.sec := { b.vol.sec with challenge := none } } erAuth 0))

/-- R442, R444 to R446, R448, R450, R455: TAMPER_DETECTED, TAMPER_REPORT, KEY_FAULT, DEBUG_CHALLENGE_EXPIRY. -/
def Obligations.TamperEvents : Prop :=
  (∀ (x : SideId) (n v : Nat) (c : Int) (k : Bool) (s : State), (s.side x).security.record.state = .armed → s.trips n ≠ 0 →
    s.hsw.active ≠ some x → (s.side x).start = none →
    ∃ t, exec (.tamperDetected x n c v k) s = .next t ∧ (t.side x).security.record.state = .locked ∧
      (t.side x).security.record.sensors = s.trips n ∧ (t.side x).security.record.temp = c ∧
      (t.side x).security.crownValid = false ∧ (t.side x).security.pairing = false ∧
      (t.side x).security.otherStores = false ∧ (t.side x).ckpts = CkptArea.empty ∧ (t.side x).power = .poweredDown ∧
      (t.side x).startRec.kind = 7 ∧ (x = .a → t.hsw.nv.tamperA = true) ∧ (x = .b → t.hsw.nv.tamperB = true)) ∧
  (∀ (x : SideId) (n v : Nat) (c : Int) (k : Bool) (s : State), (s.side x).security.record.state = .armed → s.trips n ≠ 0 →
    s.hsw.active = some x → (s.side x).start = none → (s.side x).mainOn = true → s.vol.redun.relinquish = none →
    s.hsw.warned = false →
    ∃ t, exec (.tamperDetected x n c v k) s = .next t ∧ (t.side x).security.record.state = .locked ∧
      (t.side x).security.crownValid = false ∧ t.hsw.lastCause = 9 ∧ t.hsw.serving = false ∧ t.hsw.handoverN = true) ∧
  (∀ (x : SideId) (n v : Nat) (c : Int) (k : Bool) (s : State),
    ((s.side x).security.record.state ≠ .armed ∨ s.trips n = 0) → exec (.tamperDetected x n c v k) s = .next s) ∧
  (∀ (n : Nat) (s : State), (s.trips n).testBit 3 = true → s.env.vinBelow = true) ∧
  (∀ s : State, s.hsw.serving = true → s.hsw.nv.tamperA = true → s.hsw.nv.tamperB = false → s.ctl.time.stb = none →
    (s.sess 0).isOpen = true →
    ∃ t, exec .tamperReport s = .next t ∧ t.hsw.nv.tamperA = false ∧ t.hsw.nv.tamperB = false ∧ t.ctl = s.ctl ∧
      t.sideA.security = s.sideA.security) ∧
  (∀ s : State, s.hsw.nv.tamperA = false → s.hsw.nv.tamperB = false → exec .tamperReport s = .next s) ∧
  (∀ (e : Nat) (s : State), s.actOn = true → ∃ t, exec (.keyFault e none) s = .next t ∧
    t.hsw.keyFaults = satInc 32 s.hsw.keyFaults ∧ t.hsw.irqCause.getLsbD irqTamper = true ∧ t.ctl = s.ctl) ∧
  (∀ s : State, exec .debugChallengeExpiry s = .next { s with vol.sec := { s.vol.sec with challenge := none } })

/-- R460, R461, R463 to R466, R468, R472, R474, R476 and the opcode pages of chapter 20. -/
def Obligations.UpdateOpcodes : Prop :=
  Carries 0x1101 .updateBegin (fun c b => LockedOut c b) (fun c b => lockRefusal c b) ∧
  Carries 0x1102 .updateChunk (fun c b => LockedOut c b) (fun c b => lockRefusal c b) ∧
  Carries 0x1103 .updateApply (fun c b => LockedOut c b) (fun c b => lockRefusal c b) ∧
  Carries 0x1104 .updateActivate (fun c b => LockedOut c b) (fun c b => lockRefusal c b) ∧
  Carries 0x1105 .updateEnd (fun c b => LockedOut c b) (fun c b => lockRefusal c b) ∧
  Carries 0x1101 .updateBegin
    (fun c b =>
      let x := c.packet.params.drop 4
      let n := x.length - 96
      b.act.lock.held = false ∧ fld c.packet.params 0 1 = 0 ∧ manifestRangeError (manifestOf x) = none ∧ beginError (manifestOf x) b = none)
    (fun c b =>
      let x := c.packet.params.drop 4
      let n := x.length - 96
      let m := manifestOf x
      let g : Staging := { Staging.empty with manifest := some m, results := m.parts.map fun _ => .unverified }
      let t := setLock ⟨true, c.session, (b.sess c.session).hostId⟩ (b.modStaging fun _ => g)
      if Config.ecdsaVerify 0 (x.take n) (x.drop n) = false then refuse c b erAuth 0
      else if m.secVersion < b.act.floor then refuse c b erAuth 1
      else answer c t (beginReply t)) ∧
  (∀ m : Manifest, Carries 0x1102 .updateChunk
    (fun c b => b.act.lock.held = false ∧ b.act.staging.manifest = some m ∧ b.act.staging.blocks.length < m.nBlocks ∧
      fld c.packet.params 0 4 = b.act.staging.next ∧ fld c.packet.params 0 4 + fld c.packet.params 4 2 ≤ m.pkgLen)
    (fun c b =>
      let x := c.packet.params.drop 8
      let r := Staging.take m (x.length + 1) 0 x b.act.staging
      let t := b.modStaging fun _ => r.2
      let u := if r.1 = 2 then updateEvent 1 0 0 t else t
      answer c u (leBytes 4 r.2.next ++ leBytes 1 r.2.blocks.length ++ leBytes 1 r.1 ++ zeros 2))) ∧
  Carries 0x1102 .updateChunk (fun _ b => b.act.lock.held = false ∧ b.act.staging.manifest = none) (fun c b => refuse c b erState 0) ∧
  Carries 0x1103 .updateApply
    (fun _ b => b.act.lock.held = false ∧ b.act.staging.blocksLeft = false ∧ b.act.staging.applying = [])
    (fun c b => (beginApply b).modStaging fun g => { g with applying := g.applying ++ [c] }) ∧
  Carries 0x1103 .updateApply (fun _ b => b.act.lock.held = false ∧ b.act.staging.blocksLeft = true)
    (fun c b => refuse c b erState b.act.staging.next) ∧
  (∀ x : ManifestPart, Carries 0x1104 .updateActivate
    (fun c b => b.act.lock.held = false ∧ fld c.packet.params 0 1 = 2 ∧ b.act.staging.resultOf 2 = some .verified ∧
      b.act.staging.earlier 2 = none ∧ b.act.staging.entry 2 = some x ∧ (b.setWith x).conflict = none)
    (fun c b =>
      let t := activated 2 (b.modAct fun d =>
        { d with firmware := d.firmware.makePending
                 staging := { d.staging with confirmS := fld c.packet.params 2 2 } })
      let slot := (b.modAct fun d => { d with firmware := d.firmware.makePending }).act.firmware.flags.trialSlot
      answer c t (leBytes 1 slot ++ zeros 3))) ∧
  (∀ (x : ManifestPart) (d : Nat), Carries 0x1104 .updateActivate
    (fun c b => b.act.lock.held = false ∧ fld c.packet.params 0 1 = 2 ∧ b.act.staging.resultOf 2 = some .verified ∧
      b.act.staging.earlier 2 = none ∧ b.act.staging.entry 2 = some x ∧ (b.setWith x).conflict = some d)
    (fun c b => refuse c b erConflict d)) ∧
  Carries 0x1105 .updateEnd (fun c b => b.act.lock.held = false ∧ fld c.packet.params 0 1 = 0)
    (fun c b => answer c (setLock UpdateLock.free b) []) ∧
  Carries 0x1110 .updateStore (fun _ b => b.act.store.blocked = true) (fun c b => refuse c b erState 2) ∧
  Carries 0x1110 .updateStore (fun _ b => b.act.store.blocked = false)
    (fun c b =>
      let t := commitStore b.actId (pagesNeeded b).2.generation (pagesNeeded b).2
      if b.act.store.freePages < (pagesNeeded b).1 then refuse c b erCapacity b.act.store.freePages
      else answer c t (leBytes 4 t.act.store.dirSeq ++ leBytes 2 (pagesNeeded b).1 ++ leBytes 2 t.act.store.freePages))

/-- R463, R465, R466, R469, R470, R472: UPDATE.STATUS, UPDATE_APPLY_COMPLETE, UPDATE_LOCK_EXPIRY and their fellows. -/
def Obligations.UpdateStatusAndEvents : Prop :=
  Carries 0x1106 .updateStatus (fun _ _ => True)
    (fun c b =>
      let d := b.act
      let g := d.staging
      answer c b (leBytes 1 g.code ++ leBytes 1 (b2n d.lock.held) ++ leBytes 1 d.lock.session ++
        leBytes 1 g.blocks.length ++ leBytes 2 d.lock.hostId ++ leBytes 2 ((g.manifest.map (·.nBlocks)).getD 0) ++
        leBytes 4 g.next ++ leBytes 4 d.firmware.slot0.shown ++ leBytes 4 d.firmware.slot1.shown ++
        leBytes 1 d.firmware.flags.active ++ leBytes 1 d.firmware.trialByte ++ leBytes 1 b.hsw.nv.firmware.trialByte ++
        leBytes 1 (b2n d.store.kept.isSome) ++ leBytes 4 (b.other.firmware.slot b.other.firmware.nextSlot).version ++
        leBytes 4 b.hsw.nv.firmware.image.version ++ leBytes 4 b.cfg.radio.headsVer ++ leBytes 4 d.floor ++
        leBytes 2 d.store.freePages ++ leBytes 2 b.confirmLeft)) ∧
  (∀ (c : HostCmd) (l : List HostCmd) (m : Manifest) (s : State), s.actOn = true → s.act.staging.applying = c :: l →
    s.act.staging.manifest = some m →
    ∃ t, exec .updateApplyComplete s = .next t ∧ t.act.staging.applying = l ∧
      t.act.staging.results.length = m.parts.length ∧ (∀ r ∈ t.act.staging.results, r ≠ .unverified) ∧
      t.act.staging.manifest = some m ∧ t.ctl = s.ctl) ∧
  (∀ s : State, s.actOn = true → s.act.lock.held = true → s.holderOpen = false →
    exec .updateLockExpiry s = .next (updateEvent 6 0 0 (s.modAct fun d => { d with lock := UpdateLock.free }))) ∧
  (∀ s : State, (s.act.lock.held = false ∨ s.holderOpen = true) → exec .updateLockExpiry s = .next s) ∧
  (∀ s : State, s.actOn = true → s.act.firmware.onTrial = true → s.vol.redun.confirmFrom.isSome = true →
    s.standbyOk = false →
    ∃ t, exec .confirmationWindowExpiry s = .next t ∧ t.act.firmware.onTrial = false ∧ t.vol.redun.confirmFrom = none ∧
      t.ctl = s.ctl) ∧
  (∀ s : State, s.vol.redun.confirmFrom = none → exec .confirmationWindowExpiry s = .next s) ∧
  (∀ s : State, s.hsw.restartDue = true → s.hsw.ready = true →
    ∃ t, exec .hostSwitchRestart s = .next t ∧ t.hsw.ready = false ∧ t.hsw.restarting = true ∧ t.hsw.restartDue = false ∧
      t.hsw.pcieUp = false ∧ t.hsw.alive = 0 ∧ t.hsw.active = s.hsw.active) ∧
  (∀ s : State, s.hsw.restartDue = false → exec .hostSwitchRestart s = .next s)

/-- R482 to R484, R486 to R488 and the opcode pages of chapter 21, but for RECORD.READ (RecordReadReadsTheActiveSide). -/
def Obligations.RecordOpcodesAndEvents : Prop :=
  Carries 0x1202 .recordStatus (fun _ _ => True)
    (fun c b =>
      let r := b.act.recorder
      answer c b (leBytes 4 r.head ++ leBytes 4 (recordTail r.head) ++ leBytes 4 ringCapacity ++ leBytes 4 r.opSeconds ++
        leBytes 4 (r.opSeconds / 3600) ++ leBytes 4 r.powerCycles ++ leBytes 4 r.lastSave ++ leBytes 4 r.repaired ++
        leBytes 4 r.droppedTotal ++ leBytes 4 r.notHeld)) ∧
  Carries 0x1203 .recordConfig (fun _ _ => True)
    (fun c b => accept c b { b with ctl.cfg := { b.cfg with repeatMs := fld c.packet.params 0 2 } } []) ∧
  Carries 0x1204 .recordMark
    (fun c b => (record 0x1201 c.session c.packet.params b).act.recorder.dropped = b.act.recorder.dropped)
    (fun c b =>
      let t := record 0x1201 c.session c.packet.params b
      answer c t (leBytes 4 t.act.recorder.head)) ∧
  (∀ s : State, s.env.vinBelow = false → ∃ t, exec .opSecondsTick s = .next t ∧
    t.sideA.recorder = { s.sideA.recorder with opSeconds := satInc 32 s.sideA.recorder.opSeconds } ∧
    t.sideB.recorder = { s.sideB.recorder with opSeconds := satInc 32 s.sideB.recorder.opSeconds } ∧
    t.ctl = s.ctl ∧ t.vol = s.vol ∧ t.hsw = s.hsw) ∧
  (∀ s : State, s.env.vinBelow = true → exec .opSecondsTick s = .next s ∧ exec .counterBlockSave s = .next s) ∧
  (∀ s : State, s.env.vinBelow = false → ∃ t, exec .counterBlockSave s = .next t ∧
    t.sideA.recorder.lastSave = s.sideA.recorder.opSeconds ∧ t.sideB.recorder.lastSave = s.sideB.recorder.opSeconds ∧
    t.sideA.recorder.ring = s.sideA.recorder.ring ∧ t.ctl = s.ctl ∧ t.vol = s.vol ∧ t.hsw = s.hsw) ∧
  (∀ s : State, ∃ t, exec .foldJournalWrite s = .next t ∧
    t.sideA.recorder = (if s.sideA.mainOn then s.sideA.recorder.flushFold else s.sideA.recorder) ∧
    t.sideB.recorder = (if s.sideB.mainOn then s.sideB.recorder.flushFold else s.sideB.recorder) ∧
    t.ctl = s.ctl ∧ t.vol = s.vol ∧ t.hsw = s.hsw) ∧
  (∀ s : State, ∃ t, exec .repeatWindowEnd s = .next t ∧
    (s.sideA.mainOn = true → t.sideA.recorder.openRec = none) ∧ (s.sideB.mainOn = true → t.sideB.recorder.openRec = none) ∧
    t.sideA.recorder.head = s.sideA.recorder.head ∧ t.ctl = s.ctl ∧ t.vol = s.vol ∧ t.hsw = s.hsw) ∧
  (∀ s : State, s.act.mainOn = true → s.act.recorder.dropped ≠ 0 → s.ctl.time.stb = none →
    exec .appendsDroppedReport s = .next (record 0x1203 0xFFFF (leBytes 4 (sat 32 s.act.recorder.dropped))
      ((passTicks ((s.mtb / tickS + 1) * tickS - s.mtb) s).modAct fun d =>
        { d with recorder := { d.recorder with dropped := 0 } }))) ∧
  (∀ s : State, s.act.recorder.dropped = 0 → exec .appendsDroppedReport s = .next s)

/-- R491 to R494 and the opcode pages of the performance counters; COUNTER_OVERFLOW. -/
def Obligations.PerformanceCounters : Prop :=
  Carries 0x1301 .counterSelect
    (fun c _ => qualOk (fld c.packet.params 4 1) (fld c.packet.params 6 2) = true ∧
      (fld c.packet.params 4 1 ≠ 0 → fld c.packet.params 4 1 = qualifierOf (fld c.packet.params 2 2)))
    (fun c b =>
      let ps := c.packet.params
      let n : Counter :=
        { value := 0, sel := fld ps 2 2, irq := fld ps 1 1 == 1, qualKind := fld ps 4 1, qual := fld ps 6 2, overflow := false }
      answer c { b with vol.counters := { b.vol.counters with counters := b.vol.counters.counters.set (fld ps 0 1) n } } []) ∧
  Carries 0x1301 .counterSelect (fun c _ => qualOk (fld c.packet.params 4 1) (fld c.packet.params 6 2) = false)
    (fun c b => refuse c b erRange 6) ∧
  Carries 0x1301 .counterSelect
    (fun c _ => qualOk (fld c.packet.params 4 1) (fld c.packet.params 6 2) = true ∧ fld c.packet.params 4 1 ≠ 0 ∧
      fld c.packet.params 4 1 ≠ qualifierOf (fld c.packet.params 2 2))
    (fun c b => refuse c b erRange 4) ∧
  Carries 0x1302 .counterControl (fun c _ => fld c.packet.params 0 1 = 0 ∧ fld c.packet.params 8 8 = 0)
    (fun c b => answer c { b with vol.counters := { b.vol.counters with frozen := true } } (leBytes 8 b.mtbNs)) ∧
  Carries 0x1302 .counterControl (fun c _ => fld c.packet.params 0 1 = 1 ∧ fld c.packet.params 8 8 = 0)
    (fun c b => answer c { b with vol.counters := { b.vol.counters with frozen := false } } (leBytes 8 b.mtbNs)) ∧
  Carries 0x1302 .counterControl (fun c _ => fld c.packet.params 0 1 = 2 ∧ fld c.packet.params 8 8 = 0)
    (fun c b =>
      let k := b.vol.counters
      answer c { b with vol.counters := { k with snap := k.counters.map (·.value), snapMtb := b.mtbNs } } (leBytes 8 b.mtbNs)) ∧
  Carries 0x1302 .counterControl (fun c _ => fld c.packet.params 0 1 = 3)
    (fun c b =>
      let k := b.vol.counters
      let l := k.counters.mapIdx fun i x => if (fld c.packet.params 8 8).testBit i then { x with value := 0 } else x
      answer c { b with vol.counters := { k with counters := l } } (leBytes 8 b.mtbNs)) ∧
  Carries 0x1302 .counterControl (fun c _ => fld c.packet.params 0 1 ≠ 3 ∧ fld c.packet.params 8 8 ≠ 0)
    (fun c b => refuse c b erRange 8) ∧
  Carries 0x1303 .counterRead (fun c _ => 64 < fld c.packet.params 0 1 + fld c.packet.params 1 1)
    (fun c b => refuse c b erRange 1) ∧
  Carries 0x1303 .counterRead
    (fun c _ => fld c.packet.params 0 1 + fld c.packet.params 1 1 ≤ 64 ∧ fld c.packet.params 2 1 = 0)
    (fun c b => answer c b (leBytes 8 b.mtbNs ++ leBytes 1 (b2n b.vol.counters.frozen) ++ zeros 7 ++
      (List.range (fld c.packet.params 1 1)).flatMap fun i =>
        let x := b.vol.counters.counters.getD (fld c.packet.params 0 1 + i) default
        leBytes 6 x.value ++ leBytes 1 (b2n x.overflow + 2 * b2n x.irq) ++ zeros 1)) ∧
  (∀ (k : Nat) (c : Counter) (s : State), s.vol.counters.counters[k]? = some c → c.sel ≠ 0 → s.vol.counters.frozen = false →
    ∃ t u, exec (.counterOverflow k) s = .next t ∧
      u = { s with vol.counters := { s.vol.counters with
        counters := s.vol.counters.counters.set k { c with value := 0, overflow := true } } } ∧
      t = if c.irq then sendMsg 0x1380 (overflowMsg k c.sel s.mtbNs) u else u) ∧
  (∀ (k : Nat) (c : Counter) (s : State), s.vol.counters.counters[k]? = some c →
    (c.sel = 0 ∨ s.vol.counters.frozen = true) → exec (.counterOverflow k) s = .next s)

/-- R85: an epoch never repeats on a module, whichever side issues it and whichever side starts next. -/
def Obligations.EpochsNeverRepeat : Prop :=
  (∀ s t : State, s.hsw.epoch ≤ s.hsw.nv.epochMax → step s = .next t →
    t.hsw.epoch ≤ t.hsw.nv.epochMax ∧ s.hsw.nv.epochMax ≤ t.hsw.nv.epochMax) ∧
  (∀ s t u : State, s.hsw.epoch ≤ s.hsw.nv.epochMax → s.hsw.epoch ≠ 0 → Reaches s t → t.hsw.epoch ≠ s.hsw.epoch →
    Reaches t u → u.hsw.epoch ≠ s.hsw.epoch)

/-- R442, R448, R454, R461: what only moves one way, over every run. -/
def Obligations.OneWayLatches : Prop :=
  ∀ s t : State, Reaches s t →
    s.hsw.nv.importCtr ≤ t.hsw.nv.importCtr ∧ s.sideA.floor ≤ t.sideA.floor ∧ s.sideB.floor ≤ t.sideB.floor ∧
    (∀ x, (s.side x).security.record.state.rank ≤ (t.side x).security.record.state.rank) ∧
    (∀ x, (s.side x).security.record.state ≠ .shipping → (t.side x).security.record.state ≠ .shipping) ∧
    (∀ x, (s.side x).locked = true → (t.side x).locked = true)
end

