-- ==== Sys2Proof/Laws/Ledger.lean ====
section
/-! SUPPORT.
The ledger of the module: what only ever moves one way (session epochs, the import counter, the security floors, the tamper
latches) together with the queue of waiting commands. One lemma per function: it leaves the ledger as it is (`f_ledger`), or
moves it only in the allowed direction (`f_grows`).
-/

set_option linter.unusedSimpArgs false
set_option linter.unusedVariables false
set_option linter.unusedTactic false
set_option linter.unreachableTactic false

namespace Sys2Proof.Machine
/-- What the ledger of a state holds. -/
structure Ledger where
  epoch : Nat
  epochMax : Nat
  importCtr : Nat
  floorA : Nat
  floorB : Nat
  tamperA : TamperState
  tamperB : TamperState
  pending : List Instr

/-- The ledger of a state. -/
def State.ledger (s : State) : Ledger :=
  ⟨s.hsw.epoch, s.hsw.nv.epochMax, s.hsw.nv.importCtr, s.sideA.floor, s.sideB.floor, s.sideA.security.record.state,
    s.sideB.security.record.state, s.pending⟩

/-- A result whose state, if it has one, has this ledger. -/
def CmdResult.Keeps (l : Ledger) : CmdResult → Prop
  | .refuse _ _ => True
  | .ok t _ => t.ledger = l
  | .accepted t _ => t.ledger = l
  | .deferred t => t.ledger = l
  | .requested t => t.ledger = l

/-- An outcome whose next state, if it has one, has this ledger. -/
def Keeps (l : Ledger) : Host.Outcome State Fault Refusal → Prop
  | .next t => t.ledger = l
  | _ => True

@[simp] theorem keeps_next (l t) : Keeps l (.next t) = (t.ledger = l) := rfl
@[simp] theorem keeps_refuse (l a b) : CmdResult.Keeps l (.refuse a b) = True := rfl
@[simp] theorem keeps_ok (l t r) : CmdResult.Keeps l (.ok t r) = (t.ledger = l) := rfl
@[simp] theorem keeps_accepted (l t r) : CmdResult.Keeps l (.accepted t r) = (t.ledger = l) := rfl
@[simp] theorem keeps_deferred (l t) : CmdResult.Keeps l (.deferred t) = (t.ledger = l) := rfl
@[simp] theorem keeps_requested (l t) : CmdResult.Keeps l (.requested t) = (t.ledger = l) := rfl

@[simp] theorem ledger_other (s : State) (e c v o k z f) :
    (State.mk e s.hsw s.sideA s.sideB c v o k z f s.pending).ledger = s.ledger := rfl

@[simp] theorem ledger_hsw (s : State) (e h c v o k z f) (h1 : h.epoch = s.hsw.epoch)
    (h2 : h.nv.epochMax = s.hsw.nv.epochMax) (h3 : h.nv.importCtr = s.hsw.nv.importCtr) :
    (State.mk e h s.sideA s.sideB c v o k z f s.pending).ledger = s.ledger := by simp [State.ledger, h1, h2, h3]

@[simp] theorem ledger_sideA (s : State) (e d c v o k z f) (h1 : d.floor = s.sideA.floor)
    (h2 : d.security.record.state = s.sideA.security.record.state) :
    (State.mk e s.hsw d s.sideB c v o k z f s.pending).ledger = s.ledger := by simp [State.ledger, h1, h2]

@[simp] theorem ledger_sideB (s : State) (e d c v o k z f) (h1 : d.floor = s.sideB.floor)
    (h2 : d.security.record.state = s.sideB.security.record.state) :
    (State.mk e s.hsw s.sideA d c v o k z f s.pending).ledger = s.ledger := by simp [State.ledger, h1, h2]

@[simp] theorem foldl_ledger {α : Type} (f : State → α → State) (h : ∀ s a, (f s a).ledger = s.ledger) (l : List α) (s : State) :
    (l.foldl f s).ledger = s.ledger := by
  induction l generalizing s with
  | nil => rfl
  | cons a t ih => simp [ih, h]

theorem pair_ledger {α : Type} {p : α × State} {a : α} {t : State} (h : p = (a, t)) : t.ledger = p.2.ledger := by rw [h]

theorem triple_ledger {α β : Type} {p : α × β × State} {a : α} {b : β} {t : State} (h : p = (a, b, t)) :
    t.ledger = p.2.2.ledger := by rw [h]

theorem foldl_acc_ledger {α β : Type} (f : β × State → α → β × State) (h : ∀ x a, (f x a).2.ledger = x.2.ledger)
    (l : List α) (x : β × State) : (l.foldl f x).2.ledger = x.2.ledger := by
  induction l generalizing x with
  | nil => rfl
  | cons a t ih => simp [ih, h]

/-- A submission whose state, if it has one, has this ledger. -/
def Submit.Keeps (l : Ledger) : Submit → Prop
  | .done t => t.ledger = l
  | .waits t => t.ledger = l
  | _ => True

theorem TamperState.rank_le (t : TamperState) : t.rank ≤ 2 := by cases t <;> decide

/-- The second ledger comes after the first: nothing that only rises has fallen, and a session epoch that is not the old one
is 0 (no side active) or above every epoch used before (R85, R442, R454, R466). -/
structure Ledger.Grows (a b : Ledger) : Prop where
  pending : b.pending = a.pending
  epochMax : a.epochMax ≤ b.epochMax
  importCtr : a.importCtr ≤ b.importCtr
  floorA : a.floorA ≤ b.floorA
  floorB : a.floorB ≤ b.floorB
  tamperA : a.tamperA.rank ≤ b.tamperA.rank
  tamperB : a.tamperB.rank ≤ b.tamperB.rank
  epoch : b.epoch = a.epoch ∨ b.epoch = 0 ∨ (a.epochMax < b.epoch ∧ b.epoch ≤ b.epochMax)

namespace Ledger

theorem Grows.refl (a : Ledger) : a.Grows a :=
  ⟨rfl, Nat.le_refl _, Nat.le_refl _, Nat.le_refl _, Nat.le_refl _, Nat.le_refl _, Nat.le_refl _, .inl rfl⟩

theorem Grows.of_eq {a b : Ledger} (h : b = a) : a.Grows b := h ▸ Grows.refl a

theorem Grows.trans {a b c : Ledger} (h : a.Grows b) (k : b.Grows c) : a.Grows c where
  pending := k.pending.trans h.pending
  epochMax := Nat.le_trans h.epochMax k.epochMax
  importCtr := Nat.le_trans h.importCtr k.importCtr
  floorA := Nat.le_trans h.floorA k.floorA
  floorB := Nat.le_trans h.floorB k.floorB
  tamperA := Nat.le_trans h.tamperA k.tamperA
  tamperB := Nat.le_trans h.tamperB k.tamperB
  epoch := by
    have := h.epochMax; have := k.epochMax
    rcases k.epoch with e | e | e
    · rcases h.epoch with f | f | f
      · exact .inl (e.trans f)
      · exact .inr (.inl (e.trans f))
      · exact .inr (.inr (by omega))
    · exact .inr (.inl e)
    · exact .inr (.inr (by omega))

theorem Grows.eqR {a b c : Ledger} (h : a.Grows b) (e : c = b) : a.Grows c := e ▸ h

end Ledger

/-- A result whose state, if it has one, comes after this ledger. -/
def CmdResult.Grows (l : Ledger) : CmdResult → Prop
  | .refuse _ _ => True
  | .ok t _ => l.Grows t.ledger
  | .accepted t _ => l.Grows t.ledger
  | .deferred t => l.Grows t.ledger
  | .requested t => l.Grows t.ledger

/-- An outcome whose next state, if it has one, comes after this ledger. -/
def Grows (l : Ledger) : Host.Outcome State Fault Refusal → Prop
  | .next t => l.Grows t.ledger
  | _ => True

theorem CmdResult.Keeps.grows {l : Ledger} {r : CmdResult} (h : r.Keeps l) : r.Grows l := by
  cases r <;> first | trivial | exact Ledger.Grows.of_eq h

theorem Keeps.grows {l : Ledger} {r : Host.Outcome State Fault Refusal} (h : Keeps l r) : Grows l r := by
  cases r <;> first | trivial | exact Ledger.Grows.of_eq h

theorem State.modSide_grows (s : State) (x : SideId) (f : SideState → SideState)
    (h : ∀ d, d.floor ≤ (f d).floor ∧ d.security.record.state.rank ≤ (f d).security.record.state.rank) :
    s.ledger.Grows (s.modSide x f).ledger := by
  cases x
  · exact ⟨rfl, Nat.le_refl _, Nat.le_refl _, (h _).1, Nat.le_refl _, (h _).2, Nat.le_refl _, .inl rfl⟩
  · exact ⟨rfl, Nat.le_refl _, Nat.le_refl _, Nat.le_refl _, (h _).1, Nat.le_refl _, (h _).2, .inl rfl⟩

/-- The same for the one side that is changed. -/
theorem State.modSide_grows_at (s : State) (x : SideId) (f : SideState → SideState)
    (h : (s.side x).floor ≤ (f (s.side x)).floor ∧
      (s.side x).security.record.state.rank ≤ (f (s.side x)).security.record.state.rank) :
    s.ledger.Grows (s.modSide x f).ledger := by
  cases x
  · exact ⟨rfl, Nat.le_refl _, Nat.le_refl _, h.1, Nat.le_refl _, h.2, Nat.le_refl _, .inl rfl⟩
  · exact ⟨rfl, Nat.le_refl _, Nat.le_refl _, Nat.le_refl _, h.1, Nat.le_refl _, h.2, .inl rfl⟩

@[simp] theorem State.modSide_ledger (s : State) (x : SideId) (f : SideState → SideState)
    (h : ∀ d, (f d).floor = d.floor ∧ (f d).security.record.state = d.security.record.state) :
    (s.modSide x f).ledger = s.ledger := by
  cases x <;> simp [State.modSide, State.ledger, h]
@[simp] theorem State.modAct_ledger (s : State) (f : SideState → SideState)
    (h : ∀ d, (f d).floor = d.floor ∧ (f d).security.record.state = d.security.record.state) :
    (s.modAct f).ledger = s.ledger := State.modSide_ledger s _ f h
@[simp] theorem passTicks_ledger : ∀ a0 s, (passTicks a0 s).ledger = s.ledger := by
  intros; rfl
@[simp] theorem passUntil_ledger (r : State → Nat) (k : Nat) : ∀ n s, (passUntil r k n s).ledger = s.ledger
  | 0, _ => rfl
  | n + 1, s => by unfold passUntil; split <;> simp [passUntil_ledger r k n]
@[simp] theorem passToAtb_ledger : ∀ a0 s, (passToAtb a0 s).ledger = s.ledger := by
  intros; unfold passToAtb; (repeat' first | rfl | split) <;> simp_all
@[simp] theorem passToStb_ledger : ∀ a0 s, (passToStb a0 s).ledger = s.ledger := by
  intros; unfold passToStb; (repeat' first | rfl | split) <;> simp_all
@[simp] theorem State.draw_ledger : ∀ s, (State.draw s).2.ledger = s.ledger := by
  intros; rfl
@[simp] theorem sendVector_ledger : ∀ a0 s, (sendVector a0 s).ledger = s.ledger := by
  intros; unfold sendVector; (repeat' split) <;> rfl
@[simp] theorem raiseIrq_ledger : ∀ a0 s, (raiseIrq a0 s).ledger = s.ledger := by
  intros; simp [raiseIrq, apply_ite State.ledger]
@[simp] theorem State.modRing_ledger : ∀ s a1 a2, (State.modRing s a1 a2).ledger = s.ledger := by
  intros; simp [State.modRing, apply_ite State.ledger]
@[simp] theorem ringError_ledger : ∀ a0 a1 s, (ringError a0 a1 s).ledger = s.ledger := by
  intros; simp [ringError]
@[simp] theorem ringErrorIf_ledger : ∀ a0 a1 a2 s, (ringErrorIf a0 a1 a2 s).ledger = s.ledger := by
  intros; unfold ringErrorIf; (repeat' split) <;> simp
@[simp] theorem cqWriteEnds_ledger : ∀ a0 s, (cqWriteEnds a0 s).ledger = s.ledger := by
  intros; rfl
@[simp] theorem ringWrite_ledger : ∀ a0 a1 s, (ringWrite a0 a1 s).ledger = s.ledger := by
  intros; simp [ringWrite, apply_ite State.ledger]
@[simp] theorem ringPost_ledger : ∀ a0 a1 s, (ringPost a0 a1 s).ledger = s.ledger := by
  intros; simp [ringPost, apply_ite State.ledger]
@[simp] theorem flushHeld_ledger (n k : Nat) (s : State) : (flushHeld n k s).ledger = s.ledger := by
  induction k generalizing s with
  | zero => rfl
  | succ k ih =>
    unfold flushHeld
    dsimp only
    split
    · rfl
    · split
      · rfl
      · simp [ih]
@[simp] theorem mntPost_ledger : ∀ a0 s, (mntPost a0 s).ledger = s.ledger := by
  intros; simp [mntPost, apply_ite State.ledger]
@[simp] theorem fedSendAs_ledger : ∀ a0 a1 a2 a3 a4 s, (fedSendAs a0 a1 a2 a3 a4 s).ledger = s.ledger := by
  intros; unfold fedSendAs; (repeat' first | rfl | split) <;> simp_all
@[simp] theorem fedSend_ledger : ∀ a0 a1 a2 a3 s, (fedSend a0 a1 a2 a3 s).ledger = s.ledger := by
  intros; simp [fedSend]
@[simp] theorem sitePost_ledger : ∀ a0 a1 s, (sitePost a0 a1 s).ledger = s.ledger := by
  intros; unfold sitePost; (repeat' first | rfl | split) <;> simp_all
@[simp] theorem postOn_ledger : ∀ a0 a1 s, (postOn a0 a1 s).ledger = s.ledger := by
  intros; unfold postOn; (repeat' first | rfl | split) <;> simp_all
@[simp] theorem State.modSess_ledger : ∀ s a1 a2, (State.modSess s a1 a2).ledger = s.ledger := by
  intros; rfl
@[simp] theorem sendUncounted_ledger : ∀ a0 a1 s, (sendUncounted a0 a1 s).ledger = s.ledger := by
  intros; simp [sendUncounted, apply_ite State.ledger]
@[simp] theorem countEvents_ledger : ∀ a0 a1 a2 s, (countEvents a0 a1 a2 s).ledger = s.ledger := by
  intros; simp [countEvents, apply_ite State.ledger]
@[simp] theorem post_ledger : ∀ a0 a1 s, (post a0 a1 s).ledger = s.ledger := by
  intros; simp [post]
@[simp] theorem sendMsg_ledger : ∀ a0 a1 s, (sendMsg a0 a1 s).ledger = s.ledger := by
  intros; simp [sendMsg, apply_ite State.ledger]
@[simp] theorem recordOn_ledger : ∀ a0 a1 a2 a3 s, (recordOn a0 a1 a2 a3 s).ledger = s.ledger := by
  intros; simp [recordOn, apply_ite State.ledger, apply_ite SideState.floor, apply_ite SideState.security]
@[simp] theorem record_ledger : ∀ a0 a1 a2 s, (record a0 a1 a2 s).ledger = s.ledger := by
  intros; simp [record]
@[simp] theorem recordOther_ledger : ∀ a0 a1 s, (recordOther a0 a1 s).ledger = s.ledger := by
  intros; simp [recordOther]
@[simp] theorem State.modQueue_ledger : ∀ s a1 a2, (State.modQueue s a1 a2).ledger = s.ledger := by
  intros; rfl
@[simp] theorem poolEvent_ledger : ∀ a0 a1 s, (poolEvent a0 a1 s).ledger = s.ledger := by
  intros; simp [poolEvent]
@[simp] theorem watermarks_ledger : ∀ s, (watermarks s).ledger = s.ledger := by
  intros; simp [watermarks, apply_ite State.ledger]
@[simp] theorem mailboxSignal_ledger : ∀ a0 s, (mailboxSignal a0 s).ledger = s.ledger := by
  intros; simp [mailboxSignal, apply_ite State.ledger]
@[simp] theorem refuseReserve_ledger : ∀ a0 a1 s, (refuseReserve a0 a1 s).ledger = s.ledger := by
  intros; simp [refuseReserve, apply_ite State.ledger]
@[simp] theorem linkChain_ledger : ∀ l s, (linkChain l s).ledger = s.ledger := by
  intro l; induction l with
  | nil => intro s; rfl
  | cons k t ih => intro s; rw [linkChain, ih]; simp
@[simp] theorem unlink_ledger : ∀ a0 s, (unlink a0 s).ledger = s.ledger := by
  intros; unfold unlink; (repeat' split) <;> simp
@[simp] theorem drawCells_ledger : ∀ a0 s, (drawCells a0 s).2.ledger = s.ledger := by
  intros; unfold drawCells; (repeat' split) <;> simp
theorem reservePacket_ledger : ∀ a0 a1 s, ∀ t, reservePacket a0 a1 s = some t → t.2.ledger = s.ledger := by
  intro q m s t h
  unfold reservePacket at h
  split at h
  · injection h with h; subst h; simp [State.draw]
  · cases h
@[simp] theorem endReservation_ledger : ∀ a0 a1 s, (endReservation a0 a1 s).ledger = s.ledger := by
  intros; unfold endReservation; (repeat' split) <;> simp
@[simp] theorem abandonPacket_ledger : ∀ a0 a1 s, (abandonPacket a0 a1 s).ledger = s.ledger := by
  intros; unfold abandonPacket; (repeat' split) <;> simp
@[simp] theorem commitReserved_ledger : ∀ a0 a1 a2 a3 a4 s, (commitReserved a0 a1 a2 a3 a4 s).ledger = s.ledger := by
  intros; unfold commitReserved; dsimp only; (repeat' split) <;> simp_all [apply_ite State.ledger]
theorem commitPacket_ledger : ∀ a0 a1 a2 a3 a4 s, ∀ t, commitPacket a0 a1 a2 a3 a4 s = some t → t.2.ledger = s.ledger := by
  intro q m kind node data s t h
  unfold commitPacket at h
  split at h
  · next hr => injection h with h; subst h; simpa using reservePacket_ledger _ _ _ _ hr
  · cases h
@[simp] theorem commitOrDrop_ledger : ∀ a0 a1 a2 a3 a4 s, (commitOrDrop a0 a1 a2 a3 a4 s).ledger = s.ledger := by
  intros; unfold commitOrDrop; (try dsimp only); (repeat' first | rfl | (apply foldl_ledger; intros) | (split <;> try (rename_i h; (first | (replace h := pair_ledger h) | (replace h := triple_ledger h) | (replace h := commitPacket_ledger _ _ _ _ _ _ _ h) | (replace h := takePacket_ledger _ _ _ h) | (replace h := queueFrame_ledger _ _ _ _ _ h) | (replace h := deliver_ledger _ _ _ _ _ _ _ h) | (replace h := fedAccept_ledger _ _ _ h))))) <;> simp_all [apply_ite State.ledger, apply_ite SideState.floor, apply_ite SideState.security]
@[simp] theorem headReadEmpty_ledger : ∀ a0 a1 s, (headReadEmpty a0 a1 s).ledger = s.ledger := by
  intros; unfold headReadEmpty; (repeat' split) <;> simp
@[simp] theorem addCorrected_ledger : ∀ a0 s, (addCorrected a0 s).ledger = s.ledger := by
  intros; unfold addCorrected; (repeat' split) <;> simp
@[simp] theorem cellsRead_ledger : ∀ a0 s, (cellsRead a0 s).ledger = s.ledger := by
  intros; simp [cellsRead, apply_ite State.ledger]
theorem takePacket_ledger : ∀ a0 s, ∀ t, takePacket a0 s = some t → t.2.ledger = s.ledger := by
  intro q s t h
  unfold takePacket at h
  split at h
  · cases h
  · injection h with h; subst h; simp
@[simp] theorem dropPoisoned_ledger : ∀ q n s, (dropPoisoned q n s).ledger = s.ledger := by
  intro q n; induction n with
  | zero => intro s; rfl
  | succ n ih =>
    intro s; unfold dropPoisoned; (repeat' split) <;> try rfl
    next h => simp [ih, takePacket_ledger _ _ _ h]
@[simp] theorem freeByCell_ledger : ∀ a0 a1 s, (freeByCell a0 a1 s).ledger = s.ledger := by
  intros; unfold freeByCell; (repeat' split) <;> simp
@[simp] theorem State.modFlow_ledger : ∀ s a1 a2, (State.modFlow s a1 a2).ledger = s.ledger := by
  intros; rfl
@[simp] theorem State.modPrio_ledger : ∀ s a1 a2, (State.modPrio s a1 a2).ledger = s.ledger := by
  intros; rfl
@[simp] theorem State.modCore_ledger : ∀ s a1 a2, (State.modCore s a1 a2).ledger = s.ledger := by
  intros; rfl
@[simp] theorem enqueue_ledger : ∀ a0 s, (enqueue a0 s).ledger = s.ledger := by
  intros; rfl
@[simp] theorem countWait_ledger : ∀ a0 s, (countWait a0 s).ledger = s.ledger := by
  intros; rfl
@[simp] theorem freeFlow_ledger : ∀ a0 s, (freeFlow a0 s).ledger = s.ledger := by
  intros; simp [freeFlow, apply_ite State.ledger]
@[simp] theorem freePacket_ledger : ∀ a0 s, (freePacket a0 s).ledger = s.ledger := by
  intros; unfold freePacket; (repeat' split) <;> simp
@[simp] theorem packetRead_ledger : ∀ a0 s, (packetRead a0 s).ledger = s.ledger := by
  intros; unfold packetRead; (repeat' split) <;> simp
@[simp] theorem itemDone_ledger : ∀ a0 s, (itemDone a0 s).ledger = s.ledger := by
  intros; unfold itemDone; (repeat' first | rfl | split) <;> simp_all
@[simp] theorem serveOn_ledger : ∀ a0 a1 s, (serveOn a0 a1 s).ledger = s.ledger := by
  intros; unfold serveOn; (repeat' split) <;> simp
@[simp] theorem ranItem_ledger : ∀ a0 a1 a2 s, (ranItem a0 a1 a2 s).ledger = s.ledger := by
  intros; simp [ranItem, apply_ite State.ledger, apply_ite SideState.floor, apply_ite SideState.security]; (repeat' first | rfl | (apply foldl_ledger; intros) | split) <;> simp_all [apply_ite State.ledger, apply_ite SideState.floor, apply_ite SideState.security]
@[simp] theorem workOn_ledger (k f n : Nat) (w : Work) (g : State → State) (s : State)
    (h : ∀ s, (g s).ledger = s.ledger) : (workOn k f n w g s).ledger = s.ledger := by
  unfold workOn; split <;> simp [h]
@[simp] theorem actedOn_ledger : ∀ a0 s, (actedOn a0 s).ledger = s.ledger := by
  intros; rfl
@[simp] theorem removeItem_ledger : ∀ a0 s, (removeItem a0 s).ledger = s.ledger := by
  intros; unfold removeItem; (repeat' first | rfl | split) <;> simp_all
@[simp] theorem armTimer_ledger : ∀ a0 a1 a2 a3 s, (armTimer a0 a1 a2 a3 s).ledger = s.ledger := by
  intros; simp [armTimer, apply_ite State.ledger]
@[simp] theorem cancelTimer_ledger : ∀ a0 a1 s, (cancelTimer a0 a1 s).2.ledger = s.ledger := by
  intros; unfold cancelTimer; (repeat' split) <;> simp
@[simp] theorem cancelTimers_ledger : ∀ a0 a1 s, (cancelTimers a0 a1 s).ledger = s.ledger := by
  intros; simp [cancelTimers]
@[simp] theorem listLate_ledger : ∀ a0 a1 s, (listLate a0 a1 s).ledger = s.ledger := by
  intros; unfold listLate; (repeat' split) <;> simp
@[simp] theorem markEffected_ledger : ∀ a0 s, (markEffected a0 s).ledger = s.ledger := by
  intros; unfold markEffected; (repeat' split) <;> simp
@[simp] theorem finish_ledger : ∀ a0 a1 a2 a3 s, (finish a0 a1 a2 a3 s).ledger = s.ledger := by
  intros; unfold finish; dsimp only; (repeat' split) <;> simp
@[simp] theorem conclude_ledger (c : HostCmd) (s : State) (r : CmdResult) (h : r.Keeps s.ledger) :
    (conclude c s r).ledger = s.ledger := by
  cases r with
  | deferred t => simp only [conclude]; split <;> simp_all
  | _ => simp_all [conclude]
theorem conclude_grows (c : HostCmd) (s : State) (r : CmdResult) (l : Ledger) (e : l = s.ledger) (h : r.Grows l) :
    l.Grows (conclude c s r).ledger := by
  cases r with
  | refuse a b => exact Ledger.Grows.of_eq (by simp [conclude, e])
  | ok t b => exact Ledger.Grows.eqR h (by simp [conclude])
  | accepted t b => exact Ledger.Grows.eqR h (by simp [conclude])
  | deferred t => exact Ledger.Grows.eqR h (by simp only [conclude]; split <;> simp)
  | requested t => exact h
@[simp] theorem putRecord_ledger : ∀ a0 a1 s, (putRecord a0 a1 s).ledger = s.ledger := by
  intros; rfl
@[simp] theorem endSession_ledger : ∀ a0 a1 s, (endSession a0 a1 s).ledger = s.ledger := by
  intros; simp [endSession, apply_ite State.ledger]
@[simp] theorem resetRing_ledger : ∀ a0 s, (resetRing a0 s).ledger = s.ledger := by
  intros; simp [resetRing]
@[simp] theorem setServing_ledger : ∀ a0 s, (setServing a0 s).ledger = s.ledger := by
  intros; simp [setServing, apply_ite State.ledger]
@[simp] theorem raiseAlarm_ledger : ∀ s, (raiseAlarm s).ledger = s.ledger := by
  intros; simp [raiseAlarm]
@[simp] theorem takeSlot_ledger : ∀ a0 s, (takeSlot a0 s).ledger = s.ledger := by
  intros; unfold takeSlot; (repeat' first | rfl | split) <;> simp_all
@[simp] theorem refuseClosed_ledger : ∀ a0 s, (refuseClosed a0 s).ledger = s.ledger := by
  intros; simp [refuseClosed]
@[simp] theorem queueCommand_ledger : ∀ a0 s, (queueCommand a0 s).ledger = s.ledger := by
  intros; unfold queueCommand; (try dsimp only); (repeat' first | rfl | (apply foldl_ledger; intros) | (split <;> try (rename_i h; (first | (replace h := pair_ledger h) | (replace h := triple_ledger h) | (replace h := commitPacket_ledger _ _ _ _ _ _ _ h) | (replace h := takePacket_ledger _ _ _ h) | (replace h := queueFrame_ledger _ _ _ _ _ h) | (replace h := deliver_ledger _ _ _ _ _ _ _ h) | (replace h := fedAccept_ledger _ _ _ h))))) <;> simp_all [apply_ite State.ledger, apply_ite SideState.floor, apply_ite SideState.security]
@[simp] theorem serveItem_ledger : ∀ a0 s, (serveItem a0 s).ledger = s.ledger := by
  intros; unfold serveItem; (repeat' first | rfl | split) <;> simp_all
@[simp] theorem admitPacket_ledger : ∀ a0 a1 s, (admitPacket a0 a1 s).1.ledger = s.ledger := by
  intros; simp [admitPacket, apply_ite State.ledger, apply_ite SideState.floor, apply_ite SideState.security]; (repeat' first | rfl | (apply foldl_ledger; intros) | split) <;> simp_all [apply_ite State.ledger, apply_ite SideState.floor, apply_ite SideState.security]
@[simp] theorem markStarted_ledger : ∀ a0 s, (markStarted a0 s).ledger = s.ledger := by
  intros; unfold markStarted; (repeat' split) <;> simp
@[simp] theorem refuseInHandover_ledger : ∀ a0 s, (refuseInHandover a0 s).ledger = s.ledger := by
  intros; simp [refuseInHandover, apply_ite State.ledger]
@[simp] theorem startCmd_ledger (run : HostCmd → State → CmdResult) (c : HostCmd) (s : State)
    (h : ∀ c s, (run c s).Keeps s.ledger) : (startCmd run c s).ledger = s.ledger := by
  unfold startCmd
  have h' : ∀ c s l, s.ledger = l → (run c s).Keeps l := fun c s l e => e ▸ h c s
  dsimp only
  split
  · simp
  · split
    · simp [State.draw]
    · rw [conclude_ledger _ _ _ (h _ _)]; simp

theorem startCmd_grows (run : HostCmd → State → CmdResult) (c : HostCmd) (s : State)
    (h : ∀ c s, (run c s).Grows s.ledger) : s.ledger.Grows (startCmd run c s).ledger := by
  unfold startCmd
  dsimp only
  split
  · exact .of_eq (by simp)
  · split
    · exact .of_eq (by simp [State.draw])
    · refine (Ledger.Grows.of_eq ?_).trans (conclude_grows _ _ _ _ rfl (h _ _))
      simp
theorem runStarted_grows (run : HostCmd → State → CmdResult) (c : HostCmd) (s : State)
    (h : ∀ c s, (run c s).Grows s.ledger) : s.ledger.Grows (runStarted run c s).ledger := by
  unfold runStarted
  split
  · exact .of_eq (by simp)
  · exact conclude_grows _ _ _ _ rfl (h _ _)
@[simp] theorem runStarted_ledger (run : HostCmd → State → CmdResult) (c : HostCmd) (s : State)
    (h : ∀ c s, (run c s).Keeps s.ledger) : (runStarted run c s).ledger = s.ledger := by
  unfold runStarted; split
  · simp
  · exact conclude_ledger _ _ _ (h _ _)
@[simp] theorem beginItem_ledger : ∀ a0 s, (beginItem a0 s).ledger = s.ledger := by
  intros; unfold beginItem; (repeat' split) <;> simp
@[simp] theorem serve_ledger (op : Nat) (run : HostCmd → State → CmdResult) (p : Packet) (s : State)
    (h : ∀ c s, (run c s).Keeps s.ledger) : (serve op run p s).ledger = s.ledger := by
  have ha := admitPacket_ledger op p s
  unfold serve
  split
  · rfl
  · split
    · simp
    · split
      · simp
      · split
        · rename_i e; rw [e] at ha; exact ha
        · rename_i e; rw [e] at ha; split <;> simp_all

theorem serve_grows (op : Nat) (run : HostCmd → State → CmdResult) (p : Packet) (s : State)
    (h : ∀ c s, (run c s).Grows s.ledger) : s.ledger.Grows (serve op run p s).ledger := by
  have ha := admitPacket_ledger op p s
  unfold serve
  split
  · exact .refl _
  · split
    · exact .of_eq (by simp)
    · split
      · exact .of_eq (by simp)
      · split
        · rename_i e; rw [e] at ha; exact .of_eq ha
        · rename_i e; rw [e] at ha
          split
          · exact (Ledger.Grows.of_eq ha).trans (startCmd_grows _ _ _ h)
          · exact .of_eq ha
@[simp] theorem releaseAffinity_ledger : ∀ a0 s, (releaseAffinity a0 s).ledger = s.ledger := by
  intros; rfl
@[simp] theorem parkCores_ledger : ∀ s, (parkCores s).ledger = s.ledger := by
  intro s
  refine foldl_ledger _ (fun s k => ?_) _ s
  split
  · rfl
  · split <;> simp
@[simp] theorem unparkCores_ledger : ∀ s, (unparkCores s).ledger = s.ledger := by
  intro s
  refine foldl_ledger _ (fun s k => ?_) _ s
  split
  · split <;> simp
  · rfl
@[simp] theorem startItem_ledger : ∀ a0 a1 s, (startItem a0 a1 s).ledger = s.ledger := by
  intros; unfold startItem; (repeat' first | rfl | split) <;> simp_all
@[simp] theorem dispatch_ledger : ∀ a0 s, (dispatch a0 s).ledger = s.ledger := by
  intros; unfold dispatch; (repeat' first | rfl | split) <;> simp_all
@[simp] theorem execCoreDispatch_ledger : ∀ a0 s, Keeps s.ledger (execCoreDispatch a0 s) := by
  intros; simp [execCoreDispatch]
@[simp] theorem execAffinityWindowExpiry_ledger : ∀ a0 s, Keeps s.ledger (execAffinityWindowExpiry a0 s) := by
  intros; simp [execAffinityWindowExpiry, apply_ite State.ledger, apply_ite SideState.floor, apply_ite SideState.security]; (repeat' first | rfl | (apply foldl_ledger; intros) | split) <;> simp_all [apply_ite State.ledger, apply_ite SideState.floor, apply_ite SideState.security]
@[simp] theorem markOut_ledger : ∀ a0 a1 s, (markOut a0 a1 s).ledger = s.ledger := by
  intros; rfl
@[simp] theorem leaveCore_ledger : ∀ a0 s, (leaveCore a0 s).ledger = s.ledger := by
  intros; unfold leaveCore; (repeat' split) <;> simp
@[simp] theorem takeOut_ledger : ∀ a0 s, (takeOut a0 s).ledger = s.ledger := by
  intros; rfl
@[simp] theorem putBack_ledger : ∀ a0 s, (putBack a0 s).ledger = s.ledger := by
  intros; rfl
@[simp] theorem coreCommand_ledger : ∀ a0 s, (coreCommand a0 s).1.ledger = s.ledger := by
  intros; simp [coreCommand, apply_ite State.ledger, apply_ite SideState.floor, apply_ite SideState.security]; (repeat' first | rfl | (apply foldl_ledger; intros) | split) <;> simp_all [apply_ite State.ledger, apply_ite SideState.floor, apply_ite SideState.security]
@[simp] theorem coreCommands_ledger : ∀ a0 s, (coreCommands a0 s).ledger = s.ledger
  | [], _ => rfl
  | c :: t, s => by
    have h := coreCommand_ledger c s
    unfold coreCommands
    split <;> rename_i e <;> rw [e] at h <;> simp_all [coreCommands_ledger t]
@[simp] theorem runSchedCore_ledger : ∀ a0 s, (runSchedCore a0 s).Keeps s.ledger := by
  intros; simp [runSchedCore, apply_ite State.ledger, apply_ite SideState.floor, apply_ite SideState.security]; (repeat' first | rfl | (apply foldl_ledger; intros) | split) <;> simp_all [apply_ite State.ledger, apply_ite SideState.floor, apply_ite SideState.security]
@[simp] theorem coreDone_ledger : ∀ a0 s, (coreDone a0 s).ledger = s.ledger := by
  intros; simp [coreDone, apply_ite State.ledger, apply_ite SideState.floor, apply_ite SideState.security]; (repeat' first | rfl | (apply foldl_ledger; intros) | split) <;> simp_all [apply_ite State.ledger, apply_ite SideState.floor, apply_ite SideState.security]
@[simp] theorem fireTimers_ledger : ∀ s, (fireTimers s).ledger = s.ledger := by
  intros; unfold fireTimers; (repeat' split) <;> simp
@[simp] theorem execDelayListTick_ledger : ∀ s, Keeps s.ledger (execDelayListTick s) := by
  intros; simp [execDelayListTick]
@[simp] theorem runSchedConfig_ledger : ∀ a0 s, (runSchedConfig a0 s).Keeps s.ledger := by
  intros; rfl
@[simp] theorem runSchedStatus_ledger : ∀ a0 s, (runSchedStatus a0 s).Keeps s.ledger := by
  intros; unfold runSchedStatus; (repeat' first | rfl | split) <;> simp_all
@[simp] theorem runSchedHist_ledger : ∀ a0 s, (runSchedHist a0 s).Keeps s.ledger := by
  intros; unfold runSchedHist; (repeat' first | rfl | split) <;> simp_all
@[simp] theorem runSchedFlowRead_ledger : ∀ a0 s, (runSchedFlowRead a0 s).Keeps s.ledger := by
  intros; simp [runSchedFlowRead, apply_ite State.ledger, apply_ite SideState.floor, apply_ite SideState.security]; (repeat' first | rfl | (apply foldl_ledger; intros) | split) <;> simp_all [apply_ite State.ledger, apply_ite SideState.floor, apply_ite SideState.security]
@[simp] theorem runSchedItemRead_ledger : ∀ a0 s, (runSchedItemRead a0 s).Keeps s.ledger := by
  intros; rfl
@[simp] theorem execSchedConfig_ledger : ∀ a0 s, Keeps s.ledger (execSchedConfig a0 s) := by
  intros; simp [execSchedConfig]
@[simp] theorem execSchedCore_ledger : ∀ a0 s, Keeps s.ledger (execSchedCore a0 s) := by
  intros; simp [execSchedCore]
@[simp] theorem execSchedStatus_ledger : ∀ a0 s, Keeps s.ledger (execSchedStatus a0 s) := by
  intros; simp [execSchedStatus]
@[simp] theorem execSchedHist_ledger : ∀ a0 s, Keeps s.ledger (execSchedHist a0 s) := by
  intros; simp [execSchedHist]
@[simp] theorem execSchedFlowRead_ledger : ∀ a0 s, Keeps s.ledger (execSchedFlowRead a0 s) := by
  intros; simp [execSchedFlowRead]
@[simp] theorem execSchedItemRead_ledger : ∀ a0 s, Keeps s.ledger (execSchedItemRead a0 s) := by
  intros; simp [execSchedItemRead]
@[simp] theorem mbxComplete_ledger : ∀ a0 s, (mbxComplete a0 s).ledger = s.ledger := by
  intros; simp [mbxComplete, apply_ite State.ledger]
@[simp] theorem mbxServe_ledger : ∀ a0 a1 s, (mbxServe a0 a1 s).ledger = s.ledger
  | _, 0, _ => rfl
  | m, k + 1, s => by
    unfold mbxServe
    split
    · rfl
    · split
      · rfl
      · simp [mbxServe_ledger m k]
@[simp] theorem runQueueMbxRead_ledger : ∀ a0 s, (runQueueMbxRead a0 s).Keeps s.ledger := by
  intros; simp [runQueueMbxRead, apply_ite State.ledger, apply_ite SideState.floor, apply_ite SideState.security]; (repeat' first | rfl | (apply foldl_ledger; intros) | split) <;> simp_all [apply_ite State.ledger, apply_ite SideState.floor, apply_ite SideState.security]
@[simp] theorem execMbxReadWaitEnd_ledger : ∀ a0 a1 s, Keeps s.ledger (execMbxReadWaitEnd a0 a1 s) := by
  intros; simp [execMbxReadWaitEnd, apply_ite State.ledger, apply_ite SideState.floor, apply_ite SideState.security]; (repeat' first | rfl | (apply foldl_ledger; intros) | split) <;> simp_all [apply_ite State.ledger, apply_ite SideState.floor, apply_ite SideState.security]
@[simp] theorem handOver_ledger : ∀ a0 a1 a2 a3 s, (handOver a0 a1 a2 a3 s).ledger = s.ledger := by
  intros; unfold handOver; (repeat' split) <;> simp
@[simp] theorem refused_ledger : ∀ a0 a1 s, (refused a0 a1 s).ledger = s.ledger := by
  intros; unfold refused; (repeat' split) <;> simp
@[simp] theorem produce_ledger : ∀ a0 a1 a2 a3 a4 s, (produce a0 a1 a2 a3 a4 s).ledger = s.ledger := by
  intros; unfold produce; (try dsimp only); (repeat' first | rfl | (apply foldl_ledger; intros) | (split <;> try (rename_i h; (first | (replace h := pair_ledger h) | (replace h := triple_ledger h) | (replace h := commitPacket_ledger _ _ _ _ _ _ _ h) | (replace h := takePacket_ledger _ _ _ h) | (replace h := queueFrame_ledger _ _ _ _ _ h) | (replace h := deliver_ledger _ _ _ _ _ _ _ h) | (replace h := fedAccept_ledger _ _ _ h))))) <;> simp_all [apply_ite State.ledger, apply_ite SideState.floor, apply_ite SideState.security]
@[simp] theorem reserveOnly_ledger : ∀ a0 a1 s, (reserveOnly a0 a1 s).ledger = s.ledger := by
  intros; unfold reserveOnly; (try dsimp only); (repeat' first | rfl | (apply foldl_ledger; intros) | (split <;> try (rename_i h; (first | (replace h := pair_ledger h) | (replace h := triple_ledger h) | (replace h := reservePacket_ledger _ _ _ _ h) | (replace h := commitPacket_ledger _ _ _ _ _ _ _ h) | (replace h := takePacket_ledger _ _ _ h) | (replace h := queueFrame_ledger _ _ _ _ _ h) | (replace h := deliver_ledger _ _ _ _ _ _ _ h) | (replace h := fedAccept_ledger _ _ _ h) | (replace h := fedTaken_ledger _ _ _ h))))) <;> simp_all [apply_ite State.ledger, apply_ite SideState.floor, apply_ite SideState.security]
@[simp] theorem countCorrected_ledger : ∀ a0 s, (countCorrected a0 s).ledger = s.ledger := by
  intros; simp [countCorrected, apply_ite State.ledger]
@[simp] theorem execPoolScrub_ledger : ∀ a0 s, Keeps s.ledger (execPoolScrub a0 s) := by
  intros; simp [execPoolScrub]
@[simp] theorem runQueueConfig_ledger : ∀ a0 s, (runQueueConfig a0 s).Keeps s.ledger := by
  intros; simp [runQueueConfig, apply_ite State.ledger, apply_ite SideState.floor, apply_ite SideState.security]; (repeat' first | rfl | (apply foldl_ledger; intros) | split) <;> simp_all [apply_ite State.ledger, apply_ite SideState.floor, apply_ite SideState.security]
@[simp] theorem runQueuePool_ledger : ∀ a0 s, (runQueuePool a0 s).Keeps s.ledger := by
  intros; simp [runQueuePool, apply_ite State.ledger, apply_ite SideState.floor, apply_ite SideState.security]; (repeat' first | rfl | (apply foldl_ledger; intros) | split) <;> simp_all [apply_ite State.ledger, apply_ite SideState.floor, apply_ite SideState.security]
@[simp] theorem runQueueStatus_ledger : ∀ a0 s, (runQueueStatus a0 s).Keeps s.ledger := by
  intros; rfl
@[simp] theorem runQueueRead_ledger : ∀ a0 s, (runQueueRead a0 s).Keeps s.ledger := by
  intros; simp [runQueueRead, apply_ite State.ledger, apply_ite SideState.floor, apply_ite SideState.security]; (repeat' first | rfl | (apply foldl_ledger; intros) | split) <;> simp_all [apply_ite State.ledger, apply_ite SideState.floor, apply_ite SideState.security]
@[simp] theorem execQueueConfig_ledger : ∀ a0 s, Keeps s.ledger (execQueueConfig a0 s) := by
  intros; simp [execQueueConfig]
@[simp] theorem execQueuePool_ledger : ∀ a0 s, Keeps s.ledger (execQueuePool a0 s) := by
  intros; simp [execQueuePool]
@[simp] theorem execQueueStatus_ledger : ∀ a0 s, Keeps s.ledger (execQueueStatus a0 s) := by
  intros; simp [execQueueStatus]
@[simp] theorem execQueueRead_ledger : ∀ a0 s, Keeps s.ledger (execQueueRead a0 s) := by
  intros; simp [execQueueRead]
@[simp] theorem execQueueMbxRead_ledger : ∀ a0 s, Keeps s.ledger (execQueueMbxRead a0 s) := by
  intros; simp [execQueueMbxRead]
@[simp] theorem State.modPort_ledger : ∀ s a1 a2, (State.modPort s a1 a2).ledger = s.ledger := by
  intros; rfl
@[simp] theorem sealRecord_ledger : ∀ a0 a1 a2 a3 a4 a5 s, (sealRecord a0 a1 a2 a3 a4 a5 s).2.ledger = s.ledger := by
  intros; simp [sealRecord]
@[simp] theorem addRecord_ledger : ∀ a0 a1 a2 a3 a4 a5 s, (addRecord a0 a1 a2 a3 a4 a5 s).ledger = s.ledger := by
  intros; simp [addRecord]
@[simp] theorem captureEvent_ledger : ∀ a0 a1 s, (captureEvent a0 a1 s).ledger = s.ledger := by
  intros; simp [captureEvent]
@[simp] theorem stopPort_ledger : ∀ a0 a1 s, (stopPort a0 a1 s).ledger = s.ledger := by
  intros; simp [stopPort, apply_ite State.ledger, apply_ite SideState.floor, apply_ite SideState.security]; (repeat' first | rfl | (apply foldl_ledger; intros) | split) <;> simp_all [apply_ite State.ledger, apply_ite SideState.floor, apply_ite SideState.security]
@[simp] theorem stopPorts_ledger : ∀ a0 a1 s, (stopPorts a0 a1 s).ledger = s.ledger := by
  intros; simp [stopPorts, apply_ite State.ledger, apply_ite SideState.floor, apply_ite SideState.security]; (repeat' first | rfl | (apply foldl_ledger; intros) | split) <;> simp_all [apply_ite State.ledger, apply_ite SideState.floor, apply_ite SideState.security]
@[simp] theorem ignoreTrigger_ledger : ∀ a0 s, (ignoreTrigger a0 s).ledger = s.ledger := by
  intros; rfl
@[simp] theorem takeTrigger_ledger : ∀ a0 a1 s, (takeTrigger a0 a1 s).ledger = s.ledger := by
  intros; rfl
@[simp] theorem trigger_ledger : ∀ a0 a1 s, (trigger a0 a1 s).2.ledger = s.ledger := by
  intros; simp [trigger, apply_ite State.ledger, apply_ite SideState.floor, apply_ite SideState.security]; (repeat' first | rfl | (apply foldl_ledger; intros) | split) <;> simp_all [apply_ite State.ledger, apply_ite SideState.floor, apply_ite SideState.security]
@[simp] theorem busTrigger_ledger : ∀ a0 s, (busTrigger a0 s).ledger = s.ledger := by
  intros; unfold busTrigger; (try dsimp only); (repeat' first | rfl | (apply foldl_ledger; intros) | (split <;> try (rename_i h; (first | (replace h := pair_ledger h) | (replace h := triple_ledger h) | (replace h := commitPacket_ledger _ _ _ _ _ _ _ h) | (replace h := takePacket_ledger _ _ _ h) | (replace h := queueFrame_ledger _ _ _ _ _ h) | (replace h := deliver_ledger _ _ _ _ _ _ _ h) | (replace h := fedAccept_ledger _ _ _ h))))) <;> simp_all [apply_ite State.ledger, apply_ite SideState.floor, apply_ite SideState.security]
@[simp] theorem driveBus_ledger : ∀ s, (driveBus s).ledger = s.ledger := by
  intros; simp [driveBus, apply_ite State.ledger]
@[simp] theorem fireTrigger_ledger : ∀ a0 a1 s, (fireTrigger a0 a1 s).2.ledger = s.ledger := by
  intros; unfold fireTrigger; (try dsimp only); (repeat' first | rfl | (apply foldl_ledger; intros) | (split <;> try (rename_i h; (first | (replace h := pair_ledger h) | (replace h := triple_ledger h) | (replace h := commitPacket_ledger _ _ _ _ _ _ _ h) | (replace h := takePacket_ledger _ _ _ h) | (replace h := queueFrame_ledger _ _ _ _ _ h) | (replace h := deliver_ledger _ _ _ _ _ _ _ h) | (replace h := fedAccept_ledger _ _ _ h))))) <;> simp_all [apply_ite State.ledger, apply_ite SideState.floor, apply_ite SideState.security]
@[simp] theorem execCapturePrefillComplete_ledger : ∀ a0 s, Keeps s.ledger (execCapturePrefillComplete a0 s) := by
  intros; unfold execCapturePrefillComplete; (repeat' first | rfl | split) <;> simp_all
@[simp] theorem execCaptureTriggerFired_ledger : ∀ a0 a1 s, Keeps s.ledger (execCaptureTriggerFired a0 a1 s) := by
  intros; simp [execCaptureTriggerFired]
@[simp] theorem recordComplete_ledger : ∀ a0 a1 s, (recordComplete a0 a1 s).ledger = s.ledger := by
  intros; simp [recordComplete, apply_ite State.ledger]
@[simp] theorem execCaptureRecordComplete_ledger : ∀ a0 s, Keeps s.ledger (execCaptureRecordComplete a0 s) := by
  intros; unfold execCaptureRecordComplete; (repeat' first | rfl | split) <;> simp_all
@[simp] theorem execCaptureRecordDrain_ledger : ∀ s, Keeps s.ledger (execCaptureRecordDrain s) := by
  intros; simp [execCaptureRecordDrain, apply_ite State.ledger, apply_ite SideState.floor, apply_ite SideState.security]; (repeat' first | rfl | (apply foldl_ledger; intros) | split) <;> simp_all [apply_ite State.ledger, apply_ite SideState.floor, apply_ite SideState.security]
@[simp] theorem execCaptureRoomAvailable_ledger : ∀ a0 s, Keeps s.ledger (execCaptureRoomAvailable a0 s) := by
  intros; unfold execCaptureRoomAvailable; (repeat' first | rfl | split) <;> simp_all
@[simp] theorem execSyncTrgEdge_ledger : ∀ a0 a1 s, Keeps s.ledger (execSyncTrgEdge a0 a1 s) := by
  intros; simp [execSyncTrgEdge, apply_ite State.ledger, apply_ite SideState.floor, apply_ite SideState.security]; (repeat' first | rfl | (apply foldl_ledger; intros) | split) <;> simp_all [apply_ite State.ledger, apply_ite SideState.floor, apply_ite SideState.security]
@[simp] theorem calStart_ledger : ∀ a0 s, (calStart a0 s).Keeps s.ledger := by
  intros; unfold calStart; (repeat' first | rfl | split) <;> simp_all
@[simp] theorem calNext_ledger : ∀ a0 s, (calNext a0 s).ledger = s.ledger
  | [], _ => rfl
  | c :: t, s => by
    have h := calStart_ledger c { s with vol.wader := { s.vol.wader with cal := none, calWait := t } }
    unfold calNext
    split <;> rename_i e <;> rw [e] at h <;> simp_all [calNext_ledger t]
@[simp] theorem calEnd_ledger : ∀ a0 s, (calEnd a0 s).ledger = s.ledger := by
  intros; simp [calEnd, apply_ite State.ledger]
@[simp] theorem runCaptureSyncCal_ledger : ∀ a0 s, (runCaptureSyncCal a0 s).Keeps s.ledger := by
  intros; unfold runCaptureSyncCal; (repeat' first | rfl | split) <;> simp_all
@[simp] theorem execSyncCalPulse_ledger : ∀ a0 a1 a2 s, Keeps s.ledger (execSyncCalPulse a0 a1 a2 s) := by
  intros; unfold execSyncCalPulse; (repeat' first | rfl | split) <;> simp_all [apply_ite State.ledger, apply_ite SideState.floor, apply_ite SideState.security]
@[simp] theorem execSyncCalTimeout_ledger : ∀ s, Keeps s.ledger (execSyncCalTimeout s) := by
  intros; unfold execSyncCalTimeout; (repeat' first | rfl | split) <;> simp_all
@[simp] theorem runCapturePort_ledger : ∀ a0 s, (runCapturePort a0 s).Keeps s.ledger := by
  intros; simp [runCapturePort, apply_ite State.ledger, apply_ite SideState.floor, apply_ite SideState.security]; (repeat' first | rfl | (apply foldl_ledger; intros) | split) <;> simp_all [apply_ite State.ledger, apply_ite SideState.floor, apply_ite SideState.security]
@[simp] theorem armPort_ledger : ∀ a0 s, (armPort a0 s).ledger = s.ledger := by
  intros; unfold armPort; (repeat' first | rfl | split) <;> simp_all
@[simp] theorem runCaptureArm_ledger : ∀ a0 s, (runCaptureArm a0 s).Keeps s.ledger := by
  intros; simp [runCaptureArm, apply_ite State.ledger, apply_ite SideState.floor, apply_ite SideState.security]; (repeat' first | rfl | (apply foldl_ledger; intros) | split) <;> simp_all [apply_ite State.ledger, apply_ite SideState.floor, apply_ite SideState.security]
@[simp] theorem commandTrigger_ledger : ∀ a0 a1 s, (commandTrigger a0 a1 s).2.ledger = s.ledger := by
  intros; unfold commandTrigger; (try dsimp only); (repeat' first | rfl | (apply foldl_ledger; intros) | (split <;> try (rename_i h; (first | (replace h := pair_ledger h) | (replace h := triple_ledger h) | (replace h := commitPacket_ledger _ _ _ _ _ _ _ h) | (replace h := takePacket_ledger _ _ _ h) | (replace h := queueFrame_ledger _ _ _ _ _ h) | (replace h := deliver_ledger _ _ _ _ _ _ _ h) | (replace h := fedAccept_ledger _ _ _ h))))) <;> simp_all [apply_ite State.ledger, apply_ite SideState.floor, apply_ite SideState.security]
@[simp] theorem runCaptureTrigger_ledger : ∀ a0 s, (runCaptureTrigger a0 s).Keeps s.ledger := by
  intros; simp [runCaptureTrigger, apply_ite State.ledger, apply_ite SideState.floor, apply_ite SideState.security]; (repeat' first | rfl | (apply foldl_ledger; intros) | split) <;> simp_all [apply_ite State.ledger, apply_ite SideState.floor, apply_ite SideState.security]
@[simp] theorem runCaptureSyncConfig_ledger : ∀ a0 s, (runCaptureSyncConfig a0 s).Keeps s.ledger := by
  intros; simp [runCaptureSyncConfig, apply_ite State.ledger, apply_ite SideState.floor, apply_ite SideState.security]; (repeat' first | rfl | (apply foldl_ledger; intros) | split) <;> simp_all [apply_ite State.ledger, apply_ite SideState.floor, apply_ite SideState.security]
@[simp] theorem runCaptureStatus_ledger : ∀ a0 s, (runCaptureStatus a0 s).Keeps s.ledger := by
  intros; rfl
@[simp] theorem execCapturePort_ledger : ∀ a0 s, Keeps s.ledger (execCapturePort a0 s) := by
  intros; simp [execCapturePort]
@[simp] theorem execCaptureArm_ledger : ∀ a0 s, Keeps s.ledger (execCaptureArm a0 s) := by
  intros; simp [execCaptureArm]
@[simp] theorem execCaptureTrigger_ledger : ∀ a0 s, Keeps s.ledger (execCaptureTrigger a0 s) := by
  intros; simp [execCaptureTrigger]
@[simp] theorem execCaptureSyncConfig_ledger : ∀ a0 s, Keeps s.ledger (execCaptureSyncConfig a0 s) := by
  intros; simp [execCaptureSyncConfig]
@[simp] theorem execCaptureSyncCal_ledger : ∀ a0 s, Keeps s.ledger (execCaptureSyncCal a0 s) := by
  intros; simp [execCaptureSyncCal]
@[simp] theorem execCaptureStatus_ledger : ∀ a0 s, Keeps s.ledger (execCaptureStatus a0 s) := by
  intros; simp [execCaptureStatus]
@[simp] theorem State.modLink_ledger : ∀ s a1 a2, (State.modLink s a1 a2).ledger = s.ledger := by
  intros; rfl
@[simp] theorem State.modLaneRun_ledger : ∀ s a1 a2, (State.modLaneRun s a1 a2).ledger = s.ledger := by
  intros; rfl
@[simp] theorem radioEvent_ledger : ∀ a0 a1 a2 a3 s, (radioEvent a0 a1 a2 a3 s).ledger = s.ledger := by
  intros; simp [radioEvent]
@[simp] theorem State.modBudgets_ledger : ∀ s a1, (State.modBudgets s a1).ledger = s.ledger := by
  intros; rfl
@[simp] theorem State.modBudget_ledger : ∀ s a1 a2 a3 a4, (State.modBudget s a1 a2 a3 a4).ledger = s.ledger := by
  intros; rfl
@[simp] theorem refresh_ledger : ∀ a0 a1 a2 s, (refresh a0 a1 a2 s).ledger = s.ledger := by
  intros; unfold refresh; (repeat' first | rfl | split) <;> simp_all [apply_ite State.ledger, apply_ite SideState.floor, apply_ite SideState.security]
@[simp] theorem charge_ledger : ∀ a0 a1 a2 a3 s, (charge a0 a1 a2 a3 s).2.ledger = s.ledger := by
  intros; simp [charge, apply_ite State.ledger, apply_ite SideState.floor, apply_ite SideState.security]; (repeat' first | rfl | (apply foldl_ledger; intros) | split) <;> simp_all [apply_ite State.ledger, apply_ite SideState.floor, apply_ite SideState.security]
@[simp] theorem State.modDfs_ledger : ∀ s a1 a2 a3, (State.modDfs s a1 a2 a3).ledger = s.ledger := by
  intros; rfl
@[simp] theorem noteSent_ledger : ∀ a0 a1 a2 s, (noteSent a0 a1 a2 s).ledger = s.ledger := by
  intros; simp [noteSent]
@[simp] theorem flood_ledger : ∀ a0 s, (flood a0 s).2.ledger = s.ledger := by
  intros; unfold flood; (repeat' split) <;> simp
@[simp] theorem transmit_ledger : ∀ a0 a1 s, (transmit a0 a1 s).2.ledger = s.ledger := by
  intros; unfold transmit; (try dsimp only); (repeat' first | rfl | (apply foldl_ledger; intros) | (split <;> try (rename_i h; (first | (replace h := pair_ledger h) | (replace h := triple_ledger h) | (replace h := commitPacket_ledger _ _ _ _ _ _ _ h) | (replace h := takePacket_ledger _ _ _ h) | (replace h := queueFrame_ledger _ _ _ _ _ h) | (replace h := deliver_ledger _ _ _ _ _ _ _ h) | (replace h := fedAccept_ledger _ _ _ h))))) <;> simp_all [apply_ite State.ledger, apply_ite SideState.floor, apply_ite SideState.security]
@[simp] theorem sendBase_ledger : ∀ a0 s, (sendBase a0 s).2.ledger = s.ledger := by
  intros; unfold sendBase; dsimp only; (repeat' split) <;> simp_all [apply_ite State.ledger]
@[simp] theorem sendSite_ledger : ∀ a0 a1 a2 a3 a4 s, (sendSite a0 a1 a2 a3 a4 s).2.ledger = s.ledger := by
  intros; unfold sendSite; (repeat' split) <;> simp
@[simp] theorem State.modPeer_ledger : ∀ s a1 a2, (State.modPeer s a1 a2).ledger = s.ledger := by
  intros; rfl
@[simp] theorem fedRequest_ledger : ∀ a0 a1 a2 s, (fedRequest a0 a1 a2 s).2.ledger = s.ledger := by
  intros; simp [fedRequest]
@[simp] theorem fedRequestAll_ledger : ∀ a0 a1 a2 s, (fedRequestAll a0 a1 a2 s).ledger = s.ledger := by
  intros; simp [fedRequestAll]
@[simp] theorem State.modStop_ledger : ∀ s a1 a2, (State.modStop s a1 a2).ledger = s.ledger := by
  intros; rfl
@[simp] theorem stopStatus_ledger : ∀ a0 a1 s, (stopStatus a0 a1 s).ledger = s.ledger := by
  intros; simp [stopStatus]
@[simp] theorem reclass_ledger : ∀ a0 a1 s, (reclass a0 a1 s).ledger = s.ledger := by
  intros; unfold reclass; (repeat' first | rfl | split) <;> simp_all [apply_ite State.ledger, apply_ite SideState.floor, apply_ite SideState.security]
@[simp] theorem reclassAll_ledger : ∀ a0 s, (reclassAll a0 s).ledger = s.ledger := by
  intros; simp [reclassAll]
@[simp] theorem newStop_ledger : ∀ a0 a1 a2 a3 s, (newStop a0 a1 a2 a3 s).2.ledger = s.ledger := by
  intros; unfold newStop; dsimp only; (repeat' split) <;> simp_all [apply_ite State.ledger]
@[simp] theorem raiseStop_ledger : ∀ a0 a1 a2 a3 s, (raiseStop a0 a1 a2 a3 s).2.2.ledger = s.ledger := by
  intros; unfold raiseStop; (repeat' first | rfl | split) <;> simp_all
@[simp] theorem withhold_ledger : ∀ a0 a1 s, (withhold a0 a1 s).ledger = s.ledger := by
  intros; rfl
@[simp] theorem envelopeAction_ledger : ∀ a0 s, (envelopeAction a0 s).ledger = s.ledger := by
  intros; simp [envelopeAction, apply_ite State.ledger]
@[simp] theorem State.modConn_ledger : ∀ s a1 a2, (State.modConn s a1 a2).ledger = s.ledger := by
  intros; rfl
@[simp] theorem State.modConnRun_ledger : ∀ s a1 a2, (State.modConnRun s a1 a2).ledger = s.ledger := by
  intros; rfl
@[simp] theorem State.modMacLane_ledger : ∀ s a1 a2, (State.modMacLane s a1 a2).ledger = s.ledger := by
  intros; rfl
@[simp] theorem skipEvent_ledger : ∀ a0 a1 s, (skipEvent a0 a1 s).ledger = s.ledger := by
  intros; simp [skipEvent]
@[simp] theorem sentDown_ledger : ∀ a0 a1 a2 s, (sentDown a0 a1 a2 s).ledger = s.ledger := by
  intro n d c s
  unfold sentDown
  dsimp only
  split
  · generalize hx : ((s.modConn n _).modConnRun n _) = x
    have h : x.ledger = s.ledger := by rw [← hx]; simp
    rw [← h]
    cases e : takePacket c.flow x with
    | none => rfl
    | some t => exact takePacket_ledger _ _ _ e
  · simp
@[simp] theorem transmitDown_ledger : ∀ a0 a1 a2 a3 a4 a5 s, (transmitDown a0 a1 a2 a3 a4 a5 s).2.ledger = s.ledger := by
  intros; simp [transmitDown, apply_ite State.ledger, apply_ite SideState.floor, apply_ite SideState.security]; (repeat' first | rfl | (apply foldl_ledger; intros) | split) <;> simp_all [apply_ite State.ledger, apply_ite SideState.floor, apply_ite SideState.security]
@[simp] theorem modHead_ledger : ∀ a0 a1 s, (modHead a0 a1 s).ledger = s.ledger := by
  intros; unfold modHead; (repeat' split) <;> simp
@[simp] theorem keepLead_ledger : ∀ a0 a1 s, (keepLead a0 a1 s).ledger = s.ledger := by
  intros; unfold keepLead; dsimp only; (repeat' split) <;> simp_all [apply_ite State.ledger]
@[simp] theorem withdrawFrame_ledger : ∀ a0 a1 s, (withdrawFrame a0 a1 s).ledger = s.ledger := by
  intros; unfold withdrawFrame; dsimp only; (repeat' split) <;> simp_all [apply_ite State.ledger]
@[simp] theorem dropSpoiled_ledger : ∀ node n s, (dropSpoiled node n s).ledger = s.ledger := by
  intro node n
  induction n with
  | zero => intro s; rfl
  | succ n ih => intro s; unfold dropSpoiled; (repeat' split) <;> simp [ih]
@[simp] theorem sendDown_ledger : ∀ a0 a1 a2 s, (sendDown a0 a1 a2 s).ledger = s.ledger := by
  intros; unfold sendDown; (try dsimp only); (repeat' first | rfl | (apply foldl_ledger; intros) | (split <;> try (rename_i h; (first | (replace h := pair_ledger h) | (replace h := triple_ledger h) | (replace h := commitPacket_ledger _ _ _ _ _ _ _ h) | (replace h := takePacket_ledger _ _ _ h) | (replace h := queueFrame_ledger _ _ _ _ _ h) | (replace h := deliver_ledger _ _ _ _ _ _ _ h) | (replace h := fedAccept_ledger _ _ _ h))))) <;> simp_all [apply_ite State.ledger, apply_ite SideState.floor, apply_ite SideState.security]
@[simp] theorem fillDown_ledger : ∀ a0 a1 s, (fillDown a0 a1 s).ledger = s.ledger := by
  intros; unfold fillDown; (repeat' split) <;> simp
@[simp] theorem expireDown_ledger : ∀ a0 a1 s, (expireDown a0 a1 s).ledger = s.ledger := by
  intros; unfold expireDown; (repeat' split) <;> simp
theorem queueFrame_ledger : ∀ a0 a1 a2 s, ∀ t, queueFrame a0 a1 a2 s = some t → t.2.ledger = s.ledger := by
  intro n k p s t h
  unfold queueFrame at h
  split at h
  · cases h
  · dsimp only at h
    split at h
    · cases h
    · rename_i e; have := commitPacket_ledger _ _ _ _ _ _ _ e
      injection h with h; subst h; simpa using this
@[simp] theorem queueOrRecord_ledger : ∀ a0 a1 a2 s, (queueOrRecord a0 a1 a2 s).ledger = s.ledger := by
  intros; unfold queueOrRecord; (try dsimp only); (repeat' first | rfl | (apply foldl_ledger; intros) | (split <;> try (rename_i h; (first | (replace h := pair_ledger h) | (replace h := triple_ledger h) | (replace h := commitPacket_ledger _ _ _ _ _ _ _ h) | (replace h := takePacket_ledger _ _ _ h) | (replace h := queueFrame_ledger _ _ _ _ _ h) | (replace h := deliver_ledger _ _ _ _ _ _ _ h) | (replace h := fedAccept_ledger _ _ _ h))))) <;> simp_all [apply_ite State.ledger, apply_ite SideState.floor, apply_ite SideState.security]
@[simp] theorem updateMap_ledger : ∀ a0 s, (updateMap a0 s).ledger = s.ledger := by
  intros; unfold updateMap; (repeat' first | rfl | split) <;> simp_all [apply_ite State.ledger, apply_ite SideState.floor, apply_ite SideState.security]
@[simp] theorem updateMaps_ledger : ∀ a0 s, (updateMaps a0 s).ledger = s.ledger := by
  intros; simp [updateMaps]
@[simp] theorem sendRate_ledger : ∀ a0 a1 s, (sendRate a0 a1 s).ledger = s.ledger := by
  intros; unfold sendRate; (repeat' first | rfl | split) <;> simp_all [apply_ite State.ledger, apply_ite SideState.floor, apply_ite SideState.security]
@[simp] theorem siteKeyMsg_ledger : ∀ a0 a1 a2 s, (siteKeyMsg a0 a1 a2 s).2.ledger = s.ledger := by
  intros; rfl
@[simp] theorem sendSiteKey_ledger : ∀ a0 a1 s, (sendSiteKey a0 a1 s).ledger = s.ledger := by
  intros; simp [sendSiteKey, apply_ite State.ledger, apply_ite SideState.floor, apply_ite SideState.security]; (repeat' first | rfl | (apply foldl_ledger; intros) | split) <;> simp_all [apply_ite State.ledger, apply_ite SideState.floor, apply_ite SideState.security]
@[simp] theorem bindFlow_ledger : ∀ a0 a1 s, (bindFlow a0 a1 s).ledger = s.ledger := by
  intros; rfl
@[simp] theorem dropQueue_ledger : ∀ a0 s, (dropQueue a0 s).ledger = s.ledger := by
  intros; simp [dropQueue]
@[simp] theorem linkEvent_ledger : ∀ a0 a1 a2 s, (linkEvent a0 a1 a2 s).ledger = s.ledger := by
  intros; simp [linkEvent]
@[simp] theorem endConn_ledger : ∀ a0 a1 s, (endConn a0 a1 s).ledger = s.ledger := by
  intros; unfold endConn; (repeat' first | rfl | split) <;> simp_all
@[simp] theorem askEnd_ledger : ∀ a0 a1 s, (askEnd a0 a1 s).ledger = s.ledger := by
  intros; unfold askEnd; (repeat' split) <;> simp
@[simp] theorem endLane_ledger : ∀ a0 a1 s, (endLane a0 a1 s).ledger = s.ledger := by
  intros; simp [endLane]
@[simp] theorem disconnect_ledger : ∀ a0 a1 s, (disconnect a0 a1 s).2.ledger = s.ledger := by
  intros; unfold disconnect; (repeat' first | rfl | split) <;> simp_all
@[simp] theorem State.modProfile_ledger : ∀ s a1 a2, (State.modProfile s a1 a2).ledger = s.ledger := by
  intros; rfl
@[simp] theorem armFrame_ledger : ∀ a0 s, (armFrame a0 s).ledger = s.ledger := by
  intros; unfold armFrame; dsimp only; (repeat' split) <;> simp_all [apply_ite State.ledger]
@[simp] theorem beginFrames_ledger : ∀ a0 s, (beginFrames a0 s).ledger = s.ledger := by
  intros; unfold beginFrames; (repeat' split) <;> simp
@[simp] theorem freshFrame_ledger : ∀ a0 s, (freshFrame a0 s).ledger = s.ledger := by
  intros; unfold freshFrame; (repeat' split) <;> simp
@[simp] theorem State.mapWindows_ledger : ∀ s a1, (State.mapWindows s a1).ledger = s.ledger := by
  intros; rfl
@[simp] theorem State.mapCopies_ledger : ∀ s a1 a2, (State.mapCopies s a1 a2).ledger = s.ledger := by
  intros; rfl
@[simp] theorem State.addWindow_ledger : ∀ s a1 a2, (State.addWindow s a1 a2).ledger = s.ledger := by
  intros; rfl
@[simp] theorem State.modAllot_ledger : ∀ s a1 a2, (State.modAllot s a1 a2).ledger = s.ledger := by
  intros; rfl
@[simp] theorem dykeEvent_ledger : ∀ a0 a1 a2 a3 s, (dykeEvent a0 a1 a2 a3 s).ledger = s.ledger := by
  intros; simp [dykeEvent]
@[simp] theorem noteCheck_ledger : ∀ s, (noteCheck s).ledger = s.ledger := by
  intros; rfl
@[simp] theorem countCheck_ledger : ∀ s, (countCheck s).ledger = s.ledger := by
  intros; simp [countCheck]
@[simp] theorem freeWindows_ledger : ∀ a0 a1 s, (freeWindows a0 a1 s).2.ledger = s.ledger := by
  intros; rfl
@[simp] theorem commitAllot_ledger : ∀ a0 a1 a2 a3 s, (commitAllot a0 a1 a2 a3 s).ledger = s.ledger := by
  intros; simp [commitAllot]
@[simp] theorem reserveAt_ledger : ∀ a0 a1 a2 a3 a4 s, (reserveAt a0 a1 a2 a3 a4 s).2.ledger = s.ledger := by
  intro a b c d e s
  unfold reserveAt
  refine foldl_acc_ledger _ (fun x y => ?_) _ ([], s)
  simp
@[simp] theorem releaseAt_ledger : ∀ a0 a1 a2 s, (releaseAt a0 a1 a2 s).ledger = s.ledger := by
  intros; simp [releaseAt]
@[simp] theorem releaseCopies_ledger : ∀ a0 a1 s, (releaseCopies a0 a1 s).ledger = s.ledger := by
  intros; simp [releaseCopies]
@[simp] theorem submit_ledger (n : Nat) (q : PathReq) (c : Option HostCmd) (r : Option (List Byte)) (s : State) :
    (submit n q c r s).Keeps s.ledger := by
  unfold submit
  split
  · trivial
  · dsimp only
    split
    · trivial
    · split
      · simp only [Submit.Keeps, releaseCopies_ledger, commitAllot_ledger, countCheck_ledger]
      · split
        · trivial
        · simp only [Submit.Keeps, ledger_other]
          exact (foldl_acc_ledger _ (fun x a => by simp) _ _).trans (countCheck_ledger s)

theorem submit_eq_ledger {n : Nat} {q : PathReq} {c : Option HostCmd} {r : Option (List Byte)} {s : State} {x : Submit}
    (h : submit n q c r s = x) : x.Keeps s.ledger := h ▸ submit_ledger n q c r s

@[simp] theorem notePlaced_ledger : ∀ a0 s, (notePlaced a0 s).ledger = s.ledger := by
  intros; unfold notePlaced; (repeat' split) <;> simp
@[simp] theorem envelopeFailure_ledger : ∀ a0 a1 a2 s, (envelopeFailure a0 a1 a2 s).ledger = s.ledger := by
  intros; simp [envelopeFailure, apply_ite State.ledger]
@[simp] theorem envelopeStep_ledger : ∀ a0 s, (envelopeStep a0 s).ledger = s.ledger := by
  intros; unfold envelopeStep; dsimp only; (repeat' split) <;> simp_all [apply_ite State.ledger, apply_ite SideState.floor, apply_ite SideState.security]
@[simp] theorem pinFootprint_ledger : ∀ a0 s, (pinFootprint a0 s).ledger = s.ledger := by
  intros; simp [pinFootprint, apply_ite State.ledger, apply_ite SideState.floor, apply_ite SideState.security]; (repeat' first | rfl | (apply foldl_ledger; intros) | split) <;> simp_all [apply_ite State.ledger, apply_ite SideState.floor, apply_ite SideState.security]
@[simp] theorem pinSoon_ledger : ∀ a0 s, (pinSoon a0 s).ledger = s.ledger := by
  intros; rfl
@[simp] theorem runDykeConfig_ledger : ∀ a0 s, (runDykeConfig a0 s).Keeps s.ledger := by
  intros; simp [runDykeConfig, apply_ite State.ledger, apply_ite SideState.floor, apply_ite SideState.security]; (repeat' first | rfl | (apply foldl_ledger; intros) | split) <;> simp_all [apply_ite State.ledger, apply_ite SideState.floor, apply_ite SideState.security]
@[simp] theorem runDykeClass_ledger : ∀ a0 s, (runDykeClass a0 s).Keeps s.ledger := by
  intros; simp [runDykeClass, apply_ite State.ledger, apply_ite SideState.floor, apply_ite SideState.security]; (repeat' first | rfl | (apply foldl_ledger; intros) | split) <;> simp_all [apply_ite State.ledger, apply_ite SideState.floor, apply_ite SideState.security]
@[simp] theorem runDykeMember_ledger : ∀ a0 s, (runDykeMember a0 s).Keeps s.ledger := by
  intros; simp [runDykeMember, apply_ite State.ledger, apply_ite SideState.floor, apply_ite SideState.security]; (repeat' first | rfl | (apply foldl_ledger; intros) | split) <;> simp_all [apply_ite State.ledger, apply_ite SideState.floor, apply_ite SideState.security]
@[simp] theorem runDykeGraphEdit_ledger : ∀ a0 s, (runDykeGraphEdit a0 s).Keeps s.ledger := by
  intros; simp [runDykeGraphEdit, apply_ite State.ledger, apply_ite SideState.floor, apply_ite SideState.security]; (repeat' first | rfl | (apply foldl_ledger; intros) | split) <;> simp_all [apply_ite State.ledger, apply_ite SideState.floor, apply_ite SideState.security]
@[simp] theorem askAllot_ledger : ∀ s, (askAllot s).ledger = s.ledger := by
  intros; unfold askAllot; (repeat' split) <;> simp
@[simp] theorem swapGraph_ledger : ∀ a0 s, (swapGraph a0 s).2.2.ledger = s.ledger := by
  intros; simp [swapGraph]
@[simp] theorem applySwap_ledger : ∀ s, (applySwap s).ledger = s.ledger := by
  intros; unfold applySwap; (repeat' split) <;> simp
@[simp] theorem runDykeSwap_ledger : ∀ a0 s, (runDykeSwap a0 s).Keeps s.ledger := by
  intros; simp [runDykeSwap, apply_ite State.ledger, apply_ite SideState.floor, apply_ite SideState.security]; (repeat' first | rfl | (apply foldl_ledger; intros) | split) <;> simp_all [apply_ite State.ledger, apply_ite SideState.floor, apply_ite SideState.security]
@[simp] theorem execGraphSwapApply_ledger : ∀ s, Keeps s.ledger (execGraphSwapApply s) := by
  intros; simp [execGraphSwapApply]
@[simp] theorem concludeRequest_ledger (c : HostCmd) (node : Nat) (r : Option (List Byte)) (s : State) (x : Submit)
    (h : x.Keeps s.ledger) : (concludeRequest c node r s x).Keeps s.ledger := by
  unfold concludeRequest
  split <;> first | simpa [Submit.Keeps] using h | (simp; done) | (dsimp only; split <;> simp)
@[simp] theorem runDykeReserve_ledger : ∀ a0 s, (runDykeReserve a0 s).Keeps s.ledger := by
  intros; simp [runDykeReserve, apply_ite State.ledger, apply_ite SideState.floor, apply_ite SideState.security]; (repeat' first | rfl | (apply foldl_ledger; intros) | split) <;> simp_all [apply_ite State.ledger, apply_ite SideState.floor, apply_ite SideState.security]
@[simp] theorem releaseAllot_ledger : ∀ a0 s, (releaseAllot a0 s).ledger = s.ledger := by
  intros; unfold releaseAllot; (repeat' split) <;> simp
@[simp] theorem runDykeRelease_ledger : ∀ a0 s, (runDykeRelease a0 s).Keeps s.ledger := by
  intro c s
  unfold runDykeRelease
  dsimp only
  split
  · simp
  · split
    · simp
    · split
      · simp
      · simp [apply_ite State.ledger]
@[simp] theorem runDykeRead_ledger : ∀ a0 s, (runDykeRead a0 s).Keeps s.ledger := by
  intros; simp [runDykeRead, apply_ite State.ledger, apply_ite SideState.floor, apply_ite SideState.security]; (repeat' first | rfl | (apply foldl_ledger; intros) | split) <;> simp_all [apply_ite State.ledger, apply_ite SideState.floor, apply_ite SideState.security]
@[simp] theorem runDykeStatus_ledger : ∀ a0 s, (runDykeStatus a0 s).Keeps s.ledger := by
  intros; rfl
@[simp] theorem execDykeConfig_ledger : ∀ a0 s, Keeps s.ledger (execDykeConfig a0 s) := by
  intros; simp [execDykeConfig]
@[simp] theorem execDykeClass_ledger : ∀ a0 s, Keeps s.ledger (execDykeClass a0 s) := by
  intros; simp [execDykeClass]
@[simp] theorem execDykeMember_ledger : ∀ a0 s, Keeps s.ledger (execDykeMember a0 s) := by
  intros; simp [execDykeMember]
@[simp] theorem execDykeGraphEdit_ledger : ∀ a0 s, Keeps s.ledger (execDykeGraphEdit a0 s) := by
  intros; simp [execDykeGraphEdit]
@[simp] theorem execDykeSwap_ledger : ∀ a0 s, Keeps s.ledger (execDykeSwap a0 s) := by
  intros; simp [execDykeSwap]
@[simp] theorem execDykeReserve_ledger : ∀ a0 s, Keeps s.ledger (execDykeReserve a0 s) := by
  intros; simp [execDykeReserve]
@[simp] theorem execDykeRelease_ledger : ∀ a0 s, Keeps s.ledger (execDykeRelease a0 s) := by
  intros; simp [execDykeRelease]
@[simp] theorem execDykeRead_ledger : ∀ a0 s, Keeps s.ledger (execDykeRead a0 s) := by
  intros; simp [execDykeRead]
@[simp] theorem execDykeStatus_ledger : ∀ a0 s, Keeps s.ledger (execDykeStatus a0 s) := by
  intros; simp [execDykeStatus]
@[simp] theorem queueProfile_ledger : ∀ a0 a1 s, (queueProfile a0 a1 s).ledger = s.ledger := by
  intros; unfold queueProfile; (repeat' first | rfl | split) <;> simp_all
@[simp] theorem emitFrame_ledger : ∀ a0 s, (emitFrame a0 s).ledger = s.ledger := by
  intros; unfold emitFrame; (repeat' first | rfl | split) <;> simp_all [apply_ite State.ledger, apply_ite SideState.floor, apply_ite SideState.security]
@[simp] theorem profileEvent_ledger : ∀ a0 a1 s, (profileEvent a0 a1 s).ledger = s.ledger := by
  intros; simp [profileEvent]
@[simp] theorem taskEvent_ledger : ∀ a0 a1 a2 a3 a4 s, (taskEvent a0 a1 a2 a3 a4 s).ledger = s.ledger := by
  intros; simp [taskEvent]
@[simp] theorem State.modTask_ledger : ∀ s a1 a2, (State.modTask s a1 a2).ledger = s.ledger := by
  intros; rfl
@[simp] theorem taskArrived_ledger : ∀ a0 s, (taskArrived a0 s).ledger = s.ledger := by
  intros; unfold taskArrived; (repeat' first | rfl | split) <;> simp_all
@[simp] theorem progress_ledger : ∀ a0 s, (progress a0 s).ledger = s.ledger := by
  intros; unfold progress; (repeat' first | rfl | split) <;> simp_all [apply_ite State.ledger, apply_ite SideState.floor, apply_ite SideState.security]
@[simp] theorem holdMember_ledger : ∀ a0 s, (holdMember a0 s).ledger = s.ledger := by
  intros; unfold holdMember; dsimp only; (repeat' split) <;> simp_all [apply_ite State.ledger, apply_ite SideState.floor, apply_ite SideState.security]
@[simp] theorem restMember_ledger : ∀ a0 s, (restMember a0 s).ledger = s.ledger := by
  intros; unfold restMember; (repeat' first | rfl | split) <;> simp_all [apply_ite State.ledger, apply_ite SideState.floor, apply_ite SideState.security]
@[simp] theorem resumeCommitted_ledger : ∀ a0 s, (resumeCommitted a0 s).ledger = s.ledger := by
  intros; simp [resumeCommitted]
@[simp] theorem resumeRefused_ledger : ∀ a0 a1 s, (resumeRefused a0 a1 s).ledger = s.ledger := by
  intros; simp [resumeRefused, apply_ite State.ledger]
@[simp] theorem resume_ledger : ∀ a0 s, (resume a0 s).ledger = s.ledger := by
  intro node s
  unfold resume
  split
  · split
    · rfl
    · dsimp only
      split
      · simp
      · split <;> rename_i e <;> replace e := submit_eq_ledger e <;> simp_all [Submit.Keeps]
  · rfl
@[simp] theorem askResume_ledger : ∀ a0 s, (askResume a0 s).ledger = s.ledger := by
  intros; simp [askResume, apply_ite State.ledger]
@[simp] theorem settle_ledger : ∀ a0 s, (settle a0 s).ledger = s.ledger := by
  intros; simp [settle]
@[simp] theorem settleAll_ledger : ∀ s, (settleAll s).ledger = s.ledger := by
  intros; simp [settleAll]
@[simp] theorem frameWork_ledger : ∀ a0 s, (frameWork a0 s).ledger = s.ledger := by
  intros; unfold frameWork; (repeat' split) <;> simp
@[simp] theorem frameTurn_ledger : ∀ a0 a1 s, (frameTurn a0 a1 s).ledger = s.ledger := by
  intros; unfold frameTurn; (repeat' split) <;> simp
@[simp] theorem execProfileFrameDue_ledger : ∀ a0 s, Keeps s.ledger (execProfileFrameDue a0 s) := by
  intros; unfold execProfileFrameDue; (repeat' split) <;> simp
@[simp] theorem resumeWork_ledger : ∀ a0 s, (resumeWork a0 s).ledger = s.ledger := by
  intros; unfold resumeWork; (repeat' split) <;> simp
@[simp] theorem execResumeRetry_ledger : ∀ a0 s, Keeps s.ledger (execResumeRetry a0 s) := by
  intros; unfold execResumeRetry; (repeat' split) <;> simp
@[simp] theorem State.dropBorder_ledger : ∀ s a1, (State.dropBorder s a1).ledger = s.ledger := by
  intros; rfl
@[simp] theorem refuseBorder_ledger : ∀ a0 a1 a2 a3 a4 s, (refuseBorder a0 a1 a2 a3 a4 s).ledger = s.ledger := by
  intros; unfold refuseBorder; (repeat' split) <;> simp
@[simp] theorem refuseClash_ledger : ∀ a0 a1 a2 a3 s, (refuseClash a0 a1 a2 a3 s).ledger = s.ledger := by
  intros; unfold refuseClash; (repeat' split) <;> simp
@[simp] theorem offered_ledger : ∀ a0 a1 s, (offered a0 a1 s).ledger = s.ledger := by
  intros; unfold offered; (repeat' split) <;> simp
@[simp] theorem commitBorder_ledger : ∀ a0 s, (commitBorder a0 s).ledger = s.ledger := by
  intros; unfold commitBorder; dsimp only; (repeat' split) <;> simp_all [apply_ite State.ledger, apply_ite SideState.floor, apply_ite SideState.security]
@[simp] theorem borderWork_ledger : ∀ a0 s, (borderWork a0 s).ledger = s.ledger := by
  intros; unfold borderWork; (repeat' split) <;> simp
@[simp] theorem askCommit_ledger : ∀ a0 s, (askCommit a0 s).ledger = s.ledger := by
  intros; unfold askCommit; (repeat' split) <;> simp
@[simp] theorem borderAccepted_ledger : ∀ a0 s, (borderAccepted a0 s).ledger = s.ledger := by
  intro t s
  unfold borderAccepted
  split
  · rfl
  · dsimp only
    split
    · rw [ledger_other]
      exact foldl_acc_ledger _ (fun x a => by simp) _ ([], s)
    · simp
@[simp] theorem borderAcked_ledger : ∀ a0 s, (borderAcked a0 s).ledger = s.ledger := by
  intros; unfold borderAcked; (repeat' first | rfl | split) <;> simp_all [apply_ite State.ledger, apply_ite SideState.floor, apply_ite SideState.security]
@[simp] theorem execBorderCommitTimeout_ledger : ∀ a0 s, Keeps s.ledger (execBorderCommitTimeout a0 s) := by
  intros; unfold execBorderCommitTimeout; (repeat' split) <;> simp
@[simp] theorem runProfileConfig_ledger : ∀ a0 s, (runProfileConfig a0 s).Keeps s.ledger := by
  intros; rfl
@[simp] theorem runProfileMember_ledger : ∀ a0 s, (runProfileMember a0 s).Keeps s.ledger := by
  intros; simp [runProfileMember, apply_ite State.ledger, apply_ite SideState.floor, apply_ite SideState.security]; (repeat' first | rfl | (apply foldl_ledger; intros) | split) <;> simp_all [apply_ite State.ledger, apply_ite SideState.floor, apply_ite SideState.security]
@[simp] theorem toldRetarget_ledger (n : Nat) (x : CmdResult) (l : Ledger) (h : x.Keeps l) : (toldRetarget n x).Keeps l := by
  cases x <;> simp_all [toldRetarget]

@[simp] theorem runProfileRetarget_ledger : ∀ a0 s, (runProfileRetarget a0 s).Keeps s.ledger := by
  intro c s
  unfold runProfileRetarget
  dsimp only
  repeat' first
    | exact toldRetarget_ledger _ _ _ (concludeRequest_ledger _ _ _ _ _ (submit_ledger _ _ _ _ _))
    | (simp; done)
    | split
@[simp] theorem runProfileRead_ledger : ∀ a0 s, (runProfileRead a0 s).Keeps s.ledger := by
  intros; simp [runProfileRead, apply_ite State.ledger, apply_ite SideState.floor, apply_ite SideState.security]; (repeat' first | rfl | (apply foldl_ledger; intros) | split) <;> simp_all [apply_ite State.ledger, apply_ite SideState.floor, apply_ite SideState.security]
@[simp] theorem execProfileConfig_ledger : ∀ a0 s, Keeps s.ledger (execProfileConfig a0 s) := by
  intros; simp [execProfileConfig]
@[simp] theorem execProfileMember_ledger : ∀ a0 s, Keeps s.ledger (execProfileMember a0 s) := by
  intros; simp [execProfileMember]
@[simp] theorem execProfileRetarget_ledger : ∀ a0 s, Keeps s.ledger (execProfileRetarget a0 s) := by
  intros; simp [execProfileRetarget]
@[simp] theorem execProfileRead_ledger : ∀ a0 s, Keeps s.ledger (execProfileRead a0 s) := by
  intros; simp [execProfileRead]
@[simp] theorem redunEvent_ledger : ∀ a0 a1 a2 s, (redunEvent a0 a1 a2 s).ledger = s.ledger := by
  intros; simp [redunEvent, apply_ite State.ledger]
@[simp] theorem snapPages_ledger : ∀ a0 s, (snapPages a0 s).2.2.ledger = s.ledger := by
  intros; rfl
@[simp] theorem cutImage_ledger : ∀ a0 s, (cutImage a0 s).ledger = s.ledger := by
  intros; unfold cutImage; (repeat' split) <;> simp
@[simp] theorem takeSnapshot_ledger : ∀ a0 s, (takeSnapshot a0 s).ledger = s.ledger := by
  intros; unfold takeSnapshot; (repeat' split) <;> simp
@[simp] theorem snapshotOrWait_ledger : ∀ a0 s, (snapshotOrWait a0 s).ledger = s.ledger := by
  intros; simp [snapshotOrWait, apply_ite State.ledger]
@[simp] theorem discardTransfer_ledger : ∀ s, (discardTransfer s).ledger = s.ledger := by
  intros; unfold discardTransfer; (repeat' first | rfl | split) <;> simp_all
@[simp] theorem goDark_ledger : ∀ s, (goDark s).ledger = s.ledger := by
  intros; simp [goDark]
@[simp] theorem grantRole_ledger : ∀ a0 s, (grantRole a0 s).ledger = s.ledger := by
  intros; simp [grantRole]
@[simp] theorem beginStart_ledger : ∀ a0 a1 a2 a3 s, (beginStart a0 a1 a2 a3 s).ledger = s.ledger := by
  intros; simp [beginStart]
@[simp] theorem wakeSide_ledger : ∀ a0 s, (wakeSide a0 s).ledger = s.ledger := by
  intros; simp [wakeSide]
@[simp] theorem beginReset_ledger : ∀ a0 s, (beginReset a0 s).ledger = s.ledger := by
  intros; simp [beginReset]
@[simp] theorem serveResets_ledger : ∀ a0 s, (serveResets a0 s).ledger = s.ledger
  | [], _ => rfl
  | c :: t, s => by unfold serveResets; split <;> simp [serveResets_ledger t]
@[simp] theorem nextReset_ledger : ∀ s, (nextReset s).ledger = s.ledger := by
  intros; unfold nextReset; (repeat' first | rfl | split) <;> simp_all
@[simp] theorem loseControl_ledger : ∀ s, (loseControl s).ledger = s.ledger := by
  intros; rfl
@[simp] theorem stopServing_ledger : ∀ s, (stopServing s).ledger = s.ledger := by
  intros; simp [stopServing]
@[simp] theorem domainsOff_kept (d : SideState) : d.domainsOff.floor = d.floor ∧
    d.domainsOff.security = d.security := ⟨rfl, rfl⟩

@[simp] theorem failStart_ledger : ∀ a0 a1 s, (failStart a0 a1 s).ledger = s.ledger := by
  intro x r s
  unfold failStart
  split
  · rfl
  · dsimp only
    split
    · split <;> simp
    · simp
    · simp
    · split <;> simp
@[simp] theorem abandonReset_ledger : ∀ s, (abandonReset s).ledger = s.ledger := by
  intro s
  unfold abandonReset
  dsimp only
  repeat' split
  all_goals simp [SideState.afterReset, apply_ite SideState.floor, apply_ite SideState.security]
@[simp] theorem handRoleOver_ledger : ∀ s, (handRoleOver s).ledger = s.ledger := by
  intro s
  unfold handRoleOver
  dsimp only
  split
  · simp
  · split
    · simp
    · simp
@[simp] theorem relinquishSluice_ledger : ∀ a0 a1 s, (relinquishSluice a0 a1 s).ledger = s.ledger := by
  intros; simp [relinquishSluice, apply_ite State.ledger]
@[simp] theorem cancelStep_ledger : ∀ s, (cancelStep s).ledger = s.ledger := by
  intros; unfold cancelStep; (repeat' first | rfl | split) <;> simp_all
@[simp] theorem watchdogStop_ledger : ∀ s, (watchdogStop s).ledger = s.ledger := by
  intros; unfold watchdogStop; (repeat' split) <;> simp
@[simp] theorem relinquish_ledger : ∀ a0 s, (relinquish a0 s).ledger = s.ledger := by
  intros; simp [relinquish, apply_ite State.ledger]
@[simp] theorem relinquishSlot_ledger : ∀ s, (relinquishSlot s).ledger = s.ledger := by
  intros; simp [relinquishSlot, apply_ite State.ledger]
@[simp] theorem dropAwaiting_ledger : ∀ s, (dropAwaiting s).ledger = s.ledger := by
  intros; rfl
@[simp] theorem refuseHandover_ledger : ∀ a0 a1 s, (refuseHandover a0 a1 s).ledger = s.ledger := by
  intros; unfold refuseHandover; (repeat' first | rfl | split) <;> simp_all
@[simp] theorem sinkLost_ledger : ∀ s, (sinkLost s).ledger = s.ledger := by
  intros; simp [sinkLost, apply_ite State.ledger, apply_ite SideState.floor, apply_ite SideState.security]; (repeat' first | rfl | (apply foldl_ledger; intros) | split) <;> simp_all [apply_ite State.ledger, apply_ite SideState.floor, apply_ite SideState.security]
@[simp] theorem handoverProgress_ledger : ∀ s, (handoverProgress s).ledger = s.ledger := by
  intros; unfold handoverProgress; (repeat' first | rfl | split) <;> simp_all [apply_ite State.ledger, apply_ite SideState.floor, apply_ite SideState.security]
@[simp] theorem afterSlot_ledger : ∀ s, (afterSlot s).ledger = s.ledger := by
  intros; simp [afterSlot, apply_ite State.ledger]
@[simp] theorem sendAll_ledger : ∀ a0 a1 a2 a3 s, (sendAll a0 a1 a2 a3 s).2.ledger = s.ledger
  | _, _, _, [], _ => rfl
  | a, b, c, l :: ls, s => by
    unfold sendAll
    simp [sendAll_ledger a b c ls]
@[simp] theorem copySent_ledger : ∀ a0 a1 s, (copySent a0 a1 s).ledger = s.ledger := by
  intros; unfold copySent; (repeat' split) <;> simp
@[simp] theorem noteOverflow_ledger : ∀ a0 s, (noteOverflow a0 s).ledger = s.ledger := by
  intros; simp [noteOverflow]
@[simp] theorem grantsDone_ledger : ∀ s, (grantsDone s).ledger = s.ledger := by
  intros; simp [grantsDone]
@[simp] theorem sluiceFrame_ledger : ∀ a0 s, (sluiceFrame a0 s).ledger = s.ledger := by
  intros; unfold sluiceFrame; dsimp only; (repeat' split) <;> simp_all [apply_ite State.ledger, apply_ite SideState.floor, apply_ite SideState.security]
@[simp] theorem execSluiceSlot_ledger : ∀ a0 s, Keeps s.ledger (execSluiceSlot a0 s) := by
  intros; unfold execSluiceSlot; (repeat' first | rfl | split) <;> simp_all
@[simp] theorem spanSent_ledger : ∀ a0 a1 a2 a3 a4 s, (spanSent a0 a1 a2 a3 a4 s).ledger = s.ledger := by
  intros; unfold spanSent; (repeat' split) <;> simp
@[simp] theorem stopFrame_ledger (l asn : Nat) (e : Nat × State) (x : Stop) : (stopFrame l asn e x).2.ledger = e.2.ledger := by
  unfold stopFrame; dsimp only; repeat' split
  all_goals simp
@[simp] theorem stopSpan_ledger : ∀ a0 a1 s, (stopSpan a0 a1 s).ledger = s.ledger := by
  intro l a s; exact foldl_acc_ledger _ (fun e x => stopFrame_ledger l a e x) _ _
@[simp] theorem execSubghzStopSpan_ledger : ∀ a0 a1 s, Keeps s.ledger (execSubghzStopSpan a0 a1 s) := by
  intros; unfold execSubghzStopSpan; (repeat' first | rfl | split) <;> simp_all
@[simp] theorem classify_ledger : ∀ a0 a1 s, (classify a0 a1 s).ledger = s.ledger := by
  intros; rfl
@[simp] theorem execSluInOpen_ledger : ∀ a0 s, Keeps s.ledger (execSluInOpen a0 s) := by
  intros; unfold execSluInOpen; (repeat' first | rfl | split) <;> simp_all
@[simp] theorem execSluInClosed_ledger : ∀ a0 s, Keeps s.ledger (execSluInClosed a0 s) := by
  intros; unfold execSluInClosed; (repeat' first | rfl | split) <;> simp_all
@[simp] theorem execSluInFault_ledger : ∀ a0 s, Keeps s.ledger (execSluInFault a0 s) := by
  intros; unfold execSluInFault; (repeat' first | rfl | split) <;> simp_all
@[simp] theorem execLoopDiscrepancyTimeout_ledger : ∀ s, Keeps s.ledger (execLoopDiscrepancyTimeout s) := by
  intros; unfold execLoopDiscrepancyTimeout; (repeat' first | rfl | split) <;> simp_all
@[simp] theorem adoptStop_ledger : ∀ a0 a1 a2 s, (adoptStop a0 a1 a2 s).ledger = s.ledger := by
  intros; simp [adoptStop, apply_ite State.ledger]
@[simp] theorem memberStatus_ledger : ∀ a0 a1 s, (memberStatus a0 a1 s).ledger = s.ledger := by
  intro n p s
  unfold memberStatus
  split
  · rfl
  · dsimp only
    simp only [settle_ledger, adoptStop_ledger, apply_ite State.ledger, reclassAll_ledger, ledger_other, ite_self]
@[simp] theorem execConfirmTimeout_ledger : ∀ a0 s, Keeps s.ledger (execConfirmTimeout a0 s) := by
  intros; simp [execConfirmTimeout]
@[simp] theorem execStopStatusReport_ledger : ∀ a0 s, Keeps s.ledger (execStopStatusReport a0 s) := by
  intros; unfold execStopStatusReport; (repeat' first | rfl | split) <;> simp_all
@[simp] theorem releaseStop_ledger : ∀ a0 s, (releaseStop a0 s).ledger = s.ledger := by
  intros; unfold releaseStop; (repeat' first | rfl | split) <;> simp_all [apply_ite State.ledger, apply_ite SideState.floor, apply_ite SideState.security]
@[simp] theorem runSluiceRelease_ledger : ∀ a0 s, (runSluiceRelease a0 s).Keeps s.ledger := by
  intros; simp [runSluiceRelease, apply_ite State.ledger, apply_ite SideState.floor, apply_ite SideState.security]; (repeat' first | rfl | (apply foldl_ledger; intros) | split) <;> simp_all [apply_ite State.ledger, apply_ite SideState.floor, apply_ite SideState.security]
@[simp] theorem runSluiceConfig_ledger : ∀ a0 s, (runSluiceConfig a0 s).Keeps s.ledger := by
  intros; rfl
@[simp] theorem runSluiceGrant_ledger : ∀ a0 s, (runSluiceGrant a0 s).Keeps s.ledger := by
  intros; simp [runSluiceGrant, apply_ite State.ledger, apply_ite SideState.floor, apply_ite SideState.security]; (repeat' first | rfl | (apply foldl_ledger; intros) | split) <;> simp_all [apply_ite State.ledger, apply_ite SideState.floor, apply_ite SideState.security]
@[simp] theorem runSluiceStop_ledger : ∀ a0 s, (runSluiceStop a0 s).Keeps s.ledger := by
  intros; simp [runSluiceStop, apply_ite State.ledger, apply_ite SideState.floor, apply_ite SideState.security]; (repeat' first | rfl | (apply foldl_ledger; intros) | split) <;> simp_all [apply_ite State.ledger, apply_ite SideState.floor, apply_ite SideState.security]
@[simp] theorem runSluiceStatus_ledger : ∀ a0 s, (runSluiceStatus a0 s).Keeps s.ledger := by
  intros; rfl
@[simp] theorem execSluiceConfig_ledger : ∀ a0 s, Keeps s.ledger (execSluiceConfig a0 s) := by
  intros; simp [execSluiceConfig]
@[simp] theorem execSluiceGrant_ledger : ∀ a0 s, Keeps s.ledger (execSluiceGrant a0 s) := by
  intros; simp [execSluiceGrant]
@[simp] theorem execSluiceStop_ledger : ∀ a0 s, Keeps s.ledger (execSluiceStop a0 s) := by
  intros; simp [execSluiceStop]
@[simp] theorem execSluiceRelease_ledger : ∀ a0 s, Keeps s.ledger (execSluiceRelease a0 s) := by
  intros; simp [execSluiceRelease]
@[simp] theorem execSluiceStatus_ledger : ∀ a0 s, Keeps s.ledger (execSluiceStatus a0 s) := by
  intros; simp [execSluiceStatus]
@[simp] theorem State.modGnss_ledger : ∀ s a1, (State.modGnss s a1).ledger = s.ledger := by
  intros; rfl
@[simp] theorem State.modChan_ledger : ∀ s a1 a2, (State.modChan s a1 a2).ledger = s.ledger := by
  intros; rfl
@[simp] theorem finishMove_ledger : ∀ a0 s, (finishMove a0 s).ledger = s.ledger := by
  intros; unfold finishMove; (repeat' split) <;> simp
@[simp] theorem execChannelIntegration_ledger : ∀ a0 a1 a2 a3 s, Keeps s.ledger (execChannelIntegration a0 a1 a2 a3 s) := by
  intros; simp [execChannelIntegration, apply_ite State.ledger, apply_ite SideState.floor, apply_ite SideState.security]; (repeat' first | rfl | (apply foldl_ledger; intros) | split) <;> simp_all [apply_ite State.ledger, apply_ite SideState.floor, apply_ite SideState.security]
@[simp] theorem execAcquisitionDwellDone_ledger : ∀ a0 s, Keeps s.ledger (execAcquisitionDwellDone a0 s) := by
  intros; unfold execAcquisitionDwellDone; dsimp only; (repeat' split) <;> simp_all [apply_ite State.ledger]
@[simp] theorem releaseChan_ledger : ∀ a0 s, (releaseChan a0 s).ledger = s.ledger := by
  intros; rfl
@[simp] theorem startChan_ledger : ∀ a0 a1 s, (startChan a0 a1 s).ledger = s.ledger := by
  intros; unfold startChan; (repeat' split) <;> simp
@[simp] theorem acquirePinned_ledger : ∀ s, (acquirePinned s).ledger = s.ledger := by
  intro s; unfold acquirePinned; apply foldl_ledger; intro s e; (repeat' split) <;> simp
@[simp] theorem assign_ledger : ∀ a0 s, (assign a0 s).ledger = s.ledger := by
  intro sky s
  unfold assign
  dsimp only
  rw [foldl_ledger, foldl_ledger]
  · simp
  · intro s e; simp [apply_ite State.ledger]
  · intro s w
    split
    · rfl
    · split <;> simp
@[simp] theorem moveAside_ledger : ∀ a0 s, (moveAside a0 s).ledger = s.ledger := by
  intros; simp [moveAside, apply_ite State.ledger, apply_ite SideState.floor, apply_ite SideState.security]; (repeat' first | rfl | (apply foldl_ledger; intros) | split) <;> simp_all [apply_ite State.ledger, apply_ite SideState.floor, apply_ite SideState.security]
@[simp] theorem sendObs_ledger : ∀ a0 a1 a2 s, (sendObs a0 a1 a2 s).ledger = s.ledger := by
  intros; simp [sendObs]
@[simp] theorem applyGnssConfig_ledger : ∀ s, (applyGnssConfig s).ledger = s.ledger := by
  intros; unfold applyGnssConfig; (repeat' split) <;> simp
@[simp] theorem observe_ledger : ∀ a0 a1 s, (observe a0 a1 s).ledger = s.ledger := by
  intros; simp [observe, apply_ite State.ledger, apply_ite SideState.floor, apply_ite SideState.security]; (repeat' first | rfl | (apply foldl_ledger; intros) | split) <;> simp_all [apply_ite State.ledger, apply_ite SideState.floor, apply_ite SideState.security]
@[simp] theorem hotSky_ledger : ∀ s, (hotSky s).2.ledger = s.ledger := by
  intros; simp [hotSky, apply_ite State.ledger]
@[simp] theorem startTracking_ledger : ∀ s, (startTracking s).ledger = s.ledger := by
  intros; simp [startTracking, apply_ite State.ledger]
@[simp] theorem State.modMonitor_ledger : ∀ s a1 a2, (State.modMonitor s a1 a2).ledger = s.ledger := by
  intros; rfl
@[simp] theorem execMonitorUpdate_ledger : ∀ a0 a1 a2 a3 s, Keeps s.ledger (execMonitorUpdate a0 a1 a2 a3 s) := by
  intros; rfl
@[simp] theorem gnssAlert_ledger : ∀ a0 a1 a2 s, (gnssAlert a0 a1 a2 s).ledger = s.ledger := by
  intros; simp [gnssAlert]
@[simp] theorem execInterferenceFlagSet_ledger : ∀ a0 s, Keeps s.ledger (execInterferenceFlagSet a0 s) := by
  intros; simp [execInterferenceFlagSet, apply_ite State.ledger, apply_ite SideState.floor, apply_ite SideState.security]; (repeat' first | rfl | (apply foldl_ledger; intros) | split) <;> simp_all [apply_ite State.ledger, apply_ite SideState.floor, apply_ite SideState.security]
@[simp] theorem execInterferenceFlagClear_ledger : ∀ a0 s, Keeps s.ledger (execInterferenceFlagClear a0 s) := by
  intros; simp [execInterferenceFlagClear, apply_ite State.ledger, apply_ite SideState.floor, apply_ite SideState.security]; (repeat' first | rfl | (apply foldl_ledger; intros) | split) <;> simp_all [apply_ite State.ledger, apply_ite SideState.floor, apply_ite SideState.security]
@[simp] theorem notchMark_ledger : ∀ a0 a1 a2 s, (notchMark a0 a1 a2 s).ledger = s.ledger := by
  intros; rfl
@[simp] theorem setNotch_ledger : ∀ a0 a1 a2 s, (setNotch a0 a1 a2 s).ledger = s.ledger := by
  intros; rfl
@[simp] theorem execAdaptiveNotchMove_ledger : ∀ a0 a1 a2 a3 s, Keeps s.ledger (execAdaptiveNotchMove a0 a1 a2 a3 s) := by
  intros; unfold execAdaptiveNotchMove; dsimp only; (repeat' split) <;> simp_all [apply_ite State.ledger]
@[simp] theorem mapMessage_ledger : ∀ a0 a1 a2 a3 a4 a5 a6 s, (mapMessage a0 a1 a2 a3 a4 a5 a6 s).ledger = s.ledger := by
  intros; unfold mapMessage; (repeat' split) <;> simp
@[simp] theorem mapMeasured_ledger : ∀ a0 a1 a2 a3 s, (mapMeasured a0 a1 a2 a3 s).ledger = s.ledger := by
  intros; simp [mapMeasured, apply_ite State.ledger]

@[simp] theorem endMap_ledger : ∀ a0 s, (endMap a0 s).ledger = s.ledger := by
  intros; unfold endMap; (repeat' first | rfl | split) <;> simp_all
@[simp] theorem mapLost_ledger : ∀ s, (mapLost s).ledger = s.ledger := by
  intros; unfold mapLost; (repeat' first | rfl | split) <;> simp_all [apply_ite State.ledger, apply_ite SideState.floor, apply_ite SideState.security]
@[simp] theorem execMpmapSecond_ledger : ∀ a0 s, Keeps s.ledger (execMpmapSecond a0 s) := by
  intro l s
  unfold execMpmapSecond
  dsimp only
  split
  · simp
  · rw [keeps_next, foldl_ledger]
    · simp
    · intro s e; (repeat' split) <;> simp
@[simp] theorem execMpmapDurationEnd_ledger : ∀ s, Keeps s.ledger (execMpmapDurationEnd s) := by
  intros; simp [execMpmapDurationEnd]
@[simp] theorem enterFen_ledger : ∀ s, (enterFen s).ledger = s.ledger := by
  intros; simp [enterFen]
@[simp] theorem leaveFen_ledger : ∀ s, (leaveFen s).ledger = s.ledger := by
  intros; rfl
@[simp] theorem execFenBurstStart_ledger : ∀ s, Keeps s.ledger (execFenBurstStart s) := by
  intros; unfold execFenBurstStart; (repeat' split) <;> simp
@[simp] theorem execFenBurstEnd_ledger : ∀ s, Keeps s.ledger (execFenBurstEnd s) := by
  intros; unfold execFenBurstEnd; (repeat' first | rfl | split) <;> simp_all
@[simp] theorem biasNow_ledger : ∀ s, (biasNow s).2.2.ledger = s.ledger := by
  intros; unfold biasNow; dsimp only; (repeat' split) <;> simp_all [apply_ite State.ledger]
@[simp] theorem execAntennaBiasLimit_ledger : ∀ a0 s, Keeps s.ledger (execAntennaBiasLimit a0 s) := by
  intros; unfold execAntennaBiasLimit; (repeat' split) <;> simp
@[simp] theorem execBiasRetry_ledger : ∀ a0 a1 s, Keeps s.ledger (execBiasRetry a0 a1 s) := by
  intros; unfold execBiasRetry; (repeat' first | rfl | split) <;> simp_all
@[simp] theorem runGnssConfig_ledger : ∀ a0 s, (runGnssConfig a0 s).Keeps s.ledger := by
  intros; simp [runGnssConfig, apply_ite State.ledger, apply_ite SideState.floor, apply_ite SideState.security]; (repeat' first | rfl | (apply foldl_ledger; intros) | split) <;> simp_all [apply_ite State.ledger, apply_ite SideState.floor, apply_ite SideState.security]
@[simp] theorem cancelMove_ledger : ∀ a0 s, (cancelMove a0 s).ledger = s.ledger := by
  intros; unfold cancelMove; (repeat' split) <;> simp
@[simp] theorem pinChan_ledger : ∀ a0 a1 s, (pinChan a0 a1 s).ledger = s.ledger := by
  intros; simp [pinChan, apply_ite State.ledger, apply_ite SideState.floor, apply_ite SideState.security]; (repeat' first | rfl | (apply foldl_ledger; intros) | split) <;> simp_all [apply_ite State.ledger, apply_ite SideState.floor, apply_ite SideState.security]
@[simp] theorem runGnssChannelSet_ledger : ∀ a0 s, (runGnssChannelSet a0 s).Keeps s.ledger := by
  intros; simp [runGnssChannelSet, apply_ite State.ledger, apply_ite SideState.floor, apply_ite SideState.security]; (repeat' first | rfl | (apply foldl_ledger; intros) | split) <;> simp_all [apply_ite State.ledger, apply_ite SideState.floor, apply_ite SideState.security]
@[simp] theorem runGnssChannelRead_ledger : ∀ a0 s, (runGnssChannelRead a0 s).Keeps s.ledger := by
  intros; simp [runGnssChannelRead, apply_ite State.ledger, apply_ite SideState.floor, apply_ite SideState.security]; (repeat' first | rfl | (apply foldl_ledger; intros) | split) <;> simp_all [apply_ite State.ledger, apply_ite SideState.floor, apply_ite SideState.security]
@[simp] theorem runGnssNotch_ledger : ∀ a0 s, (runGnssNotch a0 s).Keeps s.ledger := by
  intros; simp [runGnssNotch, apply_ite State.ledger, apply_ite SideState.floor, apply_ite SideState.security]; (repeat' first | rfl | (apply foldl_ledger; intros) | split) <;> simp_all [apply_ite State.ledger, apply_ite SideState.floor, apply_ite SideState.security]
@[simp] theorem setMonitor_ledger : ∀ a0 s a2, (setMonitor a0 s a2).ledger = s.ledger := by
  intros; rfl
@[simp] theorem runGnssMonitor_ledger : ∀ a0 s, (runGnssMonitor a0 s).Keeps s.ledger := by
  intros; simp [runGnssMonitor, apply_ite State.ledger, apply_ite SideState.floor, apply_ite SideState.security]; (repeat' first | rfl | (apply foldl_ledger; intros) | split) <;> simp_all [apply_ite State.ledger, apply_ite SideState.floor, apply_ite SideState.security]
@[simp] theorem runGnssMpmap_ledger : ∀ a0 s, (runGnssMpmap a0 s).Keeps s.ledger := by
  intros; simp [runGnssMpmap, apply_ite State.ledger, apply_ite SideState.floor, apply_ite SideState.security]; (repeat' first | rfl | (apply foldl_ledger; intros) | split) <;> simp_all [apply_ite State.ledger, apply_ite SideState.floor, apply_ite SideState.security]
@[simp] theorem runGnssStatus_ledger : ∀ a0 s, (runGnssStatus a0 s).Keeps s.ledger := by
  intros; simp [runGnssStatus, apply_ite State.ledger]
@[simp] theorem execGnssConfig_ledger : ∀ a0 s, Keeps s.ledger (execGnssConfig a0 s) := by
  intros; simp [execGnssConfig]
@[simp] theorem execGnssChannelSet_ledger : ∀ a0 s, Keeps s.ledger (execGnssChannelSet a0 s) := by
  intros; simp [execGnssChannelSet]
@[simp] theorem execGnssChannelRead_ledger : ∀ a0 s, Keeps s.ledger (execGnssChannelRead a0 s) := by
  intros; simp [execGnssChannelRead]
@[simp] theorem execGnssNotch_ledger : ∀ a0 s, Keeps s.ledger (execGnssNotch a0 s) := by
  intros; simp [execGnssNotch]
@[simp] theorem execGnssMonitor_ledger : ∀ a0 s, Keeps s.ledger (execGnssMonitor a0 s) := by
  intros; simp [execGnssMonitor]
@[simp] theorem execGnssMpmap_ledger : ∀ a0 s, Keeps s.ledger (execGnssMpmap a0 s) := by
  intros; simp [execGnssMpmap]
@[simp] theorem execGnssStatus_ledger : ∀ a0 s, Keeps s.ledger (execGnssStatus a0 s) := by
  intros; simp [execGnssStatus]
@[simp] theorem headOut_ledger : ∀ a0 s, (headOut a0 s).ledger = s.ledger := by
  intros; unfold headOut; (repeat' split) <;> simp
@[simp] theorem setResetN_ledger : ∀ a0 a1 a2 s, (setResetN a0 a1 a2 s).ledger = s.ledger := by
  intros; simp [setResetN, apply_ite State.ledger]
@[simp] theorem spiWrite_ledger : ∀ a0 a1 a2 a3 s, (spiWrite a0 a1 a2 a3 s).ledger = s.ledger := by
  intros; unfold spiWrite; (repeat' split) <;> simp
@[simp] theorem spiPoll_ledger : ∀ a0 a1 a2 a3 s, (spiPoll a0 a1 a2 a3 s).2.ledger = s.ledger := by
  intros; unfold spiPoll; (repeat' split) <;> simp
@[simp] theorem runSteps_ledger (x : SideId) (h l : Nat) : ∀ a3 a4 s, (runSteps x h l a3 a4 s).2.ledger = s.ledger
  | _, [], _ => rfl
  | m, p :: t, s => by
    unfold runSteps
    split
    · rfl
    · simp [runSteps_ledger x h l _ t]
    · split <;> rename_i e <;> replace e := pair_ledger e <;> simp_all [runSteps_ledger x h l _ t]
    all_goals simp [runSteps_ledger x h l _ t]
@[simp] theorem runSeq_ledger : ∀ a0 a1 a2 a3 s, (runSeq a0 a1 a2 a3 s).2.ledger = s.ledger := by
  intros; unfold runSeq; (repeat' split) <;> simp
@[simp] theorem runHead_ledger : ∀ a0 a1 a2 s, (runHead a0 a1 a2 s).2.ledger = s.ledger := by
  intros; unfold runHead; (repeat' split) <;> simp
@[simp] theorem tuneHead_ledger : ∀ a0 s, (tuneHead a0 s).2.ledger = s.ledger := by
  intros; unfold tuneHead; dsimp only; (repeat' split) <;> simp_all [apply_ite State.ledger]
@[simp] theorem initHead_ledger : ∀ a0 a1 s, (initHead a0 a1 s).2.ledger = s.ledger := by
  intros; unfold initHead; (repeat' split) <;> simp
@[simp] theorem startLink_ledger : ∀ a0 s, (startLink a0 s).2.ledger = s.ledger := by
  intros; unfold startLink; (try dsimp only); (repeat' first | rfl | (apply foldl_ledger; intros) | (split <;> try (rename_i h; (first | (replace h := pair_ledger h) | (replace h := triple_ledger h) | (replace h := commitPacket_ledger _ _ _ _ _ _ _ h) | (replace h := takePacket_ledger _ _ _ h) | (replace h := queueFrame_ledger _ _ _ _ _ h) | (replace h := deliver_ledger _ _ _ _ _ _ _ h) | (replace h := fedAccept_ledger _ _ _ h))))) <;> simp_all [apply_ite State.ledger, apply_ite SideState.floor, apply_ite SideState.security]
@[simp] theorem stopLink_ledger : ∀ a0 s, (stopLink a0 s).ledger = s.ledger := by
  intros; simp [stopLink]
@[simp] theorem restartFailed_ledger : ∀ a0 s, (restartFailed a0 s).ledger = s.ledger := by
  intros; simp [restartFailed, apply_ite State.ledger]
@[simp] theorem restartLink_ledger : ∀ a0 s, (restartLink a0 s).ledger = s.ledger := by
  intro k s
  have h := startLink_ledger k s
  unfold restartLink
  split <;> rename_i e <;> rw [e] at h <;> simp_all
@[simp] theorem setLink_ledger : ∀ a0 a1 s, (setLink a0 a1 s).ledger = s.ledger := by
  intros; rfl
@[simp] theorem refusedStart_ledger : ∀ a0 a1 a2 s, (refusedStart a0 a1 a2 s).ledger = s.ledger := by
  intros; simp [refusedStart, apply_ite State.ledger]
@[simp] theorem linkCommand_ledger : ∀ a0 s, (linkCommand a0 s).2.ledger = s.ledger := by
  intros; unfold linkCommand; (try dsimp only); (repeat' first | rfl | (apply foldl_ledger; intros) | (split <;> try (rename_i h; (first | (replace h := pair_ledger h) | (replace h := triple_ledger h) | (replace h := commitPacket_ledger _ _ _ _ _ _ _ h) | (replace h := takePacket_ledger _ _ _ h) | (replace h := queueFrame_ledger _ _ _ _ _ h) | (replace h := deliver_ledger _ _ _ _ _ _ _ h) | (replace h := fedAccept_ledger _ _ _ h))))) <;> simp_all [apply_ite State.ledger, apply_ite SideState.floor, apply_ite SideState.security]
@[simp] theorem linkCommands_ledger : ∀ a0 a1 s, (linkCommands a0 a1 s).ledger = s.ledger
  | _, [], _ => rfl
  | k, c :: t, s => by
    have h := linkCommand_ledger c s
    unfold linkCommands
    split <;> rename_i e <;> rw [e] at h <;> simp_all [linkCommands_ledger k t]
@[simp] theorem runRadioLinkConfig_ledger : ∀ a0 s, (runRadioLinkConfig a0 s).Keeps s.ledger := by
  intros; simp [runRadioLinkConfig, apply_ite State.ledger, apply_ite SideState.floor, apply_ite SideState.security]; (repeat' first | rfl | (apply foldl_ledger; intros) | split) <;> simp_all [apply_ite State.ledger, apply_ite SideState.floor, apply_ite SideState.security]
@[simp] theorem startFailed_ledger : ∀ a0 a1 s, (startFailed a0 a1 s).ledger = s.ledger := by
  intros; unfold startFailed; (repeat' first | rfl | split) <;> simp_all
@[simp] theorem unmeasured_ledger : ∀ a0 s, (unmeasured a0 s).ledger = s.ledger := by
  intros; unfold unmeasured; (repeat' split) <;> simp
@[simp] theorem linkDown_ledger : ∀ a0 s, (linkDown a0 s).ledger = s.ledger := by
  intros; simp [linkDown]
@[simp] theorem execLinkDataPhaseLost_ledger : ∀ a0 a1 s, Keeps s.ledger (execLinkDataPhaseLost a0 a1 s) := by
  intros; unfold execLinkDataPhaseLost; (repeat' first | rfl | split) <;> simp_all
@[simp] theorem execLinkRetrain_ledger : ∀ a0 s, Keeps s.ledger (execLinkRetrain a0 s) := by
  intros; unfold execLinkRetrain; (repeat' first | rfl | split) <;> simp_all
@[simp] theorem headFault_ledger : ∀ a0 s, (headFault a0 s).ledger = s.ledger := by
  intros; unfold headFault; (repeat' split) <;> simp
@[simp] theorem padsFell_ledger : ∀ a0 s, (padsFell a0 s).ledger = s.ledger := by
  intros; simp [padsFell, apply_ite State.ledger]
@[simp] theorem execHeadAlarmOrLockLoss_ledger : ∀ a0 a1 s, Keeps s.ledger (execHeadAlarmOrLockLoss a0 a1 s) := by
  intro k a s
  unfold execHeadAlarmOrLockLoss
  extract_lets t
  have h : t.ledger = s.ledger := by simp [t]
  rw [← h]
  clear_value t
  split
  · simp
  · split <;> simp
@[simp] theorem execHeadRestart_ledger : ∀ a0 s, Keeps s.ledger (execHeadRestart a0 s) := by
  intros; unfold execHeadRestart; (repeat' first | rfl | split) <;> simp_all
@[simp] theorem execHeadLockCheckTimeout_ledger : ∀ a0 s, Keeps s.ledger (execHeadLockCheckTimeout a0 s) := by
  intros; unfold execHeadLockCheckTimeout; (repeat' first | rfl | split) <;> simp_all
@[simp] theorem tuneLanes_ledger : ∀ a0 s, (tuneLanes a0 s).2.ledger = s.ledger := by
  intro k s
  unfold tuneLanes
  refine foldl_acc_ledger _ (fun x a => ?_) _ (true, s)
  split <;> simp
@[simp] theorem linkUp_ledger : ∀ a0 a1 s, (linkUp a0 a1 s).ledger = s.ledger := by
  intros; unfold linkUp; (repeat' split) <;> simp
@[simp] theorem execLinkRestored_ledger : ∀ a0 a1 s, Keeps s.ledger (execLinkRestored a0 a1 s) := by
  intros; unfold execLinkRestored; (try dsimp only); (repeat' first | rfl | (apply foldl_ledger; intros) | (split <;> try (rename_i h; (first | (replace h := pair_ledger h) | (replace h := triple_ledger h) | (replace h := commitPacket_ledger _ _ _ _ _ _ _ h) | (replace h := takePacket_ledger _ _ _ h) | (replace h := queueFrame_ledger _ _ _ _ _ h) | (replace h := deliver_ledger _ _ _ _ _ _ _ h) | (replace h := fedAccept_ledger _ _ _ h))))) <;> simp_all [apply_ite State.ledger, apply_ite SideState.floor, apply_ite SideState.security]
@[simp] theorem runRadioHeadProfile_ledger : ∀ a0 s, (runRadioHeadProfile a0 s).Keeps s.ledger := by
  intros; simp [runRadioHeadProfile, apply_ite State.ledger, apply_ite SideState.floor, apply_ite SideState.security]; (repeat' first | rfl | (apply foldl_ledger; intros) | split) <;> simp_all [apply_ite State.ledger, apply_ite SideState.floor, apply_ite SideState.security]
@[simp] theorem setLane_ledger : ∀ a0 a1 s, (setLane a0 a1 s).ledger = s.ledger := by
  intros; rfl
@[simp] theorem enableLane_ledger : ∀ a0 a1 s, (enableLane a0 a1 s).ledger = s.ledger := by
  intros; rfl
@[simp] theorem disableLane_ledger : ∀ a0 s, (disableLane a0 s).ledger = s.ledger := by
  intros; simp [disableLane]
@[simp] theorem runRadioLaneConfig_ledger : ∀ a0 s, (runRadioLaneConfig a0 s).Keeps s.ledger := by
  intros; unfold runRadioLaneConfig; (try dsimp only); (repeat' first | rfl | (apply foldl_ledger; intros) | (split <;> try (rename_i h; (first | (replace h := pair_ledger h) | (replace h := triple_ledger h) | (replace h := reservePacket_ledger _ _ _ _ h) | (replace h := commitPacket_ledger _ _ _ _ _ _ _ h) | (replace h := takePacket_ledger _ _ _ h) | (replace h := queueFrame_ledger _ _ _ _ _ h) | (replace h := deliver_ledger _ _ _ _ _ _ _ h) | (replace h := fedAccept_ledger _ _ _ h) | (replace h := fedTaken_ledger _ _ _ h))))) <;> simp_all [apply_ite State.ledger, apply_ite SideState.floor, apply_ite SideState.security]
@[simp] theorem runRadioRegionLoad_ledger : ∀ a0 s, (runRadioRegionLoad a0 s).Keeps s.ledger := by
  intros; simp [runRadioRegionLoad, apply_ite State.ledger, apply_ite SideState.floor, apply_ite SideState.security]; (repeat' first | rfl | (apply foldl_ledger; intros) | split) <;> simp_all [apply_ite State.ledger, apply_ite SideState.floor, apply_ite SideState.security]
@[simp] theorem setOffs_ledger : ∀ a0 a1 a2 s, (setOffs a0 a1 a2 s).ledger = s.ledger := by
  intros; rfl
@[simp] theorem loopback_ledger : ∀ a0 s, (loopback a0 s).2.ledger = s.ledger := by
  intros; unfold loopback; dsimp only; (repeat' split) <;> simp_all [apply_ite State.ledger]
@[simp] theorem runRadioTxCal_ledger : ∀ a0 s, (runRadioTxCal a0 s).Keeps s.ledger := by
  intros; unfold runRadioTxCal; (try dsimp only); (repeat' first | rfl | (apply foldl_ledger; intros) | (split <;> try (rename_i h; (first | (replace h := pair_ledger h) | (replace h := triple_ledger h) | (replace h := commitPacket_ledger _ _ _ _ _ _ _ h) | (replace h := takePacket_ledger _ _ _ h) | (replace h := queueFrame_ledger _ _ _ _ _ h) | (replace h := deliver_ledger _ _ _ _ _ _ _ h) | (replace h := fedAccept_ledger _ _ _ h))))) <;> simp_all [apply_ite State.ledger, apply_ite SideState.floor, apply_ite SideState.security]
@[simp] theorem refreshLane_ledger : ∀ a0 s, (refreshLane a0 s).ledger = s.ledger := by
  intros; simp [refreshLane]
@[simp] theorem runRadioBudget_ledger : ∀ a0 s, (runRadioBudget a0 s).Keeps s.ledger := by
  intros; simp [runRadioBudget]
@[simp] theorem countCrc_ledger : ∀ a0 s, (countCrc a0 s).ledger = s.ledger := by
  intros; simp [countCrc, apply_ite State.ledger]
@[simp] theorem runRadioLaneStatus_ledger : ∀ a0 s, (runRadioLaneStatus a0 s).Keeps s.ledger := by
  intros; unfold runRadioLaneStatus; (repeat' split) <;> simp
@[simp] theorem execFrameTransmit_ledger : ∀ a0 a1 a2 a3 a4 a5 s, Keeps s.ledger (execFrameTransmit a0 a1 a2 a3 a4 a5 s) := by
  intros; unfold execFrameTransmit; dsimp only; (repeat' split) <;> simp_all [apply_ite State.ledger]
@[simp] theorem execBudgetBinBoundary_ledger : ∀ a0 a1 a2 s, Keeps s.ledger (execBudgetBinBoundary a0 a1 a2 s) := by
  intros; unfold execBudgetBinBoundary; (repeat' first | rfl | split) <;> simp_all
@[simp] theorem execLbtMeasurement_ledger : ∀ a0 a1 s, Keeps s.ledger (execLbtMeasurement a0 a1 s) := by
  intros; simp [execLbtMeasurement, apply_ite State.ledger, apply_ite SideState.floor, apply_ite SideState.security]; (repeat' first | rfl | (apply foldl_ledger; intros) | split) <;> simp_all [apply_ite State.ledger, apply_ite SideState.floor, apply_ite SideState.security]
@[simp] theorem execRadarDetected_ledger : ∀ a0 a1 s, Keeps s.ledger (execRadarDetected a0 a1 s) := by
  intros; unfold execRadarDetected; (repeat' first | rfl | split) <;> simp_all
@[simp] theorem execDfsStopWindowEnd_ledger : ∀ a0 a1 s, Keeps s.ledger (execDfsStopWindowEnd a0 a1 s) := by
  intros; rfl
@[simp] theorem execCacComplete_ledger : ∀ a0 a1 s, Keeps s.ledger (execCacComplete a0 a1 s) := by
  intros; unfold execCacComplete; (repeat' first | rfl | split) <;> simp_all
@[simp] theorem execNonOccupancyEnd_ledger : ∀ a0 a1 s, Keeps s.ledger (execNonOccupancyEnd a0 a1 s) := by
  intros; unfold execNonOccupancyEnd; (repeat' first | rfl | split) <;> simp_all
@[simp] theorem execNoiseFloorAverage_ledger : ∀ a0 a1 s, Keeps s.ledger (execNoiseFloorAverage a0 a1 s) := by
  intros; rfl
@[simp] theorem execRadioLinkConfig_ledger : ∀ a0 s, Keeps s.ledger (execRadioLinkConfig a0 s) := by
  intros; simp [execRadioLinkConfig]
@[simp] theorem execRadioHeadProfile_ledger : ∀ a0 s, Keeps s.ledger (execRadioHeadProfile a0 s) := by
  intros; simp [execRadioHeadProfile]
@[simp] theorem execRadioLaneConfig_ledger : ∀ a0 s, Keeps s.ledger (execRadioLaneConfig a0 s) := by
  intros; simp [execRadioLaneConfig]
@[simp] theorem execRadioRegionLoad_ledger : ∀ a0 s, Keeps s.ledger (execRadioRegionLoad a0 s) := by
  intros; simp [execRadioRegionLoad]
@[simp] theorem execRadioTxCal_ledger : ∀ a0 s, Keeps s.ledger (execRadioTxCal a0 s) := by
  intros; simp [execRadioTxCal]
@[simp] theorem execRadioBudget_ledger : ∀ a0 s, Keeps s.ledger (execRadioBudget a0 s) := by
  intros; simp [execRadioBudget]
@[simp] theorem execRadioLaneStatus_ledger : ∀ a0 s, Keeps s.ledger (execRadioLaneStatus a0 s) := by
  intros; simp [execRadioLaneStatus]
@[simp] theorem sendBeacon_ledger : ∀ a0 a1 a2 s, (sendBeacon a0 a1 a2 s).ledger = s.ledger := by
  intros; unfold sendBeacon; (try dsimp only); (repeat' first | rfl | (apply foldl_ledger; intros) | (split <;> try (rename_i h; (first | (replace h := pair_ledger h) | (replace h := triple_ledger h) | (replace h := commitPacket_ledger _ _ _ _ _ _ _ h) | (replace h := takePacket_ledger _ _ _ h) | (replace h := queueFrame_ledger _ _ _ _ _ h) | (replace h := deliver_ledger _ _ _ _ _ _ _ h) | (replace h := fedAccept_ledger _ _ _ h))))) <;> simp_all [apply_ite State.ledger, apply_ite SideState.floor, apply_ite SideState.security]
@[simp] theorem sendBcastHead_ledger : ∀ a0 a1 a2 s, (sendBcastHead a0 a1 a2 s).ledger = s.ledger := by
  intro l a k s
  have hp : ∀ s : State, (((takePacket (0x828 + l) s).map (·.2)).getD s).ledger = s.ledger := by
    intro s
    cases e : takePacket (0x828 + l) s with
    | none => rfl
    | some x => exact takePacket_ledger _ _ _ e
  unfold sendBcastHead
  dsimp only
  split
  · rfl
  · split
    · exact hp _
    · split <;> rename_i e <;> replace e := pair_ledger e <;> simp_all
@[simp] theorem fillBcast_ledger : ∀ a0 s, (fillBcast a0 s).ledger = s.ledger := by
  intros; unfold fillBcast; (repeat' split) <;> simp
@[simp] theorem sendBcast_ledger : ∀ a0 a1 a2 s, (sendBcast a0 a1 a2 s).ledger = s.ledger := by
  intros; simp [sendBcast, apply_ite State.ledger]
@[simp] theorem sendJoin_ledger : ∀ a0 a1 a2 a3 a4 a5 a6 s, (sendJoin a0 a1 a2 a3 a4 a5 a6 s).ledger = s.ledger := by
  intros; unfold sendJoin; (repeat' split) <;> simp
@[simp] theorem joinSlot_ledger : ∀ a0 a1 a2 a3 s, (joinSlot a0 a1 a2 a3 s).ledger = s.ledger := by
  intros; unfold joinSlot; (repeat' split) <;> simp
@[simp] theorem sendLaneMap_ledger : ∀ a0 a1 s, (sendLaneMap a0 a1 s).ledger = s.ledger := by
  intros; simp [sendLaneMap, apply_ite State.ledger]
@[simp] theorem applyInstants_ledger : ∀ a0 a1 s, (applyInstants a0 a1 s).ledger = s.ledger := by
  intros; simp [applyInstants, apply_ite State.ledger, apply_ite SideState.floor, apply_ite SideState.security]; (repeat' first | rfl | (apply foldl_ledger; intros) | split) <;> simp_all [apply_ite State.ledger, apply_ite SideState.floor, apply_ite SideState.security]
@[simp] theorem beginEvent_ledger : ∀ a0 a1 s, (beginEvent a0 a1 s).ledger = s.ledger := by
  intros; rfl
@[simp] theorem endingEvent_ledger : ∀ a0 s, (endingEvent a0 s).ledger = s.ledger := by
  intros; unfold endingEvent; (repeat' first | rfl | split) <;> simp_all
@[simp] theorem readDown_ledger : ∀ a0 a1 a2 a3 s, (readDown a0 a1 a2 a3 s).ledger = s.ledger := by
  intros; simp [readDown, apply_ite State.ledger]
@[simp] theorem downlink_ledger : ∀ a0 a1 a2 s, (downlink a0 a1 a2 s).ledger = s.ledger := by
  intros; unfold downlink; dsimp only; (repeat' split) <;> simp_all [apply_ite State.ledger, apply_ite SideState.floor, apply_ite SideState.security]
@[simp] theorem ofdmSlot_ledger : ∀ a0 a1 a2 s, (ofdmSlot a0 a1 a2 s).ledger = s.ledger := by
  intros; unfold ofdmSlot; (repeat' first | rfl | split) <;> simp_all [apply_ite State.ledger, apply_ite SideState.floor, apply_ite SideState.security]
@[simp] theorem subSlot_ledger : ∀ a0 a1 a2 s, (subSlot a0 a1 a2 s).ledger = s.ledger := by
  intros; unfold subSlot; (repeat' first | rfl | split) <;> simp_all [apply_ite State.ledger, apply_ite SideState.floor, apply_ite SideState.security]
@[simp] theorem execSlotBoundary_ledger : ∀ a0 a1 a2 s, Keeps s.ledger (execSlotBoundary a0 a1 a2 s) := by
  intros; simp [execSlotBoundary, apply_ite State.ledger, apply_ite SideState.floor, apply_ite SideState.security]; (repeat' first | rfl | (apply foldl_ledger; intros) | split) <;> simp_all [apply_ite State.ledger, apply_ite SideState.floor, apply_ite SideState.security]
@[simp] theorem execConnectionInstant_ledger : ∀ a0 s, Keeps s.ledger (execConnectionInstant a0 s) := by
  intros; simp [execConnectionInstant, apply_ite State.ledger, apply_ite SideState.floor, apply_ite SideState.security]; (repeat' first | rfl | (apply foldl_ledger; intros) | split) <;> simp_all [apply_ite State.ledger, apply_ite SideState.floor, apply_ite SideState.security]
@[simp] theorem stampRx_ledger : ∀ a0 s, (stampRx a0 s).ledger = s.ledger := by
  intros; unfold stampRx; (repeat' split) <;> simp
@[simp] theorem sealJoin_ledger : ∀ a0 a1 a2 s, (sealJoin a0 a1 a2 s).2.ledger = s.ledger := by
  intros; rfl
@[simp] theorem joinEvent_ledger : ∀ a0 a1 s, (joinEvent a0 a1 s).ledger = s.ledger := by
  intros; simp [joinEvent]
@[simp] theorem joinRefused_ledger : ∀ a0 a1 s, (joinRefused a0 a1 s).ledger = s.ledger := by
  intros; simp [joinRefused]
@[simp] theorem joinReq_ledger : ∀ a0 a1 a2 a3 a4 a5 a6 s, (joinReq a0 a1 a2 a3 a4 a5 a6 s).ledger = s.ledger := by
  intros; simp [joinReq, apply_ite State.ledger, apply_ite SideState.floor, apply_ite SideState.security]; (repeat' first | rfl | (apply foldl_ledger; intros) | split) <;> simp_all [apply_ite State.ledger, apply_ite SideState.floor, apply_ite SideState.security]
@[simp] theorem execJoinReqReceived_ledger : ∀ a0 a1 a2 a3 a4 a5 a6 s, Keeps s.ledger (execJoinReqReceived a0 a1 a2 a3 a4 a5 a6 s) := by
  intros; simp [execJoinReqReceived]
@[simp] theorem beginConn_ledger : ∀ a0 s, (beginConn a0 s).ledger = s.ledger := by
  intros; simp [beginConn, apply_ite State.ledger, apply_ite SideState.floor, apply_ite SideState.security]; (repeat' first | rfl | (apply foldl_ledger; intros) | split) <;> simp_all [apply_ite State.ledger, apply_ite SideState.floor, apply_ite SideState.security]
@[simp] theorem joinDone_ledger : ∀ a0 a1 s, (joinDone a0 a1 s).ledger = s.ledger := by
  intros; unfold joinDone; (repeat' first | rfl | split) <;> simp_all [apply_ite State.ledger, apply_ite SideState.floor, apply_ite SideState.security]
@[simp] theorem joinAuth_ledger : ∀ a0 a1 s, (joinAuth a0 a1 s).ledger = s.ledger := by
  intros; unfold joinAuth; dsimp only; (repeat' split) <;> simp_all [apply_ite State.ledger, apply_ite SideState.floor, apply_ite SideState.security]
@[simp] theorem execJoinAuthReceived_ledger : ∀ a0 a1 s, Keeps s.ledger (execJoinAuthReceived a0 a1 s) := by
  intros; simp [execJoinAuthReceived]
@[simp] theorem execJoinAuthMissing_ledger : ∀ a0 s, Keeps s.ledger (execJoinAuthMissing a0 s) := by
  intros; unfold execJoinAuthMissing; (repeat' first | rfl | split) <;> simp_all
theorem deliver_ledger : ∀ a0 a1 a2 a3 a4 s, ∀ t, deliver a0 a1 a2 a3 a4 s = some t → t.ledger = s.ledger := by
  intro a b c d e s t h
  unfold deliver at h
  split at h
  · injection h with h; subst h; simp
  · split at h
    · cases h
    · rename_i e; have := commitPacket_ledger _ _ _ _ _ _ _ e
      injection h with h; subst h; simpa using this
@[simp] theorem acceptSeq_ledger : ∀ a0 a1 a2 a3 a4 s, (acceptSeq a0 a1 a2 a3 a4 s).ledger = s.ledger := by
  intros; unfold acceptSeq; (try dsimp only); (repeat' first | rfl | (apply foldl_ledger; intros) | (split <;> try (rename_i h; (first | (replace h := pair_ledger h) | (replace h := triple_ledger h) | (replace h := commitPacket_ledger _ _ _ _ _ _ _ h) | (replace h := takePacket_ledger _ _ _ h) | (replace h := queueFrame_ledger _ _ _ _ _ h) | (replace h := deliver_ledger _ _ _ _ _ _ _ h) | (replace h := fedAccept_ledger _ _ _ h))))) <;> simp_all [apply_ite State.ledger, apply_ite SideState.floor, apply_ite SideState.security]
@[simp] theorem syncFrame_ledger : ∀ a0 a1 a2 a3 s, (syncFrame a0 a1 a2 a3 s).ledger = s.ledger := by
  intros; simp [syncFrame, apply_ite State.ledger]
@[simp] theorem dataFrame_ledger : ∀ a0 a1 a2 a3 a4 a5 a6 a7 a8 s, (dataFrame a0 a1 a2 a3 a4 a5 a6 a7 a8 s).ledger = s.ledger := by
  intros; unfold dataFrame; (repeat' first | rfl | split) <;> simp_all
@[simp] theorem execDataFrameReceived_ledger : ∀ a0 a1 a2 a3 a4 a5 a6 a7 a8 s, Keeps s.ledger (execDataFrameReceived a0 a1 a2 a3 a4 a5 a6 a7 a8 s) := by
  intros; simp [execDataFrameReceived]
@[simp] theorem seenFrame_ledger : ∀ a0 a1 a2 s, (seenFrame a0 a1 a2 s).2.ledger = s.ledger := by
  intro a b c s
  unfold seenFrame
  split <;> simp
@[simp] theorem frameBody_ledger : ∀ a0 a1 a2 a3 a4 a5 a6 s, (frameBody a0 a1 a2 a3 a4 a5 a6 s).ledger = s.ledger := by
  intros; simp [frameBody, apply_ite State.ledger]
@[simp] theorem execFrameReceived_ledger : ∀ a0 a1 a2 a3 a4 a5 a6 a7 s, Keeps s.ledger (execFrameReceived a0 a1 a2 a3 a4 a5 a6 a7 s) := by
  intro l f e m o k d b s
  unfold execFrameReceived
  extract_lets b0 ctrl type mesh node ext tail body ctr t
  have h : t.ledger = s.ledger := by simp [t, apply_ite State.ledger]
  rw [← h]
  clear_value t b0 ctrl type mesh node ext tail body ctr
  iterate 5 (split; · simp)
  split
  rename_i e
  have e : _ = t.ledger := (pair_ledger e).trans (by split <;> simp)
  (repeat' split) <;> simp [e]
@[simp] theorem execSupervisionTimeout_ledger : ∀ a0 s, Keeps s.ledger (execSupervisionTimeout a0 s) := by
  intros; unfold execSupervisionTimeout; (repeat' split) <;> simp
@[simp] theorem execSeenCacheAgeOut_ledger : ∀ a0 a1 s, Keeps s.ledger (execSeenCacheAgeOut a0 a1 s) := by
  intros; rfl
@[simp] theorem execSiteKeySwitch_ledger : ∀ s, Keeps s.ledger (execSiteKeySwitch s) := by
  intros; unfold execSiteKeySwitch; (repeat' first | rfl | split) <;> simp_all
@[simp] theorem execOldSiteKeyDiscard_ledger : ∀ s, Keeps s.ledger (execOldSiteKeyDiscard s) := by
  intros; unfold execOldSiteKeyDiscard; (repeat' first | rfl | split) <;> simp_all
@[simp] theorem fillRead_ledger : ∀ a0 s, (fillRead a0 s).ledger = s.ledger := by
  intros; unfold fillRead; (repeat' split) <;> simp
@[simp] theorem execPacketCommit_ledger : ∀ a0 a1 a2 a3 a4 s, Keeps s.ledger (execPacketCommit a0 a1 a2 a3 a4 s) := by
  intros; unfold execPacketCommit; (repeat' first | rfl | split) <;> simp_all
@[simp] theorem execHeadReadStallExpiry_ledger : ∀ a0 s, Keeps s.ledger (execHeadReadStallExpiry a0 s) := by
  intros; unfold execHeadReadStallExpiry; (repeat' first | rfl | split) <;> simp_all
@[simp] theorem runMacConfig_ledger : ∀ a0 s, (runMacConfig a0 s).Keeps s.ledger := by
  intros; simp [runMacConfig, apply_ite State.ledger, apply_ite SideState.floor, apply_ite SideState.security]; (repeat' first | rfl | (apply foldl_ledger; intros) | split) <;> simp_all [apply_ite State.ledger, apply_ite SideState.floor, apply_ite SideState.security]
@[simp] theorem runMacLaneMac_ledger : ∀ a0 s, (runMacLaneMac a0 s).Keeps s.ledger := by
  intros; simp [runMacLaneMac, apply_ite State.ledger, apply_ite SideState.floor, apply_ite SideState.security]; (repeat' first | rfl | (apply foldl_ledger; intros) | split) <;> simp_all [apply_ite State.ledger, apply_ite SideState.floor, apply_ite SideState.security]
@[simp] theorem runMacProvision_ledger : ∀ a0 s, (runMacProvision a0 s).Keeps s.ledger := by
  intros; simp [runMacProvision, apply_ite State.ledger, apply_ite SideState.floor, apply_ite SideState.security]; (repeat' first | rfl | (apply foldl_ledger; intros) | split) <;> simp_all [apply_ite State.ledger, apply_ite SideState.floor, apply_ite SideState.security]
@[simp] theorem startUpdate_ledger : ∀ a0 a1 a2 s, (startUpdate a0 a1 a2 s).ledger = s.ledger := by
  intros; simp [startUpdate, apply_ite State.ledger]
@[simp] theorem runMacConnParam_ledger : ∀ a0 s, (runMacConnParam a0 s).Keeps s.ledger := by
  intros; simp [runMacConnParam, apply_ite State.ledger, apply_ite SideState.floor, apply_ite SideState.security]; (repeat' first | rfl | (apply foldl_ledger; intros) | split) <;> simp_all [apply_ite State.ledger, apply_ite SideState.floor, apply_ite SideState.security]
@[simp] theorem runMacDrop_ledger : ∀ a0 s, (runMacDrop a0 s).Keeps s.ledger := by
  intros; simp [runMacDrop, apply_ite State.ledger, apply_ite SideState.floor, apply_ite SideState.security]; (repeat' first | rfl | (apply foldl_ledger; intros) | split) <;> simp_all [apply_ite State.ledger, apply_ite SideState.floor, apply_ite SideState.security]
@[simp] theorem runMacMemberRead_ledger : ∀ a0 s, (runMacMemberRead a0 s).Keeps s.ledger := by
  intros; simp [runMacMemberRead, apply_ite State.ledger, apply_ite SideState.floor, apply_ite SideState.security]; (repeat' first | rfl | (apply foldl_ledger; intros) | split) <;> simp_all [apply_ite State.ledger, apply_ite SideState.floor, apply_ite SideState.security]
@[simp] theorem runMacStatus_ledger : ∀ a0 s, (runMacStatus a0 s).Keeps s.ledger := by
  intros; rfl
@[simp] theorem runMacSend_ledger : ∀ a0 s, (runMacSend a0 s).Keeps s.ledger := by
  intros; unfold runMacSend; (try dsimp only); (repeat' first | rfl | (apply foldl_ledger; intros) | (split <;> try (rename_i h; (first | (replace h := pair_ledger h) | (replace h := triple_ledger h) | (replace h := commitPacket_ledger _ _ _ _ _ _ _ h) | (replace h := takePacket_ledger _ _ _ h) | (replace h := queueFrame_ledger _ _ _ _ _ h) | (replace h := deliver_ledger _ _ _ _ _ _ _ h) | (replace h := fedAccept_ledger _ _ _ h))))) <;> simp_all [apply_ite State.ledger, apply_ite SideState.floor, apply_ite SideState.security]
@[simp] theorem execMacConfig_ledger : ∀ a0 s, Keeps s.ledger (execMacConfig a0 s) := by
  intros; simp [execMacConfig]
@[simp] theorem execMacLaneMac_ledger : ∀ a0 s, Keeps s.ledger (execMacLaneMac a0 s) := by
  intros; simp [execMacLaneMac]
@[simp] theorem execMacProvision_ledger : ∀ a0 s, Keeps s.ledger (execMacProvision a0 s) := by
  intros; simp [execMacProvision]
@[simp] theorem execMacConnParam_ledger : ∀ a0 s, Keeps s.ledger (execMacConnParam a0 s) := by
  intros; simp [execMacConnParam]
@[simp] theorem execMacDrop_ledger : ∀ a0 s, Keeps s.ledger (execMacDrop a0 s) := by
  intros; simp [execMacDrop]
@[simp] theorem execMacMemberRead_ledger : ∀ a0 s, Keeps s.ledger (execMacMemberRead a0 s) := by
  intros; simp [execMacMemberRead]
@[simp] theorem execMacStatus_ledger : ∀ a0 s, Keeps s.ledger (execMacStatus a0 s) := by
  intros; simp [execMacStatus]
@[simp] theorem execMacSend_ledger : ∀ a0 s, Keeps s.ledger (execMacSend a0 s) := by
  intros; simp [execMacSend]
@[simp] theorem State.modSolveRun_ledger : ∀ s a1 a2, (State.modSolveRun s a1 a2).ledger = s.ledger := by
  intros; rfl
@[simp] theorem noteCells_ledger : ∀ a0 a1 a2 s, (noteCells a0 a1 a2 s).ledger = s.ledger := by
  intros; unfold noteCells; (repeat' split) <;> simp
@[simp] theorem emitRecord_ledger : ∀ a0 a1 s, (emitRecord a0 a1 s).ledger = s.ledger := by
  intros; simp [emitRecord, apply_ite State.ledger, apply_ite SideState.floor, apply_ite SideState.security]; (repeat' first | rfl | (apply foldl_ledger; intros) | split) <;> simp_all [apply_ite State.ledger, apply_ite SideState.floor, apply_ite SideState.security]
@[simp] theorem predict_ledger : ∀ a0 a1 a2 s, (predict a0 a1 a2 s).ledger = s.ledger := by
  intros; simp [predict]
@[simp] theorem solveEpoch_ledger : ∀ a0 a1 a2 a3 a4 s, (solveEpoch a0 a1 a2 a3 a4 s).ledger = s.ledger := by
  intros; simp [solveEpoch, apply_ite State.ledger]
@[simp] theorem countBad_ledger : ∀ s, (countBad s).ledger = s.ledger := by
  intros; rfl
@[simp] theorem countStale_ledger : ∀ s, (countStale s).ledger = s.ledger := by
  intros; rfl
@[simp] theorem solveParts_ledger : ∀ a0 a1 a2 s, (solveParts a0 a1 a2 s).ledger = s.ledger := by
  intros; simp [solveParts, apply_ite State.ledger]
@[simp] theorem addPart_ledger : ∀ a0 a1 a2 a3 s, (addPart a0 a1 a2 a3 s).ledger = s.ledger := by
  intros; simp [addPart, apply_ite State.ledger]
@[simp] theorem uploadPart_ledger : ∀ a0 a1 a2 s, (uploadPart a0 a1 a2 s).ledger = s.ledger := by
  intros; unfold uploadPart; dsimp only; (repeat' split) <;> simp_all [apply_ite State.ledger]
@[simp] theorem partWaitWork_ledger : ∀ a0 a1 s, (partWaitWork a0 a1 s).ledger = s.ledger := by
  intros; unfold partWaitWork; (repeat' split) <;> simp
@[simp] theorem execEpochPartWaitExpiry_ledger : ∀ a0 s, Keeps s.ledger (execEpochPartWaitExpiry a0 s) := by
  intros; unfold execEpochPartWaitExpiry; (repeat' split) <;> simp
@[simp] theorem predictWork_ledger : ∀ a0 a1 s, (predictWork a0 a1 s).ledger = s.ledger := by
  intros; unfold predictWork; (repeat' split) <;> simp
@[simp] theorem execMissingEpoch_ledger : ∀ a0 a1 s, Keeps s.ledger (execMissingEpoch a0 a1 s) := by
  intros; unfold execMissingEpoch; dsimp only; (repeat' split) <;> simp_all [apply_ite State.ledger, apply_ite SideState.floor, apply_ite SideState.security]
@[simp] theorem execFilterRetentionExpiry_ledger : ∀ a0 s, Keeps s.ledger (execFilterRetentionExpiry a0 s) := by
  intros; unfold execFilterRetentionExpiry; (repeat' first | rfl | split) <;> simp_all
@[simp] theorem solverAlarm_ledger : ∀ a0 a1 a2 a3 a4 a5 s, (solverAlarm a0 a1 a2 a3 a4 a5 s).ledger = s.ledger := by
  intros; simp [solverAlarm]
@[simp] theorem raiseCode3_ledger : ∀ s, (raiseCode3 s).ledger = s.ledger := by
  intros; simp [raiseCode3, apply_ite State.ledger]
@[simp] theorem raiseCode1_ledger : ∀ a0 a1 a2 s, (raiseCode1 a0 a1 a2 s).ledger = s.ledger := by
  intros; simp [raiseCode1, apply_ite State.ledger]
@[simp] theorem raiseCode2_ledger : ∀ a0 s, (raiseCode2 a0 s).ledger = s.ledger := by
  intros; simp [raiseCode2, apply_ite State.ledger]
@[simp] theorem crossTest_ledger : ∀ a0 s, (crossTest a0 s).ledger = s.ledger := by
  intros; simp [crossTest, apply_ite State.ledger]
@[simp] theorem execCrossMemberTest_ledger : ∀ s, Keeps s.ledger (execCrossMemberTest s) := by
  intros; unfold execCrossMemberTest; (repeat' split) <;> simp
@[simp] theorem execSolverExclusionExpiry_ledger : ∀ a0 a1 s, Keeps s.ledger (execSolverExclusionExpiry a0 a1 s) := by
  intros; rfl
@[simp] theorem execSolverAlarmClearExpiry_ledger : ∀ a0 a1 a2 a3 a4 s, Keeps s.ledger (execSolverAlarmClearExpiry a0 a1 a2 a3 a4 s) := by
  intros; unfold execSolverAlarmClearExpiry; (repeat' first | rfl | split) <;> simp_all [apply_ite State.ledger, apply_ite SideState.floor, apply_ite SideState.security]
@[simp] theorem runSolverConfig_ledger : ∀ a0 s, (runSolverConfig a0 s).Keeps s.ledger := by
  intros; rfl
@[simp] theorem dropMember_ledger : ∀ a0 s, (dropMember a0 s).ledger = s.ledger := by
  intros; simp [dropMember]
@[simp] theorem setMember_ledger : ∀ a0 a1 s, (setMember a0 a1 s).ledger = s.ledger := by
  intros; simp only [setMember]; split <;> simp
@[simp] theorem runSolverMember_ledger : ∀ a0 s, (runSolverMember a0 s).Keeps s.ledger := by
  intro c s
  have h : (if fld c.packet.params 2 1 = 0 then dropMember (fld c.packet.params 0 2) s
      else setMember (fld c.packet.params 0 2) (readMember c.packet.params) s).ledger = s.ledger := by split <;> simp
  unfold runSolverMember
  dsimp only
  split
  · trivial
  split
  · trivial
  split
  all_goals
    split
    · trivial
    split
    · trivial
    split
    · trivial
    split
    · trivial
    · rw [keeps_accepted, sendRate_ledger, h]
@[simp] theorem runSolverRead_ledger : ∀ a0 s, (runSolverRead a0 s).Keeps s.ledger := by
  intros; rfl
@[simp] theorem runSolverStatus_ledger : ∀ a0 s, (runSolverStatus a0 s).Keeps s.ledger := by
  intros; rfl
@[simp] theorem resetFilter_ledger : ∀ a0 s, (resetFilter a0 s).ledger = s.ledger := by
  intros; rfl
@[simp] theorem runSolverReset_ledger : ∀ a0 s, (runSolverReset a0 s).Keeps s.ledger := by
  intros; simp [runSolverReset, apply_ite State.ledger, apply_ite SideState.floor, apply_ite SideState.security]; (repeat' first | rfl | (apply foldl_ledger; intros) | split) <;> simp_all [apply_ite State.ledger, apply_ite SideState.floor, apply_ite SideState.security]
@[simp] theorem setIntegrity_ledger : ∀ a0 s, (setIntegrity a0 s).ledger = s.ledger := by
  intros; simp [setIntegrity]
@[simp] theorem runSolverIntegrity_ledger : ∀ a0 s, (runSolverIntegrity a0 s).Keeps s.ledger := by
  intros; simp [runSolverIntegrity, apply_ite State.ledger, apply_ite SideState.floor, apply_ite SideState.security]; (repeat' first | rfl | (apply foldl_ledger; intros) | split) <;> simp_all [apply_ite State.ledger, apply_ite SideState.floor, apply_ite SideState.security]
@[simp] theorem execSolverConfig_ledger : ∀ a0 s, Keeps s.ledger (execSolverConfig a0 s) := by
  intros; simp [execSolverConfig]
@[simp] theorem execSolverMember_ledger : ∀ a0 s, Keeps s.ledger (execSolverMember a0 s) := by
  intros; simp [execSolverMember]
@[simp] theorem execSolverRead_ledger : ∀ a0 s, Keeps s.ledger (execSolverRead a0 s) := by
  intros; simp [execSolverRead]
@[simp] theorem execSolverStatus_ledger : ∀ a0 s, Keeps s.ledger (execSolverStatus a0 s) := by
  intros; simp [execSolverStatus]
@[simp] theorem execSolverReset_ledger : ∀ a0 s, Keeps s.ledger (execSolverReset a0 s) := by
  intros; simp [execSolverReset]
@[simp] theorem execSolverIntegrity_ledger : ∀ a0 s, Keeps s.ledger (execSolverIntegrity a0 s) := by
  intros; simp [execSolverIntegrity]
@[simp] theorem State.modTime_ledger : ∀ s a1, (State.modTime s a1).ledger = s.ledger := by
  intros; rfl
@[simp] theorem State.modValues_ledger : ∀ s a1, (State.modValues s a1).ledger = s.ledger := by
  intros; rfl
@[simp] theorem setStb_ledger : ∀ a0 a1 a2 s, (setStb a0 a1 a2 s).ledger = s.ledger := by
  intros; simp [setStb, apply_ite State.ledger]
@[simp] theorem drawErr_ledger : ∀ s, (drawErr s).2.ledger = s.ledger := by
  intros; rfl
@[simp] theorem timeFen_ledger : ∀ s, (timeFen s).ledger = s.ledger := by
  intros; simp [timeFen, apply_ite State.ledger]
@[simp] theorem startModel_ledger : ∀ a0 s, (startModel a0 s).ledger = s.ledger := by
  intros; rfl
@[simp] theorem loseDiscipline_ledger : ∀ s, (loseDiscipline s).ledger = s.ledger := by
  intros; simp [loseDiscipline, apply_ite State.ledger]
@[simp] theorem execStbDisciplineLoss_ledger : ∀ s, Keeps s.ledger (execStbDisciplineLoss s) := by
  intros; unfold execStbDisciplineLoss; (repeat' split) <;> simp
@[simp] theorem drawRate_ledger : ∀ s, (drawRate s).2.ledger = s.ledger := by
  intros; simp [drawRate, apply_ite State.ledger]
@[simp] theorem disciplineStep_ledger : ∀ s, (disciplineStep s).ledger = s.ledger := by
  intros; simp [disciplineStep, apply_ite State.ledger]
@[simp] theorem timeEpoch_ledger : ∀ a0 s, (timeEpoch a0 s).ledger = s.ledger := by
  intros; simp [timeEpoch, apply_ite State.ledger]
@[simp] theorem execHoldoverBoundCrossing_ledger : ∀ s, Keeps s.ledger (execHoldoverBoundCrossing s) := by
  intros; simp [execHoldoverBoundCrossing, apply_ite State.ledger, apply_ite SideState.floor, apply_ite SideState.security]; (repeat' first | rfl | (apply foldl_ledger; intros) | split) <;> simp_all [apply_ite State.ledger, apply_ite SideState.floor, apply_ite SideState.security]
@[simp] theorem execSyncRefInLost_ledger : ∀ s, Keeps s.ledger (execSyncRefInLost s) := by
  intros; simp [execSyncRefInLost, apply_ite State.ledger, apply_ite SideState.floor, apply_ite SideState.security]; (repeat' first | rfl | (apply foldl_ledger; intros) | split) <;> simp_all [apply_ite State.ledger, apply_ite SideState.floor, apply_ite SideState.security]
@[simp] theorem execSyncRefInRestored_ledger : ∀ s, Keeps s.ledger (execSyncRefInRestored s) := by
  intros; rfl
@[simp] theorem beginPulses_ledger : ∀ s, (beginPulses s).ledger = s.ledger := by
  intros; rfl
@[simp] theorem ptbFollows_ledger : ∀ s, (ptbFollows s).ledger = s.ledger := by
  intros; simp [ptbFollows, apply_ite State.ledger]
@[simp] theorem firstDiscipline_ledger : ∀ a0 s, (firstDiscipline a0 s).ledger = s.ledger := by
  intros; simp [firstDiscipline, apply_ite State.ledger]
@[simp] theorem passHold_ledger : ∀ s, (passHold s).ledger = s.ledger := by
  intros; unfold passHold; (repeat' split) <;> simp
@[simp] theorem execStbQualified_ledger : ∀ a0 s, Keeps s.ledger (execStbQualified a0 s) := by
  intros; simp [execStbQualified, apply_ite State.ledger, apply_ite SideState.floor, apply_ite SideState.security]; (repeat' first | rfl | (apply foldl_ledger; intros) | split) <;> simp_all [apply_ite State.ledger, apply_ite SideState.floor, apply_ite SideState.security]
@[simp] theorem execSlewComplete_ledger : ∀ s, Keeps s.ledger (execSlewComplete s) := by
  intros; unfold execSlewComplete; (repeat' first | rfl | split) <;> simp_all

@[simp] theorem ppsInfo_ledger : ∀ a0 s, (ppsInfo a0 s).ledger = s.ledger := by
  intros; simp [ppsInfo]
@[simp] theorem execPpsInfoSend_ledger : ∀ s, Keeps s.ledger (execPpsInfoSend s) := by
  intros; unfold execPpsInfoSend; (repeat' first | rfl | split) <;> simp_all

@[simp] theorem emitPulse_ledger : ∀ a0 s, (emitPulse a0 s).ledger = s.ledger := by
  intros; simp [emitPulse, apply_ite State.ledger]
@[simp] theorem dropRef_ledger : ∀ s, (dropRef s).ledger = s.ledger := by
  intros; unfold dropRef; (repeat' split) <;> simp
@[simp] theorem countRef_ledger : ∀ s, (countRef s).ledger = s.ledger := by
  intros; simp [countRef, apply_ite State.ledger]
@[simp] theorem execPpsPulse_ledger : ∀ s, Keeps s.ledger (execPpsPulse s) := by
  intros; unfold execPpsPulse; (repeat' first | rfl | split) <;> simp_all
@[simp] theorem execTimeStepAtB_ledger : ∀ s, Keeps s.ledger (execTimeStepAtB s) := by
  intros; unfold execTimeStepAtB; (repeat' first | rfl | split) <;> simp_all [apply_ite State.ledger, apply_ite SideState.floor, apply_ite SideState.security]
@[simp] theorem execAtbStepAtHyperframe_ledger : ∀ s, Keeps s.ledger (execAtbStepAtHyperframe s) := by
  intros; unfold execAtbStepAtHyperframe; (repeat' first | rfl | split) <;> simp_all
@[simp] theorem execUtcParametersDecoded_ledger : ∀ a0 a1 a2 a3 s, Keeps s.ledger (execUtcParametersDecoded a0 a1 a2 a3 s) := by
  intros; unfold execUtcParametersDecoded; dsimp only; (repeat' split) <;> simp_all [apply_ite State.ledger]
@[simp] theorem execLeapTableChange_ledger : ∀ s, Keeps s.ledger (execLeapTableChange s) := by
  intros; simp [execLeapTableChange, apply_ite State.ledger, apply_ite SideState.floor, apply_ite SideState.security]; (repeat' first | rfl | (apply foldl_ledger; intros) | split) <;> simp_all [apply_ite State.ledger, apply_ite SideState.floor, apply_ite SideState.security]
@[simp] theorem execPpsInEdge_ledger : ∀ s, Keeps s.ledger (execPpsInEdge s) := by
  intros; unfold execPpsInEdge; (repeat' first | rfl | split) <;> simp_all
@[simp] theorem State.modCorr_ledger : ∀ s a1, (State.modCorr s a1).ledger = s.ledger := by
  intros; rfl
@[simp] theorem State.modCorrCfg_ledger : ∀ s a1, (State.modCorrCfg s a1).ledger = s.ledger := by
  intros; rfl
@[simp] theorem takeRtcm_ledger : ∀ a0 s, (takeRtcm a0 s).2.ledger = s.ledger := by
  intros; simp [takeRtcm, apply_ite State.ledger, apply_ite SideState.floor, apply_ite SideState.security]; (repeat' first | rfl | (apply foldl_ledger; intros) | split) <;> simp_all [apply_ite State.ledger, apply_ite SideState.floor, apply_ite SideState.security]
@[simp] theorem takeInput_ledger : ∀ a0 s, (takeInput a0 s).2.2.ledger = s.ledger := by
  intro b s
  have h : ∀ (l : List (List Byte × Bool)) (x : Nat × Nat × State), (l.foldl (fun (x : Nat × Nat × State) f =>
      match (if f.2 then takeRtcm f.1 x.2.2 else (false, x.2.2)) with
      | (true, s) => (x.1 + 1, x.2.1, s)
      | (false, s) => (x.1, x.2.1 + 1, s)) x).2.2.ledger = x.2.2.ledger := by
    intro l
    induction l with
    | nil => intro x; rfl
    | cons a t ih =>
      intro x
      rw [List.foldl_cons, ih]
      have h1 := takeRtcm_ledger a.1 x.2.2
      split <;> rename_i e <;> split at e <;> simp_all
  unfold takeInput
  simp only [State.modCorr_ledger]
  exact h _ _
@[simp] theorem execNeighbourBufferTimeout_ledger : ∀ a0 s, Keeps s.ledger (execNeighbourBufferTimeout a0 s) := by
  intros; rfl
@[simp] theorem baseEvent_ledger : ∀ a0 a1 a2 a3 s, (baseEvent a0 a1 a2 a3 s).ledger = s.ledger := by
  intros; simp [baseEvent]
@[simp] theorem baseRecord_ledger : ∀ a0 a1 a2 s, (baseRecord a0 a1 a2 s).ledger = s.ledger := by
  intros; simp [baseRecord]
@[simp] theorem setBase_ledger : ∀ a0 a1 s, (setBase a0 a1 s).ledger = s.ledger := by
  intros; simp [setBase]
@[simp] theorem endRun_ledger : ∀ a0 s, (endRun a0 s).ledger = s.ledger := by
  intros; unfold endRun; (repeat' first | rfl | split) <;> simp_all
@[simp] theorem freeze_ledger : ∀ a0 a1 s, (freeze a0 a1 s).ledger = s.ledger := by
  intros; simp [freeze]
@[simp] theorem runEpoch_ledger : ∀ a0 s, (runEpoch a0 s).ledger = s.ledger := by
  intros; simp [runEpoch, apply_ite State.ledger, apply_ite SideState.floor, apply_ite SideState.security]; (repeat' first | rfl | (apply foldl_ledger; intros) | split) <;> simp_all [apply_ite State.ledger, apply_ite SideState.floor, apply_ite SideState.security]
@[simp] theorem execSurveyMaxTime_ledger : ∀ s, Keeps s.ledger (execSurveyMaxTime s) := by
  intros; unfold execSurveyMaxTime; (repeat' first | rfl | split) <;> simp_all
@[simp] theorem watchAlert_ledger : ∀ a0 a1 s, (watchAlert a0 a1 s).ledger = s.ledger := by
  intros; simp [watchAlert, apply_ite State.ledger]
@[simp] theorem setCausesFrom_ledger : ∀ a0 a1 a2 a3 a4 s, (setCausesFrom a0 a1 a2 a3 a4 s).ledger = s.ledger := by
  intros; simp [setCausesFrom, apply_ite State.ledger]
@[simp] theorem setCauses_ledger : ∀ a0 a1 a2 s, (setCauses a0 a1 a2 s).ledger = s.ledger := by
  intros; simp [setCauses]
@[simp] theorem watchdog_ledger : ∀ a0 a1 a2 s, (watchdog a0 a1 a2 s).ledger = s.ledger := by
  intros; simp [watchdog]
@[simp] theorem execWatchdogHoldoffExpiry_ledger : ∀ a0 s, Keeps s.ledger (execWatchdogHoldoffExpiry a0 s) := by
  intros; simp [execWatchdogHoldoffExpiry, apply_ite State.ledger, apply_ite SideState.floor, apply_ite SideState.security]; (repeat' first | rfl | (apply foldl_ledger; intros) | split) <;> simp_all [apply_ite State.ledger, apply_ite SideState.floor, apply_ite SideState.security]
@[simp] theorem queueBcast_ledger : ∀ a0 a1 a2 s, (queueBcast a0 a1 a2 s).ledger = s.ledger := by
  intros; unfold queueBcast; (repeat' split) <;> simp
@[simp] theorem sendStream_ledger : ∀ a0 a1 a2 s, (sendStream a0 a1 a2 s).ledger = s.ledger := by
  intros; simp [sendStream, apply_ite State.ledger]
@[simp] theorem streamEpoch_ledger : ∀ a0 a1 a2 s, (streamEpoch a0 a1 a2 s).ledger = s.ledger := by
  intros; simp [streamEpoch, apply_ite State.ledger]
@[simp] theorem corrEpoch_ledger : ∀ a0 a1 s, (corrEpoch a0 a1 s).ledger = s.ledger := by
  intros; unfold corrEpoch; (repeat' first | rfl | split) <;> simp_all [apply_ite State.ledger, apply_ite SideState.floor, apply_ite SideState.security]
@[simp] theorem takeBase_ledger (g : State → State) (s : State) (h : ∀ s, (g s).ledger = s.ledger) :
    (takeBase g s).ledger = s.ledger := by
  unfold takeBase; split
  · rfl
  · next e => split <;> simp [h, takePacket_ledger _ _ _ e]
@[simp] theorem baseWork_ledger : ∀ a0 a1 s, (baseWork a0 a1 s).ledger = s.ledger := by
  intros; unfold baseWork; (repeat' split) <;> simp
@[simp] theorem commitEpoch_ledger : ∀ a0 a1 s, (commitEpoch a0 a1 s).ledger = s.ledger := by
  intros; unfold commitEpoch; (try dsimp only); (repeat' first | rfl | (apply foldl_ledger; intros) | (split <;> try (rename_i h; (first | (replace h := pair_ledger h) | (replace h := triple_ledger h) | (replace h := reservePacket_ledger _ _ _ _ h) | (replace h := commitPacket_ledger _ _ _ _ _ _ _ h) | (replace h := takePacket_ledger _ _ _ h) | (replace h := queueFrame_ledger _ _ _ _ _ h) | (replace h := deliver_ledger _ _ _ _ _ _ _ h) | (replace h := fedAccept_ledger _ _ _ h) | (replace h := fedTaken_ledger _ _ _ h))))) <;> simp_all [apply_ite State.ledger, apply_ite SideState.floor, apply_ite SideState.security]
@[simp] theorem execGnssEpoch_ledger : ∀ a0 a1 s, Keeps s.ledger (execGnssEpoch a0 a1 s) := by
  intros; unfold execGnssEpoch; (repeat' split) <;> simp
@[simp] theorem runCorrBase_ledger : ∀ a0 s, (runCorrBase a0 s).Keeps s.ledger := by
  intros; simp [runCorrBase, apply_ite State.ledger, apply_ite SideState.floor, apply_ite SideState.security]; (repeat' first | rfl | (apply foldl_ledger; intros) | split) <;> simp_all [apply_ite State.ledger, apply_ite SideState.floor, apply_ite SideState.security]
@[simp] theorem runCorrStream_ledger : ∀ a0 s, (runCorrStream a0 s).Keeps s.ledger := by
  intros; simp [runCorrStream, apply_ite State.ledger, apply_ite SideState.floor, apply_ite SideState.security]; (repeat' first | rfl | (apply foldl_ledger; intros) | split) <;> simp_all [apply_ite State.ledger, apply_ite SideState.floor, apply_ite SideState.security]
@[simp] theorem runCorrDescriptor_ledger : ∀ a0 s, (runCorrDescriptor a0 s).Keeps s.ledger := by
  intros; rfl
@[simp] theorem runCorrWatchdog_ledger : ∀ a0 s, (runCorrWatchdog a0 s).Keeps s.ledger := by
  intros; simp [runCorrWatchdog, apply_ite State.ledger, apply_ite SideState.floor, apply_ite SideState.security]; (repeat' first | rfl | (apply foldl_ledger; intros) | split) <;> simp_all [apply_ite State.ledger, apply_ite SideState.floor, apply_ite SideState.security]
@[simp] theorem runCorrInject_ledger : ∀ a0 s, (runCorrInject a0 s).Keeps s.ledger := by
  intros; simp [runCorrInject]
@[simp] theorem runCorrStatus_ledger : ∀ a0 s, (runCorrStatus a0 s).Keeps s.ledger := by
  intros; rfl
@[simp] theorem execCorrBase_ledger : ∀ a0 s, Keeps s.ledger (execCorrBase a0 s) := by
  intros; simp [execCorrBase]
@[simp] theorem execCorrStream_ledger : ∀ a0 s, Keeps s.ledger (execCorrStream a0 s) := by
  intros; simp [execCorrStream]
@[simp] theorem execCorrDescriptor_ledger : ∀ a0 s, Keeps s.ledger (execCorrDescriptor a0 s) := by
  intros; simp [execCorrDescriptor]
@[simp] theorem execCorrWatchdog_ledger : ∀ a0 s, Keeps s.ledger (execCorrWatchdog a0 s) := by
  intros; simp [execCorrWatchdog]
@[simp] theorem execCorrInject_ledger : ∀ a0 s, Keeps s.ledger (execCorrInject a0 s) := by
  intros; simp [execCorrInject]
@[simp] theorem execCorrStatus_ledger : ∀ a0 s, Keeps s.ledger (execCorrStatus a0 s) := by
  intros; simp [execCorrStatus]
@[simp] theorem itemPacket_ledger : ∀ a0 s, (itemPacket a0 s).2.ledger = s.ledger := by
  intro i s
  unfold itemPacket
  (repeat' split) <;> simp
@[simp] theorem loopPass_ledger : ∀ a0 s, (loopPass a0 s).ledger = s.ledger := by
  intros; simp [loopPass]
@[simp] theorem positionItem_ledger : ∀ a0 a1 s, (positionItem a0 a1 s).ledger = s.ledger := by
  intro n d s
  unfold positionItem
  split
  · rfl
  · dsimp only
    split
    · simp
    · rw [loopPass_ledger]; split <;> simp
@[simp] theorem uploadItem_ledger : ∀ a0 a1 a2 s, (uploadItem a0 a1 a2 s).ledger = s.ledger := by
  intros; unfold uploadItem; (repeat' split) <;> simp
@[simp] theorem uplinkWork_ledger : ∀ a0 s, (uplinkWork a0 s).ledger = s.ledger := by
  intro i s
  unfold uplinkWork
  split <;> rename_i e <;> replace e := pair_ledger e
  · split <;> simp_all
  · simp_all
@[simp] theorem execUplinkItem_ledger : ∀ a0 s, Keeps s.ledger (execUplinkItem a0 s) := by
  intro k s; unfold execUplinkItem; split <;> simp
@[simp] theorem sleepReq_ledger : ∀ a0 a1 s, (sleepReq a0 a1 s).ledger = s.ledger := by
  intros; simp [sleepReq, apply_ite State.ledger, apply_ite SideState.floor, apply_ite SideState.security]; (repeat' first | rfl | (apply foldl_ledger; intros) | split) <;> simp_all [apply_ite State.ledger, apply_ite SideState.floor, apply_ite SideState.security]
@[simp] theorem memberMessage_ledger : ∀ a0 a1 a2 s, (memberMessage a0 a1 a2 s).ledger = s.ledger := by
  intros; simp [memberMessage, apply_ite State.ledger]
@[simp] theorem memberMsgWork_ledger : ∀ a0 s, (memberMsgWork a0 s).ledger = s.ledger := by
  intro i s
  unfold memberMsgWork
  split <;> rename_i e <;> replace e := pair_ledger e <;> simp_all
@[simp] theorem execMemberMsgItem_ledger : ∀ a0 s, Keeps s.ledger (execMemberMsgItem a0 s) := by
  intro k s; unfold execMemberMsgItem; split <;> simp
@[simp] theorem State.modFed_ledger : ∀ s a1, (State.modFed s a1).ledger = s.ledger := by
  intros; rfl
@[simp] theorem fedEvent_ledger : ∀ a0 a1 a2 a3 s, (fedEvent a0 a1 a2 a3 s).ledger = s.ledger := by
  intros; simp [fedEvent]
@[simp] theorem fedDiscard_ledger : ∀ s, (fedDiscard s).ledger = s.ledger := by
  intros; rfl
@[simp] theorem fedRaw_ledger : ∀ a0 a1 a2 s, (fedRaw a0 a1 a2 s).ledger = s.ledger := by
  intros; rfl
@[simp] theorem startHandshake_ledger : ∀ a0 s, (startHandshake a0 s).ledger = s.ledger := by
  intros; unfold startHandshake; (repeat' first | rfl | split) <;> simp_all
@[simp] theorem startPeerings_ledger : ∀ s, (startPeerings s).ledger = s.ledger := by
  intros; simp [startPeerings]
@[simp] theorem peerLive_ledger : ∀ a0 a1 a2 s, (peerLive a0 a1 a2 s).ledger = s.ledger := by
  intros; simp [peerLive]
@[simp] theorem handshakeFailed_ledger : ∀ a0 s, (handshakeFailed a0 s).ledger = s.ledger := by
  intros; simp [handshakeFailed]
@[simp] theorem helloWork_ledger : ∀ a0 a1 s, (helloWork a0 a1 s).ledger = s.ledger := by
  intros; simp [helloWork, apply_ite State.ledger]
@[simp] theorem helloRspWork_ledger : ∀ a0 a1 s, (helloRspWork a0 a1 s).ledger = s.ledger := by
  intros; unfold helloRspWork; dsimp only; (repeat' split) <;> simp_all [apply_ite State.ledger]
@[simp] theorem helloFinWork_ledger : ∀ a0 a1 s, (helloFinWork a0 a1 s).ledger = s.ledger := by
  intros; unfold helloFinWork; (repeat' split) <;> simp
@[simp] theorem fedItem_ledger (n : Nat) (w : Work) (g : State → State) (s : State) (h : ∀ s, (g s).ledger = s.ledger) :
    (fedItem n w g s).ledger = s.ledger := by simp [fedItem, h]
@[simp] theorem execHelloReceived_ledger : ∀ a0 a1 s, Keeps s.ledger (execHelloReceived a0 a1 s) := by
  intros; simp [execHelloReceived, apply_ite State.ledger, apply_ite SideState.floor, apply_ite SideState.security]; (repeat' first | rfl | (apply foldl_ledger; intros) | split) <;> simp_all [apply_ite State.ledger, apply_ite SideState.floor, apply_ite SideState.security]
@[simp] theorem execHelloRspReceived_ledger : ∀ a0 a1 s, Keeps s.ledger (execHelloRspReceived a0 a1 s) := by
  intros; simp [execHelloRspReceived, apply_ite State.ledger, apply_ite SideState.floor, apply_ite SideState.security]; (repeat' first | rfl | (apply foldl_ledger; intros) | split) <;> simp_all [apply_ite State.ledger, apply_ite SideState.floor, apply_ite SideState.security]
@[simp] theorem execHelloFinReceived_ledger : ∀ a0 a1 s, Keeps s.ledger (execHelloFinReceived a0 a1 s) := by
  intros; simp [execHelloFinReceived, apply_ite State.ledger, apply_ite SideState.floor, apply_ite SideState.security]; (repeat' first | rfl | (apply foldl_ledger; intros) | split) <;> simp_all [apply_ite State.ledger, apply_ite SideState.floor, apply_ite SideState.security]
@[simp] theorem execHandshakeRetry_ledger : ∀ a0 s, Keeps s.ledger (execHandshakeRetry a0 s) := by
  intros; unfold execHandshakeRetry; (repeat' first | rfl | split) <;> simp_all
@[simp] theorem execPeerLivenessTimeout_ledger : ∀ a0 s, Keeps s.ledger (execPeerLivenessTimeout a0 s) := by
  intros; unfold execPeerLivenessTimeout; (repeat' first | rfl | split) <;> simp_all
theorem fedAccept_ledger : ∀ a0 s, ∀ t, fedAccept a0 s = some t → t.ledger = s.ledger := by
  intro a s t h
  unfold fedAccept at h
  split at h
  · cases h
  · split at h
    · injection h with h; subst h; simp
    · cases h
theorem fedTaken_ledger : ∀ a0 s, ∀ t, fedTaken a0 s = some t → t.ledger = s.ledger := by
  intro a s t h
  obtain ⟨u, e, h⟩ := Option.bind_eq_some_iff.mp h
  split at h
  · cases h; simp [fedAccept_ledger _ _ _ e]
  · cases h
@[simp] theorem fedTake_ledger (h : FedHead) (w : Work) (g : State → State) (s : State)
    (hg : ∀ s, (g s).ledger = s.ledger) : Keeps s.ledger (fedTake h w g s) := by
  unfold fedTake; split
  · next e => simp [hg, fedAccept_ledger _ _ _ e]
  · simp
@[simp] theorem fedAtOnce_ledger (h : FedHead) (g : State → State) (s : State) (hg : ∀ s, (g s).ledger = s.ledger) :
    Keeps s.ledger (fedAtOnce h g s) := by
  unfold fedAtOnce; split
  · next e => simp [hg, fedAccept_ledger _ _ _ e]
  · simp
@[simp] theorem answer403_ledger (h : FedHead) (g : State → (Nat × List Byte) × State) (s : State)
    (hg : ∀ s, (g s).2.ledger = s.ledger) : (answer403 h g s).ledger = s.ledger := by
  unfold answer403; split <;> simp [hg]
@[simp] theorem endRequest_ledger : ∀ a0 s, (endRequest a0 s).ledger = s.ledger := by
  intros; rfl
@[simp] theorem execFedRetransmit_ledger : ∀ a0 a1 s, Keeps s.ledger (execFedRetransmit a0 a1 s) := by
  intros; unfold execFedRetransmit; (repeat' first | rfl | split) <;> simp_all
@[simp] theorem execResponseCacheExpiry_ledger : ∀ a0 a1 s, Keeps s.ledger (execResponseCacheExpiry a0 a1 s) := by
  intros; rfl
@[simp] theorem execFedStatusSend_ledger : ∀ s, Keeps s.ledger (execFedStatusSend s) := by
  intros; unfold execFedStatusSend; (repeat' first | rfl | split) <;> simp_all
@[simp] theorem statusWork_ledger : ∀ a0 a1 a2 a3 s, (statusWork a0 a1 a2 a3 s).ledger = s.ledger := by
  intros; unfold statusWork; (repeat' split) <;> simp
@[simp] theorem execFedStatusReceived_ledger : ∀ a0 a1 a2 a3 a4 s, Keeps s.ledger (execFedStatusReceived a0 a1 a2 a3 a4 s) := by
  intros; unfold execFedStatusReceived; (repeat' split) <;> simp
@[simp] theorem execCoordinatorDisagreementTimer_ledger : ∀ s, Keeps s.ledger (execCoordinatorDisagreementTimer s) := by
  intros; unfold execCoordinatorDisagreementTimer; (repeat' first | rfl | split) <;> simp_all
@[simp] theorem execDigestMismatchTimer_ledger : ∀ a0 s, Keeps s.ledger (execDigestMismatchTimer a0 s) := by
  intros; unfold execDigestMismatchTimer; (repeat' first | rfl | split) <;> simp_all [apply_ite State.ledger, apply_ite SideState.floor, apply_ite SideState.security]
@[simp] theorem execFedRtcmReceived_ledger : ∀ a0 a1 s, Keeps s.ledger (execFedRtcmReceived a0 a1 s) := by
  intros; unfold execFedRtcmReceived; (repeat' split) <;> simp
@[simp] theorem replaceWindows_ledger : ∀ a0 a1 s, (replaceWindows a0 a1 s).ledger = s.ledger := by
  intros; simp [replaceWindows]
@[simp] theorem ownerReserve_ledger : ∀ a0 a1 s, (ownerReserve a0 a1 s).2.ledger = s.ledger := by
  intros; simp [ownerReserve, apply_ite State.ledger, apply_ite SideState.floor, apply_ite SideState.security]; (repeat' first | rfl | (apply foldl_ledger; intros) | split) <;> simp_all [apply_ite State.ledger, apply_ite SideState.floor, apply_ite SideState.security]
@[simp] theorem execReserveReceived_ledger : ∀ a0 a1 s, Keeps s.ledger (execReserveReceived a0 a1 s) := by
  intros; unfold execReserveReceived; (repeat' split) <;> simp
@[simp] theorem execTentativeWindowExpiry_ledger : ∀ a0 a1 s, Keeps s.ledger (execTentativeWindowExpiry a0 a1 s) := by
  intros; rfl
@[simp] theorem ownerCommit_ledger : ∀ a0 a1 s, (ownerCommit a0 a1 s).2.ledger = s.ledger := by
  intros; unfold ownerCommit; (repeat' first | rfl | split) <;> simp_all
@[simp] theorem targetCommit_ledger : ∀ a0 a1 s, (targetCommit a0 a1 s).2.ledger = s.ledger := by
  intros; rfl
@[simp] theorem commitOf_ledger : ∀ a0 a1 s, (commitOf a0 a1 s).2.ledger = s.ledger := by
  intros; unfold commitOf; (repeat' split) <;> simp
@[simp] theorem execCommitReceived_ledger : ∀ a0 a1 s, Keeps s.ledger (execCommitReceived a0 a1 s) := by
  intros; unfold execCommitReceived; (repeat' split) <;> simp
@[simp] theorem ownerRelease_ledger : ∀ a0 a1 s, (ownerRelease a0 a1 s).2.ledger = s.ledger := by
  intros; rfl
@[simp] theorem execReleaseReceived_ledger : ∀ a0 a1 s, Keeps s.ledger (execReleaseReceived a0 a1 s) := by
  intros; unfold execReleaseReceived; (repeat' split) <;> simp
@[simp] theorem reserveRspWork_ledger : ∀ a0 a1 s, (reserveRspWork a0 a1 s).ledger = s.ledger := by
  intros; unfold reserveRspWork; dsimp only; (repeat' split) <;> simp_all [apply_ite State.ledger, apply_ite SideState.floor, apply_ite SideState.security]
@[simp] theorem execReserveRspReceived_ledger : ∀ a0 a1 s, Keeps s.ledger (execReserveRspReceived a0 a1 s) := by
  intros; unfold execReserveRspReceived; (repeat' split) <;> simp
@[simp] theorem commitAckWork_ledger : ∀ a0 a1 s, (commitAckWork a0 a1 s).ledger = s.ledger := by
  intros; unfold commitAckWork; dsimp only; (repeat' split) <;> simp_all [apply_ite State.ledger, apply_ite SideState.floor, apply_ite SideState.security]
@[simp] theorem execCommitAckReceived_ledger : ∀ a0 a1 s, Keeps s.ledger (execCommitAckReceived a0 a1 s) := by
  intros; unfold execCommitAckReceived; (repeat' split) <;> simp
@[simp] theorem execReleaseAckReceived_ledger : ∀ a0 s, Keeps s.ledger (execReleaseAckReceived a0 s) := by
  intros; unfold execReleaseAckReceived; (repeat' split) <;> simp
@[simp] theorem State.modSource_ledger : ∀ s a1 a2, (State.modSource s a1 a2).ledger = s.ledger := by
  intros; rfl
@[simp] theorem State.dropSource_ledger : ∀ s a1, (State.dropSource s a1).ledger = s.ledger := by
  intros; rfl
@[simp] theorem runFedHandover_ledger : ∀ a0 s, (runFedHandover a0 s).Keeps s.ledger := by
  intros; simp [runFedHandover, apply_ite State.ledger, apply_ite SideState.floor, apply_ite SideState.security]; (repeat' first | rfl | (apply foldl_ledger; intros) | split) <;> simp_all [apply_ite State.ledger, apply_ite SideState.floor, apply_ite SideState.security]
@[simp] theorem targetOffer_ledger : ∀ a0 a1 s, (targetOffer a0 a1 s).2.ledger = s.ledger := by
  intros; unfold targetOffer; (repeat' first | rfl | split) <;> simp_all
@[simp] theorem execHandoverOfferReceived_ledger : ∀ a0 a1 s, Keeps s.ledger (execHandoverOfferReceived a0 a1 s) := by
  intros; unfold execHandoverOfferReceived; (repeat' split) <;> simp
@[simp] theorem failHandover_ledger : ∀ a0 a1 a2 s, (failHandover a0 a1 a2 s).ledger = s.ledger := by
  intros; unfold failHandover; (repeat' first | rfl | split) <;> simp_all
@[simp] theorem acceptWork_ledger : ∀ a0 a1 a2 a3 a4 s, (acceptWork a0 a1 a2 a3 a4 s).ledger = s.ledger := by
  intros; unfold acceptWork; dsimp only; (repeat' split) <;> simp_all [apply_ite State.ledger]
@[simp] theorem execHandoverAcceptReceived_ledger : ∀ a0 a1 a2 a3 a4 s, Keeps s.ledger (execHandoverAcceptReceived a0 a1 a2 a3 a4 s) := by
  intros; unfold execHandoverAcceptReceived; (repeat' split) <;> simp
@[simp] theorem execHandoverAcceptTimeout_ledger : ∀ a0 s, Keeps s.ledger (execHandoverAcceptTimeout a0 s) := by
  intros; unfold execHandoverAcceptTimeout; (repeat' first | rfl | split) <;> simp_all
@[simp] theorem adoptMember_ledger : ∀ a0 s, (adoptMember a0 s).ledger = s.ledger := by
  intros; simp [adoptMember, apply_ite State.ledger, apply_ite SideState.floor, apply_ite SideState.security]; (repeat' first | rfl | (apply foldl_ledger; intros) | split) <;> simp_all [apply_ite State.ledger, apply_ite SideState.floor, apply_ite SideState.security]
@[simp] theorem closeStage_ledger : ∀ a0 s, (closeStage a0 s).ledger = s.ledger := by
  intros; unfold closeStage; (repeat' split) <;> simp
@[simp] theorem stageWork_ledger : ∀ a0 s, (stageWork a0 s).ledger = s.ledger := by
  intros; unfold stageWork; (repeat' split) <;> simp
@[simp] theorem execHandoverInstant_ledger : ∀ a0 s, Keeps s.ledger (execHandoverInstant a0 s) := by
  intros; unfold execHandoverInstant; (repeat' split) <;> simp
@[simp] theorem partMember_ledger : ∀ a0 s, (partMember a0 s).ledger = s.ledger := by
  intros; unfold partMember; (repeat' first | rfl | split) <;> simp_all
@[simp] theorem tellOutcome_ledger : ∀ a0 a1 s, (tellOutcome a0 a1 s).ledger = s.ledger := by
  intros; unfold tellOutcome; (repeat' first | rfl | split) <;> simp_all
@[simp] theorem endHandover_ledger : ∀ a0 a1 s, (endHandover a0 a1 s).ledger = s.ledger := by
  intros; unfold endHandover; (repeat' split) <;> simp
@[simp] theorem partWork_ledger : ∀ a0 a1 a2 s, (partWork a0 a1 a2 s).ledger = s.ledger := by
  intros; unfold partWork; (repeat' split) <;> simp
@[simp] theorem doneOf_ledger : ∀ a0 a1 a2 s, (doneOf a0 a1 a2 s).2.ledger = s.ledger := by
  intros; unfold doneOf; (repeat' split) <;> simp
@[simp] theorem execHandoverDoneReceived_ledger : ∀ a0 a1 a2 s, Keeps s.ledger (execHandoverDoneReceived a0 a1 a2 s) := by
  intros; unfold execHandoverDoneReceived; (repeat' split) <;> simp
@[simp] theorem execDoneAckReceived_ledger : ∀ a0 s, Keeps s.ledger (execDoneAckReceived a0 s) := by
  intros; unfold execDoneAckReceived; (repeat' split) <;> simp
@[simp] theorem execHandoverOutcomeTimeout_ledger : ∀ a0 s, Keeps s.ledger (execHandoverOutcomeTimeout a0 s) := by
  intros; unfold execHandoverOutcomeTimeout; (repeat' first | rfl | split) <;> simp_all
@[simp] theorem execSiteStopReceived_ledger : ∀ a0 a1 a2 a3 s, Keeps s.ledger (execSiteStopReceived a0 a1 a2 a3 s) := by
  intro h a b c s
  refine fedAtOnce_ledger _ _ _ fun s => answer403_ledger _ _ _ fun s => ?_
  dsimp only
  split <;> simp
@[simp] theorem execSiteStopAckReceived_ledger : ∀ a0 s, Keeps s.ledger (execSiteStopAckReceived a0 s) := by
  intros; unfold execSiteStopAckReceived; (repeat' split) <;> simp
@[simp] theorem markReleased_ledger : ∀ a0 a1 s, (markReleased a0 a1 s).ledger = s.ledger := by
  intros; rfl
@[simp] theorem releaseOf_ledger : ∀ a0 a1 a2 s, (releaseOf a0 a1 a2 s).2.ledger = s.ledger := by
  intros; unfold releaseOf; (repeat' split) <;> simp
@[simp] theorem execSiteReleaseReceived_ledger : ∀ a0 a1 a2 s, Keeps s.ledger (execSiteReleaseReceived a0 a1 a2 s) := by
  intros; unfold execSiteReleaseReceived; (repeat' split) <;> simp
@[simp] theorem execSiteReleaseAckReceived_ledger : ∀ a0 s, Keeps s.ledger (execSiteReleaseAckReceived a0 s) := by
  intros; unfold execSiteReleaseAckReceived; (repeat' split) <;> simp
@[simp] theorem fedWork_ledger : ∀ a0 s, (fedWork a0 s).ledger = s.ledger := by
  intros; unfold fedWork; (repeat' split) <;> simp
@[simp] theorem runFedConfig_ledger : ∀ a0 s, (runFedConfig a0 s).Keeps s.ledger := by
  intros; simp [runFedConfig, apply_ite State.ledger, apply_ite SideState.floor, apply_ite SideState.security]; (repeat' first | rfl | (apply foldl_ledger; intros) | split) <;> simp_all [apply_ite State.ledger, apply_ite SideState.floor, apply_ite SideState.security]
@[simp] theorem runFedPort_ledger : ∀ a0 s, (runFedPort a0 s).Keeps s.ledger := by
  intros; simp [runFedPort, apply_ite State.ledger, apply_ite SideState.floor, apply_ite SideState.security]; (repeat' first | rfl | (apply foldl_ledger; intros) | split) <;> simp_all [apply_ite State.ledger, apply_ite SideState.floor, apply_ite SideState.security]
@[simp] theorem runFedPeer_ledger : ∀ a0 s, (runFedPeer a0 s).Keeps s.ledger := by
  intros; simp [runFedPeer, apply_ite State.ledger, apply_ite SideState.floor, apply_ite SideState.security]; (repeat' first | rfl | (apply foldl_ledger; intros) | split) <;> simp_all [apply_ite State.ledger, apply_ite SideState.floor, apply_ite SideState.security]
@[simp] theorem runFedSiteStop_ledger : ∀ a0 s, (runFedSiteStop a0 s).Keeps s.ledger := by
  intros; simp [runFedSiteStop, apply_ite State.ledger, apply_ite SideState.floor, apply_ite SideState.security]; (repeat' first | rfl | (apply foldl_ledger; intros) | split) <;> simp_all [apply_ite State.ledger, apply_ite SideState.floor, apply_ite SideState.security]
@[simp] theorem runFedStatus_ledger : ∀ a0 s, (runFedStatus a0 s).Keeps s.ledger := by
  intros; rfl
@[simp] theorem execFedConfig_ledger : ∀ a0 s, Keeps s.ledger (execFedConfig a0 s) := by
  intros; simp [execFedConfig]
@[simp] theorem execFedPort_ledger : ∀ a0 s, Keeps s.ledger (execFedPort a0 s) := by
  intros; simp [execFedPort]
@[simp] theorem execFedPeer_ledger : ∀ a0 s, Keeps s.ledger (execFedPeer a0 s) := by
  intros; simp [execFedPeer]
@[simp] theorem execFedHandover_ledger : ∀ a0 s, Keeps s.ledger (execFedHandover a0 s) := by
  intros; simp [execFedHandover]
@[simp] theorem execFedSiteStop_ledger : ∀ a0 s, Keeps s.ledger (execFedSiteStop a0 s) := by
  intros; simp [execFedSiteStop]
@[simp] theorem execFedStatus_ledger : ∀ a0 s, Keeps s.ledger (execFedStatus a0 s) := by
  intros; simp [execFedStatus]
@[simp] theorem State.modPtp_ledger : ∀ s a1 a2, (State.modPtp s a1 a2).ledger = s.ledger := by
  intros; rfl
@[simp] theorem ptpSend_ledger : ∀ a0 a1 s, (ptpSend a0 a1 s).ledger = s.ledger := by
  intros; unfold ptpSend; (repeat' split) <;> simp
@[simp] theorem ptpPass_ledger : ∀ a0 a1 a2 s, (ptpPass a0 a1 a2 s).ledger = s.ledger := by
  intros; simp [ptpPass, apply_ite State.ledger]
@[simp] theorem steerPtb_ledger : ∀ a0 a1 s, (steerPtb a0 a1 s).ledger = s.ledger := by
  intros; unfold steerPtb; (repeat' split) <;> simp
@[simp] theorem syncDone_ledger : ∀ a0 a1 a2 a3 s, (syncDone a0 a1 a2 a3 s).ledger = s.ledger := by
  intros; simp [syncDone, apply_ite State.ledger]
@[simp] theorem rxSync_ledger : ∀ a0 a1 a2 s, (rxSync a0 a1 a2 s).ledger = s.ledger := by
  intros; simp [rxSync, apply_ite State.ledger]
@[simp] theorem rxDelayReq_ledger : ∀ a0 a1 a2 s, (rxDelayReq a0 a1 a2 s).ledger = s.ledger := by
  intros; unfold rxDelayReq; (repeat' split) <;> simp
@[simp] theorem rxPdelayReq_ledger : ∀ a0 a1 a2 s, (rxPdelayReq a0 a1 a2 s).ledger = s.ledger := by
  intros; simp [rxPdelayReq, apply_ite State.ledger]
@[simp] theorem rxPdelayResp_ledger : ∀ a0 a1 a2 s, (rxPdelayResp a0 a1 a2 s).ledger = s.ledger := by
  intros; unfold rxPdelayResp; (repeat' split) <;> simp
@[simp] theorem execPtpEventMessageRx_ledger : ∀ a0 a1 s, Keeps s.ledger (execPtpEventMessageRx a0 a1 s) := by
  intros; unfold execPtpEventMessageRx; dsimp only; (repeat' split) <;> simp_all [apply_ite State.ledger]
@[simp] theorem txSync_ledger : ∀ a0 s, (txSync a0 s).ledger = s.ledger := by
  intros; simp [txSync, apply_ite State.ledger]
@[simp] theorem txRequest_ledger : ∀ a0 a1 s, (txRequest a0 a1 s).ledger = s.ledger := by
  intros; unfold txRequest; (repeat' split) <;> simp
@[simp] theorem announceDue_ledger : ∀ a0 s, (announceDue a0 s).ledger = s.ledger := by
  intros; simp [announceDue, apply_ite State.ledger]
@[simp] theorem execPtpEventMessageTx_ledger : ∀ a0 a1 s, Keeps s.ledger (execPtpEventMessageTx a0 a1 s) := by
  intros; unfold execPtpEventMessageTx; dsimp only; (repeat' split) <;> simp_all [apply_ite State.ledger]
@[simp] theorem execPtpTransparentPass_ledger : ∀ a0 a1 a2 a3 s, Keeps s.ledger (execPtpTransparentPass a0 a1 a2 a3 s) := by
  intros; simp [execPtpTransparentPass, apply_ite State.ledger, apply_ite SideState.floor, apply_ite SideState.security]; (repeat' first | rfl | (apply foldl_ledger; intros) | split) <;> simp_all [apply_ite State.ledger, apply_ite SideState.floor, apply_ite SideState.security]
@[simp] theorem runBmca_ledger : ∀ s, (runBmca s).ledger = s.ledger := by
  intros; simp [runBmca, apply_ite State.ledger]
@[simp] theorem rxAnnounce_ledger : ∀ a0 a1 s, (rxAnnounce a0 a1 s).ledger = s.ledger := by
  intros; simp [rxAnnounce, apply_ite State.ledger]
@[simp] theorem rxFollowUp_ledger : ∀ a0 a1 s, (rxFollowUp a0 a1 s).ledger = s.ledger := by
  intros; unfold rxFollowUp; (repeat' split) <;> simp
@[simp] theorem rxDelayResp_ledger : ∀ a0 a1 s, (rxDelayResp a0 a1 s).ledger = s.ledger := by
  intros; unfold rxDelayResp; (repeat' split) <;> simp
@[simp] theorem rxPdelayFollowUp_ledger : ∀ a0 a1 s, (rxPdelayFollowUp a0 a1 s).ledger = s.ledger := by
  intros; unfold rxPdelayFollowUp; (repeat' split) <;> simp
@[simp] theorem execPtpAnnounceReceived_ledger : ∀ a0 a1 s, Keeps s.ledger (execPtpAnnounceReceived a0 a1 s) := by
  intros; unfold execPtpAnnounceReceived; dsimp only; (repeat' split) <;> simp_all [apply_ite State.ledger]
@[simp] theorem execPtpAnnounceReceiptTimeout_ledger : ∀ a0 s, Keeps s.ledger (execPtpAnnounceReceiptTimeout a0 s) := by
  intros; unfold execPtpAnnounceReceiptTimeout; (repeat' first | rfl | split) <;> simp_all
@[simp] theorem restartPtp_ledger : ∀ s, (restartPtp s).ledger = s.ledger := by
  intros; rfl
@[simp] theorem runTimeConfig_ledger : ∀ a0 s, (runTimeConfig a0 s).Keeps s.ledger := by
  intros; simp [runTimeConfig, apply_ite State.ledger, apply_ite SideState.floor, apply_ite SideState.security]; (repeat' first | rfl | (apply foldl_ledger; intros) | split) <;> simp_all [apply_ite State.ledger, apply_ite SideState.floor, apply_ite SideState.security]
@[simp] theorem runTimePtpConfig_ledger : ∀ a0 s, (runTimePtpConfig a0 s).Keeps s.ledger := by
  intros; simp [runTimePtpConfig, apply_ite State.ledger, apply_ite SideState.floor, apply_ite SideState.security]; (repeat' first | rfl | (apply foldl_ledger; intros) | split) <;> simp_all [apply_ite State.ledger, apply_ite SideState.floor, apply_ite SideState.security]
@[simp] theorem runTimeLeap_ledger : ∀ a0 s, (runTimeLeap a0 s).Keeps s.ledger := by
  intros; simp [runTimeLeap, apply_ite State.ledger, apply_ite SideState.floor, apply_ite SideState.security]; (repeat' first | rfl | (apply foldl_ledger; intros) | split) <;> simp_all [apply_ite State.ledger, apply_ite SideState.floor, apply_ite SideState.security]
@[simp] theorem runTimeStatus_ledger : ∀ a0 s, (runTimeStatus a0 s).Keeps s.ledger := by
  intros; rfl
@[simp] theorem runTimeRead_ledger : ∀ a0 s, (runTimeRead a0 s).Keeps s.ledger := by
  intros; rfl
@[simp] theorem execTimeConfig_ledger : ∀ a0 s, Keeps s.ledger (execTimeConfig a0 s) := by
  intros; simp [execTimeConfig]
@[simp] theorem execTimePtpConfig_ledger : ∀ a0 s, Keeps s.ledger (execTimePtpConfig a0 s) := by
  intros; simp [execTimePtpConfig]
@[simp] theorem execTimeLeap_ledger : ∀ a0 s, Keeps s.ledger (execTimeLeap a0 s) := by
  intros; simp [execTimeLeap]
@[simp] theorem execTimeStatus_ledger : ∀ a0 s, Keeps s.ledger (execTimeStatus a0 s) := by
  intros; simp [execTimeStatus]
@[simp] theorem execTimeRead_ledger : ∀ a0 s, Keeps s.ledger (execTimeRead a0 s) := by
  intros; simp [execTimeRead]
@[simp] theorem updateEvent_ledger : ∀ a0 a1 a2 s, (updateEvent a0 a1 a2 s).ledger = s.ledger := by
  intros; simp [updateEvent]
@[simp] theorem State.modStore_ledger : ∀ s a1 a2, (State.modStore s a1 a2).ledger = s.ledger := by
  intros; simp [State.modStore]
@[simp] theorem pagesNeeded_ledger : ∀ s, (pagesNeeded s).2.ledger = s.ledger := by
  intros; rfl
@[simp] theorem commitStore_ledger : ∀ a0 a1 s, (commitStore a0 a1 s).ledger = s.ledger := by
  intros; simp [commitStore]
@[simp] theorem autoWrite_ledger : ∀ a0 s, (autoWrite a0 s).ledger = s.ledger := by
  intros; simp [autoWrite, apply_ite State.ledger]
theorem confirmSide_grows (x : SideId) (s : State) : s.ledger.Grows (confirmSide x s).ledger := by
  unfold confirmSide
  dsimp only
  rw [updateEvent_ledger]
  exact State.modSide_grows _ _ _ fun d => ⟨Nat.le_max_left _ _, Nat.le_refl _⟩
theorem tryConfirm_grows (s : State) : s.ledger.Grows (tryConfirm s).ledger := by
  unfold tryConfirm
  split
  · exact (Ledger.Grows.of_eq (by simp)).trans (confirmSide_grows _ _)
  · exact .refl _
@[simp] theorem dropTrial_ledger : ∀ a0 s, (dropTrial a0 s).ledger = s.ledger := by
  intros; simp [dropTrial]
@[simp] theorem hotStartWork_ledger : ∀ s, (hotStartWork s).ledger = s.ledger := by
  intros; unfold hotStartWork; (repeat' split) <;> simp
@[simp] theorem execHotStartWrite_ledger : ∀ s, Keeps s.ledger (execHotStartWrite s) := by
  intros; unfold execHotStartWrite; (repeat' split) <;> simp
@[simp] theorem budgetWork_ledger : ∀ s, (budgetWork s).ledger = s.ledger := by
  intros; unfold budgetWork; (repeat' split) <;> simp
@[simp] theorem execBudgetAccountingWrite_ledger : ∀ s, Keeps s.ledger (execBudgetAccountingWrite s) := by
  intros; unfold execBudgetAccountingWrite; (repeat' split) <;> simp
@[simp] theorem execCheckpointSnapshot_ledger : ∀ s, Keeps s.ledger (execCheckpointSnapshot s) := by
  intros; simp [execCheckpointSnapshot, apply_ite State.ledger, apply_ite SideState.floor, apply_ite SideState.security]; (repeat' first | rfl | (apply foldl_ledger; intros) | split) <;> simp_all [apply_ite State.ledger, apply_ite SideState.floor, apply_ite SideState.security]
@[simp] theorem durable_ledger : ∀ a0 a1 s, (durable a0 a1 s).ledger = s.ledger := by
  intros; simp [durable]
@[simp] theorem keepEffected_ledger : ∀ a0 a1 s, (keepEffected a0 a1 s).ledger = s.ledger := by
  intros; unfold keepEffected; (repeat' split) <;> simp
@[simp] theorem handoverCommitted_ledger : ∀ a0 s, (handoverCommitted a0 s).ledger = s.ledger := by
  intros; unfold handoverCommitted; (repeat' first | rfl | split) <;> simp_all
@[simp] theorem commitCheckpoint_ledger : ∀ a0 s, (commitCheckpoint a0 s).ledger = s.ledger := by
  intros; simp [commitCheckpoint, apply_ite State.ledger]
@[simp] theorem execCheckpointCommit_ledger : ∀ s, Keeps s.ledger (execCheckpointCommit s) := by
  intros; unfold execCheckpointCommit; (repeat' first | rfl | split) <;> simp_all
@[simp] theorem execLockstepMismatch_ledger : ∀ s, Keeps s.ledger (execLockstepMismatch s) := by
  intros; simp [execLockstepMismatch, apply_ite State.ledger, apply_ite SideState.floor, apply_ite SideState.security]; (repeat' first | rfl | (apply foldl_ledger; intros) | split) <;> simp_all [apply_ite State.ledger, apply_ite SideState.floor, apply_ite SideState.security]
@[simp] theorem execSupervisorWatchdogExpiry_ledger : ∀ s, Keeps s.ledger (execSupervisorWatchdogExpiry s) := by
  intros; simp [execSupervisorWatchdogExpiry, apply_ite State.ledger, apply_ite SideState.floor, apply_ite SideState.security]; (repeat' first | rfl | (apply foldl_ledger; intros) | split) <;> simp_all [apply_ite State.ledger, apply_ite SideState.floor, apply_ite SideState.security]
@[simp] theorem modPacket_ledger : ∀ a0 a1 a2 s, (modPacket a0 a1 a2 s).ledger = s.ledger := by
  intros; unfold modPacket; (repeat' split) <;> simp
@[simp] theorem poisonPacket_ledger : ∀ a0 a1 a2 s, (poisonPacket a0 a1 a2 s).ledger = s.ledger := by
  intros; unfold poisonPacket; dsimp only; (repeat' split) <;> simp_all [apply_ite State.ledger, apply_ite SideState.floor, apply_ite SideState.security]
@[simp] theorem cutChain_ledger : ∀ a0 a1 s, (cutChain a0 a1 s).ledger = s.ledger := by
  intros; unfold cutChain; dsimp only; (repeat' split) <;> simp_all [apply_ite State.ledger]
@[simp] theorem loseCopy_ledger : ∀ a0 a1 s, (loseCopy a0 a1 s).ledger = s.ledger := by
  intros; unfold loseCopy; (repeat' split) <;> simp
@[simp] theorem memoryError_ledger : ∀ a0 a1 a2 a3 s, (memoryError a0 a1 a2 a3 s).ledger = s.ledger := by
  intros; simp [memoryError, apply_ite State.ledger]
@[simp] theorem execUncorrectableMemoryError_ledger : ∀ a0 a1 a2 a3 s, Keeps s.ledger (execUncorrectableMemoryError a0 a1 a2 a3 s) := by
  intros; unfold execUncorrectableMemoryError; (repeat' first | rfl | split) <;> simp_all
@[simp] theorem execGnssFailTimeout_ledger : ∀ s, Keeps s.ledger (execGnssFailTimeout s) := by
  intros; simp [execGnssFailTimeout, apply_ite State.ledger, apply_ite SideState.floor, apply_ite SideState.security]; (repeat' first | rfl | (apply foldl_ledger; intros) | split) <;> simp_all [apply_ite State.ledger, apply_ite SideState.floor, apply_ite SideState.security]
@[simp] theorem starvation_ledger : ∀ a0 s, (starvation a0 s).ledger = s.ledger := by
  intros; simp [starvation, apply_ite State.ledger]
@[simp] theorem execControlStarvation_ledger : ∀ a0 a1 s, Keeps s.ledger (execControlStarvation a0 a1 s) := by
  intros; unfold execControlStarvation; (repeat' first | rfl | split) <;> simp_all
@[simp] theorem testMemories_ledger : ∀ s, (testMemories s).ledger = s.ledger := by
  intros; simp [testMemories, apply_ite State.ledger]
theorem bistDone_grows (s : State) : s.ledger.Grows (bistDone s).ledger :=
  (Ledger.Grows.of_eq (by simp)).trans (tryConfirm_grows _)
theorem bistGo_grows : ∀ (n : Nat) (s : State), s.ledger.Grows (bistGo n s).ledger := by
  intro n
  induction n with
  | zero => intro s; exact .refl _
  | succ n ih =>
    intro s; unfold bistGo
    (repeat' split) <;> first
      | exact .refl _
      | exact bistDone_grows _
      | exact (Ledger.Grows.of_eq (by simp)).trans (ih _)
      | exact .of_eq (by simp)
theorem execBistPeriod_grows (b : Bool) (s : State) : Grows s.ledger (execBistPeriod b s) := by
  unfold execBistPeriod
  (repeat' split) <;> first
    | exact Ledger.Grows.refl _
    | exact (Ledger.Grows.of_eq (by simp)).trans (bistGo_grows _ _)
    | exact Ledger.Grows.of_eq (by simp)
@[simp] theorem execHoldWaitExpiry_ledger : ∀ s, Keeps s.ledger (execHoldWaitExpiry s) := by
  intros; unfold execHoldWaitExpiry; (repeat' first | rfl | split) <;> simp_all
@[simp] theorem execPlannedHandoverRelinquish_ledger : ∀ s, Keeps s.ledger (execPlannedHandoverRelinquish s) := by
  intros; simp [execPlannedHandoverRelinquish, apply_ite State.ledger, apply_ite SideState.floor, apply_ite SideState.security]; (repeat' first | rfl | (apply foldl_ledger; intros) | split) <;> simp_all [apply_ite State.ledger, apply_ite SideState.floor, apply_ite SideState.security]
@[simp] theorem runRedunConfig_ledger : ∀ a0 s, (runRedunConfig a0 s).Keeps s.ledger := by
  intros; rfl
@[simp] theorem runRedunHandover_ledger : ∀ a0 s, (runRedunHandover a0 s).Keeps s.ledger := by
  intros; simp [runRedunHandover, apply_ite State.ledger, apply_ite SideState.floor, apply_ite SideState.security]; (repeat' first | rfl | (apply foldl_ledger; intros) | split) <;> simp_all [apply_ite State.ledger, apply_ite SideState.floor, apply_ite SideState.security]
@[simp] theorem runRedunCheckpoint_ledger : ∀ a0 s, (runRedunCheckpoint a0 s).Keeps s.ledger := by
  intros; unfold runRedunCheckpoint; (repeat' first | rfl | split) <;> simp_all
@[simp] theorem runRedunStatus_ledger : ∀ a0 s, (runRedunStatus a0 s).Keeps s.ledger := by
  intros; rfl
@[simp] theorem runRedunSideRead_ledger : ∀ a0 s, (runRedunSideRead a0 s).Keeps s.ledger := by
  intros; rfl
@[simp] theorem execRedunConfig_ledger : ∀ a0 s, Keeps s.ledger (execRedunConfig a0 s) := by
  intros; simp [execRedunConfig]
@[simp] theorem execRedunHandover_ledger : ∀ a0 s, Keeps s.ledger (execRedunHandover a0 s) := by
  intros; simp [execRedunHandover]
@[simp] theorem execRedunCheckpoint_ledger : ∀ a0 s, Keeps s.ledger (execRedunCheckpoint a0 s) := by
  intros; simp [execRedunCheckpoint]
@[simp] theorem execRedunStatus_ledger : ∀ a0 s, Keeps s.ledger (execRedunStatus a0 s) := by
  intros; simp [execRedunStatus]
@[simp] theorem execRedunSideRead_ledger : ∀ a0 s, Keeps s.ledger (execRedunSideRead a0 s) := by
  intros; simp [execRedunSideRead]
theorem modulesOff_grows (s : State) : s.ledger.Grows (modulesOff s).ledger := by
  have h : ∀ s : State, ((List.range 4).foldl (fun s n => endSession n 4 s) s).ledger = s.ledger := fun s =>
    foldl_ledger _ (fun s n => by simp) _ s
  unfold modulesOff
  dsimp only
  rw [loseControl_ledger]
  refine (Ledger.Grows.of_eq (h s)).trans ?_
  generalize (List.range 4).foldl (fun s n => endSession n 4 s) s = t
  exact ⟨rfl, Nat.le_refl _, Nat.le_refl _, Nat.le_refl _, Nat.le_refl _, Nat.le_refl _, Nat.le_refl _, .inr (.inl rfl)⟩
theorem moduleStart_grows (k d : Nat) (a b : Bool) (s : State) : s.ledger.Grows (moduleStart k d a b s).ledger := by
  unfold moduleStart
  exact (modulesOff_grows s).eqR (by simp)
theorem execModulePowerOn_grows (a b : Bool) (s : State) : Grows s.ledger (execModulePowerOn a b s) := by
  unfold execModulePowerOn
  split
  · exact .refl _
  · exact (Ledger.Grows.of_eq (by simp)).trans (moduleStart_grows _ _ _ _ _)
theorem execModResetNAsserted_grows (s : State) : Grows s.ledger (execModResetNAsserted s) := by
  unfold execModResetNAsserted
  split
  · exact .refl _
  · exact (modulesOff_grows s).eqR (by simp)
theorem execModResetNRelease_grows (a b : Bool) (s : State) : Grows s.ledger (execModResetNRelease a b s) := by
  unfold execModResetNRelease
  split
  · exact .refl _
  · exact moduleStart_grows _ _ _ _ _
@[simp] theorem unheld_kept (d : SideState) : d.unheld.floor = d.floor ∧ d.unheld.security.record.state = d.security.record.state := by
  unfold SideState.unheld; split <;> simp

@[simp] theorem crownsHeld_ledger : ∀ s, (crownsHeld s).ledger = s.ledger := by
  intro s
  unfold crownsHeld
  split <;> simp
theorem powerDown_grows (a : Bool) (s : State) : s.ledger.Grows (powerDown a s).ledger := by
  unfold powerDown
  exact (modulesOff_grows s).eqR (by simp)
theorem execModulePowerDown_grows (a : Bool) (s : State) : Grows s.ledger (execModulePowerDown a s) := by
  unfold execModulePowerDown
  split
  · split
    · exact powerDown_grows _ _
    · exact .refl _
  · exact .of_eq (by simp)
@[simp] theorem countSupply_ledger : ∀ s, (countSupply s).ledger = s.ledger := by
  intros; simp [countSupply]
@[simp] theorem execVbatLoss_ledger : ∀ a0 s, Keeps s.ledger (execVbatLoss a0 s) := by
  intros; simp [execVbatLoss, apply_ite State.ledger, apply_ite SideState.floor, apply_ite SideState.security]; (repeat' first | rfl | (apply foldl_ledger; intros) | split) <;> simp_all [apply_ite State.ledger, apply_ite SideState.floor, apply_ite SideState.security]
@[simp] theorem execVbatRestored_ledger : ∀ s, Keeps s.ledger (execVbatRestored s) := by
  intros; rfl
@[simp] theorem afterRestart_ledger : ∀ s, (afterRestart s).ledger = s.ledger := by
  intros; simp [afterRestart, apply_ite State.ledger]
@[simp] theorem execHostSwitchReady_ledger : ∀ a0 s, Keeps s.ledger (execHostSwitchReady a0 s) := by
  intros; unfold execHostSwitchReady; (repeat' first | rfl | split) <;> simp_all [apply_ite State.ledger, apply_ite SideState.floor, apply_ite SideState.security]
@[simp] theorem endStage_ledger : ∀ a0 a1 a2 s, (endStage a0 a1 a2 s).ledger = s.ledger := by
  intro x k g s
  unfold endStage
  rw [State.modSide_ledger]
  intro d
  split <;> simp
theorem armSide_grows (x : SideId) (s : State) (h : (s.side x).security.record.state = .shipping) :
    s.ledger.Grows (armSide x s).ledger := by
  unfold armSide
  rw [recordOn_ledger]
  refine State.modSide_grows_at _ _ _ ⟨Nat.le_refl _, ?_⟩
  rw [h]; exact Nat.zero_le _
theorem bootRom_grows (x : SideId) (r : StartRun) (b : Bool) (s : State) : s.ledger.Grows (bootRom x r b s).ledger := by
  have key : ∀ s : State, s.ledger.Grows (if (s.side x).locked then failStart x 4 s
      else if (s.side x).security.record.state = .armed ∧ !(s.side x).security.crownValid then
        failStart x 4 (s.modSide x SideState.latch)
      else
        let s := s.modSide x fun d => { d with mainOn := true, bank33 := b }
        endStage x 0 .imageVerify (if r.kind = .sideReset then s else { s with mtbZero := s.clock })).ledger := by
    intro s
    split
    · exact .of_eq (by simp)
    · split
      · rw [failStart_ledger]
        exact State.modSide_grows _ _ _ fun d => ⟨Nat.le_refl _, TamperState.rank_le _⟩
      · exact .of_eq (by simp [apply_ite State.ledger])
  unfold bootRom
  split
  · exact .refl _
  · dsimp only
    split
    · rename_i h
      exact (armSide_grows x s h.1).trans (key _)
    · exact key s
theorem execBootRomDone_grows (b : Bool) (s : State) : Grows s.ledger (execBootRomDone b s) := by
  unfold execBootRomDone
  split
  · exact bootRom_grows _ _ _ _
  · exact .refl _
@[simp] theorem imageVerify_ledger : ∀ a0 a1 a2 a3 s, (imageVerify a0 a1 a2 a3 s).ledger = s.ledger := by
  intros; simp [imageVerify, apply_ite State.ledger]
@[simp] theorem execImageVerifyDone_ledger : ∀ a0 a1 s, Keeps s.ledger (execImageVerifyDone a0 a1 s) := by
  intros; unfold execImageVerifyDone; (repeat' first | rfl | split) <;> simp_all
@[simp] theorem recoverRecorder_ledger : ∀ a0 a1 s, (recoverRecorder a0 a1 s).ledger = s.ledger := by
  intros; simp [recoverRecorder]
@[simp] theorem refitAccounts_ledger : ∀ a0 s, (refitAccounts a0 s).ledger = s.ledger := by
  intros; unfold refitAccounts; (repeat' split) <;> simp
@[simp] theorem missingAccounts_ledger : ∀ s, (missingAccounts s).ledger = s.ledger := by
  intro s
  refine foldl_ledger _ (fun s l => ?_) _ s
  split <;> simp
@[simp] theorem startSpans_ledger : ∀ s, (startSpans s).ledger = s.ledger := by
  intros; unfold startSpans; (repeat' split) <;> simp
@[simp] theorem loadControl_ledger : ∀ a0 a1 s, (loadControl a0 a1 s).ledger = s.ledger := by
  intro x k s
  simp [loadControl]
@[simp] theorem aonError_ledger : ∀ a0 s, (aonError a0 s).2.ledger = s.ledger := by
  intros; rfl
@[simp] theorem resumeRun_ledger : ∀ a0 s, (resumeRun a0 s).ledger = s.ledger := by
  intros; simp [resumeRun, apply_ite State.ledger]
@[simp] theorem installCheckpoint_ledger : ∀ a0 a1 a2 s, (installCheckpoint a0 a1 a2 s).ledger = s.ledger := by
  intros; simp [installCheckpoint]
theorem newEpoch_grows (x : SideId) (k : Nat) (s : State) : s.ledger.Grows (newEpoch x k s).ledger := by
  unfold newEpoch
  refine Ledger.Grows.eqR (b := Ledger.mk (max (max s.hsw.nv.epochMax (s.side x).store.epoch) k + 1)
    (max (max s.hsw.nv.epochMax (s.side x).store.epoch) k + 1) s.hsw.nv.importCtr s.sideA.floor s.sideB.floor
    s.sideA.security.record.state s.sideB.security.record.state s.pending) ?_ ?_
  · refine ⟨rfl, ?_, Nat.le_refl _, Nat.le_refl _, Nat.le_refl _, Nat.le_refl _, Nat.le_refl _, .inr (.inr ⟨?_, Nat.le_refl _⟩)⟩ <;>
      simp only [State.ledger] <;> omega
  · simp only [raiseIrq_ledger, State.modStore_ledger]
    rfl
@[simp] theorem beginServing_ledger : ∀ s, (beginServing s).ledger = s.ledger := by
  intros; simp [beginServing, apply_ite State.ledger]
@[simp] theorem startBias_ledger : ∀ s, (startBias s).ledger = s.ledger := by
  intros; rfl
theorem loaded_grows (x : SideId) (r : StartRun) (k : Nat) (ev : Option (Nat × Nat)) (s : State) :
    s.ledger.Grows (loaded x r k ev s).ledger := by
  have h : s.ledger.Grows (newEpoch x k (s.modSide x fun d => { d with power := modePower s.ctl.mode })).ledger :=
    (Ledger.Grows.of_eq (by simp)).trans (newEpoch_grows _ _ _)
  unfold loaded
  refine h.eqR ?_
  dsimp only
  split <;> simp [apply_ite State.ledger]
theorem loadModule_grows (x : SideId) (r : StartRun) (b : Bool) (ev : Option (Nat × Nat)) (s : State) :
    s.ledger.Grows (loadModule x r b ev s).ledger := by
  unfold loadModule
  dsimp only
  split
  · exact .of_eq (by simp)
  · exact (Ledger.Grows.of_eq (by simp)).trans (loaded_grows _ _ _ _ _)
theorem stateLoad_grows (x : SideId) (r : StartRun) (a b c d : Bool) (s : State) :
    s.ledger.Grows (stateLoad x r a b c d s).ledger := by
  unfold stateLoad
  dsimp only
  split
  · exact (Ledger.Grows.of_eq (by simp)).trans (loadModule_grows _ _ _ _ _)
  · exact (Ledger.Grows.of_eq (by simp)).trans (loadModule_grows _ _ _ _ _)
  · exact .of_eq (by simp [apply_ite State.ledger])
  · split
    · exact (Ledger.Grows.of_eq (by simp)).trans (loaded_grows _ _ _ _ _)
    · exact (Ledger.Grows.of_eq (by simp)).trans (loadModule_grows _ _ _ _ _)
theorem execStateLoadDone_grows (a b c d : Bool) (s : State) : Grows s.ledger (execStateLoadDone a b c d s) := by
  unfold execStateLoadDone
  split
  · exact stateLoad_grows _ _ _ _ _ _ _
  · exact .refl _
@[simp] theorem bringUp_ledger : ∀ a0 a1 s, (bringUp a0 a1 s).ledger = s.ledger := by
  intro k t s
  unfold bringUp
  split
  · rfl
  · split <;> rename_i e <;> replace e := pair_ledger e
    · simp_all
    · have h := tuneLanes_ledger k
      split <;> rename_i e2 <;> first | (replace e2 := pair_ledger e2; simp_all; done) | simp_all
@[simp] theorem bringUpOther_ledger : ∀ a0 a1 a2 s, (bringUpOther a0 a1 a2 s).ledger = s.ledger := by
  intro x k up s
  unfold bringUpOther
  dsimp only
  split
  · rfl
  · have h := initHead_ledger x k s
    generalize initHead x k s = e at h
    split
    · rw [foldl_acc_ledger _ (fun r l => by split <;> simp)]; exact h
    · exact h
@[simp] theorem shutOther_ledger : ∀ a0 a1 s, (shutOther a0 a1 s).ledger = s.ledger := by
  intros; unfold shutOther; (repeat' split) <;> simp
@[simp] theorem execRadioHeadBringupDone_ledger : ∀ a0 a1 s, Keeps s.ledger (execRadioHeadBringupDone a0 a1 s) := by
  intros; unfold execRadioHeadBringupDone; (repeat' split) <;> simp
@[simp] theorem endGnssStart_ledger : ∀ s, (endGnssStart s).ledger = s.ledger := by
  intros; unfold endGnssStart; (repeat' first | rfl | split) <;> simp_all
@[simp] theorem execGnssStartEnd_ledger : ∀ a0 s, Keeps s.ledger (execGnssStartEnd a0 s) := by
  intros; unfold execGnssStartEnd; (repeat' first | rfl | split) <;> simp_all
@[simp] theorem execGnssStartDeadline_ledger : ∀ s, Keeps s.ledger (execGnssStartDeadline s) := by
  intros; unfold execGnssStartDeadline; (repeat' first | rfl | split) <;> simp_all
@[simp] theorem resumeFrames_ledger : ∀ s, (resumeFrames s).ledger = s.ledger := by
  intros; simp [resumeFrames]
theorem heartbeatStart_grows (r : StartRun) (s : State) : s.ledger.Grows (heartbeatStart r s).ledger := by
  unfold heartbeatStart
  refine (Ledger.Grows.of_eq ?_).trans (tryConfirm_grows _)
  simp [apply_ite State.ledger]
theorem execHeartbeatStart_grows (s : State) : Grows s.ledger (execHeartbeatStart s) := by
  unfold execHeartbeatStart
  split
  · split
    · exact .refl _
    · exact heartbeatStart_grows _ _
  · exact .refl _
@[simp] theorem execStartStageOverrun_ledger : ∀ s, Keeps s.ledger (execStartStageOverrun s) := by
  intros; simp [execStartStageOverrun, apply_ite State.ledger, apply_ite SideState.floor, apply_ite SideState.security]; (repeat' first | rfl | (apply foldl_ledger; intros) | split) <;> simp_all [apply_ite State.ledger, apply_ite SideState.floor, apply_ite SideState.security]
@[simp] theorem eachRecorder_ledger : ∀ a0 s, (eachRecorder a0 s).ledger = s.ledger := by
  intros; rfl
@[simp] theorem execOpSecondsTick_ledger : ∀ s, Keeps s.ledger (execOpSecondsTick s) := by
  intros; unfold execOpSecondsTick; (repeat' first | rfl | split) <;> simp_all
@[simp] theorem execCounterBlockSave_ledger : ∀ s, Keeps s.ledger (execCounterBlockSave s) := by
  intros; unfold execCounterBlockSave; (repeat' first | rfl | split) <;> simp_all
@[simp] theorem liveRecorders_ledger : ∀ a0 s, (liveRecorders a0 s).ledger = s.ledger := by
  intros; simp [liveRecorders, apply_ite State.ledger, apply_ite SideState.floor, apply_ite SideState.security]
@[simp] theorem execFoldJournalWrite_ledger : ∀ s, Keeps s.ledger (execFoldJournalWrite s) := by
  intros; simp [execFoldJournalWrite]
@[simp] theorem execRepeatWindowEnd_ledger : ∀ s, Keeps s.ledger (execRepeatWindowEnd s) := by
  intros; simp [execRepeatWindowEnd]
@[simp] theorem execAppendsDroppedReport_ledger : ∀ s, Keeps s.ledger (execAppendsDroppedReport s) := by
  intros; simp [execAppendsDroppedReport, apply_ite State.ledger, apply_ite SideState.floor, apply_ite SideState.security]; (repeat' first | rfl | (apply foldl_ledger; intros) | split) <;> simp_all [apply_ite State.ledger, apply_ite SideState.floor, apply_ite SideState.security]
@[simp] theorem runRecordRead_ledger : ∀ a0 s, (runRecordRead a0 s).Keeps s.ledger := by
  intros; simp [runRecordRead, apply_ite State.ledger, apply_ite SideState.floor, apply_ite SideState.security]; (repeat' first | rfl | (apply foldl_ledger; intros) | split) <;> simp_all [apply_ite State.ledger, apply_ite SideState.floor, apply_ite SideState.security]
@[simp] theorem runRecordStatus_ledger : ∀ a0 s, (runRecordStatus a0 s).Keeps s.ledger := by
  intros; rfl
@[simp] theorem runRecordConfig_ledger : ∀ a0 s, (runRecordConfig a0 s).Keeps s.ledger := by
  intros; rfl
@[simp] theorem runRecordMark_ledger : ∀ a0 s, (runRecordMark a0 s).Keeps s.ledger := by
  intros; simp [runRecordMark, apply_ite State.ledger, apply_ite SideState.floor, apply_ite SideState.security]; (repeat' first | rfl | (apply foldl_ledger; intros) | split) <;> simp_all [apply_ite State.ledger, apply_ite SideState.floor, apply_ite SideState.security]
@[simp] theorem State.modCounters_ledger : ∀ s a1, (State.modCounters s a1).ledger = s.ledger := by
  intros; rfl
@[simp] theorem runCounterSelect_ledger : ∀ a0 s, (runCounterSelect a0 s).Keeps s.ledger := by
  intros; simp [runCounterSelect, apply_ite State.ledger, apply_ite SideState.floor, apply_ite SideState.security]; (repeat' first | rfl | (apply foldl_ledger; intros) | split) <;> simp_all [apply_ite State.ledger, apply_ite SideState.floor, apply_ite SideState.security]
@[simp] theorem runCounterControl_ledger : ∀ a0 s, (runCounterControl a0 s).Keeps s.ledger := by
  intros; simp [runCounterControl, apply_ite State.ledger, apply_ite SideState.floor, apply_ite SideState.security]; (repeat' first | rfl | (apply foldl_ledger; intros) | split) <;> simp_all [apply_ite State.ledger, apply_ite SideState.floor, apply_ite SideState.security]
@[simp] theorem runCounterRead_ledger : ∀ a0 s, (runCounterRead a0 s).Keeps s.ledger := by
  intros; simp [runCounterRead, apply_ite State.ledger, apply_ite SideState.floor, apply_ite SideState.security]; (repeat' first | rfl | (apply foldl_ledger; intros) | split) <;> simp_all [apply_ite State.ledger, apply_ite SideState.floor, apply_ite SideState.security]
@[simp] theorem execCounterOverflow_ledger : ∀ a0 s, Keeps s.ledger (execCounterOverflow a0 s) := by
  intros; unfold execCounterOverflow; (repeat' first | rfl | split) <;> simp_all
@[simp] theorem execRecordRead_ledger : ∀ a0 s, Keeps s.ledger (execRecordRead a0 s) := by
  intros; simp [execRecordRead]
@[simp] theorem execRecordStatus_ledger : ∀ a0 s, Keeps s.ledger (execRecordStatus a0 s) := by
  intros; simp [execRecordStatus]
@[simp] theorem execRecordConfig_ledger : ∀ a0 s, Keeps s.ledger (execRecordConfig a0 s) := by
  intros; simp [execRecordConfig]
@[simp] theorem execRecordMark_ledger : ∀ a0 s, Keeps s.ledger (execRecordMark a0 s) := by
  intros; simp [execRecordMark]
@[simp] theorem execCounterSelect_ledger : ∀ a0 s, Keeps s.ledger (execCounterSelect a0 s) := by
  intros; simp [execCounterSelect]
@[simp] theorem execCounterControl_ledger : ∀ a0 s, Keeps s.ledger (execCounterControl a0 s) := by
  intros; simp [execCounterControl]
@[simp] theorem execCounterRead_ledger : ∀ a0 s, Keeps s.ledger (execCounterRead a0 s) := by
  intros; simp [execCounterRead]
@[simp] theorem offerTask_ledger : ∀ a0 a1 a2 s, (offerTask a0 a1 a2 s).ledger = s.ledger := by
  intro no n q s
  unfold offerTask
  split <;> rename_i e <;> (try replace e := submit_eq_ledger e) <;> simp_all [Submit.Keeps]
  split <;> simp [e]
@[simp] theorem serveTask_ledger : ∀ a0 s, (serveTask a0 s).ledger = s.ledger := by
  intros; unfold serveTask; dsimp only; (repeat' split) <;> simp_all [apply_ite State.ledger, apply_ite SideState.floor, apply_ite SideState.security]
@[simp] theorem allotterRun_ledger : ∀ s, (allotterRun s).ledger = s.ledger := by
  intros; simp [allotterRun]
@[simp] theorem execAllotterRun_ledger : ∀ s, Keeps s.ledger (execAllotterRun s) := by
  intros; unfold execAllotterRun; (repeat' split) <;> simp
@[simp] theorem execAllotterPeriodic_ledger : ∀ s, Keeps s.ledger (execAllotterPeriodic s) := by
  intros; unfold execAllotterPeriodic; (repeat' split) <;> simp
@[simp] theorem withdrawOffer_ledger : ∀ a0 s, (withdrawOffer a0 s).ledger = s.ledger := by
  intros; simp [withdrawOffer]
@[simp] theorem returnTask_ledger : ∀ a0 a1 s, (returnTask a0 a1 s).ledger = s.ledger := by
  intros; unfold returnTask; (repeat' split) <;> simp
@[simp] theorem endTask_ledger : ∀ a0 a1 s, (endTask a0 a1 s).ledger = s.ledger := by
  intros; unfold endTask; (repeat' first | rfl | split) <;> simp_all
@[simp] theorem execOfferTimeout_ledger : ∀ a0 s, Keeps s.ledger (execOfferTimeout a0 s) := by
  intros; simp [execOfferTimeout, apply_ite State.ledger]
@[simp] theorem execDeclineBarExpiry_ledger : ∀ a0 a1 s, Keeps s.ledger (execDeclineBarExpiry a0 a1 s) := by
  intros; rfl
@[simp] theorem execTaskDeadlineExpiry_ledger : ∀ a0 s, Keeps s.ledger (execTaskDeadlineExpiry a0 s) := by
  intros; unfold execTaskDeadlineExpiry; (repeat' first | rfl | split) <;> simp_all
@[simp] theorem execTaskDone_ledger : ∀ a0 s, Keeps s.ledger (execTaskDone a0 s) := by
  intros; unfold execTaskDone; (repeat' split) <;> simp
@[simp] theorem noteIdle_ledger : ∀ s, (noteIdle s).ledger = s.ledger := by
  intros; simp [noteIdle, apply_ite State.ledger]
@[simp] theorem execTickBoundary_ledger : ∀ s, Keeps s.ledger (execTickBoundary s) := by
  intros; simp [execTickBoundary]
@[simp] theorem runTaskQueue_ledger : ∀ a0 s, (runTaskQueue a0 s).Keeps s.ledger := by
  intros; simp [runTaskQueue, apply_ite State.ledger, apply_ite SideState.floor, apply_ite SideState.security]; (repeat' first | rfl | (apply foldl_ledger; intros) | split) <;> simp_all [apply_ite State.ledger, apply_ite SideState.floor, apply_ite SideState.security]
@[simp] theorem runTaskAccept_ledger : ∀ a0 s, (runTaskAccept a0 s).Keeps s.ledger := by
  intros; simp [runTaskAccept, apply_ite State.ledger, apply_ite SideState.floor, apply_ite SideState.security]; (repeat' first | rfl | (apply foldl_ledger; intros) | split) <;> simp_all [apply_ite State.ledger, apply_ite SideState.floor, apply_ite SideState.security]
@[simp] theorem runTaskCancel_ledger : ∀ a0 s, (runTaskCancel a0 s).Keeps s.ledger := by
  intros; simp [runTaskCancel, apply_ite State.ledger, apply_ite SideState.floor, apply_ite SideState.security]; (repeat' first | rfl | (apply foldl_ledger; intros) | split) <;> simp_all [apply_ite State.ledger, apply_ite SideState.floor, apply_ite SideState.security]
@[simp] theorem execTaskQueue_ledger : ∀ a0 s, Keeps s.ledger (execTaskQueue a0 s) := by
  intros; simp [execTaskQueue]
@[simp] theorem execTaskAccept_ledger : ∀ a0 s, Keeps s.ledger (execTaskAccept a0 s) := by
  intros; simp [execTaskAccept]
@[simp] theorem execTaskCancel_ledger : ∀ a0 s, Keeps s.ledger (execTaskCancel a0 s) := by
  intros; simp [execTaskCancel]
@[simp] theorem sqDoorbell_ledger : ∀ a0 a1 s, (sqDoorbell a0 a1 s).ledger = s.ledger := by
  intros; simp [sqDoorbell, apply_ite State.ledger]
@[simp] theorem cqDoorbell_ledger : ∀ a0 a1 s, (cqDoorbell a0 a1 s).ledger = s.ledger := by
  intros; simp [cqDoorbell, apply_ite State.ledger]
@[simp] theorem clearIrq_ledger : ∀ a0 a1 s, (clearIrq a0 a1 s).ledger = s.ledger := by
  intros; simp [clearIrq, apply_ite State.ledger]
@[simp] theorem ringLost_ledger : ∀ a0 s, (ringLost a0 s).ledger = s.ledger := by
  intros; simp [ringLost, apply_ite State.ledger]
@[simp] theorem ringCtrlWrite_ledger : ∀ a0 a1 s, (ringCtrlWrite a0 a1 s).ledger = s.ledger := by
  intros; simp [ringCtrlWrite, apply_ite State.ledger]
@[simp] theorem ringBaseWrite_ledger : ∀ a0 a1 a2 s, (ringBaseWrite a0 a1 a2 s).ledger = s.ledger := by
  intros; simp [ringBaseWrite, apply_ite State.ledger]
@[simp] theorem ringRegisterWrite_ledger : ∀ a0 a1 a2 s, (ringRegisterWrite a0 a1 a2 s).ledger = s.ledger := by
  intros; simp [ringRegisterWrite, apply_ite State.ledger]
@[simp] theorem msixWrite_ledger : ∀ a0 a1 a2 s, (msixWrite a0 a1 a2 s).ledger = s.ledger := by
  intro v k w s
  unfold msixWrite
  dsimp only
  split
  · rw [sendVector_ledger]; rfl
  · rfl
@[simp] theorem bar0Write_ledger : ∀ a0 a1 s, (bar0Write a0 a1 s).ledger = s.ledger := by
  intro o v s
  unfold bar0Write
  rw [apply_ite State.ledger, msixWrite_ledger, ite_self]
@[simp] theorem writeRegister_ledger : ∀ a0 a1 s, (writeRegister a0 a1 s).ledger = s.ledger := by
  intros; simp [writeRegister, apply_ite State.ledger]
@[simp] theorem answerRead_ledger : ∀ a0 s, (answerRead a0 s).ledger = s.ledger := by
  intros; rfl
@[simp] theorem readRegister_ledger : ∀ a0 s, (readRegister a0 s).2.ledger = s.ledger := by
  intros; simp [readRegister, apply_ite State.ledger]
@[simp] theorem execSqTailDoorbell_ledger : ∀ a0 a1 s, Keeps s.ledger (execSqTailDoorbell a0 a1 s) := by
  intros; simp [execSqTailDoorbell]
@[simp] theorem execCqHeadDoorbell_ledger : ∀ a0 a1 s, Keeps s.ledger (execCqHeadDoorbell a0 a1 s) := by
  intros; simp [execCqHeadDoorbell]
@[simp] theorem execIrqCauseClear_ledger : ∀ a0 a1 s, Keeps s.ledger (execIrqCauseClear a0 a1 s) := by
  intros; simp [execIrqCauseClear]
@[simp] theorem execRingErrRead_ledger : ∀ s, Keeps s.ledger (execRingErrRead s) := by
  intros; rfl
@[simp] theorem execRingCtrlWrite_ledger : ∀ a0 a1 s, Keeps s.ledger (execRingCtrlWrite a0 a1 s) := by
  intros; simp [execRingCtrlWrite]
@[simp] theorem execRegisterWrite_ledger : ∀ a0 a1 s, Keeps s.ledger (execRegisterWrite a0 a1 s) := by
  intro o v s; unfold execRegisterWrite; split <;> simp
@[simp] theorem execModerationTimerExpiry_ledger : ∀ a0 s, Keeps s.ledger (execModerationTimerExpiry a0 s) := by
  intros; simp [execModerationTimerExpiry, apply_ite State.ledger, apply_ite SideState.floor, apply_ite SideState.security]; (repeat' first | rfl | (apply foldl_ledger; intros) | split) <;> simp_all [apply_ite State.ledger, apply_ite SideState.floor, apply_ite SideState.security]
@[simp] theorem openFetched_ledger : ∀ a0 s, (openFetched a0 s).ledger = s.ledger := by
  intros; simp [openFetched, apply_ite State.ledger, apply_ite SideState.floor, apply_ite SideState.security]; (repeat' first | rfl | (apply foldl_ledger; intros) | split) <;> simp_all [apply_ite State.ledger, apply_ite SideState.floor, apply_ite SideState.security]
@[simp] theorem runSessionOpen_ledger : ∀ a0 s, (runSessionOpen a0 s).Keeps s.ledger := by
  intros; unfold runSessionOpen; (repeat' first | rfl | split) <;> simp_all
@[simp] theorem runSessionClose_ledger : ∀ a0 s, (runSessionClose a0 s).Keeps s.ledger := by
  intros; simp [runSessionClose, apply_ite State.ledger, apply_ite SideState.floor, apply_ite SideState.security]; (repeat' first | rfl | (apply foldl_ledger; intros) | split) <;> simp_all [apply_ite State.ledger, apply_ite SideState.floor, apply_ite SideState.security]
@[simp] theorem runSessionTags_ledger : ∀ a0 s, (runSessionTags a0 s).Keeps s.ledger := by
  intros; rfl
@[simp] theorem fetchPacket_ledger : ∀ a0 a1 a2 s, (fetchPacket a0 a1 a2 s).ledger = s.ledger := by
  intros; simp [fetchPacket, apply_ite State.ledger]
@[simp] theorem execPacketFetch_ledger : ∀ a0 a1 a2 a3 a4 s, Keeps s.ledger (execPacketFetch a0 a1 a2 a3 a4 s) := by
  intros; unfold execPacketFetch; (repeat' first | rfl | split) <;> simp_all
@[simp] theorem serveOpen_ledger : ∀ a0 s, (serveOpen a0 s).ledger = s.ledger := by
  intros; simp [serveOpen, apply_ite State.ledger]
@[simp] theorem execSessionOpen_ledger : ∀ a0 s, Keeps s.ledger (execSessionOpen a0 s) := by
  intros; simp [execSessionOpen]
@[simp] theorem execSessionClose_ledger : ∀ a0 s, Keeps s.ledger (execSessionClose a0 s) := by
  intros; simp [execSessionClose]
@[simp] theorem execSessionTags_ledger : ∀ a0 s, Keeps s.ledger (execSessionTags a0 s) := by
  intros; simp [execSessionTags]
@[simp] theorem execMntWritePacket_ledger : ∀ a0 a1 a2 a3 s, Keeps s.ledger (execMntWritePacket a0 a1 a2 a3 s) := by
  intros; unfold execMntWritePacket; (repeat' first | rfl | split) <;> simp_all
@[simp] theorem mntRefill_ledger : ∀ s, (mntRefill s).ledger = s.ledger := by
  intros; unfold mntRefill; (repeat' first | rfl | split) <;> simp_all
@[simp] theorem execMntReadCompletion_ledger : ∀ a0 s, Keeps s.ledger (execMntReadCompletion a0 s) := by
  intros; unfold execMntReadCompletion; (repeat' first | rfl | split) <;> simp_all
@[simp] theorem execMntReadStatus_ledger : ∀ a0 s, Keeps s.ledger (execMntReadStatus a0 s) := by
  intros; unfold execMntReadStatus; (repeat' split) <;> simp
@[simp] theorem execMntReadRegister_ledger : ∀ a0 a1 s, Keeps s.ledger (execMntReadRegister a0 a1 s) := by
  intros; unfold execMntReadRegister; dsimp only; (repeat' split) <;> simp_all [apply_ite State.ledger]
@[simp] theorem execMntWriteRegister_ledger : ∀ a0 a1 a2 s, Keeps s.ledger (execMntWriteRegister a0 a1 a2 s) := by
  intros; unfold execMntWriteRegister; dsimp only; (repeat' split) <;> simp_all [apply_ite State.ledger]
@[simp] theorem linkLoss_ledger : ∀ s, (linkLoss s).ledger = s.ledger := by
  intros; simp [linkLoss]
@[simp] theorem execPciePerst_ledger : ∀ a0 s, Keeps s.ledger (execPciePerst a0 s) := by
  intros; unfold execPciePerst; (repeat' first | rfl | split) <;> simp_all
@[simp] theorem execPcieLinkLoss_ledger : ∀ s, Keeps s.ledger (execPcieLinkLoss s) := by
  intros; simp [execPcieLinkLoss]
@[simp] theorem execHwAliveIncrement_ledger : ∀ s, Keeps s.ledger (execHwAliveIncrement s) := by
  intros; unfold execHwAliveIncrement; (repeat' first | rfl | split) <;> simp_all
@[simp] theorem runPowerMode_ledger : ∀ a0 s, (runPowerMode a0 s).Keeps s.ledger := by
  intros; simp [runPowerMode, apply_ite State.ledger, apply_ite SideState.floor, apply_ite SideState.security]; (repeat' first | rfl | (apply foldl_ledger; intros) | split) <;> simp_all [apply_ite State.ledger, apply_ite SideState.floor, apply_ite SideState.security]
@[simp] theorem leaveMode_ledger : ∀ s, (leaveMode s).ledger = s.ledger := by
  intro s
  unfold leaveMode
  split
  · rfl
  · split
    · rfl
    · rw [unparkCores_ledger]; rfl
  · rw [timeFen_ledger, leaveFen_ledger]; rfl
@[simp] theorem enterMode_ledger : ∀ a0 s, (enterMode a0 s).ledger = s.ledger := by
  intro m s
  cases m <;> simp [enterMode]
@[simp] theorem changeMode_ledger : ∀ a0 s, (changeMode a0 s).ledger = s.ledger := by
  intro m s
  simp [changeMode]
@[simp] theorem execPowerModeTakesEffect_ledger : ∀ s, Keeps s.ledger (execPowerModeTakesEffect s) := by
  intros; unfold execPowerModeTakesEffect; (repeat' first | rfl | split) <;> simp_all [apply_ite State.ledger, apply_ite SideState.floor, apply_ite SideState.security]
@[simp] theorem runResetSide_ledger : ∀ a0 s, (runResetSide a0 s).Keeps s.ledger := by
  intros; simp [runResetSide, apply_ite State.ledger, apply_ite SideState.floor, apply_ite SideState.security]; (repeat' first | rfl | (apply foldl_ledger; intros) | split) <;> simp_all [apply_ite State.ledger, apply_ite SideState.floor, apply_ite SideState.security]
theorem resetDone_grows (x : SideId) (r : StartRun) (b : Bool) (s : State) : s.ledger.Grows (resetDone x r b s).ledger := by
  unfold resetDone
  dsimp only
  have h : ∀ t : State, (State.modSide t x fun d =>
      { d.afterReset with suspect := d.suspect && !b, passed := d.passed || b,
                          startRec := { d.startRec with result := 0 } }).ledger = t.ledger := by
    intro t; simp [SideState.afterReset]
  rw [h, shutOther_ledger, shutOther_ledger]
  split
  · split
    · exact confirmSide_grows x s
    · exact .of_eq (by simp)
  · exact .refl _
theorem execResetSideDone_grows (b : Bool) (t : Nat) (s : State) : Grows s.ledger (execResetSideDone b t s) := by
  unfold execResetSideDone
  split
  · exact .refl _
  · split
    · exact .refl _
    · rename_i r _ _
      dsimp only
      refine (resetDone_grows s.otherId r b s).trans (.of_eq ?_)
      rw [nextReset_ledger]
      split <;> simp
@[simp] theorem runResetCause_ledger : ∀ a0 s, (runResetCause a0 s).Keeps s.ledger := by
  intros; rfl
@[simp] theorem gpioRead_ledger : ∀ s, (gpioRead s).2.ledger = s.ledger := by
  intros; rfl
@[simp] theorem runPowerGpio_ledger : ∀ a0 s, (runPowerGpio a0 s).Keeps s.ledger := by
  intros; rfl
@[simp] theorem runPowerSense_ledger : ∀ a0 s, (runPowerSense a0 s).Keeps s.ledger := by
  intros; simp [runPowerSense, apply_ite State.ledger]
@[simp] theorem execVinSupplyEvent_ledger : ∀ a0 s, Keeps s.ledger (execVinSupplyEvent a0 s) := by
  intros; unfold execVinSupplyEvent; (repeat' first | rfl | split) <;> simp_all
@[simp] theorem execRailOutOfWindow_ledger : ∀ a0 s, Keeps s.ledger (execRailOutOfWindow a0 s) := by
  intros; simp [execRailOutOfWindow, apply_ite State.ledger, apply_ite SideState.floor, apply_ite SideState.security]; (repeat' first | rfl | (apply foldl_ledger; intros) | split) <;> simp_all [apply_ite State.ledger, apply_ite SideState.floor, apply_ite SideState.security]
@[simp] theorem execJunctionTempThreshold_ledger : ∀ a0 a1 s, Keeps s.ledger (execJunctionTempThreshold a0 a1 s) := by
  intros; simp [execJunctionTempThreshold, apply_ite State.ledger, apply_ite SideState.floor, apply_ite SideState.security]; (repeat' first | rfl | (apply foldl_ledger; intros) | split) <;> simp_all [apply_ite State.ledger, apply_ite SideState.floor, apply_ite SideState.security]
@[simp] theorem brownOutSide_ledger : ∀ a0 a1 s, (brownOutSide a0 a1 s).ledger = s.ledger := by
  intros; simp [brownOutSide]
@[simp] theorem brownOutActive_ledger : ∀ s, (brownOutActive s).ledger = s.ledger := by
  intros; simp [brownOutActive]
@[simp] theorem brownOut_ledger : ∀ a0 a1 s, (brownOut a0 a1 s).ledger = s.ledger := by
  intros; simp [brownOut, apply_ite State.ledger]
@[simp] theorem execBrownOutWarning_ledger : ∀ a0 s, Keeps s.ledger (execBrownOutWarning a0 s) := by
  intros; simp [execBrownOutWarning]
@[simp] theorem execOvervoltageLockout_ledger : ∀ a0 s, Keeps s.ledger (execOvervoltageLockout a0 s) := by
  intros; simp [execOvervoltageLockout]
@[simp] theorem execPowerMode_ledger : ∀ a0 s, Keeps s.ledger (execPowerMode a0 s) := by
  intros; simp [execPowerMode]
@[simp] theorem execResetSide_ledger : ∀ a0 s, Keeps s.ledger (execResetSide a0 s) := by
  intros; simp [execResetSide]
@[simp] theorem execResetCause_ledger : ∀ a0 s, Keeps s.ledger (execResetCause a0 s) := by
  intros; simp [execResetCause]
@[simp] theorem execPowerGpio_ledger : ∀ a0 s, Keeps s.ledger (execPowerGpio a0 s) := by
  intros; simp [execPowerGpio]
@[simp] theorem execPowerSense_ledger : ∀ a0 s, Keeps s.ledger (execPowerSense a0 s) := by
  intros; simp [execPowerSense]
@[simp] theorem tamperRecord_ledger : ∀ a0 a1 a2 a3 a4 a5 s, (tamperRecord a0 a1 a2 a3 a4 a5 s).2.ledger = s.ledger := by
  intros; rfl
theorem zeroise_grows (x : SideId) (st : TamperState) (n : Nat) (t : Int) (v : Nat) (k : Bool) (s : State)
    (h : st.rank = 2) : s.ledger.Grows (zeroise x st n t v k s).ledger := by
  unfold zeroise
  refine (Ledger.Grows.of_eq (tamperRecord_ledger x st n t v k s)).trans ?_
  have e : (tamperRecord x st n t v k s).1.state = st := rfl
  refine State.modSide_grows _ x _ fun d => ⟨Nat.le_refl _, ?_⟩
  show _ ≤ (tamperRecord x st n t v k s).1.state.rank
  rw [e, h]
  exact TamperState.rank_le _
@[simp] theorem markTamper_ledger : ∀ a0 s, (markTamper a0 s).ledger = s.ledger := by
  intros; unfold markTamper; (repeat' first | rfl | split) <;> simp_all [apply_ite State.ledger, apply_ite SideState.floor, apply_ite SideState.security]
@[simp] theorem tamperActive_ledger : ∀ a0 s, (tamperActive a0 s).ledger = s.ledger := by
  intros; simp [tamperActive, apply_ite State.ledger, apply_ite SideState.floor, apply_ite SideState.security]; (repeat' first | rfl | (apply foldl_ledger; intros) | split) <;> simp_all [apply_ite State.ledger, apply_ite SideState.floor, apply_ite SideState.security]
@[simp] theorem tamperByState_ledger : ∀ a0 a1 s, (tamperByState a0 a1 s).ledger = s.ledger := by
  intros; simp [tamperByState, apply_ite State.ledger]
theorem execTamperDetected_grows (x : SideId) (n : Nat) (t : Int) (v : Nat) (k : Bool) (s : State) :
    Grows s.ledger (execTamperDetected x n t v k s) := by
  unfold execTamperDetected
  dsimp only
  split
  · exact .refl _
  · refine (zeroise_grows x .locked (s.trips n) t v
      (k && s.hsw.active == some x && s.keyCommand.isSome) s rfl).trans (.of_eq ?_)
    simp
@[simp] theorem reportTamper_ledger : ∀ a0 s, (reportTamper a0 s).ledger = s.ledger := by
  intros; simp [reportTamper, apply_ite State.ledger]
@[simp] theorem execTamperReport_ledger : ∀ s, Keeps s.ledger (execTamperReport s) := by
  intros; unfold execTamperReport; (repeat' first | rfl | split) <;> simp_all
@[simp] theorem execKeyFault_ledger : ∀ a0 a1 s, Keeps s.ledger (execKeyFault a0 a1 s) := by
  intros; simp [execKeyFault, apply_ite State.ledger, apply_ite SideState.floor, apply_ite SideState.security]; (repeat' first | rfl | (apply foldl_ledger; intros) | split) <;> simp_all [apply_ite State.ledger, apply_ite SideState.floor, apply_ite SideState.security]
@[simp] theorem runSecAttest_ledger : ∀ a0 s, (runSecAttest a0 s).Keeps s.ledger := by
  intros; unfold runSecAttest; (repeat' first | rfl | split) <;> simp_all
@[simp] theorem runSecCert_ledger : ∀ a0 s, (runSecCert a0 s).Keeps s.ledger := by
  intros; rfl
theorem acceptCounter_grows (n : Nat) (s : State) (h : s.hsw.nv.importCtr ≤ n) : s.ledger.Grows (acceptCounter n s).ledger :=
  ⟨rfl, Nat.le_refl _, h, Nat.le_refl _, Nat.le_refl _, Nat.le_refl _, Nat.le_refl _, .inl rfl⟩
@[simp] theorem importSite_ledger : ∀ a0 a1 a2 s, (importSite a0 a1 a2 s).ledger = s.ledger := by
  intros; simp [importSite, apply_ite State.ledger]
theorem runSecKeyImport_grows (c : HostCmd) (s : State) : (runSecKeyImport c s).Grows s.ledger := by
  unfold runSecKeyImport
  dsimp only
  split
  · trivial
  · split
    · trivial
    · split
      · trivial
      · rename_i h
        have ha := acceptCounter_grows (fld c.packet.params 4 4) s (by omega)
        repeat' first
          | trivial
          | exact ha.eqR (by simp)
          | split
@[simp] theorem runSecStatus_ledger : ∀ a0 s, (runSecStatus a0 s).Keeps s.ledger := by
  intros; rfl
theorem unlockDebug_grows (c : HostCmd) (s : State) : s.ledger.Grows (unlockDebug c s).ledger := by
  have h : (finish c 0 0 [] s).draw.2.ledger = s.ledger := by simp
  unfold unlockDebug
  dsimp only
  refine ((Ledger.Grows.of_eq h).trans (zeroise_grows s.actId .debug 0 (signed 16 (Config.sense 12 (finish c 0 0 [] s).draw.1 % 65536))
    (Config.sense 2 (finish c 0 0 [] s).draw.1) false _ rfl)).trans (.of_eq ?_)
  rw [State.modSide_ledger, relinquish_ledger]
  exact fun d => ⟨rfl, rfl⟩
theorem runSecDebugUnlock_grows (c : HostCmd) (s : State) : (runSecDebugUnlock c s).Grows s.ledger := by
  unfold runSecDebugUnlock
  dsimp only
  repeat' first
    | trivial
    | exact unlockDebug_grows _ _
    | exact Ledger.Grows.of_eq (by simp [State.draw])
    | split
@[simp] theorem execDebugChallengeExpiry_ledger : ∀ s, Keeps s.ledger (execDebugChallengeExpiry s) := by
  intros; rfl
@[simp] theorem execSecAttest_ledger : ∀ a0 s, Keeps s.ledger (execSecAttest a0 s) := by
  intros; simp [execSecAttest]
@[simp] theorem execSecCert_ledger : ∀ a0 s, Keeps s.ledger (execSecCert a0 s) := by
  intros; simp [execSecCert]
theorem execSecKeyImport_grows (p : Packet) (s : State) : Grows s.ledger (execSecKeyImport p s) :=
  serve_grows _ _ _ _ runSecKeyImport_grows
@[simp] theorem execSecStatus_ledger : ∀ a0 s, Keeps s.ledger (execSecStatus a0 s) := by
  intros; simp [execSecStatus]
theorem execSecDebugUnlock_grows (p : Packet) (s : State) : Grows s.ledger (execSecDebugUnlock p s) :=
  serve_grows _ _ _ _ runSecDebugUnlock_grows
@[simp] theorem State.modStaging_ledger : ∀ s a1, (State.modStaging s a1).ledger = s.ledger := by
  intros; simp [State.modStaging]
@[simp] theorem underLock_ledger (run : HostCmd → State → CmdResult) (c : HostCmd) (s : State)
    (h : ∀ c s, (run c s).Keeps s.ledger) : (underLock run c s).Keeps s.ledger := by
  unfold underLock
  split <;> simp [h]
@[simp] theorem setLock_ledger : ∀ a0 s, (setLock a0 s).ledger = s.ledger := by
  intros; simp [setLock]
@[simp] theorem execUpdateLockExpiry_ledger : ∀ s, Keeps s.ledger (execUpdateLockExpiry s) := by
  intros; unfold execUpdateLockExpiry; (repeat' first | rfl | split) <;> simp_all
@[simp] theorem resumePackage_ledger : ∀ s, (resumePackage s).Keeps s.ledger := by
  intros; unfold resumePackage; (repeat' first | rfl | split) <;> simp_all
@[simp] theorem newPackage_ledger : ∀ a0 a1 s, (newPackage a0 a1 s).Keeps s.ledger := by
  intros; simp [newPackage, apply_ite State.ledger, apply_ite SideState.floor, apply_ite SideState.security]; (repeat' first | rfl | (apply foldl_ledger; intros) | split) <;> simp_all [apply_ite State.ledger, apply_ite SideState.floor, apply_ite SideState.security]
@[simp] theorem updateBegin_ledger : ∀ a0 s, (updateBegin a0 s).Keeps s.ledger := by
  intros; unfold updateBegin; (repeat' first | rfl | split) <;> simp_all
@[simp] theorem runUpdateBegin_ledger : ∀ a0 s, (runUpdateBegin a0 s).Keeps s.ledger := by
  intros; simp [runUpdateBegin]
@[simp] theorem updateChunk_ledger : ∀ a0 s, (updateChunk a0 s).Keeps s.ledger := by
  intros; simp [updateChunk, apply_ite State.ledger, apply_ite SideState.floor, apply_ite SideState.security]; (repeat' first | rfl | (apply foldl_ledger; intros) | split) <;> simp_all [apply_ite State.ledger, apply_ite SideState.floor, apply_ite SideState.security]
@[simp] theorem runUpdateChunk_ledger : ∀ a0 s, (runUpdateChunk a0 s).Keeps s.ledger := by
  intros; simp [runUpdateChunk]
@[simp] theorem updateEnd_ledger : ∀ a0 s, (updateEnd a0 s).Keeps s.ledger := by
  intros; unfold updateEnd; (repeat' first | rfl | split) <;> simp_all
@[simp] theorem runUpdateEnd_ledger : ∀ a0 s, (runUpdateEnd a0 s).Keeps s.ledger := by
  intros; simp [runUpdateEnd]
@[simp] theorem modSwitchFw_ledger : ∀ a0 s, (modSwitchFw a0 s).ledger = s.ledger := by
  intros; rfl
@[simp] theorem setTarget_ledger : ∀ a0 a1 s, (setTarget a0 a1 s).ledger = s.ledger := by
  intros; simp [setTarget, apply_ite State.ledger]
@[simp] theorem beginApply_ledger : ∀ s, (beginApply s).ledger = s.ledger := by
  intros; simp [beginApply]
@[simp] theorem updateApply_ledger : ∀ a0 s, (updateApply a0 s).Keeps s.ledger := by
  intros; simp [updateApply, apply_ite State.ledger, apply_ite SideState.floor, apply_ite SideState.security]; (repeat' first | rfl | (apply foldl_ledger; intros) | split) <;> simp_all [apply_ite State.ledger, apply_ite SideState.floor, apply_ite SideState.security]
@[simp] theorem runUpdateApply_ledger : ∀ a0 s, (runUpdateApply a0 s).Keeps s.ledger := by
  intros; simp [runUpdateApply]
@[simp] theorem applyPart_ledger : ∀ a0 a1 a2 s, (applyPart a0 a1 a2 s).ledger = s.ledger := by
  intros; unfold applyPart; (repeat' first | rfl | split) <;> simp_all
@[simp] theorem applyAll_ledger : ∀ a0 s, (applyAll a0 s).ledger = s.ledger := by
  intros; simp [applyAll]
@[simp] theorem execUpdateApplyComplete_ledger : ∀ s, Keeps s.ledger (execUpdateApplyComplete s) := by
  intros; unfold execUpdateApplyComplete; (repeat' first | rfl | split) <;> simp_all
@[simp] theorem activated_ledger : ∀ a0 s, (activated a0 s).ledger = s.ledger := by
  intros; simp [activated]
@[simp] theorem trainLink_ledger : ∀ a0 s, (trainLink a0 s).2.ledger = s.ledger := by
  intro k s
  unfold trainLink
  split <;> rename_i e <;> replace e := pair_ledger e
  · simp_all
  · simp only [State.draw]
    generalize hx : tuneLanes k _ = x
    obtain ⟨b, t⟩ := x
    replace hx := pair_ledger hx
    split <;> simp_all
@[simp] theorem trainLinks_ledger : ∀ a0 s, (trainLinks a0 s).2.ledger = s.ledger
  | [], _ => rfl
  | k :: t, s => by
    have h := trainLink_ledger k s
    unfold trainLinks
    split <;> rename_i e <;> rw [e] at h <;> simp_all [trainLinks_ledger t]
@[simp] theorem setHeads_ledger : ∀ a0 a1 a2 s, (setHeads a0 a1 a2 s).ledger = s.ledger := by
  intros; rfl
@[simp] theorem shutLinks_ledger : ∀ a0 s, (shutLinks a0 s).ledger = s.ledger := by
  intros; simp [shutLinks]
@[simp] theorem restoreHeads_ledger : ∀ a0 a1 s, (restoreHeads a0 a1 s).ledger = s.ledger := by
  intros; unfold restoreHeads; (try dsimp only); (repeat' first | rfl | (apply foldl_ledger; intros) | (split <;> try (rename_i h; (first | (replace h := pair_ledger h) | (replace h := triple_ledger h) | (replace h := commitPacket_ledger _ _ _ _ _ _ _ h) | (replace h := takePacket_ledger _ _ _ h) | (replace h := queueFrame_ledger _ _ _ _ _ h) | (replace h := deliver_ledger _ _ _ _ _ _ _ h) | (replace h := fedAccept_ledger _ _ _ h))))) <;> simp_all [apply_ite State.ledger, apply_ite SideState.floor, apply_ite SideState.security]
@[simp] theorem activateHeads_ledger : ∀ a0 a1 s, (activateHeads a0 a1 s).Keeps s.ledger := by
  intros; unfold activateHeads; (try dsimp only); (repeat' first | rfl | (apply foldl_ledger; intros) | (split <;> try (rename_i h; (first | (replace h := pair_ledger h) | (replace h := triple_ledger h) | (replace h := commitPacket_ledger _ _ _ _ _ _ _ h) | (replace h := takePacket_ledger _ _ _ h) | (replace h := queueFrame_ledger _ _ _ _ _ h) | (replace h := deliver_ledger _ _ _ _ _ _ _ h) | (replace h := fedAccept_ledger _ _ _ h))))) <;> simp_all [apply_ite State.ledger, apply_ite SideState.floor, apply_ite SideState.security]
@[simp] theorem activateSide_ledger : ∀ a0 s, (activateSide a0 s).Keeps s.ledger := by
  intros; simp [activateSide]
@[simp] theorem activateSwitch_ledger : ∀ s, (activateSwitch s).Keeps s.ledger := by
  intros; simp [activateSwitch]
@[simp] theorem updateActivate_ledger : ∀ a0 s, (updateActivate a0 s).Keeps s.ledger := by
  intros; simp [updateActivate, apply_ite State.ledger, apply_ite SideState.floor, apply_ite SideState.security]; (repeat' first | rfl | (apply foldl_ledger; intros) | split) <;> simp_all [apply_ite State.ledger, apply_ite SideState.floor, apply_ite SideState.security]
@[simp] theorem runUpdateActivate_ledger : ∀ a0 s, (runUpdateActivate a0 s).Keeps s.ledger := by
  intros; simp [runUpdateActivate]
@[simp] theorem runUpdateStatus_ledger : ∀ a0 s, (runUpdateStatus a0 s).Keeps s.ledger := by
  intros; rfl
@[simp] theorem runUpdateStore_ledger : ∀ a0 s, (runUpdateStore a0 s).Keeps s.ledger := by
  intros; simp [runUpdateStore, apply_ite State.ledger, apply_ite SideState.floor, apply_ite SideState.security]; (repeat' first | rfl | (apply foldl_ledger; intros) | split) <;> simp_all [apply_ite State.ledger, apply_ite SideState.floor, apply_ite SideState.security]
@[simp] theorem execConfirmationWindowExpiry_ledger : ∀ s, Keeps s.ledger (execConfirmationWindowExpiry s) := by
  intros; simp [execConfirmationWindowExpiry, apply_ite State.ledger, apply_ite SideState.floor, apply_ite SideState.security]; (repeat' first | rfl | (apply foldl_ledger; intros) | split) <;> simp_all [apply_ite State.ledger, apply_ite SideState.floor, apply_ite SideState.security]
@[simp] theorem execHostSwitchRestart_ledger : ∀ s, Keeps s.ledger (execHostSwitchRestart s) := by
  intros; unfold execHostSwitchRestart; (repeat' first | rfl | split) <;> simp_all [apply_ite State.ledger, apply_ite SideState.floor, apply_ite SideState.security]
@[simp] theorem execUpdateBegin_ledger : ∀ a0 s, Keeps s.ledger (execUpdateBegin a0 s) := by
  intros; simp [execUpdateBegin]
@[simp] theorem execUpdateChunk_ledger : ∀ a0 s, Keeps s.ledger (execUpdateChunk a0 s) := by
  intros; simp [execUpdateChunk]
@[simp] theorem execUpdateApply_ledger : ∀ a0 s, Keeps s.ledger (execUpdateApply a0 s) := by
  intros; simp [execUpdateApply]
@[simp] theorem execUpdateActivate_ledger : ∀ a0 s, Keeps s.ledger (execUpdateActivate a0 s) := by
  intros; simp [execUpdateActivate]
@[simp] theorem execUpdateEnd_ledger : ∀ a0 s, Keeps s.ledger (execUpdateEnd a0 s) := by
  intros; simp [execUpdateEnd]
@[simp] theorem execUpdateStatus_ledger : ∀ a0 s, Keeps s.ledger (execUpdateStatus a0 s) := by
  intros; simp [execUpdateStatus]
@[simp] theorem execUpdateStore_ledger : ∀ a0 s, Keeps s.ledger (execUpdateStore a0 s) := by
  intros; simp [execUpdateStore]
theorem opcodeRuns_grow : ∀ e ∈ opcodeRuns, ∀ c s, (e.2 c s).Grows s.ledger := by
  have h : opcodeRuns.Forall fun e => ∀ c s, (e.2 c s).Grows s.ledger := by
    simp only [opcodeRuns, List.cons_append, List.nil_append, List.Forall]
    exact ⟨fun c s => (runSessionOpen_ledger c s).grows,
      fun c s => (runSessionClose_ledger c s).grows,
      fun c s => (runSessionTags_ledger c s).grows,
      fun c s => (runGnssConfig_ledger c s).grows,
      fun c s => (runGnssChannelSet_ledger c s).grows,
      fun c s => (runGnssChannelRead_ledger c s).grows,
      fun c s => (runGnssNotch_ledger c s).grows,
      fun c s => (runGnssMonitor_ledger c s).grows,
      fun c s => (runGnssMpmap_ledger c s).grows,
      fun c s => (runGnssStatus_ledger c s).grows,
      fun c s => (runCorrBase_ledger c s).grows,
      fun c s => (runCorrStream_ledger c s).grows,
      fun c s => (runCorrDescriptor_ledger c s).grows,
      fun c s => (runCorrWatchdog_ledger c s).grows,
      fun c s => (runCorrStatus_ledger c s).grows,
      fun c s => (runCorrInject_ledger c s).grows,
      fun c s => (runSolverConfig_ledger c s).grows,
      fun c s => (runSolverMember_ledger c s).grows,
      fun c s => (runSolverRead_ledger c s).grows,
      fun c s => (runSolverStatus_ledger c s).grows,
      fun c s => (runSolverReset_ledger c s).grows,
      fun c s => (runSolverIntegrity_ledger c s).grows,
      fun c s => (runTimeConfig_ledger c s).grows,
      fun c s => (runTimePtpConfig_ledger c s).grows,
      fun c s => (runTimeLeap_ledger c s).grows,
      fun c s => (runTimeStatus_ledger c s).grows,
      fun c s => (runTimeRead_ledger c s).grows,
      fun c s => (runRadioLinkConfig_ledger c s).grows,
      fun c s => (runRadioHeadProfile_ledger c s).grows,
      fun c s => (runRadioLaneConfig_ledger c s).grows,
      fun c s => (runRadioRegionLoad_ledger c s).grows,
      fun c s => (runRadioTxCal_ledger c s).grows,
      fun c s => (runRadioBudget_ledger c s).grows,
      fun c s => (runRadioLaneStatus_ledger c s).grows,
      fun c s => (runMacConfig_ledger c s).grows,
      fun c s => (runMacLaneMac_ledger c s).grows,
      fun c s => (runMacProvision_ledger c s).grows,
      fun c s => (runMacConnParam_ledger c s).grows,
      fun c s => (runMacDrop_ledger c s).grows,
      fun c s => (runMacMemberRead_ledger c s).grows,
      fun c s => (runMacStatus_ledger c s).grows,
      fun c s => (runMacSend_ledger c s).grows,
      fun c s => (runSluiceConfig_ledger c s).grows,
      fun c s => (runSluiceGrant_ledger c s).grows,
      fun c s => (runSluiceStop_ledger c s).grows,
      fun c s => (runSluiceRelease_ledger c s).grows,
      fun c s => (runSluiceStatus_ledger c s).grows,
      fun c s => (runDykeConfig_ledger c s).grows,
      fun c s => (runDykeClass_ledger c s).grows,
      fun c s => (runDykeMember_ledger c s).grows,
      fun c s => (runDykeGraphEdit_ledger c s).grows,
      fun c s => (runDykeSwap_ledger c s).grows,
      fun c s => (runDykeReserve_ledger c s).grows,
      fun c s => (runDykeRelease_ledger c s).grows,
      fun c s => (runDykeRead_ledger c s).grows,
      fun c s => (runDykeStatus_ledger c s).grows,
      fun c s => (runTaskQueue_ledger c s).grows,
      fun c s => (runTaskAccept_ledger c s).grows,
      fun c s => (runTaskCancel_ledger c s).grows,
      fun c s => (runProfileConfig_ledger c s).grows,
      fun c s => (runProfileMember_ledger c s).grows,
      fun c s => (runProfileRetarget_ledger c s).grows,
      fun c s => (runProfileRead_ledger c s).grows,
      fun c s => (runSchedConfig_ledger c s).grows,
      fun c s => (runSchedCore_ledger c s).grows,
      fun c s => (runSchedStatus_ledger c s).grows,
      fun c s => (runSchedHist_ledger c s).grows,
      fun c s => (runSchedFlowRead_ledger c s).grows,
      fun c s => (runSchedItemRead_ledger c s).grows,
      fun c s => (runQueueConfig_ledger c s).grows,
      fun c s => (runQueuePool_ledger c s).grows,
      fun c s => (runQueueStatus_ledger c s).grows,
      fun c s => (runQueueRead_ledger c s).grows,
      fun c s => (runQueueMbxRead_ledger c s).grows,
      fun c s => (runCapturePort_ledger c s).grows,
      fun c s => (runCaptureArm_ledger c s).grows,
      fun c s => (runCaptureTrigger_ledger c s).grows,
      fun c s => (runCaptureSyncConfig_ledger c s).grows,
      fun c s => (runCaptureSyncCal_ledger c s).grows,
      fun c s => (runCaptureStatus_ledger c s).grows,
      fun c s => (runFedConfig_ledger c s).grows,
      fun c s => (runFedPort_ledger c s).grows,
      fun c s => (runFedPeer_ledger c s).grows,
      fun c s => (runFedHandover_ledger c s).grows,
      fun c s => (runFedSiteStop_ledger c s).grows,
      fun c s => (runFedStatus_ledger c s).grows,
      fun c s => (runRedunConfig_ledger c s).grows,
      fun c s => (runRedunHandover_ledger c s).grows,
      fun c s => (runRedunCheckpoint_ledger c s).grows,
      fun c s => (runRedunStatus_ledger c s).grows,
      fun c s => (runRedunSideRead_ledger c s).grows,
      fun c s => (runSecAttest_ledger c s).grows,
      fun c s => (runSecCert_ledger c s).grows,
      runSecKeyImport_grows,
      fun c s => (runSecStatus_ledger c s).grows,
      runSecDebugUnlock_grows,
      fun c s => (runUpdateBegin_ledger c s).grows,
      fun c s => (runUpdateChunk_ledger c s).grows,
      fun c s => (runUpdateApply_ledger c s).grows,
      fun c s => (runUpdateActivate_ledger c s).grows,
      fun c s => (runUpdateEnd_ledger c s).grows,
      fun c s => (runUpdateStatus_ledger c s).grows,
      fun c s => (runUpdateStore_ledger c s).grows,
      fun c s => (runRecordRead_ledger c s).grows,
      fun c s => (runRecordStatus_ledger c s).grows,
      fun c s => (runRecordConfig_ledger c s).grows,
      fun c s => (runRecordMark_ledger c s).grows,
      fun c s => (runCounterSelect_ledger c s).grows,
      fun c s => (runCounterControl_ledger c s).grows,
      fun c s => (runCounterRead_ledger c s).grows,
      fun c s => (runResetSide_ledger c s).grows,
      fun c s => (runResetCause_ledger c s).grows,
      fun c s => (runPowerMode_ledger c s).grows,
      fun c s => (runPowerSense_ledger c s).grows,
      fun c s => (runPowerGpio_ledger c s).grows⟩
  exact List.forall_iff_forall_mem.mp h

theorem runOpcode_grows (c : HostCmd) (s : State) : (runOpcode c s).Grows s.ledger := by
  unfold runOpcode
  split
  · rename_i e
    exact opcodeRuns_grow _ (List.mem_of_find?_eq_some e) c s
  · trivial
theorem execCommandStart_grows (n : Nat) (s : State) : Grows s.ledger (execCommandStart n s) := by
  unfold execCommandStart
  split
  · exact startCmd_grows _ _ _ runOpcode_grows
  · split
    · exact Ledger.Grows.of_eq (by simp)
    · exact Ledger.Grows.refl _
@[simp] theorem refuseUnbound_ledger : ∀ a0 a1 s, (refuseUnbound a0 a1 s).ledger = s.ledger := by
  intros; simp [refuseUnbound]
@[simp] theorem ucpWork_ledger : ∀ a0 a1 a2 s, (ucpWork a0 a1 a2 s).ledger = s.ledger := by
  intros; unfold ucpWork; (repeat' split) <;> simp
@[simp] theorem syncWork_ledger : ∀ a0 s, (syncWork a0 s).ledger = s.ledger := by
  intros; unfold syncWork; (repeat' split) <;> simp
@[simp] theorem joinWork_ledger : ∀ a0 s, (joinWork a0 s).ledger = s.ledger := by
  intros; unfold joinWork; (repeat' split) <;> simp
@[simp] theorem eventWork_ledger : ∀ a0 s, (eventWork a0 s).ledger = s.ledger := by
  intros; unfold eventWork; (repeat' split) <;> simp
theorem itemWork_grows (i : WorkItem) (s : State) : s.ledger.Grows (itemWork i s).ledger := by
  unfold itemWork
  dsimp only
  split
  · exact .refl _
  · split
    · exact .of_eq (by simp)
    · exact .of_eq (by simp)
    · split
      · exact (Ledger.Grows.of_eq (actedOn_ledger i s)).trans (runStarted_grows _ _ _ runOpcode_grows)
      · exact .of_eq (by simp)
    · exact .of_eq (by simp)
theorem execWorkItemDone_grows (n : Nat) (s : State) : Grows s.ledger (execWorkItemDone n s) := by
  unfold execWorkItemDone
  dsimp only
  refine Ledger.Grows.trans (b := State.ledger (match (s.flow _).items.find? _ with
    | some i => itemWork i s
    | none => s)) ?_ ((Ledger.Grows.of_eq (coreDone_ledger _ _)).trans (bistGo_grows _ _))
  split
  · exact itemWork_grows _ _
  · exact .refl _
@[simp] theorem execFedUcpReceived_ledger : ∀ a0 a1 a2 s, Keeps s.ledger (execFedUcpReceived a0 a1 a2 s) := by
  intros; unfold execFedUcpReceived; dsimp only; (repeat' split) <;> simp_all [apply_ite State.ledger, apply_ite SideState.floor, apply_ite SideState.security]
@[simp] theorem State.withFetchWord_ledger : ∀ s a1 a2, (State.withFetchWord s a1 a2).ledger = s.ledger := by
  intros; rfl
end Sys2Proof.Machine
end

