-- ==== Sys2Proof/Laws/Path.lean ====
section
/-! SUPPORT.
The path of a command: what posting, counting, queueing and serving leave alone, and what serving a packet comes to.
-/

namespace Sys2Proof.Machine

/-! ### What a state keeps off the path -/

theorem offPath_ctl {s t : State} (h : t.offPath = s.offPath) : t.ctl = s.ctl := by
  show t.offPath.ctl = s.offPath.ctl; rw [h]

theorem offPath_clock {s t : State} (h : t.offPath = s.offPath) : t.clock = s.clock := by
  show t.offPath.clock = s.offPath.clock; rw [h]

theorem offPath_active {s t : State} (h : t.offPath = s.offPath) : t.hsw.active = s.hsw.active := by
  show t.offPath.hsw.active = s.offPath.hsw.active; rw [h]

theorem offPath_last {s t : State} (h : t.offPath = s.offPath) : t.hsw.last = s.hsw.last := by
  show t.offPath.hsw.last = s.offPath.hsw.last; rw [h]

theorem offPath_epoch {s t : State} (h : t.offPath = s.offPath) : t.hsw.epoch = s.hsw.epoch := by
  show t.offPath.hsw.epoch = s.offPath.hsw.epoch; rw [h]

theorem offPath_startRec {s t : State} (h : t.offPath = s.offPath) (x : SideId) :
    (t.side x).startRec = (s.side x).startRec := by
  cases x
  · show t.offPath.sideA.startRec = s.offPath.sideA.startRec; rw [h]
  · show t.offPath.sideB.startRec = s.offPath.sideB.startRec; rw [h]

theorem foldl_offPath {α : Type} (f : State → α → State) (h : ∀ s a, (f s a).offPath = s.offPath) (l : List α)
    (s : State) : (l.foldl f s).offPath = s.offPath := by
  induction l generalizing s with
  | nil => rfl
  | cons a t ih => rw [List.foldl_cons, ih, h]

@[simp] theorem draw_offPath (s : State) : s.draw.2.offPath = s.offPath := rfl

@[simp] theorem modSess_offPath (n : Nat) (f : Session → Session) (s : State) : (s.modSess n f).offPath = s.offPath := rfl

@[simp] theorem modRing_offPath (n : Nat) (f : RingSet → RingSet) (s : State) : (s.modRing n f).offPath = s.offPath := by
  unfold State.modRing; split <;> rfl

@[simp] theorem modQueue_offPath (q : Nat) (f : PeatQueue → PeatQueue) (s : State) :
    (s.modQueue q f).offPath = s.offPath := rfl

@[simp] theorem modFlow_offPath (k : Nat) (f : Flow → Flow) (s : State) : (s.modFlow k f).offPath = s.offPath := rfl

@[simp] theorem modPrio_offPath (k : Nat) (f : PrioCount → PrioCount) (s : State) : (s.modPrio k f).offPath = s.offPath := rfl

@[simp] theorem sendVector_offPath (v : Nat) (s : State) : (sendVector v s).offPath = s.offPath := by
  unfold sendVector; repeat' split
  all_goals rfl

@[simp] theorem raiseIrq_offPath (k : Nat) (s : State) : (raiseIrq k s).offPath = s.offPath := by
  unfold raiseIrq; dsimp only; split
  · rw [sendVector_offPath]; rfl
  · rfl

@[simp] theorem ringError_offPath (c n : Nat) (s : State) : (ringError c n s).offPath = s.offPath := by
  unfold ringError; rw [raiseIrq_offPath]; rfl

/-- What a vector signal can change. -/
theorem sendVector_eq (v : Nat) (s : State) : ∃ p o, sendVector v s = { s with hsw.msixPba := p, out.msix := o } := by
  unfold sendVector
  repeat' split
  all_goals exact ⟨_, _, rfl⟩

/-- What raising an interrupt can change. -/
theorem raiseIrq_eq (k : Nat) (s : State) :
    ∃ i p o, raiseIrq k s = { s with hsw.irqCause := i, hsw.msixPba := p, out.msix := o } := by
  unfold raiseIrq; dsimp only; split
  · obtain ⟨p, o, h⟩ := sendVector_eq _ _
    exact ⟨_, _, _, h⟩
  · exact ⟨_, _, _, rfl⟩

/-- Field by field or whole, the choice is the same. -/
theorem ringErrorIf_eq (bad : Bool) (c n : Nat) (s : State) :
    ringErrorIf bad c n s = if bad then ringError c n s else s := by
  cases bad
  · rfl
  · obtain ⟨i, p, o, h⟩ := raiseIrq_eq irqRingErr { s with
      hsw := { s.hsw with
        ringErrCode := if s.hsw.ringErrCode = 0 then c else s.hsw.ringErrCode
        ringErrSet := if s.hsw.ringErrCode = 0 then n else s.hsw.ringErrSet
        ringErrCount := satInc 16 s.hsw.ringErrCount } }
    have e : ringError c n s = _ := h
    unfold ringErrorIf
    rw [e]; rfl

@[simp] theorem cqWriteEnds_offPath (n : Nat) (s : State) : (cqWriteEnds n s).offPath = s.offPath := by
  unfold cqWriteEnds ringErrorIf; rfl

@[simp] theorem cqWrites_offPath (l : List (Nat × Entry)) (s : State) : ({ s with out.cqWrites := l } : State).offPath = s.offPath := rfl

@[simp] theorem sqReads_offPath (l : List Nat) (s : State) : ({ s with out.sqReads := l } : State).offPath = s.offPath := rfl

@[simp] theorem ringWrite_offPath (n : Nat) (h : HeldEntry) (s : State) : (ringWrite n h s).offPath = s.offPath := by
  unfold ringWrite; dsimp only; split <;> simp

@[simp] theorem ringPost_offPath (n : Nat) (h : HeldEntry) (s : State) : (ringPost n h s).offPath = s.offPath := by
  unfold ringPost; dsimp only; repeat' split
  all_goals simp

@[simp] theorem mntPost_offPath (h : HeldEntry) (s : State) : (mntPost h s).offPath = s.offPath := by
  unfold mntPost; dsimp only; repeat' split
  · rw [raiseIrq_offPath]; rfl
  all_goals rfl

@[simp] theorem fedSendAs_offPath (a : Bool) (p t x : Nat) (b : List Byte) (s : State) :
    (fedSendAs a p t x b s).offPath = s.offPath := by
  unfold fedSendAs; repeat' split
  all_goals rfl

@[simp] theorem sitePost_offPath (n : Nat) (h : HeldEntry) (s : State) : (sitePost n h s).offPath = s.offPath := by
  unfold sitePost fedSend; dsimp only; split <;> simp

@[simp] theorem postOn_offPath (v : Transport) (h : HeldEntry) (s : State) : (postOn v h s).offPath = s.offPath := by
  cases v <;> simp [postOn]

@[simp] theorem sendUncounted_offPath (op : Nat) (d : List Byte) (s : State) : (sendUncounted op d s).offPath = s.offPath := by
  unfold sendUncounted; split <;> simp

@[simp] theorem countEvents_offPath (k : Nat) (q : Option Nat) (n : Nat) (s : State) :
    (countEvents k q n s).offPath = s.offPath := by
  unfold countEvents; split
  · rfl
  · exact (foldl_offPath _ (fun _ _ => sendUncounted_offPath _ _ _) _ _).trans rfl

@[simp] theorem post_offPath (v : Transport) (h : HeldEntry) (s : State) : (post v h s).offPath = s.offPath := by simp [post]

@[simp] theorem sendMsg_offPath (op : Nat) (d : List Byte) (s : State) : (sendMsg op d s).offPath = s.offPath := by
  unfold sendMsg; split <;> simp

@[simp] theorem recordOn_offPath (x : SideId) (c k : Nat) (d : List Byte) (s : State) :
    (recordOn x c k d s).offPath = s.offPath := by
  cases x <;> (unfold recordOn State.modSide; dsimp only; split <;> rfl)

@[simp] theorem record_offPath (c k : Nat) (d : List Byte) (s : State) : (record c k d s).offPath = s.offPath := by
  simp [record]

@[simp] theorem poolEvent_offPath (k q : Nat) (s : State) : (poolEvent k q s).offPath = s.offPath := by simp [poolEvent]

@[simp] theorem peat_offPath (x : PeatRun) (s : State) : ({ s with vol.peat := x } : State).offPath = s.offPath := rfl

@[simp] theorem watermarks_offPath (s : State) : (watermarks s).offPath = s.offPath := by
  unfold watermarks; dsimp only; repeat' split
  all_goals simp

theorem mailboxSignal_offPath (m : Nat) (s : State) : (mailboxSignal m s).offPath = s.offPath := by
  unfold mailboxSignal; dsimp only; split
  · rw [sendVector_offPath]; rfl
  · rfl

@[simp] theorem linkChain_offPath (l : List Nat) (s : State) : (linkChain l s).offPath = s.offPath := by
  induction l generalizing s with
  | nil => rfl
  | cons k t ih => rw [linkChain, ih]; rfl

@[simp] theorem unlink_offPath (p : PeatPacket) (s : State) : (unlink p s).offPath = s.offPath := rfl

@[simp] theorem drawCells_offPath (n : Nat) (s : State) : (drawCells n s).2.offPath = s.offPath := rfl

theorem reservePacket_offPath {q m : Nat} {s t : State} {c : Nat} (h : reservePacket q m s = some (c, t)) :
    t.offPath = s.offPath := by
  unfold reservePacket at h
  split at h
  · cases h; simp; rfl
  · cases h

@[simp] theorem commitReserved_offPath (q k kind n : Nat) (d : List Byte) (s : State) :
    (commitReserved q k kind n d s).offPath = s.offPath := by
  unfold commitReserved; dsimp only; repeat' split
  all_goals simp [endReservation, mailboxSignal_offPath]

theorem commitPacket_offPath {q m k n : Nat} {d : List Byte} {s t : State} {c : Nat}
    (h : commitPacket q m k n d s = some (c, t)) : t.offPath = s.offPath := by
  unfold commitPacket at h
  split at h
  · next hr => cases h; simp [reservePacket_offPath hr]
  · cases h

@[simp] theorem cellsRead_offPath (q : Nat) (s : State) : (cellsRead q s).offPath = s.offPath := by
  unfold cellsRead; simp only [countEvents_offPath]; rfl

@[simp] theorem freeByCell_offPath (q c : Nat) (s : State) : (freeByCell q c s).offPath = s.offPath := by
  unfold freeByCell; dsimp only; split <;> simp

@[simp] theorem enqueue_offPath (i : WorkItem) (s : State) : (enqueue i s).offPath = s.offPath := by
  unfold enqueue; dsimp only; simp only [modPrio_offPath, modFlow_offPath]; rfl

@[simp] theorem countWait_offPath (i : WorkItem) (s : State) : (countWait i s).offPath = s.offPath := by simp [countWait]

@[simp] theorem freeFlow_offPath (f : Nat) (s : State) : (freeFlow f s).offPath = s.offPath := by
  unfold freeFlow; split <;> simp

@[simp] theorem freePacket_offPath (i : WorkItem) (s : State) : (freePacket i s).offPath = s.offPath := by
  unfold freePacket; split <;> simp

@[simp] theorem packetRead_offPath (i : WorkItem) (s : State) : (packetRead i s).offPath = s.offPath := by
  unfold packetRead; split <;> simp

@[simp] theorem itemDone_offPath (i : WorkItem) (s : State) : (itemDone i s).offPath = s.offPath := by simp [itemDone]

@[simp] theorem takeSlot_offPath (v : Transport) (s : State) : (takeSlot v s).offPath = s.offPath := by
  unfold takeSlot; split <;> simp

@[simp] theorem queueCommand_offPath (c : HostCmd) (s : State) : (queueCommand c s).offPath = s.offPath := by
  unfold queueCommand; dsimp only
  split
  · rfl
  · next h => split <;> simp [commitPacket_offPath h]

@[simp] theorem actedOn_offPath (i : WorkItem) (s : State) : (actedOn i s).offPath = s.offPath := by simp [actedOn]

@[simp] theorem serveOn_offPath (k : Nat) (i : WorkItem) (s : State) : (serveOn k i s).offPath = s.offPath := by
  unfold serveOn; dsimp only; split <;> simp

@[simp] theorem serveItem_offPath (c : HostCmd) (s : State) : (serveItem c s).offPath = s.offPath := by
  unfold serveItem; repeat' split
  all_goals simp

theorem finish_offPath {c : HostCmd} {s : State} (h : ((s.sess c.session).isOpen && (s.sess c.session).inst == c.inst) = true)
    (a d : Nat) (r : List Byte) : (finish c a d r s).offPath = s.offPath := by
  unfold finish; dsimp only; rw [if_pos h]; repeat' split
  all_goals simp

@[simp] theorem fetched_offPath (op : Nat) (p : Packet) (s : State) : (fetched op p s).offPath = s.offPath := by
  simp [fetched]

/-! ### What leaves the sessions alone -/

theorem foldl_sessions {α : Type} (f : State → α → State) (h : ∀ s a, (f s a).hsw.sessions = s.hsw.sessions) (l : List α)
    (s : State) : (l.foldl f s).hsw.sessions = s.hsw.sessions := by
  induction l generalizing s with
  | nil => rfl
  | cons a t ih => rw [List.foldl_cons, ih, h]

@[simp] theorem draw_sessions (s : State) : s.draw.2.hsw.sessions = s.hsw.sessions := rfl

@[simp] theorem modRing_sessions (n : Nat) (f : RingSet → RingSet) (s : State) : (s.modRing n f).hsw.sessions = s.hsw.sessions := by
  unfold State.modRing; split <;> rfl

@[simp] theorem modQueue_sessions (q : Nat) (f : PeatQueue → PeatQueue) (s : State) :
    (s.modQueue q f).hsw.sessions = s.hsw.sessions := rfl

@[simp] theorem modFlow_sessions (k : Nat) (f : Flow → Flow) (s : State) : (s.modFlow k f).hsw.sessions = s.hsw.sessions := rfl

@[simp] theorem modPrio_sessions (k : Nat) (f : PrioCount → PrioCount) (s : State) : (s.modPrio k f).hsw.sessions = s.hsw.sessions := rfl

@[simp] theorem sendVector_sessions (v : Nat) (s : State) : (sendVector v s).hsw.sessions = s.hsw.sessions := by
  unfold sendVector; repeat' split
  all_goals rfl

@[simp] theorem raiseIrq_sessions (k : Nat) (s : State) : (raiseIrq k s).hsw.sessions = s.hsw.sessions := by
  unfold raiseIrq; dsimp only; split
  · rw [sendVector_sessions]
  · rfl

@[simp] theorem ringError_sessions (c n : Nat) (s : State) : (ringError c n s).hsw.sessions = s.hsw.sessions := by
  unfold ringError; rw [raiseIrq_sessions]

@[simp] theorem cqWriteEnds_sessions (n : Nat) (s : State) : (cqWriteEnds n s).hsw.sessions = s.hsw.sessions := by
  unfold cqWriteEnds ringErrorIf; rfl

@[simp] theorem cqWrites_sessions (l : List (Nat × Entry)) (s : State) :
    ({ s with out.cqWrites := l } : State).hsw.sessions = s.hsw.sessions := rfl

@[simp] theorem sqReads_sessions (l : List Nat) (s : State) :
    ({ s with out.sqReads := l } : State).hsw.sessions = s.hsw.sessions := rfl

@[simp] theorem ringWrite_sessions (n : Nat) (h : HeldEntry) (s : State) : (ringWrite n h s).hsw.sessions = s.hsw.sessions := by
  unfold ringWrite; dsimp only; split <;> simp

@[simp] theorem ringPost_sessions (n : Nat) (h : HeldEntry) (s : State) : (ringPost n h s).hsw.sessions = s.hsw.sessions := by
  unfold ringPost; dsimp only; repeat' split
  all_goals simp

@[simp] theorem mntPost_sessions (h : HeldEntry) (s : State) : (mntPost h s).hsw.sessions = s.hsw.sessions := by
  unfold mntPost; dsimp only; repeat' split
  · rw [raiseIrq_sessions]
  all_goals rfl

@[simp] theorem fedSendAs_sessions (a : Bool) (p t x : Nat) (b : List Byte) (s : State) :
    (fedSendAs a p t x b s).hsw.sessions = s.hsw.sessions := by
  unfold fedSendAs; repeat' split
  all_goals rfl

@[simp] theorem sitePost_sessions (n : Nat) (h : HeldEntry) (s : State) : (sitePost n h s).hsw.sessions = s.hsw.sessions := by
  unfold sitePost fedSend; dsimp only; split <;> simp

@[simp] theorem postOn_sessions (v : Transport) (h : HeldEntry) (s : State) : (postOn v h s).hsw.sessions = s.hsw.sessions := by
  cases v <;> simp [postOn]

@[simp] theorem sendUncounted_sessions (op : Nat) (d : List Byte) (s : State) : (sendUncounted op d s).hsw.sessions = s.hsw.sessions := by
  unfold sendUncounted; split <;> simp

@[simp] theorem countEvents_sessions (k : Nat) (q : Option Nat) (n : Nat) (s : State) :
    (countEvents k q n s).hsw.sessions = s.hsw.sessions := by
  unfold countEvents; split
  · rfl
  · exact (foldl_sessions _ (fun _ _ => sendUncounted_sessions _ _ _) _ _).trans rfl

@[simp] theorem post_sessions (v : Transport) (h : HeldEntry) (s : State) : (post v h s).hsw.sessions = s.hsw.sessions := by simp [post]

@[simp] theorem sendMsg_sessions (op : Nat) (d : List Byte) (s : State) : (sendMsg op d s).hsw.sessions = s.hsw.sessions := by
  unfold sendMsg; split <;> simp

@[simp] theorem recordOn_sessions (x : SideId) (c k : Nat) (d : List Byte) (s : State) :
    (recordOn x c k d s).hsw.sessions = s.hsw.sessions := by
  cases x <;> (unfold recordOn State.modSide; rfl)

@[simp] theorem record_sessions (c k : Nat) (d : List Byte) (s : State) : (record c k d s).hsw.sessions = s.hsw.sessions := by
  simp [record]

@[simp] theorem poolEvent_sessions (k q : Nat) (s : State) : (poolEvent k q s).hsw.sessions = s.hsw.sessions := by simp [poolEvent]

@[simp] theorem peat_sessions (x : PeatRun) (s : State) : ({ s with vol.peat := x } : State).hsw.sessions = s.hsw.sessions := rfl

@[simp] theorem watermarks_sessions (s : State) : (watermarks s).hsw.sessions = s.hsw.sessions := by
  unfold watermarks; dsimp only; repeat' split
  all_goals simp

theorem mailboxSignal_sessions (m : Nat) (s : State) : (mailboxSignal m s).hsw.sessions = s.hsw.sessions := by
  unfold mailboxSignal; dsimp only; split
  · rw [sendVector_sessions]
  · rfl

@[simp] theorem linkChain_sessions (l : List Nat) (s : State) : (linkChain l s).hsw.sessions = s.hsw.sessions := by
  induction l generalizing s with
  | nil => rfl
  | cons k t ih => rw [linkChain, ih]

@[simp] theorem unlink_sessions (p : PeatPacket) (s : State) : (unlink p s).hsw.sessions = s.hsw.sessions := rfl

@[simp] theorem drawCells_sessions (n : Nat) (s : State) : (drawCells n s).2.hsw.sessions = s.hsw.sessions := rfl

theorem reservePacket_sessions {q m : Nat} {s t : State} {c : Nat} (h : reservePacket q m s = some (c, t)) :
    t.hsw.sessions = s.hsw.sessions := by
  unfold reservePacket at h
  split at h
  · cases h; simp
  · cases h

@[simp] theorem commitReserved_sessions (q k kind n : Nat) (d : List Byte) (s : State) :
    (commitReserved q k kind n d s).hsw.sessions = s.hsw.sessions := by
  unfold commitReserved; dsimp only; repeat' split
  all_goals simp [endReservation, mailboxSignal_sessions]

theorem commitPacket_sessions {q m k n : Nat} {d : List Byte} {s t : State} {c : Nat}
    (h : commitPacket q m k n d s = some (c, t)) : t.hsw.sessions = s.hsw.sessions := by
  unfold commitPacket at h
  split at h
  · next hr => cases h; simp [reservePacket_sessions hr]
  · cases h

@[simp] theorem cellsRead_sessions (q : Nat) (s : State) : (cellsRead q s).hsw.sessions = s.hsw.sessions := by
  unfold cellsRead; simp only [countEvents_sessions]; rfl

@[simp] theorem freeByCell_sessions (q c : Nat) (s : State) : (freeByCell q c s).hsw.sessions = s.hsw.sessions := by
  unfold freeByCell; dsimp only; split <;> simp

@[simp] theorem enqueue_sessions (i : WorkItem) (s : State) : (enqueue i s).hsw.sessions = s.hsw.sessions := by
  unfold enqueue; dsimp only; simp only [modPrio_sessions, modFlow_sessions]

@[simp] theorem countWait_sessions (i : WorkItem) (s : State) : (countWait i s).hsw.sessions = s.hsw.sessions := by simp [countWait]

@[simp] theorem freeFlow_sessions (f : Nat) (s : State) : (freeFlow f s).hsw.sessions = s.hsw.sessions := by
  unfold freeFlow; split <;> simp

@[simp] theorem freePacket_sessions (i : WorkItem) (s : State) : (freePacket i s).hsw.sessions = s.hsw.sessions := by
  unfold freePacket; split <;> simp

@[simp] theorem packetRead_sessions (i : WorkItem) (s : State) : (packetRead i s).hsw.sessions = s.hsw.sessions := by
  unfold packetRead; split <;> simp

@[simp] theorem itemDone_sessions (i : WorkItem) (s : State) : (itemDone i s).hsw.sessions = s.hsw.sessions := by simp [itemDone]

@[simp] theorem takeSlot_sessions (v : Transport) (s : State) : (takeSlot v s).hsw.sessions = s.hsw.sessions := by
  unfold takeSlot; split <;> simp

@[simp] theorem queueCommand_sessions (c : HostCmd) (s : State) : (queueCommand c s).hsw.sessions = s.hsw.sessions := by
  unfold queueCommand; dsimp only
  split
  · rfl
  · next h => split <;> simp [commitPacket_sessions h]

@[simp] theorem actedOn_sessions (i : WorkItem) (s : State) : (actedOn i s).hsw.sessions = s.hsw.sessions := by simp [actedOn]

@[simp] theorem serveOn_sessions (k : Nat) (i : WorkItem) (s : State) : (serveOn k i s).hsw.sessions = s.hsw.sessions := by
  unfold serveOn; dsimp only; split <;> simp

@[simp] theorem serveItem_sessions (c : HostCmd) (s : State) : (serveItem c s).hsw.sessions = s.hsw.sessions := by
  unfold serveItem; repeat' split
  all_goals simp

/-! ### Serving a packet -/

theorem sess_congr {s t : State} (h : t.hsw.sessions = s.hsw.sessions) (n : Nat) : t.sess n = s.sess n := by
  simp [State.sess, h]

theorem modSess_sess_ne {s : State} {n k : Nat} {f : Session → Session} (h : k ≠ n) : (s.modSess n f).sess k = s.sess k := by
  simp [State.modSess, State.sess, List.getD_eq_getElem?_getD, List.getElem?_modify, Ne.symm h]

theorem modSess_sess {s : State} {n : Nat} {f : Session → Session} (h : n < s.hsw.sessions.length) :
    (s.modSess n f).sess n = f (s.sess n) := by
  simp [State.modSess, State.sess, List.getD_eq_getElem?_getD, h]

@[simp] theorem modSess_length (s : State) (n : Nat) (f : Session → Session) :
    (s.modSess n f).hsw.sessions.length = s.hsw.sessions.length := by simp [State.modSess]

theorem openOn_lt {s : State} {v : Transport} (h : s.openOn v = true) : viaSession v < s.hsw.sessions.length := by
  rcases Nat.lt_or_ge (viaSession v) s.hsw.sessions.length with g | g
  · exact g
  · have e : s.sess (viaSession v) = default := by
      simp [State.sess, List.getD_eq_getElem?_getD, List.getElem?_eq_none g]
    have o : (default : Session).isOpen = false := rfl
    simp [State.openOn, e, o] at h

/-- The first four checks of R103 read no part of the state that the path uses but the tags in flight. -/
theorem checkPacket_congr {s t : State} (op : Nat) (p : Packet) (h : t.offPath = s.offPath)
    (k : (t.sess (viaSession p.via)).inFlight = (s.sess (viaSession p.via)).inFlight) :
    checkPacket op p t = checkPacket op p s := by
  have ha : t.actId = s.actId := by simp [State.actId, offPath_active h, offPath_last h]
  have hr : t.act.startRec = s.act.startRec := by simp [State.act, ha, offPath_startRec h]
  simp [checkPacket, headerError, targetError, stageError, namesStandby, State.stageEnded, k, ha, hr, offPath_epoch h,
    offPath_active h]

theorem fetchedCmd_session (op : Nat) (p : Packet) (s : State) : (fetchedCmd op p s).session = viaSession p.via := rfl
theorem fetchedCmd_packet (op : Nat) (p : Packet) (s : State) : (fetchedCmd op p s).packet = p := rfl
theorem fetchedCmd_opcode (op : Nat) (p : Packet) (s : State) : (fetchedCmd op p s).opcode = op := rfl

@[simp] theorem started_offPath (op : Nat) (p : Packet) (s : State) : (started op p s).offPath = s.offPath := by
  simp [started]

theorem fetched_inFlight {op : Nat} {p : Packet} {s : State} (h : s.openOn p.via = true) :
    ((fetched op p s).sess (viaSession p.via)).inFlight =
      (s.sess (viaSession p.via)).inFlight ++ [⟨fetchedCmd op p s, .fetched, [], none⟩] := by
  have l := openOn_lt h
  have e : (countEvents 1 none 1 (takeSlot p.via s)).hsw.sessions = s.hsw.sessions := by simp
  rw [fetched, fetchedCmd_session]
  rw [modSess_sess (by simpa [e] using l), modSess_sess (by simpa [e] using l), sess_congr e]

/-- A packet that passes the checks is admitted: its command is in flight. -/
theorem admitPacket_ready {op : Nat} {p : Packet} {s : State} (h : Ready op p s) :
    admitPacket op p s = (queueCommand (fetchedCmd op p s) (fetched op p s), some (fetchedCmd op p s)) := by
  have l := openOn_lt h.openOn
  have e : (countEvents 1 none 1 (takeSlot p.via s)).hsw.sessions = s.hsw.sessions := by simp
  have es := sess_congr e (viaSession p.via)
  have m : ((countEvents 1 none 1 (takeSlot p.via s)).modSess (viaSession p.via)
      fun n => { n with lastSeq := (s.sess (viaSession p.via)).lastSeq + 1 }).sess (viaSession p.via) =
      { s.sess (viaSession p.via) with lastSeq := (s.sess (viaSession p.via)).lastSeq + 1 } := by
    rw [modSess_sess (by simpa [e] using l), es]
  have c : checkPacket op p ((countEvents 1 none 1 (takeSlot p.via s)).modSess (viaSession p.via)
      fun n => { n with lastSeq := (s.sess (viaSession p.via)).lastSeq + 1 }) = none := by
    rw [checkPacket_congr (s := s) op p (by simp) (by rw [m]), h.passes]
  have k : mkCmd op p ((s.sess (viaSession p.via)).lastSeq + 1) (s.sqIndexOf p.via)
      ((countEvents 1 none 1 (takeSlot p.via s)).modSess (viaSession p.via)
        fun n => { n with lastSeq := (s.sess (viaSession p.via)).lastSeq + 1 }) = fetchedCmd op p s := by
    have ck : (countEvents 1 none 1 (takeSlot p.via s)).clock = s.clock := offPath_clock (by simp)
    simp only [fetchedCmd, mkCmd, m]
    simp [State.modSess, ck]
  unfold admitPacket
  dsimp only
  rw [es, c, k]
  rfl

theorem mayStart_ready {op : Nat} {p : Packet} {s : State} (h : Ready op p s) :
    (queueCommand (fetchedCmd op p s) (fetched op p s)).mayStart (fetchedCmd op p s) = true := by
  have e : ((queueCommand (fetchedCmd op p s) (fetched op p s)).sess (fetchedCmd op p s).session).inFlight =
      (s.sess (viaSession p.via)).inFlight ++ [⟨fetchedCmd op p s, .fetched, [], none⟩] := by
    rw [sess_congr (s := fetched op p s) (by simp), fetchedCmd_session, fetched_inFlight h.openOn]
  rw [State.mayStart, h.objects, h.turn, Bool.and_true, Bool.and_true]
  simp only [State.fencesPass, e, List.filter_append, List.all_append, List.all_eq_true, List.mem_filter,
    Bool.and_eq_true, decide_eq_true_eq, bne_iff_ne, Bool.not_eq_true', fetchedCmd_packet]
  refine ⟨fun f ⟨m, _, n⟩ => ?_, fun f m => ?_⟩
  · rcases h.noFence f m with a | a
    · exact absurd a n
    · exact a
  · simp only [List.mem_singleton] at m
    obtain ⟨rfl, lt, _⟩ := m
    exact absurd lt (Nat.lt_irrefl _)

/-- A packet that is ready runs its command from the state in which its effect begins. -/
theorem serve_ready {op : Nat} {run : HostCmd → State → CmdResult} {p : Packet} {s : State} (h : Ready op p s) :
    serve op run p s = conclude (fetchedCmd op p s) (started op p s) (run (fetchedCmd op p s) (started op p s)) := by
  have r : ¬ 0xFFFFFFFF ≤ (s.sess (viaSession p.via)).lastSeq + 1 := Nat.not_le.mpr h.room
  have q : (serveItem (fetchedCmd op p s) (queueCommand (fetchedCmd op p s) (fetched op p s))).offPath = s.offPath := by simp
  have lt : (serveItem (fetchedCmd op p s) (queueCommand (fetchedCmd op p s) (fetched op p s))).late
      (fetchedCmd op p s) = false := by
    have z : s.clock - (fetchedCmd op p s).fetchedAt = 0 := Nat.sub_self _
    simp only [State.late, offPath_clock q, z, Nat.not_lt_zero, decide_false, Bool.and_false]
  have ho : (serveItem (fetchedCmd op p s) (queueCommand (fetchedCmd op p s) (fetched op p s))).inHandover
      (fetchedCmd op p s) = false := by
    have := h.noHandover
    simpa only [State.inHandover, offPath_ctl q] using this
  simp only [serve, h.canFetch, h.openOn, r, admitPacket_ready h, mayStart_ready h, Bool.not_true, Bool.false_eq_true,
    if_false, if_true, startCmd, lt, ho]
  rfl

end Sys2Proof.Machine
end

