-- ==== Sys2Proof/Laws/State.lean ====
section
/-! SUPPORT.
The named updates of the state, field by field: what each leaves as it is, and what each changes.
-/

namespace Sys2Proof.Machine

/-! ### What each update leaves as it is -/

@[simp] theorem State.modLink_env (s : State) (k : Nat) (f : LinkRun → LinkRun) : (s.modLink k f).env = s.env := rfl
@[simp] theorem State.modLink_hsw (s : State) (k : Nat) (f : LinkRun → LinkRun) : (s.modLink k f).hsw = s.hsw := rfl
@[simp] theorem State.modLink_sideA (s : State) (k : Nat) (f : LinkRun → LinkRun) : (s.modLink k f).sideA = s.sideA := rfl
@[simp] theorem State.modLink_sideB (s : State) (k : Nat) (f : LinkRun → LinkRun) : (s.modLink k f).sideB = s.sideB := rfl
@[simp] theorem State.modLink_ctl (s : State) (k : Nat) (f : LinkRun → LinkRun) : (s.modLink k f).ctl = s.ctl := rfl
@[simp] theorem State.modLink_vol_gnss (s : State) (k : Nat) (f : LinkRun → LinkRun) : (s.modLink k f).vol.gnss = s.vol.gnss := rfl
@[simp] theorem State.modLink_vol_corr (s : State) (k : Nat) (f : LinkRun → LinkRun) : (s.modLink k f).vol.corr = s.vol.corr := rfl
@[simp] theorem State.modLink_vol_time (s : State) (k : Nat) (f : LinkRun → LinkRun) : (s.modLink k f).vol.time = s.vol.time := rfl
@[simp] theorem State.modLink_vol_mac (s : State) (k : Nat) (f : LinkRun → LinkRun) : (s.modLink k f).vol.mac = s.vol.mac := rfl
@[simp] theorem State.modLink_vol_sluice (s : State) (k : Nat) (f : LinkRun → LinkRun) : (s.modLink k f).vol.sluice = s.vol.sluice := rfl
@[simp] theorem State.modLink_vol_dyke (s : State) (k : Nat) (f : LinkRun → LinkRun) : (s.modLink k f).vol.dyke = s.vol.dyke := rfl
@[simp] theorem State.modLink_vol_solver (s : State) (k : Nat) (f : LinkRun → LinkRun) : (s.modLink k f).vol.solver = s.vol.solver := rfl
@[simp] theorem State.modLink_vol_sched (s : State) (k : Nat) (f : LinkRun → LinkRun) : (s.modLink k f).vol.sched = s.vol.sched := rfl
@[simp] theorem State.modLink_vol_peat (s : State) (k : Nat) (f : LinkRun → LinkRun) : (s.modLink k f).vol.peat = s.vol.peat := rfl
@[simp] theorem State.modLink_vol_wader (s : State) (k : Nat) (f : LinkRun → LinkRun) : (s.modLink k f).vol.wader = s.vol.wader := rfl
@[simp] theorem State.modLink_vol_fed (s : State) (k : Nat) (f : LinkRun → LinkRun) : (s.modLink k f).vol.fed = s.vol.fed := rfl
@[simp] theorem State.modLink_vol_redun (s : State) (k : Nat) (f : LinkRun → LinkRun) : (s.modLink k f).vol.redun = s.vol.redun := rfl
@[simp] theorem State.modLink_vol_sec (s : State) (k : Nat) (f : LinkRun → LinkRun) : (s.modLink k f).vol.sec = s.vol.sec := rfl
@[simp] theorem State.modLink_vol_counters (s : State) (k : Nat) (f : LinkRun → LinkRun) : (s.modLink k f).vol.counters = s.vol.counters := rfl
@[simp] theorem State.modLink_vol_pendingMode (s : State) (k : Nat) (f : LinkRun → LinkRun) : (s.modLink k f).vol.pendingMode = s.vol.pendingMode := rfl
@[simp] theorem State.modLink_out (s : State) (k : Nat) (f : LinkRun → LinkRun) : (s.modLink k f).out = s.out := rfl
@[simp] theorem State.modLink_clock (s : State) (k : Nat) (f : LinkRun → LinkRun) : (s.modLink k f).clock = s.clock := rfl
@[simp] theorem State.modLink_mtbZero (s : State) (k : Nat) (f : LinkRun → LinkRun) : (s.modLink k f).mtbZero = s.mtbZero := rfl
@[simp] theorem State.modLink_fresh (s : State) (k : Nat) (f : LinkRun → LinkRun) : (s.modLink k f).fresh = s.fresh := rfl
@[simp] theorem State.modLink_pending (s : State) (k : Nat) (f : LinkRun → LinkRun) : (s.modLink k f).pending = s.pending := rfl
@[simp] theorem State.modLaneRun_env (s : State) (l : Nat) (f : LaneRun → LaneRun) : (s.modLaneRun l f).env = s.env := rfl
@[simp] theorem State.modLaneRun_hsw (s : State) (l : Nat) (f : LaneRun → LaneRun) : (s.modLaneRun l f).hsw = s.hsw := rfl
@[simp] theorem State.modLaneRun_sideA (s : State) (l : Nat) (f : LaneRun → LaneRun) : (s.modLaneRun l f).sideA = s.sideA := rfl
@[simp] theorem State.modLaneRun_sideB (s : State) (l : Nat) (f : LaneRun → LaneRun) : (s.modLaneRun l f).sideB = s.sideB := rfl
@[simp] theorem State.modLaneRun_ctl (s : State) (l : Nat) (f : LaneRun → LaneRun) : (s.modLaneRun l f).ctl = s.ctl := rfl
@[simp] theorem State.modLaneRun_vol_gnss (s : State) (l : Nat) (f : LaneRun → LaneRun) : (s.modLaneRun l f).vol.gnss = s.vol.gnss := rfl
@[simp] theorem State.modLaneRun_vol_corr (s : State) (l : Nat) (f : LaneRun → LaneRun) : (s.modLaneRun l f).vol.corr = s.vol.corr := rfl
@[simp] theorem State.modLaneRun_vol_time (s : State) (l : Nat) (f : LaneRun → LaneRun) : (s.modLaneRun l f).vol.time = s.vol.time := rfl
@[simp] theorem State.modLaneRun_vol_mac (s : State) (l : Nat) (f : LaneRun → LaneRun) : (s.modLaneRun l f).vol.mac = s.vol.mac := rfl
@[simp] theorem State.modLaneRun_vol_sluice (s : State) (l : Nat) (f : LaneRun → LaneRun) : (s.modLaneRun l f).vol.sluice = s.vol.sluice := rfl
@[simp] theorem State.modLaneRun_vol_dyke (s : State) (l : Nat) (f : LaneRun → LaneRun) : (s.modLaneRun l f).vol.dyke = s.vol.dyke := rfl
@[simp] theorem State.modLaneRun_vol_solver (s : State) (l : Nat) (f : LaneRun → LaneRun) : (s.modLaneRun l f).vol.solver = s.vol.solver := rfl
@[simp] theorem State.modLaneRun_vol_sched (s : State) (l : Nat) (f : LaneRun → LaneRun) : (s.modLaneRun l f).vol.sched = s.vol.sched := rfl
@[simp] theorem State.modLaneRun_vol_peat (s : State) (l : Nat) (f : LaneRun → LaneRun) : (s.modLaneRun l f).vol.peat = s.vol.peat := rfl
@[simp] theorem State.modLaneRun_vol_wader (s : State) (l : Nat) (f : LaneRun → LaneRun) : (s.modLaneRun l f).vol.wader = s.vol.wader := rfl
@[simp] theorem State.modLaneRun_vol_fed (s : State) (l : Nat) (f : LaneRun → LaneRun) : (s.modLaneRun l f).vol.fed = s.vol.fed := rfl
@[simp] theorem State.modLaneRun_vol_redun (s : State) (l : Nat) (f : LaneRun → LaneRun) : (s.modLaneRun l f).vol.redun = s.vol.redun := rfl
@[simp] theorem State.modLaneRun_vol_sec (s : State) (l : Nat) (f : LaneRun → LaneRun) : (s.modLaneRun l f).vol.sec = s.vol.sec := rfl
@[simp] theorem State.modLaneRun_vol_counters (s : State) (l : Nat) (f : LaneRun → LaneRun) : (s.modLaneRun l f).vol.counters = s.vol.counters := rfl
@[simp] theorem State.modLaneRun_vol_pendingMode (s : State) (l : Nat) (f : LaneRun → LaneRun) : (s.modLaneRun l f).vol.pendingMode = s.vol.pendingMode := rfl
@[simp] theorem State.modLaneRun_out (s : State) (l : Nat) (f : LaneRun → LaneRun) : (s.modLaneRun l f).out = s.out := rfl
@[simp] theorem State.modLaneRun_clock (s : State) (l : Nat) (f : LaneRun → LaneRun) : (s.modLaneRun l f).clock = s.clock := rfl
@[simp] theorem State.modLaneRun_mtbZero (s : State) (l : Nat) (f : LaneRun → LaneRun) : (s.modLaneRun l f).mtbZero = s.mtbZero := rfl
@[simp] theorem State.modLaneRun_fresh (s : State) (l : Nat) (f : LaneRun → LaneRun) : (s.modLaneRun l f).fresh = s.fresh := rfl
@[simp] theorem State.modLaneRun_pending (s : State) (l : Nat) (f : LaneRun → LaneRun) : (s.modLaneRun l f).pending = s.pending := rfl
@[simp] theorem State.modBudgets_env (s : State) (f : Budget → Budget) : (s.modBudgets f).env = s.env := rfl
@[simp] theorem State.modBudgets_hsw (s : State) (f : Budget → Budget) : (s.modBudgets f).hsw = s.hsw := rfl
@[simp] theorem State.modBudgets_sideA (s : State) (f : Budget → Budget) : (s.modBudgets f).sideA = s.sideA := rfl
@[simp] theorem State.modBudgets_sideB (s : State) (f : Budget → Budget) : (s.modBudgets f).sideB = s.sideB := rfl
@[simp] theorem State.modBudgets_ctl_cfg (s : State) (f : Budget → Budget) : (s.modBudgets f).ctl.cfg = s.ctl.cfg := rfl
@[simp] theorem State.modBudgets_ctl_timeCfg (s : State) (f : Budget → Budget) : (s.modBudgets f).ctl.timeCfg = s.ctl.timeCfg := rfl
@[simp] theorem State.modBudgets_ctl_time (s : State) (f : Budget → Budget) : (s.modBudgets f).ctl.time = s.ctl.time := rfl
@[simp] theorem State.modBudgets_ctl_hot (s : State) (f : Budget → Budget) : (s.modBudgets f).ctl.hot = s.ctl.hot := rfl
@[simp] theorem State.modBudgets_ctl_conns (s : State) (f : Budget → Budget) : (s.modBudgets f).ctl.conns = s.ctl.conns := rfl
@[simp] theorem State.modBudgets_ctl_sluice (s : State) (f : Budget → Budget) : (s.modBudgets f).ctl.sluice = s.ctl.sluice := rfl
@[simp] theorem State.modBudgets_ctl_dyke (s : State) (f : Budget → Budget) : (s.modBudgets f).ctl.dyke = s.ctl.dyke := rfl
@[simp] theorem State.modBudgets_ctl_filters (s : State) (f : Budget → Budget) : (s.modBudgets f).ctl.filters = s.ctl.filters := rfl
@[simp] theorem State.modBudgets_ctl_handovers (s : State) (f : Budget → Budget) : (s.modBudgets f).ctl.handovers = s.ctl.handovers := rfl
@[simp] theorem State.modBudgets_ctl_mode (s : State) (f : Budget → Budget) : (s.modBudgets f).ctl.mode = s.ctl.mode := rfl
@[simp] theorem State.modBudgets_ctl_gpioDir (s : State) (f : Budget → Budget) : (s.modBudgets f).ctl.gpioDir = s.ctl.gpioDir := rfl
@[simp] theorem State.modBudgets_ctl_gpioLvl (s : State) (f : Budget → Budget) : (s.modBudgets f).ctl.gpioLvl = s.ctl.gpioLvl := rfl
@[simp] theorem State.modBudgets_ctl_records (s : State) (f : Budget → Budget) : (s.modBudgets f).ctl.records = s.ctl.records := rfl
@[simp] theorem State.modBudgets_vol (s : State) (f : Budget → Budget) : (s.modBudgets f).vol = s.vol := rfl
@[simp] theorem State.modBudgets_out (s : State) (f : Budget → Budget) : (s.modBudgets f).out = s.out := rfl
@[simp] theorem State.modBudgets_clock (s : State) (f : Budget → Budget) : (s.modBudgets f).clock = s.clock := rfl
@[simp] theorem State.modBudgets_mtbZero (s : State) (f : Budget → Budget) : (s.modBudgets f).mtbZero = s.mtbZero := rfl
@[simp] theorem State.modBudgets_fresh (s : State) (f : Budget → Budget) : (s.modBudgets f).fresh = s.fresh := rfl
@[simp] theorem State.modBudgets_pending (s : State) (f : Budget → Budget) : (s.modBudgets f).pending = s.pending := rfl
@[simp] theorem State.modBudget_env (s : State) (l : Nat) (lo : Nat) (ch : Nat) (f : Budget → Budget) : (s.modBudget l lo ch f).env = s.env := rfl
@[simp] theorem State.modBudget_hsw (s : State) (l : Nat) (lo : Nat) (ch : Nat) (f : Budget → Budget) : (s.modBudget l lo ch f).hsw = s.hsw := rfl
@[simp] theorem State.modBudget_sideA (s : State) (l : Nat) (lo : Nat) (ch : Nat) (f : Budget → Budget) : (s.modBudget l lo ch f).sideA = s.sideA := rfl
@[simp] theorem State.modBudget_sideB (s : State) (l : Nat) (lo : Nat) (ch : Nat) (f : Budget → Budget) : (s.modBudget l lo ch f).sideB = s.sideB := rfl
@[simp] theorem State.modBudget_ctl_cfg (s : State) (l : Nat) (lo : Nat) (ch : Nat) (f : Budget → Budget) : (s.modBudget l lo ch f).ctl.cfg = s.ctl.cfg := rfl
@[simp] theorem State.modBudget_ctl_timeCfg (s : State) (l : Nat) (lo : Nat) (ch : Nat) (f : Budget → Budget) : (s.modBudget l lo ch f).ctl.timeCfg = s.ctl.timeCfg := rfl
@[simp] theorem State.modBudget_ctl_time (s : State) (l : Nat) (lo : Nat) (ch : Nat) (f : Budget → Budget) : (s.modBudget l lo ch f).ctl.time = s.ctl.time := rfl
@[simp] theorem State.modBudget_ctl_hot (s : State) (l : Nat) (lo : Nat) (ch : Nat) (f : Budget → Budget) : (s.modBudget l lo ch f).ctl.hot = s.ctl.hot := rfl
@[simp] theorem State.modBudget_ctl_conns (s : State) (l : Nat) (lo : Nat) (ch : Nat) (f : Budget → Budget) : (s.modBudget l lo ch f).ctl.conns = s.ctl.conns := rfl
@[simp] theorem State.modBudget_ctl_sluice (s : State) (l : Nat) (lo : Nat) (ch : Nat) (f : Budget → Budget) : (s.modBudget l lo ch f).ctl.sluice = s.ctl.sluice := rfl
@[simp] theorem State.modBudget_ctl_dyke (s : State) (l : Nat) (lo : Nat) (ch : Nat) (f : Budget → Budget) : (s.modBudget l lo ch f).ctl.dyke = s.ctl.dyke := rfl
@[simp] theorem State.modBudget_ctl_filters (s : State) (l : Nat) (lo : Nat) (ch : Nat) (f : Budget → Budget) : (s.modBudget l lo ch f).ctl.filters = s.ctl.filters := rfl
@[simp] theorem State.modBudget_ctl_handovers (s : State) (l : Nat) (lo : Nat) (ch : Nat) (f : Budget → Budget) : (s.modBudget l lo ch f).ctl.handovers = s.ctl.handovers := rfl
@[simp] theorem State.modBudget_ctl_mode (s : State) (l : Nat) (lo : Nat) (ch : Nat) (f : Budget → Budget) : (s.modBudget l lo ch f).ctl.mode = s.ctl.mode := rfl
@[simp] theorem State.modBudget_ctl_gpioDir (s : State) (l : Nat) (lo : Nat) (ch : Nat) (f : Budget → Budget) : (s.modBudget l lo ch f).ctl.gpioDir = s.ctl.gpioDir := rfl
@[simp] theorem State.modBudget_ctl_gpioLvl (s : State) (l : Nat) (lo : Nat) (ch : Nat) (f : Budget → Budget) : (s.modBudget l lo ch f).ctl.gpioLvl = s.ctl.gpioLvl := rfl
@[simp] theorem State.modBudget_ctl_records (s : State) (l : Nat) (lo : Nat) (ch : Nat) (f : Budget → Budget) : (s.modBudget l lo ch f).ctl.records = s.ctl.records := rfl
@[simp] theorem State.modBudget_vol (s : State) (l : Nat) (lo : Nat) (ch : Nat) (f : Budget → Budget) : (s.modBudget l lo ch f).vol = s.vol := rfl
@[simp] theorem State.modBudget_out (s : State) (l : Nat) (lo : Nat) (ch : Nat) (f : Budget → Budget) : (s.modBudget l lo ch f).out = s.out := rfl
@[simp] theorem State.modBudget_clock (s : State) (l : Nat) (lo : Nat) (ch : Nat) (f : Budget → Budget) : (s.modBudget l lo ch f).clock = s.clock := rfl
@[simp] theorem State.modBudget_mtbZero (s : State) (l : Nat) (lo : Nat) (ch : Nat) (f : Budget → Budget) : (s.modBudget l lo ch f).mtbZero = s.mtbZero := rfl
@[simp] theorem State.modBudget_fresh (s : State) (l : Nat) (lo : Nat) (ch : Nat) (f : Budget → Budget) : (s.modBudget l lo ch f).fresh = s.fresh := rfl
@[simp] theorem State.modBudget_pending (s : State) (l : Nat) (lo : Nat) (ch : Nat) (f : Budget → Budget) : (s.modBudget l lo ch f).pending = s.pending := rfl
@[simp] theorem State.modDfs_env (s : State) (l : Nat) (ch : Nat) (f : DfsChan → DfsChan) : (s.modDfs l ch f).env = s.env := rfl
@[simp] theorem State.modDfs_hsw (s : State) (l : Nat) (ch : Nat) (f : DfsChan → DfsChan) : (s.modDfs l ch f).hsw = s.hsw := rfl
@[simp] theorem State.modDfs_sideA (s : State) (l : Nat) (ch : Nat) (f : DfsChan → DfsChan) : (s.modDfs l ch f).sideA = s.sideA := rfl
@[simp] theorem State.modDfs_sideB (s : State) (l : Nat) (ch : Nat) (f : DfsChan → DfsChan) : (s.modDfs l ch f).sideB = s.sideB := rfl
@[simp] theorem State.modDfs_ctl_cfg (s : State) (l : Nat) (ch : Nat) (f : DfsChan → DfsChan) : (s.modDfs l ch f).ctl.cfg = s.ctl.cfg := rfl
@[simp] theorem State.modDfs_ctl_timeCfg (s : State) (l : Nat) (ch : Nat) (f : DfsChan → DfsChan) : (s.modDfs l ch f).ctl.timeCfg = s.ctl.timeCfg := rfl
@[simp] theorem State.modDfs_ctl_time (s : State) (l : Nat) (ch : Nat) (f : DfsChan → DfsChan) : (s.modDfs l ch f).ctl.time = s.ctl.time := rfl
@[simp] theorem State.modDfs_ctl_hot (s : State) (l : Nat) (ch : Nat) (f : DfsChan → DfsChan) : (s.modDfs l ch f).ctl.hot = s.ctl.hot := rfl
@[simp] theorem State.modDfs_ctl_conns (s : State) (l : Nat) (ch : Nat) (f : DfsChan → DfsChan) : (s.modDfs l ch f).ctl.conns = s.ctl.conns := rfl
@[simp] theorem State.modDfs_ctl_sluice (s : State) (l : Nat) (ch : Nat) (f : DfsChan → DfsChan) : (s.modDfs l ch f).ctl.sluice = s.ctl.sluice := rfl
@[simp] theorem State.modDfs_ctl_dyke (s : State) (l : Nat) (ch : Nat) (f : DfsChan → DfsChan) : (s.modDfs l ch f).ctl.dyke = s.ctl.dyke := rfl
@[simp] theorem State.modDfs_ctl_filters (s : State) (l : Nat) (ch : Nat) (f : DfsChan → DfsChan) : (s.modDfs l ch f).ctl.filters = s.ctl.filters := rfl
@[simp] theorem State.modDfs_ctl_handovers (s : State) (l : Nat) (ch : Nat) (f : DfsChan → DfsChan) : (s.modDfs l ch f).ctl.handovers = s.ctl.handovers := rfl
@[simp] theorem State.modDfs_ctl_mode (s : State) (l : Nat) (ch : Nat) (f : DfsChan → DfsChan) : (s.modDfs l ch f).ctl.mode = s.ctl.mode := rfl
@[simp] theorem State.modDfs_ctl_gpioDir (s : State) (l : Nat) (ch : Nat) (f : DfsChan → DfsChan) : (s.modDfs l ch f).ctl.gpioDir = s.ctl.gpioDir := rfl
@[simp] theorem State.modDfs_ctl_gpioLvl (s : State) (l : Nat) (ch : Nat) (f : DfsChan → DfsChan) : (s.modDfs l ch f).ctl.gpioLvl = s.ctl.gpioLvl := rfl
@[simp] theorem State.modDfs_ctl_records (s : State) (l : Nat) (ch : Nat) (f : DfsChan → DfsChan) : (s.modDfs l ch f).ctl.records = s.ctl.records := rfl
@[simp] theorem State.modDfs_vol (s : State) (l : Nat) (ch : Nat) (f : DfsChan → DfsChan) : (s.modDfs l ch f).vol = s.vol := rfl
@[simp] theorem State.modDfs_out (s : State) (l : Nat) (ch : Nat) (f : DfsChan → DfsChan) : (s.modDfs l ch f).out = s.out := rfl
@[simp] theorem State.modDfs_clock (s : State) (l : Nat) (ch : Nat) (f : DfsChan → DfsChan) : (s.modDfs l ch f).clock = s.clock := rfl
@[simp] theorem State.modDfs_mtbZero (s : State) (l : Nat) (ch : Nat) (f : DfsChan → DfsChan) : (s.modDfs l ch f).mtbZero = s.mtbZero := rfl
@[simp] theorem State.modDfs_fresh (s : State) (l : Nat) (ch : Nat) (f : DfsChan → DfsChan) : (s.modDfs l ch f).fresh = s.fresh := rfl
@[simp] theorem State.modDfs_pending (s : State) (l : Nat) (ch : Nat) (f : DfsChan → DfsChan) : (s.modDfs l ch f).pending = s.pending := rfl
@[simp] theorem State.modCorr_env (s : State) (f : CorrRun → CorrRun) : (s.modCorr f).env = s.env := rfl
@[simp] theorem State.modCorr_hsw (s : State) (f : CorrRun → CorrRun) : (s.modCorr f).hsw = s.hsw := rfl
@[simp] theorem State.modCorr_sideA (s : State) (f : CorrRun → CorrRun) : (s.modCorr f).sideA = s.sideA := rfl
@[simp] theorem State.modCorr_sideB (s : State) (f : CorrRun → CorrRun) : (s.modCorr f).sideB = s.sideB := rfl
@[simp] theorem State.modCorr_ctl (s : State) (f : CorrRun → CorrRun) : (s.modCorr f).ctl = s.ctl := rfl
@[simp] theorem State.modCorr_vol_gnss (s : State) (f : CorrRun → CorrRun) : (s.modCorr f).vol.gnss = s.vol.gnss := rfl
@[simp] theorem State.modCorr_vol_time (s : State) (f : CorrRun → CorrRun) : (s.modCorr f).vol.time = s.vol.time := rfl
@[simp] theorem State.modCorr_vol_radio (s : State) (f : CorrRun → CorrRun) : (s.modCorr f).vol.radio = s.vol.radio := rfl
@[simp] theorem State.modCorr_vol_mac (s : State) (f : CorrRun → CorrRun) : (s.modCorr f).vol.mac = s.vol.mac := rfl
@[simp] theorem State.modCorr_vol_sluice (s : State) (f : CorrRun → CorrRun) : (s.modCorr f).vol.sluice = s.vol.sluice := rfl
@[simp] theorem State.modCorr_vol_dyke (s : State) (f : CorrRun → CorrRun) : (s.modCorr f).vol.dyke = s.vol.dyke := rfl
@[simp] theorem State.modCorr_vol_solver (s : State) (f : CorrRun → CorrRun) : (s.modCorr f).vol.solver = s.vol.solver := rfl
@[simp] theorem State.modCorr_vol_sched (s : State) (f : CorrRun → CorrRun) : (s.modCorr f).vol.sched = s.vol.sched := rfl
@[simp] theorem State.modCorr_vol_peat (s : State) (f : CorrRun → CorrRun) : (s.modCorr f).vol.peat = s.vol.peat := rfl
@[simp] theorem State.modCorr_vol_wader (s : State) (f : CorrRun → CorrRun) : (s.modCorr f).vol.wader = s.vol.wader := rfl
@[simp] theorem State.modCorr_vol_fed (s : State) (f : CorrRun → CorrRun) : (s.modCorr f).vol.fed = s.vol.fed := rfl
@[simp] theorem State.modCorr_vol_redun (s : State) (f : CorrRun → CorrRun) : (s.modCorr f).vol.redun = s.vol.redun := rfl
@[simp] theorem State.modCorr_vol_sec (s : State) (f : CorrRun → CorrRun) : (s.modCorr f).vol.sec = s.vol.sec := rfl
@[simp] theorem State.modCorr_vol_counters (s : State) (f : CorrRun → CorrRun) : (s.modCorr f).vol.counters = s.vol.counters := rfl
@[simp] theorem State.modCorr_vol_pendingMode (s : State) (f : CorrRun → CorrRun) : (s.modCorr f).vol.pendingMode = s.vol.pendingMode := rfl
@[simp] theorem State.modCorr_out (s : State) (f : CorrRun → CorrRun) : (s.modCorr f).out = s.out := rfl
@[simp] theorem State.modCorr_clock (s : State) (f : CorrRun → CorrRun) : (s.modCorr f).clock = s.clock := rfl
@[simp] theorem State.modCorr_mtbZero (s : State) (f : CorrRun → CorrRun) : (s.modCorr f).mtbZero = s.mtbZero := rfl
@[simp] theorem State.modCorr_fresh (s : State) (f : CorrRun → CorrRun) : (s.modCorr f).fresh = s.fresh := rfl
@[simp] theorem State.modCorr_pending (s : State) (f : CorrRun → CorrRun) : (s.modCorr f).pending = s.pending := rfl
@[simp] theorem State.modCorrCfg_env (s : State) (f : CorrSettings → CorrSettings) : (s.modCorrCfg f).env = s.env := rfl
@[simp] theorem State.modCorrCfg_hsw (s : State) (f : CorrSettings → CorrSettings) : (s.modCorrCfg f).hsw = s.hsw := rfl
@[simp] theorem State.modCorrCfg_sideA (s : State) (f : CorrSettings → CorrSettings) : (s.modCorrCfg f).sideA = s.sideA := rfl
@[simp] theorem State.modCorrCfg_sideB (s : State) (f : CorrSettings → CorrSettings) : (s.modCorrCfg f).sideB = s.sideB := rfl
@[simp] theorem State.modCorrCfg_ctl_timeCfg (s : State) (f : CorrSettings → CorrSettings) : (s.modCorrCfg f).ctl.timeCfg = s.ctl.timeCfg := rfl
@[simp] theorem State.modCorrCfg_ctl_time (s : State) (f : CorrSettings → CorrSettings) : (s.modCorrCfg f).ctl.time = s.ctl.time := rfl
@[simp] theorem State.modCorrCfg_ctl_hot (s : State) (f : CorrSettings → CorrSettings) : (s.modCorrCfg f).ctl.hot = s.ctl.hot := rfl
@[simp] theorem State.modCorrCfg_ctl_budget (s : State) (f : CorrSettings → CorrSettings) : (s.modCorrCfg f).ctl.budget = s.ctl.budget := rfl
@[simp] theorem State.modCorrCfg_ctl_conns (s : State) (f : CorrSettings → CorrSettings) : (s.modCorrCfg f).ctl.conns = s.ctl.conns := rfl
@[simp] theorem State.modCorrCfg_ctl_sluice (s : State) (f : CorrSettings → CorrSettings) : (s.modCorrCfg f).ctl.sluice = s.ctl.sluice := rfl
@[simp] theorem State.modCorrCfg_ctl_dyke (s : State) (f : CorrSettings → CorrSettings) : (s.modCorrCfg f).ctl.dyke = s.ctl.dyke := rfl
@[simp] theorem State.modCorrCfg_ctl_filters (s : State) (f : CorrSettings → CorrSettings) : (s.modCorrCfg f).ctl.filters = s.ctl.filters := rfl
@[simp] theorem State.modCorrCfg_ctl_handovers (s : State) (f : CorrSettings → CorrSettings) : (s.modCorrCfg f).ctl.handovers = s.ctl.handovers := rfl
@[simp] theorem State.modCorrCfg_ctl_mode (s : State) (f : CorrSettings → CorrSettings) : (s.modCorrCfg f).ctl.mode = s.ctl.mode := rfl
@[simp] theorem State.modCorrCfg_ctl_gpioDir (s : State) (f : CorrSettings → CorrSettings) : (s.modCorrCfg f).ctl.gpioDir = s.ctl.gpioDir := rfl
@[simp] theorem State.modCorrCfg_ctl_gpioLvl (s : State) (f : CorrSettings → CorrSettings) : (s.modCorrCfg f).ctl.gpioLvl = s.ctl.gpioLvl := rfl
@[simp] theorem State.modCorrCfg_ctl_records (s : State) (f : CorrSettings → CorrSettings) : (s.modCorrCfg f).ctl.records = s.ctl.records := rfl
@[simp] theorem State.modCorrCfg_vol (s : State) (f : CorrSettings → CorrSettings) : (s.modCorrCfg f).vol = s.vol := rfl
@[simp] theorem State.modCorrCfg_out (s : State) (f : CorrSettings → CorrSettings) : (s.modCorrCfg f).out = s.out := rfl
@[simp] theorem State.modCorrCfg_clock (s : State) (f : CorrSettings → CorrSettings) : (s.modCorrCfg f).clock = s.clock := rfl
@[simp] theorem State.modCorrCfg_mtbZero (s : State) (f : CorrSettings → CorrSettings) : (s.modCorrCfg f).mtbZero = s.mtbZero := rfl
@[simp] theorem State.modCorrCfg_fresh (s : State) (f : CorrSettings → CorrSettings) : (s.modCorrCfg f).fresh = s.fresh := rfl
@[simp] theorem State.modCorrCfg_pending (s : State) (f : CorrSettings → CorrSettings) : (s.modCorrCfg f).pending = s.pending := rfl
@[simp] theorem State.mapWindows_env (s : State) (f : Nat → Window → Option Window) : (s.mapWindows f).env = s.env := rfl
@[simp] theorem State.mapWindows_hsw (s : State) (f : Nat → Window → Option Window) : (s.mapWindows f).hsw = s.hsw := rfl
@[simp] theorem State.mapWindows_sideA (s : State) (f : Nat → Window → Option Window) : (s.mapWindows f).sideA = s.sideA := rfl
@[simp] theorem State.mapWindows_sideB (s : State) (f : Nat → Window → Option Window) : (s.mapWindows f).sideB = s.sideB := rfl
@[simp] theorem State.mapWindows_ctl_cfg (s : State) (f : Nat → Window → Option Window) : (s.mapWindows f).ctl.cfg = s.ctl.cfg := rfl
@[simp] theorem State.mapWindows_ctl_timeCfg (s : State) (f : Nat → Window → Option Window) : (s.mapWindows f).ctl.timeCfg = s.ctl.timeCfg := rfl
@[simp] theorem State.mapWindows_ctl_time (s : State) (f : Nat → Window → Option Window) : (s.mapWindows f).ctl.time = s.ctl.time := rfl
@[simp] theorem State.mapWindows_ctl_hot (s : State) (f : Nat → Window → Option Window) : (s.mapWindows f).ctl.hot = s.ctl.hot := rfl
@[simp] theorem State.mapWindows_ctl_budget (s : State) (f : Nat → Window → Option Window) : (s.mapWindows f).ctl.budget = s.ctl.budget := rfl
@[simp] theorem State.mapWindows_ctl_conns (s : State) (f : Nat → Window → Option Window) : (s.mapWindows f).ctl.conns = s.ctl.conns := rfl
@[simp] theorem State.mapWindows_ctl_sluice (s : State) (f : Nat → Window → Option Window) : (s.mapWindows f).ctl.sluice = s.ctl.sluice := rfl
@[simp] theorem State.mapWindows_ctl_filters (s : State) (f : Nat → Window → Option Window) : (s.mapWindows f).ctl.filters = s.ctl.filters := rfl
@[simp] theorem State.mapWindows_ctl_handovers (s : State) (f : Nat → Window → Option Window) : (s.mapWindows f).ctl.handovers = s.ctl.handovers := rfl
@[simp] theorem State.mapWindows_ctl_mode (s : State) (f : Nat → Window → Option Window) : (s.mapWindows f).ctl.mode = s.ctl.mode := rfl
@[simp] theorem State.mapWindows_ctl_gpioDir (s : State) (f : Nat → Window → Option Window) : (s.mapWindows f).ctl.gpioDir = s.ctl.gpioDir := rfl
@[simp] theorem State.mapWindows_ctl_gpioLvl (s : State) (f : Nat → Window → Option Window) : (s.mapWindows f).ctl.gpioLvl = s.ctl.gpioLvl := rfl
@[simp] theorem State.mapWindows_ctl_records (s : State) (f : Nat → Window → Option Window) : (s.mapWindows f).ctl.records = s.ctl.records := rfl
@[simp] theorem State.mapWindows_vol (s : State) (f : Nat → Window → Option Window) : (s.mapWindows f).vol = s.vol := rfl
@[simp] theorem State.mapWindows_out (s : State) (f : Nat → Window → Option Window) : (s.mapWindows f).out = s.out := rfl
@[simp] theorem State.mapWindows_clock (s : State) (f : Nat → Window → Option Window) : (s.mapWindows f).clock = s.clock := rfl
@[simp] theorem State.mapWindows_mtbZero (s : State) (f : Nat → Window → Option Window) : (s.mapWindows f).mtbZero = s.mtbZero := rfl
@[simp] theorem State.mapWindows_fresh (s : State) (f : Nat → Window → Option Window) : (s.mapWindows f).fresh = s.fresh := rfl
@[simp] theorem State.mapWindows_pending (s : State) (f : Nat → Window → Option Window) : (s.mapWindows f).pending = s.pending := rfl
@[simp] theorem State.mapCopies_env (s : State) (node : Nat) (f : Nat → Window → Option Window) : (s.mapCopies node f).env = s.env := rfl
@[simp] theorem State.mapCopies_hsw (s : State) (node : Nat) (f : Nat → Window → Option Window) : (s.mapCopies node f).hsw = s.hsw := rfl
@[simp] theorem State.mapCopies_sideA (s : State) (node : Nat) (f : Nat → Window → Option Window) : (s.mapCopies node f).sideA = s.sideA := rfl
@[simp] theorem State.mapCopies_sideB (s : State) (node : Nat) (f : Nat → Window → Option Window) : (s.mapCopies node f).sideB = s.sideB := rfl
@[simp] theorem State.mapCopies_ctl_cfg (s : State) (node : Nat) (f : Nat → Window → Option Window) : (s.mapCopies node f).ctl.cfg = s.ctl.cfg := rfl
@[simp] theorem State.mapCopies_ctl_timeCfg (s : State) (node : Nat) (f : Nat → Window → Option Window) : (s.mapCopies node f).ctl.timeCfg = s.ctl.timeCfg := rfl
@[simp] theorem State.mapCopies_ctl_time (s : State) (node : Nat) (f : Nat → Window → Option Window) : (s.mapCopies node f).ctl.time = s.ctl.time := rfl
@[simp] theorem State.mapCopies_ctl_hot (s : State) (node : Nat) (f : Nat → Window → Option Window) : (s.mapCopies node f).ctl.hot = s.ctl.hot := rfl
@[simp] theorem State.mapCopies_ctl_budget (s : State) (node : Nat) (f : Nat → Window → Option Window) : (s.mapCopies node f).ctl.budget = s.ctl.budget := rfl
@[simp] theorem State.mapCopies_ctl_conns (s : State) (node : Nat) (f : Nat → Window → Option Window) : (s.mapCopies node f).ctl.conns = s.ctl.conns := rfl
@[simp] theorem State.mapCopies_ctl_sluice (s : State) (node : Nat) (f : Nat → Window → Option Window) : (s.mapCopies node f).ctl.sluice = s.ctl.sluice := rfl
@[simp] theorem State.mapCopies_ctl_filters (s : State) (node : Nat) (f : Nat → Window → Option Window) : (s.mapCopies node f).ctl.filters = s.ctl.filters := rfl
@[simp] theorem State.mapCopies_ctl_handovers (s : State) (node : Nat) (f : Nat → Window → Option Window) : (s.mapCopies node f).ctl.handovers = s.ctl.handovers := rfl
@[simp] theorem State.mapCopies_ctl_mode (s : State) (node : Nat) (f : Nat → Window → Option Window) : (s.mapCopies node f).ctl.mode = s.ctl.mode := rfl
@[simp] theorem State.mapCopies_ctl_gpioDir (s : State) (node : Nat) (f : Nat → Window → Option Window) : (s.mapCopies node f).ctl.gpioDir = s.ctl.gpioDir := rfl
@[simp] theorem State.mapCopies_ctl_gpioLvl (s : State) (node : Nat) (f : Nat → Window → Option Window) : (s.mapCopies node f).ctl.gpioLvl = s.ctl.gpioLvl := rfl
@[simp] theorem State.mapCopies_ctl_records (s : State) (node : Nat) (f : Nat → Window → Option Window) : (s.mapCopies node f).ctl.records = s.ctl.records := rfl
@[simp] theorem State.mapCopies_vol (s : State) (node : Nat) (f : Nat → Window → Option Window) : (s.mapCopies node f).vol = s.vol := rfl
@[simp] theorem State.mapCopies_out (s : State) (node : Nat) (f : Nat → Window → Option Window) : (s.mapCopies node f).out = s.out := rfl
@[simp] theorem State.mapCopies_clock (s : State) (node : Nat) (f : Nat → Window → Option Window) : (s.mapCopies node f).clock = s.clock := rfl
@[simp] theorem State.mapCopies_mtbZero (s : State) (node : Nat) (f : Nat → Window → Option Window) : (s.mapCopies node f).mtbZero = s.mtbZero := rfl
@[simp] theorem State.mapCopies_fresh (s : State) (node : Nat) (f : Nat → Window → Option Window) : (s.mapCopies node f).fresh = s.fresh := rfl
@[simp] theorem State.mapCopies_pending (s : State) (node : Nat) (f : Nat → Window → Option Window) : (s.mapCopies node f).pending = s.pending := rfl
@[simp] theorem State.addWindow_env (s : State) (g : Nat) (w : Window) : (s.addWindow g w).env = s.env := rfl
@[simp] theorem State.addWindow_hsw (s : State) (g : Nat) (w : Window) : (s.addWindow g w).hsw = s.hsw := rfl
@[simp] theorem State.addWindow_sideA (s : State) (g : Nat) (w : Window) : (s.addWindow g w).sideA = s.sideA := rfl
@[simp] theorem State.addWindow_sideB (s : State) (g : Nat) (w : Window) : (s.addWindow g w).sideB = s.sideB := rfl
@[simp] theorem State.addWindow_ctl_cfg (s : State) (g : Nat) (w : Window) : (s.addWindow g w).ctl.cfg = s.ctl.cfg := rfl
@[simp] theorem State.addWindow_ctl_timeCfg (s : State) (g : Nat) (w : Window) : (s.addWindow g w).ctl.timeCfg = s.ctl.timeCfg := rfl
@[simp] theorem State.addWindow_ctl_time (s : State) (g : Nat) (w : Window) : (s.addWindow g w).ctl.time = s.ctl.time := rfl
@[simp] theorem State.addWindow_ctl_hot (s : State) (g : Nat) (w : Window) : (s.addWindow g w).ctl.hot = s.ctl.hot := rfl
@[simp] theorem State.addWindow_ctl_budget (s : State) (g : Nat) (w : Window) : (s.addWindow g w).ctl.budget = s.ctl.budget := rfl
@[simp] theorem State.addWindow_ctl_conns (s : State) (g : Nat) (w : Window) : (s.addWindow g w).ctl.conns = s.ctl.conns := rfl
@[simp] theorem State.addWindow_ctl_sluice (s : State) (g : Nat) (w : Window) : (s.addWindow g w).ctl.sluice = s.ctl.sluice := rfl
@[simp] theorem State.addWindow_ctl_filters (s : State) (g : Nat) (w : Window) : (s.addWindow g w).ctl.filters = s.ctl.filters := rfl
@[simp] theorem State.addWindow_ctl_handovers (s : State) (g : Nat) (w : Window) : (s.addWindow g w).ctl.handovers = s.ctl.handovers := rfl
@[simp] theorem State.addWindow_ctl_mode (s : State) (g : Nat) (w : Window) : (s.addWindow g w).ctl.mode = s.ctl.mode := rfl
@[simp] theorem State.addWindow_ctl_gpioDir (s : State) (g : Nat) (w : Window) : (s.addWindow g w).ctl.gpioDir = s.ctl.gpioDir := rfl
@[simp] theorem State.addWindow_ctl_gpioLvl (s : State) (g : Nat) (w : Window) : (s.addWindow g w).ctl.gpioLvl = s.ctl.gpioLvl := rfl
@[simp] theorem State.addWindow_ctl_records (s : State) (g : Nat) (w : Window) : (s.addWindow g w).ctl.records = s.ctl.records := rfl
@[simp] theorem State.addWindow_vol (s : State) (g : Nat) (w : Window) : (s.addWindow g w).vol = s.vol := rfl
@[simp] theorem State.addWindow_out (s : State) (g : Nat) (w : Window) : (s.addWindow g w).out = s.out := rfl
@[simp] theorem State.addWindow_clock (s : State) (g : Nat) (w : Window) : (s.addWindow g w).clock = s.clock := rfl
@[simp] theorem State.addWindow_mtbZero (s : State) (g : Nat) (w : Window) : (s.addWindow g w).mtbZero = s.mtbZero := rfl
@[simp] theorem State.addWindow_fresh (s : State) (g : Nat) (w : Window) : (s.addWindow g w).fresh = s.fresh := rfl
@[simp] theorem State.addWindow_pending (s : State) (g : Nat) (w : Window) : (s.addWindow g w).pending = s.pending := rfl
@[simp] theorem State.modProfile_env (s : State) (node : Nat) (f : ProfileState → ProfileState) : (s.modProfile node f).env = s.env := rfl
@[simp] theorem State.modProfile_hsw (s : State) (node : Nat) (f : ProfileState → ProfileState) : (s.modProfile node f).hsw = s.hsw := rfl
@[simp] theorem State.modProfile_sideA (s : State) (node : Nat) (f : ProfileState → ProfileState) : (s.modProfile node f).sideA = s.sideA := rfl
@[simp] theorem State.modProfile_sideB (s : State) (node : Nat) (f : ProfileState → ProfileState) : (s.modProfile node f).sideB = s.sideB := rfl
@[simp] theorem State.modProfile_ctl_cfg (s : State) (node : Nat) (f : ProfileState → ProfileState) : (s.modProfile node f).ctl.cfg = s.ctl.cfg := rfl
@[simp] theorem State.modProfile_ctl_timeCfg (s : State) (node : Nat) (f : ProfileState → ProfileState) : (s.modProfile node f).ctl.timeCfg = s.ctl.timeCfg := rfl
@[simp] theorem State.modProfile_ctl_time (s : State) (node : Nat) (f : ProfileState → ProfileState) : (s.modProfile node f).ctl.time = s.ctl.time := rfl
@[simp] theorem State.modProfile_ctl_hot (s : State) (node : Nat) (f : ProfileState → ProfileState) : (s.modProfile node f).ctl.hot = s.ctl.hot := rfl
@[simp] theorem State.modProfile_ctl_budget (s : State) (node : Nat) (f : ProfileState → ProfileState) : (s.modProfile node f).ctl.budget = s.ctl.budget := rfl
@[simp] theorem State.modProfile_ctl_conns (s : State) (node : Nat) (f : ProfileState → ProfileState) : (s.modProfile node f).ctl.conns = s.ctl.conns := rfl
@[simp] theorem State.modProfile_ctl_sluice (s : State) (node : Nat) (f : ProfileState → ProfileState) : (s.modProfile node f).ctl.sluice = s.ctl.sluice := rfl
@[simp] theorem State.modProfile_ctl_filters (s : State) (node : Nat) (f : ProfileState → ProfileState) : (s.modProfile node f).ctl.filters = s.ctl.filters := rfl
@[simp] theorem State.modProfile_ctl_handovers (s : State) (node : Nat) (f : ProfileState → ProfileState) : (s.modProfile node f).ctl.handovers = s.ctl.handovers := rfl
@[simp] theorem State.modProfile_ctl_mode (s : State) (node : Nat) (f : ProfileState → ProfileState) : (s.modProfile node f).ctl.mode = s.ctl.mode := rfl
@[simp] theorem State.modProfile_ctl_gpioDir (s : State) (node : Nat) (f : ProfileState → ProfileState) : (s.modProfile node f).ctl.gpioDir = s.ctl.gpioDir := rfl
@[simp] theorem State.modProfile_ctl_gpioLvl (s : State) (node : Nat) (f : ProfileState → ProfileState) : (s.modProfile node f).ctl.gpioLvl = s.ctl.gpioLvl := rfl
@[simp] theorem State.modProfile_ctl_records (s : State) (node : Nat) (f : ProfileState → ProfileState) : (s.modProfile node f).ctl.records = s.ctl.records := rfl
@[simp] theorem State.modProfile_vol (s : State) (node : Nat) (f : ProfileState → ProfileState) : (s.modProfile node f).vol = s.vol := rfl
@[simp] theorem State.modProfile_out (s : State) (node : Nat) (f : ProfileState → ProfileState) : (s.modProfile node f).out = s.out := rfl
@[simp] theorem State.modProfile_clock (s : State) (node : Nat) (f : ProfileState → ProfileState) : (s.modProfile node f).clock = s.clock := rfl
@[simp] theorem State.modProfile_mtbZero (s : State) (node : Nat) (f : ProfileState → ProfileState) : (s.modProfile node f).mtbZero = s.mtbZero := rfl
@[simp] theorem State.modProfile_fresh (s : State) (node : Nat) (f : ProfileState → ProfileState) : (s.modProfile node f).fresh = s.fresh := rfl
@[simp] theorem State.modProfile_pending (s : State) (node : Nat) (f : ProfileState → ProfileState) : (s.modProfile node f).pending = s.pending := rfl
@[simp] theorem State.modAllot_env (s : State) (node : Nat) (f : Allotment → Allotment) : (s.modAllot node f).env = s.env := rfl
@[simp] theorem State.modAllot_hsw (s : State) (node : Nat) (f : Allotment → Allotment) : (s.modAllot node f).hsw = s.hsw := rfl
@[simp] theorem State.modAllot_sideA (s : State) (node : Nat) (f : Allotment → Allotment) : (s.modAllot node f).sideA = s.sideA := rfl
@[simp] theorem State.modAllot_sideB (s : State) (node : Nat) (f : Allotment → Allotment) : (s.modAllot node f).sideB = s.sideB := rfl
@[simp] theorem State.modAllot_ctl_cfg (s : State) (node : Nat) (f : Allotment → Allotment) : (s.modAllot node f).ctl.cfg = s.ctl.cfg := rfl
@[simp] theorem State.modAllot_ctl_timeCfg (s : State) (node : Nat) (f : Allotment → Allotment) : (s.modAllot node f).ctl.timeCfg = s.ctl.timeCfg := rfl
@[simp] theorem State.modAllot_ctl_time (s : State) (node : Nat) (f : Allotment → Allotment) : (s.modAllot node f).ctl.time = s.ctl.time := rfl
@[simp] theorem State.modAllot_ctl_hot (s : State) (node : Nat) (f : Allotment → Allotment) : (s.modAllot node f).ctl.hot = s.ctl.hot := rfl
@[simp] theorem State.modAllot_ctl_budget (s : State) (node : Nat) (f : Allotment → Allotment) : (s.modAllot node f).ctl.budget = s.ctl.budget := rfl
@[simp] theorem State.modAllot_ctl_conns (s : State) (node : Nat) (f : Allotment → Allotment) : (s.modAllot node f).ctl.conns = s.ctl.conns := rfl
@[simp] theorem State.modAllot_ctl_sluice (s : State) (node : Nat) (f : Allotment → Allotment) : (s.modAllot node f).ctl.sluice = s.ctl.sluice := rfl
@[simp] theorem State.modAllot_ctl_filters (s : State) (node : Nat) (f : Allotment → Allotment) : (s.modAllot node f).ctl.filters = s.ctl.filters := rfl
@[simp] theorem State.modAllot_ctl_handovers (s : State) (node : Nat) (f : Allotment → Allotment) : (s.modAllot node f).ctl.handovers = s.ctl.handovers := rfl
@[simp] theorem State.modAllot_ctl_mode (s : State) (node : Nat) (f : Allotment → Allotment) : (s.modAllot node f).ctl.mode = s.ctl.mode := rfl
@[simp] theorem State.modAllot_ctl_gpioDir (s : State) (node : Nat) (f : Allotment → Allotment) : (s.modAllot node f).ctl.gpioDir = s.ctl.gpioDir := rfl
@[simp] theorem State.modAllot_ctl_gpioLvl (s : State) (node : Nat) (f : Allotment → Allotment) : (s.modAllot node f).ctl.gpioLvl = s.ctl.gpioLvl := rfl
@[simp] theorem State.modAllot_ctl_records (s : State) (node : Nat) (f : Allotment → Allotment) : (s.modAllot node f).ctl.records = s.ctl.records := rfl
@[simp] theorem State.modAllot_vol (s : State) (node : Nat) (f : Allotment → Allotment) : (s.modAllot node f).vol = s.vol := rfl
@[simp] theorem State.modAllot_out (s : State) (node : Nat) (f : Allotment → Allotment) : (s.modAllot node f).out = s.out := rfl
@[simp] theorem State.modAllot_clock (s : State) (node : Nat) (f : Allotment → Allotment) : (s.modAllot node f).clock = s.clock := rfl
@[simp] theorem State.modAllot_mtbZero (s : State) (node : Nat) (f : Allotment → Allotment) : (s.modAllot node f).mtbZero = s.mtbZero := rfl
@[simp] theorem State.modAllot_fresh (s : State) (node : Nat) (f : Allotment → Allotment) : (s.modAllot node f).fresh = s.fresh := rfl
@[simp] theorem State.modAllot_pending (s : State) (node : Nat) (f : Allotment → Allotment) : (s.modAllot node f).pending = s.pending := rfl
@[simp] theorem State.modFed_env (s : State) (f : FedRun → FedRun) : (s.modFed f).env = s.env := rfl
@[simp] theorem State.modFed_hsw (s : State) (f : FedRun → FedRun) : (s.modFed f).hsw = s.hsw := rfl
@[simp] theorem State.modFed_sideA (s : State) (f : FedRun → FedRun) : (s.modFed f).sideA = s.sideA := rfl
@[simp] theorem State.modFed_sideB (s : State) (f : FedRun → FedRun) : (s.modFed f).sideB = s.sideB := rfl
@[simp] theorem State.modFed_ctl (s : State) (f : FedRun → FedRun) : (s.modFed f).ctl = s.ctl := rfl
@[simp] theorem State.modFed_vol_gnss (s : State) (f : FedRun → FedRun) : (s.modFed f).vol.gnss = s.vol.gnss := rfl
@[simp] theorem State.modFed_vol_corr (s : State) (f : FedRun → FedRun) : (s.modFed f).vol.corr = s.vol.corr := rfl
@[simp] theorem State.modFed_vol_time (s : State) (f : FedRun → FedRun) : (s.modFed f).vol.time = s.vol.time := rfl
@[simp] theorem State.modFed_vol_radio (s : State) (f : FedRun → FedRun) : (s.modFed f).vol.radio = s.vol.radio := rfl
@[simp] theorem State.modFed_vol_mac (s : State) (f : FedRun → FedRun) : (s.modFed f).vol.mac = s.vol.mac := rfl
@[simp] theorem State.modFed_vol_sluice (s : State) (f : FedRun → FedRun) : (s.modFed f).vol.sluice = s.vol.sluice := rfl
@[simp] theorem State.modFed_vol_dyke (s : State) (f : FedRun → FedRun) : (s.modFed f).vol.dyke = s.vol.dyke := rfl
@[simp] theorem State.modFed_vol_solver (s : State) (f : FedRun → FedRun) : (s.modFed f).vol.solver = s.vol.solver := rfl
@[simp] theorem State.modFed_vol_sched (s : State) (f : FedRun → FedRun) : (s.modFed f).vol.sched = s.vol.sched := rfl
@[simp] theorem State.modFed_vol_peat (s : State) (f : FedRun → FedRun) : (s.modFed f).vol.peat = s.vol.peat := rfl
@[simp] theorem State.modFed_vol_wader (s : State) (f : FedRun → FedRun) : (s.modFed f).vol.wader = s.vol.wader := rfl
@[simp] theorem State.modFed_vol_redun (s : State) (f : FedRun → FedRun) : (s.modFed f).vol.redun = s.vol.redun := rfl
@[simp] theorem State.modFed_vol_sec (s : State) (f : FedRun → FedRun) : (s.modFed f).vol.sec = s.vol.sec := rfl
@[simp] theorem State.modFed_vol_counters (s : State) (f : FedRun → FedRun) : (s.modFed f).vol.counters = s.vol.counters := rfl
@[simp] theorem State.modFed_vol_pendingMode (s : State) (f : FedRun → FedRun) : (s.modFed f).vol.pendingMode = s.vol.pendingMode := rfl
@[simp] theorem State.modFed_out (s : State) (f : FedRun → FedRun) : (s.modFed f).out = s.out := rfl
@[simp] theorem State.modFed_clock (s : State) (f : FedRun → FedRun) : (s.modFed f).clock = s.clock := rfl
@[simp] theorem State.modFed_mtbZero (s : State) (f : FedRun → FedRun) : (s.modFed f).mtbZero = s.mtbZero := rfl
@[simp] theorem State.modFed_fresh (s : State) (f : FedRun → FedRun) : (s.modFed f).fresh = s.fresh := rfl
@[simp] theorem State.modFed_pending (s : State) (f : FedRun → FedRun) : (s.modFed f).pending = s.pending := rfl
@[simp] theorem State.modSource_env (s : State) (node : Nat) (f : SourceHandover → SourceHandover) : (s.modSource node f).env = s.env := rfl
@[simp] theorem State.modSource_hsw (s : State) (node : Nat) (f : SourceHandover → SourceHandover) : (s.modSource node f).hsw = s.hsw := rfl
@[simp] theorem State.modSource_sideA (s : State) (node : Nat) (f : SourceHandover → SourceHandover) : (s.modSource node f).sideA = s.sideA := rfl
@[simp] theorem State.modSource_sideB (s : State) (node : Nat) (f : SourceHandover → SourceHandover) : (s.modSource node f).sideB = s.sideB := rfl
@[simp] theorem State.modSource_ctl_cfg (s : State) (node : Nat) (f : SourceHandover → SourceHandover) : (s.modSource node f).ctl.cfg = s.ctl.cfg := rfl
@[simp] theorem State.modSource_ctl_timeCfg (s : State) (node : Nat) (f : SourceHandover → SourceHandover) : (s.modSource node f).ctl.timeCfg = s.ctl.timeCfg := rfl
@[simp] theorem State.modSource_ctl_time (s : State) (node : Nat) (f : SourceHandover → SourceHandover) : (s.modSource node f).ctl.time = s.ctl.time := rfl
@[simp] theorem State.modSource_ctl_hot (s : State) (node : Nat) (f : SourceHandover → SourceHandover) : (s.modSource node f).ctl.hot = s.ctl.hot := rfl
@[simp] theorem State.modSource_ctl_budget (s : State) (node : Nat) (f : SourceHandover → SourceHandover) : (s.modSource node f).ctl.budget = s.ctl.budget := rfl
@[simp] theorem State.modSource_ctl_conns (s : State) (node : Nat) (f : SourceHandover → SourceHandover) : (s.modSource node f).ctl.conns = s.ctl.conns := rfl
@[simp] theorem State.modSource_ctl_sluice (s : State) (node : Nat) (f : SourceHandover → SourceHandover) : (s.modSource node f).ctl.sluice = s.ctl.sluice := rfl
@[simp] theorem State.modSource_ctl_dyke (s : State) (node : Nat) (f : SourceHandover → SourceHandover) : (s.modSource node f).ctl.dyke = s.ctl.dyke := rfl
@[simp] theorem State.modSource_ctl_filters (s : State) (node : Nat) (f : SourceHandover → SourceHandover) : (s.modSource node f).ctl.filters = s.ctl.filters := rfl
@[simp] theorem State.modSource_ctl_mode (s : State) (node : Nat) (f : SourceHandover → SourceHandover) : (s.modSource node f).ctl.mode = s.ctl.mode := rfl
@[simp] theorem State.modSource_ctl_gpioDir (s : State) (node : Nat) (f : SourceHandover → SourceHandover) : (s.modSource node f).ctl.gpioDir = s.ctl.gpioDir := rfl
@[simp] theorem State.modSource_ctl_gpioLvl (s : State) (node : Nat) (f : SourceHandover → SourceHandover) : (s.modSource node f).ctl.gpioLvl = s.ctl.gpioLvl := rfl
@[simp] theorem State.modSource_ctl_records (s : State) (node : Nat) (f : SourceHandover → SourceHandover) : (s.modSource node f).ctl.records = s.ctl.records := rfl
@[simp] theorem State.modSource_vol (s : State) (node : Nat) (f : SourceHandover → SourceHandover) : (s.modSource node f).vol = s.vol := rfl
@[simp] theorem State.modSource_out (s : State) (node : Nat) (f : SourceHandover → SourceHandover) : (s.modSource node f).out = s.out := rfl
@[simp] theorem State.modSource_clock (s : State) (node : Nat) (f : SourceHandover → SourceHandover) : (s.modSource node f).clock = s.clock := rfl
@[simp] theorem State.modSource_mtbZero (s : State) (node : Nat) (f : SourceHandover → SourceHandover) : (s.modSource node f).mtbZero = s.mtbZero := rfl
@[simp] theorem State.modSource_fresh (s : State) (node : Nat) (f : SourceHandover → SourceHandover) : (s.modSource node f).fresh = s.fresh := rfl
@[simp] theorem State.modSource_pending (s : State) (node : Nat) (f : SourceHandover → SourceHandover) : (s.modSource node f).pending = s.pending := rfl
@[simp] theorem State.dropSource_env (s : State) (node : Nat) : (s.dropSource node).env = s.env := rfl
@[simp] theorem State.dropSource_hsw (s : State) (node : Nat) : (s.dropSource node).hsw = s.hsw := rfl
@[simp] theorem State.dropSource_sideA (s : State) (node : Nat) : (s.dropSource node).sideA = s.sideA := rfl
@[simp] theorem State.dropSource_sideB (s : State) (node : Nat) : (s.dropSource node).sideB = s.sideB := rfl
@[simp] theorem State.dropSource_ctl_cfg (s : State) (node : Nat) : (s.dropSource node).ctl.cfg = s.ctl.cfg := rfl
@[simp] theorem State.dropSource_ctl_timeCfg (s : State) (node : Nat) : (s.dropSource node).ctl.timeCfg = s.ctl.timeCfg := rfl
@[simp] theorem State.dropSource_ctl_time (s : State) (node : Nat) : (s.dropSource node).ctl.time = s.ctl.time := rfl
@[simp] theorem State.dropSource_ctl_hot (s : State) (node : Nat) : (s.dropSource node).ctl.hot = s.ctl.hot := rfl
@[simp] theorem State.dropSource_ctl_budget (s : State) (node : Nat) : (s.dropSource node).ctl.budget = s.ctl.budget := rfl
@[simp] theorem State.dropSource_ctl_conns (s : State) (node : Nat) : (s.dropSource node).ctl.conns = s.ctl.conns := rfl
@[simp] theorem State.dropSource_ctl_sluice (s : State) (node : Nat) : (s.dropSource node).ctl.sluice = s.ctl.sluice := rfl
@[simp] theorem State.dropSource_ctl_dyke (s : State) (node : Nat) : (s.dropSource node).ctl.dyke = s.ctl.dyke := rfl
@[simp] theorem State.dropSource_ctl_filters (s : State) (node : Nat) : (s.dropSource node).ctl.filters = s.ctl.filters := rfl
@[simp] theorem State.dropSource_ctl_mode (s : State) (node : Nat) : (s.dropSource node).ctl.mode = s.ctl.mode := rfl
@[simp] theorem State.dropSource_ctl_gpioDir (s : State) (node : Nat) : (s.dropSource node).ctl.gpioDir = s.ctl.gpioDir := rfl
@[simp] theorem State.dropSource_ctl_gpioLvl (s : State) (node : Nat) : (s.dropSource node).ctl.gpioLvl = s.ctl.gpioLvl := rfl
@[simp] theorem State.dropSource_ctl_records (s : State) (node : Nat) : (s.dropSource node).ctl.records = s.ctl.records := rfl
@[simp] theorem State.dropSource_vol (s : State) (node : Nat) : (s.dropSource node).vol = s.vol := rfl
@[simp] theorem State.dropSource_out (s : State) (node : Nat) : (s.dropSource node).out = s.out := rfl
@[simp] theorem State.dropSource_clock (s : State) (node : Nat) : (s.dropSource node).clock = s.clock := rfl
@[simp] theorem State.dropSource_mtbZero (s : State) (node : Nat) : (s.dropSource node).mtbZero = s.mtbZero := rfl
@[simp] theorem State.dropSource_fresh (s : State) (node : Nat) : (s.dropSource node).fresh = s.fresh := rfl
@[simp] theorem State.dropSource_pending (s : State) (node : Nat) : (s.dropSource node).pending = s.pending := rfl
@[simp] theorem State.modGnss_env (s : State) (f : GnssRun → GnssRun) : (s.modGnss f).env = s.env := rfl
@[simp] theorem State.modGnss_hsw (s : State) (f : GnssRun → GnssRun) : (s.modGnss f).hsw = s.hsw := rfl
@[simp] theorem State.modGnss_sideA (s : State) (f : GnssRun → GnssRun) : (s.modGnss f).sideA = s.sideA := rfl
@[simp] theorem State.modGnss_sideB (s : State) (f : GnssRun → GnssRun) : (s.modGnss f).sideB = s.sideB := rfl
@[simp] theorem State.modGnss_ctl (s : State) (f : GnssRun → GnssRun) : (s.modGnss f).ctl = s.ctl := rfl
@[simp] theorem State.modGnss_vol_corr (s : State) (f : GnssRun → GnssRun) : (s.modGnss f).vol.corr = s.vol.corr := rfl
@[simp] theorem State.modGnss_vol_time (s : State) (f : GnssRun → GnssRun) : (s.modGnss f).vol.time = s.vol.time := rfl
@[simp] theorem State.modGnss_vol_radio (s : State) (f : GnssRun → GnssRun) : (s.modGnss f).vol.radio = s.vol.radio := rfl
@[simp] theorem State.modGnss_vol_mac (s : State) (f : GnssRun → GnssRun) : (s.modGnss f).vol.mac = s.vol.mac := rfl
@[simp] theorem State.modGnss_vol_sluice (s : State) (f : GnssRun → GnssRun) : (s.modGnss f).vol.sluice = s.vol.sluice := rfl
@[simp] theorem State.modGnss_vol_dyke (s : State) (f : GnssRun → GnssRun) : (s.modGnss f).vol.dyke = s.vol.dyke := rfl
@[simp] theorem State.modGnss_vol_solver (s : State) (f : GnssRun → GnssRun) : (s.modGnss f).vol.solver = s.vol.solver := rfl
@[simp] theorem State.modGnss_vol_sched (s : State) (f : GnssRun → GnssRun) : (s.modGnss f).vol.sched = s.vol.sched := rfl
@[simp] theorem State.modGnss_vol_peat (s : State) (f : GnssRun → GnssRun) : (s.modGnss f).vol.peat = s.vol.peat := rfl
@[simp] theorem State.modGnss_vol_wader (s : State) (f : GnssRun → GnssRun) : (s.modGnss f).vol.wader = s.vol.wader := rfl
@[simp] theorem State.modGnss_vol_fed (s : State) (f : GnssRun → GnssRun) : (s.modGnss f).vol.fed = s.vol.fed := rfl
@[simp] theorem State.modGnss_vol_redun (s : State) (f : GnssRun → GnssRun) : (s.modGnss f).vol.redun = s.vol.redun := rfl
@[simp] theorem State.modGnss_vol_sec (s : State) (f : GnssRun → GnssRun) : (s.modGnss f).vol.sec = s.vol.sec := rfl
@[simp] theorem State.modGnss_vol_counters (s : State) (f : GnssRun → GnssRun) : (s.modGnss f).vol.counters = s.vol.counters := rfl
@[simp] theorem State.modGnss_vol_pendingMode (s : State) (f : GnssRun → GnssRun) : (s.modGnss f).vol.pendingMode = s.vol.pendingMode := rfl
@[simp] theorem State.modGnss_out (s : State) (f : GnssRun → GnssRun) : (s.modGnss f).out = s.out := rfl
@[simp] theorem State.modGnss_clock (s : State) (f : GnssRun → GnssRun) : (s.modGnss f).clock = s.clock := rfl
@[simp] theorem State.modGnss_mtbZero (s : State) (f : GnssRun → GnssRun) : (s.modGnss f).mtbZero = s.mtbZero := rfl
@[simp] theorem State.modGnss_fresh (s : State) (f : GnssRun → GnssRun) : (s.modGnss f).fresh = s.fresh := rfl
@[simp] theorem State.modGnss_pending (s : State) (f : GnssRun → GnssRun) : (s.modGnss f).pending = s.pending := rfl
@[simp] theorem State.modChan_env (s : State) (k : Nat) (f : Channel → Channel) : (s.modChan k f).env = s.env := rfl
@[simp] theorem State.modChan_hsw (s : State) (k : Nat) (f : Channel → Channel) : (s.modChan k f).hsw = s.hsw := rfl
@[simp] theorem State.modChan_sideA (s : State) (k : Nat) (f : Channel → Channel) : (s.modChan k f).sideA = s.sideA := rfl
@[simp] theorem State.modChan_sideB (s : State) (k : Nat) (f : Channel → Channel) : (s.modChan k f).sideB = s.sideB := rfl
@[simp] theorem State.modChan_ctl (s : State) (k : Nat) (f : Channel → Channel) : (s.modChan k f).ctl = s.ctl := rfl
@[simp] theorem State.modChan_vol_corr (s : State) (k : Nat) (f : Channel → Channel) : (s.modChan k f).vol.corr = s.vol.corr := rfl
@[simp] theorem State.modChan_vol_time (s : State) (k : Nat) (f : Channel → Channel) : (s.modChan k f).vol.time = s.vol.time := rfl
@[simp] theorem State.modChan_vol_radio (s : State) (k : Nat) (f : Channel → Channel) : (s.modChan k f).vol.radio = s.vol.radio := rfl
@[simp] theorem State.modChan_vol_mac (s : State) (k : Nat) (f : Channel → Channel) : (s.modChan k f).vol.mac = s.vol.mac := rfl
@[simp] theorem State.modChan_vol_sluice (s : State) (k : Nat) (f : Channel → Channel) : (s.modChan k f).vol.sluice = s.vol.sluice := rfl
@[simp] theorem State.modChan_vol_dyke (s : State) (k : Nat) (f : Channel → Channel) : (s.modChan k f).vol.dyke = s.vol.dyke := rfl
@[simp] theorem State.modChan_vol_solver (s : State) (k : Nat) (f : Channel → Channel) : (s.modChan k f).vol.solver = s.vol.solver := rfl
@[simp] theorem State.modChan_vol_sched (s : State) (k : Nat) (f : Channel → Channel) : (s.modChan k f).vol.sched = s.vol.sched := rfl
@[simp] theorem State.modChan_vol_peat (s : State) (k : Nat) (f : Channel → Channel) : (s.modChan k f).vol.peat = s.vol.peat := rfl
@[simp] theorem State.modChan_vol_wader (s : State) (k : Nat) (f : Channel → Channel) : (s.modChan k f).vol.wader = s.vol.wader := rfl
@[simp] theorem State.modChan_vol_fed (s : State) (k : Nat) (f : Channel → Channel) : (s.modChan k f).vol.fed = s.vol.fed := rfl
@[simp] theorem State.modChan_vol_redun (s : State) (k : Nat) (f : Channel → Channel) : (s.modChan k f).vol.redun = s.vol.redun := rfl
@[simp] theorem State.modChan_vol_sec (s : State) (k : Nat) (f : Channel → Channel) : (s.modChan k f).vol.sec = s.vol.sec := rfl
@[simp] theorem State.modChan_vol_counters (s : State) (k : Nat) (f : Channel → Channel) : (s.modChan k f).vol.counters = s.vol.counters := rfl
@[simp] theorem State.modChan_vol_pendingMode (s : State) (k : Nat) (f : Channel → Channel) : (s.modChan k f).vol.pendingMode = s.vol.pendingMode := rfl
@[simp] theorem State.modChan_out (s : State) (k : Nat) (f : Channel → Channel) : (s.modChan k f).out = s.out := rfl
@[simp] theorem State.modChan_clock (s : State) (k : Nat) (f : Channel → Channel) : (s.modChan k f).clock = s.clock := rfl
@[simp] theorem State.modChan_mtbZero (s : State) (k : Nat) (f : Channel → Channel) : (s.modChan k f).mtbZero = s.mtbZero := rfl
@[simp] theorem State.modChan_fresh (s : State) (k : Nat) (f : Channel → Channel) : (s.modChan k f).fresh = s.fresh := rfl
@[simp] theorem State.modChan_pending (s : State) (k : Nat) (f : Channel → Channel) : (s.modChan k f).pending = s.pending := rfl
@[simp] theorem State.modMonitor_env (s : State) (fe : Nat) (f : Monitor → Monitor) : (s.modMonitor fe f).env = s.env := rfl
@[simp] theorem State.modMonitor_hsw (s : State) (fe : Nat) (f : Monitor → Monitor) : (s.modMonitor fe f).hsw = s.hsw := rfl
@[simp] theorem State.modMonitor_sideA (s : State) (fe : Nat) (f : Monitor → Monitor) : (s.modMonitor fe f).sideA = s.sideA := rfl
@[simp] theorem State.modMonitor_sideB (s : State) (fe : Nat) (f : Monitor → Monitor) : (s.modMonitor fe f).sideB = s.sideB := rfl
@[simp] theorem State.modMonitor_ctl (s : State) (fe : Nat) (f : Monitor → Monitor) : (s.modMonitor fe f).ctl = s.ctl := rfl
@[simp] theorem State.modMonitor_vol_corr (s : State) (fe : Nat) (f : Monitor → Monitor) : (s.modMonitor fe f).vol.corr = s.vol.corr := rfl
@[simp] theorem State.modMonitor_vol_time (s : State) (fe : Nat) (f : Monitor → Monitor) : (s.modMonitor fe f).vol.time = s.vol.time := rfl
@[simp] theorem State.modMonitor_vol_radio (s : State) (fe : Nat) (f : Monitor → Monitor) : (s.modMonitor fe f).vol.radio = s.vol.radio := rfl
@[simp] theorem State.modMonitor_vol_mac (s : State) (fe : Nat) (f : Monitor → Monitor) : (s.modMonitor fe f).vol.mac = s.vol.mac := rfl
@[simp] theorem State.modMonitor_vol_sluice (s : State) (fe : Nat) (f : Monitor → Monitor) : (s.modMonitor fe f).vol.sluice = s.vol.sluice := rfl
@[simp] theorem State.modMonitor_vol_dyke (s : State) (fe : Nat) (f : Monitor → Monitor) : (s.modMonitor fe f).vol.dyke = s.vol.dyke := rfl
@[simp] theorem State.modMonitor_vol_solver (s : State) (fe : Nat) (f : Monitor → Monitor) : (s.modMonitor fe f).vol.solver = s.vol.solver := rfl
@[simp] theorem State.modMonitor_vol_sched (s : State) (fe : Nat) (f : Monitor → Monitor) : (s.modMonitor fe f).vol.sched = s.vol.sched := rfl
@[simp] theorem State.modMonitor_vol_peat (s : State) (fe : Nat) (f : Monitor → Monitor) : (s.modMonitor fe f).vol.peat = s.vol.peat := rfl
@[simp] theorem State.modMonitor_vol_wader (s : State) (fe : Nat) (f : Monitor → Monitor) : (s.modMonitor fe f).vol.wader = s.vol.wader := rfl
@[simp] theorem State.modMonitor_vol_fed (s : State) (fe : Nat) (f : Monitor → Monitor) : (s.modMonitor fe f).vol.fed = s.vol.fed := rfl
@[simp] theorem State.modMonitor_vol_redun (s : State) (fe : Nat) (f : Monitor → Monitor) : (s.modMonitor fe f).vol.redun = s.vol.redun := rfl
@[simp] theorem State.modMonitor_vol_sec (s : State) (fe : Nat) (f : Monitor → Monitor) : (s.modMonitor fe f).vol.sec = s.vol.sec := rfl
@[simp] theorem State.modMonitor_vol_counters (s : State) (fe : Nat) (f : Monitor → Monitor) : (s.modMonitor fe f).vol.counters = s.vol.counters := rfl
@[simp] theorem State.modMonitor_vol_pendingMode (s : State) (fe : Nat) (f : Monitor → Monitor) : (s.modMonitor fe f).vol.pendingMode = s.vol.pendingMode := rfl
@[simp] theorem State.modMonitor_out (s : State) (fe : Nat) (f : Monitor → Monitor) : (s.modMonitor fe f).out = s.out := rfl
@[simp] theorem State.modMonitor_clock (s : State) (fe : Nat) (f : Monitor → Monitor) : (s.modMonitor fe f).clock = s.clock := rfl
@[simp] theorem State.modMonitor_mtbZero (s : State) (fe : Nat) (f : Monitor → Monitor) : (s.modMonitor fe f).mtbZero = s.mtbZero := rfl
@[simp] theorem State.modMonitor_fresh (s : State) (fe : Nat) (f : Monitor → Monitor) : (s.modMonitor fe f).fresh = s.fresh := rfl
@[simp] theorem State.modMonitor_pending (s : State) (fe : Nat) (f : Monitor → Monitor) : (s.modMonitor fe f).pending = s.pending := rfl
@[simp] theorem State.modConn_env (s : State) (node : Nat) (f : Conn → Conn) : (s.modConn node f).env = s.env := rfl
@[simp] theorem State.modConn_hsw (s : State) (node : Nat) (f : Conn → Conn) : (s.modConn node f).hsw = s.hsw := rfl
@[simp] theorem State.modConn_sideA (s : State) (node : Nat) (f : Conn → Conn) : (s.modConn node f).sideA = s.sideA := rfl
@[simp] theorem State.modConn_sideB (s : State) (node : Nat) (f : Conn → Conn) : (s.modConn node f).sideB = s.sideB := rfl
@[simp] theorem State.modConn_ctl_cfg (s : State) (node : Nat) (f : Conn → Conn) : (s.modConn node f).ctl.cfg = s.ctl.cfg := rfl
@[simp] theorem State.modConn_ctl_timeCfg (s : State) (node : Nat) (f : Conn → Conn) : (s.modConn node f).ctl.timeCfg = s.ctl.timeCfg := rfl
@[simp] theorem State.modConn_ctl_time (s : State) (node : Nat) (f : Conn → Conn) : (s.modConn node f).ctl.time = s.ctl.time := rfl
@[simp] theorem State.modConn_ctl_hot (s : State) (node : Nat) (f : Conn → Conn) : (s.modConn node f).ctl.hot = s.ctl.hot := rfl
@[simp] theorem State.modConn_ctl_budget (s : State) (node : Nat) (f : Conn → Conn) : (s.modConn node f).ctl.budget = s.ctl.budget := rfl
@[simp] theorem State.modConn_ctl_sluice (s : State) (node : Nat) (f : Conn → Conn) : (s.modConn node f).ctl.sluice = s.ctl.sluice := rfl
@[simp] theorem State.modConn_ctl_dyke (s : State) (node : Nat) (f : Conn → Conn) : (s.modConn node f).ctl.dyke = s.ctl.dyke := rfl
@[simp] theorem State.modConn_ctl_filters (s : State) (node : Nat) (f : Conn → Conn) : (s.modConn node f).ctl.filters = s.ctl.filters := rfl
@[simp] theorem State.modConn_ctl_handovers (s : State) (node : Nat) (f : Conn → Conn) : (s.modConn node f).ctl.handovers = s.ctl.handovers := rfl
@[simp] theorem State.modConn_ctl_mode (s : State) (node : Nat) (f : Conn → Conn) : (s.modConn node f).ctl.mode = s.ctl.mode := rfl
@[simp] theorem State.modConn_ctl_gpioDir (s : State) (node : Nat) (f : Conn → Conn) : (s.modConn node f).ctl.gpioDir = s.ctl.gpioDir := rfl
@[simp] theorem State.modConn_ctl_gpioLvl (s : State) (node : Nat) (f : Conn → Conn) : (s.modConn node f).ctl.gpioLvl = s.ctl.gpioLvl := rfl
@[simp] theorem State.modConn_ctl_records (s : State) (node : Nat) (f : Conn → Conn) : (s.modConn node f).ctl.records = s.ctl.records := rfl
@[simp] theorem State.modConn_vol (s : State) (node : Nat) (f : Conn → Conn) : (s.modConn node f).vol = s.vol := rfl
@[simp] theorem State.modConn_out (s : State) (node : Nat) (f : Conn → Conn) : (s.modConn node f).out = s.out := rfl
@[simp] theorem State.modConn_clock (s : State) (node : Nat) (f : Conn → Conn) : (s.modConn node f).clock = s.clock := rfl
@[simp] theorem State.modConn_mtbZero (s : State) (node : Nat) (f : Conn → Conn) : (s.modConn node f).mtbZero = s.mtbZero := rfl
@[simp] theorem State.modConn_fresh (s : State) (node : Nat) (f : Conn → Conn) : (s.modConn node f).fresh = s.fresh := rfl
@[simp] theorem State.modConn_pending (s : State) (node : Nat) (f : Conn → Conn) : (s.modConn node f).pending = s.pending := rfl
@[simp] theorem State.modConnRun_env (s : State) (node : Nat) (f : ConnRun → ConnRun) : (s.modConnRun node f).env = s.env := rfl
@[simp] theorem State.modConnRun_hsw (s : State) (node : Nat) (f : ConnRun → ConnRun) : (s.modConnRun node f).hsw = s.hsw := rfl
@[simp] theorem State.modConnRun_sideA (s : State) (node : Nat) (f : ConnRun → ConnRun) : (s.modConnRun node f).sideA = s.sideA := rfl
@[simp] theorem State.modConnRun_sideB (s : State) (node : Nat) (f : ConnRun → ConnRun) : (s.modConnRun node f).sideB = s.sideB := rfl
@[simp] theorem State.modConnRun_ctl (s : State) (node : Nat) (f : ConnRun → ConnRun) : (s.modConnRun node f).ctl = s.ctl := rfl
@[simp] theorem State.modConnRun_vol_gnss (s : State) (node : Nat) (f : ConnRun → ConnRun) : (s.modConnRun node f).vol.gnss = s.vol.gnss := rfl
@[simp] theorem State.modConnRun_vol_corr (s : State) (node : Nat) (f : ConnRun → ConnRun) : (s.modConnRun node f).vol.corr = s.vol.corr := rfl
@[simp] theorem State.modConnRun_vol_time (s : State) (node : Nat) (f : ConnRun → ConnRun) : (s.modConnRun node f).vol.time = s.vol.time := rfl
@[simp] theorem State.modConnRun_vol_radio (s : State) (node : Nat) (f : ConnRun → ConnRun) : (s.modConnRun node f).vol.radio = s.vol.radio := rfl
@[simp] theorem State.modConnRun_vol_sluice (s : State) (node : Nat) (f : ConnRun → ConnRun) : (s.modConnRun node f).vol.sluice = s.vol.sluice := rfl
@[simp] theorem State.modConnRun_vol_dyke (s : State) (node : Nat) (f : ConnRun → ConnRun) : (s.modConnRun node f).vol.dyke = s.vol.dyke := rfl
@[simp] theorem State.modConnRun_vol_solver (s : State) (node : Nat) (f : ConnRun → ConnRun) : (s.modConnRun node f).vol.solver = s.vol.solver := rfl
@[simp] theorem State.modConnRun_vol_sched (s : State) (node : Nat) (f : ConnRun → ConnRun) : (s.modConnRun node f).vol.sched = s.vol.sched := rfl
@[simp] theorem State.modConnRun_vol_peat (s : State) (node : Nat) (f : ConnRun → ConnRun) : (s.modConnRun node f).vol.peat = s.vol.peat := rfl
@[simp] theorem State.modConnRun_vol_wader (s : State) (node : Nat) (f : ConnRun → ConnRun) : (s.modConnRun node f).vol.wader = s.vol.wader := rfl
@[simp] theorem State.modConnRun_vol_fed (s : State) (node : Nat) (f : ConnRun → ConnRun) : (s.modConnRun node f).vol.fed = s.vol.fed := rfl
@[simp] theorem State.modConnRun_vol_redun (s : State) (node : Nat) (f : ConnRun → ConnRun) : (s.modConnRun node f).vol.redun = s.vol.redun := rfl
@[simp] theorem State.modConnRun_vol_sec (s : State) (node : Nat) (f : ConnRun → ConnRun) : (s.modConnRun node f).vol.sec = s.vol.sec := rfl
@[simp] theorem State.modConnRun_vol_counters (s : State) (node : Nat) (f : ConnRun → ConnRun) : (s.modConnRun node f).vol.counters = s.vol.counters := rfl
@[simp] theorem State.modConnRun_vol_pendingMode (s : State) (node : Nat) (f : ConnRun → ConnRun) : (s.modConnRun node f).vol.pendingMode = s.vol.pendingMode := rfl
@[simp] theorem State.modConnRun_out (s : State) (node : Nat) (f : ConnRun → ConnRun) : (s.modConnRun node f).out = s.out := rfl
@[simp] theorem State.modConnRun_clock (s : State) (node : Nat) (f : ConnRun → ConnRun) : (s.modConnRun node f).clock = s.clock := rfl
@[simp] theorem State.modConnRun_mtbZero (s : State) (node : Nat) (f : ConnRun → ConnRun) : (s.modConnRun node f).mtbZero = s.mtbZero := rfl
@[simp] theorem State.modConnRun_fresh (s : State) (node : Nat) (f : ConnRun → ConnRun) : (s.modConnRun node f).fresh = s.fresh := rfl
@[simp] theorem State.modConnRun_pending (s : State) (node : Nat) (f : ConnRun → ConnRun) : (s.modConnRun node f).pending = s.pending := rfl
@[simp] theorem State.modMacLane_env (s : State) (l : Nat) (f : MacLane → MacLane) : (s.modMacLane l f).env = s.env := rfl
@[simp] theorem State.modMacLane_hsw (s : State) (l : Nat) (f : MacLane → MacLane) : (s.modMacLane l f).hsw = s.hsw := rfl
@[simp] theorem State.modMacLane_sideA (s : State) (l : Nat) (f : MacLane → MacLane) : (s.modMacLane l f).sideA = s.sideA := rfl
@[simp] theorem State.modMacLane_sideB (s : State) (l : Nat) (f : MacLane → MacLane) : (s.modMacLane l f).sideB = s.sideB := rfl
@[simp] theorem State.modMacLane_ctl (s : State) (l : Nat) (f : MacLane → MacLane) : (s.modMacLane l f).ctl = s.ctl := rfl
@[simp] theorem State.modMacLane_vol_gnss (s : State) (l : Nat) (f : MacLane → MacLane) : (s.modMacLane l f).vol.gnss = s.vol.gnss := rfl
@[simp] theorem State.modMacLane_vol_corr (s : State) (l : Nat) (f : MacLane → MacLane) : (s.modMacLane l f).vol.corr = s.vol.corr := rfl
@[simp] theorem State.modMacLane_vol_time (s : State) (l : Nat) (f : MacLane → MacLane) : (s.modMacLane l f).vol.time = s.vol.time := rfl
@[simp] theorem State.modMacLane_vol_radio (s : State) (l : Nat) (f : MacLane → MacLane) : (s.modMacLane l f).vol.radio = s.vol.radio := rfl
@[simp] theorem State.modMacLane_vol_sluice (s : State) (l : Nat) (f : MacLane → MacLane) : (s.modMacLane l f).vol.sluice = s.vol.sluice := rfl
@[simp] theorem State.modMacLane_vol_dyke (s : State) (l : Nat) (f : MacLane → MacLane) : (s.modMacLane l f).vol.dyke = s.vol.dyke := rfl
@[simp] theorem State.modMacLane_vol_solver (s : State) (l : Nat) (f : MacLane → MacLane) : (s.modMacLane l f).vol.solver = s.vol.solver := rfl
@[simp] theorem State.modMacLane_vol_sched (s : State) (l : Nat) (f : MacLane → MacLane) : (s.modMacLane l f).vol.sched = s.vol.sched := rfl
@[simp] theorem State.modMacLane_vol_peat (s : State) (l : Nat) (f : MacLane → MacLane) : (s.modMacLane l f).vol.peat = s.vol.peat := rfl
@[simp] theorem State.modMacLane_vol_wader (s : State) (l : Nat) (f : MacLane → MacLane) : (s.modMacLane l f).vol.wader = s.vol.wader := rfl
@[simp] theorem State.modMacLane_vol_fed (s : State) (l : Nat) (f : MacLane → MacLane) : (s.modMacLane l f).vol.fed = s.vol.fed := rfl
@[simp] theorem State.modMacLane_vol_redun (s : State) (l : Nat) (f : MacLane → MacLane) : (s.modMacLane l f).vol.redun = s.vol.redun := rfl
@[simp] theorem State.modMacLane_vol_sec (s : State) (l : Nat) (f : MacLane → MacLane) : (s.modMacLane l f).vol.sec = s.vol.sec := rfl
@[simp] theorem State.modMacLane_vol_counters (s : State) (l : Nat) (f : MacLane → MacLane) : (s.modMacLane l f).vol.counters = s.vol.counters := rfl
@[simp] theorem State.modMacLane_vol_pendingMode (s : State) (l : Nat) (f : MacLane → MacLane) : (s.modMacLane l f).vol.pendingMode = s.vol.pendingMode := rfl
@[simp] theorem State.modMacLane_out (s : State) (l : Nat) (f : MacLane → MacLane) : (s.modMacLane l f).out = s.out := rfl
@[simp] theorem State.modMacLane_clock (s : State) (l : Nat) (f : MacLane → MacLane) : (s.modMacLane l f).clock = s.clock := rfl
@[simp] theorem State.modMacLane_mtbZero (s : State) (l : Nat) (f : MacLane → MacLane) : (s.modMacLane l f).mtbZero = s.mtbZero := rfl
@[simp] theorem State.modMacLane_fresh (s : State) (l : Nat) (f : MacLane → MacLane) : (s.modMacLane l f).fresh = s.fresh := rfl
@[simp] theorem State.modMacLane_pending (s : State) (l : Nat) (f : MacLane → MacLane) : (s.modMacLane l f).pending = s.pending := rfl
@[simp] theorem State.modSide_env (s : State) (x : SideId) (f : SideState → SideState) : (s.modSide x f).env = s.env := by cases x <;> rfl
@[simp] theorem State.modSide_hsw (s : State) (x : SideId) (f : SideState → SideState) : (s.modSide x f).hsw = s.hsw := by cases x <;> rfl
@[simp] theorem State.modSide_ctl (s : State) (x : SideId) (f : SideState → SideState) : (s.modSide x f).ctl = s.ctl := by cases x <;> rfl
@[simp] theorem State.modSide_vol (s : State) (x : SideId) (f : SideState → SideState) : (s.modSide x f).vol = s.vol := by cases x <;> rfl
@[simp] theorem State.modSide_out (s : State) (x : SideId) (f : SideState → SideState) : (s.modSide x f).out = s.out := by cases x <;> rfl
@[simp] theorem State.modSide_clock (s : State) (x : SideId) (f : SideState → SideState) : (s.modSide x f).clock = s.clock := by cases x <;> rfl
@[simp] theorem State.modSide_mtbZero (s : State) (x : SideId) (f : SideState → SideState) : (s.modSide x f).mtbZero = s.mtbZero := by cases x <;> rfl
@[simp] theorem State.modSide_fresh (s : State) (x : SideId) (f : SideState → SideState) : (s.modSide x f).fresh = s.fresh := by cases x <;> rfl
@[simp] theorem State.modSide_pending (s : State) (x : SideId) (f : SideState → SideState) : (s.modSide x f).pending = s.pending := by cases x <;> rfl
@[simp] theorem State.modAct_env (s : State) (f : SideState → SideState) : (s.modAct f).env = s.env := by unfold State.modAct; simp
@[simp] theorem State.modAct_hsw (s : State) (f : SideState → SideState) : (s.modAct f).hsw = s.hsw := by unfold State.modAct; simp
@[simp] theorem State.modAct_ctl (s : State) (f : SideState → SideState) : (s.modAct f).ctl = s.ctl := by unfold State.modAct; simp
@[simp] theorem State.modAct_vol (s : State) (f : SideState → SideState) : (s.modAct f).vol = s.vol := by unfold State.modAct; simp
@[simp] theorem State.modAct_out (s : State) (f : SideState → SideState) : (s.modAct f).out = s.out := by unfold State.modAct; simp
@[simp] theorem State.modAct_clock (s : State) (f : SideState → SideState) : (s.modAct f).clock = s.clock := by unfold State.modAct; simp
@[simp] theorem State.modAct_mtbZero (s : State) (f : SideState → SideState) : (s.modAct f).mtbZero = s.mtbZero := by unfold State.modAct; simp
@[simp] theorem State.modAct_fresh (s : State) (f : SideState → SideState) : (s.modAct f).fresh = s.fresh := by unfold State.modAct; simp
@[simp] theorem State.modAct_pending (s : State) (f : SideState → SideState) : (s.modAct f).pending = s.pending := by unfold State.modAct; simp
@[simp] theorem passTicks_env (n : Nat) (s : State) : (passTicks n s).env = s.env := rfl
@[simp] theorem passTicks_hsw (n : Nat) (s : State) : (passTicks n s).hsw = s.hsw := rfl
@[simp] theorem passTicks_sideA (n : Nat) (s : State) : (passTicks n s).sideA = s.sideA := rfl
@[simp] theorem passTicks_sideB (n : Nat) (s : State) : (passTicks n s).sideB = s.sideB := rfl
@[simp] theorem passTicks_ctl_cfg (n : Nat) (s : State) : (passTicks n s).ctl.cfg = s.ctl.cfg := rfl
@[simp] theorem passTicks_ctl_timeCfg (n : Nat) (s : State) : (passTicks n s).ctl.timeCfg = s.ctl.timeCfg := rfl
@[simp] theorem passTicks_ctl_hot (n : Nat) (s : State) : (passTicks n s).ctl.hot = s.ctl.hot := rfl
@[simp] theorem passTicks_ctl_budget (n : Nat) (s : State) : (passTicks n s).ctl.budget = s.ctl.budget := rfl
@[simp] theorem passTicks_ctl_conns (n : Nat) (s : State) : (passTicks n s).ctl.conns = s.ctl.conns := rfl
@[simp] theorem passTicks_ctl_sluice (n : Nat) (s : State) : (passTicks n s).ctl.sluice = s.ctl.sluice := rfl
@[simp] theorem passTicks_ctl_dyke (n : Nat) (s : State) : (passTicks n s).ctl.dyke = s.ctl.dyke := rfl
@[simp] theorem passTicks_ctl_filters (n : Nat) (s : State) : (passTicks n s).ctl.filters = s.ctl.filters := rfl
@[simp] theorem passTicks_ctl_handovers (n : Nat) (s : State) : (passTicks n s).ctl.handovers = s.ctl.handovers := rfl
@[simp] theorem passTicks_ctl_mode (n : Nat) (s : State) : (passTicks n s).ctl.mode = s.ctl.mode := rfl
@[simp] theorem passTicks_ctl_gpioDir (n : Nat) (s : State) : (passTicks n s).ctl.gpioDir = s.ctl.gpioDir := rfl
@[simp] theorem passTicks_ctl_gpioLvl (n : Nat) (s : State) : (passTicks n s).ctl.gpioLvl = s.ctl.gpioLvl := rfl
@[simp] theorem passTicks_ctl_records (n : Nat) (s : State) : (passTicks n s).ctl.records = s.ctl.records := rfl
@[simp] theorem passTicks_vol_gnss (n : Nat) (s : State) : (passTicks n s).vol.gnss = s.vol.gnss := rfl
@[simp] theorem passTicks_vol_corr (n : Nat) (s : State) : (passTicks n s).vol.corr = s.vol.corr := rfl
@[simp] theorem passTicks_vol_radio (n : Nat) (s : State) : (passTicks n s).vol.radio = s.vol.radio := rfl
@[simp] theorem passTicks_vol_mac (n : Nat) (s : State) : (passTicks n s).vol.mac = s.vol.mac := rfl
@[simp] theorem passTicks_vol_sluice (n : Nat) (s : State) : (passTicks n s).vol.sluice = s.vol.sluice := rfl
@[simp] theorem passTicks_vol_dyke (n : Nat) (s : State) : (passTicks n s).vol.dyke = s.vol.dyke := rfl
@[simp] theorem passTicks_vol_solver (n : Nat) (s : State) : (passTicks n s).vol.solver = s.vol.solver := rfl
@[simp] theorem passTicks_vol_sched (n : Nat) (s : State) : (passTicks n s).vol.sched = s.vol.sched := rfl
@[simp] theorem passTicks_vol_peat (n : Nat) (s : State) : (passTicks n s).vol.peat = s.vol.peat := rfl
@[simp] theorem passTicks_vol_wader (n : Nat) (s : State) : (passTicks n s).vol.wader = s.vol.wader := rfl
@[simp] theorem passTicks_vol_fed (n : Nat) (s : State) : (passTicks n s).vol.fed = s.vol.fed := rfl
@[simp] theorem passTicks_vol_redun (n : Nat) (s : State) : (passTicks n s).vol.redun = s.vol.redun := rfl
@[simp] theorem passTicks_vol_sec (n : Nat) (s : State) : (passTicks n s).vol.sec = s.vol.sec := rfl
@[simp] theorem passTicks_vol_counters (n : Nat) (s : State) : (passTicks n s).vol.counters = s.vol.counters := rfl
@[simp] theorem passTicks_vol_pendingMode (n : Nat) (s : State) : (passTicks n s).vol.pendingMode = s.vol.pendingMode := rfl
@[simp] theorem passTicks_vol_time_state (n : Nat) (s : State) : (passTicks n s).vol.time.state = s.vol.time.state := rfl
@[simp] theorem passTicks_vol_time_estErr (n : Nat) (s : State) : (passTicks n s).vol.time.estErr = s.vol.time.estErr := rfl
@[simp] theorem passTicks_vol_time_entryErr (n : Nat) (s : State) : (passTicks n s).vol.time.entryErr = s.vol.time.entryErr := rfl
@[simp] theorem passTicks_vol_time_enteredAt (n : Nat) (s : State) : (passTicks n s).vol.time.enteredAt = s.vol.time.enteredAt := rfl
@[simp] theorem passTicks_vol_time_modelAt (n : Nat) (s : State) : (passTicks n s).vol.time.modelAt = s.vol.time.modelAt := rfl
@[simp] theorem passTicks_vol_time_refInUse (n : Nat) (s : State) : (passTicks n s).vol.time.refInUse = s.vol.time.refInUse := rfl
@[simp] theorem passTicks_vol_time_pending (n : Nat) (s : State) : (passTicks n s).vol.time.pending = s.vol.time.pending := rfl
@[simp] theorem passTicks_vol_time_cancelled (n : Nat) (s : State) : (passTicks n s).vol.time.cancelled = s.vol.time.cancelled := rfl
@[simp] theorem passTicks_vol_time_stepped (n : Nat) (s : State) : (passTicks n s).vol.time.stepped = s.vol.time.stepped := rfl
@[simp] theorem passTicks_vol_time_syncRef (n : Nat) (s : State) : (passTicks n s).vol.time.syncRef = s.vol.time.syncRef := rfl
@[simp] theorem passTicks_vol_time_decoded (n : Nat) (s : State) : (passTicks n s).vol.time.decoded = s.vol.time.decoded := rfl
@[simp] theorem passTicks_vol_time_decodedBy (n : Nat) (s : State) : (passTicks n s).vol.time.decodedBy = s.vol.time.decodedBy := rfl
@[simp] theorem passTicks_vol_time_rate (n : Nat) (s : State) : (passTicks n s).vol.time.rate = s.vol.time.rate := rfl
@[simp] theorem passTicks_vol_time_nextRate (n : Nat) (s : State) : (passTicks n s).vol.time.nextRate = s.vol.time.nextRate := rfl
@[simp] theorem passTicks_vol_time_nextSlew (n : Nat) (s : State) : (passTicks n s).vol.time.nextSlew = s.vol.time.nextSlew := rfl
@[simp] theorem passTicks_vol_time_ptbRate (n : Nat) (s : State) : (passTicks n s).vol.time.ptbRate = s.vol.time.ptbRate := rfl
@[simp] theorem passTicks_vol_time_offsets (n : Nat) (s : State) : (passTicks n s).vol.time.offsets = s.vol.time.offsets := rfl
@[simp] theorem passTicks_vol_time_refCount (n : Nat) (s : State) : (passTicks n s).vol.time.refCount = s.vol.time.refCount := rfl
@[simp] theorem passTicks_vol_time_refCal (n : Nat) (s : State) : (passTicks n s).vol.time.refCal = s.vol.time.refCal := rfl
@[simp] theorem passTicks_vol_time_timingOk (n : Nat) (s : State) : (passTicks n s).vol.time.timingOk = s.vol.time.timingOk := rfl
@[simp] theorem passTicks_vol_time_readySince (n : Nat) (s : State) : (passTicks n s).vol.time.readySince = s.vol.time.readySince := rfl
@[simp] theorem passTicks_vol_time_ppsInPs (n : Nat) (s : State) : (passTicks n s).vol.time.ppsInPs = s.vol.time.ppsInPs := rfl
@[simp] theorem passTicks_vol_time_ppsInAt (n : Nat) (s : State) : (passTicks n s).vol.time.ppsInAt = s.vol.time.ppsInAt := rfl
@[simp] theorem passTicks_vol_time_pulses (n : Nat) (s : State) : (passTicks n s).vol.time.pulses = s.vol.time.pulses := rfl
@[simp] theorem passTicks_vol_time_ppsFrom (n : Nat) (s : State) : (passTicks n s).vol.time.ppsFrom = s.vol.time.ppsFrom := rfl
@[simp] theorem passTicks_vol_time_ports (n : Nat) (s : State) : (passTicks n s).vol.time.ports = s.vol.time.ports := rfl
@[simp] theorem passTicks_vol_time_gmIdentity (n : Nat) (s : State) : (passTicks n s).vol.time.gmIdentity = s.vol.time.gmIdentity := rfl
@[simp] theorem passTicks_out (n : Nat) (s : State) : (passTicks n s).out = s.out := rfl
@[simp] theorem passTicks_mtbZero (n : Nat) (s : State) : (passTicks n s).mtbZero = s.mtbZero := rfl
@[simp] theorem passTicks_fresh (n : Nat) (s : State) : (passTicks n s).fresh = s.fresh := rfl
@[simp] theorem passTicks_pending (n : Nat) (s : State) : (passTicks n s).pending = s.pending := rfl
@[simp] theorem headOut_env (op : HeadOp) (s : State) : (headOut op s).env = s.env := rfl
@[simp] theorem headOut_hsw (op : HeadOp) (s : State) : (headOut op s).hsw = s.hsw := rfl
@[simp] theorem headOut_sideA (op : HeadOp) (s : State) : (headOut op s).sideA = s.sideA := rfl
@[simp] theorem headOut_sideB (op : HeadOp) (s : State) : (headOut op s).sideB = s.sideB := rfl
@[simp] theorem headOut_ctl (op : HeadOp) (s : State) : (headOut op s).ctl = s.ctl := rfl
@[simp] theorem headOut_vol (op : HeadOp) (s : State) : (headOut op s).vol = s.vol := rfl
@[simp] theorem headOut_clock (op : HeadOp) (s : State) : (headOut op s).clock = s.clock := rfl
@[simp] theorem headOut_mtbZero (op : HeadOp) (s : State) : (headOut op s).mtbZero = s.mtbZero := rfl
@[simp] theorem headOut_fresh (op : HeadOp) (s : State) : (headOut op s).fresh = s.fresh := rfl
@[simp] theorem headOut_pending (op : HeadOp) (s : State) : (headOut op s).pending = s.pending := rfl
@[simp] theorem headOut_out_sqReads (op : HeadOp) (s : State) : (headOut op s).out.sqReads = s.out.sqReads := rfl
@[simp] theorem headOut_out_cqWrites (op : HeadOp) (s : State) : (headOut op s).out.cqWrites = s.out.cqWrites := rfl
@[simp] theorem headOut_out_msix (op : HeadOp) (s : State) : (headOut op s).out.msix = s.out.msix := rfl
@[simp] theorem headOut_out_air (op : HeadOp) (s : State) : (headOut op s).out.air = s.out.air := rfl
@[simp] theorem headOut_out_site (op : HeadOp) (s : State) : (headOut op s).out.site = s.out.site := rfl
@[simp] theorem headOut_out_pps (op : HeadOp) (s : State) : (headOut op s).out.pps = s.out.pps := rfl
@[simp] theorem headOut_out_reads (op : HeadOp) (s : State) : (headOut op s).out.reads = s.out.reads := rfl
@[simp] theorem sendVector_env (v : Nat) (s : State) : (sendVector v s).env = s.env := by
  unfold sendVector; (repeat' split) <;> rfl
@[simp] theorem sendVector_hsw_ready (v : Nat) (s : State) : (sendVector v s).hsw.ready = s.hsw.ready := by
  unfold sendVector; (repeat' split) <;> rfl
@[simp] theorem sendVector_hsw_alive (v : Nat) (s : State) : (sendVector v s).hsw.alive = s.hsw.alive := by
  unfold sendVector; (repeat' split) <;> rfl
@[simp] theorem sendVector_hsw_active (v : Nat) (s : State) : (sendVector v s).hsw.active = s.hsw.active := by
  unfold sendVector; (repeat' split) <;> rfl
@[simp] theorem sendVector_hsw_last (v : Nat) (s : State) : (sendVector v s).hsw.last = s.hsw.last := by
  unfold sendVector; (repeat' split) <;> rfl
@[simp] theorem sendVector_hsw_changes (v : Nat) (s : State) : (sendVector v s).hsw.changes = s.hsw.changes := by
  unfold sendVector; (repeat' split) <;> rfl
@[simp] theorem sendVector_hsw_strapBits (v : Nat) (s : State) : (sendVector v s).hsw.strapBits = s.hsw.strapBits := by
  unfold sendVector; (repeat' split) <;> rfl
@[simp] theorem sendVector_hsw_strapFault (v : Nat) (s : State) : (sendVector v s).hsw.strapFault = s.hsw.strapFault := by
  unfold sendVector; (repeat' split) <;> rfl
@[simp] theorem sendVector_hsw_serving (v : Nat) (s : State) : (sendVector v s).hsw.serving = s.hsw.serving := by
  unfold sendVector; (repeat' split) <;> rfl
@[simp] theorem sendVector_hsw_epoch (v : Nat) (s : State) : (sendVector v s).hsw.epoch = s.hsw.epoch := by
  unfold sendVector; (repeat' split) <;> rfl
@[simp] theorem sendVector_hsw_irqCause (v : Nat) (s : State) : (sendVector v s).hsw.irqCause = s.hsw.irqCause := by
  unfold sendVector; (repeat' split) <;> rfl
@[simp] theorem sendVector_hsw_irqMask (v : Nat) (s : State) : (sendVector v s).hsw.irqMask = s.hsw.irqMask := by
  unfold sendVector; (repeat' split) <;> rfl
@[simp] theorem sendVector_hsw_msixTable (v : Nat) (s : State) : (sendVector v s).hsw.msixTable = s.hsw.msixTable := by
  unfold sendVector; (repeat' split) <;> rfl
@[simp] theorem sendVector_hsw_ringErrCode (v : Nat) (s : State) : (sendVector v s).hsw.ringErrCode = s.hsw.ringErrCode := by
  unfold sendVector; (repeat' split) <;> rfl
@[simp] theorem sendVector_hsw_ringErrSet (v : Nat) (s : State) : (sendVector v s).hsw.ringErrSet = s.hsw.ringErrSet := by
  unfold sendVector; (repeat' split) <;> rfl
@[simp] theorem sendVector_hsw_ringErrCount (v : Nat) (s : State) : (sendVector v s).hsw.ringErrCount = s.hsw.ringErrCount := by
  unfold sendVector; (repeat' split) <;> rfl
@[simp] theorem sendVector_hsw_ring0 (v : Nat) (s : State) : (sendVector v s).hsw.ring0 = s.hsw.ring0 := by
  unfold sendVector; (repeat' split) <;> rfl
@[simp] theorem sendVector_hsw_ring1 (v : Nat) (s : State) : (sendVector v s).hsw.ring1 = s.hsw.ring1 := by
  unfold sendVector; (repeat' split) <;> rfl
@[simp] theorem sendVector_hsw_mnt (v : Nat) (s : State) : (sendVector v s).hsw.mnt = s.hsw.mnt := by
  unfold sendVector; (repeat' split) <;> rfl
@[simp] theorem sendVector_hsw_sessions (v : Nat) (s : State) : (sendVector v s).hsw.sessions = s.hsw.sessions := by
  unfold sendVector; (repeat' split) <;> rfl
@[simp] theorem sendVector_hsw_handoverN (v : Nat) (s : State) : (sendVector v s).hsw.handoverN = s.hsw.handoverN := by
  unfold sendVector; (repeat' split) <;> rfl
@[simp] theorem sendVector_hsw_pcieUp (v : Nat) (s : State) : (sendVector v s).hsw.pcieUp = s.hsw.pcieUp := by
  unfold sendVector; (repeat' split) <;> rfl
@[simp] theorem sendVector_hsw_perst (v : Nat) (s : State) : (sendVector v s).hsw.perst = s.hsw.perst := by
  unfold sendVector; (repeat' split) <;> rfl
@[simp] theorem sendVector_hsw_restarting (v : Nat) (s : State) : (sendVector v s).hsw.restarting = s.hsw.restarting := by
  unfold sendVector; (repeat' split) <;> rfl
@[simp] theorem sendVector_hsw_resetHeld (v : Nat) (s : State) : (sendVector v s).hsw.resetHeld = s.hsw.resetHeld := by
  unfold sendVector; (repeat' split) <;> rfl
@[simp] theorem sendVector_hsw_warned (v : Nat) (s : State) : (sendVector v s).hsw.warned = s.hsw.warned := by
  unfold sendVector; (repeat' split) <;> rfl
@[simp] theorem sendVector_hsw_downWhy (v : Nat) (s : State) : (sendVector v s).hsw.downWhy = s.hsw.downWhy := by
  unfold sendVector; (repeat' split) <;> rfl
@[simp] theorem sendVector_hsw_wakeDue (v : Nat) (s : State) : (sendVector v s).hsw.wakeDue = s.hsw.wakeDue := by
  unfold sendVector; (repeat' split) <;> rfl
@[simp] theorem sendVector_hsw_restartDue (v : Nat) (s : State) : (sendVector v s).hsw.restartDue = s.hsw.restartDue := by
  unfold sendVector; (repeat' split) <;> rfl
@[simp] theorem sendVector_hsw_supplyEvents (v : Nat) (s : State) : (sendVector v s).hsw.supplyEvents = s.hsw.supplyEvents := by
  unfold sendVector; (repeat' split) <;> rfl
@[simp] theorem sendVector_hsw_keyFaults (v : Nat) (s : State) : (sendVector v s).hsw.keyFaults = s.hsw.keyFaults := by
  unfold sendVector; (repeat' split) <;> rfl
@[simp] theorem sendVector_hsw_runNo (v : Nat) (s : State) : (sendVector v s).hsw.runNo = s.hsw.runNo := by
  unfold sendVector; (repeat' split) <;> rfl
@[simp] theorem sendVector_hsw_lastCause (v : Nat) (s : State) : (sendVector v s).hsw.lastCause = s.hsw.lastCause := by
  unfold sendVector; (repeat' split) <;> rfl
@[simp] theorem sendVector_hsw_nv (v : Nat) (s : State) : (sendVector v s).hsw.nv = s.hsw.nv := by
  unfold sendVector; (repeat' split) <;> rfl
@[simp] theorem sendVector_out_sqReads (v : Nat) (s : State) : (sendVector v s).out.sqReads = s.out.sqReads := by
  unfold sendVector; (repeat' split) <;> rfl
@[simp] theorem sendVector_out_cqWrites (v : Nat) (s : State) : (sendVector v s).out.cqWrites = s.out.cqWrites := by
  unfold sendVector; (repeat' split) <;> rfl
@[simp] theorem sendVector_out_air (v : Nat) (s : State) : (sendVector v s).out.air = s.out.air := by
  unfold sendVector; (repeat' split) <;> rfl
@[simp] theorem sendVector_out_head (v : Nat) (s : State) : (sendVector v s).out.head = s.out.head := by
  unfold sendVector; (repeat' split) <;> rfl
@[simp] theorem sendVector_out_site (v : Nat) (s : State) : (sendVector v s).out.site = s.out.site := by
  unfold sendVector; (repeat' split) <;> rfl
@[simp] theorem sendVector_out_pps (v : Nat) (s : State) : (sendVector v s).out.pps = s.out.pps := by
  unfold sendVector; (repeat' split) <;> rfl
@[simp] theorem sendVector_out_reads (v : Nat) (s : State) : (sendVector v s).out.reads = s.out.reads := by
  unfold sendVector; (repeat' split) <;> rfl
@[simp] theorem sendVector_sideA (v : Nat) (s : State) : (sendVector v s).sideA = s.sideA := by
  unfold sendVector; (repeat' split) <;> rfl
@[simp] theorem sendVector_sideB (v : Nat) (s : State) : (sendVector v s).sideB = s.sideB := by
  unfold sendVector; (repeat' split) <;> rfl
@[simp] theorem sendVector_ctl (v : Nat) (s : State) : (sendVector v s).ctl = s.ctl := by
  unfold sendVector; (repeat' split) <;> rfl
@[simp] theorem sendVector_vol (v : Nat) (s : State) : (sendVector v s).vol = s.vol := by
  unfold sendVector; (repeat' split) <;> rfl
@[simp] theorem sendVector_clock (v : Nat) (s : State) : (sendVector v s).clock = s.clock := by
  unfold sendVector; (repeat' split) <;> rfl
@[simp] theorem sendVector_mtbZero (v : Nat) (s : State) : (sendVector v s).mtbZero = s.mtbZero := by
  unfold sendVector; (repeat' split) <;> rfl
@[simp] theorem sendVector_fresh (v : Nat) (s : State) : (sendVector v s).fresh = s.fresh := by
  unfold sendVector; (repeat' split) <;> rfl
@[simp] theorem sendVector_pending (v : Nat) (s : State) : (sendVector v s).pending = s.pending := by
  unfold sendVector; (repeat' split) <;> rfl
@[simp] theorem State.modRing_env (s : State) (n : Nat) (f : RingSet → RingSet) : (s.modRing n f).env = s.env := by unfold State.modRing; split <;> rfl
@[simp] theorem State.modRing_hsw_ready (s : State) (n : Nat) (f : RingSet → RingSet) : (s.modRing n f).hsw.ready = s.hsw.ready := by unfold State.modRing; split <;> rfl
@[simp] theorem State.modRing_hsw_alive (s : State) (n : Nat) (f : RingSet → RingSet) : (s.modRing n f).hsw.alive = s.hsw.alive := by unfold State.modRing; split <;> rfl
@[simp] theorem State.modRing_hsw_active (s : State) (n : Nat) (f : RingSet → RingSet) : (s.modRing n f).hsw.active = s.hsw.active := by unfold State.modRing; split <;> rfl
@[simp] theorem State.modRing_hsw_last (s : State) (n : Nat) (f : RingSet → RingSet) : (s.modRing n f).hsw.last = s.hsw.last := by unfold State.modRing; split <;> rfl
@[simp] theorem State.modRing_hsw_changes (s : State) (n : Nat) (f : RingSet → RingSet) : (s.modRing n f).hsw.changes = s.hsw.changes := by unfold State.modRing; split <;> rfl
@[simp] theorem State.modRing_hsw_strapBits (s : State) (n : Nat) (f : RingSet → RingSet) : (s.modRing n f).hsw.strapBits = s.hsw.strapBits := by unfold State.modRing; split <;> rfl
@[simp] theorem State.modRing_hsw_strapFault (s : State) (n : Nat) (f : RingSet → RingSet) : (s.modRing n f).hsw.strapFault = s.hsw.strapFault := by unfold State.modRing; split <;> rfl
@[simp] theorem State.modRing_hsw_serving (s : State) (n : Nat) (f : RingSet → RingSet) : (s.modRing n f).hsw.serving = s.hsw.serving := by unfold State.modRing; split <;> rfl
@[simp] theorem State.modRing_hsw_epoch (s : State) (n : Nat) (f : RingSet → RingSet) : (s.modRing n f).hsw.epoch = s.hsw.epoch := by unfold State.modRing; split <;> rfl
@[simp] theorem State.modRing_hsw_irqCause (s : State) (n : Nat) (f : RingSet → RingSet) : (s.modRing n f).hsw.irqCause = s.hsw.irqCause := by unfold State.modRing; split <;> rfl
@[simp] theorem State.modRing_hsw_irqMask (s : State) (n : Nat) (f : RingSet → RingSet) : (s.modRing n f).hsw.irqMask = s.hsw.irqMask := by unfold State.modRing; split <;> rfl
@[simp] theorem State.modRing_hsw_msixTable (s : State) (n : Nat) (f : RingSet → RingSet) : (s.modRing n f).hsw.msixTable = s.hsw.msixTable := by unfold State.modRing; split <;> rfl
@[simp] theorem State.modRing_hsw_msixPba (s : State) (n : Nat) (f : RingSet → RingSet) : (s.modRing n f).hsw.msixPba = s.hsw.msixPba := by unfold State.modRing; split <;> rfl
@[simp] theorem State.modRing_hsw_ringErrCode (s : State) (n : Nat) (f : RingSet → RingSet) : (s.modRing n f).hsw.ringErrCode = s.hsw.ringErrCode := by unfold State.modRing; split <;> rfl
@[simp] theorem State.modRing_hsw_ringErrSet (s : State) (n : Nat) (f : RingSet → RingSet) : (s.modRing n f).hsw.ringErrSet = s.hsw.ringErrSet := by unfold State.modRing; split <;> rfl
@[simp] theorem State.modRing_hsw_ringErrCount (s : State) (n : Nat) (f : RingSet → RingSet) : (s.modRing n f).hsw.ringErrCount = s.hsw.ringErrCount := by unfold State.modRing; split <;> rfl
@[simp] theorem State.modRing_hsw_mnt (s : State) (n : Nat) (f : RingSet → RingSet) : (s.modRing n f).hsw.mnt = s.hsw.mnt := by unfold State.modRing; split <;> rfl
@[simp] theorem State.modRing_hsw_sessions (s : State) (n : Nat) (f : RingSet → RingSet) : (s.modRing n f).hsw.sessions = s.hsw.sessions := by unfold State.modRing; split <;> rfl
@[simp] theorem State.modRing_hsw_handoverN (s : State) (n : Nat) (f : RingSet → RingSet) : (s.modRing n f).hsw.handoverN = s.hsw.handoverN := by unfold State.modRing; split <;> rfl
@[simp] theorem State.modRing_hsw_pcieUp (s : State) (n : Nat) (f : RingSet → RingSet) : (s.modRing n f).hsw.pcieUp = s.hsw.pcieUp := by unfold State.modRing; split <;> rfl
@[simp] theorem State.modRing_hsw_perst (s : State) (n : Nat) (f : RingSet → RingSet) : (s.modRing n f).hsw.perst = s.hsw.perst := by unfold State.modRing; split <;> rfl
@[simp] theorem State.modRing_hsw_restarting (s : State) (n : Nat) (f : RingSet → RingSet) : (s.modRing n f).hsw.restarting = s.hsw.restarting := by unfold State.modRing; split <;> rfl
@[simp] theorem State.modRing_hsw_resetHeld (s : State) (n : Nat) (f : RingSet → RingSet) : (s.modRing n f).hsw.resetHeld = s.hsw.resetHeld := by unfold State.modRing; split <;> rfl
@[simp] theorem State.modRing_hsw_warned (s : State) (n : Nat) (f : RingSet → RingSet) : (s.modRing n f).hsw.warned = s.hsw.warned := by unfold State.modRing; split <;> rfl
@[simp] theorem State.modRing_hsw_downWhy (s : State) (n : Nat) (f : RingSet → RingSet) : (s.modRing n f).hsw.downWhy = s.hsw.downWhy := by unfold State.modRing; split <;> rfl
@[simp] theorem State.modRing_hsw_wakeDue (s : State) (n : Nat) (f : RingSet → RingSet) : (s.modRing n f).hsw.wakeDue = s.hsw.wakeDue := by unfold State.modRing; split <;> rfl
@[simp] theorem State.modRing_hsw_restartDue (s : State) (n : Nat) (f : RingSet → RingSet) : (s.modRing n f).hsw.restartDue = s.hsw.restartDue := by unfold State.modRing; split <;> rfl
@[simp] theorem State.modRing_hsw_supplyEvents (s : State) (n : Nat) (f : RingSet → RingSet) : (s.modRing n f).hsw.supplyEvents = s.hsw.supplyEvents := by unfold State.modRing; split <;> rfl
@[simp] theorem State.modRing_hsw_keyFaults (s : State) (n : Nat) (f : RingSet → RingSet) : (s.modRing n f).hsw.keyFaults = s.hsw.keyFaults := by unfold State.modRing; split <;> rfl
@[simp] theorem State.modRing_hsw_runNo (s : State) (n : Nat) (f : RingSet → RingSet) : (s.modRing n f).hsw.runNo = s.hsw.runNo := by unfold State.modRing; split <;> rfl
@[simp] theorem State.modRing_hsw_lastCause (s : State) (n : Nat) (f : RingSet → RingSet) : (s.modRing n f).hsw.lastCause = s.hsw.lastCause := by unfold State.modRing; split <;> rfl
@[simp] theorem State.modRing_hsw_nv (s : State) (n : Nat) (f : RingSet → RingSet) : (s.modRing n f).hsw.nv = s.hsw.nv := by unfold State.modRing; split <;> rfl
@[simp] theorem State.modRing_sideA (s : State) (n : Nat) (f : RingSet → RingSet) : (s.modRing n f).sideA = s.sideA := by unfold State.modRing; split <;> rfl
@[simp] theorem State.modRing_sideB (s : State) (n : Nat) (f : RingSet → RingSet) : (s.modRing n f).sideB = s.sideB := by unfold State.modRing; split <;> rfl
@[simp] theorem State.modRing_ctl (s : State) (n : Nat) (f : RingSet → RingSet) : (s.modRing n f).ctl = s.ctl := by unfold State.modRing; split <;> rfl
@[simp] theorem State.modRing_vol (s : State) (n : Nat) (f : RingSet → RingSet) : (s.modRing n f).vol = s.vol := by unfold State.modRing; split <;> rfl
@[simp] theorem State.modRing_out (s : State) (n : Nat) (f : RingSet → RingSet) : (s.modRing n f).out = s.out := by unfold State.modRing; split <;> rfl
@[simp] theorem State.modRing_clock (s : State) (n : Nat) (f : RingSet → RingSet) : (s.modRing n f).clock = s.clock := by unfold State.modRing; split <;> rfl
@[simp] theorem State.modRing_mtbZero (s : State) (n : Nat) (f : RingSet → RingSet) : (s.modRing n f).mtbZero = s.mtbZero := by unfold State.modRing; split <;> rfl
@[simp] theorem State.modRing_fresh (s : State) (n : Nat) (f : RingSet → RingSet) : (s.modRing n f).fresh = s.fresh := by unfold State.modRing; split <;> rfl
@[simp] theorem State.modRing_pending (s : State) (n : Nat) (f : RingSet → RingSet) : (s.modRing n f).pending = s.pending := by unfold State.modRing; split <;> rfl
@[simp] theorem State.modSess_env (s : State) (n : Nat) (f : Session → Session) : (s.modSess n f).env = s.env := rfl
@[simp] theorem State.modSess_hsw_ready (s : State) (n : Nat) (f : Session → Session) : (s.modSess n f).hsw.ready = s.hsw.ready := rfl
@[simp] theorem State.modSess_hsw_alive (s : State) (n : Nat) (f : Session → Session) : (s.modSess n f).hsw.alive = s.hsw.alive := rfl
@[simp] theorem State.modSess_hsw_active (s : State) (n : Nat) (f : Session → Session) : (s.modSess n f).hsw.active = s.hsw.active := rfl
@[simp] theorem State.modSess_hsw_last (s : State) (n : Nat) (f : Session → Session) : (s.modSess n f).hsw.last = s.hsw.last := rfl
@[simp] theorem State.modSess_hsw_changes (s : State) (n : Nat) (f : Session → Session) : (s.modSess n f).hsw.changes = s.hsw.changes := rfl
@[simp] theorem State.modSess_hsw_strapBits (s : State) (n : Nat) (f : Session → Session) : (s.modSess n f).hsw.strapBits = s.hsw.strapBits := rfl
@[simp] theorem State.modSess_hsw_strapFault (s : State) (n : Nat) (f : Session → Session) : (s.modSess n f).hsw.strapFault = s.hsw.strapFault := rfl
@[simp] theorem State.modSess_hsw_serving (s : State) (n : Nat) (f : Session → Session) : (s.modSess n f).hsw.serving = s.hsw.serving := rfl
@[simp] theorem State.modSess_hsw_epoch (s : State) (n : Nat) (f : Session → Session) : (s.modSess n f).hsw.epoch = s.hsw.epoch := rfl
@[simp] theorem State.modSess_hsw_irqCause (s : State) (n : Nat) (f : Session → Session) : (s.modSess n f).hsw.irqCause = s.hsw.irqCause := rfl
@[simp] theorem State.modSess_hsw_irqMask (s : State) (n : Nat) (f : Session → Session) : (s.modSess n f).hsw.irqMask = s.hsw.irqMask := rfl
@[simp] theorem State.modSess_hsw_msixTable (s : State) (n : Nat) (f : Session → Session) : (s.modSess n f).hsw.msixTable = s.hsw.msixTable := rfl
@[simp] theorem State.modSess_hsw_msixPba (s : State) (n : Nat) (f : Session → Session) : (s.modSess n f).hsw.msixPba = s.hsw.msixPba := rfl
@[simp] theorem State.modSess_hsw_ringErrCode (s : State) (n : Nat) (f : Session → Session) : (s.modSess n f).hsw.ringErrCode = s.hsw.ringErrCode := rfl
@[simp] theorem State.modSess_hsw_ringErrSet (s : State) (n : Nat) (f : Session → Session) : (s.modSess n f).hsw.ringErrSet = s.hsw.ringErrSet := rfl
@[simp] theorem State.modSess_hsw_ringErrCount (s : State) (n : Nat) (f : Session → Session) : (s.modSess n f).hsw.ringErrCount = s.hsw.ringErrCount := rfl
@[simp] theorem State.modSess_hsw_ring0 (s : State) (n : Nat) (f : Session → Session) : (s.modSess n f).hsw.ring0 = s.hsw.ring0 := rfl
@[simp] theorem State.modSess_hsw_ring1 (s : State) (n : Nat) (f : Session → Session) : (s.modSess n f).hsw.ring1 = s.hsw.ring1 := rfl
@[simp] theorem State.modSess_hsw_mnt (s : State) (n : Nat) (f : Session → Session) : (s.modSess n f).hsw.mnt = s.hsw.mnt := rfl
@[simp] theorem State.modSess_hsw_handoverN (s : State) (n : Nat) (f : Session → Session) : (s.modSess n f).hsw.handoverN = s.hsw.handoverN := rfl
@[simp] theorem State.modSess_hsw_pcieUp (s : State) (n : Nat) (f : Session → Session) : (s.modSess n f).hsw.pcieUp = s.hsw.pcieUp := rfl
@[simp] theorem State.modSess_hsw_perst (s : State) (n : Nat) (f : Session → Session) : (s.modSess n f).hsw.perst = s.hsw.perst := rfl
@[simp] theorem State.modSess_hsw_restarting (s : State) (n : Nat) (f : Session → Session) : (s.modSess n f).hsw.restarting = s.hsw.restarting := rfl
@[simp] theorem State.modSess_hsw_resetHeld (s : State) (n : Nat) (f : Session → Session) : (s.modSess n f).hsw.resetHeld = s.hsw.resetHeld := rfl
@[simp] theorem State.modSess_hsw_warned (s : State) (n : Nat) (f : Session → Session) : (s.modSess n f).hsw.warned = s.hsw.warned := rfl
@[simp] theorem State.modSess_hsw_downWhy (s : State) (n : Nat) (f : Session → Session) : (s.modSess n f).hsw.downWhy = s.hsw.downWhy := rfl
@[simp] theorem State.modSess_hsw_wakeDue (s : State) (n : Nat) (f : Session → Session) : (s.modSess n f).hsw.wakeDue = s.hsw.wakeDue := rfl
@[simp] theorem State.modSess_hsw_restartDue (s : State) (n : Nat) (f : Session → Session) : (s.modSess n f).hsw.restartDue = s.hsw.restartDue := rfl
@[simp] theorem State.modSess_hsw_supplyEvents (s : State) (n : Nat) (f : Session → Session) : (s.modSess n f).hsw.supplyEvents = s.hsw.supplyEvents := rfl
@[simp] theorem State.modSess_hsw_keyFaults (s : State) (n : Nat) (f : Session → Session) : (s.modSess n f).hsw.keyFaults = s.hsw.keyFaults := rfl
@[simp] theorem State.modSess_hsw_runNo (s : State) (n : Nat) (f : Session → Session) : (s.modSess n f).hsw.runNo = s.hsw.runNo := rfl
@[simp] theorem State.modSess_hsw_lastCause (s : State) (n : Nat) (f : Session → Session) : (s.modSess n f).hsw.lastCause = s.hsw.lastCause := rfl
@[simp] theorem State.modSess_hsw_nv (s : State) (n : Nat) (f : Session → Session) : (s.modSess n f).hsw.nv = s.hsw.nv := rfl
@[simp] theorem State.modSess_sideA (s : State) (n : Nat) (f : Session → Session) : (s.modSess n f).sideA = s.sideA := rfl
@[simp] theorem State.modSess_sideB (s : State) (n : Nat) (f : Session → Session) : (s.modSess n f).sideB = s.sideB := rfl
@[simp] theorem State.modSess_ctl (s : State) (n : Nat) (f : Session → Session) : (s.modSess n f).ctl = s.ctl := rfl
@[simp] theorem State.modSess_vol (s : State) (n : Nat) (f : Session → Session) : (s.modSess n f).vol = s.vol := rfl
@[simp] theorem State.modSess_out (s : State) (n : Nat) (f : Session → Session) : (s.modSess n f).out = s.out := rfl
@[simp] theorem State.modSess_clock (s : State) (n : Nat) (f : Session → Session) : (s.modSess n f).clock = s.clock := rfl
@[simp] theorem State.modSess_mtbZero (s : State) (n : Nat) (f : Session → Session) : (s.modSess n f).mtbZero = s.mtbZero := rfl
@[simp] theorem State.modSess_fresh (s : State) (n : Nat) (f : Session → Session) : (s.modSess n f).fresh = s.fresh := rfl
@[simp] theorem State.modSess_pending (s : State) (n : Nat) (f : Session → Session) : (s.modSess n f).pending = s.pending := rfl
@[simp] theorem State.modQueue_env (s : State) (q : Nat) (f : PeatQueue → PeatQueue) : (s.modQueue q f).env = s.env := rfl
@[simp] theorem State.modQueue_hsw (s : State) (q : Nat) (f : PeatQueue → PeatQueue) : (s.modQueue q f).hsw = s.hsw := rfl
@[simp] theorem State.modQueue_sideA (s : State) (q : Nat) (f : PeatQueue → PeatQueue) : (s.modQueue q f).sideA = s.sideA := rfl
@[simp] theorem State.modQueue_sideB (s : State) (q : Nat) (f : PeatQueue → PeatQueue) : (s.modQueue q f).sideB = s.sideB := rfl
@[simp] theorem State.modQueue_ctl (s : State) (q : Nat) (f : PeatQueue → PeatQueue) : (s.modQueue q f).ctl = s.ctl := rfl
@[simp] theorem State.modQueue_vol_gnss (s : State) (q : Nat) (f : PeatQueue → PeatQueue) : (s.modQueue q f).vol.gnss = s.vol.gnss := rfl
@[simp] theorem State.modQueue_vol_corr (s : State) (q : Nat) (f : PeatQueue → PeatQueue) : (s.modQueue q f).vol.corr = s.vol.corr := rfl
@[simp] theorem State.modQueue_vol_time (s : State) (q : Nat) (f : PeatQueue → PeatQueue) : (s.modQueue q f).vol.time = s.vol.time := rfl
@[simp] theorem State.modQueue_vol_radio (s : State) (q : Nat) (f : PeatQueue → PeatQueue) : (s.modQueue q f).vol.radio = s.vol.radio := rfl
@[simp] theorem State.modQueue_vol_mac (s : State) (q : Nat) (f : PeatQueue → PeatQueue) : (s.modQueue q f).vol.mac = s.vol.mac := rfl
@[simp] theorem State.modQueue_vol_sluice (s : State) (q : Nat) (f : PeatQueue → PeatQueue) : (s.modQueue q f).vol.sluice = s.vol.sluice := rfl
@[simp] theorem State.modQueue_vol_dyke (s : State) (q : Nat) (f : PeatQueue → PeatQueue) : (s.modQueue q f).vol.dyke = s.vol.dyke := rfl
@[simp] theorem State.modQueue_vol_solver (s : State) (q : Nat) (f : PeatQueue → PeatQueue) : (s.modQueue q f).vol.solver = s.vol.solver := rfl
@[simp] theorem State.modQueue_vol_sched (s : State) (q : Nat) (f : PeatQueue → PeatQueue) : (s.modQueue q f).vol.sched = s.vol.sched := rfl
@[simp] theorem State.modQueue_vol_wader (s : State) (q : Nat) (f : PeatQueue → PeatQueue) : (s.modQueue q f).vol.wader = s.vol.wader := rfl
@[simp] theorem State.modQueue_vol_fed (s : State) (q : Nat) (f : PeatQueue → PeatQueue) : (s.modQueue q f).vol.fed = s.vol.fed := rfl
@[simp] theorem State.modQueue_vol_redun (s : State) (q : Nat) (f : PeatQueue → PeatQueue) : (s.modQueue q f).vol.redun = s.vol.redun := rfl
@[simp] theorem State.modQueue_vol_sec (s : State) (q : Nat) (f : PeatQueue → PeatQueue) : (s.modQueue q f).vol.sec = s.vol.sec := rfl
@[simp] theorem State.modQueue_vol_counters (s : State) (q : Nat) (f : PeatQueue → PeatQueue) : (s.modQueue q f).vol.counters = s.vol.counters := rfl
@[simp] theorem State.modQueue_vol_pendingMode (s : State) (q : Nat) (f : PeatQueue → PeatQueue) : (s.modQueue q f).vol.pendingMode = s.vol.pendingMode := rfl
@[simp] theorem State.modQueue_out (s : State) (q : Nat) (f : PeatQueue → PeatQueue) : (s.modQueue q f).out = s.out := rfl
@[simp] theorem State.modQueue_clock (s : State) (q : Nat) (f : PeatQueue → PeatQueue) : (s.modQueue q f).clock = s.clock := rfl
@[simp] theorem State.modQueue_mtbZero (s : State) (q : Nat) (f : PeatQueue → PeatQueue) : (s.modQueue q f).mtbZero = s.mtbZero := rfl
@[simp] theorem State.modQueue_fresh (s : State) (q : Nat) (f : PeatQueue → PeatQueue) : (s.modQueue q f).fresh = s.fresh := rfl
@[simp] theorem State.modQueue_pending (s : State) (q : Nat) (f : PeatQueue → PeatQueue) : (s.modQueue q f).pending = s.pending := rfl
@[simp] theorem State.modFlow_env (s : State) (f : Nat) (g : Flow → Flow) : (s.modFlow f g).env = s.env := rfl
@[simp] theorem State.modFlow_hsw (s : State) (f : Nat) (g : Flow → Flow) : (s.modFlow f g).hsw = s.hsw := rfl
@[simp] theorem State.modFlow_sideA (s : State) (f : Nat) (g : Flow → Flow) : (s.modFlow f g).sideA = s.sideA := rfl
@[simp] theorem State.modFlow_sideB (s : State) (f : Nat) (g : Flow → Flow) : (s.modFlow f g).sideB = s.sideB := rfl
@[simp] theorem State.modFlow_ctl (s : State) (f : Nat) (g : Flow → Flow) : (s.modFlow f g).ctl = s.ctl := rfl
@[simp] theorem State.modFlow_vol_gnss (s : State) (f : Nat) (g : Flow → Flow) : (s.modFlow f g).vol.gnss = s.vol.gnss := rfl
@[simp] theorem State.modFlow_vol_corr (s : State) (f : Nat) (g : Flow → Flow) : (s.modFlow f g).vol.corr = s.vol.corr := rfl
@[simp] theorem State.modFlow_vol_time (s : State) (f : Nat) (g : Flow → Flow) : (s.modFlow f g).vol.time = s.vol.time := rfl
@[simp] theorem State.modFlow_vol_radio (s : State) (f : Nat) (g : Flow → Flow) : (s.modFlow f g).vol.radio = s.vol.radio := rfl
@[simp] theorem State.modFlow_vol_mac (s : State) (f : Nat) (g : Flow → Flow) : (s.modFlow f g).vol.mac = s.vol.mac := rfl
@[simp] theorem State.modFlow_vol_sluice (s : State) (f : Nat) (g : Flow → Flow) : (s.modFlow f g).vol.sluice = s.vol.sluice := rfl
@[simp] theorem State.modFlow_vol_dyke (s : State) (f : Nat) (g : Flow → Flow) : (s.modFlow f g).vol.dyke = s.vol.dyke := rfl
@[simp] theorem State.modFlow_vol_solver (s : State) (f : Nat) (g : Flow → Flow) : (s.modFlow f g).vol.solver = s.vol.solver := rfl
@[simp] theorem State.modFlow_vol_peat (s : State) (f : Nat) (g : Flow → Flow) : (s.modFlow f g).vol.peat = s.vol.peat := rfl
@[simp] theorem State.modFlow_vol_wader (s : State) (f : Nat) (g : Flow → Flow) : (s.modFlow f g).vol.wader = s.vol.wader := rfl
@[simp] theorem State.modFlow_vol_fed (s : State) (f : Nat) (g : Flow → Flow) : (s.modFlow f g).vol.fed = s.vol.fed := rfl
@[simp] theorem State.modFlow_vol_redun (s : State) (f : Nat) (g : Flow → Flow) : (s.modFlow f g).vol.redun = s.vol.redun := rfl
@[simp] theorem State.modFlow_vol_sec (s : State) (f : Nat) (g : Flow → Flow) : (s.modFlow f g).vol.sec = s.vol.sec := rfl
@[simp] theorem State.modFlow_vol_counters (s : State) (f : Nat) (g : Flow → Flow) : (s.modFlow f g).vol.counters = s.vol.counters := rfl
@[simp] theorem State.modFlow_vol_pendingMode (s : State) (f : Nat) (g : Flow → Flow) : (s.modFlow f g).vol.pendingMode = s.vol.pendingMode := rfl
@[simp] theorem State.modFlow_out (s : State) (f : Nat) (g : Flow → Flow) : (s.modFlow f g).out = s.out := rfl
@[simp] theorem State.modFlow_clock (s : State) (f : Nat) (g : Flow → Flow) : (s.modFlow f g).clock = s.clock := rfl
@[simp] theorem State.modFlow_mtbZero (s : State) (f : Nat) (g : Flow → Flow) : (s.modFlow f g).mtbZero = s.mtbZero := rfl
@[simp] theorem State.modFlow_fresh (s : State) (f : Nat) (g : Flow → Flow) : (s.modFlow f g).fresh = s.fresh := rfl
@[simp] theorem State.modFlow_pending (s : State) (f : Nat) (g : Flow → Flow) : (s.modFlow f g).pending = s.pending := rfl
@[simp] theorem State.modPrio_env (s : State) (p : Nat) (g : PrioCount → PrioCount) : (s.modPrio p g).env = s.env := rfl
@[simp] theorem State.modPrio_hsw (s : State) (p : Nat) (g : PrioCount → PrioCount) : (s.modPrio p g).hsw = s.hsw := rfl
@[simp] theorem State.modPrio_sideA (s : State) (p : Nat) (g : PrioCount → PrioCount) : (s.modPrio p g).sideA = s.sideA := rfl
@[simp] theorem State.modPrio_sideB (s : State) (p : Nat) (g : PrioCount → PrioCount) : (s.modPrio p g).sideB = s.sideB := rfl
@[simp] theorem State.modPrio_ctl (s : State) (p : Nat) (g : PrioCount → PrioCount) : (s.modPrio p g).ctl = s.ctl := rfl
@[simp] theorem State.modPrio_vol_gnss (s : State) (p : Nat) (g : PrioCount → PrioCount) : (s.modPrio p g).vol.gnss = s.vol.gnss := rfl
@[simp] theorem State.modPrio_vol_corr (s : State) (p : Nat) (g : PrioCount → PrioCount) : (s.modPrio p g).vol.corr = s.vol.corr := rfl
@[simp] theorem State.modPrio_vol_time (s : State) (p : Nat) (g : PrioCount → PrioCount) : (s.modPrio p g).vol.time = s.vol.time := rfl
@[simp] theorem State.modPrio_vol_radio (s : State) (p : Nat) (g : PrioCount → PrioCount) : (s.modPrio p g).vol.radio = s.vol.radio := rfl
@[simp] theorem State.modPrio_vol_mac (s : State) (p : Nat) (g : PrioCount → PrioCount) : (s.modPrio p g).vol.mac = s.vol.mac := rfl
@[simp] theorem State.modPrio_vol_sluice (s : State) (p : Nat) (g : PrioCount → PrioCount) : (s.modPrio p g).vol.sluice = s.vol.sluice := rfl
@[simp] theorem State.modPrio_vol_dyke (s : State) (p : Nat) (g : PrioCount → PrioCount) : (s.modPrio p g).vol.dyke = s.vol.dyke := rfl
@[simp] theorem State.modPrio_vol_solver (s : State) (p : Nat) (g : PrioCount → PrioCount) : (s.modPrio p g).vol.solver = s.vol.solver := rfl
@[simp] theorem State.modPrio_vol_peat (s : State) (p : Nat) (g : PrioCount → PrioCount) : (s.modPrio p g).vol.peat = s.vol.peat := rfl
@[simp] theorem State.modPrio_vol_wader (s : State) (p : Nat) (g : PrioCount → PrioCount) : (s.modPrio p g).vol.wader = s.vol.wader := rfl
@[simp] theorem State.modPrio_vol_fed (s : State) (p : Nat) (g : PrioCount → PrioCount) : (s.modPrio p g).vol.fed = s.vol.fed := rfl
@[simp] theorem State.modPrio_vol_redun (s : State) (p : Nat) (g : PrioCount → PrioCount) : (s.modPrio p g).vol.redun = s.vol.redun := rfl
@[simp] theorem State.modPrio_vol_sec (s : State) (p : Nat) (g : PrioCount → PrioCount) : (s.modPrio p g).vol.sec = s.vol.sec := rfl
@[simp] theorem State.modPrio_vol_counters (s : State) (p : Nat) (g : PrioCount → PrioCount) : (s.modPrio p g).vol.counters = s.vol.counters := rfl
@[simp] theorem State.modPrio_vol_pendingMode (s : State) (p : Nat) (g : PrioCount → PrioCount) : (s.modPrio p g).vol.pendingMode = s.vol.pendingMode := rfl
@[simp] theorem State.modPrio_out (s : State) (p : Nat) (g : PrioCount → PrioCount) : (s.modPrio p g).out = s.out := rfl
@[simp] theorem State.modPrio_clock (s : State) (p : Nat) (g : PrioCount → PrioCount) : (s.modPrio p g).clock = s.clock := rfl
@[simp] theorem State.modPrio_mtbZero (s : State) (p : Nat) (g : PrioCount → PrioCount) : (s.modPrio p g).mtbZero = s.mtbZero := rfl
@[simp] theorem State.modPrio_fresh (s : State) (p : Nat) (g : PrioCount → PrioCount) : (s.modPrio p g).fresh = s.fresh := rfl
@[simp] theorem State.modPrio_pending (s : State) (p : Nat) (g : PrioCount → PrioCount) : (s.modPrio p g).pending = s.pending := rfl
@[simp] theorem State.modTask_env (s : State) (no : Nat) (f : Task → Task) : (s.modTask no f).env = s.env := rfl
@[simp] theorem State.modTask_hsw (s : State) (no : Nat) (f : Task → Task) : (s.modTask no f).hsw = s.hsw := rfl
@[simp] theorem State.modTask_sideA (s : State) (no : Nat) (f : Task → Task) : (s.modTask no f).sideA = s.sideA := rfl
@[simp] theorem State.modTask_sideB (s : State) (no : Nat) (f : Task → Task) : (s.modTask no f).sideB = s.sideB := rfl
@[simp] theorem State.modTask_ctl_cfg (s : State) (no : Nat) (f : Task → Task) : (s.modTask no f).ctl.cfg = s.ctl.cfg := rfl
@[simp] theorem State.modTask_ctl_timeCfg (s : State) (no : Nat) (f : Task → Task) : (s.modTask no f).ctl.timeCfg = s.ctl.timeCfg := rfl
@[simp] theorem State.modTask_ctl_time (s : State) (no : Nat) (f : Task → Task) : (s.modTask no f).ctl.time = s.ctl.time := rfl
@[simp] theorem State.modTask_ctl_hot (s : State) (no : Nat) (f : Task → Task) : (s.modTask no f).ctl.hot = s.ctl.hot := rfl
@[simp] theorem State.modTask_ctl_budget (s : State) (no : Nat) (f : Task → Task) : (s.modTask no f).ctl.budget = s.ctl.budget := rfl
@[simp] theorem State.modTask_ctl_conns (s : State) (no : Nat) (f : Task → Task) : (s.modTask no f).ctl.conns = s.ctl.conns := rfl
@[simp] theorem State.modTask_ctl_sluice (s : State) (no : Nat) (f : Task → Task) : (s.modTask no f).ctl.sluice = s.ctl.sluice := rfl
@[simp] theorem State.modTask_ctl_filters (s : State) (no : Nat) (f : Task → Task) : (s.modTask no f).ctl.filters = s.ctl.filters := rfl
@[simp] theorem State.modTask_ctl_handovers (s : State) (no : Nat) (f : Task → Task) : (s.modTask no f).ctl.handovers = s.ctl.handovers := rfl
@[simp] theorem State.modTask_ctl_mode (s : State) (no : Nat) (f : Task → Task) : (s.modTask no f).ctl.mode = s.ctl.mode := rfl
@[simp] theorem State.modTask_ctl_gpioDir (s : State) (no : Nat) (f : Task → Task) : (s.modTask no f).ctl.gpioDir = s.ctl.gpioDir := rfl
@[simp] theorem State.modTask_ctl_gpioLvl (s : State) (no : Nat) (f : Task → Task) : (s.modTask no f).ctl.gpioLvl = s.ctl.gpioLvl := rfl
@[simp] theorem State.modTask_ctl_records (s : State) (no : Nat) (f : Task → Task) : (s.modTask no f).ctl.records = s.ctl.records := rfl
@[simp] theorem State.modTask_vol (s : State) (no : Nat) (f : Task → Task) : (s.modTask no f).vol = s.vol := rfl
@[simp] theorem State.modTask_out (s : State) (no : Nat) (f : Task → Task) : (s.modTask no f).out = s.out := rfl
@[simp] theorem State.modTask_clock (s : State) (no : Nat) (f : Task → Task) : (s.modTask no f).clock = s.clock := rfl
@[simp] theorem State.modTask_mtbZero (s : State) (no : Nat) (f : Task → Task) : (s.modTask no f).mtbZero = s.mtbZero := rfl
@[simp] theorem State.modTask_fresh (s : State) (no : Nat) (f : Task → Task) : (s.modTask no f).fresh = s.fresh := rfl
@[simp] theorem State.modTask_pending (s : State) (no : Nat) (f : Task → Task) : (s.modTask no f).pending = s.pending := rfl
@[simp] theorem State.dropBorder_env (s : State) (txn : Nat) : (s.dropBorder txn).env = s.env := rfl
@[simp] theorem State.dropBorder_hsw (s : State) (txn : Nat) : (s.dropBorder txn).hsw = s.hsw := rfl
@[simp] theorem State.dropBorder_sideA (s : State) (txn : Nat) : (s.dropBorder txn).sideA = s.sideA := rfl
@[simp] theorem State.dropBorder_sideB (s : State) (txn : Nat) : (s.dropBorder txn).sideB = s.sideB := rfl
@[simp] theorem State.dropBorder_ctl (s : State) (txn : Nat) : (s.dropBorder txn).ctl = s.ctl := rfl
@[simp] theorem State.dropBorder_vol_gnss (s : State) (txn : Nat) : (s.dropBorder txn).vol.gnss = s.vol.gnss := rfl
@[simp] theorem State.dropBorder_vol_corr (s : State) (txn : Nat) : (s.dropBorder txn).vol.corr = s.vol.corr := rfl
@[simp] theorem State.dropBorder_vol_time (s : State) (txn : Nat) : (s.dropBorder txn).vol.time = s.vol.time := rfl
@[simp] theorem State.dropBorder_vol_radio (s : State) (txn : Nat) : (s.dropBorder txn).vol.radio = s.vol.radio := rfl
@[simp] theorem State.dropBorder_vol_mac (s : State) (txn : Nat) : (s.dropBorder txn).vol.mac = s.vol.mac := rfl
@[simp] theorem State.dropBorder_vol_sluice (s : State) (txn : Nat) : (s.dropBorder txn).vol.sluice = s.vol.sluice := rfl
@[simp] theorem State.dropBorder_vol_solver (s : State) (txn : Nat) : (s.dropBorder txn).vol.solver = s.vol.solver := rfl
@[simp] theorem State.dropBorder_vol_sched (s : State) (txn : Nat) : (s.dropBorder txn).vol.sched = s.vol.sched := rfl
@[simp] theorem State.dropBorder_vol_peat (s : State) (txn : Nat) : (s.dropBorder txn).vol.peat = s.vol.peat := rfl
@[simp] theorem State.dropBorder_vol_wader (s : State) (txn : Nat) : (s.dropBorder txn).vol.wader = s.vol.wader := rfl
@[simp] theorem State.dropBorder_vol_fed (s : State) (txn : Nat) : (s.dropBorder txn).vol.fed = s.vol.fed := rfl
@[simp] theorem State.dropBorder_vol_redun (s : State) (txn : Nat) : (s.dropBorder txn).vol.redun = s.vol.redun := rfl
@[simp] theorem State.dropBorder_vol_sec (s : State) (txn : Nat) : (s.dropBorder txn).vol.sec = s.vol.sec := rfl
@[simp] theorem State.dropBorder_vol_counters (s : State) (txn : Nat) : (s.dropBorder txn).vol.counters = s.vol.counters := rfl
@[simp] theorem State.dropBorder_vol_pendingMode (s : State) (txn : Nat) : (s.dropBorder txn).vol.pendingMode = s.vol.pendingMode := rfl
@[simp] theorem State.dropBorder_out (s : State) (txn : Nat) : (s.dropBorder txn).out = s.out := rfl
@[simp] theorem State.dropBorder_clock (s : State) (txn : Nat) : (s.dropBorder txn).clock = s.clock := rfl
@[simp] theorem State.dropBorder_mtbZero (s : State) (txn : Nat) : (s.dropBorder txn).mtbZero = s.mtbZero := rfl
@[simp] theorem State.dropBorder_fresh (s : State) (txn : Nat) : (s.dropBorder txn).fresh = s.fresh := rfl
@[simp] theorem State.dropBorder_pending (s : State) (txn : Nat) : (s.dropBorder txn).pending = s.pending := rfl
@[simp] theorem State.modCounters_env (s : State) (f : Counters → Counters) : (s.modCounters f).env = s.env := rfl
@[simp] theorem State.modCounters_hsw (s : State) (f : Counters → Counters) : (s.modCounters f).hsw = s.hsw := rfl
@[simp] theorem State.modCounters_sideA (s : State) (f : Counters → Counters) : (s.modCounters f).sideA = s.sideA := rfl
@[simp] theorem State.modCounters_sideB (s : State) (f : Counters → Counters) : (s.modCounters f).sideB = s.sideB := rfl
@[simp] theorem State.modCounters_ctl (s : State) (f : Counters → Counters) : (s.modCounters f).ctl = s.ctl := rfl
@[simp] theorem State.modCounters_vol_gnss (s : State) (f : Counters → Counters) : (s.modCounters f).vol.gnss = s.vol.gnss := rfl
@[simp] theorem State.modCounters_vol_corr (s : State) (f : Counters → Counters) : (s.modCounters f).vol.corr = s.vol.corr := rfl
@[simp] theorem State.modCounters_vol_time (s : State) (f : Counters → Counters) : (s.modCounters f).vol.time = s.vol.time := rfl
@[simp] theorem State.modCounters_vol_radio (s : State) (f : Counters → Counters) : (s.modCounters f).vol.radio = s.vol.radio := rfl
@[simp] theorem State.modCounters_vol_mac (s : State) (f : Counters → Counters) : (s.modCounters f).vol.mac = s.vol.mac := rfl
@[simp] theorem State.modCounters_vol_sluice (s : State) (f : Counters → Counters) : (s.modCounters f).vol.sluice = s.vol.sluice := rfl
@[simp] theorem State.modCounters_vol_dyke (s : State) (f : Counters → Counters) : (s.modCounters f).vol.dyke = s.vol.dyke := rfl
@[simp] theorem State.modCounters_vol_solver (s : State) (f : Counters → Counters) : (s.modCounters f).vol.solver = s.vol.solver := rfl
@[simp] theorem State.modCounters_vol_sched (s : State) (f : Counters → Counters) : (s.modCounters f).vol.sched = s.vol.sched := rfl
@[simp] theorem State.modCounters_vol_peat (s : State) (f : Counters → Counters) : (s.modCounters f).vol.peat = s.vol.peat := rfl
@[simp] theorem State.modCounters_vol_wader (s : State) (f : Counters → Counters) : (s.modCounters f).vol.wader = s.vol.wader := rfl
@[simp] theorem State.modCounters_vol_fed (s : State) (f : Counters → Counters) : (s.modCounters f).vol.fed = s.vol.fed := rfl
@[simp] theorem State.modCounters_vol_redun (s : State) (f : Counters → Counters) : (s.modCounters f).vol.redun = s.vol.redun := rfl
@[simp] theorem State.modCounters_vol_sec (s : State) (f : Counters → Counters) : (s.modCounters f).vol.sec = s.vol.sec := rfl
@[simp] theorem State.modCounters_vol_pendingMode (s : State) (f : Counters → Counters) : (s.modCounters f).vol.pendingMode = s.vol.pendingMode := rfl
@[simp] theorem State.modCounters_out (s : State) (f : Counters → Counters) : (s.modCounters f).out = s.out := rfl
@[simp] theorem State.modCounters_clock (s : State) (f : Counters → Counters) : (s.modCounters f).clock = s.clock := rfl
@[simp] theorem State.modCounters_mtbZero (s : State) (f : Counters → Counters) : (s.modCounters f).mtbZero = s.mtbZero := rfl
@[simp] theorem State.modCounters_fresh (s : State) (f : Counters → Counters) : (s.modCounters f).fresh = s.fresh := rfl
@[simp] theorem State.modCounters_pending (s : State) (f : Counters → Counters) : (s.modCounters f).pending = s.pending := rfl
@[simp] theorem State.modCore_env (s : State) (k : Nat) (f : WorkCore → WorkCore) : (s.modCore k f).env = s.env := rfl
@[simp] theorem State.modCore_hsw (s : State) (k : Nat) (f : WorkCore → WorkCore) : (s.modCore k f).hsw = s.hsw := rfl
@[simp] theorem State.modCore_sideA (s : State) (k : Nat) (f : WorkCore → WorkCore) : (s.modCore k f).sideA = s.sideA := rfl
@[simp] theorem State.modCore_sideB (s : State) (k : Nat) (f : WorkCore → WorkCore) : (s.modCore k f).sideB = s.sideB := rfl
@[simp] theorem State.modCore_ctl (s : State) (k : Nat) (f : WorkCore → WorkCore) : (s.modCore k f).ctl = s.ctl := rfl
@[simp] theorem State.modCore_vol_gnss (s : State) (k : Nat) (f : WorkCore → WorkCore) : (s.modCore k f).vol.gnss = s.vol.gnss := rfl
@[simp] theorem State.modCore_vol_corr (s : State) (k : Nat) (f : WorkCore → WorkCore) : (s.modCore k f).vol.corr = s.vol.corr := rfl
@[simp] theorem State.modCore_vol_time (s : State) (k : Nat) (f : WorkCore → WorkCore) : (s.modCore k f).vol.time = s.vol.time := rfl
@[simp] theorem State.modCore_vol_radio (s : State) (k : Nat) (f : WorkCore → WorkCore) : (s.modCore k f).vol.radio = s.vol.radio := rfl
@[simp] theorem State.modCore_vol_mac (s : State) (k : Nat) (f : WorkCore → WorkCore) : (s.modCore k f).vol.mac = s.vol.mac := rfl
@[simp] theorem State.modCore_vol_sluice (s : State) (k : Nat) (f : WorkCore → WorkCore) : (s.modCore k f).vol.sluice = s.vol.sluice := rfl
@[simp] theorem State.modCore_vol_dyke (s : State) (k : Nat) (f : WorkCore → WorkCore) : (s.modCore k f).vol.dyke = s.vol.dyke := rfl
@[simp] theorem State.modCore_vol_solver (s : State) (k : Nat) (f : WorkCore → WorkCore) : (s.modCore k f).vol.solver = s.vol.solver := rfl
@[simp] theorem State.modCore_vol_peat (s : State) (k : Nat) (f : WorkCore → WorkCore) : (s.modCore k f).vol.peat = s.vol.peat := rfl
@[simp] theorem State.modCore_vol_wader (s : State) (k : Nat) (f : WorkCore → WorkCore) : (s.modCore k f).vol.wader = s.vol.wader := rfl
@[simp] theorem State.modCore_vol_fed (s : State) (k : Nat) (f : WorkCore → WorkCore) : (s.modCore k f).vol.fed = s.vol.fed := rfl
@[simp] theorem State.modCore_vol_redun (s : State) (k : Nat) (f : WorkCore → WorkCore) : (s.modCore k f).vol.redun = s.vol.redun := rfl
@[simp] theorem State.modCore_vol_sec (s : State) (k : Nat) (f : WorkCore → WorkCore) : (s.modCore k f).vol.sec = s.vol.sec := rfl
@[simp] theorem State.modCore_vol_counters (s : State) (k : Nat) (f : WorkCore → WorkCore) : (s.modCore k f).vol.counters = s.vol.counters := rfl
@[simp] theorem State.modCore_vol_pendingMode (s : State) (k : Nat) (f : WorkCore → WorkCore) : (s.modCore k f).vol.pendingMode = s.vol.pendingMode := rfl
@[simp] theorem State.modCore_out (s : State) (k : Nat) (f : WorkCore → WorkCore) : (s.modCore k f).out = s.out := rfl
@[simp] theorem State.modCore_clock (s : State) (k : Nat) (f : WorkCore → WorkCore) : (s.modCore k f).clock = s.clock := rfl
@[simp] theorem State.modCore_mtbZero (s : State) (k : Nat) (f : WorkCore → WorkCore) : (s.modCore k f).mtbZero = s.mtbZero := rfl
@[simp] theorem State.modCore_fresh (s : State) (k : Nat) (f : WorkCore → WorkCore) : (s.modCore k f).fresh = s.fresh := rfl
@[simp] theorem State.modCore_pending (s : State) (k : Nat) (f : WorkCore → WorkCore) : (s.modCore k f).pending = s.pending := rfl
@[simp] theorem State.modSolveRun_env (s : State) (node : Nat) (f : SolveRun → SolveRun) : (s.modSolveRun node f).env = s.env := rfl
@[simp] theorem State.modSolveRun_hsw (s : State) (node : Nat) (f : SolveRun → SolveRun) : (s.modSolveRun node f).hsw = s.hsw := rfl
@[simp] theorem State.modSolveRun_sideA (s : State) (node : Nat) (f : SolveRun → SolveRun) : (s.modSolveRun node f).sideA = s.sideA := rfl
@[simp] theorem State.modSolveRun_sideB (s : State) (node : Nat) (f : SolveRun → SolveRun) : (s.modSolveRun node f).sideB = s.sideB := rfl
@[simp] theorem State.modSolveRun_ctl (s : State) (node : Nat) (f : SolveRun → SolveRun) : (s.modSolveRun node f).ctl = s.ctl := rfl
@[simp] theorem State.modSolveRun_vol_gnss (s : State) (node : Nat) (f : SolveRun → SolveRun) : (s.modSolveRun node f).vol.gnss = s.vol.gnss := rfl
@[simp] theorem State.modSolveRun_vol_corr (s : State) (node : Nat) (f : SolveRun → SolveRun) : (s.modSolveRun node f).vol.corr = s.vol.corr := rfl
@[simp] theorem State.modSolveRun_vol_time (s : State) (node : Nat) (f : SolveRun → SolveRun) : (s.modSolveRun node f).vol.time = s.vol.time := rfl
@[simp] theorem State.modSolveRun_vol_radio (s : State) (node : Nat) (f : SolveRun → SolveRun) : (s.modSolveRun node f).vol.radio = s.vol.radio := rfl
@[simp] theorem State.modSolveRun_vol_mac (s : State) (node : Nat) (f : SolveRun → SolveRun) : (s.modSolveRun node f).vol.mac = s.vol.mac := rfl
@[simp] theorem State.modSolveRun_vol_sluice (s : State) (node : Nat) (f : SolveRun → SolveRun) : (s.modSolveRun node f).vol.sluice = s.vol.sluice := rfl
@[simp] theorem State.modSolveRun_vol_dyke (s : State) (node : Nat) (f : SolveRun → SolveRun) : (s.modSolveRun node f).vol.dyke = s.vol.dyke := rfl
@[simp] theorem State.modSolveRun_vol_sched (s : State) (node : Nat) (f : SolveRun → SolveRun) : (s.modSolveRun node f).vol.sched = s.vol.sched := rfl
@[simp] theorem State.modSolveRun_vol_peat (s : State) (node : Nat) (f : SolveRun → SolveRun) : (s.modSolveRun node f).vol.peat = s.vol.peat := rfl
@[simp] theorem State.modSolveRun_vol_wader (s : State) (node : Nat) (f : SolveRun → SolveRun) : (s.modSolveRun node f).vol.wader = s.vol.wader := rfl
@[simp] theorem State.modSolveRun_vol_fed (s : State) (node : Nat) (f : SolveRun → SolveRun) : (s.modSolveRun node f).vol.fed = s.vol.fed := rfl
@[simp] theorem State.modSolveRun_vol_redun (s : State) (node : Nat) (f : SolveRun → SolveRun) : (s.modSolveRun node f).vol.redun = s.vol.redun := rfl
@[simp] theorem State.modSolveRun_vol_sec (s : State) (node : Nat) (f : SolveRun → SolveRun) : (s.modSolveRun node f).vol.sec = s.vol.sec := rfl
@[simp] theorem State.modSolveRun_vol_counters (s : State) (node : Nat) (f : SolveRun → SolveRun) : (s.modSolveRun node f).vol.counters = s.vol.counters := rfl
@[simp] theorem State.modSolveRun_vol_pendingMode (s : State) (node : Nat) (f : SolveRun → SolveRun) : (s.modSolveRun node f).vol.pendingMode = s.vol.pendingMode := rfl
@[simp] theorem State.modSolveRun_out (s : State) (node : Nat) (f : SolveRun → SolveRun) : (s.modSolveRun node f).out = s.out := rfl
@[simp] theorem State.modSolveRun_clock (s : State) (node : Nat) (f : SolveRun → SolveRun) : (s.modSolveRun node f).clock = s.clock := rfl
@[simp] theorem State.modSolveRun_mtbZero (s : State) (node : Nat) (f : SolveRun → SolveRun) : (s.modSolveRun node f).mtbZero = s.mtbZero := rfl
@[simp] theorem State.modSolveRun_fresh (s : State) (node : Nat) (f : SolveRun → SolveRun) : (s.modSolveRun node f).fresh = s.fresh := rfl
@[simp] theorem State.modSolveRun_pending (s : State) (node : Nat) (f : SolveRun → SolveRun) : (s.modSolveRun node f).pending = s.pending := rfl
@[simp] theorem State.modPeer_env (s : State) (k : Nat) (f : PeerRun → PeerRun) : (s.modPeer k f).env = s.env := rfl
@[simp] theorem State.modPeer_hsw (s : State) (k : Nat) (f : PeerRun → PeerRun) : (s.modPeer k f).hsw = s.hsw := rfl
@[simp] theorem State.modPeer_sideA (s : State) (k : Nat) (f : PeerRun → PeerRun) : (s.modPeer k f).sideA = s.sideA := rfl
@[simp] theorem State.modPeer_sideB (s : State) (k : Nat) (f : PeerRun → PeerRun) : (s.modPeer k f).sideB = s.sideB := rfl
@[simp] theorem State.modPeer_ctl (s : State) (k : Nat) (f : PeerRun → PeerRun) : (s.modPeer k f).ctl = s.ctl := rfl
@[simp] theorem State.modPeer_vol_gnss (s : State) (k : Nat) (f : PeerRun → PeerRun) : (s.modPeer k f).vol.gnss = s.vol.gnss := rfl
@[simp] theorem State.modPeer_vol_corr (s : State) (k : Nat) (f : PeerRun → PeerRun) : (s.modPeer k f).vol.corr = s.vol.corr := rfl
@[simp] theorem State.modPeer_vol_time (s : State) (k : Nat) (f : PeerRun → PeerRun) : (s.modPeer k f).vol.time = s.vol.time := rfl
@[simp] theorem State.modPeer_vol_radio (s : State) (k : Nat) (f : PeerRun → PeerRun) : (s.modPeer k f).vol.radio = s.vol.radio := rfl
@[simp] theorem State.modPeer_vol_mac (s : State) (k : Nat) (f : PeerRun → PeerRun) : (s.modPeer k f).vol.mac = s.vol.mac := rfl
@[simp] theorem State.modPeer_vol_sluice (s : State) (k : Nat) (f : PeerRun → PeerRun) : (s.modPeer k f).vol.sluice = s.vol.sluice := rfl
@[simp] theorem State.modPeer_vol_dyke (s : State) (k : Nat) (f : PeerRun → PeerRun) : (s.modPeer k f).vol.dyke = s.vol.dyke := rfl
@[simp] theorem State.modPeer_vol_solver (s : State) (k : Nat) (f : PeerRun → PeerRun) : (s.modPeer k f).vol.solver = s.vol.solver := rfl
@[simp] theorem State.modPeer_vol_sched (s : State) (k : Nat) (f : PeerRun → PeerRun) : (s.modPeer k f).vol.sched = s.vol.sched := rfl
@[simp] theorem State.modPeer_vol_peat (s : State) (k : Nat) (f : PeerRun → PeerRun) : (s.modPeer k f).vol.peat = s.vol.peat := rfl
@[simp] theorem State.modPeer_vol_wader (s : State) (k : Nat) (f : PeerRun → PeerRun) : (s.modPeer k f).vol.wader = s.vol.wader := rfl
@[simp] theorem State.modPeer_vol_redun (s : State) (k : Nat) (f : PeerRun → PeerRun) : (s.modPeer k f).vol.redun = s.vol.redun := rfl
@[simp] theorem State.modPeer_vol_sec (s : State) (k : Nat) (f : PeerRun → PeerRun) : (s.modPeer k f).vol.sec = s.vol.sec := rfl
@[simp] theorem State.modPeer_vol_counters (s : State) (k : Nat) (f : PeerRun → PeerRun) : (s.modPeer k f).vol.counters = s.vol.counters := rfl
@[simp] theorem State.modPeer_vol_pendingMode (s : State) (k : Nat) (f : PeerRun → PeerRun) : (s.modPeer k f).vol.pendingMode = s.vol.pendingMode := rfl
@[simp] theorem State.modPeer_out (s : State) (k : Nat) (f : PeerRun → PeerRun) : (s.modPeer k f).out = s.out := rfl
@[simp] theorem State.modPeer_clock (s : State) (k : Nat) (f : PeerRun → PeerRun) : (s.modPeer k f).clock = s.clock := rfl
@[simp] theorem State.modPeer_mtbZero (s : State) (k : Nat) (f : PeerRun → PeerRun) : (s.modPeer k f).mtbZero = s.mtbZero := rfl
@[simp] theorem State.modPeer_fresh (s : State) (k : Nat) (f : PeerRun → PeerRun) : (s.modPeer k f).fresh = s.fresh := rfl
@[simp] theorem State.modPeer_pending (s : State) (k : Nat) (f : PeerRun → PeerRun) : (s.modPeer k f).pending = s.pending := rfl
@[simp] theorem State.modStop_env (s : State) (no : Nat) (f : Stop → Stop) : (s.modStop no f).env = s.env := rfl
@[simp] theorem State.modStop_hsw (s : State) (no : Nat) (f : Stop → Stop) : (s.modStop no f).hsw = s.hsw := rfl
@[simp] theorem State.modStop_sideA (s : State) (no : Nat) (f : Stop → Stop) : (s.modStop no f).sideA = s.sideA := rfl
@[simp] theorem State.modStop_sideB (s : State) (no : Nat) (f : Stop → Stop) : (s.modStop no f).sideB = s.sideB := rfl
@[simp] theorem State.modStop_ctl_cfg (s : State) (no : Nat) (f : Stop → Stop) : (s.modStop no f).ctl.cfg = s.ctl.cfg := rfl
@[simp] theorem State.modStop_ctl_timeCfg (s : State) (no : Nat) (f : Stop → Stop) : (s.modStop no f).ctl.timeCfg = s.ctl.timeCfg := rfl
@[simp] theorem State.modStop_ctl_time (s : State) (no : Nat) (f : Stop → Stop) : (s.modStop no f).ctl.time = s.ctl.time := rfl
@[simp] theorem State.modStop_ctl_hot (s : State) (no : Nat) (f : Stop → Stop) : (s.modStop no f).ctl.hot = s.ctl.hot := rfl
@[simp] theorem State.modStop_ctl_budget (s : State) (no : Nat) (f : Stop → Stop) : (s.modStop no f).ctl.budget = s.ctl.budget := rfl
@[simp] theorem State.modStop_ctl_conns (s : State) (no : Nat) (f : Stop → Stop) : (s.modStop no f).ctl.conns = s.ctl.conns := rfl
@[simp] theorem State.modStop_ctl_dyke (s : State) (no : Nat) (f : Stop → Stop) : (s.modStop no f).ctl.dyke = s.ctl.dyke := rfl
@[simp] theorem State.modStop_ctl_filters (s : State) (no : Nat) (f : Stop → Stop) : (s.modStop no f).ctl.filters = s.ctl.filters := rfl
@[simp] theorem State.modStop_ctl_handovers (s : State) (no : Nat) (f : Stop → Stop) : (s.modStop no f).ctl.handovers = s.ctl.handovers := rfl
@[simp] theorem State.modStop_ctl_mode (s : State) (no : Nat) (f : Stop → Stop) : (s.modStop no f).ctl.mode = s.ctl.mode := rfl
@[simp] theorem State.modStop_ctl_gpioDir (s : State) (no : Nat) (f : Stop → Stop) : (s.modStop no f).ctl.gpioDir = s.ctl.gpioDir := rfl
@[simp] theorem State.modStop_ctl_gpioLvl (s : State) (no : Nat) (f : Stop → Stop) : (s.modStop no f).ctl.gpioLvl = s.ctl.gpioLvl := rfl
@[simp] theorem State.modStop_ctl_records (s : State) (no : Nat) (f : Stop → Stop) : (s.modStop no f).ctl.records = s.ctl.records := rfl
@[simp] theorem State.modStop_vol (s : State) (no : Nat) (f : Stop → Stop) : (s.modStop no f).vol = s.vol := rfl
@[simp] theorem State.modStop_out (s : State) (no : Nat) (f : Stop → Stop) : (s.modStop no f).out = s.out := rfl
@[simp] theorem State.modStop_clock (s : State) (no : Nat) (f : Stop → Stop) : (s.modStop no f).clock = s.clock := rfl
@[simp] theorem State.modStop_mtbZero (s : State) (no : Nat) (f : Stop → Stop) : (s.modStop no f).mtbZero = s.mtbZero := rfl
@[simp] theorem State.modStop_fresh (s : State) (no : Nat) (f : Stop → Stop) : (s.modStop no f).fresh = s.fresh := rfl
@[simp] theorem State.modStop_pending (s : State) (no : Nat) (f : Stop → Stop) : (s.modStop no f).pending = s.pending := rfl
@[simp] theorem State.modStore_env (s : State) (x : SideId) (f : ConfigStore → ConfigStore) : (s.modStore x f).env = s.env := by unfold State.modStore; simp
@[simp] theorem State.modStore_hsw (s : State) (x : SideId) (f : ConfigStore → ConfigStore) : (s.modStore x f).hsw = s.hsw := by unfold State.modStore; simp
@[simp] theorem State.modStore_ctl (s : State) (x : SideId) (f : ConfigStore → ConfigStore) : (s.modStore x f).ctl = s.ctl := by unfold State.modStore; simp
@[simp] theorem State.modStore_vol (s : State) (x : SideId) (f : ConfigStore → ConfigStore) : (s.modStore x f).vol = s.vol := by unfold State.modStore; simp
@[simp] theorem State.modStore_out (s : State) (x : SideId) (f : ConfigStore → ConfigStore) : (s.modStore x f).out = s.out := by unfold State.modStore; simp
@[simp] theorem State.modStore_clock (s : State) (x : SideId) (f : ConfigStore → ConfigStore) : (s.modStore x f).clock = s.clock := by unfold State.modStore; simp
@[simp] theorem State.modStore_mtbZero (s : State) (x : SideId) (f : ConfigStore → ConfigStore) : (s.modStore x f).mtbZero = s.mtbZero := by unfold State.modStore; simp
@[simp] theorem State.modStore_fresh (s : State) (x : SideId) (f : ConfigStore → ConfigStore) : (s.modStore x f).fresh = s.fresh := by unfold State.modStore; simp
@[simp] theorem State.modStore_pending (s : State) (x : SideId) (f : ConfigStore → ConfigStore) : (s.modStore x f).pending = s.pending := by unfold State.modStore; simp
@[simp] theorem State.modTime_env (s : State) (f : TimeRun → TimeRun) : (s.modTime f).env = s.env := rfl
@[simp] theorem State.modTime_hsw (s : State) (f : TimeRun → TimeRun) : (s.modTime f).hsw = s.hsw := rfl
@[simp] theorem State.modTime_sideA (s : State) (f : TimeRun → TimeRun) : (s.modTime f).sideA = s.sideA := rfl
@[simp] theorem State.modTime_sideB (s : State) (f : TimeRun → TimeRun) : (s.modTime f).sideB = s.sideB := rfl
@[simp] theorem State.modTime_ctl (s : State) (f : TimeRun → TimeRun) : (s.modTime f).ctl = s.ctl := rfl
@[simp] theorem State.modTime_vol_gnss (s : State) (f : TimeRun → TimeRun) : (s.modTime f).vol.gnss = s.vol.gnss := rfl
@[simp] theorem State.modTime_vol_corr (s : State) (f : TimeRun → TimeRun) : (s.modTime f).vol.corr = s.vol.corr := rfl
@[simp] theorem State.modTime_vol_radio (s : State) (f : TimeRun → TimeRun) : (s.modTime f).vol.radio = s.vol.radio := rfl
@[simp] theorem State.modTime_vol_mac (s : State) (f : TimeRun → TimeRun) : (s.modTime f).vol.mac = s.vol.mac := rfl
@[simp] theorem State.modTime_vol_sluice (s : State) (f : TimeRun → TimeRun) : (s.modTime f).vol.sluice = s.vol.sluice := rfl
@[simp] theorem State.modTime_vol_dyke (s : State) (f : TimeRun → TimeRun) : (s.modTime f).vol.dyke = s.vol.dyke := rfl
@[simp] theorem State.modTime_vol_solver (s : State) (f : TimeRun → TimeRun) : (s.modTime f).vol.solver = s.vol.solver := rfl
@[simp] theorem State.modTime_vol_sched (s : State) (f : TimeRun → TimeRun) : (s.modTime f).vol.sched = s.vol.sched := rfl
@[simp] theorem State.modTime_vol_peat (s : State) (f : TimeRun → TimeRun) : (s.modTime f).vol.peat = s.vol.peat := rfl
@[simp] theorem State.modTime_vol_wader (s : State) (f : TimeRun → TimeRun) : (s.modTime f).vol.wader = s.vol.wader := rfl
@[simp] theorem State.modTime_vol_fed (s : State) (f : TimeRun → TimeRun) : (s.modTime f).vol.fed = s.vol.fed := rfl
@[simp] theorem State.modTime_vol_redun (s : State) (f : TimeRun → TimeRun) : (s.modTime f).vol.redun = s.vol.redun := rfl
@[simp] theorem State.modTime_vol_sec (s : State) (f : TimeRun → TimeRun) : (s.modTime f).vol.sec = s.vol.sec := rfl
@[simp] theorem State.modTime_vol_counters (s : State) (f : TimeRun → TimeRun) : (s.modTime f).vol.counters = s.vol.counters := rfl
@[simp] theorem State.modTime_vol_pendingMode (s : State) (f : TimeRun → TimeRun) : (s.modTime f).vol.pendingMode = s.vol.pendingMode := rfl
@[simp] theorem State.modTime_out (s : State) (f : TimeRun → TimeRun) : (s.modTime f).out = s.out := rfl
@[simp] theorem State.modTime_clock (s : State) (f : TimeRun → TimeRun) : (s.modTime f).clock = s.clock := rfl
@[simp] theorem State.modTime_mtbZero (s : State) (f : TimeRun → TimeRun) : (s.modTime f).mtbZero = s.mtbZero := rfl
@[simp] theorem State.modTime_fresh (s : State) (f : TimeRun → TimeRun) : (s.modTime f).fresh = s.fresh := rfl
@[simp] theorem State.modTime_pending (s : State) (f : TimeRun → TimeRun) : (s.modTime f).pending = s.pending := rfl
@[simp] theorem State.modValues_env (s : State) (f : TimeValues → TimeValues) : (s.modValues f).env = s.env := rfl
@[simp] theorem State.modValues_hsw (s : State) (f : TimeValues → TimeValues) : (s.modValues f).hsw = s.hsw := rfl
@[simp] theorem State.modValues_sideA (s : State) (f : TimeValues → TimeValues) : (s.modValues f).sideA = s.sideA := rfl
@[simp] theorem State.modValues_sideB (s : State) (f : TimeValues → TimeValues) : (s.modValues f).sideB = s.sideB := rfl
@[simp] theorem State.modValues_ctl_cfg (s : State) (f : TimeValues → TimeValues) : (s.modValues f).ctl.cfg = s.ctl.cfg := rfl
@[simp] theorem State.modValues_ctl_timeCfg (s : State) (f : TimeValues → TimeValues) : (s.modValues f).ctl.timeCfg = s.ctl.timeCfg := rfl
@[simp] theorem State.modValues_ctl_hot (s : State) (f : TimeValues → TimeValues) : (s.modValues f).ctl.hot = s.ctl.hot := rfl
@[simp] theorem State.modValues_ctl_budget (s : State) (f : TimeValues → TimeValues) : (s.modValues f).ctl.budget = s.ctl.budget := rfl
@[simp] theorem State.modValues_ctl_conns (s : State) (f : TimeValues → TimeValues) : (s.modValues f).ctl.conns = s.ctl.conns := rfl
@[simp] theorem State.modValues_ctl_sluice (s : State) (f : TimeValues → TimeValues) : (s.modValues f).ctl.sluice = s.ctl.sluice := rfl
@[simp] theorem State.modValues_ctl_dyke (s : State) (f : TimeValues → TimeValues) : (s.modValues f).ctl.dyke = s.ctl.dyke := rfl
@[simp] theorem State.modValues_ctl_filters (s : State) (f : TimeValues → TimeValues) : (s.modValues f).ctl.filters = s.ctl.filters := rfl
@[simp] theorem State.modValues_ctl_handovers (s : State) (f : TimeValues → TimeValues) : (s.modValues f).ctl.handovers = s.ctl.handovers := rfl
@[simp] theorem State.modValues_ctl_mode (s : State) (f : TimeValues → TimeValues) : (s.modValues f).ctl.mode = s.ctl.mode := rfl
@[simp] theorem State.modValues_ctl_gpioDir (s : State) (f : TimeValues → TimeValues) : (s.modValues f).ctl.gpioDir = s.ctl.gpioDir := rfl
@[simp] theorem State.modValues_ctl_gpioLvl (s : State) (f : TimeValues → TimeValues) : (s.modValues f).ctl.gpioLvl = s.ctl.gpioLvl := rfl
@[simp] theorem State.modValues_ctl_records (s : State) (f : TimeValues → TimeValues) : (s.modValues f).ctl.records = s.ctl.records := rfl
@[simp] theorem State.modValues_vol (s : State) (f : TimeValues → TimeValues) : (s.modValues f).vol = s.vol := rfl
@[simp] theorem State.modValues_out (s : State) (f : TimeValues → TimeValues) : (s.modValues f).out = s.out := rfl
@[simp] theorem State.modValues_clock (s : State) (f : TimeValues → TimeValues) : (s.modValues f).clock = s.clock := rfl
@[simp] theorem State.modValues_mtbZero (s : State) (f : TimeValues → TimeValues) : (s.modValues f).mtbZero = s.mtbZero := rfl
@[simp] theorem State.modValues_fresh (s : State) (f : TimeValues → TimeValues) : (s.modValues f).fresh = s.fresh := rfl
@[simp] theorem State.modValues_pending (s : State) (f : TimeValues → TimeValues) : (s.modValues f).pending = s.pending := rfl
@[simp] theorem State.modPtp_env (s : State) (p : Nat) (f : PtpPort → PtpPort) : (s.modPtp p f).env = s.env := rfl
@[simp] theorem State.modPtp_hsw (s : State) (p : Nat) (f : PtpPort → PtpPort) : (s.modPtp p f).hsw = s.hsw := rfl
@[simp] theorem State.modPtp_sideA (s : State) (p : Nat) (f : PtpPort → PtpPort) : (s.modPtp p f).sideA = s.sideA := rfl
@[simp] theorem State.modPtp_sideB (s : State) (p : Nat) (f : PtpPort → PtpPort) : (s.modPtp p f).sideB = s.sideB := rfl
@[simp] theorem State.modPtp_ctl (s : State) (p : Nat) (f : PtpPort → PtpPort) : (s.modPtp p f).ctl = s.ctl := rfl
@[simp] theorem State.modPtp_vol_gnss (s : State) (p : Nat) (f : PtpPort → PtpPort) : (s.modPtp p f).vol.gnss = s.vol.gnss := rfl
@[simp] theorem State.modPtp_vol_corr (s : State) (p : Nat) (f : PtpPort → PtpPort) : (s.modPtp p f).vol.corr = s.vol.corr := rfl
@[simp] theorem State.modPtp_vol_radio (s : State) (p : Nat) (f : PtpPort → PtpPort) : (s.modPtp p f).vol.radio = s.vol.radio := rfl
@[simp] theorem State.modPtp_vol_mac (s : State) (p : Nat) (f : PtpPort → PtpPort) : (s.modPtp p f).vol.mac = s.vol.mac := rfl
@[simp] theorem State.modPtp_vol_sluice (s : State) (p : Nat) (f : PtpPort → PtpPort) : (s.modPtp p f).vol.sluice = s.vol.sluice := rfl
@[simp] theorem State.modPtp_vol_dyke (s : State) (p : Nat) (f : PtpPort → PtpPort) : (s.modPtp p f).vol.dyke = s.vol.dyke := rfl
@[simp] theorem State.modPtp_vol_solver (s : State) (p : Nat) (f : PtpPort → PtpPort) : (s.modPtp p f).vol.solver = s.vol.solver := rfl
@[simp] theorem State.modPtp_vol_sched (s : State) (p : Nat) (f : PtpPort → PtpPort) : (s.modPtp p f).vol.sched = s.vol.sched := rfl
@[simp] theorem State.modPtp_vol_peat (s : State) (p : Nat) (f : PtpPort → PtpPort) : (s.modPtp p f).vol.peat = s.vol.peat := rfl
@[simp] theorem State.modPtp_vol_wader (s : State) (p : Nat) (f : PtpPort → PtpPort) : (s.modPtp p f).vol.wader = s.vol.wader := rfl
@[simp] theorem State.modPtp_vol_fed (s : State) (p : Nat) (f : PtpPort → PtpPort) : (s.modPtp p f).vol.fed = s.vol.fed := rfl
@[simp] theorem State.modPtp_vol_redun (s : State) (p : Nat) (f : PtpPort → PtpPort) : (s.modPtp p f).vol.redun = s.vol.redun := rfl
@[simp] theorem State.modPtp_vol_sec (s : State) (p : Nat) (f : PtpPort → PtpPort) : (s.modPtp p f).vol.sec = s.vol.sec := rfl
@[simp] theorem State.modPtp_vol_counters (s : State) (p : Nat) (f : PtpPort → PtpPort) : (s.modPtp p f).vol.counters = s.vol.counters := rfl
@[simp] theorem State.modPtp_vol_pendingMode (s : State) (p : Nat) (f : PtpPort → PtpPort) : (s.modPtp p f).vol.pendingMode = s.vol.pendingMode := rfl
@[simp] theorem State.modPtp_out (s : State) (p : Nat) (f : PtpPort → PtpPort) : (s.modPtp p f).out = s.out := rfl
@[simp] theorem State.modPtp_clock (s : State) (p : Nat) (f : PtpPort → PtpPort) : (s.modPtp p f).clock = s.clock := rfl
@[simp] theorem State.modPtp_mtbZero (s : State) (p : Nat) (f : PtpPort → PtpPort) : (s.modPtp p f).mtbZero = s.mtbZero := rfl
@[simp] theorem State.modPtp_fresh (s : State) (p : Nat) (f : PtpPort → PtpPort) : (s.modPtp p f).fresh = s.fresh := rfl
@[simp] theorem State.modPtp_pending (s : State) (p : Nat) (f : PtpPort → PtpPort) : (s.modPtp p f).pending = s.pending := rfl
@[simp] theorem State.modStaging_env (s : State) (f : Staging → Staging) : (s.modStaging f).env = s.env := by unfold State.modStaging; simp
@[simp] theorem State.modStaging_hsw (s : State) (f : Staging → Staging) : (s.modStaging f).hsw = s.hsw := by unfold State.modStaging; simp
@[simp] theorem State.modStaging_ctl (s : State) (f : Staging → Staging) : (s.modStaging f).ctl = s.ctl := by unfold State.modStaging; simp
@[simp] theorem State.modStaging_vol (s : State) (f : Staging → Staging) : (s.modStaging f).vol = s.vol := by unfold State.modStaging; simp
@[simp] theorem State.modStaging_out (s : State) (f : Staging → Staging) : (s.modStaging f).out = s.out := by unfold State.modStaging; simp
@[simp] theorem State.modStaging_clock (s : State) (f : Staging → Staging) : (s.modStaging f).clock = s.clock := by unfold State.modStaging; simp
@[simp] theorem State.modStaging_mtbZero (s : State) (f : Staging → Staging) : (s.modStaging f).mtbZero = s.mtbZero := by unfold State.modStaging; simp
@[simp] theorem State.modStaging_fresh (s : State) (f : Staging → Staging) : (s.modStaging f).fresh = s.fresh := by unfold State.modStaging; simp
@[simp] theorem State.modStaging_pending (s : State) (f : Staging → Staging) : (s.modStaging f).pending = s.pending := by unfold State.modStaging; simp
@[simp] theorem setLock_env (l : UpdateLock) (s : State) : (setLock l s).env = s.env := by unfold setLock; simp
@[simp] theorem setLock_hsw (l : UpdateLock) (s : State) : (setLock l s).hsw = s.hsw := by unfold setLock; simp
@[simp] theorem setLock_ctl (l : UpdateLock) (s : State) : (setLock l s).ctl = s.ctl := by unfold setLock; simp
@[simp] theorem setLock_vol (l : UpdateLock) (s : State) : (setLock l s).vol = s.vol := by unfold setLock; simp
@[simp] theorem setLock_out (l : UpdateLock) (s : State) : (setLock l s).out = s.out := by unfold setLock; simp
@[simp] theorem setLock_clock (l : UpdateLock) (s : State) : (setLock l s).clock = s.clock := by unfold setLock; simp
@[simp] theorem setLock_mtbZero (l : UpdateLock) (s : State) : (setLock l s).mtbZero = s.mtbZero := by unfold setLock; simp
@[simp] theorem setLock_fresh (l : UpdateLock) (s : State) : (setLock l s).fresh = s.fresh := by unfold setLock; simp
@[simp] theorem setLock_pending (l : UpdateLock) (s : State) : (setLock l s).pending = s.pending := by unfold setLock; simp
@[simp] theorem modSwitchFw_env (f : Firmware → Firmware) (s : State) : (modSwitchFw f s).env = s.env := rfl
@[simp] theorem modSwitchFw_hsw_ready (f : Firmware → Firmware) (s : State) : (modSwitchFw f s).hsw.ready = s.hsw.ready := rfl
@[simp] theorem modSwitchFw_hsw_alive (f : Firmware → Firmware) (s : State) : (modSwitchFw f s).hsw.alive = s.hsw.alive := rfl
@[simp] theorem modSwitchFw_hsw_active (f : Firmware → Firmware) (s : State) : (modSwitchFw f s).hsw.active = s.hsw.active := rfl
@[simp] theorem modSwitchFw_hsw_last (f : Firmware → Firmware) (s : State) : (modSwitchFw f s).hsw.last = s.hsw.last := rfl
@[simp] theorem modSwitchFw_hsw_changes (f : Firmware → Firmware) (s : State) : (modSwitchFw f s).hsw.changes = s.hsw.changes := rfl
@[simp] theorem modSwitchFw_hsw_strapBits (f : Firmware → Firmware) (s : State) : (modSwitchFw f s).hsw.strapBits = s.hsw.strapBits := rfl
@[simp] theorem modSwitchFw_hsw_strapFault (f : Firmware → Firmware) (s : State) : (modSwitchFw f s).hsw.strapFault = s.hsw.strapFault := rfl
@[simp] theorem modSwitchFw_hsw_serving (f : Firmware → Firmware) (s : State) : (modSwitchFw f s).hsw.serving = s.hsw.serving := rfl
@[simp] theorem modSwitchFw_hsw_epoch (f : Firmware → Firmware) (s : State) : (modSwitchFw f s).hsw.epoch = s.hsw.epoch := rfl
@[simp] theorem modSwitchFw_hsw_irqCause (f : Firmware → Firmware) (s : State) : (modSwitchFw f s).hsw.irqCause = s.hsw.irqCause := rfl
@[simp] theorem modSwitchFw_hsw_irqMask (f : Firmware → Firmware) (s : State) : (modSwitchFw f s).hsw.irqMask = s.hsw.irqMask := rfl
@[simp] theorem modSwitchFw_hsw_msixTable (f : Firmware → Firmware) (s : State) : (modSwitchFw f s).hsw.msixTable = s.hsw.msixTable := rfl
@[simp] theorem modSwitchFw_hsw_msixPba (f : Firmware → Firmware) (s : State) : (modSwitchFw f s).hsw.msixPba = s.hsw.msixPba := rfl
@[simp] theorem modSwitchFw_hsw_ringErrCode (f : Firmware → Firmware) (s : State) : (modSwitchFw f s).hsw.ringErrCode = s.hsw.ringErrCode := rfl
@[simp] theorem modSwitchFw_hsw_ringErrSet (f : Firmware → Firmware) (s : State) : (modSwitchFw f s).hsw.ringErrSet = s.hsw.ringErrSet := rfl
@[simp] theorem modSwitchFw_hsw_ringErrCount (f : Firmware → Firmware) (s : State) : (modSwitchFw f s).hsw.ringErrCount = s.hsw.ringErrCount := rfl
@[simp] theorem modSwitchFw_hsw_ring0 (f : Firmware → Firmware) (s : State) : (modSwitchFw f s).hsw.ring0 = s.hsw.ring0 := rfl
@[simp] theorem modSwitchFw_hsw_ring1 (f : Firmware → Firmware) (s : State) : (modSwitchFw f s).hsw.ring1 = s.hsw.ring1 := rfl
@[simp] theorem modSwitchFw_hsw_mnt (f : Firmware → Firmware) (s : State) : (modSwitchFw f s).hsw.mnt = s.hsw.mnt := rfl
@[simp] theorem modSwitchFw_hsw_sessions (f : Firmware → Firmware) (s : State) : (modSwitchFw f s).hsw.sessions = s.hsw.sessions := rfl
@[simp] theorem modSwitchFw_hsw_handoverN (f : Firmware → Firmware) (s : State) : (modSwitchFw f s).hsw.handoverN = s.hsw.handoverN := rfl
@[simp] theorem modSwitchFw_hsw_pcieUp (f : Firmware → Firmware) (s : State) : (modSwitchFw f s).hsw.pcieUp = s.hsw.pcieUp := rfl
@[simp] theorem modSwitchFw_hsw_perst (f : Firmware → Firmware) (s : State) : (modSwitchFw f s).hsw.perst = s.hsw.perst := rfl
@[simp] theorem modSwitchFw_hsw_restarting (f : Firmware → Firmware) (s : State) : (modSwitchFw f s).hsw.restarting = s.hsw.restarting := rfl
@[simp] theorem modSwitchFw_hsw_resetHeld (f : Firmware → Firmware) (s : State) : (modSwitchFw f s).hsw.resetHeld = s.hsw.resetHeld := rfl
@[simp] theorem modSwitchFw_hsw_warned (f : Firmware → Firmware) (s : State) : (modSwitchFw f s).hsw.warned = s.hsw.warned := rfl
@[simp] theorem modSwitchFw_hsw_downWhy (f : Firmware → Firmware) (s : State) : (modSwitchFw f s).hsw.downWhy = s.hsw.downWhy := rfl
@[simp] theorem modSwitchFw_hsw_wakeDue (f : Firmware → Firmware) (s : State) : (modSwitchFw f s).hsw.wakeDue = s.hsw.wakeDue := rfl
@[simp] theorem modSwitchFw_hsw_restartDue (f : Firmware → Firmware) (s : State) : (modSwitchFw f s).hsw.restartDue = s.hsw.restartDue := rfl
@[simp] theorem modSwitchFw_hsw_supplyEvents (f : Firmware → Firmware) (s : State) : (modSwitchFw f s).hsw.supplyEvents = s.hsw.supplyEvents := rfl
@[simp] theorem modSwitchFw_hsw_keyFaults (f : Firmware → Firmware) (s : State) : (modSwitchFw f s).hsw.keyFaults = s.hsw.keyFaults := rfl
@[simp] theorem modSwitchFw_hsw_runNo (f : Firmware → Firmware) (s : State) : (modSwitchFw f s).hsw.runNo = s.hsw.runNo := rfl
@[simp] theorem modSwitchFw_hsw_lastCause (f : Firmware → Firmware) (s : State) : (modSwitchFw f s).hsw.lastCause = s.hsw.lastCause := rfl
@[simp] theorem modSwitchFw_sideA (f : Firmware → Firmware) (s : State) : (modSwitchFw f s).sideA = s.sideA := rfl
@[simp] theorem modSwitchFw_sideB (f : Firmware → Firmware) (s : State) : (modSwitchFw f s).sideB = s.sideB := rfl
@[simp] theorem modSwitchFw_ctl (f : Firmware → Firmware) (s : State) : (modSwitchFw f s).ctl = s.ctl := rfl
@[simp] theorem modSwitchFw_vol (f : Firmware → Firmware) (s : State) : (modSwitchFw f s).vol = s.vol := rfl
@[simp] theorem modSwitchFw_out (f : Firmware → Firmware) (s : State) : (modSwitchFw f s).out = s.out := rfl
@[simp] theorem modSwitchFw_clock (f : Firmware → Firmware) (s : State) : (modSwitchFw f s).clock = s.clock := rfl
@[simp] theorem modSwitchFw_mtbZero (f : Firmware → Firmware) (s : State) : (modSwitchFw f s).mtbZero = s.mtbZero := rfl
@[simp] theorem modSwitchFw_fresh (f : Firmware → Firmware) (s : State) : (modSwitchFw f s).fresh = s.fresh := rfl
@[simp] theorem modSwitchFw_pending (f : Firmware → Firmware) (s : State) : (modSwitchFw f s).pending = s.pending := rfl
@[simp] theorem State.modPort_env (s : State) (p : Nat) (f : PortRun → PortRun) : (s.modPort p f).env = s.env := rfl
@[simp] theorem State.modPort_hsw (s : State) (p : Nat) (f : PortRun → PortRun) : (s.modPort p f).hsw = s.hsw := rfl
@[simp] theorem State.modPort_sideA (s : State) (p : Nat) (f : PortRun → PortRun) : (s.modPort p f).sideA = s.sideA := rfl
@[simp] theorem State.modPort_sideB (s : State) (p : Nat) (f : PortRun → PortRun) : (s.modPort p f).sideB = s.sideB := rfl
@[simp] theorem State.modPort_ctl (s : State) (p : Nat) (f : PortRun → PortRun) : (s.modPort p f).ctl = s.ctl := rfl
@[simp] theorem State.modPort_vol_gnss (s : State) (p : Nat) (f : PortRun → PortRun) : (s.modPort p f).vol.gnss = s.vol.gnss := rfl
@[simp] theorem State.modPort_vol_corr (s : State) (p : Nat) (f : PortRun → PortRun) : (s.modPort p f).vol.corr = s.vol.corr := rfl
@[simp] theorem State.modPort_vol_time (s : State) (p : Nat) (f : PortRun → PortRun) : (s.modPort p f).vol.time = s.vol.time := rfl
@[simp] theorem State.modPort_vol_radio (s : State) (p : Nat) (f : PortRun → PortRun) : (s.modPort p f).vol.radio = s.vol.radio := rfl
@[simp] theorem State.modPort_vol_mac (s : State) (p : Nat) (f : PortRun → PortRun) : (s.modPort p f).vol.mac = s.vol.mac := rfl
@[simp] theorem State.modPort_vol_sluice (s : State) (p : Nat) (f : PortRun → PortRun) : (s.modPort p f).vol.sluice = s.vol.sluice := rfl
@[simp] theorem State.modPort_vol_dyke (s : State) (p : Nat) (f : PortRun → PortRun) : (s.modPort p f).vol.dyke = s.vol.dyke := rfl
@[simp] theorem State.modPort_vol_solver (s : State) (p : Nat) (f : PortRun → PortRun) : (s.modPort p f).vol.solver = s.vol.solver := rfl
@[simp] theorem State.modPort_vol_sched (s : State) (p : Nat) (f : PortRun → PortRun) : (s.modPort p f).vol.sched = s.vol.sched := rfl
@[simp] theorem State.modPort_vol_peat (s : State) (p : Nat) (f : PortRun → PortRun) : (s.modPort p f).vol.peat = s.vol.peat := rfl
@[simp] theorem State.modPort_vol_fed (s : State) (p : Nat) (f : PortRun → PortRun) : (s.modPort p f).vol.fed = s.vol.fed := rfl
@[simp] theorem State.modPort_vol_redun (s : State) (p : Nat) (f : PortRun → PortRun) : (s.modPort p f).vol.redun = s.vol.redun := rfl
@[simp] theorem State.modPort_vol_sec (s : State) (p : Nat) (f : PortRun → PortRun) : (s.modPort p f).vol.sec = s.vol.sec := rfl
@[simp] theorem State.modPort_vol_counters (s : State) (p : Nat) (f : PortRun → PortRun) : (s.modPort p f).vol.counters = s.vol.counters := rfl
@[simp] theorem State.modPort_vol_pendingMode (s : State) (p : Nat) (f : PortRun → PortRun) : (s.modPort p f).vol.pendingMode = s.vol.pendingMode := rfl
@[simp] theorem State.modPort_out (s : State) (p : Nat) (f : PortRun → PortRun) : (s.modPort p f).out = s.out := rfl
@[simp] theorem State.modPort_clock (s : State) (p : Nat) (f : PortRun → PortRun) : (s.modPort p f).clock = s.clock := rfl
@[simp] theorem State.modPort_mtbZero (s : State) (p : Nat) (f : PortRun → PortRun) : (s.modPort p f).mtbZero = s.mtbZero := rfl
@[simp] theorem State.modPort_fresh (s : State) (p : Nat) (f : PortRun → PortRun) : (s.modPort p f).fresh = s.fresh := rfl
@[simp] theorem State.modPort_pending (s : State) (p : Nat) (f : PortRun → PortRun) : (s.modPort p f).pending = s.pending := rfl

/-! ### What each update changes -/

@[simp] theorem State.modLink_links (s : State) (k : Nat) (f : LinkRun → LinkRun) :
    (s.modLink k f).vol.radio.links = s.vol.radio.links.modify k f := rfl
@[simp] theorem State.modLaneRun_lanes (s : State) (l : Nat) (f : LaneRun → LaneRun) :
    (s.modLaneRun l f).vol.radio.lanes = s.vol.radio.lanes.modify l f := rfl
@[simp] theorem State.modCorr_self (s : State) (f : CorrRun → CorrRun) : (s.modCorr f).vol.corr = f s.vol.corr := rfl
@[simp] theorem State.modFed_self (s : State) (f : FedRun → FedRun) : (s.modFed f).vol.fed = f s.vol.fed := rfl
@[simp] theorem State.modGnss_self (s : State) (f : GnssRun → GnssRun) : (s.modGnss f).vol.gnss = f s.vol.gnss := rfl
@[simp] theorem State.modTime_self (s : State) (f : TimeRun → TimeRun) : (s.modTime f).vol.time = f s.vol.time := rfl
@[simp] theorem State.modValues_self (s : State) (f : TimeValues → TimeValues) : (s.modValues f).ctl.time = f s.ctl.time := rfl
@[simp] theorem State.modCounters_self (s : State) (f : Counters → Counters) :
    (s.modCounters f).vol.counters = f s.vol.counters := rfl
@[simp] theorem State.modCore_cores (s : State) (k : Nat) (f : WorkCore → WorkCore) :
    (s.modCore k f).vol.sched.cores = s.vol.sched.cores.modify k f := rfl
@[simp] theorem State.modPort_ports (s : State) (p : Nat) (f : PortRun → PortRun) :
    (s.modPort p f).vol.wader.ports = s.vol.wader.ports.modify p f := rfl
@[simp] theorem State.modConn_conns (s : State) (n : Nat) (f : Conn → Conn) :
    (s.modConn n f).ctl.conns = tmod s.ctl.conns n f := rfl
@[simp] theorem State.modPeer_peers (s : State) (k : Nat) (f : PeerRun → PeerRun) :
    (s.modPeer k f).vol.fed.peers = tmod s.vol.fed.peers k f := rfl
@[simp] theorem State.modMacLane_lanes (s : State) (l : Nat) (f : MacLane → MacLane) :
    (s.modMacLane l f).vol.mac.lanes = s.vol.mac.lanes.modify l f := rfl
@[simp] theorem State.modConnRun_conns (s : State) (n : Nat) (f : ConnRun → ConnRun) :
    (s.modConnRun n f).vol.mac.conns = tput s.vol.mac.conns n (f (s.connRun n)) := rfl
@[simp] theorem State.modSess_sessions (s : State) (n : Nat) (f : Session → Session) :
    (s.modSess n f).hsw.sessions = s.hsw.sessions.modify n f := rfl
@[simp] theorem State.modFlow_flows (s : State) (k : Nat) (g : Flow → Flow) :
    (s.modFlow k g).vol.sched.flows = tput s.vol.sched.flows k (g (s.flow k)) := rfl
@[simp] theorem State.modQueue_queues (s : State) (q : Nat) (f : PeatQueue → PeatQueue) :
    (s.modQueue q f).vol.peat.queues = tput s.vol.peat.queues q (f (s.queue q)) := rfl
@[simp] theorem State.modAllot_allots (s : State) (n : Nat) (f : Allotment → Allotment) :
    (s.modAllot n f).ctl.dyke.allots = tmod s.ctl.dyke.allots n f := rfl
@[simp] theorem State.modTask_tasks (s : State) (n : Nat) (f : Task → Task) :
    (s.modTask n f).ctl.dyke.tasks = tmod s.ctl.dyke.tasks n f := rfl
@[simp] theorem State.modProfile_profiles (s : State) (n : Nat) (f : ProfileState → ProfileState) :
    (s.modProfile n f).ctl.dyke.profiles = tput s.ctl.dyke.profiles n (f (s.profile n)) := rfl
@[simp] theorem State.modSolveRun_runs (s : State) (n : Nat) (f : SolveRun → SolveRun) :
    (s.modSolveRun n f).vol.solver.runs = tput s.vol.solver.runs n (f (s.solveRun n)) := rfl
@[simp] theorem State.modSide_self (s : State) (x : SideId) (f : SideState → SideState) :
    (s.modSide x f).side x = f (s.side x) := by cases x <;> rfl
@[simp] theorem State.modRing_self (s : State) (n : Nat) (f : RingSet → RingSet) :
    (s.modRing n f).ring n = f (s.ring n) := by
  unfold State.modRing State.ring; split <;> rfl
@[simp] theorem headOut_head (op : HeadOp) (s : State) : (headOut op s).out.head = s.out.head ++ [op] := rfl
@[simp] theorem passTicks_clock (n : Nat) (s : State) : (passTicks n s).clock = s.clock + n := rfl
@[simp] theorem State.draw_fst (s : State) : s.draw.1 = s.fresh := rfl
@[simp] theorem State.draw_snd (s : State) : s.draw.2 = { s with fresh := s.fresh + 1 } := rfl

end Sys2Proof.Machine
end

