-- ==== Sys2Proof/Laws/Tables.lean ====
section
/-! SUPPORT.
What the sparse tables do: reading after writing and removing, and the rising order of their keys.
-/

namespace Sys2Proof.Machine

/-- The canonical form of a sparse table: keys strictly rising. -/
def TblSorted {α : Type} (t : Tbl α) : Prop := t.Pairwise fun a b => a.1 < b.1

theorem tget_none_of_lt {α : Type} {t : Tbl α} {i : Nat} (h : ∀ e ∈ t, i < e.1) : tget t i = none := by
  induction t with
  | nil => rfl
  | cons e r ih =>
    have h1 := h e (by simp)
    have h2 := ih fun x hx => h x (by simp [hx])
    obtain ⟨k, v⟩ := e
    have h3 : ¬ k = i := by simp only at h1; omega
    simp [tget, h3, h2]

@[simp] theorem tget_tput_same {α : Type} (t : Tbl α) (i : Nat) (v : α) : tget (tput t i v) i = some v := by
  induction t with
  | nil => simp [tget, tput]
  | cons e r ih =>
    obtain ⟨k, w⟩ := e
    simp only [tput]
    split
    · simp [tget]
    · split
      · simp [tget]
      · have h : ¬ k = i := by omega
        simp [tget, h, ih]

theorem tget_tput_other {α : Type} (t : Tbl α) {i j : Nat} (v : α) (h : j ≠ i) : tget (tput t i v) j = tget t j := by
  have h' : ¬ i = j := fun e => h e.symm
  induction t with
  | nil => simp [tget, tput, h']
  | cons e r ih =>
    obtain ⟨k, w⟩ := e
    simp only [tput]
    split
    · simp [tget, h']
    · split
      · rename_i _ hk
        have : ¬ k = j := by omega
        simp [tget, h', this]
      · by_cases hj : k = j
        · simp [tget, hj]
        · simp [tget, hj, ih]

theorem mem_tput {α : Type} {t : Tbl α} {i : Nat} {v : α} {e : Nat × α} (h : e ∈ tput t i v) : e = (i, v) ∨ e ∈ t := by
  induction t with
  | nil => simpa [tput] using h
  | cons x r ih =>
    obtain ⟨k, w⟩ := x
    simp only [tput] at h
    split at h
    · simpa using h
    · split at h
      · rcases List.mem_cons.mp h with h | h
        · exact .inl h
        · exact .inr (by simp [h])
      · rcases List.mem_cons.mp h with h | h
        · exact .inr (by simp [h])
        · rcases ih h with h | h
          · exact .inl h
          · exact .inr (by simp [h])

/-- Writing keeps the canonical form. -/
theorem tput_sorted {α : Type} {t : Tbl α} (i : Nat) (v : α) (h : TblSorted t) : TblSorted (tput t i v) := by
  induction t with
  | nil => simp [TblSorted, tput]
  | cons e r ih =>
    obtain ⟨k, w⟩ := e
    obtain ⟨h1, h2⟩ := List.pairwise_cons.mp h
    simp only [tput]
    split
    · rename_i hk
      refine List.pairwise_cons.mpr ⟨fun x hx => ?_, h⟩
      rcases List.mem_cons.mp hx with rfl | hx
      · exact hk
      · exact Nat.lt_trans hk (h1 x hx)
    · split
      · rename_i _ hk
        exact List.pairwise_cons.mpr ⟨fun x hx => by have := h1 x hx; simp only at this ⊢; omega, h2⟩
      · refine List.pairwise_cons.mpr ⟨fun x hx => ?_, ih h2⟩
        rcases mem_tput hx with rfl | hx
        · simp only; omega
        · exact h1 x hx

/-- Removing keeps the canonical form. -/
theorem tdel_sorted {α : Type} {t : Tbl α} (i : Nat) (h : TblSorted t) : TblSorted (tdel t i) :=
  List.Pairwise.filter _ h

@[simp] theorem tget_tdel_same {α : Type} (t : Tbl α) (i : Nat) : tget (tdel t i) i = none := by
  induction t with
  | nil => rfl
  | cons e r ih =>
    obtain ⟨k, w⟩ := e
    by_cases h : k = i
    · simpa [tdel, h] using ih
    · have h' : (k == i) = false := by simpa using h
      simpa [tdel, h', tget, h] using ih

end Sys2Proof.Machine
end

