-- ==== Sys2Proof/Tests/Demo.lean ====
section
/-! SUPPORT.
A running module for the tests: Side A holds the active role with every start stage ended, session 0 is open on ring set 0 and
session 1 on the maintenance port, STB is locked and ATB aligned, and Side B is in standby-cold.
-/

namespace Sys2Proof.Tests

open Sys2Proof.Machine

/-- A packet with every field in range. -/
def pk : Packet :=
  { via := .ring0, tag := 1, session := 0, flags := 0, epoch := 7, target := 0, res13 := 0, deadline := 0,
    resTail := List.replicate 16 0, params := [] }

/-- A packet of session 0 with its parameters. -/
def pkt (ps : List Byte) : Packet := { pk with params := ps }

/-- Fields of given widths in bytes, one after another. -/
def fs (l : List (Nat × Int)) : List Byte := l.flatMap fun e => leInt e.1 e.2

/-- A packet of session 0 with its parameter fields. -/
def pf (l : List (Nat × Int)) : Packet := pkt (fs l)

/-- The default settings. -/
def demoCfg : Settings := Settings.factory

/-- STB and ATB of the demonstration, in 2^-16 ns: second 1,000,000,000. -/
def stb0 : Nat := 1000000000 * unitS

def side0 (k : Nat) (d : SideState) : SideState :=
  { d with
    start := none
    startRec := { StartRecord.begin 1 0 with stageMs := List.replicate 6 10 }
    firmware := Firmware.factory k
    security := { SideSecurity.factory with record := TamperRecord.clear .armed } }

def sess0 (via : Transport) : Session :=
  { isOpen := true, via := via, edition := 3, hostId := 5, inst := 1, lastSeq := 1, openEpoch := 7, inFlight := [], effects := [] }

def hsw0 : HostSwitch :=
  { HostSwitch.factory with
    ready := true, pcieUp := true, serving := true, epoch := 7
    ring0 := { RingSet.resetValue with enable := true }
    ring1 := { RingSet.resetValue with enable := true }
    sessions := [sess0 .ring0, sess0 .mnt, Session.closed .site2, Session.closed .site3]
    nv := { HostSwitch.factory.nv with epochMax := 7 } }

/-- The demonstration with given settings. -/
def demoOf (cfg : Settings) : State :=
  { State.reset with
    hsw := hsw0
    sideA := { side0 0 State.reset.sideA with power := .activeRun, mainOn := true }
    sideB := side0 1 State.reset.sideB
    ctl :=
      { Control.start cfg TimeSettings.factory HotStart.none { budgets := [], dfs := [] } with
        time := { stb := some stb0, ptb := some stb0, atb := some stb0, atbOffsetSf := 0 } }
    vol := { Volatile.startWith cfg with
      time := { TimeRun.start with state := .locked }
      sluice := { SluiceRun.start with state := .running }
      redun := { RedunRun.start 100 with running := true, firstDone := true } }
    clock := 100 * tickS }

/-- The demonstration. -/
def demo : State := demoOf demoCfg

/-- A channel on GPS L1 C/A. -/
def chan0 (st : ChanState) : Channel := { Channel.acquire (GnssSettings.factory.autoSet 1 7 0) with state := st }

/-- The demonstration with a GNSS baseband state. -/
def demoGnss (f : GnssRun → GnssRun) : State := { demo with vol.gnss := f demo.vol.gnss }

/-! ### A module that serves a member -/

/-- A base position in force. -/
def base0 : BasePos := { source := 0, frameYear := 20, x := 3800000000, y := 0, z := 5100000000, arpHeight := 1500 }

def par0 : ConnParams :=
  { lane := 0, squad := 1, interval := 50, downSlot := 3, upSlot := 5, upCount := 2, latency := 0, sup := 300, hop := 5, seed := 1
    rate := 4, relay := false, relayPeriod := 0, relayPhase := 0, relaySlot := 0, mesh := false, ttl := 0 }

def key0 : SiteKey := { keyId := 1, key := List.replicate 32 1, switchAsn := 0 }

/-- Connection of member 0x77 on lane 0, squad 1. -/
def conn0 : Conn :=
  { memberId := 0x77, edition := 3, flow := 0x100, memTol := 4, par := par0, anchorAsn := 0, anchorCtr := 0, hostMap := 1, effMap := 1
    kDn := [1], kUp := [2], kWrap := [3], ctrDn := 0, ctrUp := 10, seqDn := 0, nextUp := 0, downSync := false, update := none
    chanMap := none, ending := none, rateSent := (4, 4) }

/-- Lane 0 in the US 5.8 GHz band, lane 4 in the EU sub-GHz band, both links enabled; a current site key. -/
def memberCfg : Settings :=
  { Settings.factory with
    radio := { RadioSettings.factory with
      links := List.replicate 2 { LinkSettings.factory with enable := true }
      lanes := (LaneSettings.factory :: LaneSettings.factory :: LaneSettings.factory :: LaneSettings.factory ::
        List.replicate 4 LaneSettings.factory).set 0 { LaneSettings.factory with enable := true, region := 2, centre := 5785000 }
        |>.set 4 { LaneSettings.factory with enable := true, cls := 0, region := 1, centre := 868300, preamble := 8 } }
    mac := { MacSettings.factory with ctlNode := 1, poolLo := 0x100, poolHi := 0x1FF }
    keys := { KeySettings.none with current := some key0 } }

/-- The demonstration with one member at node 0x101, permission granted to its squad, the loop closed and no stop in force. -/
def member : State :=
  let d := demoOf memberCfg
  { d with
    ctl := { d.ctl with
      conns := [(0x101, conn0)]
      sluice := { SluiceCtl.start with grantMap := 2, stops := [] } }
    vol := { d.vol with
      radio := { d.vol.radio with links := List.replicate 2 { LinkRun.start with state := .dataPhase } }
      mac := { d.vol.mac with conns := [(0x101, ConnRun.start 0)] }
      sluice := { d.vol.sluice with in0 := .closed, in1 := .closed } } }

/-! ### A yard: the track of the example of R323 -/

/-- A straight segment that this controller owns. -/
def seg0 (a b len : Nat) (cs : List Nat) : Segment :=
  { fromJ := a, toJ := b, lengthMm := len, kappa := 0, speed := 5000, width := 7, rule := 1, closed := false, reversible := true
    owner := 5, conflicts := cs }

/-- A junction with two ends at most, and turns both ways. -/
def junc0 (e n : Int) (ends : List Nat) : Junction :=
  { east := e, north := n, closed := false, ends := ends, turns := if ends.length = 2 then [2, 1] else [0] }

/-- Segments 812 to 815 in a line, and 905 that crosses 813. -/
def graph0 : Graph :=
  { segs := [(812, seg0 1 2 40000 []), (813, seg0 2 3 30000 [905]), (814, seg0 3 4 30000 []), (815, seg0 4 5 50000 []),
      (905, seg0 6 7 40000 [813])]
    juncs := [(1, junc0 0 0 [812]), (2, junc0 40000 0 [812, 813]), (3, junc0 70000 0 [813, 814]),
      (4, junc0 100000 0 [814, 815]), (5, junc0 150000 0 [815]), (6, junc0 55000 (-20000) [905]), (7, junc0 55000 20000 [905])] }

/-- Class 3 of the example. -/
def class3 : DykeClass :=
  { mayReverse := true, widthNeed := 0, front := 4000, rear := 2000, halfWidth := 1000, vMax := 8000, aMax := 2000
    aHold := 1000, aFast := 2000, reactMs := 100, jMax := 2000 }

def entry0 (g : Nat) : PathEntry := ⟨g, false, 0⟩

/-- The tick at which a request made now begins. -/
def tick1 : Nat := member.tick + 1

/-- The path of the example. -/
def path0 : List PathEntry := [entry0 812, entry0 813, entry0 814, entry0 815]

/-- The allotment of the member, which cruises at 5 m/s and stands at 10 m at the next tick. -/
def allot0 : Allotment :=
  { path := path0, lens := [40000, 30000, 30000, 50000], startIdx := 0, targetIdx := 3, target := 30000, v := 5000
    a := 1000, j := 2000, cruise := 5000
    plan := { number := 4, t0 := atbOfAsn (5 * tick1), s := 10000, v := 5000, a := 0, rev := false, phases := [⟨20000000, 0, false, true, false⟩] }
    arrive := tick1 + 2000, ended := false, waiting := false, task := none }

/-- A window of the yard. -/
def win0 (node start stop : Nat) : Window :=
  { node := node, start := tick1 + start, stop := tick1 + stop, dir := 1, pinned := false, invalid := false }

/-- The member runs in the yard, with a window on segment 812 and its STATUS Permitted. -/
def yard : State :=
  { member with
    ctl.cfg.dyke := { member.ctl.cfg.dyke with live := graph0, classes := [(3, class3)], members := [(0x101, 3)] }
    ctl.cfg.fed.controller := some 5
    ctl.dyke := { DykeCtl.start graph0 with
      windows := [(812, [win0 0x101 0 660])]
      allots := [(0x101, allot0)]
      profiles := [(0x101, { ProfileState.start with mode := 0, planNo := 4 })] } }

/-- The yard with the window of member 0x217 on 905. -/
def yardCrossed : State :=
  { yard with ctl.dyke := { yard.ctl.dyke with windows := [(812, [win0 0x101 0 660]), (905, [win0 0x217 1250 1400])] } }

/-- DYKE.RESERVE of the example over a path, with a target. -/
def reservePk (node : Int) (path : List Nat) (ti target : Int) : Packet :=
  pf ([(2, node), (1, 0), (1, 0), (2, (path.length : Int)), (1, 0), (1, ti), (4, 0), (4, target), (2, 5000), (2, 1000), (2, 2000), (2, 0)] ++
    path.flatMap fun g => [(2, (g : Int)), (1, 0), (1, 0), (4, 0)])

/-- A work item of core 0 that carries one packet of queue 0x800. -/
def workItem (kind dataKind node : Nat) : WorkItem :=
  { id := 1, flow := 0x100, kind := kind, prio := 1, timer := false, node := node, core := some 0, enq := 0
    start := some 0, queue := some 0x800, cell := some 9, cmd := none, args := [BitVec.ofNat 8 dataKind], starved := false, overran := false, run := none
    work := none, acted := false }

/-- A state in which an item of a flow waits. -/
def behind (flow kind : Nat) (s : State) : State :=
  { s with vol.sched.flows := [(flow, { Flow.empty with items := [{ workItem kind 0 0 with flow := flow, core := none, start := none }] })] }

/-- A packet of queue 0x800. -/
def workPacket (dataKind node : Nat) (data : List Byte) : PeatPacket :=
  { node := node, kind := dataKind, lost := false, trunc := false, poison := false, cell := 9, data := data }

/-- A state in which core 0 serves an item of a kind with a packet of node 0x101. -/
def serving (kind dataKind : Nat) (data : List Byte) (s : State) : State :=
  { s with
    vol.sched.cores := s.vol.sched.cores.set 0 { s.core 0 with state := .busy 0x100 1 }
    vol.sched.flows := [(0x100, { Flow.empty with items := [workItem kind dataKind 0x101], node := 0x101, member := true })]
    vol.peat.queues := [(0x800, { PeatQueue.empty with packets := [workPacket dataKind 0x101 data] })] }

/-- What Ready asks, as a Boolean. -/
def readyB (op : Nat) (p : Packet) (s : State) : Bool :=
  s.canFetch p.via && s.openOn p.via && decide ((s.sess (viaSession p.via)).lastSeq + 1 < 0xFFFFFFFF) &&
  (checkPacket op p s).isNone &&
  ((s.sess (viaSession p.via)).inFlight.all fun f =>
    f.phase == .awaitingDurable || (!isFence f.cmd.packet && !isFence p)) &&
  !s.inHandover (fetchedCmd op p s) &&
  (queueCommand (fetchedCmd op p s) (fetched op p s)).objectsFree (fetchedCmd op p s) &&
  (queueCommand (fetchedCmd op p s) (fetched op p s)).itemTurn (fetchedCmd op p s)

theorem ready_iff (op : Nat) (p : Packet) (s : State) : Ready op p s ↔ readyB op p s = true := by
  simp only [readyB, Bool.and_eq_true, decide_eq_true_eq, Option.isNone_iff_eq_none, List.all_eq_true, Bool.or_eq_true,
    beq_iff_eq, Bool.not_eq_true']
  exact ⟨fun h => ⟨⟨⟨⟨⟨⟨⟨h.canFetch, h.openOn⟩, h.room⟩, h.passes⟩, h.noFence⟩, h.noHandover⟩, h.objects⟩, h.turn⟩,
    fun ⟨⟨⟨⟨⟨⟨⟨a, b⟩, c⟩, d⟩, e⟩, f⟩, g⟩, k⟩ => ⟨a, b, c, d, e, f, g, k⟩⟩

/-- Some packet of an opcode starts its command at once in some state, and the condition holds where its effect begins. -/
def Meets (op : Nat) (holds : HostCmd → State → Prop) : Prop :=
  ∃ p s, Ready op p s ∧ holds (fetchedCmd op p s) (started op p s)

theorem meets {op : Nat} {holds : HostCmd → State → Prop} (p : Packet) (s : State) (r : readyB op p s = true)
    (h : holds (fetchedCmd op p s) (started op p s)) : Meets op holds := ⟨p, s, (ready_iff op p s).mpr r, h⟩

end Sys2Proof.Tests
end

