-- ==== Sys2Proof/WellFormed.lean ====
section
/-! DEFINITION.
Which commands are well formed: the header fields of a packet fit their widths (Table Host-2), and the operands of an
event fit theirs. Whether the module accepts a packet is no matter of form: R103 refuses it with a status.
-/

namespace Sys2Proof

/-- The header fields fit their bytes, the 16 reserved bytes are 16, and the length fits its 16 bits. -/
def Packet.wf (p : Packet) : Bool :=
  decide (p.tag < 256) && decide (p.session < 256) && decide (p.flags < 65536) && decide (p.epoch < 2 ^ 32) &&
  decide (p.target < 256) && decide (p.res13 < 256) && decide (p.deadline < 65536) && p.resTail.length == 16 &&
  decide (p.params.length < 65536)

/-- A command whose operands are values that the interface can carry. -/
def Instr.wellFormed : Instr → Bool
  | .modulePowerOn _ _ => true
  | .brownOutWarning vinMv => decide (vinMv < 65536)
  | .modulePowerDown _ => true
  | .overvoltageLockout vinMv => decide (vinMv < 65536)
  | .vbatLoss vbatMv => decide (vbatMv < 65536)
  | .vbatRestored => true
  | .modResetNAsserted => true
  | .modResetNRelease _ _ => true
  | .pciePerst _ => true
  | .pcieLinkLoss => true
  | .hostSwitchReady _ => true
  | .hwAliveIncrement => true
  | .bootRomDone _ => true
  | .imageVerifyDone _ _ => true
  | .stateLoadDone _ _ _ _ => true
  | .radioHeadBringupDone _ _ => true
  | .gnssStartEnd _ => true
  | .gnssStartDeadline => true
  | .heartbeatStart => true
  | .startStageOverrun => true
  | .supervisorWatchdogExpiry => true
  | .lockstepMismatch => true
  | .uncorrectableMemoryError partition words queue cell => decide (partition < 256) && decide (words < 2 ^ 32) && decide (queue < 65536) && decide (cell < 2 ^ 32)
  | .railOutOfWindow mv => decide (mv < 65536)
  | .junctionTempThreshold _ _ => true
  | .bistPeriod _ => true
  | .checkpointSnapshot => true
  | .checkpointCommit => true
  | .sqTailDoorbell set index => decide (set < 2) && decide (index < 512)
  | .cqHeadDoorbell set index => decide (set < 2) && decide (index < 512)
  | .irqCauseClear value events => decide (value < 2 ^ 32) && decide (events < 2 ^ 32)
  | .ringErrRead => true
  | .ringCtrlWrite set value => decide (set < 2) && decide (value < 2 ^ 32)
  | .registerWrite offset value => decide (offset < 65536) && decide (value < 2 ^ 32)
  | .packetFetch _ opcode packet _ _ => decide (opcode < 65536) && packet.wf
  | .commandStart session => decide (session < 4)
  | .moderationTimerExpiry set => decide (set < 2)
  | .mntWritePacket opcode packet _ _ => decide (opcode < 65536) && packet.wf
  | .mntReadCompletion _ => true
  | .mntReadStatus _ => true
  | .mntReadRegister offset _ => decide (offset < 65536)
  | .mntWriteRegister offset value _ => decide (offset < 65536) && decide (value < 2 ^ 32)
  | .sessionOpen p => p.wf
  | .sessionClose p => p.wf
  | .sessionTags p => p.wf
  | .powerGpio p => p.wf
  | .powerSense p => p.wf
  | .powerMode p => p.wf
  | .powerModeTakesEffect => true
  | .resetSide p => p.wf
  | .resetSideDone _ testCode => decide (testCode < 256)
  | .resetCause p => p.wf
  | .gnssConfig p => p.wf
  | .gnssChannelSet p => p.wf
  | .gnssChannelRead p => p.wf
  | .gnssNotch p => p.wf
  | .gnssMonitor p => p.wf
  | .gnssMpmap p => p.wf
  | .gnssStatus p => p.wf
  | .channelIntegration channel _ _ _ => decide (channel < 65536)
  | .acquisitionDwellDone _ => true
  | .gnssEpoch _ _ => true
  | .monitorUpdate fe _ flat blanked => decide (fe < 4) && decide (flat < 65536) && decide (blanked < 65536)
  | .interferenceFlagSet fe => decide (fe < 4)
  | .interferenceFlagClear fe => decide (fe < 4)
  | .adaptiveNotchMove fe index _ _ => decide (fe < 4) && decide (index < 8)
  | .mpmapSecond _ => true
  | .mpmapDurationEnd => true
  | .fenBurstStart => true
  | .fenBurstEnd => true
  | .hotStartWrite => true
  | .budgetAccountingWrite => true
  | .antennaBiasLimit ma => decide (ma < 256)
  | .biasRetry _ ma => decide (ma < 256)
  | .corrBase p => p.wf
  | .corrStream p => p.wf
  | .corrDescriptor p => p.wf
  | .corrWatchdog p => p.wf
  | .corrInject p => p.wf
  | .corrStatus p => p.wf
  | .surveyMaxTime => true
  | .watchdogHoldoffExpiry cause => decide (cause < 16)
  | .neighbourBufferTimeout station => decide (station < 4096)
  | .solverConfig p => p.wf
  | .solverMember p => p.wf
  | .solverRead p => p.wf
  | .solverStatus p => p.wf
  | .solverReset p => p.wf
  | .solverIntegrity p => p.wf
  | .uplinkItem core => decide (core < 16)
  | .epochPartWaitExpiry node => decide (node < 65536)
  | .missingEpoch node _ => decide (node < 65536)
  | .crossMemberTest => true
  | .solverExclusionExpiry const sv => decide (const < 256) && decide (sv < 256)
  | .solverAlarmClearExpiry code const sv _ _ => decide (code < 256) && decide (const < 256) && decide (sv < 256)
  | .filterRetentionExpiry node => decide (node < 65536)
  | .timeConfig p => p.wf
  | .timePtpConfig p => p.wf
  | .timeLeap p => p.wf
  | .timeStatus p => p.wf
  | .timeRead p => p.wf
  | .stbDisciplineLoss => true
  | .stbQualified _ => true
  | .slewComplete => true
  | .timeStepAtB => true
  | .holdoverBoundCrossing => true
  | .syncRefInLost => true
  | .ppsInfoSend => true
  | .ppsPulse => true
  | .atbStepAtHyperframe => true
  | .utcParametersDecoded const taiUtc next _ => decide (const < 5) && decide (taiUtc < 256) && decide (next < 256)
  | .leapTableChange => true
  | .ppsInEdge => true
  | .ptpEventMessageRx port body => decide (port < 2) && decide (body.length < 65536)
  | .ptpEventMessageTx port msgType => decide (port < 2) && decide (msgType < 16)
  | .ptpTransparentPass port _ sum body => decide (port < 2) && decide (sum < 65536) && decide (body.length < 65536)
  | .radioLinkConfig p => p.wf
  | .radioHeadProfile p => p.wf
  | .radioLaneConfig p => p.wf
  | .radioRegionLoad p => p.wf
  | .radioTxCal p => p.wf
  | .radioBudget p => p.wf
  | .radioLaneStatus p => p.wf
  | .linkDataPhaseLost link crcErrors => decide (link < 2) && decide (crcErrors < 2 ^ 32)
  | .linkRetrain link => decide (link < 2)
  | .headAlarmOrLockLoss link _ => decide (link < 2)
  | .headRestart link => decide (link < 2)
  | .headLockCheckTimeout link => decide (link < 2)
  | .frameTransmit lane chan rate type node body => decide (lane < 8) && decide (chan < 256) && decide (rate < 256) && decide (type < 256) && decide (node < 65536) && decide (body.length < 65536)
  | .budgetBinBoundary lane _ chan => decide (lane < 8) && decide (chan < 256)
  | .lbtMeasurement lane _ => decide (lane < 8)
  | .radarDetected lane chan => decide (lane < 8) && decide (chan < 256)
  | .dfsStopWindowEnd lane chan => decide (lane < 8) && decide (chan < 256)
  | .cacComplete lane chan => decide (lane < 8) && decide (chan < 256)
  | .nonOccupancyEnd lane chan => decide (lane < 8) && decide (chan < 256)
  | .noiseFloorAverage lane _ => decide (lane < 8)
  | .macConfig p => p.wf
  | .macLaneMac p => p.wf
  | .macProvision p => p.wf
  | .macConnParam p => p.wf
  | .macDrop p => p.wf
  | .macMemberRead p => p.wf
  | .macStatus p => p.wf
  | .macSend p => p.wf
  | .slotBoundary lane _ slot => decide (lane < 8) && decide (slot < 256)
  | .frameReceived lane _ _ _ _ _ _ bytes => decide (lane < 8) && decide (bytes.length < 65536)
  | .joinReqReceived lane _ _ editions memTol reqAddr bytes => decide (lane < 8) && decide (editions < 256) && decide (memTol < 256) && decide (reqAddr < 65536) && decide (bytes.length < 65536)
  | .joinAuthReceived lane sig => decide (lane < 8) && decide (sig.length < 65536)
  | .joinAuthMissing lane => decide (lane < 8)
  | .dataFrameReceived lane node _ seq kind ack _ _ payload => decide (lane < 8) && decide (node < 65536) && decide (seq < 65536) && decide (kind < 256) && decide (ack < 256) && decide (payload.length < 65536)
  | .supervisionTimeout node => decide (node < 65536)
  | .connectionInstant node => decide (node < 65536)
  | .siteKeySwitch => true
  | .oldSiteKeyDiscard => true
  | .seenCacheAgeOut origin mseq => decide (origin < 65536) && decide (mseq < 2 ^ 32)
  | .sluiceConfig p => p.wf
  | .sluiceGrant p => p.wf
  | .sluiceStop p => p.wf
  | .sluiceRelease p => p.wf
  | .sluiceStatus p => p.wf
  | .sluiceSlot _ => true
  | .subghzStopSpan lane _ => decide (lane < 8)
  | .sluInOpen input => decide (input < 2)
  | .sluInClosed input => decide (input < 2)
  | .sluInFault input => decide (input < 2)
  | .loopDiscrepancyTimeout => true
  | .memberMsgItem core => decide (core < 16)
  | .confirmTimeout stop => decide (stop < 2 ^ 32)
  | .stopStatusReport stop => decide (stop < 2 ^ 32)
  | .dykeConfig p => p.wf
  | .dykeClass p => p.wf
  | .dykeMember p => p.wf
  | .dykeGraphEdit p => p.wf
  | .dykeSwap p => p.wf
  | .dykeReserve p => p.wf
  | .dykeRelease p => p.wf
  | .dykeRead p => p.wf
  | .dykeStatus p => p.wf
  | .taskQueue p => p.wf
  | .taskAccept p => p.wf
  | .taskCancel p => p.wf
  | .tickBoundary => true
  | .resumeRetry node => decide (node < 65536)
  | .graphSwapApply => true
  | .allotterRun => true
  | .allotterPeriodic => true
  | .offerTimeout task => decide (task < 2 ^ 32)
  | .declineBarExpiry task node => decide (task < 2 ^ 32) && decide (node < 65536)
  | .taskDeadlineExpiry task => decide (task < 2 ^ 32)
  | .taskDone task => decide (task < 2 ^ 32)
  | .borderCommitTimeout txn => decide (txn < 2 ^ 32)
  | .profileConfig p => p.wf
  | .profileMember p => p.wf
  | .profileRetarget p => p.wf
  | .profileRead p => p.wf
  | .profileFrameDue node => decide (node < 65536)
  | .schedConfig p => p.wf
  | .schedCore p => p.wf
  | .schedStatus p => p.wf
  | .schedHist p => p.wf
  | .schedFlowRead p => p.wf
  | .schedItemRead p => p.wf
  | .coreDispatch core => decide (core < 16)
  | .workItemDone core => decide (core < 16)
  | .affinityWindowExpiry flow => decide (flow < 65536)
  | .controlStarvation flow _ => decide (flow < 65536)
  | .delayListTick => true
  | .packetCommit queue maxLen kind node data => decide (queue < 65536) && decide (maxLen < 65536) && decide (kind < 256) && decide (node < 65536) && decide (data.length < 65536)
  | .headReadStallExpiry queue => decide (queue < 65536)
  | .poolScrub _ => true
  | .queueConfig p => p.wf
  | .queuePool p => p.wf
  | .queueStatus p => p.wf
  | .queueRead p => p.wf
  | .queueMbxRead p => p.wf
  | .mbxReadWaitEnd session tag => decide (session < 4) && decide (tag < 256)
  | .capturePort p => p.wf
  | .captureArm p => p.wf
  | .captureTrigger p => p.wf
  | .captureSyncConfig p => p.wf
  | .captureSyncCal p => p.wf
  | .captureStatus p => p.wf
  | .capturePrefillComplete port => decide (port < 4)
  | .captureTriggerFired port kinds => decide (port < 4) && decide (kinds < 256)
  | .captureRecordComplete port => decide (port < 4)
  | .captureRecordDrain => true
  | .captureRoomAvailable port => decide (port < 4)
  | .syncTrgEdge _ _ => true
  | .syncCalPulse _ _ _ => true
  | .fedConfig p => p.wf
  | .fedPort p => p.wf
  | .fedPeer p => p.wf
  | .fedHandover p => p.wf
  | .fedSiteStop p => p.wf
  | .fedStatus p => p.wf
  | .helloReceived src body => decide (src < 65536) && decide (body.length < 65536)
  | .helloRspReceived src body => decide (src < 65536) && decide (body.length < 65536)
  | .helloFinReceived src body => decide (src < 65536) && decide (body.length < 65536)
  | .fedStatusReceived h liveSet coordinator digest stopSeq => decide (h.src < 65536) && decide (liveSet.length < 65536) && decide (coordinator < 65536) && decide (digest.length < 65536) && decide (stopSeq < 2 ^ 32)
  | .fedRtcmReceived h data => decide (h.src < 65536) && decide (data.length < 65536)
  | .reserveReceived h body => decide (h.src < 65536) && decide (body.length < 65536)
  | .reserveRspReceived h body => decide (h.src < 65536) && decide (body.length < 65536)
  | .commitReceived h body => decide (h.src < 65536) && decide (body.length < 65536)
  | .commitAckReceived h body => decide (h.src < 65536) && decide (body.length < 65536)
  | .releaseReceived h body => decide (h.src < 65536) && decide (body.length < 65536)
  | .releaseAckReceived h => decide (h.src < 65536)
  | .handoverOfferReceived h _ => decide (h.src < 65536)
  | .handoverAcceptReceived h status _ _ _ => decide (h.src < 65536) && decide (status < 256)
  | .handoverInstant node => decide (node < 65536)
  | .handoverDoneReceived h node outcome => decide (h.src < 65536) && decide (node < 65536) && decide (outcome < 256)
  | .doneAckReceived h => decide (h.src < 65536)
  | .handoverAcceptTimeout node => decide (node < 65536)
  | .handoverOutcomeTimeout node => decide (node < 65536)
  | .siteStopReceived h origin no cat => decide (h.src < 65536) && decide (origin < 65536) && decide (no < 2 ^ 32) && decide (cat < 256)
  | .siteStopAckReceived h => decide (h.src < 65536)
  | .siteReleaseReceived h origin no => decide (h.src < 65536) && decide (origin < 65536) && decide (no < 2 ^ 32)
  | .siteReleaseAckReceived h => decide (h.src < 65536)
  | .fedUcpReceived h opcode p => decide (h.src < 65536) && decide (opcode < 65536) && p.wf
  | .fedStatusSend => true
  | .peerLivenessTimeout peer => decide (peer < 65536)
  | .fedRetransmit peer txn => decide (peer < 65536) && decide (txn < 2 ^ 32)
  | .handshakeRetry peer => decide (peer < 65536)
  | .tentativeWindowExpiry peer txn => decide (peer < 65536) && decide (txn < 2 ^ 32)
  | .responseCacheExpiry peer txn => decide (peer < 65536) && decide (txn < 2 ^ 32)
  | .coordinatorDisagreementTimer => true
  | .digestMismatchTimer peer => decide (peer < 65536)
  | .redunConfig p => p.wf
  | .redunHandover p => p.wf
  | .holdWaitExpiry => true
  | .redunCheckpoint p => p.wf
  | .redunStatus p => p.wf
  | .redunSideRead p => p.wf
  | .secAttest p => p.wf
  | .secCert p => p.wf
  | .secKeyImport p => p.wf
  | .secStatus p => p.wf
  | .secDebugUnlock p => p.wf
  | .tamperDetected _ sensors _ vbat _ => decide (sensors < 65536) && decide (vbat < 65536)
  | .tamperReport => true
  | .keyFault engine _ => decide (engine < 65536)
  | .debugChallengeExpiry => true
  | .updateBegin p => p.wf
  | .updateChunk p => p.wf
  | .updateApply p => p.wf
  | .updateApplyComplete => true
  | .updateActivate p => p.wf
  | .updateEnd p => p.wf
  | .updateStatus p => p.wf
  | .updateStore p => p.wf
  | .updateLockExpiry => true
  | .confirmationWindowExpiry => true
  | .hostSwitchRestart => true
  | .recordRead p => p.wf
  | .recordStatus p => p.wf
  | .recordConfig p => p.wf
  | .recordMark p => p.wf
  | .opSecondsTick => true
  | .counterBlockSave => true
  | .foldJournalWrite => true
  | .repeatWindowEnd => true
  | .appendsDroppedReport => true
  | .counterSelect p => p.wf
  | .counterControl p => p.wf
  | .counterRead p => p.wf
  | .counterOverflow counter => decide (counter < 64)
  | .vinSupplyEvent vinMv => decide (vinMv < 65536)
  | .syncRefInRestored => true
  | .linkRestored link _ => decide (link < 2)
  | .ptpAnnounceReceived port body => decide (port < 2) && decide (body.length < 65536)
  | .ptpAnnounceReceiptTimeout port => decide (port < 2)
  | .syncCalTimeout => true
  | .plannedHandoverRelinquish => true
  | .gnssFailTimeout => true

end Sys2Proof
end

