-- ==== Sys2Proof/Tests/Slice0.lean ====
section
/-! SUPPORT.
Tests: the well-formedness checks, the words of the table, and one step or one operation each on small states, with values worked
out in the spec's examples or by hand from its rules.
-/

set_option Elab.async false
set_option linter.unusedSimpArgs false

namespace Sys2Proof.Tests

open Sys2Proof.Machine

/-! ### Well-formedness -/

theorem test_wf_accepts : pk.wf = true := by decide
theorem test_wf_tag : ({ pk with tag := 256 } : Packet).wf = false := by decide
theorem test_wf_session : ({ pk with session := 256 } : Packet).wf = false := by decide
theorem test_wf_flags : ({ pk with flags := 65536 } : Packet).wf = false := by decide
theorem test_wf_epoch : ({ pk with epoch := 2 ^ 32 } : Packet).wf = false := by decide
theorem test_wf_target : ({ pk with target := 256 } : Packet).wf = false := by decide
theorem test_wf_res13 : ({ pk with res13 := 256 } : Packet).wf = false := by decide
theorem test_wf_deadline : ({ pk with deadline := 65536 } : Packet).wf = false := by decide
theorem test_wf_resTail : ({ pk with resTail := [] } : Packet).wf = false := by decide
theorem test_wf_params : ({ pk with params := List.replicate 65536 0 } : Packet).wf = false := by
  simp only [Packet.wf, List.length_replicate, Nat.lt_irrefl, decide_false, Bool.and_false]

/-- A packet with a field out of range, a head of a site message, and octets too many for their length field. -/
def badPk : Packet := { pk with tag := 256 }

def hd : FedHead := ⟨1, 1, 1, 0, true⟩

def big : List Byte := List.replicate 65536 0

theorem big_length : big.length = 65536 := List.length_replicate ..

theorem big_not : decide (big.length < 65536) = false := by rw [big_length]; rfl

theorem test_wf_refuses_0 : List.all (α := Instr) [
    .brownOutWarning 65536, .overvoltageLockout 65536, .vbatLoss 65536, .uncorrectableMemoryError 256 0 0 0,
    .uncorrectableMemoryError 0 (2 ^ 32) 0 0, .uncorrectableMemoryError 0 0 65536 0,
    .uncorrectableMemoryError 0 0 0 (2 ^ 32), .railOutOfWindow 65536, .sqTailDoorbell 2 0, .sqTailDoorbell 0 512,
    .cqHeadDoorbell 2 0, .cqHeadDoorbell 0 512, .irqCauseClear (2 ^ 32) 0, .irqCauseClear 0 (2 ^ 32), .ringCtrlWrite 2 0,
    .ringCtrlWrite 0 (2 ^ 32), .registerWrite 65536 0, .registerWrite 0 (2 ^ 32), .packetFetch .ring0 65536 pk false false,
    .packetFetch .ring0 0 badPk false false, .commandStart 4, .moderationTimerExpiry 2, .mntWritePacket 65536 pk false false,
    .mntWritePacket 0 badPk false false, .mntReadRegister 65536 true, .mntWriteRegister 65536 0 true, .mntWriteRegister 0 (2 ^ 32) true,
    .sessionOpen badPk, .sessionClose badPk, .sessionTags badPk, .powerGpio badPk, .powerSense badPk, .powerMode badPk,
    .resetSide badPk, .resetSideDone false 256, .resetCause badPk, .gnssConfig badPk, .gnssChannelSet badPk,
    .gnssChannelRead badPk, .gnssNotch badPk, .gnssMonitor badPk, .gnssMpmap badPk, .gnssStatus badPk,
    .channelIntegration 65536 default false 0, .monitorUpdate 4 0 0 0, .monitorUpdate 0 0 65536 0,
    .monitorUpdate 0 0 0 65536, .interferenceFlagSet 4, .interferenceFlagClear 4, .adaptiveNotchMove 4 0 0 0,
    .adaptiveNotchMove 0 8 0 0, .antennaBiasLimit 256, .biasRetry false 256, .corrBase badPk, .corrStream badPk,
    .corrDescriptor badPk, .corrWatchdog badPk, .corrInject badPk, .corrStatus badPk, .watchdogHoldoffExpiry 16] (fun i => !i.wellFormed) = true := by decide +kernel

theorem test_wf_refuses_1 : List.all (α := Instr) [
    .neighbourBufferTimeout 4096, .solverConfig badPk, .solverMember badPk, .solverRead badPk, .solverStatus badPk,
    .solverReset badPk, .solverIntegrity badPk, .uplinkItem 16, .epochPartWaitExpiry 65536, .missingEpoch 65536 0,
    .solverExclusionExpiry 256 0, .solverExclusionExpiry 0 256, .solverAlarmClearExpiry 256 0 0 0 0,
    .solverAlarmClearExpiry 0 256 0 0 0, .solverAlarmClearExpiry 0 0 256 0 0, .filterRetentionExpiry 65536,
    .timeConfig badPk, .timePtpConfig badPk, .timeLeap badPk, .timeStatus badPk, .timeRead badPk,
    .utcParametersDecoded 5 0 0 0, .utcParametersDecoded 0 256 0 0, .utcParametersDecoded 0 0 256 0, .ptpEventMessageRx 2 [],
    .ptpEventMessageTx 2 0, .ptpEventMessageTx 0 16, .ptpTransparentPass 2 0 0 [], .ptpTransparentPass 0 0 65536 [], .radioLinkConfig badPk,
    .radioHeadProfile badPk, .radioLaneConfig badPk, .radioRegionLoad badPk, .radioTxCal badPk, .radioBudget badPk,
    .radioLaneStatus badPk, .linkDataPhaseLost 2 0, .linkDataPhaseLost 0 (2 ^ 32), .linkRetrain 2, .headAlarmOrLockLoss 2 false,
    .headRestart 2, .headLockCheckTimeout 2, .frameTransmit 8 0 0 0 0 [], .frameTransmit 0 256 0 0 0 [],
    .frameTransmit 0 0 256 0 0 [], .frameTransmit 0 0 0 256 0 [], .frameTransmit 0 0 0 0 65536 [], .budgetBinBoundary 8 0 0,
    .budgetBinBoundary 0 0 256, .lbtMeasurement 8 default, .radarDetected 8 0, .radarDetected 0 256, .dfsStopWindowEnd 8 0,
    .dfsStopWindowEnd 0 256, .cacComplete 8 0, .cacComplete 0 256, .nonOccupancyEnd 8 0, .nonOccupancyEnd 0 256,
    .noiseFloorAverage 8 default, .macConfig badPk, .macLaneMac badPk] (fun i => !i.wellFormed) = true := by decide +kernel

theorem test_wf_refuses_2 : List.all (α := Instr) [
    .macProvision badPk, .macConnParam badPk, .macDrop badPk, .macMemberRead badPk, .macStatus badPk, .macSend badPk,
    .slotBoundary 8 0 0, .slotBoundary 0 0 256, .frameReceived 8 false false false false false 0 [], .joinReqReceived 8 0 0 0 0 0 [],
    .joinReqReceived 0 0 0 256 0 0 [], .joinReqReceived 0 0 0 0 256 0 [], .joinReqReceived 0 0 0 0 0 65536 [],
    .joinAuthReceived 8 [], .joinAuthMissing 8, .dataFrameReceived 8 0 0 0 0 0 false 0 [],
    .dataFrameReceived 0 65536 0 0 0 0 false 0 [], .dataFrameReceived 0 0 0 65536 0 0 false 0 [],
    .dataFrameReceived 0 0 0 0 256 0 false 0 [], .dataFrameReceived 0 0 0 0 0 256 false 0 [], .supervisionTimeout 65536,
    .connectionInstant 65536, .seenCacheAgeOut 65536 0, .seenCacheAgeOut 0 (2 ^ 32), .sluiceConfig badPk, .sluiceGrant badPk,
    .sluiceStop badPk, .sluiceRelease badPk, .sluiceStatus badPk, .subghzStopSpan 8 0, .sluInOpen 2, .sluInClosed 2,
    .sluInFault 2, .memberMsgItem 16, .confirmTimeout (2 ^ 32), .stopStatusReport (2 ^ 32), .dykeConfig badPk,
    .dykeClass badPk, .dykeMember badPk, .dykeGraphEdit badPk, .dykeSwap badPk, .dykeReserve badPk, .dykeRelease badPk,
    .dykeRead badPk, .dykeStatus badPk, .taskQueue badPk, .taskAccept badPk, .taskCancel badPk, .resumeRetry 65536,
    .offerTimeout (2 ^ 32), .declineBarExpiry (2 ^ 32) 0, .declineBarExpiry 0 65536, .taskDeadlineExpiry (2 ^ 32),
    .taskDone (2 ^ 32), .borderCommitTimeout (2 ^ 32), .profileConfig badPk, .profileMember badPk, .profileRetarget badPk,
    .profileRead badPk, .profileFrameDue 65536] (fun i => !i.wellFormed) = true := by decide +kernel

theorem test_wf_refuses_3 : List.all (α := Instr) [
    .schedConfig badPk, .schedCore badPk, .schedStatus badPk, .schedHist badPk, .schedFlowRead badPk, .schedItemRead badPk,
    .coreDispatch 16, .workItemDone 16, .affinityWindowExpiry 65536, .controlStarvation 65536 false,
    .packetCommit 65536 0 0 0 [], .packetCommit 0 65536 0 0 [], .packetCommit 0 0 256 0 [], .packetCommit 0 0 0 65536 [],
    .headReadStallExpiry 65536, .queueConfig badPk, .queuePool badPk, .queueStatus badPk, .queueRead badPk,
    .queueMbxRead badPk, .mbxReadWaitEnd 4 0, .mbxReadWaitEnd 0 256, .capturePort badPk, .captureArm badPk,
    .captureTrigger badPk, .captureSyncConfig badPk, .captureSyncCal badPk, .captureStatus badPk, .capturePrefillComplete 4,
    .captureTriggerFired 4 0, .captureTriggerFired 0 256, .captureRecordComplete 4, .captureRoomAvailable 4,
    .fedConfig badPk, .fedPort badPk, .fedPeer badPk, .fedHandover badPk, .fedSiteStop badPk, .fedStatus badPk,
    .helloReceived 65536 [], .helloRspReceived 65536 [], .helloFinReceived 65536 [],
    .fedStatusReceived { hd with src := 65536 } [] 0 [] 0, .fedStatusReceived hd [] 65536 [] 0,
    .fedStatusReceived hd [] 0 [] (2 ^ 32), .fedRtcmReceived { hd with src := 65536 } [],
    .reserveReceived { hd with src := 65536 } [], .reserveRspReceived { hd with src := 65536 } [],
    .commitReceived { hd with src := 65536 } [], .commitAckReceived { hd with src := 65536 } [],
    .releaseReceived { hd with src := 65536 } [], .releaseAckReceived { hd with src := 65536 },
    .handoverOfferReceived { hd with src := 65536 } default, .handoverAcceptReceived { hd with src := 65536 } 0 0 default 0,
    .handoverAcceptReceived hd 256 0 default 0, .handoverInstant 65536, .handoverDoneReceived { hd with src := 65536 } 0 0,
    .handoverDoneReceived hd 65536 0, .handoverDoneReceived hd 0 256, .doneAckReceived { hd with src := 65536 }] (fun i => !i.wellFormed) = true := by decide +kernel

theorem test_wf_refuses_4 : List.all (α := Instr) [
    .handoverAcceptTimeout 65536, .handoverOutcomeTimeout 65536, .siteStopReceived { hd with src := 65536 } 0 0 0,
    .siteStopReceived hd 65536 0 0, .siteStopReceived hd 0 (2 ^ 32) 0, .siteStopReceived hd 0 0 256,
    .siteStopAckReceived { hd with src := 65536 }, .siteReleaseReceived { hd with src := 65536 } 0 0,
    .siteReleaseReceived hd 65536 0, .siteReleaseReceived hd 0 (2 ^ 32), .siteReleaseAckReceived { hd with src := 65536 },
    .fedUcpReceived { hd with src := 65536 } 0 pk, .fedUcpReceived hd 65536 pk, .fedUcpReceived hd 0 badPk,
    .peerLivenessTimeout 65536, .fedRetransmit 65536 0, .fedRetransmit 0 (2 ^ 32), .handshakeRetry 65536,
    .tentativeWindowExpiry 65536 0, .tentativeWindowExpiry 0 (2 ^ 32), .responseCacheExpiry 65536 0,
    .responseCacheExpiry 0 (2 ^ 32), .digestMismatchTimer 65536, .redunConfig badPk, .redunHandover badPk,
    .redunCheckpoint badPk, .redunStatus badPk, .redunSideRead badPk, .secAttest badPk, .secCert badPk, .secKeyImport badPk,
    .secStatus badPk, .secDebugUnlock badPk, .tamperDetected .a 65536 0 0 false, .tamperDetected .a 0 0 65536 false,
    .keyFault 65536 default, .updateBegin badPk, .updateChunk badPk, .updateApply badPk, .updateActivate badPk,
    .updateEnd badPk, .updateStatus badPk, .updateStore badPk, .recordRead badPk, .recordStatus badPk, .recordConfig badPk,
    .recordMark badPk, .counterSelect badPk, .counterControl badPk, .counterRead badPk, .counterOverflow 64,
    .vinSupplyEvent 65536, .linkRestored 2 false, .ptpAnnounceReceived 2 [], .ptpAnnounceReceiptTimeout 2] (fun i => !i.wellFormed) = true := by decide +kernel

theorem test_wf_refuses_long :
    Instr.wellFormed (.ptpEventMessageRx 0 big) = false ∧
    Instr.wellFormed (.ptpAnnounceReceived 0 big) = false ∧
    Instr.wellFormed (.ptpTransparentPass 0 0 0 big) = false ∧
    Instr.wellFormed (.frameTransmit 0 0 0 0 0 big) = false ∧
    Instr.wellFormed (.frameReceived 0 false false false false false 0 big) = false ∧
    Instr.wellFormed (.joinReqReceived 0 0 0 0 0 0 big) = false ∧
    Instr.wellFormed (.joinAuthReceived 0 big) = false ∧
    Instr.wellFormed (.dataFrameReceived 0 0 0 0 0 0 false 0 big) = false ∧
    Instr.wellFormed (.packetCommit 0 0 0 0 big) = false ∧
    Instr.wellFormed (.helloReceived 0 big) = false ∧
    Instr.wellFormed (.helloRspReceived 0 big) = false ∧
    Instr.wellFormed (.helloFinReceived 0 big) = false ∧
    Instr.wellFormed (.fedStatusReceived hd big 0 [] 0) = false ∧
    Instr.wellFormed (.fedStatusReceived hd [] 0 big 0) = false ∧
    Instr.wellFormed (.fedRtcmReceived hd big) = false ∧
    Instr.wellFormed (.reserveReceived hd big) = false ∧
    Instr.wellFormed (.reserveRspReceived hd big) = false ∧
    Instr.wellFormed (.commitReceived hd big) = false ∧
    Instr.wellFormed (.commitAckReceived hd big) = false ∧
    Instr.wellFormed (.releaseReceived hd big) = false :=
  ⟨by show (decide ((0 : Nat) < 2) && decide (big.length < 65536)) = false; simp only [big_not, Bool.and_false, Bool.false_and],
   by show (decide ((0 : Nat) < 2) && decide (big.length < 65536)) = false; simp only [big_not, Bool.and_false, Bool.false_and],
   by show (decide ((0 : Nat) < 2) && decide ((0 : Nat) < 65536) && decide (big.length < 65536)) = false; simp only [big_not, Bool.and_false, Bool.false_and],
   by show (decide ((0 : Nat) < 8) && decide ((0 : Nat) < 256) && decide ((0 : Nat) < 256) && decide ((0 : Nat) < 256) && decide ((0 : Nat) < 65536) && decide (big.length < 65536)) = false; simp only [big_not, Bool.and_false, Bool.false_and],
   by show (decide ((0 : Nat) < 8) && decide (big.length < 65536)) = false; simp only [big_not, Bool.and_false, Bool.false_and],
   by show (decide ((0 : Nat) < 8) && decide ((0 : Nat) < 256) && decide ((0 : Nat) < 256) && decide ((0 : Nat) < 65536) && decide (big.length < 65536)) = false; simp only [big_not, Bool.and_false, Bool.false_and],
   by show (decide ((0 : Nat) < 8) && decide (big.length < 65536)) = false; simp only [big_not, Bool.and_false, Bool.false_and],
   by show (decide ((0 : Nat) < 8) && decide ((0 : Nat) < 65536) && decide ((0 : Nat) < 65536) && decide ((0 : Nat) < 256) && decide ((0 : Nat) < 256) && decide (big.length < 65536)) = false; simp only [big_not, Bool.and_false, Bool.false_and],
   by show (decide ((0 : Nat) < 65536) && decide ((0 : Nat) < 65536) && decide ((0 : Nat) < 256) && decide ((0 : Nat) < 65536) && decide (big.length < 65536)) = false; simp only [big_not, Bool.and_false, Bool.false_and],
   by show (decide ((0 : Nat) < 65536) && decide (big.length < 65536)) = false; simp only [big_not, Bool.and_false, Bool.false_and],
   by show (decide ((0 : Nat) < 65536) && decide (big.length < 65536)) = false; simp only [big_not, Bool.and_false, Bool.false_and],
   by show (decide ((0 : Nat) < 65536) && decide (big.length < 65536)) = false; simp only [big_not, Bool.and_false, Bool.false_and],
   by simp only [Instr.wellFormed, big_not, Bool.and_false, Bool.false_and],
   by simp only [Instr.wellFormed, big_not, Bool.and_false, Bool.false_and],
   by show (decide (hd.src < 65536) && decide (big.length < 65536)) = false; simp only [big_not, Bool.and_false, Bool.false_and],
   by show (decide (hd.src < 65536) && decide (big.length < 65536)) = false; simp only [big_not, Bool.and_false, Bool.false_and],
   by show (decide (hd.src < 65536) && decide (big.length < 65536)) = false; simp only [big_not, Bool.and_false, Bool.false_and],
   by show (decide (hd.src < 65536) && decide (big.length < 65536)) = false; simp only [big_not, Bool.and_false, Bool.false_and],
   by show (decide (hd.src < 65536) && decide (big.length < 65536)) = false; simp only [big_not, Bool.and_false, Bool.false_and],
   by show (decide (hd.src < 65536) && decide (big.length < 65536)) = false; simp only [big_not, Bool.and_false, Bool.false_and]⟩

theorem test_wf_accepts_0 : List.all (α := Instr) [
    .modulePowerOn false false, .brownOutWarning 0, .modulePowerDown false, .overvoltageLockout 0, .vbatLoss 0,
    .vbatRestored, .modResetNAsserted, .modResetNRelease false false, .pciePerst false, .pcieLinkLoss,
    .hostSwitchReady false, .hwAliveIncrement, .bootRomDone false, .imageVerifyDone false false,
    .stateLoadDone false false false false, .radioHeadBringupDone none none, .gnssStartEnd 0, .gnssStartDeadline,
    .heartbeatStart, .startStageOverrun, .supervisorWatchdogExpiry, .lockstepMismatch, .uncorrectableMemoryError 0 0 0 0,
    .railOutOfWindow 0, .junctionTempThreshold 0 0, .bistPeriod false, .checkpointSnapshot, .checkpointCommit,
    .sqTailDoorbell 0 0, .cqHeadDoorbell 0 0, .irqCauseClear 0 0, .ringErrRead, .ringCtrlWrite 0 0, .registerWrite 0 0,
    .packetFetch .ring0 0 pk false false, .commandStart 0, .moderationTimerExpiry 0, .mntWritePacket 0 pk false false,
    .mntReadCompletion false, .mntReadStatus true, .mntReadRegister 0 true, .mntWriteRegister 0 0 true, .sessionOpen pk, .sessionClose pk,
    .sessionTags pk, .powerGpio pk, .powerSense pk, .powerMode pk, .powerModeTakesEffect, .resetSide pk,
    .resetSideDone false 0, .resetCause pk, .gnssConfig pk, .gnssChannelSet pk, .gnssChannelRead pk, .gnssNotch pk,
    .gnssMonitor pk, .gnssMpmap pk, .gnssStatus pk, .channelIntegration 0 default false 0, .acquisitionDwellDone default,
    .gnssEpoch 0 default, .monitorUpdate 0 0 0 0, .interferenceFlagSet 0, .interferenceFlagClear 0, .adaptiveNotchMove 0 0 0 0,
    .mpmapSecond default, .mpmapDurationEnd, .fenBurstStart, .fenBurstEnd, .hotStartWrite, .budgetAccountingWrite,
    .antennaBiasLimit 0, .biasRetry false 0, .corrBase pk, .corrStream pk, .corrDescriptor pk, .corrWatchdog pk,
    .corrInject pk, .corrStatus pk] (fun i => i.wellFormed) = true := by decide +kernel

theorem test_wf_accepts_1 : List.all (α := Instr) [
    .surveyMaxTime, .watchdogHoldoffExpiry 0, .neighbourBufferTimeout 0, .solverConfig pk, .solverMember pk, .solverRead pk,
    .solverStatus pk, .solverReset pk, .solverIntegrity pk, .uplinkItem 0, .epochPartWaitExpiry 0, .missingEpoch 0 0,
    .crossMemberTest, .solverExclusionExpiry 0 0, .solverAlarmClearExpiry 0 0 0 0 0, .filterRetentionExpiry 0,
    .timeConfig pk, .timePtpConfig pk, .timeLeap pk, .timeStatus pk, .timeRead pk, .stbDisciplineLoss, .stbQualified 0,
    .slewComplete, .timeStepAtB, .holdoverBoundCrossing, .syncRefInLost, .ppsInfoSend, .ppsPulse, .atbStepAtHyperframe,
    .utcParametersDecoded 0 0 0 0, .leapTableChange, .ppsInEdge, .ptpEventMessageRx 0 [], .ptpEventMessageTx 0 0,
    .ptpTransparentPass 0 0 0 [], .radioLinkConfig pk, .radioHeadProfile pk, .radioLaneConfig pk, .radioRegionLoad pk,
    .radioTxCal pk, .radioBudget pk, .radioLaneStatus pk, .linkDataPhaseLost 0 0, .linkRetrain 0, .headAlarmOrLockLoss 0 false,
    .headRestart 0, .headLockCheckTimeout 0, .frameTransmit 0 0 0 0 0 [], .budgetBinBoundary 0 0 0,
    .lbtMeasurement 0 default, .radarDetected 0 0, .dfsStopWindowEnd 0 0, .cacComplete 0 0, .nonOccupancyEnd 0 0,
    .noiseFloorAverage 0 default, .macConfig pk, .macLaneMac pk, .macProvision pk, .macConnParam pk, .macDrop pk,
    .macMemberRead pk, .macStatus pk, .macSend pk, .slotBoundary 0 0 0, .frameReceived 0 false false false false false 0 [],
    .joinReqReceived 0 0 0 0 0 0 [], .joinAuthReceived 0 [], .joinAuthMissing 0, .dataFrameReceived 0 0 0 0 0 0 false 0 [],
    .supervisionTimeout 0, .connectionInstant 0, .siteKeySwitch, .oldSiteKeyDiscard, .seenCacheAgeOut 0 0, .sluiceConfig pk,
    .sluiceGrant pk, .sluiceStop pk, .sluiceRelease pk, .sluiceStatus pk] (fun i => i.wellFormed) = true := by decide +kernel

theorem test_wf_accepts_2 : List.all (α := Instr) [
    .sluiceSlot 0, .subghzStopSpan 0 0, .sluInOpen 0, .sluInClosed 0, .sluInFault 0, .loopDiscrepancyTimeout,
    .memberMsgItem 0, .confirmTimeout 0, .stopStatusReport 0, .dykeConfig pk, .dykeClass pk, .dykeMember pk,
    .dykeGraphEdit pk, .dykeSwap pk, .dykeReserve pk, .dykeRelease pk, .dykeRead pk, .dykeStatus pk, .taskQueue pk,
    .taskAccept pk, .taskCancel pk, .tickBoundary, .resumeRetry 0, .graphSwapApply, .allotterRun, .allotterPeriodic,
    .offerTimeout 0, .declineBarExpiry 0 0, .taskDeadlineExpiry 0, .taskDone 0, .borderCommitTimeout 0, .profileConfig pk,
    .profileMember pk, .profileRetarget pk, .profileRead pk, .profileFrameDue 0, .schedConfig pk, .schedCore pk,
    .schedStatus pk, .schedHist pk, .schedFlowRead pk, .schedItemRead pk, .coreDispatch 0, .workItemDone 0,
    .affinityWindowExpiry 0, .controlStarvation 0 false, .delayListTick, .packetCommit 0 0 0 0 [], .headReadStallExpiry 0,
    .poolScrub default, .queueConfig pk, .queuePool pk, .queueStatus pk, .queueRead pk, .queueMbxRead pk,
    .mbxReadWaitEnd 0 0, .capturePort pk, .captureArm pk, .captureTrigger pk, .captureSyncConfig pk, .captureSyncCal pk,
    .captureStatus pk, .capturePrefillComplete 0, .captureTriggerFired 0 0, .captureRecordComplete 0, .captureRecordDrain,
    .captureRoomAvailable 0, .syncTrgEdge 0 0, .syncCalPulse false 0 0, .fedConfig pk, .fedPort pk, .fedPeer pk,
    .fedHandover pk, .fedSiteStop pk, .fedStatus pk, .helloReceived 0 [], .helloRspReceived 0 [], .helloFinReceived 0 [],
    .fedStatusReceived hd [] 0 [] 0, .fedRtcmReceived hd []] (fun i => i.wellFormed) = true := by decide +kernel

theorem test_wf_accepts_3 : List.all (α := Instr) [
    .reserveReceived hd [], .reserveRspReceived hd [], .commitReceived hd [], .commitAckReceived hd [],
    .releaseReceived hd [], .releaseAckReceived hd, .handoverOfferReceived hd default,
    .handoverAcceptReceived hd 0 0 default 0, .handoverInstant 0, .handoverDoneReceived hd 0 0, .doneAckReceived hd,
    .handoverAcceptTimeout 0, .handoverOutcomeTimeout 0, .siteStopReceived hd 0 0 0, .siteStopAckReceived hd,
    .siteReleaseReceived hd 0 0, .siteReleaseAckReceived hd, .fedUcpReceived hd 0 pk, .fedStatusSend, .peerLivenessTimeout 0,
    .fedRetransmit 0 0, .handshakeRetry 0, .tentativeWindowExpiry 0 0, .responseCacheExpiry 0 0,
    .coordinatorDisagreementTimer, .digestMismatchTimer 0, .redunConfig pk, .redunHandover pk, .holdWaitExpiry,
    .redunCheckpoint pk, .redunStatus pk, .redunSideRead pk, .secAttest pk, .secCert pk, .secKeyImport pk, .secStatus pk,
    .secDebugUnlock pk, .tamperDetected .a 0 0 0 false, .tamperReport, .keyFault 0 default, .debugChallengeExpiry,
    .updateBegin pk, .updateChunk pk, .updateApply pk, .updateApplyComplete, .updateActivate pk, .updateEnd pk,
    .updateStatus pk, .updateStore pk, .updateLockExpiry, .confirmationWindowExpiry, .hostSwitchRestart, .recordRead pk,
    .recordStatus pk, .recordConfig pk, .recordMark pk, .opSecondsTick, .counterBlockSave, .foldJournalWrite,
    .repeatWindowEnd, .appendsDroppedReport, .counterSelect pk, .counterControl pk, .counterRead pk, .counterOverflow 0,
    .vinSupplyEvent 0, .syncRefInRestored, .linkRestored 0 false, .ptpAnnounceReceived 0 [], .ptpAnnounceReceiptTimeout 0,
    .syncCalTimeout, .plannedHandoverRelinquish, .gnssFailTimeout] (fun i => i.wellFormed) = true := by decide +kernel

/-! ### The words of the table -/

/-- The table gives its rows no bits, so no word spells a command. -/
theorem test_no_words (n w : Nat) : decodeTableWord n w = none := rfl

/-! ### Operations on the spec's worked examples -/

/-- Chapter 00: 0x0001_0A00 in the byte order of the host port, and in that of the air. -/
theorem test_byte_order :
    leBytes 4 0x00010A00 = [0x00, 0x0A, 0x01, 0x00] ∧ beBytes 4 0x00010A00 = [0x00, 0x01, 0x0A, 0x00] := by decide

/-- The lane of the example of chapter 09. -/
def lane5 : LaneSettings := { LaneSettings.factory with cls := 0, preamble := 8, window := 3600, reserve := 20, phy := 1 }

/-- Chapter 09: an MR-FSK PSDU of 60 octets at 100 kbit/s takes 5,760 us; chapter 11: the PSDU of a STOP frame with a body of 60 octets
is 80 octets, and takes 48 us at 24 Mbit/s. -/
theorem test_air_time :
    airTime lane5 0 60 = 5760 ∧ psduLen 8 false 60 = 80 ∧ airTime { LaneSettings.factory with cls := 1 } 4 80 = 48 := by decide

/-- Chapter 10: latency 99 at 50 superframes on an OFDM lane needs a supervision timeout of 10.384 s. -/
theorem test_least_supervision : leastSup true 99 50 = 1039 := by decide

/-- Chapter 07: 300 combines and 800 carts, a baseline run and 11 planters; then a combine at 10 Hz is refused for rate and one at
5 Hz is accepted. -/
def fleet (rate : Nat) : Tbl SolverMember :=
  let m : SolverMember := { mode := 0, rate := 4, minState := 0, grace := 0, decim := 0, hal := 0, val := 0, pcoUp := 0, sigMask := 0 }
  List.replicate 300 (1, m) ++ List.replicate 800 (2, { m with mode := 1, rate := 2 }) ++
    List.replicate 11 (3, { m with mode := 1 }) ++ [(4, { m with rate := rate })]

theorem test_capacity_example :
    capacityOf (fleet 4) true = (2019, 51210) ∧ capacityError (fleet 4) true = some 0 ∧
      capacityOf (fleet 3) true = (2019, 51160) ∧ capacityError (fleet 3) true = none := by decide +kernel

/-- Chapter 15: a frame of 104 bytes takes 2 cells, and a reservation of 256 is charged 5. -/
theorem test_packet_cells : packetCells 104 = 2 ∧ packetCells 256 = 5 := by decide

/-- Chapter 21: with the head at 1,530,000 the tail is 1,005,721. -/
theorem test_record_tail : recordTail 1530000 = 1005721 := by decide

/-- Chapter 16: a pulse of 175 ns is bus_id 3, and no pulse of 190 ns is any. -/
theorem test_bus_id : busIdOf 175000 = some 3 ∧ busIdOf 190000 = none := by decide

/-- Chapter 12: the braking distance of class 3 at 5,000 mm/s with a lapse of 24 ms. -/
theorem test_braking : class3.brake 24 5000 = 14370 := by decide +kernel

/-- The channel of the example of chapter 05: Galileo E5a with a second-order loop of 2.0 Hz and a code loop of 0.1 Hz. -/
def pilot : ChanSettings :=
  { sig := 9, sv := 14, fcn := 0, dEl := 64, dV := 96, coh := 100, pllOrder := 2, pllDisc := 0, fllDisc := 0, dllDisc := 0
    fllMode := 0, pllBw := 20, fllBw := 0, dllBw := 10 }

/-- A number to the nearest thousandth. -/
def milli (x : Rat) : Int := (x * 1000 + mkRat 1 2).floor

/-- Chapter 05: a, the carrier Doppler and the code rate of the example's update. -/
theorem test_loop_update :
    milli (carrierLoop pilot 2350 0 (mkRat 1 10) (mkRat 1 100) 0).1 = 2350014 ∧
      milli (carrierLoop pilot 2350 0 (mkRat 1 10) (mkRat 1 100) 0).2.2 = 2350068 ∧
      milli (codeRate pilot (mkRat 2350068 1000) (mkRat 2 100)) = 10230020443 := by decide +kernel

/-- A delta of one copy, one literal, one run and its end, by R462. -/
theorem test_delta :
    applyDelta [1, 2, 3, 4] 40 [] ([1, 1, 0, 0, 0, 2, 0, 0, 0] ++ [2, 1, 0, 0, 0, 9] ++ [3, 2, 0, 0, 0, 7] ++ [0]) = some [2, 3, 9, 7, 7] ∧
      applyDelta [1, 2, 3, 4] 40 [] [1, 3, 0, 0, 0, 2, 0, 0, 0, 0] = none := by decide +kernel

/-! ### One command on a small state -/

/-- What the last completion on ring set 0 says: status and detail. -/
def lastDone (o : Host.Outcome State Fault Refusal) : Option (Nat × Nat) :=
  match o with
  | .next t => ((t.ring 0).cq.filter fun e => !e.msg).getLast?.map fun e => (e.status, e.detail)
  | _ => none

/-- Some part of the next state. -/
def after {α : Type} (o : Host.Outcome State Fault Refusal) (f : State → α) : Option α :=
  match o with
  | .next t => some (f t)
  | _ => none

/-- Chapter 12: the windows of the example's request. -/
theorem test_dyke_reserve :
    after (exec (.dykeReserve (reservePk 0x101 [812, 813, 814, 815] 3 40000)) yard)
      (fun t => t.ctl.dyke.windows.flatMap fun e => e.2.map fun w => (e.1, w.start - tick1, w.stop - tick1, w.pinned)) =
    some [(812, 0, 660, false), (813, 212, 1260, false), (814, 812, 1860, false), (815, 1412, 0, true)] := by decide +kernel

/-- Chapter 12: the example's conflict is ER_CONFLICT with detail word 0x0001_0389. -/
theorem test_dyke_reserve_conflict :
    lastDone (exec (.dykeReserve (reservePk 0x101 [812, 813, 814, 815] 3 40000)) yardCrossed) = some (erConflict, 0x00010389) := by
  decide +kernel

/-- R103 and R104: the first failure only, in order: epoch, opcode length, header reserved bytes, and the parameter fields. -/
theorem test_checks_in_order :
    lastDone (exec (.recordStatus { pk with epoch := 6, params := [1], res13 := 1 }) demo) = some (erEpoch, 7) ∧
    lastDone (exec (.recordStatus { pk with params := [1], res13 := 1 }) demo) = some (erLength, 0) ∧
    lastDone (exec (.recordStatus { pk with res13 := 1 }) demo) = some (erReserved, 0x1000D) ∧
    lastDone (exec (.recordConfig (pf [(2, 60001), (2, 0)])) demo) = some (erRange, 0) := by decide +kernel

/-- R95 to R98: a doorbell of one slot moves SQ_TAIL and nothing else of the ring. -/
theorem test_doorbell :
    after (exec (.sqTailDoorbell 0 1) demo) (fun t => ((t.ring 0).sqTail, (t.ring 0).sqHead, (t.ring 1).sqTail)) =
      some (1, 0, 0) := by decide +kernel

/-- R391: an edge of 175 ns is taken at its instant less the delay of bus_id 3, 300,500 ps. -/
theorem test_bus_edge :
    after (exec (.syncTrgEdge 175000 0)
      { demo with
        ctl.cfg.wader := { demo.cfg.wader with
          rxEnable := true, delays := demo.cfg.wader.delays.set 3 (some 300500)
          ports := demo.cfg.wader.ports.set 0 (some { (default : PortSettings) with mask := 16 }) }
        vol.wader := { demo.vol.wader with ports := demo.vol.wader.ports.set 0 { demo.port 0 with state := .waiting } } })
      (fun t => ((t.port 0).state, ((t.port 0).trigger.map fun x => demo.mtbNs - x.mtbNs), t.vol.wader.edges)) =
      some (.post, some 300, 1) := by decide +kernel

/-- R287: a stop of scope all clears the grant map; R419: it is numbered. -/
theorem test_stop_clears_grants :
    after (exec (.fedSiteStop (pf [(1, 0), (1, 2), (1, 0), (1, 0), (2, 0), (2, 0)])) member)
      (fun t => (t.ctl.sluice.grantMap, t.stops.length, t.allCat)) = some (0, 1, 2) := by decide +kernel

/-- R492: a counter passes from 2^48 - 1 to 0 with its mark. -/
theorem test_counter_overflow :
    after (exec (.counterOverflow 2)
      { demo with vol.counters := { demo.vol.counters with
          counters := demo.vol.counters.counters.set 2 ⟨2 ^ 48 - 1, 0x0B01, false, 0, 0, false⟩ } })
      (fun t => (t.vol.counters.counters.getD 2 default).value + b2n (t.vol.counters.counters.getD 2 default).overflow) =
      some 1 := by decide +kernel

/-- Chapter 10: JOIN_RSP carries no MIC trailer of 12 octets, and a DATA frame does. -/
theorem test_psdu_trailer : psduLen 5 false 10 = psduLen 2 false 10 + 12 := by decide

/-- R483: a second of operating time counts on both sides. -/
theorem test_op_seconds :
    after (exec .opSecondsTick demo) (fun t => (t.sideA.recorder.opSeconds, t.sideB.recorder.opSeconds)) =
      some (demo.sideA.recorder.opSeconds + 1, demo.sideB.recorder.opSeconds + 1) := by decide +kernel

/-- R445: a tamper of the standby side latches it, empties its Crown and marks it in the host switch. -/
theorem test_tamper :
    after (exec (.tamperDetected .b 1 20 3000 false) demo)
      (fun t => (t.sideB.security.record.state, t.sideB.security.crownValid, t.hsw.nv.tamperB, t.hsw.nv.tamperA)) =
      some (.locked, false, true, false) := by decide +kernel

/-- R454: an import counter that is not above the highest one accepted is ER_RANGE at offset 4. -/
theorem test_import_counter :
    lastDone (exec (.secKeyImport (pkt ([2, 0, 0, 0] ++ zeros 12 ++ ((2 : Byte) :: zeros 48) ++ zeros 79))) demo) = some (erRange, 4) := by
  decide +kernel

/-- A step carries out the command at the front, and leaves the rest of the queue. -/
theorem test_step :
    after (step { demo with pending := [.opSecondsTick, .vbatRestored] }) (fun t => t.pending.length) = some 1 := by decide +kernel

end Sys2Proof.Tests
end

