-- ==== Sys2Proof/Tests/WitnessCorr.lean ====
section
/-! SUPPORT.
Witnesses: states and operands that meet the hypotheses of the statements.
-/

set_option Elab.async false
set_option linter.unusedVariables false

namespace Sys2Proof.Tests

open Sys2Proof.Machine

/-- An epoch's measurements with nothing observed. -/
def epoch0 : EpochMeas :=
  { clkRes := 0, timing := [], obs := [], sky := [], eph := [], code := none, sigmaMm := 0, filter := none, moved := (0, 0, 0), fixed := [] }

/-- The state in which an epoch's packet is committed. -/
def observed (s : State) : State := observe 1000000000000 epoch0 (passToStb (1000000000000 * unitMs) s)
/-- The answer of a commit to queue 0x820. -/
def epochCommit (s : State) : Option (Nat × State) :=
  commitPacket 0x820 ((observed s).epochData 1000000000000).length 0 0 ((observed s).epochData 1000000000000) (observed s)
theorem committed_as {o : Option (Nat × State)} (h : o.isSome = true) : o = some ((o.get h).1, (o.get h).2) := by
  cases o with
  | none => cases h
  | some p => rfl
theorem taken_as {o : Option (PeatPacket × State)} (h : o.isSome = true) : o = some ((o.get h).1, (o.get h).2) := by
  cases o with
  | none => cases h
  | some p => rfl
/-- Queue 0x820 holding an epoch's packet, whole or poisoned, or filled with reserved packets. -/
def epochQueue (x : Bool) : State :=
  { demo with vol.peat.queues := [(0x820, { PeatQueue.empty with packets := [{ workPacket 0 0 [1, 2] with poison := x }] })] }
def epochFull : State :=
  { demo with vol.peat.queues := [(0x820, { PeatQueue.empty with reserved := List.replicate 8 (1, 1) })] }

/-- A survey-in run. -/
def survey0 : BaseRun :=
  { source := 1, frameYear := 20, arpHeight := 0, minS := 60, maxS := 600, targetMm := 1000, neighbour := 0, fixHoldS := 0 }

/-- The demonstration with a neighbouring station that was just heard. -/
def heard7 : State :=
  { demo with vol.corr.neighbours := [(7, { lastAt := demo.mtbNs, lastArp := some demo.mtbNs, lastMsm := some demo.mtbNs, arp := (0, 0, 0) })] }

/-- The parameters of CORR.BASE. -/
def basePs (src x z minS maxS mm nb hold : Int) : List (Nat × Int) :=
  [(1, src), (1, 20), (2, 0), (8, x), (8, 0), (8, z), (2, 1500), (2, 0), (4, minS), (4, maxS), (2, mm), (2, nb), (2, hold), (2, 0)]

/-- The hypotheses of CorrectionOpcodes are met. -/
theorem witness_CorrectionOpcodes :
  Meets 0x0301 (fun c _ => fld c.packet.params 0 1 = 0 ∧ baseRange c.packet.params = none ∧
      arpOk (sfld c.packet.params 4 8, sfld c.packet.params 12 8, sfld c.packet.params 20 8) = true) ∧
  Meets 0x0301 (fun c _ => fld c.packet.params 0 1 = 1 ∧ baseRange c.packet.params = none) ∧
  Meets 0x0301 (fun c b => fld c.packet.params 0 1 = 2 ∧ baseRange c.packet.params = none ∧ b.ctl.hot.position = none ∧
      b.heard (fld c.packet.params 42 2) = true ∧ b.vol.gnss.fen = false ∧ capacityError b.cfg.solver.members true = none) ∧
  Meets 0x0302 (fun c b => streamRange (fld c.packet.params 0 1) (readStream c.packet.params) c.packet.params = none ∧
      fld c.packet.params 5 1 = 0 ∧ b.epochRate ≤ 20 * fld c.packet.params 3 1) ∧
  Meets 0x0303 (fun _ _ => True) ∧
  Meets 0x0304 (fun c _ => fld c.packet.params 0 1 = 1) ∧
  Meets 0x0304 (fun c _ => fld c.packet.params 0 1 = 2 ∧
      firstNonZeroField c.packet.params [(1, 1), (2, 2), (4, 4), (8, 2), (10, 2), (12, 2)] = none) ∧
  Meets 0x0306 (fun _ _ => True) ∧
  Meets 0x0305 (fun _ b => b.cfg.corr.run = none ∧ b.cfg.corr.base = none) ∧
  (∃ p : BasePos, Meets 0x0305 (fun _ b => b.cfg.corr.run = none ∧ b.cfg.corr.base = some p)) :=
  ⟨meets (pf (basePs 0 3800000000 5100000000 0 0 0 0 0)) ({ demo with ctl.cfg.corr.run := some survey0 }) (by decide +kernel) (by decide +kernel),
   meets (pf (basePs 1 0 0 60 600 1000 0 0)) (demo) (by decide +kernel) (by decide +kernel),
   meets (pf (basePs 2 0 0 0 0 0 7 60)) (heard7) (by decide +kernel) (by decide +kernel),
   meets (pf [(1, 0), (1, 1), (1, 7), (1, 1), (1, 0x1F), (1, 0), (2, 5), (1, 4), (1, 0), (2, 0), (16, 0), (10, 0), (2, 0), (4, 0x1FFFFE), (4, 0)]) (demo) (by decide +kernel) (by decide +kernel),
   meets (pkt ([1, 2, 0, 1, 0x41, 0x42] ++ List.replicate 62 0)) (demo) (by decide +kernel) (by decide +kernel),
   meets (pf [(1, 1), (1, 25), (2, 100), (4, 5000), (2, 10), (2, 20), (2, 50), (2, 0)]) (demo) (by decide +kernel) (by decide +kernel),
   meets (pf [(1, 2), (15, 0)]) ({ demo with ctl.cfg.corr.latched := 4 }) (by decide +kernel) (by decide +kernel),
   meets (pkt ([6, 0, 0, 0] ++ List.replicate 6 0)) (demo) (by decide +kernel) (by decide +kernel),
   meets (pkt []) (demo) (by decide +kernel) (by decide +kernel),
   ⟨base0, meets (pkt []) ({ demo with ctl.cfg.corr.base := some base0 }) (by decide +kernel) (by decide +kernel)⟩⟩

/-- The hypotheses of CorrectionEvents are met. -/
theorem witness_CorrectionEvents :
  (∃ (k t : Nat) (m : EpochMeas) (s : State) (n : Nat) (v : State),
    s.ctl.time.stb = some t ∧
    s.hsw.warned = false ∧
    k % (1000 / max 1 s.epochRate) = 0 ∧
    t ≤ k * unitMs ∧
    let u := observe k m (passToStb (k * unitMs) s)
    let d := u.epochData k
    commitPacket 0x820 d.length 0 0 d u = some (n, v) ∧
    v.servesNow 12 0x884 = true) ∧
  (∃ (k t : Nat) (m : EpochMeas) (s : State) (n : Nat) (v : State),
    s.ctl.time.stb = some t ∧
    s.hsw.warned = false ∧
    k % (1000 / max 1 s.epochRate) = 0 ∧
    t ≤ k * unitMs ∧
    let u := observe k m (passToStb (k * unitMs) s)
    let d := u.epochData k
    commitPacket 0x820 d.length 0 0 d u = some (n, v) ∧
    v.servesNow 12 0x884 = false) ∧
  (∃ (k t : Nat) (m : EpochMeas) (s : State),
    s.ctl.time.stb = some t ∧
    s.hsw.warned = false ∧
    k % (1000 / max 1 s.epochRate) = 0 ∧
    t ≤ k * unitMs ∧
    let u := observe k m (passToStb (k * unitMs) s)
    let d := u.epochData k
    commitPacket 0x820 d.length 0 0 d u = none) ∧
  (∃ (k : Nat) (m : EpochMeas) (p : PeatPacket) (s t : State),
    takePacket 0x820 s = some (p, t) ∧
    p.poison = false) ∧
  (∃ (k : Nat) (m : EpochMeas) (p : PeatPacket) (s t : State),
    takePacket 0x820 s = some (p, t) ∧
    p.poison = true) ∧
  (∃ (k : Nat) (m : EpochMeas) (s : State),
    s.ctl.time.stb = none ∧
    s.hsw.warned = false) ∧
  (∃ (r : BaseRun) (s : State),
    s.cfg.corr.run = some r ∧
    r.source = 1) ∧
  (∃ (k : Nat) (s : State),
    s.vol.corr.absent.testBit k = true) ∧
  (∃ s : State,
    s.act.mainOn = true ∧
    s.hsw.serving = true ∧
    s.act.store.blocked = false ∧
    s.servesNow 11 0x883 = true ∧
    (pagesNeeded (ranItem 11 0x883 0 s)).1 ≤ s.act.store.freePages) ∧
  (∃ s : State,
    s.act.mainOn = true ∧
    s.hsw.serving = true ∧
    s.act.store.blocked = false ∧
    s.servesNow 11 0x883 = true ∧
    (pagesNeeded (ranItem 11 0x883 0 s)).1 ≤ s.act.store.freePages) ∧
  (∃ s : State,
    s.act.mainOn = true ∧
    s.hsw.serving = true ∧
    s.act.store.blocked = false ∧
    let u := ranItem 11 0x883 0 s
    s.servesNow 11 0x883 = true ∧
    s.act.store.freePages < (pagesNeeded u).1) ∧
  (∃ s : State,
    s.act.mainOn = true ∧
    s.hsw.serving = true ∧
    s.servesNow 11 0x883 = false) :=
  ⟨⟨1000000000000, stb0, epoch0, demo, _, _, by decide +kernel, by decide +kernel, by decide +kernel, by decide +kernel,
    committed_as (o := epochCommit demo) (by decide +kernel), by decide +kernel⟩,
   ⟨1000000000000, stb0, epoch0, (behind 0x884 12 demo), _, _, by decide +kernel, by decide +kernel, by decide +kernel, by decide +kernel,
    committed_as (o := epochCommit (behind 0x884 12 demo)) (by decide +kernel), by decide +kernel⟩,
   ⟨1000000000000, stb0, epoch0, epochFull, by decide +kernel⟩,
   ⟨1000000000000, epoch0, _, epochQueue false, _, taken_as (o := takePacket 0x820 (epochQueue false)) (by decide +kernel), by decide +kernel⟩,
   ⟨1000000000000, epoch0, _, epochQueue true, _, taken_as (o := takePacket 0x820 (epochQueue true)) (by decide +kernel), by decide +kernel⟩,
   ⟨0, epoch0, ({ demo with ctl.time.stb := none }), by decide +kernel⟩,
   ⟨survey0, ({ demo with ctl.cfg.corr.run := some survey0 }), by decide +kernel⟩,
   ⟨3, ({ demo with vol.corr := { demo.vol.corr with absent := 8, active := 8 } }), by decide +kernel⟩,
   ⟨demo, ⟨by decide +kernel, by decide +kernel, by decide +kernel, by decide +kernel, show 1 + Config.pages 2 _ % 2046 ≤ 2046 by omega⟩⟩,
   ⟨demo, ⟨by decide +kernel, by decide +kernel, by decide +kernel, by decide +kernel, show 1 + Config.pages 2 _ % 2046 ≤ 2046 by omega⟩⟩,
   ⟨({ demo with sideA.store.freePages := 0 }), ⟨by decide +kernel, by decide +kernel, by decide +kernel, by decide +kernel, show 0 < 1 + Config.pages 2 _ % 2046 by omega⟩⟩,
   ⟨behind 0x883 11 demo, by decide +kernel⟩⟩

end Sys2Proof.Tests
end

