-- ==== Sys2Proof/Tests/WitnessDyke.lean ====
section
/-! SUPPORT.
Witnesses: states and operands that meet the hypotheses of the statements.
-/

set_option Elab.async false
set_option linter.unusedVariables false

namespace Sys2Proof.Tests

open Sys2Proof.Machine

/-- The request of the example, whose target lies at p = 140,000. -/
def reserveOk : Packet := reservePk 0x101 [812, 813, 814, 815] 3 40000

def kin0 : Kin := ⟨10000, 5000, 0⟩

/-- Its plan: cruise to p = 126,250, then rest. -/
def phases0 : List Phase := [⟨23250000, 0, false, false, false⟩, ⟨500000, -2000, false, false, false⟩, ⟨4500000, 0, false, false, false⟩,
  ⟨500000, 2000, false, true, false⟩]

/-- Its windows. -/
def want0 : List (Nat × Nat × Window) :=
  [(0, 812, win0 0x101 0 660), (1, 813, win0 0x101 212 1260), (2, 814, win0 0x101 812 1860),
   (3, 815, { win0 0x101 1412 0 with stop := 0, pinned := true })]

/-- The yard with another shadow graph. -/
def shadow (f : Graph → Graph) : State := { yard with ctl.dyke := { yard.ctl.dyke with shadow := f graph0 } }

/-- The shadow graph without segment 905 and what meets it. -/
def fewer (_ : Graph) : Graph :=
  { segs := [(812, seg0 1 2 40000 []), (813, seg0 2 3 30000 []), (814, seg0 3 4 30000 []), (815, seg0 4 5 50000 [])]
    juncs := graph0.juncs.take 5 }

/-- A swap that waits. -/
def swap0 : SwapRun := ⟨fetchedCmd 0x0905 (pf [(1, 0), (3, 0)]) yard, fewer graph0⟩

/-- A task of the yard. -/
def task0 (st : TaskState) : Task :=
  { order := 0, ref := 9, seg := 815, dir := 0, priority := 1, offset := 1000, mask := 8, deadlineS := 60, durationS := 5
    queuedAt := 0, state := st, node := 0x101, arrive := tick1 + 2000, bars := [] }

/-- The yard with one task. -/
def tasked (st : TaskState) : State := { yard with ctl.dyke := { yard.ctl.dyke with tasks := [(3, task0 st)], nextTask := 4 } }

/-- The yard with the member's STATUS. -/
def permitted : State := { yard with vol.sluice.status := [(0x101, ⟨1, 0, 0, 0, 0, 0⟩)] }

/-- PROFILE.RETARGET to a target, with return entries. -/
def retargetPk (node seg off : Int) (ret : List Nat) : Packet :=
  pf ([(2, node), (2, 5000), (2, 1000), (2, 2000), (2, seg), (2, 0), (4, off), (1, (ret.length : Int)), (3, 0)] ++
    ret.flatMap fun g => [(2, (g : Int)), (1, 0), (1, 0)])

/-- The state in which the new target is asked for. -/
def retargetAt : State := started 0x0A03 (retargetPk 0x101 815 40000 []) permitted

/-- The request that it makes. -/
def ahead0 : PathReq := (retargetAt.aheadReq class3 allot0 (retargetPk 0x101 815 40000 []).params kin0 false).getD default

/-- The state of a request that is done. -/
def doneOf : Submit → Option State
  | .done s => some s
  | _ => none

theorem eq_done {x : Submit} (d : State) (h : (doneOf x).isSome = true) : x = .done ((doneOf x).getD d) := by
  cases x <;> simp_all [doneOf]

/-- What the request comes to. -/
def submit0 : Submit :=
  submit 0x101 ahead0 (some (fetchedCmd 0x0A03 (retargetPk 0x101 815 40000 []) permitted)) (some (leBytes 2 0xFFFF ++ leBytes 4 0xFFFFFFFF)) retargetAt

/-- A border request that waits. -/
def border0 : BorderRun :=
  { txn := 7, cmd := some (fetchedCmd 0x0906 reserveOk yard), node := 0x101, allot := allot0, want := [], reserves := [(7, 9, false)]
    commits := [], retarget := none }

/-- The hypotheses of DykeSettingsAndGraph are met. -/
theorem witness_DykeSettingsAndGraph :
  Meets 0x0901 (fun c b =>
      let ps := c.packet.params
      let r2 := sfld ps 0 8 * sfld ps 0 8 + sfld ps 8 8 * sfld ps 8 8 + sfld ps 16 8 * sfld ps 16 8
      6300000000 * 6300000000 ≤ r2 ∧ r2 ≤ 6400000000 * 6400000000 ∧ b.ctl.dyke.windows = []) ∧
  Meets 0x0902 (fun c b => fld c.packet.params 18 2 ≤ fld c.packet.params 20 2 ∧
      2 * fld c.packet.params 12 2 ≤ widthMm (fld c.packet.params 2 1) ∧
      ∀ e ∈ b.cfg.dyke.members, e.2 = fld c.packet.params 0 1 → b.nodeWindows e.1 ++ b.nodeCopies e.1 = []) ∧
  Meets 0x0903 (fun c b => b.nodeWindows (fld c.packet.params 0 2) ++ b.nodeCopies (fld c.packet.params 0 2) = [] ∧
      fld c.packet.params 2 1 ≠ 0xFF ∧ (tget b.cfg.dyke.classes (fld c.packet.params 2 1)).isSome = true) ∧
  Meets 0x0904 (fun c b => (∀ o ∈ editOffsets c.packet.params, editError c.packet.params o = none) ∧ b.vol.dyke.swap = none) ∧
  Meets 0x0904 (fun c b => (∀ o ∈ editOffsets c.packet.params, editError c.packet.params o = none) ∧ b.vol.dyke.swap.isSome = true) ∧
  (∃ d : Nat, Meets 0x0905 (fun c b => b.vol.dyke.swap = none ∧ b.ctl.dyke.shadow ≠ b.cfg.dyke.live ∧ fld c.packet.params 0 1 = 0 ∧
      b.swapError = some d)) ∧
  Meets 0x0905 (fun c b => b.vol.dyke.swap = none ∧ b.ctl.dyke.shadow ≠ b.cfg.dyke.live ∧ fld c.packet.params 0 1 = 0 ∧
      b.swapError = none) ∧
  Meets 0x0905 (fun c b => b.vol.dyke.swap = none ∧ b.ctl.dyke.shadow ≠ b.cfg.dyke.live ∧ fld c.packet.params 0 1 = 1) ∧
  (∃ (r : SwapRun) (s : State),
    s.vol.dyke.swap = some r) ∧
  Meets 0x0908 (fun c _ => fld c.packet.params 0 1 = 0) ∧
  Meets 0x0909 (fun _ _ => True) :=
  ⟨meets (pf [(8, 3800000000), (8, 0), (8, 5100000000), (2, 20), (2, 500), (2, 500), (2, 10), (2, 60), (1, 16), (5, 0)]) (demo) (by decide +kernel) (by decide +kernel),
   meets (pf [(1, 4), (1, 1), (1, 2), (1, 0), (4, 4000), (4, 2000), (2, 1000), (2, 5000), (2, 1000), (2, 1000), (2, 2000), (2, 100), (4, 2000)]) (yard) (by decide +kernel) (by decide +kernel),
   meets (pf [(2, 0x102), (1, 3), (1, 0)]) (yard) (by decide +kernel) (by decide +kernel),
   meets (pf [(1, 1), (3, 0), (1, 1), (1, 1), (2, 905), (36, 0)]) (yard) (by decide +kernel) (by decide +kernel),
   meets (pf [(1, 1), (3, 0), (1, 1), (1, 1), (2, 905), (36, 0)]) ({ yard with vol.dyke := { yard.vol.dyke with swap := some swap0 } }) (by decide +kernel) (by decide +kernel),
   ⟨812, meets (pf [(1, 0), (3, 0)]) (shadow fun g => { g with segs := tput g.segs 812 (seg0 1 2 45000 []) }) (by decide +kernel) (by decide +kernel)⟩,
   meets (pf [(1, 0), (3, 0)]) (shadow fewer) (by decide +kernel) (by decide +kernel),
   meets (pf [(1, 1), (3, 0)]) (shadow fewer) (by decide +kernel) (by decide +kernel),
   ⟨swap0, ({ yard with vol.dyke := { yard.vol.dyke with swap := some swap0 } }), by decide +kernel⟩,
   meets (pf [(1, 0), (1, 0), (2, 812)]) (yard) (by decide +kernel) (by decide +kernel),
   meets (pkt []) (yard) (by decide +kernel) (by decide +kernel)⟩

/-- The hypotheses of PathRequests are met. -/
theorem witness_PathRequests :
  let startOf : HostCmd → State → Except Nat (Kin × Bool) := fun c b =>
    b.startOf (fld c.packet.params 0 2) (readPath c.packet.params) (fld c.packet.params 6 1) (fld c.packet.params 8 4)
      (fld c.packet.params 2 1 == 1) (b.tick + 1)
  let asked : HostCmd → DykeClass → State → Prop := fun c cls b =>
    b.reserveRange c.packet.params = none ∧ (b.conn (fld c.packet.params 0 2)).isSome = true ∧
      b.dykeClass (fld c.packet.params 0 2) = some cls ∧ b.offered (fld c.packet.params 0 2) = none ∧
      b.badEntry (fld c.packet.params 0 2) cls (readPath c.packet.params) = none ∧ fld c.packet.params 22 2 = 0
  let request : HostCmd → DykeClass → Kin → Bool → State → PathReq := fun c cls k rev b =>
    b.request cls (readPath c.packet.params) (fld c.packet.params 6 1) (fld c.packet.params 7 1) (fld c.packet.params 12 4)
      (fld c.packet.params 16 2) (fld c.packet.params 18 2) (fld c.packet.params 20 2) k rev (b.tick + 1) 0
  (∃ (cls : DykeClass) (k : Kin) (rev : Bool) (ps : List Phase) (arr : Nat) (want : List (Nat × Nat × Window)), Meets 0x0906 (fun c b => asked c cls b ∧ startOf c b = .ok (k, rev) ∧
        (request c cls k rev b).plan (fld c.packet.params 0 2) = .ok (ps, arr, want) ∧
        (∀ e ∈ want, b.border e.2.1 = false) ∧ b.clash (fld c.packet.params 0 2) want = none ∧
        b.nodeCopies (fld c.packet.params 0 2) = [])) ∧
  (∃ (cls : DykeClass) (k : Kin) (rev : Bool) (ps : List Phase) (arr i g : Nat) (v : Window)
      (want : List (Nat × Nat × Window)), Meets 0x0906 (fun c b => asked c cls b ∧ startOf c b = .ok (k, rev) ∧
        (request c cls k rev b).plan (fld c.packet.params 0 2) = .ok (ps, arr, want) ∧
        (∀ e ∈ want, b.border e.2.1 = false) ∧ b.clash (fld c.packet.params 0 2) want = some (.conflict i g v))) ∧
  (∃ (cls : DykeClass) (k : Kin) (rev : Bool) (kind amount : Nat), Meets 0x0906 (fun c b => asked c cls b ∧ startOf c b = .ok (k, rev) ∧
        (request c cls k rev b).plan (fld c.packet.params 0 2) = .error (kind, amount))) ∧
  (∃ (cls : DykeClass) (m : Nat), Meets 0x0906 (fun c b => asked c cls b ∧ startOf c b = .error m)) ∧
  Meets 0x0906 (fun c b => b.reserveRange c.packet.params = none ∧ b.conn (fld c.packet.params 0 2) = none) ∧
  Meets 0x0906 (fun c b => b.reserveRange c.packet.params = none ∧ (b.conn (fld c.packet.params 0 2)).isSome = true ∧
      b.dykeClass (fld c.packet.params 0 2) = none) ∧
  Meets 0x0907 (fun c b => fld c.packet.params 2 1 = 1 ∧ b.conn (fld c.packet.params 0 2) = none ∧
      b.offered (fld c.packet.params 0 2) = none ∧ b.nodeCopies (fld c.packet.params 0 2) = []) ∧
  Meets 0x0907 (fun c b => fld c.packet.params 2 1 = 1 ∧ (b.conn (fld c.packet.params 0 2)).isSome = true) :=
  ⟨⟨class3, kin0, false, phases0, tick1 + 2875, want0, meets (reserveOk) (yard) (by decide +kernel) (by decide +kernel)⟩,
   ⟨class3, kin0, false, phases0, tick1 + 2875, 1, 905, win0 0x217 1250 1400, want0, meets (reserveOk) (yardCrossed) (by decide +kernel) (by decide +kernel)⟩,
   ⟨class3, kin0, false, 8, 11750, meets (reservePk 0x101 [812] 0 12000) (yard) (by decide +kernel) (by decide +kernel)⟩,
   ⟨class3, 0xFFFF, meets (reservePk 0x101 [813, 814] 1 1000) (yard) (by decide +kernel) (by decide +kernel)⟩,
   meets (reservePk 0x102 [812] 0 30000) (yard) (by decide +kernel) (by decide +kernel),
   meets (reservePk 0x101 [812] 0 30000) ({ yard with ctl.cfg.dyke := { yard.ctl.cfg.dyke with members := [] } }) (by decide +kernel) (by decide +kernel),
   meets (pf [(2, 0x217), (1, 1), (1, 0)]) (yardCrossed) (by decide +kernel) (by decide +kernel),
   meets (pf [(2, 0x101), (1, 1), (1, 0)]) (yard) (by decide +kernel) (by decide +kernel)⟩

/-- The hypotheses of ConflictCheckIsSound are met. -/
theorem witness_ConflictCheckIsSound :
  (∃ (s : State) (n : Nat) (want : List (Nat × Nat × Window)),
    s.clash n want = none) ∧
  (∃ (s : State) (n k h : Nat) (v : Window) (want : List (Nat × Nat × Window)),
    s.clash n want = some (.conflict k h v)) :=
  ⟨⟨yard, 0x101, want0, by decide +kernel⟩,
   ⟨yardCrossed, 0x101, 1, 905, (win0 0x217 1250 1400), want0, by decide +kernel⟩⟩

/-- The hypotheses of TaskOpcodesAndAllotter are met. -/
theorem witness_TaskOpcodesAndAllotter :
  (∃ x : Segment, Meets 0x0911 (fun c b => b.segment (fld c.packet.params 4 2) = some x ∧ fld c.packet.params 8 4 ≤ x.lengthMm ∧
      b.ctl.dyke.tasks.length < 8192 ∧ (x.rule = 0 → fld c.packet.params 6 1 ≠ 1))) ∧
  (∃ s : State,
    ((s.flow 0x882).items.any fun i => i.core.isNone && !i.acted) = false) ∧
  Meets 0x0911 (fun c b => b.segment (fld c.packet.params 4 2) = none ∧ b.ctl.dyke.tasks.length < 8192) ∧
  (∃ t : Task, Meets 0x0912 (fun c b => tget b.ctl.dyke.tasks (fld c.packet.params 0 2) = some t ∧ t.state = .offered ∧ fld c.packet.params 2 1 = 0)) ∧
  (∃ t : Task, Meets 0x0912 (fun c b => tget b.ctl.dyke.tasks (fld c.packet.params 0 2) = some t ∧ t.state = .offered ∧ fld c.packet.params 2 1 = 1)) ∧
  (∃ t : Task, Meets 0x0912 (fun c b => tget b.ctl.dyke.tasks (fld c.packet.params 0 2) = some t ∧ t.state ≠ .offered)) ∧
  (∃ t : Task, Meets 0x0913 (fun c b => tget b.ctl.dyke.tasks (fld c.packet.params 0 2) = some t)) ∧
  Meets 0x0913 (fun c b => tget b.ctl.dyke.tasks (fld c.packet.params 0 2) = none) ∧
  (∃ s : State,
    s.servesNow 10 0x882 = true) ∧
  (∃ s : State,
    s.servesNow 10 0x882 = false) ∧
  (∃ (no : Nat) (t : Task) (s : State),
    tget s.ctl.dyke.tasks no = some t ∧
    t.state = .offered) ∧
  (∃ (no : Nat) (t : Task) (s : State),
    tget s.ctl.dyke.tasks no = some t ∧
    t.deadlineS ≠ 0 ∧
    t.state = .pending) ∧
  (∃ (no : Nat) (t : Task) (s : State),
    tget s.ctl.dyke.tasks no = some t ∧
    t.state = .arrived ∧
    s.restsAt t.node no = true) ∧
  (∃ (no : Nat) (t : Task) (s : State),
    tget s.ctl.dyke.tasks no = some t ∧
    s.restsAt t.node no = false) :=
  ⟨⟨seg0 4 5 50000 [], meets (pf [(4, 77), (2, 815), (1, 1), (1, 2), (4, 1000), (8, 8), (4, 60), (2, 5), (2, 0)]) (yard) (by decide +kernel) (by decide +kernel)⟩,
   ⟨yard, by decide +kernel⟩,
   meets (pf [(4, 77), (2, 999), (1, 1), (1, 2), (4, 1000), (8, 8), (4, 60), (2, 5), (2, 0)]) (yard) (by decide +kernel) (by decide +kernel),
   ⟨task0 .offered, meets (pf [(2, 3), (1, 0), (1, 0)]) (tasked .offered) (by decide +kernel) (by decide +kernel)⟩,
   ⟨task0 .offered, meets (pf [(2, 3), (1, 1), (1, 0)]) (tasked .offered) (by decide +kernel) (by decide +kernel)⟩,
   ⟨task0 .pending, meets (pf [(2, 3), (1, 1), (1, 0)]) (tasked .pending) (by decide +kernel) (by decide +kernel)⟩,
   ⟨task0 .pending, meets (pf [(2, 3), (2, 0)]) (tasked .pending) (by decide +kernel) (by decide +kernel)⟩,
   meets (pf [(2, 5), (2, 0)]) (tasked .pending) (by decide +kernel) (by decide +kernel),
   ⟨yard, by decide +kernel⟩,
   ⟨behind 0x882 10 yard, by decide +kernel⟩,
   ⟨3, (task0 .offered), (tasked .offered), by decide +kernel⟩,
   ⟨3, (task0 .pending), (tasked .pending), by decide +kernel⟩,
   ⟨3, (task0 .arrived), { tasked .arrived with ctl.dyke := { (tasked .arrived).ctl.dyke with
       allots := [(0x101, { allot0 with task := some 3, ended := true, plan := { allot0.plan with v := 0, phases := [] } })] } }, by decide +kernel⟩,
   ⟨3, (task0 .arrived), (tasked .arrived), by decide +kernel⟩⟩

/-- The hypotheses of ProfileOpcodesAndFrames are met. -/
theorem witness_ProfileOpcodesAndFrames :
  Meets 0x0A01 (fun _ _ => True) ∧
  Meets 0x0A02 (fun c b => b.conn (fld c.packet.params 0 2) = none ∧ fld c.packet.params 2 1 ≠ 0) ∧
  Meets 0x0A03 (fun c b => b.retargetRange c.packet.params = none ∧ b.conn (fld c.packet.params 0 2) = none) ∧
  (∃ cls : DykeClass, Meets 0x0A03 (fun c b => b.retargetRange c.packet.params = none ∧ (b.conn (fld c.packet.params 0 2)).isSome = true ∧
      b.dykeClass (fld c.packet.params 0 2) = some cls ∧ tget b.vol.sluice.status (fld c.packet.params 0 2) = none)) ∧
  (∃ (cls : DykeClass) (al : Allotment) (k : Kin) (l : List Phase) (rev : Bool) (q : PathReq) (m : MemberStatus) (u : State), Meets 0x0A03 (fun c b =>
        let n := fld c.packet.params 0 2
        b.retargetRange c.packet.params = none ∧ (b.conn n).isSome = true ∧ b.dykeClass n = some cls ∧
          tget b.vol.sluice.status n = some m ∧ m.state = 1 ∧ b.allot n = some al ∧ b.offered n = none ∧
          b.planned n (atbOfAsn (5 * (b.tick + 1))) = some (k, l, rev) ∧ fld c.packet.params 16 1 = 0 ∧
          b.aheadReq cls al c.packet.params k rev = some q ∧
          submit n q (some c) (some (leBytes 2 0xFFFF ++ leBytes 4 0xFFFFFFFF)) b = .done u)) ∧
  (∃ (cls : DykeClass) (al : Allotment) (k : Kin) (l : List Phase) (rev : Bool) (m : MemberStatus) (st d : Nat), Meets 0x0A03 (fun c b =>
        let n := fld c.packet.params 0 2
        b.retargetRange c.packet.params = none ∧ (b.conn n).isSome = true ∧ b.dykeClass n = some cls ∧
          tget b.vol.sluice.status n = some m ∧ m.state = 1 ∧ b.allot n = some al ∧ b.offered n = none ∧
          b.planned n (atbOfAsn (5 * (b.tick + 1))) = some (k, l, rev) ∧ fld c.packet.params 16 1 ≠ 0 ∧
          b.turnBack n cls al c.packet.params k rev = .refuse st d)) ∧
  (∃ (f : List Byte) (k : Conn), Meets 0x0A04 (fun c b => tget b.vol.dyke.frames (fld c.packet.params 0 2) = some f ∧ b.conn (fld c.packet.params 0 2) = some k)) ∧
  Meets 0x0A04 (fun c b => tget b.vol.dyke.frames (fld c.packet.params 0 2) = none) ∧
  (∃ (n : Nat) (c : Conn) (x : Timer) (s : State),
    s.conn n = some c ∧
    (s.vol.sched.timers.find? fun t => t.flow == c.flow && t.item.kind == 3) = some x) ∧
  (∃ (n : Nat) (c : Conn) (s : State),
    s.conn n = some c ∧
    (s.vol.sched.timers.find? fun t => t.flow == c.flow && t.item.kind == 3) = none) ∧
  (∃ (n f k : Nat) (i : WorkItem) (s : State),
    ((s.flow f).items.find? fun i => i.kind == 3 && i.timer && i.core.isNone && !i.acted) = some i ∧
    s.takesItem i = some k) ∧
  (∃ (n : Nat) (c : Conn) (s : State),
    s.conn n = some c ∧
    s.frameEvent n c = s.nextEvent c) ∧
  (∃ (n : Nat) (s : State),
    (s.profile n).resuming = true ∧
    s.servesNow 5 (s.flowOf n) = true) ∧
  (∃ (n : Nat) (s : State),
    (s.profile n).resuming = true ∧
    s.servesNow 5 (s.flowOf n) = false) ∧
  (∃ (txn : Nat) (r : BorderRun) (e : Nat × Nat × Bool) (s : State),
    (s.vol.dyke.border.find? fun b => b.txn == txn) = some r ∧
    ((r.reserves.find? fun e => !e.2.2).or (r.commits.find? fun e => !e.2.2)) = some e) ∧
  (∃ (txn : Nat) (r : BorderRun) (e : Nat × Nat × Bool) (s : State) (b : _),
    (s.vol.dyke.border.find? fun b => b.txn == txn) = some r ∧
    ((r.reserves.find? fun e => !e.2.2).or (r.commits.find? fun e => !e.2.2)) = some e ∧
    b ∈ (refuseBorder r erTimeout e.2.1 0xFFFF [] s).vol.dyke.border) :=
  ⟨meets (pf [(2, 500), (2, 20), (1, 20), (3, 0)]) (demo) (by decide +kernel) (by decide +kernel),
   meets (pf [(2, 0x102), (1, 20), (1, 0)]) (yard) (by decide +kernel) (by decide +kernel),
   meets (retargetPk 0x102 815 1000 []) (yard) (by decide +kernel) (by decide +kernel),
   ⟨class3, meets (retargetPk 0x101 815 1000 []) (yard) (by decide +kernel) (by decide +kernel)⟩,
   ⟨class3, allot0, kin0, [⟨20000000, 0, false, true, false⟩], false, ahead0, ⟨1, 0, 0, 0, 0, 0⟩, (doneOf submit0).getD yard, meets (retargetPk 0x101 815 40000 []) (permitted) (by decide +kernel) (⟨by decide +kernel, by decide +kernel, by decide +kernel, by decide +kernel, rfl, by decide +kernel, by decide +kernel, by decide +kernel, by decide +kernel, by decide +kernel, eq_done _ (by decide +kernel)⟩)⟩,
   ⟨class3, allot0, kin0, [⟨20000000, 0, false, true, false⟩], false, ⟨1, 0, 0, 0, 0, 0⟩, erRange, 20, meets (retargetPk 0x101 815 40000 [813]) (permitted) (by decide +kernel) (by decide +kernel)⟩,
   ⟨zeros 88, conn0, meets (pf [(2, 0x101), (2, 0)]) ({ yard with vol.dyke := { yard.vol.dyke with frames := [(0x101, zeros 88)] } }) (by decide +kernel) (by decide +kernel)⟩,
   meets (pf [(2, 0x101), (2, 0)]) (yard) (by decide +kernel) (by decide +kernel),
   ⟨0x101, conn0, { due := 5, flow := 0x100, item := ({ workItem 3 0 0 with flow := 0x100, core := none, start := none, timer := true, queue := none, cell := none }) }, ({ yard with vol.sched.timers := [{ due := 5, flow := 0x100, item := ({ workItem 3 0 0 with flow := 0x100, core := none, start := none, timer := true, queue := none, cell := none }) }] }), by decide +kernel⟩,
   ⟨0x101, conn0, yard, by decide +kernel⟩,
   ⟨0x101, 0x100, 0, ({ workItem 3 0 0 with flow := 0x100, core := none, start := none, timer := true, queue := none, cell := none }), ({ yard with vol.sched.flows := [(0x100, { Flow.empty with items := [({ workItem 3 0 0 with flow := 0x100, core := none, start := none, timer := true, queue := none, cell := none })] })] }), by decide +kernel⟩,
   ⟨0x101, conn0, yard, by decide +kernel⟩,
   ⟨0x101, ({ yard with ctl.dyke := { yard.ctl.dyke with profiles := [(0x101, { ProfileState.start with mode := 2, planNo := 4, resuming := true })] } }), by decide +kernel⟩,
   ⟨0x101, (behind 0x100 5 { yard with ctl.dyke := { yard.ctl.dyke with profiles := [(0x101, { ProfileState.start with mode := 2, planNo := 4, resuming := true })] } }), by decide +kernel⟩,
   ⟨7, border0, (7, 9, false), ({ yard with vol.dyke := { yard.vol.dyke with border := [border0] } }), by decide +kernel⟩,
   ⟨7, border0, (7, 9, false), ({ yard with vol.dyke := { yard.vol.dyke with border := [border0, { border0 with txn := 8 }] } }), { border0 with txn := 8 }, by decide +kernel⟩⟩

end Sys2Proof.Tests
end

