-- ==== Sys2Proof/Tests/WitnessFed.lean ====
section
/-! SUPPORT.
Witnesses: states and operands that meet the hypotheses of the statements.
-/

set_option Elab.async false
set_option linter.unusedVariables false

namespace Sys2Proof.Tests

open Sys2Proof.Machine

/-- A stop of scope all, from the host. -/
def fedStop : Stop :=
  { no := 5, category := 2, cause := 5, targets := [], copies := 4, queuedNs := 0, members := [⟨0x77, 0x101, .pending⟩]
    confirmOver := false, reported := (0, 0, 0), spans := [], sentOn := [], site := none }

/-- The entry of a peer. -/
def peerSet0 : PeerSettings :=
  { flags := 0, ports := 1, ip := List.replicate 16 0, udpPort := 5000, pubA := (2 : Byte) :: List.replicate 48 0,
    pubB := (2 : Byte) :: List.replicate 48 0 }

/-- A live peer of edition 2. -/
def peerRun0 : PeerRun := { PeerRun.start with state := .live, edition := 2, aligned := true, coordinator := 3, seqHigh := 10 }

/-- The yard with peer 9 in a state; peer 3 is listed and absent. The owner of segment 814 is peer 9. -/
def fedOf (r : PeerRun) : State :=
  { yard with
    ctl.cfg.fed := { yard.cfg.fed with peers := [(3, peerSet0), (9, peerSet0)] }
    vol.fed := { yard.vol.fed with peers := [(3, PeerRun.start), (9, r)] } }

/-- The yard with the live peer 9. -/
def fed0 : State := fedOf peerRun0

/-- The head of a new message of peer 9, with transaction 77. -/
def head0 : FedHead := ⟨9, 11, 77, 0, true⟩

/-- The yard once a message with that head is accepted. -/
def took (s : State) : State := (fedTaken head0 s).getD s

theorem took_eq {h : FedHead} {s : State} (e : (fedTaken h s).isSome = true) : fedTaken h s = some ((fedTaken h s).getD s) := by
  cases f : fedTaken h s with
  | none => rw [f] at e; cases e
  | some u => rfl

theorem accept_eq {h : FedHead} {s : State} (e : (fedAccept h s).isSome = true) :
    fedAccept h s = some ((fedAccept h s).getD s) := by
  cases f : fedAccept h s with
  | none => rw [f] at e; cases e
  | some u => rfl

theorem news_took {h : FedHead} {s : State} (e : (fedTaken h s).isSome = true)
    (n : ((((fedTaken h s).getD s).peer h.src).getD PeerRun.start).responses.find? (fun x => x.txn == h.txn) = none) :
    FedNews h s ((fedTaken h s).getD s) := ⟨took_eq e, n⟩

/-- A request and a response of the peering with peer 9. -/
def req0 : FedRequest := ⟨77, 6, [1, 2], 5⟩

def fedAsked : State := fedOf { peerRun0 with requests := [req0] }

def fedKept : State := fedOf { peerRun0 with responses := [⟨77, 7, [1]⟩] }

def fedShaking (k : Nat) (s : State) : State :=
  { s with vol.fed := { s.vol.fed with peers := tput s.vol.fed.peers k { PeerRun.start with state := .handshaking, edition := 2 } } }

/-- A packet of peer session 2. -/
def sitePk : Packet := { pk with via := .ring0, session := 2 }

/-- Peer 9 is bound to session 2. -/
def fedBound : State := { fed0 with ctl.cfg.fed := { fed0.cfg.fed with peers := [(9, { peerSet0 with flags := 2 })] } }

/-- A RESERVE body for node 0x300 on one segment, from 10 ticks on. -/
def reserveBody (seg : Nat) : List Byte :=
  beBytes 2 0x300 ++ zeros 10 ++ [0, 1] ++ beBytes 1 0 ++ beBytes 2 seg ++ beBytes 1 1 ++ beBytes 2 ((tick1 + 1300) % 65536) ++
    beBytes 2 ((tick1 + 1350) % 65536)

/-- What fed0 reads of it. -/
def wanted (seg : Nat) (s : State) : List (Nat × Nat × Window) := (s.readReserve (reserveBody seg)).2.2

/-- The other member's window on 905 crosses 813. -/
def fedCrossed : State :=
  { fed0 with ctl.dyke := { fed0.ctl.dyke with windows := [(812, [win0 0x101 0 660]), (905, [win0 0x217 1250 1400])] } }

/-- Tentative windows of peer 9. -/
def tent0 : Tentative := ⟨9, 5, [(814, { win0 0x300 100 200 with node := 0x300 })]⟩

def fedTentative : State := { fed0 with vol.fed := { fed0.vol.fed with tentative := [tent0] } }

/-- A reservation of the member that waits on peer 9. -/
def fedBorder0 : BorderRun :=
  { (default : BorderRun) with cmd := some (fetchedCmd 0x0905 (reservePk 0x101 [812] 0 30000) fed0), node := 0x101, reserves := [(77, 9, false)] }

def fedBorder : State := { fedAsked with vol.dyke := { fedAsked.vol.dyke with border := [fedBorder0] } }

/-- A handover of the member to peer 9. -/
def src0 (g : HandoverStage) : SourceHandover :=
  { node := 0x101, target := 9, txn := 77, cmd := some (fetchedCmd 0x0E04 (pf [(2, 0x101), (1, 9), (1, 0), (1, 1), (3, 0)]) fed0), stage := g
    instant := member.asn + 1000 }

def fedSource (g : HandoverStage) : State := { fed0 with ctl.handovers := { fed0.ctl.handovers with sources := [src0 g] } }

/-- An offer of a member that is new here. -/
def offer0 : MemberOffer :=
  { node := 0x301, lane := 0, squad := 2, conn := { conn0 with memberId := 0x88 }, cls := some 3, status := none, allot := none
    copies := [] }

def fedProvisioned : State :=
  { fed0 with ctl.cfg.mac := { fed0.cfg.mac with provisions := [(0x88, { maxEdition := 3, addr := 0, squad := 1, lanes := 0x11, maxLatency := 100, flags := 3, pubkey := (2 : Byte) :: List.replicate 48 0 })] } }

/-- What the target stages for it. -/
def staged0 : Conn × Nat :=
  match (took fedProvisioned).offerCheck head0 offer0 with
  | .ok r => r
  | .error _ => (conn0, 0)

def target0 (k : Bool) : TargetHandover :=
  { peer := 9, txn := 77, offer := offer0, conn := staged0.1, instant := staged0.2, commit := k }

def fedTarget (k : Bool) : State :=
  { fedProvisioned with ctl.handovers := { fed0.ctl.handovers with targets := [target0 k] } }

def fedStops : State := { fed0 with ctl.sluice := { fed0.ctl.sluice with stops :=
  [{ fedStop with no := 4, cause := 7, site := some ⟨20, 6, false⟩ }] } }

/-- FED.PEER: an operation on the entry of a peer. -/
def peerPk (op k : Byte) : Packet :=
  pkt ([op, k, 0, 1] ++ zeros 16 ++ leBytes 2 5000 ++ zeros 2 ++ ((2 : Byte) :: zeros 48) ++ ((2 : Byte) :: zeros 48) ++ zeros 2)

/-- The hypotheses of FedOpcodes are met. -/
theorem witness_FedOpcodes :
  Meets 0x0E01 (fun c b => b.cfg.fed.controller = some (fld c.packet.params 0 1) ∧ b.cfg.fed.district = fld c.packet.params 1 1 ∧
      b.cfg.fed.site = fld c.packet.params 4 4) ∧
  Meets 0x0E01 (fun c b => b.cfg.fed.controller ≠ some (fld c.packet.params 0 1) ∧ b.ctl.conns = [] ∧ b.livePeers = []) ∧
  Meets 0x0E01 (fun c b => b.cfg.fed.controller ≠ some (fld c.packet.params 0 1) ∧ b.ctl.conns.length + b.livePeers.length ≠ 0) ∧
  Meets 0x0E02 (fun c _ => fld c.packet.params 1 1 = 1) ∧
  Meets 0x0E03 (fun c b => b.cfg.fed.controller = some (fld c.packet.params 1 1)) ∧
  Meets 0x0E03 (fun c b => b.cfg.fed.controller ≠ some (fld c.packet.params 1 1) ∧ fld c.packet.params 0 1 = 0 ∧
      b.peer (fld c.packet.params 1 1) = none) ∧
  Meets 0x0E03 (fun c b => b.cfg.fed.controller ≠ some (fld c.packet.params 1 1) ∧ fld c.packet.params 0 1 = 1 ∧
      tget b.cfg.fed.peers (fld c.packet.params 1 1) = none ∧ b.cfg.fed.peers.length < 127 ∧
      b.boundOther (fld c.packet.params 1 1) (fld c.packet.params 2 1) = none) ∧
  Meets 0x0E03 (fun c b => b.cfg.fed.controller ≠ some (fld c.packet.params 1 1) ∧ fld c.packet.params 0 1 = 1 ∧
      tget b.cfg.fed.peers (fld c.packet.params 1 1) = none ∧ 127 ≤ b.cfg.fed.peers.length) ∧
  Meets 0x0E04 (fun c b => b.conn (fld c.packet.params 0 2) = none) ∧
  (∃ k : Conn, Meets 0x0E04 (fun c b => b.conn (fld c.packet.params 0 2) = some k ∧ b.covered (fld c.packet.params 0 2) = true)) ∧
  (∃ k : Conn, Meets 0x0E04 (fun c b => b.conn (fld c.packet.params 0 2) = some k ∧ b.covered (fld c.packet.params 0 2) = false ∧
      b.alignedWith (fld c.packet.params 2 1) = true ∧ b.taskOf (fld c.packet.params 0 2) = none ∧
      b.livePeers.contains (fld c.packet.params 2 1) = true)) ∧
  Meets 0x0E05 (fun c b => siteStopRange c.packet.params = none ∧ fld c.packet.params 0 1 = 0 ∧
      b.suppressor 7 (fld c.packet.params 1 1) = none) ∧
  Meets 0x0E05 (fun c b => siteStopRange c.packet.params = none ∧ fld c.packet.params 0 1 = 1 ∧
      b.mayReleaseFor (fld c.packet.params 2 1) = false) ∧
  Meets 0x0E06 (fun _ _ => True) :=
  ⟨meets (pf [(1, 5), (1, 0), (1, 3), (1, 0), (4, 0)]) (fed0) (by decide +kernel) (by decide +kernel),
   meets (pf [(1, 6), (1, 1), (1, 3), (1, 0), (4, 7)]) (demo) (by decide +kernel) (by decide +kernel),
   meets (pf [(1, 6), (1, 1), (1, 3), (1, 0), (4, 7)]) (fed0) (by decide +kernel) (by decide +kernel),
   meets (pkt ([0, 1, 0, 24] ++ [10, 0, 0, 1] ++ [10, 0, 0, 2] ++ [64, 0] ++ leBytes 2 5000 ++ zeros 32)) (fed0) (by decide +kernel) (by decide +kernel),
   meets (peerPk 1 5) (fed0) (by decide +kernel) (by decide +kernel),
   meets (peerPk 0 3) ({ fed0 with vol.fed := { fed0.vol.fed with peers := [(9, peerRun0)] } }) (by decide +kernel) (by decide +kernel),
   meets (peerPk 1 20) (fed0) (by decide +kernel) (by decide +kernel),
   meets (peerPk 1 127) ({ fed0 with ctl.cfg.fed := { fed0.cfg.fed with peers := (List.range 127).map fun k => (k, peerSet0) } }) (by decide +kernel) (by decide +kernel),
   meets (pf [(2, 0x105), (1, 9), (1, 0), (1, 1), (3, 0)]) (fed0) (by decide +kernel) (by decide +kernel),
   ⟨conn0, meets (pf [(2, 0x101), (1, 9), (1, 0), (1, 1), (3, 0)]) ({ fed0 with ctl.sluice := { fed0.ctl.sluice with stops := [fedStop] } }) (by decide +kernel) (by decide +kernel)⟩,
   ⟨conn0, meets (pf [(2, 0x101), (1, 9), (1, 0), (1, 1), (3, 0)]) (fed0) (by decide +kernel) (by decide +kernel)⟩,
   meets (pf [(1, 0), (1, 2), (1, 0), (1, 0), (2, 0), (2, 0)]) (fed0) (by decide +kernel) (by decide +kernel),
   meets (pf [(1, 1), (1, 0), (1, 9), (1, 0), (2, 4), (2, 0)]) (fed0) (by decide +kernel) (by decide +kernel),
   meets (pkt []) (fed0) (by decide +kernel) (by decide +kernel)⟩

/-- The hypotheses of PeeringMessages are met. -/
theorem witness_PeeringMessages :
  (∃ (h : FedHead) (d : List Byte) (s : State),
    fedAccept h s = none) ∧
  (∃ (h : FedHead) (d : List Byte) (s u : State),
    fedAccept h s = some u ∧
    u.servesNow 8 (0x900 + h.src) = false) ∧
  (∃ (h : FedHead) (d : List Byte) (s u : State),
    fedTaken h s = some u) ∧
  (∃ (k : Nat) (b : List Byte) (me : Nat) (x : PeerSettings) (s : State),
    s.cfg.fed.controller = some me ∧
    tget s.cfg.fed.peers k = some x ∧
    k < me ∧
    b.length = 66 ∧
    fedEdition (fld b 65 1) ≠ 0 ∧
    s.servesNow 8 (0x900 + k) = true) ∧
  (∃ (k : Nat) (b : List Byte) (r : PeerRun) (s : State),
    s.peer k = some r ∧
    r.state = .handshaking ∧
    s.ctlId ≤ k ∧
    fld b 65 1 ≠ 0 ∧
    s.servesNow 8 (0x900 + k) = true) ∧
  (∃ (k : Nat) (b : List Byte) (r : PeerRun) (s : State),
    s.peer k = some r ∧
    r.state = .handshaking ∧
    k ≤ s.ctlId ∧
    s.servesNow 8 (0x900 + k) = true) ∧
  (∃ (k : Nat) (r : PeerRun) (s : State),
    s.peer k = some r ∧
    r.state ≠ .live) ∧
  (∃ (k : Nat) (r : PeerRun) (s : State),
    s.peer k = some r ∧
    r.state = .live) ∧
  (∃ (me : Nat) (s : State),
    s.cfg.fed.controller = some me) ∧
  (∃ (h : FedHead) (v : List Byte) (co : Nat) (g : List Byte) (n : Nat) (s u : State),
    fedTaken h s = some u) ∧
  (∃ (k x : Nat) (r : PeerRun) (q : FedRequest) (s : State),
    s.peer k = some r ∧
    (r.requests.find? fun q => q.txn == x) = some q) ∧
  (∃ (e : Nat × PeerRun) (s : State),
    s.vol.fed.disagree = false ∧
    (s.vol.fed.peers.find? fun e => e.2.state == .live && e.2.district == s.cfg.fed.district &&
      e.2.coordinator != s.coordinator) = some e) ∧
  (∃ (k : Nat) (r : PeerRun) (s : State),
    s.peer k = some r ∧
    r.state = .live ∧
    r.digestDiff = true ∧
    r.mismatch = false) ∧
  (∃ (h : FedHead) (op n : Nat) (p : Packet) (r : PeerRun) (s u : State),
    s.peer h.src = some r ∧
    r.edition = 2 ∧
    (n = 2 ∨ n = 3) ∧
    p.session = n ∧
    s.boundPeer n = some h.src ∧
    s.canFetch (siteVia n) = true ∧
    fedTaken h s = some u) :=
  ⟨⟨({ head0 with seq := 10 }), ([1]), fed0, by decide +kernel⟩,
   ⟨head0, ([1]), behind 0x909 8 fed0, _, accept_eq (by decide +kernel), by decide +kernel⟩,
   ⟨head0, ([1]), fed0, (took fed0), took_eq (by decide +kernel)⟩,
   ⟨3, (List.replicate 65 1 ++ [3]), 5, peerSet0, fed0, by decide +kernel⟩,
   ⟨9, (List.replicate 65 1 ++ [2]), ({ PeerRun.start with state := .handshaking, edition := 2 }), (fedShaking 9 fed0), by decide +kernel⟩,
   ⟨3, ([1]), ({ PeerRun.start with state := .handshaking, edition := 2 }), (fedShaking 3 fed0), by decide +kernel⟩,
   ⟨3, PeerRun.start, fed0, by decide +kernel⟩,
   ⟨9, peerRun0, fed0, by decide +kernel⟩,
   ⟨5, fed0, by decide +kernel⟩,
   ⟨head0, ([1]), 3, ([2]), 4, fed0, (took fed0), took_eq (by decide +kernel)⟩,
   ⟨9, 77, ({ peerRun0 with requests := [req0] }), req0, fedAsked, by decide +kernel⟩,
   ⟨((9, peerRun0)), fed0, by decide +kernel⟩,
   ⟨9, ({ peerRun0 with digestDiff := true }), (fedOf { peerRun0 with digestDiff := true }), by decide +kernel⟩,
   ⟨head0, 0x0402, 2, sitePk, peerRun0, fedBound, (took fedBound), ⟨by decide +kernel, rfl, .inl rfl, rfl, by decide +kernel, by decide +kernel, took_eq (by decide +kernel)⟩⟩⟩

/-- The hypotheses of BorderMessages are met. -/
theorem witness_BorderMessages :
  (∃ (h : FedHead) (b : List Byte) (n : Nat) (want : List (Nat × Nat × Window)) (s u : State),
    FedNews h s u ∧
    u.readReserve b = (n, false, want) ∧
    u.atbAligned = true ∧
    h.aligned = true ∧
    u.inMismatch = false ∧
    (∀ e ∈ want, (u.segment e.2.1).map Segment.owner = some u.ctlId) ∧
    u.clash n want = none) ∧
  (∃ (h : FedHead) (b : List Byte) (n k g : Nat) (v : Window) (want : List (Nat × Nat × Window)) (s u : State),
    FedNews h s u ∧
    u.readReserve b = (n, false, want) ∧
    u.atbAligned = true ∧
    h.aligned = true ∧
    u.inMismatch = false ∧
    (∀ e ∈ want, (u.segment e.2.1).map Segment.owner = some u.ctlId) ∧
    u.clash n want = some (.conflict k g v)) ∧
  (∃ (h : FedHead) (b : List Byte) (s u : State),
    FedNews h s u ∧
    (u.atbAligned && h.aligned) = false) ∧
  (∃ (h : FedHead) (b : List Byte) (r : FedResponse) (s u : State),
    fedTaken h s = some u ∧
    ((u.peer h.src).getD PeerRun.start).responses.find? (fun x => x.txn == h.txn) = some r) ∧
  (∃ (h : FedHead) (b : List Byte) (x : Tentative) (e : Nat × Window) (l : List (Nat × Window)) (s u : State),
    FedNews h s u ∧
    beNat (slice b 0 1) = 1 ∧
    (u.vol.fed.tentative.find? fun t => t.peer == h.src && t.txn == beNat (slice b 1 4)) = some x ∧
    x.windows = e :: l) ∧
  (∃ (h : FedHead) (b : List Byte) (s u : State),
    FedNews h s u ∧
    beNat (slice b 0 1) = 1 ∧
    (u.vol.fed.tentative.find? fun t => t.peer == h.src && t.txn == beNat (slice b 1 4)) = none) ∧
  (∃ (h : FedHead) (b : List Byte) (s u : State),
    FedNews h s u) ∧
  (∃ (h : FedHead) (b : List Byte) (s u : State),
    fedTaken h s = some u ∧
    beNat (slice b 0 1) = 0) ∧
  (∃ (h : FedHead) (b : List Byte) (r : BorderRun) (s u : State),
    fedTaken h s = some u ∧
    3 ≤ beNat (slice b 0 1) ∧
    (endRequest h u).borderOf h.txn = some r) ∧
  (∃ (h : FedHead) (s u : State),
    fedTaken h s = some u) :=
  ⟨⟨head0, (reserveBody 813), 0x300, (wanted 813 (took fed0)), fed0, (took fed0), ⟨news_took (by decide +kernel) (by decide +kernel), by decide +kernel⟩⟩,
   ⟨head0, (reserveBody 813), 0x300, 0, 905, (win0 0x217 1250 1400), (wanted 813 (took fedCrossed)), fedCrossed, (took fedCrossed), ⟨news_took (by decide +kernel) (by decide +kernel), by decide +kernel⟩⟩,
   ⟨({ head0 with aligned := false }), ([]), fed0, ((fedTaken { head0 with aligned := false } fed0).getD fed0), ⟨news_took (by decide +kernel) (by decide +kernel), by decide +kernel⟩⟩,
   ⟨head0, ([]), (⟨77, 7, [1]⟩), fedKept, (took fedKept), ⟨took_eq (by decide +kernel), by decide +kernel⟩⟩,
   ⟨head0, (beBytes 1 1 ++ beBytes 4 5), tent0, ((814, { win0 0x300 100 200 with node := 0x300 })), ([]), fedTentative, (took fedTentative), ⟨news_took (by decide +kernel) (by decide +kernel), by decide +kernel⟩⟩,
   ⟨head0, (beBytes 1 1 ++ beBytes 4 5), fed0, (took fed0), ⟨news_took (by decide +kernel) (by decide +kernel), by decide +kernel⟩⟩,
   ⟨head0, (beBytes 2 0x101 ++ [1] ++ beBytes 2 812), fed0, (took fed0), news_took (by decide +kernel) (by decide +kernel)⟩,
   ⟨head0, ([0]), fedBorder, (took fedBorder), ⟨took_eq (by decide +kernel), by decide +kernel⟩⟩,
   ⟨head0, ([4]), fedBorder0, fedBorder, (took fedBorder), ⟨took_eq (by decide +kernel), by decide +kernel⟩⟩,
   ⟨head0, fedAsked, (took fedAsked), took_eq (by decide +kernel)⟩⟩

/-- The hypotheses of MemberHandovers are met. -/
theorem witness_MemberHandovers :
  (∃ (h : FedHead) (o : MemberOffer) (c : Conn) (i : Nat) (s u : State),
    FedNews h s u ∧
    u.offerCheck h o = .ok (c, i)) ∧
  (∃ (h : FedHead) (o : MemberOffer) (k : Nat) (s u : State),
    FedNews h s u ∧
    u.offerCheck h o = .error k) ∧
  (∃ (h : FedHead) (i m : Nat) (par : ConnParams) (x : SourceHandover) (c : Conn) (s u : State),
    fedTaken h s = some u ∧
    (u.ctl.handovers.sources.find? fun x => x.txn == h.txn && x.target == h.src && x.stage == .offered) = some x ∧
    u.conn x.node = some c) ∧
  (∃ (h : FedHead) (k i m : Nat) (par : ConnParams) (x : SourceHandover) (c : Conn) (s u : State),
    fedTaken h s = some u ∧
    k ≠ 0 ∧
    (u.ctl.handovers.sources.find? fun x => x.txn == h.txn && x.target == h.src && x.stage == .offered) = some x ∧
    u.conn x.node = some c) ∧
  (∃ (n : Nat) (x : TargetHandover) (s : State),
    (s.ctl.handovers.targets.find? fun t => t.offer.node == n) = some x ∧
    x.commit = true ∧
    (passToAtb (atbOfAsn x.instant) s).servesNow 6 x.conn.flow = true ∧
    (∀ e ∈ s.ctl.conns, e.2.memberId ≠ x.conn.memberId)) ∧
  (∃ (n : Nat) (x : TargetHandover) (s : State),
    (s.ctl.handovers.targets.find? fun t => t.offer.node == n) = some x ∧
    x.commit = false) ∧
  (∃ (h : FedHead) (n : Nat) (x : SourceHandover) (s u : State),
    FedNews h s u ∧
    u.source n = some x ∧
    x.stage ≠ .offered ∧
    x.target = h.src ∧
    (u.conn n).isSome = true ∧
    u.servesNow 6 (u.flowOf n) = true) ∧
  (∃ (h : FedHead) (n : Nat) (x : SourceHandover) (s u : State),
    FedNews h s u ∧
    u.source n = some x ∧
    x.stage ≠ .offered ∧
    x.target = h.src) ∧
  (∃ (n : Nat) (x : SourceHandover) (s : State),
    s.source n = some x ∧
    x.stage = .offered) ∧
  (∃ (n : Nat) (x : SourceHandover) (s : State),
    s.source n = some x ∧
    x.stage = .committed) :=
  ⟨⟨head0, offer0, staged0.1, staged0.2, fedProvisioned, (took fedProvisioned), ⟨news_took (by decide +kernel) (by decide +kernel), by decide +kernel⟩⟩,
   ⟨head0, offer0, 1, fed0, (took fed0), ⟨news_took (by decide +kernel) (by decide +kernel), by decide +kernel⟩⟩,
   ⟨head0, (member.asn + 1000), 1, par0, (src0 .offered), conn0, (fedSource .offered), (took (fedSource .offered)), ⟨took_eq (by decide +kernel), by decide +kernel⟩⟩,
   ⟨head0, 6, 0, 0, par0, (src0 .offered), conn0, (fedSource .offered), (took (fedSource .offered)), ⟨took_eq (by decide +kernel), by decide +kernel⟩⟩,
   ⟨0x301, (target0 true), (fedTarget true), by decide +kernel⟩,
   ⟨0x301, (target0 false), (fedTarget false), by decide +kernel⟩,
   ⟨head0, 0x101, (src0 .committed), (fedSource .committed), (took (fedSource .committed)), ⟨news_took (by decide +kernel) (by decide +kernel), by decide +kernel⟩⟩,
   ⟨head0, 0x101, (src0 .committed), (fedSource .committed), (took (fedSource .committed)), ⟨news_took (by decide +kernel) (by decide +kernel), by decide +kernel⟩⟩,
   ⟨0x101, (src0 .offered), (fedSource .offered), by decide +kernel⟩,
   ⟨0x101, (src0 .committed), (fedSource .committed), by decide +kernel⟩⟩

/-- The hypotheses of SiteStops are met. -/
theorem witness_SiteStops :
  (∃ (h : FedHead) (o n k : Nat) (s u : State),
    FedNews h s u ∧
    o ≠ u.ctlId ∧
    seenPair u.vol.fed.siteStops u.mtb o n = false ∧
    u.suppressor 7 k = none) ∧
  (∃ (h : FedHead) (o n k : Nat) (s u : State),
    FedNews h s u ∧
    (o = u.ctlId ∨ seenPair u.vol.fed.siteStops u.mtb o n = true)) ∧
  (∃ (h : FedHead) (o n : Nat) (s u : State),
    FedNews h s u ∧
    o ≠ u.ctlId ∧
    seenPair u.vol.fed.siteRels u.mtb o n = false) ∧
  (∃ (h : FedHead) (o n : Nat) (s u : State),
    FedNews h s u ∧
    (o = u.ctlId ∨ seenPair u.vol.fed.siteRels u.mtb o n = true)) :=
  ⟨⟨head0, 20, 6, 2, fed0, (took fed0), ⟨news_took (by decide +kernel) (by decide +kernel), by decide +kernel⟩⟩,
   ⟨head0, 5, 6, 2, fed0, (took fed0), ⟨news_took (by decide +kernel) (by decide +kernel), by decide +kernel⟩⟩,
   ⟨head0, 20, 6, fedStops, (took fedStops), ⟨news_took (by decide +kernel) (by decide +kernel), by decide +kernel⟩⟩,
   ⟨head0, 5, 6, fedStops, (took fedStops), ⟨news_took (by decide +kernel) (by decide +kernel), by decide +kernel⟩⟩⟩

end Sys2Proof.Tests
end

