-- ==== Sys2Proof/Tests/WitnessGeneral.lean ====
section
/-! SUPPORT.
Witnesses of the statements about every opcode and about whole runs: concrete states and operands that meet the hypotheses of each
clause.
-/

set_option Elab.async false

namespace Sys2Proof.Tests

open Sys2Proof.Machine

/-- A packet that breaks its length. -/
def longPk : Packet := pkt [1]

/-- A packet on the maintenance port. -/
def mntClosedPk : Packet := { pk with via := .mnt, session := 1 }

/-- The demonstration with every session closed. -/
def closed0 : State := { demo with hsw.sessions := List.replicate 4 (Session.closed .ring0) }

/-- The demonstration with the maintenance port's buffer in use and packets that wait. -/
def closedWaiting : State :=
  { closed0 with hsw.mnt := { closed0.hsw.mnt with waiting := [(cmdEntry (fetchedCmd 0x1202 pk demo) 0 0 false []).entry] } }

/-- A command of session 0 in flight with tag 1. -/
def flight0 : InFlight := { cmd := { fetchedCmd 0x0A02 pk demo with fetchSeq := 1 }, phase := .started, reply := [], kept := none }

/-- The demonstration with that command in flight. -/
def busy0 : State :=
  { demo with hsw.sessions := demo.hsw.sessions.set 0 { sess0 .ring0 with inFlight := [flight0] } }

/-- A slot of ring set 0 is filled. -/
def filled0 : State := { demo with hsw.ring0 := { demo.hsw.ring0 with sqTail := 1 } }

/-- A RECORD.READ of 3 records from the oldest. -/
def readPk : Packet := pf [(4, 0), (1, 3), (3, 0)]

/-- The hypotheses of OpcodeRowsRunOrRefuse are met: a packet that runs, one that fails a check, and one that cannot be fetched. -/
theorem witness_OpcodeRowsRunOrRefuse :
    (opcodeOf (.recordStatus pk) = some (0x1202, pk) ∧ Ready 0x1202 pk demo) ∧
    (opcodeOf (.recordStatus longPk) = some (0x1202, longPk) ∧ demo.canFetch longPk.via = true ∧ demo.openOn longPk.via = true ∧
      (demo.sess (viaSession longPk.via)).lastSeq + 1 < 0xFFFFFFFF ∧ (checkPacket 0x1202 longPk demo).isSome = true) ∧
    (opcodeOf (.recordStatus pk) = some (0x1202, pk) ∧ { demo with hsw.serving := false }.canFetch pk.via = false) :=
  ⟨⟨rfl, (ready_iff _ _ _).mpr (by decide +kernel)⟩, by decide +kernel, by decide +kernel⟩

/-- The hypotheses of ClosedSessionIsRefused are met on a ring set, and on the maintenance port with and without packets that wait. -/
theorem witness_ClosedSessionIsRefused :
    (opcodeOf (.recordStatus pk) = some (0x1202, pk) ∧ pk.via = .ring0 ∧ closed0.canFetch pk.via = true ∧ closed0.openOn pk.via = false) ∧
    (opcodeOf (.recordStatus mntClosedPk) = some (0x1202, mntClosedPk) ∧ mntClosedPk.via = .mnt ∧ closed0.canFetch mntClosedPk.via = true ∧
      closed0.openOn mntClosedPk.via = false ∧ closed0.hsw.mnt.waiting = []) ∧
    (closedWaiting.canFetch mntClosedPk.via = true ∧ closedWaiting.openOn mntClosedPk.via = false ∧ closedWaiting.hsw.mnt.waiting ≠ []) :=
  ⟨by decide +kernel, by decide +kernel, by decide +kernel⟩

/-- The hypotheses of BusyTagIsRefused are met: a tag in flight, a ring with a packet, and completions with and without FOLLOW. -/
theorem witness_BusyTagIsRefused :
    (opcodeOf (.recordStatus pk) = some (0x1202, pk) ∧ busy0.canFetch pk.via = true ∧ busy0.openOn pk.via = true ∧
      (busy0.sess (viaSession pk.via)).lastSeq + 1 < 0xFFFFFFFF ∧ headerError 0x1202 pk busy0 = none ∧
      namesStandby pk busy0 = false ∧ ∃ f ∈ (busy0.sess (viaSession pk.via)).inFlight, f.cmd.packet.tag = pk.tag) ∧
    (filled0.sqFilled pk.via = true ∧ filled0.canFetch pk.via = true ∧ filled0.openOn pk.via = true ∧
      (filled0.sess (viaSession pk.via)).lastSeq + 1 < 0xFFFFFFFF ∧ checkPacket 0x1202 pk filled0 = none) ∧
    (flight0.cmd.session < busy0.hsw.sessions.length ∧ (busy0.sess flight0.cmd.session).isOpen = true ∧
      (busy0.sess flight0.cmd.session).inst = flight0.cmd.inst ∧
      ¬ ((0 : Nat) = 1 ∧ wantsDurable flight0.cmd.packet = true ∧ busy0.sinkAccepts = true ∧ busy0.keptIn flight0.cmd = none) ∧
      flight0 ∈ (busy0.sess flight0.cmd.session).inFlight) ∧
    (let p : Packet := { pk with flags := 1 }
     wantsDurable p = true ∧ busy0.sinkAccepts = true ∧ busy0.keptIn flight0.cmd = none) :=
  ⟨by decide +kernel, by decide +kernel, by decide +kernel, by decide +kernel⟩

/-- The hypotheses of RecordReadReadsTheActiveSide are met: a read of the active side, and one that names the standby side. -/
theorem witness_RecordReadReadsTheActiveSide :
    (demo.hsw.active = some .a ∧ Ready 0x1201 readPk demo) ∧
    (let p : Packet := { readPk with target := 2 }
     demo.canFetch p.via = true ∧ demo.openOn p.via = true ∧ (demo.sess (viaSession p.via)).lastSeq + 1 < 0xFFFFFFFF ∧
       headerError 0x1201 p demo = none ∧ namesStandby p demo = true) :=
  ⟨⟨by decide +kernel, (ready_iff _ _ _).mpr (by decide +kernel)⟩, by decide +kernel⟩

/-- The hypotheses of ReadOpcodesChangeNothing are met. -/
theorem witness_ReadOpcodesChangeNothing :
    opcodeOf (.recordStatus pk) = some (0x1202, pk) ∧ 0x1202 ∈ readOpcodes ∧
      (demo.sess (viaSession pk.via)).lastSeq + 1 < 0xFFFFFFFF := by decide +kernel

/-! ### Runs -/

/-- The next state of an outcome. -/
def nextOf (o : Host.Outcome State Fault Refusal) (s : State) : State :=
  match o with
  | .next t => t
  | _ => s

/-- Whether an outcome is a next state. -/
def isNext (o : Host.Outcome State Fault Refusal) : Bool :=
  match o with
  | .next _ => true
  | _ => false

theorem next_of {o : Host.Outcome State Fault Refusal} {s : State} (h : isNext o = true) : o = .next (nextOf o s) := by
  cases o with
  | next t => rfl
  | fault f => cases h
  | refused r => cases h

/-- Side A loads its state, with the row that ends it in the queue. -/
def loading0 : State :=
  { demo with sideA.start := some { StartRun.module 0 with stage := .stateLoad }, pending := [.stateLoadDone true true true false] }

/-- The state after that row. -/
def loaded0 : State := nextOf (step loading0) loading0

/-- The hypotheses of EpochsNeverRepeat are met: a step, and a run in which the epoch becomes another. -/
theorem witness_EpochsNeverRepeat :
    loading0.hsw.epoch ≤ loading0.hsw.nv.epochMax ∧ step loading0 = .next loaded0 ∧ loading0.hsw.epoch ≠ 0 ∧
      Reaches loading0 loaded0 ∧ loaded0.hsw.epoch ≠ loading0.hsw.epoch ∧ Reaches loaded0 loaded0 :=
  have h : step loading0 = .next loaded0 := next_of (by decide +kernel)
  ⟨by decide +kernel, h, by decide +kernel, .step (.refl _) h, by decide +kernel, .refl _⟩

/-- The demonstration with a command in the queue. -/
def queued0 (i : Instr) : State := { demo with pending := [i] }

/-- The hypotheses of OneWayLatches are met by a run in which Side B, which had left the shipping state, becomes locked. -/
theorem witness_OneWayLatches :
    let s := queued0 (.tamperDetected .b 1 20 3000 false)
    let t := nextOf (step s) s
    Reaches s t ∧ (s.side .b).security.record.state ≠ .shipping ∧ (s.side .b).locked = false ∧
      (t.side .b).locked = true :=
  ⟨.step (.refl _) (next_of (by decide +kernel)), by decide +kernel, by decide +kernel, by decide +kernel⟩

end Sys2Proof.Tests
end

