-- ==== Sys2Proof/Tests/WitnessGnss.lean ====
section
/-! SUPPORT.
Witnesses: states and operands that meet the hypotheses of the statements.
-/

set_option Elab.async false
set_option linter.unusedVariables false

namespace Sys2Proof.Tests

open Sys2Proof.Machine

/-- Channel 3 in a given state. -/
def withChan (st : ChanState) : State := demoGnss fun g => { g with channels := [(3, chan0 st)] }

/-- Channel 3 in phase lock and in a mapping run. -/
def mapping : State := demoGnss fun g => { g with channels := [(3, chan0 .phaseLock)], map := some ⟨1, 60, [(3, (chan0 .phaseLock).set.sig, (chan0 .phaseLock).set.sv)]⟩ }

/-- Front end 0 with a monitor state. -/
def withMonitor (f : Monitor → Monitor) : State := demoGnss fun g => { g with monitors := g.monitors.modify 0 f }

/-- Channel 3 pinned to signal 1. -/
def pinned3 : State := { demo with ctl.cfg.gnss.pinned := [(3, GnssSettings.factory.autoSet 1 7 0)] }

/-- The parameters of GNSS.CHANNEL_SET for channel 4 on signal 1, satellite 9. -/
def pinPs : List (Nat × Int) :=
  [(2, 4), (1, 1), (1, 1), (1, 9), (1, 0), (1, 13), (1, 26), (1, 10), (1, 2), (1, 1), (1, 1), (1, 0), (1, 0), (2, 100), (2, 50),
   (2, 50), (4, 0)]

/-- The parameters of GNSS.CONFIG with a signal mask. -/
def gnssPs (mask : Int) : List (Nat × Int) :=
  [(1, 10), (1, 5), (1, 0), (1, 0), (4, mask), (2, 100), (2, 50), (2, 50), (1, 2), (1, 0)]

/-- The hypotheses of GnssOpcodes are met. -/
theorem witness_GnssOpcodes :
  Meets 0x0201 (fun c b => (b.cfg.gnss.pinned.find? fun e => !(fld c.packet.params 4 4).testBit e.2.sig) = none ∧
      b.topRate ≤ 10 * fld c.packet.params 0 1) ∧
  (∃ e : Nat × ChanSettings, Meets 0x0201 (fun c b => (b.cfg.gnss.pinned.find? fun e => !(fld c.packet.params 4 4).testBit e.2.sig) = some e ∧
      b.topRate ≤ 10 * fld c.packet.params 0 1)) ∧
  Meets 0x0202 (fun c b => fld c.packet.params 2 1 = 0 ∧ firstNonZero ((c.packet.params.drop 3).take 17) = none ∧
      b.mappingChan (fld c.packet.params 0 2) = false) ∧
  Meets 0x0202 (fun c b => fld c.packet.params 2 1 ≠ 0 ∧ chanRange (readChan c.packet.params) = none ∧
      b.mappingChan (fld c.packet.params 0 2) = false ∧
      (∀ e ∈ b.cfg.gnss.pinned, e.1 = fld c.packet.params 0 2 ∨ e.2.sig ≠ (readChan c.packet.params).sig ∨
        e.2.sv ≠ (readChan c.packet.params).sv) ∧
      b.cfg.gnss.signalMask.testBit (readChan c.packet.params).sig = true) ∧
  Meets 0x0203 (fun c b => b.chan (fld c.packet.params 0 2) = none) ∧
  (∃ x : Channel, Meets 0x0203 (fun c b => b.chan (fld c.packet.params 0 2) = some x)) ∧
  Meets 0x0204 (fun c _ => notchFits (fld c.packet.params 0 1)
      ⟨fld c.packet.params 2 1, sfld c.packet.params 4 4, fld c.packet.params 8 2, fld c.packet.params 10 2⟩ = true) ∧
  Meets 0x0205 (fun c b => (fld c.packet.params 1 1 = 0 →
        firstNonZeroField c.packet.params [(2, 2), (4, 1), (6, 2), (8, 2), (10, 2), (12, 2)] = none) ∧
      (fld c.packet.params 1 1 = 2 →
        ∀ k ∈ (if fld c.packet.params 0 1 = 0xFF then [0, 1, 2, 3] else [fld c.packet.params 0 1]), (b.monitor k).flag = false)) ∧
  Meets 0x0206 (fun c b => b.vol.gnss.fen = false ∧ fld c.packet.params 0 1 ≠ 0 ∧ b.vol.gnss.map = none ∧
      ∀ k, k < fld c.packet.params 2 1 → (b.chan (fld c.packet.params (8 + 2 * k) 2)).isSome = true) ∧
  Meets 0x0206 (fun c b => b.vol.gnss.fen = false ∧ fld c.packet.params 0 1 = 0 ∧ fld c.packet.params 2 1 = 0 ∧ b.vol.gnss.map ≠ none) ∧
  Meets 0x0207 (fun _ _ => True) :=
  ⟨meets (pf (gnssPs 0x1FFFFE)) (pinned3) (by decide +kernel) (by decide +kernel),
   ⟨(3, GnssSettings.factory.autoSet 1 7 0), meets (pf (gnssPs 0x1FFFFC)) (pinned3) (by decide +kernel) (by decide +kernel)⟩,
   meets (pf [(2, 3), (1, 0), (17, 0), (4, 0)]) (pinned3) (by decide +kernel) (by decide +kernel),
   meets (pf pinPs) (pinned3) (by decide +kernel) (by decide +kernel),
   meets (pf [(2, 3), (2, 0)]) (demo) (by decide +kernel) (by decide +kernel),
   ⟨chan0 .pullIn, meets (pf [(2, 3), (2, 0)]) (withChan .pullIn) (by decide +kernel) (by decide +kernel)⟩,
   meets (pf [(1, 1), (1, 2), (1, 2), (1, 0), (4, -3000), (2, 100), (2, 60)]) (demo) (by decide +kernel) (by decide +kernel),
   meets (pf [(1, 0xFF), (1, 1), (2, 100), (1, 2), (1, 0), (2, 60), (2, 900), (2, 50), (2, 1000), (2, 0)]) (demo) (by decide +kernel) (by decide +kernel),
   meets (pf [(1, 1), (1, 2), (1, 1), (1, 0), (2, 60), (2, 0), (2, 3)]) (withChan .phaseLock) (by decide +kernel) (by decide +kernel),
   meets (pf [(1, 0), (1, 1), (1, 0), (1, 0), (2, 60), (2, 0)]) (mapping) (by decide +kernel) (by decide +kernel),
   meets (pkt []) (mapping) (by decide +kernel) (by decide +kernel)⟩

/-- The hypotheses of GnssEvents are met. -/
theorem witness_GnssEvents :
  (∃ (k : Nat) (taps : List (Int × Int)) (sync : Bool) (pre : Nat) (x : Channel) (s : State),
    s.chan k = some x ∧
    x.tracks = true ∧
    s.hsw.warned = false) ∧
  (∃ (k : Nat) (code : Rat) (mhz : Int) (x : Channel) (s : State),
    (k, x) ∈ s.acqBatch ∧
    s.hsw.warned = false ∧
    (s.vol.gnss.fen = true → s.vol.gnss.burst = true) ∧
    s.withinSearch x.set code mhz = true) ∧
  (∃ (fe t : Nat) (s : State),
    fe < 4 ∧
    (s.monitor fe).flag = false ∧
    t ∈ (s.monitor fe).causeMs ∧
    (s.monSet fe).persist ≤ t) ∧
  (∃ (fe : Nat) (s : State),
    fe < 4 ∧
    (s.monitor fe).flag = true ∧
    5000 ≤ (s.monitor fe).clearMs) ∧
  (∃ (fe k level : Nat) (off : Int) (s : State),
    let n := (s.cfg.gnss.notches.getD fe []).getD k Notch.off
    n.mode = 2 ∧
    (off - n.offset).natAbs ≤ 2000 ∧
    n.thresh ≤ level ∧
    s.notchRested fe k = true) ∧
  (∃ (k az el sig sv : Nat) (mags : List Nat) (m : MapRun) (x : Channel) (s : State),
    mapLost s = s ∧
    s.vol.gnss.map = some m ∧
    m.channels = [(k, sig, sv)] ∧
    s.chan k = some x ∧
    x.state = .phaseLock) ∧
  (∃ (m : MapRun) (x : Channel) (k sig sv : Nat) (s : State),
    s.vol.gnss.map = some m ∧
    m.channels = [(k, sig, sv)] ∧
    s.chan k = some x ∧
    (x.set.sig ≠ sig ∨ x.set.sv ≠ sv)) ∧
  (∃ (m : MapRun) (s : State),
    s.vol.gnss.map = some m) ∧
  (∃ (t : Nat) (s : State),
    s.ctl.time.stb = some t ∧
    s.vol.gnss.fen = true ∧
    s.vol.gnss.burst = false) ∧
  (∃ c : Channel,
    c.state = .fenSleep) ∧
  (∃ (n ms : Nat) (ep : Rat) (c : Channel),
    c.resume = some n ∧
    50 < n + ms) ∧
  (∃ (n ms : Nat) (ep : Rat) (c : Channel),
    c.resume = some n ∧
    n + ms ≤ 50 ∧
    4 / 5 ≤ c.pli) ∧
  (∃ (ms : Nat) (ep : Rat) (c : Channel),
    c.resume = none ∧
    c.check = true ∧
    1 / 10 < |ep|) ∧
  (∃ (t : Nat) (s : State),
    s.ctl.time.stb = some t ∧
    s.vol.gnss.fen = true ∧
    s.vol.gnss.burst = true) ∧
  (∃ (ma : Nat) (s : State),
    s.actOn = true ∧
    s.vol.gnss.biasState ≠ 0 ∧
    s.vol.gnss.biasState ≠ 2) ∧
  (∃ (ma : Nat) (s : State),
    s.actOn = true ∧
    s.vol.gnss.biasState = 2) :=
  ⟨⟨3, ([(1000, 0), (900, 10), (950, -20), (700, 0), (650, 5)]), true, 0, (chan0 .pullIn), (withChan .pullIn), by decide +kernel⟩,
   ⟨3, 100, 1500, (chan0 .acquiring), (withChan .acquiring), by decide +kernel⟩,
   ⟨0, 1000, (withMonitor fun m => { m with causes := 2, causeMs := [0, 1000, 0] }), by decide +kernel⟩,
   ⟨0, (withMonitor fun m => { m with flag := true, clearMs := 5000 }), by decide +kernel⟩,
   ⟨0, 1, 100, 1500, ({ demo with ctl.cfg.gnss.notches := [[Notch.off, ⟨2, 0, 100, 60⟩]] }), by decide +kernel⟩,
   ⟨3, 900, 450, (chan0 .phaseLock).set.sig, (chan0 .phaseLock).set.sv, (List.replicate 32 7), ⟨1, 60, [(3, (chan0 .phaseLock).set.sig, (chan0 .phaseLock).set.sv)]⟩, (chan0 .phaseLock), mapping, ⟨rfl, by decide +kernel⟩⟩,
   ⟨⟨1, 60, [(3, 2, 9)]⟩, (chan0 .phaseLock), 3, 2, 9, (demoGnss fun g => { g with channels := [(3, chan0 .phaseLock)], map := some ⟨1, 60, [(3, 2, 9)]⟩ }), by decide +kernel⟩,
   ⟨(⟨1, 60, [(3, (chan0 .phaseLock).set.sig, (chan0 .phaseLock).set.sv)]⟩), mapping, by decide +kernel⟩,
   ⟨stb0, (demoGnss fun g => { g with fen := true, channels := [(3, chan0 .fenSleep), (4, chan0 .fenSleep)] }), by decide +kernel⟩,
   ⟨(chan0 .fenSleep), by decide +kernel⟩,
   ⟨50, 1, 0, ({ chan0 .phaseLock with resume := some 50 }), by decide +kernel⟩,
   ⟨49, 1, 0, ({ chan0 .phaseLock with resume := some 49, pli := 4 / 5 }), by decide +kernel⟩,
   ⟨1, -1, ({ chan0 .phaseLock with resume := none, check := true }), ⟨rfl, rfl, by norm_num⟩⟩,
   ⟨stb0, (demoGnss fun g => { g with fen := true, burst := true, channels := [(3, chan0 .phaseLock)] }), by decide +kernel⟩,
   ⟨20, (demoGnss fun g => { g with biasState := 1 }), by decide +kernel⟩,
   ⟨20, (demoGnss fun g => { g with biasState := 2 }), by decide +kernel⟩⟩

end Sys2Proof.Tests
end

