-- ==== Sys2Proof/Tests/WitnessHost.lean ====
section
/-! SUPPORT.
Witnesses: states and operands that meet the hypotheses of the statements.
-/

set_option Elab.async false
set_option linter.unusedVariables false

namespace Sys2Proof.Tests

open Sys2Proof.Machine

/-- A ring with one slot filled, and a command in flight that has been fetched at an instant. -/
def filled : State := demo.modRing 0 fun r => { r with sqTail := 1 }
def heldCmd (dl ago : Nat) : HostCmd :=
  { opcode := 0x1402, session := 0, inst := 1, fetchSeq := 2, sqIndex := 0, fetchedAt := demo.clock - ago
    packet := { pk with deadline := dl } }
def fetchedOne (dl ago : Nat) : State :=
  demo.modSess 0 fun x => { x with lastSeq := 2, inFlight := [⟨heldCmd dl ago, .fetched, [], none⟩] }
def mntPk : Packet := { pk with via := .mnt, session := 1 }
def oneEntry : Entry := (cmdEntry (heldCmd 0 0) 0 0 false []).entry
def shut : State := demo.modSess 0 fun _ => Session.closed .ring0

/-- The hypotheses of DoorbellsMoveRings are met. -/
theorem witness_DoorbellsMoveRings :
  (∃ (n i : Nat) (s : State),
    n < 2 ∧
    i < 512 ∧
    s.hsw.serving = true ∧
    (s.ring n).enable = true ∧
    i < 2 * 2 ^ (s.ring n).sqOrder ∧
    ringDist (s.ring n).sqOrder i (s.ring n).sqHead ≤ 2 ^ (s.ring n).sqOrder) ∧
  (∃ (n i : Nat) (s : State),
    n < 2 ∧
    i < 512 ∧
    s.hsw.serving = true ∧
    (s.ring n).enable = true ∧
    i < 2 * 2 ^ (s.ring n).cqOrder ∧
    ringDist (s.ring n).cqOrder i (s.ring n).cqHead ≤ ringDist (s.ring n).cqOrder (s.ring n).cqTail (s.ring n).cqHead) ∧
  (∃ (n i : Nat) (s : State),
    n < 2 ∧
    i < 512 ∧
    s.hsw.serving = true ∧
    (s.ring n).enable = false) ∧
  (∃ (n i : Nat) (s : State),
    n < 2 ∧
    i < 512 ∧
    s.hsw.serving = true ∧
    (s.ring n).enable = true ∧
    2 ^ (s.ring n).sqOrder < ringDist (s.ring n).sqOrder i (s.ring n).sqHead) ∧
  (∃ (n i : Nat) (s : State),
    n < 2 ∧
    i < 512 ∧
    s.hsw.serving = true ∧
    (s.ring n).enable = true ∧
    ringDist (s.ring n).cqOrder (s.ring n).cqTail (s.ring n).cqHead < ringDist (s.ring n).cqOrder i (s.ring n).cqHead) :=
  ⟨⟨0, 16, demo, by decide +kernel⟩,
   ⟨1, 0, demo, by decide +kernel⟩,
   ⟨0, 0, (demo.modRing 0 fun r => { r with enable := false }), by decide +kernel⟩,
   ⟨0, 17, demo, by decide +kernel⟩,
   ⟨0, 1, demo, by decide +kernel⟩⟩

/-- The hypotheses of FetchAndStart are met. -/
theorem witness_FetchAndStart :
  (∃ (op : Nat) (p : Packet) (s : State),
    s.sqFilled p.via = true ∧
    Ready op p s) ∧
  (∃ (n op : Nat) (p : Packet) (b : Bool) (s : State),
    viaRing? p.via = some n ∧
    (s.ring n).sqTail ≠ (s.ring n).sqHead ∧
    s.canFetch p.via = true) ∧
  (∃ (n : Nat) (c : HostCmd) (s : State),
    s.nextCommand n = some c ∧
    (serveItem c s).late c = false ∧
    (serveItem c s).inHandover c = false) ∧
  (∃ (n : Nat) (c : HostCmd) (s : State),
    s.nextCommand n = some c ∧
    (serveItem c s).late c = true) :=
  ⟨⟨0x1402, pk, filled, by simp only [ready_iff]; decide +kernel⟩,
   ⟨0, 0x1402, pk, false, filled, by decide +kernel⟩,
   ⟨0, (heldCmd 0 0), (fetchedOne 0 0), by decide +kernel⟩,
   ⟨0, (heldCmd 1 (tickMs + 1)), (fetchedOne 1 (tickMs + 1)), by decide +kernel⟩⟩

/-- The hypotheses of RegistersAndInterrupts are met. -/
theorem witness_RegistersAndInterrupts :
  (∃ (v k : Nat) (s : State),
    k < 11 ∧
    s.hsw.mnt.held = [] ∧
    s.hsw.nv.tamperA = false ∧
    s.hsw.nv.tamperB = false) ∧
  (∃ (k : Nat) (s : State),
    k < 11) ∧
  (∃ (n v : Nat) (s : State),
    n < 2 ∧
    (s.ring n).enable = false) ∧
  (∃ (n v : Nat) (s : State),
    n < 2 ∧
    (s.ring n).enable = true ∧
    v.testBit 0 = false) ∧
  (∃ (n : Nat) (s : State),
    n < 2 ∧
    (s.ring n).timerRuns = true) ∧
  (∃ s : State,
    s.hsw.ready = true) :=
  ⟨⟨1, 0, ({ demo with hsw.irqCause := 3#11 }), by decide +kernel⟩,
   ⟨10, demo, by decide +kernel⟩,
   ⟨1, 1, (demo.modRing 1 fun r => { r with enable := false }), by decide +kernel⟩,
   ⟨0, 0, demo, by decide +kernel⟩,
   ⟨0, (demo.modRing 0 fun r => { r with timerRuns := true, unsignalled := 1, timerUs := 5, count := 2 }), by decide +kernel⟩,
   ⟨demo, by decide +kernel⟩⟩

/-- The hypotheses of MaintenancePort are met. -/
theorem witness_MaintenancePort :
  (∃ (op : Nat) (p : Packet) (s : State),
    p.via = .mnt ∧
    s.canFetch .mnt = true ∧
    let u : State := { s with hsw.mnt := { s.hsw.mnt with crcErr := false, short := false } }
    u.openOn .mnt = true ∧
    (u.sess 1).lastSeq + 1 < 0xFFFFFFFF ∧
    checkPacket op p u = none) ∧
  (∃ (op : Nat) (p : Packet) (s : State),
    s.canFetch .mnt = true) ∧
  (∃ (op : Nat) (p : Packet) (b : Bool) (s : State),
    s.hsw.ready = true) ∧
  (∃ (e : Entry) (l : List Entry) (s : State),
    s.hsw.ready = true ∧
    s.hsw.mnt.held = e :: l ∧
    s.hsw.mnt.waiting = []) ∧
  (∃ (s : State),
    s.hsw.ready = true ∧
    s.hsw.mnt.held = []) ∧
  (∃ s : State,
    s.hsw.ready = true) ∧
  (∃ (k : Nat) (s : State),
    s.hsw.ready = true ∧
    k ≠ 0x1C) ∧
  (∃ (k v : Nat) (s : State),
    s.hsw.ready = true ∧
    k ≠ 0x18 ∧
    k < 0x200 ∧
    (0x140 ≤ k → (s.sess 1).isOpen = false ∨ (s.sess 1).via ≠ .mnt)) ∧
  (∃ (v : Nat) (s : State),
    s.hsw.ready = true) ∧
  (∃ (v : Nat) (s : State),
    s.hsw.ready = true) ∧
  (∃ (i : Instr) (s : State),
    s.hsw.ready = true ∧
    (i ∈ [.mntReadCompletion false, .mntReadStatus false] ∨ (∃ k, i = .mntReadRegister k false) ∨
      (∃ k v, i = .mntWriteRegister k v false))) :=
  ⟨⟨0x1402, mntPk, demo, by decide +kernel⟩,
   ⟨0x1402, mntPk, demo, by decide +kernel⟩,
   ⟨0x1402, mntPk, true, demo, by decide +kernel⟩,
   ⟨oneEntry, ([]), ({ demo with hsw.mnt.held := [oneEntry] }), by decide +kernel⟩,
   ⟨demo, by decide +kernel⟩,
   ⟨({ demo with hsw.mnt.crcErr := true }), by decide +kernel⟩,
   ⟨0x18, demo, by decide +kernel⟩,
   ⟨0x14, 2047, demo, by decide +kernel⟩,
   ⟨1, demo, by decide +kernel⟩,
   ⟨1, demo, by decide +kernel⟩,
   ⟨.mntWriteRegister 0x14 1 false, demo, ⟨by decide +kernel, Or.inr (Or.inr ⟨_, _, rfl⟩)⟩⟩⟩

/-- The hypotheses of SessionCommands are met. -/
theorem witness_SessionCommands :
  (∃ (p : Packet) (s : State),
    let n := viaSession p.via
    let f := countEvents 0x0001 none 1 (takeSlot p.via s)
    s.canFetch p.via = true ∧
    s.openOn p.via = false ∧
    checkPacket 0x0101 p s = none ∧
    (s.sess n).isOpen = false ∧
    (2 ≤ n → (f.boundPeer n).isSome = true) ∧
    n < s.hsw.sessions.length ∧
    commonEdition (fld p.params 0 1) ≠ 0) ∧
  Meets 0x0102 (fun c b => ∀ f ∈ (b.sess c.session).inFlight, f.cmd.fetchSeq = c.fetchSeq) ∧
  Meets 0x0103 (fun _ _ => True) :=
  ⟨⟨({ pk with epoch := 0, params := [7, 0, 5, 0, 0, 0, 0, 0] }), shut, by decide +kernel⟩,
   meets (pk) (demo) (by decide +kernel) (by decide +kernel),
   meets (pkt [0, 0, 0, 0]) (demo) (by decide +kernel) (by decide +kernel)⟩

end Sys2Proof.Tests
end

