-- ==== Sys2Proof/Tests/WitnessMac.lean ====
section
/-! SUPPORT.
Witnesses: states and operands that meet the hypotheses of the statements.
-/

set_option Elab.async false
set_option linter.unusedVariables false

namespace Sys2Proof.Tests

open Sys2Proof.Machine

/-- A provisioned member that may join lane 0. -/
def prov0 : Provision :=
  { maxEdition := 3, addr := 0, squad := 1, lanes := 0x11, maxLatency := 100, flags := 3, pubkey := (2 : Byte) :: List.replicate 48 0 }

/-- The module that takes joins on lane 0 at every superframe. -/
def joining : State :=
  { member with
    ctl.cfg.mac.provisions := [(0x77, prov0), (0x88, prov0)]
    ctl.cfg.mac.lanes := member.ctl.cfg.mac.lanes.set 0 (some ⟨true, 1, 4, 0, 0⟩)
    ctl.cfg.keys.signing := some (List.replicate 48 1)
    ctl.cfg.fed.controller := some 5 }

/-- The exchange that awaits JOIN_AUTH. -/
def join0 : JoinRun := { JoinRun.refused 0x88 0 with step := 2, node := 0x102, edition := 3, par := par0 }

/-- The module that awaits JOIN_AUTH on lane 0. -/
def awaiting : State := joining.modMacLane 0 fun m => { m with join := some join0 }

/-- A mesh frame of type 5 and its fields. -/
def meshFrame : List Byte := [0x52, 11, 0, 0, 0, 0, 9, 0, 1]

/-- The parameters of MAC.CONN_PARAM. -/
def connPs (node : Int) : List (Nat × Int) :=
  [(2, node), (1, 0), (1, 1), (2, 100), (2, 0), (2, 300), (1, 1), (1, 4), (8, 1), (1, 0), (1, 0), (1, 0), (1, 0)]

/-- The update that they give. -/
def update0 : ConnUpdate := (placeUpdate 0x101 conn0 (connParamsOf (fs (connPs 0x101)) conn0) 1 joining).getD default

/-- MAC.SEND of three octets. -/
def sendPk : Packet := pkt [1, 1, 3, 0, 7, 8, 9]

/-- The state in which MAC.SEND begins. -/
def sendAt : State := started 0x0708 sendPk member

/-- MAC.CONFIG's parameters. -/
def macPs (ctl lo hi : Int) : List (Nat × Int) :=
  [(2, ctl), (1, 7), (1, 0), (2, lo), (2, hi), (2, 50), (2, 300), (1, 3), (3, 0)]

/-- A site key that is to follow. -/
def nextKey : State := { member with ctl.cfg.keys.next := some { key0 with keyId := 2, switchAsn := member.asn + 100 } }

/-- The hypotheses of MacOpcodes are met. -/
theorem witness_MacOpcodes :
  Meets 0x0701 (fun c b => fld c.packet.params 4 2 ≤ fld c.packet.params 6 2 ∧ fld c.packet.params 6 2 ≠ 0xFFFF ∧
      (fld c.packet.params 0 2 < fld c.packet.params 4 2 ∨ fld c.packet.params 6 2 < fld c.packet.params 0 2) ∧
      b.ctl.conns = []) ∧
  Meets 0x0701 (fun c b => fld c.packet.params 4 2 ≤ fld c.packet.params 6 2 ∧ fld c.packet.params 6 2 ≠ 0xFFFF ∧
      fld c.packet.params 0 2 ≠ b.cfg.mac.ctlNode ∧ b.ctl.conns ≠ []) ∧
  Meets 0x0702 (fun c b =>
      let ps := c.packet.params
      let l := fld ps 0 1
      (if (b.lane l).ofdm then 4 ≤ fld ps 3 1 ∧ fld ps 3 1 ≤ 7 ∧ fld ps 5 1 = 0
        else fld ps 3 1 = 0 ∧ 1 ≤ fld ps 5 1 ∧ fld ps 5 1 ≤ 8) ∧
      b.laneOn l = true ∧ fld ps 4 1 < (b.lane l).channels.length ∧
      (fld ps 5 1 ≠ (b.laneMac l).span → (b.ctl.conns.filter fun e => e.2.par.lane == l) = [])) ∧
  Meets 0x0703 (fun c b => fld c.packet.params 0 1 = 0 ∧ b.connOfMember (fld c.packet.params 4 8) = none) ∧
  Meets 0x0703 (fun c b => fld c.packet.params 0 1 ≠ 0 ∧ b.cfg.mac.provisions.length < 4096 ∧ fld c.packet.params 2 2 = 0 ∧
      b.connOfMember (fld c.packet.params 4 8) = none) ∧
  (∃ (k : Conn) (u : ConnUpdate), Meets 0x0704 (fun c b =>
      let ps := c.packet.params
      connRangeError ps b = none ∧ b.conn (fld ps 0 2) = some k ∧
        connParamError (fld ps 0 2) k (connParamsOf ps k) (fld ps 12 8) b = none ∧
        placeUpdate (fld ps 0 2) k (connParamsOf ps k) (fld ps 12 8) b = some u)) ∧
  Meets 0x0704 (fun c b => connRangeError c.packet.params b = none ∧ b.conn (fld c.packet.params 0 2) = none) ∧
  Meets 0x0705 (fun c b => (b.conn (fld c.packet.params 0 2)).isSome = true) ∧
  Meets 0x0705 (fun c b => b.conn (fld c.packet.params 0 2) = none) ∧
  Meets 0x0706 (fun c b => b.conn (fld c.packet.params 0 2) = none) ∧
  (∃ k : Conn, Meets 0x0706 (fun c b => b.conn (fld c.packet.params 0 2) = some k)) ∧
  Meets 0x0707 (fun _ _ => True) ∧
  (∃ (k : Conn) (rate seq : Nat) (u : State), Meets 0x0708 (fun c b =>
      let ps := c.packet.params
      b.conn (fld ps 0 2) = some k ∧ b.poolGrants k.flow (4 + fld ps 2 2) = true ∧
        fitRate (b.lane k.par.lane) (b.slotRange k.par.lane).2.2 (b.rateInForce (fld ps 0 2) k)
          (psduLen 5 k.par.mesh (4 + fld ps 2 2)) = some rate ∧
        queueFrame (fld ps 0 2) 5 ((ps.drop 4).take (fld ps 2 2)) b = some (seq, u))) :=
  ⟨meets (pf (macPs 1 0x100 0x1FF)) (demo) (by decide +kernel) (by decide +kernel),
   meets (pf (macPs 2 0x100 0x1FF)) (member) (by decide +kernel) (by decide +kernel),
   meets (pf [(1, 0), (1, 1), (1, 16), (1, 4), (1, 0), (1, 0), (2, 0)]) (member) (by decide +kernel) (by decide +kernel),
   meets (pkt ([0, 0, 0, 0, 0x55] ++ List.replicate 67 0)) (joining) (by decide +kernel) (by decide +kernel),
   meets (pkt ([1, 3, 0, 0, 0x55] ++ List.replicate 7 0 ++ [1, 0x11, 10, 0, 3, 0, 0, 0] ++ ((2 : Byte) :: List.replicate 48 0) ++ [0, 0, 0])) (joining) (by decide +kernel) (by decide +kernel),
   ⟨conn0, update0, meets (pf (connPs 0x101)) (joining) (by decide +kernel) (by decide +kernel)⟩,
   meets (pf (connPs 0x105)) (joining) (by decide +kernel) (by decide +kernel),
   meets (pf [(2, 0x101), (2, 0)]) (member) (by decide +kernel) (by decide +kernel),
   meets (pf [(2, 0x105), (2, 0)]) (member) (by decide +kernel) (by decide +kernel),
   meets (pf [(2, 0x105), (2, 0)]) (member) (by decide +kernel) (by decide +kernel),
   ⟨conn0, meets (pf [(2, 0x101), (2, 0)]) (member) (by decide +kernel) (by decide +kernel)⟩,
   meets (pf [(1, 0), (3, 0)]) (member) (by decide +kernel) (by decide +kernel),
   ⟨conn0, 4, 0, ((queueFrame 0x101 5 [7, 8, 9] sendAt).getD (0, sendAt)).2, meets (sendPk) (member) (by decide +kernel) (⟨by decide +kernel, by decide +kernel, by decide +kernel, rfl⟩)⟩⟩

/-- The hypotheses of MacSlotsAndJoins are met. -/
theorem witness_MacSlotsAndJoins :
  (∃ (l asn k a : Nat) (s : State),
    s.ctl.time.atb = some a ∧
    a ≤ slotAtb true asn k ∧
    s.laneUp l = true ∧
    (s.lane l).ofdm = true) ∧
  (∃ (l asn k a : Nat) (s : State),
    s.ctl.time.atb = some a ∧
    a ≤ slotAtb false asn k ∧
    s.laneUp l = true ∧
    (s.lane l).ofdm = false ∧
    asn % 50 = 0) ∧
  (∃ (n : Nat) (c : Conn) (u : ConnUpdate) (s : State),
    s.conn n = some c ∧
    c.update = some u) ∧
  (∃ (l asn m ed tol req : Nat) (d : List Byte) (j : JoinRun) (s : State),
    let v := stampRx l s
    v.joinsOn l asn = true ∧
    joinCheck l asn m ed req v = (0, some j)) ∧
  (∃ (l asn m ed tol req k : Nat) (d : List Byte) (s : State),
    let v := stampRx l s
    v.joinsOn l asn = true ∧
    k ≠ 0 ∧
    joinCheck l asn m ed req v = (k, none)) ∧
  (∃ (l : Nat) (sig : List Byte) (j : JoinRun) (s : State),
    (s.macLane l).join = some j ∧
    j.step = 2) ∧
  (∃ (l : Nat) (j : JoinRun) (s : State),
    (s.macLane l).join = some j ∧
    j.step = 2) :=
  ⟨⟨0, (member.asn + 1), 2, stb0, member, by decide +kernel⟩,
   ⟨4, ((member.asn / 50 + 1) * 50), 0, stb0, member, by decide +kernel⟩,
   ⟨0x101, ({ conn0 with update := some update0 }), update0, ({ member with ctl.conns := [(0x101, { conn0 with update := some update0 })] }), by decide +kernel⟩,
   ⟨0, joining.asn, 0x88, 7, 4, 0, ([1, 2]), (((joinCheck 0 joining.asn 0x88 7 0 (stampRx 0 joining)).2.getD default)), joining, by decide +kernel⟩,
   ⟨0, joining.asn, 0x99, 7, 4, 0, 1, ([1, 2]), joining, by decide +kernel⟩,
   ⟨0, ([]), join0, awaiting, by decide +kernel⟩,
   ⟨0, join0, awaiting, by decide +kernel⟩⟩

/-- The hypotheses of MacFramesAndKeys are met. -/
theorem witness_MacFramesAndKeys :
  (∃ (l : Nat) (t e w f m : Bool) (r : Int) (d : List Byte) (s : State),
    s.laneUp l = true ∧
    (stampRx l s).frameHeard l d = false) ∧
  (∃ (l n : Nat) (c : Conn) (d : List Byte) (s : State),
    fld d 0 1 / 16 ≠ 5 ∨ (fld d 0 1).testBit 1 = true) ∧
  (∃ (l n : Nat) (c : Conn) (d : List Byte) (s : State),
    fld d 0 1 / 16 = 5 ∧
    (fld d 0 1).testBit 1 = false ∧
    beNat (slice d 2 2) = n ∧
    s.conn n = some c) ∧
  (∃ (l : Nat) (t e w f m : Bool) (r : Int) (d : List Byte) (s : State),
    s.laneUp l = true ∧
    let v := stampRx l s
    v.frameHeard l d = true ∧
    s.phyError l t e w = true) ∧
  (∃ (l : Nat) (t e w m : Bool) (r : Int) (d : List Byte) (s : State),
    s.laneUp l = true ∧
    let v := stampRx l s
    v.frameHeard l d = true ∧
    s.phyError l t e w = false) ∧
  (∃ (l : Nat) (t e w m : Bool) (r : Int) (d : List Byte) (s : State),
    s.laneUp l = true ∧
    s.phyError l t e w = false ∧
    let v := stampRx l s
    let type := fld d 0 1 / 16
    let tail := if type = 1 ∨ type = 2 then 0 else 12
    let ctrl := fld d 1 1
    v.frameHeard l d = true ∧
    type < 9 ∧
    s.cfg.fed.controller = some (ctrl / 2) ∧
    ctrl % 2 = 1 ∧
    (fld d 0 1).testBit 1 = false ∧
    (m = true ∧ v.micFits l d = true ∨ tail = 0)) ∧
  (∃ (l : Nat) (t e w m : Bool) (r : Int) (d : List Byte) (s : State),
    s.laneUp l = true ∧
    s.phyError l t e w = false ∧
    let v := stampRx l s
    let type := fld d 0 1 / 16
    let ctrl := fld d 1 1
    v.frameHeard l d = true ∧
    3 ≤ type ∧
    type < 9 ∧
    s.cfg.fed.controller = some (ctrl / 2) ∧
    ctrl % 2 = 1 ∧
    (fld d 0 1).testBit 1 = false ∧
    (m = false ∨ v.micFits l d = false)) ∧
  (∃ (l : Nat) (d : List Byte) (s : State),
    (fld d 0 1).testBit 1 = false ∧
    (fld d 0 1 / 16 = 3 ∨ fld d 0 1 / 16 = 5)) ∧
  (∃ (l : Nat) (d : List Byte) (s : State),
    (fld d 0 1).testBit 1 = false ∧
    fld d 0 1 / 16 ≠ 3 ∧
    fld d 0 1 / 16 ≠ 5) ∧
  (∃ (l : Nat) (t e w m : Bool) (r : Int) (d : List Byte) (s : State),
    s.laneUp l = true ∧
    s.phyError l t e w = false ∧
    (stampRx l s).frameHeard l d = true ∧
    fld d 0 1 / 16 < 9 ∧
    s.cfg.fed.controller = some (fld d 1 1 / 2) ∧
    fld d 1 1 % 2 = 1 ∧
    (fld d 0 1).testBit 1 = true ∧
    s.vol.mac.seen.contains (beNat (slice d 5 2), beNat (slice d 7 2)) = true) ∧
  (∃ (l : Nat) (t e w : Bool) (r : Int) (d : List Byte) (s : State),
    s.laneUp l = true ∧
    s.phyError l t e w = false ∧
    let type := fld d 0 1 / 16
    let key := (beNat (slice d 5 2), beNat (slice d 7 2))
    type < 9 ∧
    s.cfg.fed.controller = some (fld d 1 1 / 2) ∧
    fld d 1 1 % 2 = 1 ∧
    (fld d 0 1).testBit 1 = true ∧
    key ∉ s.vol.mac.seen ∧
    key.1 ≠ s.cfg.mac.ctlNode ∧
    s.vol.mac.seen.length < 4096 ∧
    let u := stampRx l s
    u.frameHeard l d = true ∧
    u.micFits l d = true ∧
    u.editionFits l d = true) ∧
  (∃ (l : Nat) (t e w m : Bool) (r : Int) (d : List Byte) (s : State),
    s.laneUp l = true ∧
    s.phyError l t e w = false ∧
    (stampRx l s).frameHeard l d = true ∧
    9 ≤ fld d 0 1 / 16) ∧
  (∃ (l : Nat) (t e w m : Bool) (r : Int) (d : List Byte) (s : State),
    s.laneUp l = true ∧
    s.phyError l t e w = false ∧
    (stampRx l s).frameHeard l d = true ∧
    fld d 0 1 / 16 < 9 ∧
    (s.cfg.fed.controller ≠ some (fld d 1 1 / 2) ∨ fld d 1 1 % 2 = 0)) ∧
  (∃ (l : Nat) (t e w f m : Bool) (r : Int) (d : List Byte) (s : State),
    s.laneUp l = false) ∧
  (∃ (l n ctr seq k a : Nat) (b : Bool) (r : Int) (d : List Byte) (c : Conn) (s : State),
    s.conn n = some c ∧
    c.par.lane = l ∧
    ctr ≤ c.ctrUp) ∧
  (∃ (l n ctr seq k a : Nat) (r : Int) (c : Conn) (s : State),
    s.conn n = some c ∧
    c.par.lane = l ∧
    c.ctrUp < ctr) ∧
  (∃ (l n ctr seq k a : Nat) (r : Int) (d : List Byte) (c : Conn) (s : State),
    s.conn n = some c ∧
    c.par.lane = l ∧
    c.ctrUp < ctr ∧
    d ≠ [] ∧
    k % 16 ≠ 0) ∧
  (∃ (l n ctr seq k a : Nat) (b : Bool) (r : Int) (d : List Byte) (c : Conn) (s : State),
    s.conn n = some c ∧
    c.par.lane = l ∧
    c.ctrUp < ctr ∧
    (d.headD 0).toNat = 5 ∧
    d ≠ [] ∧
    k % 16 = 0 ∧
    let w := (countEvents 0x0602 (some l) 1 ((stampRx l s).modConn n fun c => { c with ctrUp := ctr })).modConnRun n fun x =>
      { x with lastHeard := s.mtb, rssi := s.rssiOf l r, heardInEvent := true }
    w.servesNow 6 c.flow = true) ∧
  (∃ (n : Nat) (c : Conn) (s : State),
    s.conn n = some c ∧
    s.servesNow 6 c.flow = true) ∧
  (∃ (n : Nat) (c : Conn) (s : State),
    s.conn n = some c ∧
    s.servesNow 6 c.flow = false) ∧
  (∃ (k : SiteKey) (a : Nat) (s : State),
    s.cfg.keys.next = some k ∧
    s.ctl.time.atb = some a) :=
  ⟨⟨0, true, false, false, true, true, (-80), ([0x50, 11, 1, 1]), ({ joining with ctl.time.atb := none }), by decide +kernel⟩,
   ⟨0, 0x101, conn0, ([0x40, 11, 1, 1]), joining, by decide +kernel⟩,
   ⟨0, 0x101, conn0, ([0x50, 11, 1, 1]), joining, by decide +kernel⟩,
   ⟨4, true, true, false, true, true, (-80), ([1]), member, by decide +kernel⟩,
   ⟨0, true, false, false, true, (-80), ([1]), member, by decide +kernel⟩,
   ⟨0, true, false, false, true, (-80), ([0x40, 11, 1, 1]), joining, by decide +kernel⟩,
   ⟨0, true, false, false, false, (-80), ([0x40, 11, 1, 1]), joining, by decide +kernel⟩,
   ⟨0, ([0x50, 11, 1, 1]), joining, by decide +kernel⟩,
   ⟨0, ([0x40, 11, 1, 1]), joining, by decide +kernel⟩,
   ⟨0, true, false, false, true, (-80), meshFrame, ({ joining with vol.mac.seen := [(9, 1)] }), by decide +kernel⟩,
   ⟨0, true, false, false, (-80), ([0x42, 11, 0, 0, 0, 0, 9, 0, 1]), joining, by decide +kernel⟩,
   ⟨0, true, false, false, true, (-80), ([0x90, 11, 1, 1]), joining, by decide +kernel⟩,
   ⟨0, true, false, false, true, (-80), ([0x40, 10, 1, 1]), joining, by decide +kernel⟩,
   ⟨1, true, false, false, true, true, (-80), ([1]), member, by decide +kernel⟩,
   ⟨0, 0x101, 10, 0, 5, 0, false, (-80), ([1]), conn0, member, by decide +kernel⟩,
   ⟨0, 0x101, 11, 0, 5, 0, (-80), conn0, member, by decide +kernel⟩,
   ⟨0, 0x101, 11, 0, 5, 0, (-80), ([1, 2]), conn0, member, by decide +kernel⟩,
   ⟨0, 0x101, 11, 0, 0, 0, false, (-80), ([5, 2]), conn0, member, by decide +kernel⟩,
   ⟨0x101, conn0, member, by decide +kernel⟩,
   ⟨0x101, conn0, ({ member with vol.sched.flows := [(0x100, { Flow.empty with items := [{ workItem 6 0 0 with core := none, start := none }] })] }), by decide +kernel⟩,
   ⟨({ key0 with keyId := 2, switchAsn := member.asn + 100 }), stb0, nextKey, by decide +kernel⟩⟩

end Sys2Proof.Tests
end

