-- ==== Sys2Proof/Tests/WitnessPower.lean ====
section
/-! SUPPORT.
Witnesses: states and operands that meet the hypotheses of the statements.
-/

set_option Elab.async false
set_option linter.unusedVariables false

namespace Sys2Proof.Tests

open Sys2Proof.Machine

def cmd0 (op : Nat) : HostCmd :=
  { opcode := op, session := 0, inst := 1, fetchSeq := 1, sqIndex := 0, fetchedAt := 0, packet := pk }
/-- A checkpoint in transfer. -/
def cut : Checkpoint :=
  { seq := 4, epoch := 7, prevSeq := 3, noFallback := false, final := false, first := false, pages := 1, image := 1
    snapMtb := 0, sealMtb := 0, snapClock := 0, asn := 0, floors := [0, 0, 0, 0], lists := [[], [], [], []], run := demo.hsw.runNo
    format := 0, insts := [some 1, some 1, none, none], pageMap := [], mapHash := [], tag := [], ctl := demo.ctl }
def inTransfer : State := { demo with vol.redun := { demo.vol.redun with transfer := some cut, coversCmds := [] } }
/-- Side B holds a checkpoint of the present run: it is ready to take over. -/
def standby : State := { demo with sideB.ckpts := { newest := some cut, newestAt := 0, previous := none, prevAt := 0 } }
def handing : HandoverRun := { cmd := cmd0 0x0F02, force := false, final := false, moving := 0, posted := false, waited := false }
/-- A side reset of Side B that has come to its last stage. -/
def resetB : StartRun := { StartRun.module 0 with kind := .sideReset, stage := .gnss, cmd := some (cmd0 0x1401) }

/-- The hypotheses of PowerAndResetOpcodes are met. -/
theorem witness_PowerAndResetOpcodes :
  Meets 0x1421 (fun _ _ => True) ∧
  Meets 0x1420 (fun _ _ => True) ∧
  Meets 0x1410 (fun c b => (fld c.packet.params 0 1 = 1 → b.grantedNodes = []) ∧
      (fld c.packet.params 0 1 = 2 → tkeys b.cfg.solver.members = []) ∧ b.vol.pendingMode = none) ∧
  Meets 0x1410 (fun c b => fld c.packet.params 0 1 = 1 ∧ b.grantedNodes ≠ []) ∧
  Meets 0x1410 (fun c b => fld c.packet.params 0 1 = 2 ∧ tkeys b.cfg.solver.members ≠ []) ∧
  Meets 0x1401 (fun c b => (b.side (if fld c.packet.params 0 1 = 0 then .a else .b)).locked = false ∧
      b.hsw.active ≠ some (if fld c.packet.params 0 1 = 0 then .a else .b)) ∧
  Meets 0x1401 (fun c b => b.hsw.active = some (if fld c.packet.params 0 1 = 0 then .a else .b)) ∧
  Meets 0x1401 (fun c b => b.hsw.active ≠ some (if fld c.packet.params 0 1 = 0 then .a else .b) ∧
      (b.side (if fld c.packet.params 0 1 = 0 then .a else .b)).locked = true) ∧
  Meets 0x1402 (fun _ _ => True) :=
  ⟨meets (pkt [3, 0, 1, 0, 2, 0, 0, 0]) (demo) (by decide +kernel) (by decide +kernel),
   meets (pkt []) (demo) (by decide +kernel) (by decide +kernel),
   meets (pkt [1, 0, 0, 0]) (demo) (by decide +kernel) (by decide +kernel),
   meets (pkt [1, 0, 0, 0]) (member) (by decide +kernel) (by decide +kernel),
   meets (pkt [2, 0, 0, 0]) ({ demo with ctl.cfg.solver.members := [(0x101, default)] }) (by decide +kernel) (by decide +kernel),
   meets (pkt [1, 0, 0, 0]) (demo) (by decide +kernel) (by decide +kernel),
   meets (pkt [0, 0, 0, 0]) (demo) (by decide +kernel) (by decide +kernel),
   meets (pkt [1, 0, 0, 0]) ({ demo with sideB.security.record := TamperRecord.clear .locked }) (by decide +kernel) (by decide +kernel),
   meets (pkt []) (demo) (by decide +kernel) (by decide +kernel)⟩

/-- The hypotheses of SupplyModeAndResetEvents are met. -/
theorem witness_SupplyModeAndResetEvents :
  (∃ (mv : Nat) (s : State),
    s.actOn = true) ∧
  (∃ (mv : Nat) (s : State),
    s.env.vinUp = true ∧
    s.hsw.warned = false) ∧
  (∃ (mv : Nat) (s : State),
    s.env.vinUp = true ∧
    s.hsw.warned = false) ∧
  (∃ (k : Nat) (c : Int) (s : State),
    s.actOn = true ∧
    1150 ≤ c ∧
    c < 1230 ∧
    k % 12 < 6) ∧
  (∃ (k : Nat) (c : Int) (s : State),
    s.hsw.active ≠ none ∧
    s.other.mainOn = true ∧
    1150 ≤ c ∧
    6 ≤ k % 12) ∧
  (∃ (m : PowerMode) (c : HostCmd) (s : State),
    s.vol.pendingMode = some (m, c) ∧
    m ≠ .fen ∧
    s.ctl.mode ≠ .fen) ∧
  (∃ (m : PowerMode) (c : HostCmd) (s : State),
    s.vol.pendingMode = some (m, c) ∧
    (m = .fen ∨ s.ctl.mode = .fen)) ∧
  (∃ (ok : Bool) (code : Nat) (r : StartRun) (c : HostCmd) (s : State),
    s.other.start = some r ∧
    r.kind = .sideReset ∧
    r.stage = .gnss ∧
    s.hsw.active ≠ none ∧
    r.cmd = some c) :=
  ⟨⟨9000, demo, by decide +kernel⟩,
   ⟨30000, demo, by decide +kernel⟩,
   ⟨30000, demo, by decide +kernel⟩,
   ⟨2, 1229, demo, by decide +kernel⟩,
   ⟨8, 1150, ({ demo with sideB.mainOn := true }), by decide +kernel⟩,
   ⟨.idle, (cmd0 0x1410), ({ demo with vol.pendingMode := some (.idle, cmd0 0x1410) }), by decide +kernel⟩,
   ⟨.fen, (cmd0 0x1410), ({ demo with vol.pendingMode := some (.fen, cmd0 0x1410) }), by decide +kernel⟩,
   ⟨true, 0, resetB, (cmd0 0x1401), ({ demo with sideB.start := some resetB }), by decide +kernel⟩⟩

/-- The hypotheses of RelinquishingGivesUpControl are met. -/
theorem witness_RelinquishingGivesUpControl :
  ∃ s : State,
    s.actOn = true ∧
    s.vol.redun.relinquish = none ∧
    s.hsw.warned = false :=
  ⟨demo, by decide +kernel⟩

/-- The hypotheses of RedundancyEvents are met. -/
theorem witness_RedundancyEvents :
  (∃ s : State,
    s.canSnapshot = true ∧
    s.vol.redun.handover = none) ∧
  (∃ (c : Checkpoint) (s : State),
    s.vol.redun.transfer = some c ∧
    s.vol.redun.due = false ∧
    c.final = false ∧
    (s.flow 0x881).items = []) ∧
  (∃ (p w q k : Nat) (s : State),
    s.actOn = true ∧
    0 < w ∧
    p < 8 ∧
    p ≠ 2 ∧
    w < s.cfg.redun.eccMax ∧
    s.vol.redun.eccAt = []) ∧
  (∃ s : State,
    s.actOn = true ∧
    s.hsw.serving = true ∧
    s.vol.redun.bist = none) ∧
  (∃ (b : BistRun) (n : Nat) (s : State),
    s.vol.redun.bist = some b ∧
    16 ≤ b.core) ∧
  (∃ (b : BistRun) (f p n : Nat) (s : State),
    s.vol.redun.bist = some b ∧
    b.core < s.vol.sched.cores.length ∧
    b.core < 16 ∧
    b.out = false ∧
    (s.core b.core).state = .busy f p ∧
    s.oneCore = false ∧
    s.coresOut < 8) ∧
  (∃ (b : BistRun) (n : Nat) (s : State),
    s.vol.redun.bist = some b ∧
    b.core < 16 ∧
    b.out = false ∧
    (s.core b.core).state = .idle ∧
    s.oneCore = false ∧
    8 ≤ s.coresOut) ∧
  (∃ (h : HandoverRun) (s : State),
    s.vol.redun.handover = some h) :=
  ⟨⟨standby, by decide +kernel⟩,
   ⟨cut, inTransfer, ⟨by rfl, by decide +kernel⟩⟩,
   ⟨3, 1, 0, 0, demo, by decide +kernel⟩,
   ⟨demo, by decide +kernel⟩,
   ⟨{ core := 16, out := false }, 0, ({ demo with vol.redun.bist := some { core := 16, out := false } }), by decide +kernel⟩,
   ⟨{ core := 3, out := false }, 0x880, 8, 0, ({ demo with
     vol.redun.bist := some { core := 3, out := false }
     vol.sched.cores := demo.vol.sched.cores.set 3 { state := .busy 0x880 8, busySince := 0, spans := [], cmds := [] } }), by decide +kernel⟩,
   ⟨{ core := 3, out := false }, 0, ({ demo with
     vol.redun.bist := some { core := 3, out := false }
     vol.sched.cores := List.replicate 8 { state := .idle, busySince := 0, spans := [], cmds := [] } ++
       List.replicate 8 { state := .out, busySince := 0, spans := [], cmds := [] } }), by decide +kernel⟩,
   ⟨handing, ({ demo with vol.redun := { demo.vol.redun with handover := some handing } }), by decide +kernel⟩⟩

/-- The hypotheses of RedundancyOpcodes are met. -/
theorem witness_RedundancyOpcodes :
  Meets 0x0F01 (fun _ _ => True) ∧
  Meets 0x0F02 (fun _ b => b.standbyOk = true ∧ b.act.lock.held = false) ∧
  Meets 0x0F02 (fun _ b => b.standbyOk = false) ∧
  Meets 0x0F02 (fun _ b => b.standbyOk = true ∧ b.act.lock.held = true) ∧
  Meets 0x0F03 (fun _ b => b.sinkAccepts = true) ∧
  Meets 0x0F03 (fun _ b => b.sinkAccepts = false) ∧
  Meets 0x0F04 (fun _ _ => True) ∧
  Meets 0x0F05 (fun _ _ => True) :=
  ⟨meets (pkt [100, 0, 4, 1, 0, 0, 0, 0, 16, 14, 0, 0]) (demo) (by decide +kernel) (by decide +kernel),
   meets (pkt [0, 0, 0, 0]) (standby) (by decide +kernel) (by decide +kernel),
   meets (pkt [0, 0, 0, 0]) (demo) (by decide +kernel) (by decide +kernel),
   meets (pkt [0, 0, 0, 0]) ({ standby with sideA.lock := { held := true, session := 0, hostId := 5 } }) (by decide +kernel) (by decide +kernel),
   meets (pkt []) (demo) (by decide +kernel) (by decide +kernel),
   meets (pkt []) ({ demo with sideB.power := .activeRun }) (by decide +kernel) (by decide +kernel),
   meets (pkt []) (demo) (by decide +kernel) (by decide +kernel),
   meets ({ pkt [] with target := 2 }) (demo) (by decide +kernel) (by decide +kernel)⟩

/-- A control item that has waited on flow 0x880, not yet counted as starved. -/
def starvable : WorkItem := { newItem 3 0x880 0x101 with prio := 6 }

/-- The inner hypotheses of RelinquishingGivesUpControl are met, beside those of any state on which it speaks. -/
theorem witness_RelinquishingGivesUpControl_inner :
  (∃ s : State, s.actOn = true ∧ s.vol.redun.relinquish = none ∧ s.hsw.warned = false ∧ s.hsw.serving = true ∧
    s.vol.redun.bist = none ∧ s.coresOut < 8) ∧
  (∃ s : State, s.actOn = true ∧ s.vol.redun.relinquish = none ∧ s.hsw.warned = false ∧ s.vol.redun.running = true ∧
    s.cfg.redun.gnssFailS ≠ 0 ∧ s.vol.corr.withheld = true ∧ s.vol.redun.streamsOnce = true) ∧
  (∃ (s : State) (h : HandoverRun), s.actOn = true ∧ s.vol.redun.relinquish = none ∧ s.hsw.warned = false ∧
    s.vol.redun.handover = some h ∧ h.posted = true) ∧
  (∃ (s : State) (f : Nat) (b : Bool) (i : WorkItem), s.actOn = true ∧ s.vol.redun.relinquish = none ∧ s.hsw.warned = false ∧
    s.starvedItem f b = some i ∧ s.cfg.redun.starveMax ≤ 1) :=
  ⟨⟨demo, by decide +kernel⟩,
   ⟨{ demo with ctl.cfg.redun.gnssFailS := 30, vol.redun.streamsOnce := true }, by decide +kernel⟩,
   ⟨{ demo with vol.redun.handover := some { handing with posted := true } }, { handing with posted := true }, by decide +kernel⟩,
   ⟨{ enqueue starvable demo with clock := 200 * tickS }, 0x880, false, { starvable with enq := demo.mtb }, by decide +kernel⟩⟩

end Sys2Proof.Tests
end

