-- ==== Sys2Proof/Tests/WitnessRadio.lean ====
section
/-! SUPPORT.
Witnesses: states and operands that meet the hypotheses of the statements.
-/

set_option Elab.async false
set_option linter.unusedVariables false

namespace Sys2Proof.Tests

open Sys2Proof.Machine

/-- The module with its links, one init step for each head and a state of link 0. -/
def linkDemo (f : LinkRun → LinkRun) : State :=
  { member with
    ctl.cfg.radio.heads := List.replicate 2 [[⟨1, 0, 0, 0⟩], [], [], [], []]
    vol.radio.links := member.vol.radio.links.modify 0 f }

/-- Both links disabled and down. -/
def linksOff : State :=
  { linkDemo (fun l => { l with state := .down }) with
    ctl.cfg.radio.links := List.replicate 2 LinkSettings.factory
    ctl.cfg.radio.lanes := List.replicate 8 LaneSettings.factory }

/-- The command of a link start in progress. -/
def linkStart : HostCmd :=
  fetchedCmd 0x0601 (pf [(1, 0), (1, 1), (1, 0), (1, 10), (1, 0xE4), (1, 0xE4), (1, 0), (1, 16), (1, 8), (1, 0), (2, 0), (4, 0)]) demo

/-- Link 0 starts for a command. -/
def linkStarting : State := { linksOff with vol.radio.links := linksOff.vol.radio.links.modify 0 fun l => { l with state := .starting, cmd := some linkStart } }

/-- Head 0 is given an init sequence whose poll asks for a value outside its mask. -/
def linksDeaf : State := { linksOff with ctl.cfg.radio.heads := [[⟨6, 0, 0, 0⟩, ⟨2, 0, 0, 1⟩], [], [], [], []] :: linksOff.cfg.radio.heads.drop 1 }

/-- Every head has the loopback sequences, and no member is joined. -/
def looping : State :=
  { member with
    ctl.conns := []
    ctl.cfg.radio.heads := List.replicate 2 [[⟨1, 0, 0, 0⟩], [], [⟨1, 0, 1, 0⟩], [⟨1, 0, 2, 0⟩], []] }

/-- A burst of lane 0. -/
def burst0 : AirFrame :=
  { lane := 0, chan := 0, asn := member.asn, slot := 0, type := 15, node := 0xFFFF, ctr := 0, mesh := none, body := [], wave := .burst }

/-- Lane 0 in the EU 5.3 GHz band, with a state of its channel's DFS. -/
def dfsDemo (x : DfsState) : State :=
  { member with
    ctl.cfg.radio.lanes := member.ctl.cfg.radio.lanes.set 0 { LaneSettings.factory with enable := true, region := 1, centre := 5300000 }
    ctl.budget.dfs := [{ lane := 0, chan := 0, state := x, stopsOk := false, stopUs := 0 }] }

/-- The EU sub-band from 5.25 to 5.35 GHz. -/
def band53 : SubBand := band 5250000 5350000 false false true true 230 0 6

/-- Lane 4 with its duty account. -/
def budgetDemo : State := { member with ctl.budget.budgets := [Budget.new 4 (member.lane 4) (band 868000 868600 true false false false 161 1000 0) 0 0] }

/-- The parameters of RADIO.LANE_CONFIG for lane 1. -/
def lanePs (en : Int) : List (Nat × Int) :=
  [(1, en), (1, 1), (1, 2), (4, 5785000), (1, 0), (1, 0), (1, 1), (1, 0), (2, 100), (2, 30), (2, 150), (2, -300), (2, 20), (2, 3600), (32, 0), (4, 0)]


/-- The hypotheses of RadioOpcodes are met. -/
theorem witness_RadioOpcodes :
  Meets 0x0601 (fun c b => (b.linkRun (fld c.packet.params 0 1)).cmd.isSome = true) ∧
  Meets 0x0601 (fun c b => (b.linkRun (fld c.packet.params 0 1)).cmd = none ∧ linkError c.packet.params b = none ∧
      (linkOf c.packet.params).enable = false ∧ (b.link (fld c.packet.params 0 1)).enable = false) ∧
  (∃ r : Nat, Meets 0x0601 (fun c b => (b.linkRun (fld c.packet.params 0 1)).cmd = none ∧ linkError c.packet.params b = none ∧
      (linkOf c.packet.params).enable = true ∧
      (startLink (fld c.packet.params 0 1) (b.modLink (fld c.packet.params 0 1) fun l => { l with cmd := some c })).1 = some r)) ∧
  Meets 0x0602 (fun c b => (b.link (fld c.packet.params 0 1)).enable = false ∧
      ∀ k, k < fld c.packet.params 2 2 → badStep (stepOf c.packet.params k) (k + 1 == fld c.packet.params 2 2) = false) ∧
  Meets 0x0603 (fun c b => (laneOf c.packet.params).cls ≠ 0 ∧ (laneOf c.packet.params).preamble = 0 ∧
      b.laneCarried (fld c.packet.params 0 1) = true ∧ (laneOf c.packet.params).enable = false ∧
      (b.lane (fld c.packet.params 0 1)).enable = true) ∧
  Meets 0x0603 (fun c b => (laneOf c.packet.params).cls ≠ 0 ∧ (laneOf c.packet.params).preamble = 0 ∧
      b.laneCarried (fld c.packet.params 0 1) = true ∧ (laneOf c.packet.params).enable = true ∧
      (b.lane (fld c.packet.params 0 1)).enable = false ∧
      laneError (fld c.packet.params 0 1) (laneOf c.packet.params) b = none ∧
      (tuneHead (fld c.packet.params 0 1) (setLane (fld c.packet.params 0 1)
        { b.lane (fld c.packet.params 0 1) with tune := (laneOf c.packet.params).tune } b)).1 = true) ∧
  Meets 0x0604 (fun c b => fld c.packet.params 0 1 = 1 ∧ (subBandOf c.packet.params 0).lo < (subBandOf c.packet.params 0).hi ∧
      ((subBandOf c.packet.params 0).duty && (subBandOf c.packet.params 0).dwell) = false ∧
      ∀ l, l < 8 → b.laneOn l = true → (b.lane l).region ≠ 3) ∧
  Meets 0x0605 (fun c _ => fld c.packet.params 2 1 = 0) ∧
  Meets 0x0605 (fun c b => fld c.packet.params 2 1 ≠ 0 ∧ fld c.packet.params 1 1 = sideNo b.actId ∧
      ((b.cfg.radio.heads.getD (fld c.packet.params 0 1 / 4) []).getD 2 []).isEmpty = false ∧
      ((b.cfg.radio.heads.getD (fld c.packet.params 0 1 / 4) []).getD 3 []).isEmpty = false ∧
      (b.ctl.conns.filter fun e => e.2.par.lane == fld c.packet.params 0 1) = [] ∧
      (loopback (fld c.packet.params 0 1) b).1 = true) ∧
  Meets 0x0606 (fun _ _ => True) ∧
  Meets 0x0607 (fun _ _ => True) :=
  ⟨meets (linkStart.packet) (linkStarting) (by decide +kernel) (by decide +kernel),
   meets (pf [(1, 0), (15, 0)]) (linksOff) (by decide +kernel) (by decide +kernel),
   ⟨1, meets (linkStart.packet) (linksDeaf) (by decide +kernel) (by decide +kernel)⟩,
   meets (pf [(1, 0), (1, 2), (2, 2), (1, 1), (1, 0), (2, 16), (4, 5), (1, 0), (1, 0), (2, 0), (4, 0)]) (linksOff) (by decide +kernel) (by decide +kernel),
   meets (pf ((1, 0) :: lanePs 0)) (member) (by decide +kernel) (by decide +kernel),
   meets (pf ((1, 1) :: lanePs 1)) (member) (by decide +kernel) (by decide +kernel),
   meets (pf [(1, 1), (3, 0), (4, 5150000), (4, 5250000), (1, 4), (1, 0), (2, 230), (2, 1), (1, 0), (1, 0)]) (member) (by decide +kernel) (by decide +kernel),
   meets (pf [(1, 0), (1, 1), (1, 0), (1, 0), (2, 50), (2, 0), (4, 120), (4, 130)]) (member) (by decide +kernel) (by decide +kernel),
   meets (pf [(1, 0), (1, 0), (1, 1), (1, 0), (2, 50), (2, 0), (4, 0), (4, 0)]) (looping) (by decide +kernel) (by decide +kernel),
   meets (pf [(1, 4), (3, 0)]) (budgetDemo) (by decide +kernel) (by decide +kernel),
   meets (pf [(1, 0), (3, 0)]) (dfsDemo .available) (by decide +kernel) (by decide +kernel)⟩

/-- The hypotheses of RadioLinkEvents are met. -/
theorem witness_RadioLinkEvents :
  (∃ (k n : Nat) (s : State),
    (s.linkRun k).state = .dataPhase) ∧
  (∃ (k : Nat) (s : State),
    (s.linkRun k).state = .lost) ∧
  (∃ (k : Nat) (alarm : Bool) (s : State),
    (s.link k).enable = true ∧
    (s.linkRun k).state = .dataPhase) ∧
  (∃ (k : Nat) (s : State),
    (s.linkRun k).state = .headFault) ∧
  (∃ (k : Nat) (s : State),
    (s.linkRun k).state = .starting) ∧
  (∃ (k : Nat) (late : Bool) (s : State),
    (s.linkRun k).state = .retraining) ∧
  (∃ (k : Nat) (late : Bool) (c : HostCmd) (s u : State),
    (s.linkRun k).state = .starting ∧
    tuneLanes k s = (true, u) ∧
    (u.linkRun k).cmd = some c) :=
  ⟨⟨0, 3, member, by decide +kernel⟩,
   ⟨0, (linkDemo fun l => { l with state := .lost }), by decide +kernel⟩,
   ⟨1, true, member, by decide +kernel⟩,
   ⟨0, (linkDemo fun l => { l with state := .headFault }), by decide +kernel⟩,
   ⟨0, (linkDemo fun l => { l with state := .starting }), by decide +kernel⟩,
   ⟨0, true, (linkDemo fun l => { l with state := .retraining }), by decide +kernel⟩,
   ⟨0, false, linkStart, linkStarting, linkStarting, ⟨by decide +kernel, rfl, by decide +kernel⟩⟩⟩

/-- The hypotheses of RadioLaneEvents are met. -/
theorem witness_RadioLaneEvents :
  (∃ (l ch rate ty n : Nat) (d : List Byte) (s : State),
    let us := airTime (s.lane l) rate (psduLen ty false d.length)
    ((s.lane l).ofdm = true → us ≤ 100 ∧ rate ≤ 15)) ∧
  (∃ (l ch rate ty n : Nat) (d : List Byte) (s : State),
    (s.lane l).ofdm = true ∧
    (100 < airTime (s.lane l) rate (psduLen ty false d.length) ∨ 15 < rate)) ∧
  (∃ (us : Nat) (f : AirFrame) (s t : State),
    s.laneUp f.lane = true ∧
    f.chan < (s.lane f.lane).channels.length ∧
    s.hsw.warned = false ∧
    s.busyNow f.lane f.chan = false ∧
    s.dfsAllows f.lane f.chan us (f.type == 8) = true ∧
    charge f.lane f.chan us (f.type == 8) s = (true, t)) ∧
  (∃ (f : AirFrame) (x : MeshExt) (s : State),
    f.mesh = some x) ∧
  (∃ (l lo ch : Nat) (x : Budget) (s : State),
    s.budget l lo ch = some x) ∧
  (∃ (l : Nat) (e : List (Nat × Int)) (s : State),
    s.laneUp l = true ∧
    (s.lane l).ofdm = true ∧
    (∀ x ∈ e, ∀ b ∈ s.chanBand l x.1, b.lbt = true →
      x.2 ≤ lbtLevel (s.lane l) ((s.lane l).channels.getD x.1 0))) ∧
  (∃ (l ch : Nat) (v : Int) (b : SubBand) (s : State),
    s.laneUp l = true ∧
    (s.lane l).ofdm = true ∧
    s.chanBand l ch = some b ∧
    b.lbt = true ∧
    lbtLevel (s.lane l) ((s.lane l).channels.getD ch 0) < v) ∧
  (∃ (l ch : Nat) (d : DfsChan) (s : State),
    s.dfs l ch = some d ∧
    d.state ≠ .unavailable ∧
    d.state ≠ .none) ∧
  (∃ (l ch : Nat) (d : DfsChan) (s : State),
    s.dfs l ch = some d ∧
    d.state = .cac) ∧
  (∃ (l ch : Nat) (d : DfsChan) (s : State),
    s.dfs l ch = some d ∧
    d.state = .unavailable) :=
  ⟨⟨0, 0, 4, 1, 0, [], member, by decide +kernel⟩,
   ⟨0, 0, 16, 1, 0, [], member, by decide +kernel⟩,
   ⟨2, burst0, member, (charge 0 0 2 false member).2, ⟨by decide +kernel, by decide +kernel, by decide +kernel, by decide +kernel, by decide +kernel, Prod.ext (by decide +kernel) rfl⟩⟩,
   ⟨{ burst0 with mesh := some ⟨3, 1, 7⟩ }, ⟨3, 1, 7⟩, demo, rfl⟩,
   ⟨4, 868000, 0xFF, (Budget.new 4 (member.lane 4) (band 868000 868600 true false false false 161 1000 0) 0 0), budgetDemo, by decide +kernel⟩,
   ⟨0, ([(0, -900)]), (dfsDemo .available), by decide +kernel⟩,
   ⟨0, 0, (-500), band53, (dfsDemo .available), by decide +kernel⟩,
   ⟨0, 0, ({ lane := 0, chan := 0, state := .available, stopsOk := false, stopUs := 0 }), (dfsDemo .available), by decide +kernel⟩,
   ⟨0, 0, ({ lane := 0, chan := 0, state := .cac, stopsOk := false, stopUs := 0 }), (dfsDemo .cac), by decide +kernel⟩,
   ⟨0, 0, ({ lane := 0, chan := 0, state := .unavailable, stopsOk := false, stopUs := 0 }), (dfsDemo .unavailable), by decide +kernel⟩⟩

/-- A start that the head does not refuse, or one whose ALARM_N it reports: whichever the head answers. -/
theorem witness_RadioOpcodes_start :
    Meets 0x0601 (fun c b => (b.linkRun (fld c.packet.params 0 1)).cmd = none ∧ linkError c.packet.params b = none ∧
      (linkOf c.packet.params).enable = true ∧
      (startLink (fld c.packet.params 0 1) (b.modLink (fld c.packet.params 0 1) fun l => { l with cmd := some c })).1 = none) ∨
    Meets 0x0601 (fun c b => (b.linkRun (fld c.packet.params 0 1)).cmd = none ∧ linkError c.packet.params b = none ∧
      (linkOf c.packet.params).enable = true ∧
      (startLink (fld c.packet.params 0 1) (b.modLink (fld c.packet.params 0 1) fun l => { l with cmd := some c })).1 = some 4) := by
  have a : readyB 0x0601 linkStart.packet linksOff = true := by decide +kernel
  have b : ((started 0x0601 linkStart.packet linksOff).linkRun 0).cmd = none := by decide +kernel
  have c : linkError linkStart.packet.params (started 0x0601 linkStart.packet linksOff) = none := by decide +kernel
  have e : ∀ k : State, (initHead k.actId 0 (k.modLink 0 fun l => { l with state := .starting, lock := false })).1 = true →
      (startLink 0 k).1 = none ∨ (startLink 0 k).1 = some 4 := by
    intro k hk; unfold startLink; split
    next h => rw [h] at hk; exact absurd hk (by simp)
    next => dsimp only; split
            · exact .inl rfl
            · exact .inr rfl
  rcases e ((started 0x0601 linkStart.packet linksOff).modLink 0
      fun l => { l with cmd := some (fetchedCmd 0x0601 linkStart.packet linksOff) }) (by decide +kernel) with h | h
  · exact .inl (meets linkStart.packet linksOff a ⟨b, c, rfl, h⟩)
  · exact .inr (meets linkStart.packet linksOff a ⟨b, c, rfl, h⟩)

end Sys2Proof.Tests
end

