-- ==== Sys2Proof/Tests/WitnessRecord.lean ====
section
/-! SUPPORT.
Witnesses: states and operands that meet the hypotheses of the statements.
-/

set_option Elab.async false
set_option linter.unusedVariables false

namespace Sys2Proof.Tests

open Sys2Proof.Machine

/-- VIN is below the shutdown threshold. -/
def below18 : State := { demo with env := { demo.env with vinBelow := true } }

/-- Three events were dropped in this second, before STB is valid. -/
def dropped18 : State :=
  { demo with sideA := { demo.sideA with recorder := { demo.sideA.recorder with dropped := 3 } }, ctl.time := { demo.ctl.time with stb := none } }

/-- Counter 2 counts frames sent, with its interrupt. -/
def counter18 : Counter := { value := 2 ^ 48 - 1, sel := 0x0B01, irq := true, qualKind := 0, qual := 0, overflow := false }

def counting18 : State :=
  { demo with vol.counters := { demo.vol.counters with counters := demo.vol.counters.counters.set 2 counter18 } }

/-- The hypotheses of RecordOpcodesAndEvents are met. -/
theorem witness_RecordOpcodesAndEvents :
  Meets 0x1202 (fun _ _ => True) ∧
  Meets 0x1203 (fun _ _ => True) ∧
  Meets 0x1204 (fun c b => (record 0x1201 c.session c.packet.params b).act.recorder.dropped = b.act.recorder.dropped) ∧
  (∃ s : State,
    s.env.vinBelow = false) ∧
  (∃ s : State,
    s.env.vinBelow = true) ∧
  (∃ s : State,
    s.env.vinBelow = false) ∧
  (∃ s : State,
    s.act.mainOn = true ∧
    s.act.recorder.dropped ≠ 0 ∧
    s.ctl.time.stb = none) ∧
  (∃ s : State,
    s.act.recorder.dropped = 0) :=
  ⟨meets (pkt []) (demo) (by decide +kernel) (by decide +kernel),
   meets (pf [(2, 100), (2, 0)]) (demo) (by decide +kernel) (by decide +kernel),
   meets (pkt (List.replicate 24 7)) (demo) (by decide +kernel) (by decide +kernel),
   ⟨demo, by decide +kernel⟩,
   ⟨below18, by decide +kernel⟩,
   ⟨demo, by decide +kernel⟩,
   ⟨dropped18, by decide +kernel⟩,
   ⟨demo, by decide +kernel⟩⟩

/-- The hypotheses of PerformanceCounters are met. -/
theorem witness_PerformanceCounters :
  Meets 0x1301 (fun c _ => qualOk (fld c.packet.params 4 1) (fld c.packet.params 6 2) = true ∧
      (fld c.packet.params 4 1 ≠ 0 → fld c.packet.params 4 1 = qualifierOf (fld c.packet.params 2 2))) ∧
  Meets 0x1301 (fun c _ => qualOk (fld c.packet.params 4 1) (fld c.packet.params 6 2) = false) ∧
  Meets 0x1301 (fun c _ => qualOk (fld c.packet.params 4 1) (fld c.packet.params 6 2) = true ∧ fld c.packet.params 4 1 ≠ 0 ∧
      fld c.packet.params 4 1 ≠ qualifierOf (fld c.packet.params 2 2)) ∧
  Meets 0x1302 (fun c _ => fld c.packet.params 0 1 = 0 ∧ fld c.packet.params 8 8 = 0) ∧
  Meets 0x1302 (fun c _ => fld c.packet.params 0 1 = 1 ∧ fld c.packet.params 8 8 = 0) ∧
  Meets 0x1302 (fun c _ => fld c.packet.params 0 1 = 2 ∧ fld c.packet.params 8 8 = 0) ∧
  Meets 0x1302 (fun c _ => fld c.packet.params 0 1 = 3) ∧
  Meets 0x1302 (fun c _ => fld c.packet.params 0 1 ≠ 3 ∧ fld c.packet.params 8 8 ≠ 0) ∧
  Meets 0x1303 (fun c _ => 64 < fld c.packet.params 0 1 + fld c.packet.params 1 1) ∧
  Meets 0x1303 (fun c _ => fld c.packet.params 0 1 + fld c.packet.params 1 1 ≤ 64 ∧ fld c.packet.params 2 1 = 0) ∧
  (∃ (k : Nat) (c : Counter) (s : State),
    s.vol.counters.counters[k]? = some c ∧
    c.sel ≠ 0 ∧
    s.vol.counters.frozen = false) ∧
  (∃ (k : Nat) (c : Counter) (s : State),
    s.vol.counters.counters[k]? = some c ∧
    (c.sel = 0 ∨ s.vol.counters.frozen = true)) :=
  ⟨meets (pf [(1, 2), (1, 1), (2, 0x0B01), (1, 0), (1, 0), (2, 0)]) (demo) (by decide +kernel) (by decide +kernel),
   meets (pf [(1, 2), (1, 1), (2, 0x0B01), (1, 0), (1, 0), (2, 5)]) (demo) (by decide +kernel) (by decide +kernel),
   meets (pf [(1, 2), (1, 1), (2, 0x0B01), (1, 1), (1, 0), (2, 5)]) (demo) (by decide +kernel) (by decide +kernel),
   meets (pf [(1, 0), (7, 0), (8, 0)]) (counting18) (by decide +kernel) (by decide +kernel),
   meets (pf [(1, 1), (7, 0), (8, 0)]) (counting18) (by decide +kernel) (by decide +kernel),
   meets (pf [(1, 2), (7, 0), (8, 0)]) (counting18) (by decide +kernel) (by decide +kernel),
   meets (pf [(1, 3), (7, 0), (8, 4)]) (counting18) (by decide +kernel) (by decide +kernel),
   meets (pf [(1, 2), (7, 0), (8, 4)]) (counting18) (by decide +kernel) (by decide +kernel),
   meets (pf [(1, 60), (1, 8), (1, 0), (1, 0)]) (counting18) (by decide +kernel) (by decide +kernel),
   meets (pf [(1, 0), (1, 8), (1, 0), (1, 0)]) (counting18) (by decide +kernel) (by decide +kernel),
   ⟨2, counter18, counting18, by decide +kernel⟩,
   ⟨3, (demo.vol.counters.counters.getD 3 default), counting18, by decide +kernel⟩⟩

end Sys2Proof.Tests
end

