-- ==== Sys2Proof/Tests/WitnessSched.lean ====
section
/-! SUPPORT.
Witnesses: states and operands that meet the hypotheses of the statements.
-/

set_option Elab.async false
set_option linter.unusedVariables false

namespace Sys2Proof.Tests

open Sys2Proof.Machine

/-- A state of work core 3. -/
def coreIs (x : CoreState) : State :=
  { demo with vol.sched.cores := demo.vol.sched.cores.set 3 { state := x, busySince := 0, spans := [], cmds := [] } }

/-- Cores 8 to 15 are out. -/
def halfOut : State :=
  { demo with vol.sched.cores := (List.range 16).map fun k =>
      { state := if k < 8 then .idle else .out, busySince := 0, spans := [], cmds := [] } }

/-- A member's flow with an upload's item at its head. -/
def ready0 : State :=
  { demo with vol.sched.flows := [(0x100, { Flow.empty with items := [newItem 1 0x100 0x101], node := 0x101, member := true })] }

/-- A packet of mailbox 2, and the mailbox that holds it. -/
def mbxPacket : PeatPacket := workPacket 5 0x101 [1, 2, 3]

def mbxHolds : State := { demo with vol.peat.queues := [(0xC02, { PeatQueue.empty with packets := [mbxPacket] })] }

/-- A mailbox read that waits. -/
def mbxRead0 : MbxRead := { cmd := fetchedCmd 0x0C05 (pf [(1, 2), (1, 4), (2, 100)]) demo, mailbox := 2, maxPkts := 4 }

/-- A work item that awaits its core's word on a finished or begun item. -/
def acted (x : CoreState) (core : Nat) : State :=
  { demo with
    vol.sched.cores := demo.vol.sched.cores.set core { state := x, busySince := 0, spans := [], cmds := [] }
    vol.sched.flows := [(0x100, { Flow.empty with items := [{ workItem 1 1 0x101 with core := some core, acted := true }] })] }

/-- An item that carries the command of the mailbox read, which is fetched and not started. -/
def cmdItem : WorkItem := { workItem 7 0 0x101 with cmd := some (0, 1, 1, mbxRead0.cmd.fetchSeq) }

def cmdFetched : State := demo.modSess 0 fun x => { x with inFlight := [⟨mbxRead0.cmd, .fetched, [], none⟩] }

/-- The item at the head of the device queue's flow. -/
def cmdReady : State := { cmdFetched with vol.sched.flows := [(0x880, { Flow.empty with items := [{ cmdItem with flow := 0x880, core := none, start := none }] })] }

/-- A read of lane 0 that waits for a packet. -/
def headRead0 : HeadRead := { lane := 0, asn := 5, slot := 3 }
def stalledAt (q : Nat) : State := { member with vol.peat.queues := [(q, { PeatQueue.empty with stalled := [headRead0] })] }

/-- A packet of queue 0x820 that fills two cells. -/
def longPacket : PeatPacket := workPacket 1 0x101 (zeros 57)

/-- The pool grants nothing to queue 0x820. -/
def noRoom : State := { demo with ctl.cfg.peat.queues := [(0x820, ⟨0, 1000, 100⟩), (0x100, ⟨0, 1000, 100⟩), (0x801, ⟨0, 1000, 100⟩)] }

/-- The hypotheses of SchedOpcodes are met. -/
theorem witness_SchedOpcodes :
  Meets 0x0B01 (fun _ _ => True) ∧
  Meets 0x0B02 (fun c b => fld c.packet.params 1 1 = 0 ∧ (b.core (fld c.packet.params 0 1)).state = .idle ∧ b.ctl.mode ≠ .idle ∧
      b.coresOut < 8 ∧ fld c.packet.params 0 1 < b.vol.sched.cores.length) ∧
  (∃ f p : Nat, Meets 0x0B02 (fun c b => fld c.packet.params 1 1 = 0 ∧ (b.core (fld c.packet.params 0 1)).state = .busy f p ∧ b.ctl.mode ≠ .idle ∧
      b.coresOut < 8 ∧ fld c.packet.params 0 1 < b.vol.sched.cores.length ∧
      b.cfg.sched.outMask.testBit (fld c.packet.params 0 1) = false)) ∧
  Meets 0x0B02 (fun c b => fld c.packet.params 1 1 = 0 ∧ (b.core (fld c.packet.params 0 1)).state = .idle ∧ b.ctl.mode ≠ .idle ∧
      8 ≤ b.coresOut) ∧
  Meets 0x0B02 (fun c b => fld c.packet.params 1 1 = 0 ∧ (b.core (fld c.packet.params 0 1)).state = .out) ∧
  Meets 0x0B02 (fun c b => fld c.packet.params 1 1 = 1 ∧ (b.core (fld c.packet.params 0 1)).state = .idle) ∧
  Meets 0x0B03 (fun c _ => fld c.packet.params 0 1 = 0) ∧
  Meets 0x0B03 (fun c _ => fld c.packet.params 0 1 = 1) ∧
  Meets 0x0B04 (fun c _ => fld c.packet.params 1 1 ≠ 1) ∧
  Meets 0x0B05 (fun c _ => 4096 < fld c.packet.params 0 2 + fld c.packet.params 2 2) ∧
  Meets 0x0B05 (fun c _ => fld c.packet.params 0 2 + fld c.packet.params 2 2 ≤ 4096 ∧ fld c.packet.params 4 1 = 0) ∧
  Meets 0x0B06 (fun _ _ => True) :=
  ⟨meets (pf [(2, 50), (2, 1000), (4, 0)]) (demo) (by decide +kernel) (by decide +kernel),
   meets (pf [(1, 3), (1, 0), (2, 0)]) (demo) (by decide +kernel) (by decide +kernel),
   ⟨0x100, 6, meets (pf [(1, 3), (1, 0), (2, 0)]) (coreIs (.busy 0x100 6)) (by decide +kernel) (by decide +kernel)⟩,
   meets (pf [(1, 3), (1, 0), (2, 0)]) (halfOut) (by decide +kernel) (by decide +kernel),
   meets (pf [(1, 3), (1, 0), (2, 0)]) (coreIs .out) (by decide +kernel) (by decide +kernel),
   meets (pf [(1, 3), (1, 1), (2, 0)]) (demo) (by decide +kernel) (by decide +kernel),
   meets (pf [(1, 0), (3, 0)]) (demo) (by decide +kernel) (by decide +kernel),
   meets (pf [(1, 1), (3, 0)]) (demo) (by decide +kernel) (by decide +kernel),
   meets (pf [(1, 255), (1, 0), (2, 0)]) (demo) (by decide +kernel) (by decide +kernel),
   meets (pf [(2, 4095), (2, 2), (1, 0), (3, 0)]) (demo) (by decide +kernel) (by decide +kernel),
   meets (pf [(2, 0x100), (2, 1), (1, 0), (3, 0)]) (acted (.busy 0x100 1) 3) (by decide +kernel) (by decide +kernel),
   meets (pf [(2, 0x100), (2, 0)]) (acted (.busy 0x100 1) 3) (by decide +kernel) (by decide +kernel)⟩

/-- The hypotheses of DispatchAndTimers are met. -/
theorem witness_DispatchAndTimers :
  (∃ (k f : Nat) (i : WorkItem) (l : List WorkItem) (s : State),
    (s.core k).state = .idle ∧
    k < s.vol.sched.cores.length ∧
    chooseFrom s k 8 = some f ∧
    (s.flow f).items = i :: l ∧
    i.kind ≠ 7) ∧
  (∃ (k f : Nat) (i : WorkItem) (l : List WorkItem) (c : HostCmd) (s : State),
    (s.core k).state = .idle ∧
    k < s.vol.sched.cores.length ∧
    chooseFrom s k 8 = some f ∧
    (s.flow f).items = i :: l ∧
    i.kind = 7 ∧
    let u := (s.modFlow f fun x => { x with items := { i with core := some k, start := some s.mtb } :: l }).itemCmd i
    u = some c ∧
    s.spoiled c = none ∧
    s.late c = false) ∧
  (∃ (k f : Nat) (s : State),
    chooseFrom s k 8 = some f) ∧
  (∃ (k : Nat) (s : State),
    (s.core k).state ≠ .idle) ∧
  (∃ (k f p : Nat) (i : WorkItem) (s : State),
    (s.core k).state = .busy f p ∧
    k < s.vol.sched.cores.length ∧
    s.oneCore = false ∧
    s.vol.redun.bist = none ∧
    ((s.flow f).items.find? fun i => i.core == some k) = some i ∧
    i.acted = true) ∧
  (∃ (k f p : Nat) (i : WorkItem) (s : State),
    (s.core k).state = .busy f p ∧
    ((s.flow f).items.find? fun i => i.core == some k) = some i) ∧
  (∃ (i : WorkItem) (s : State),
    i.acted = false ∧
    i.kind = 1) ∧
  (∃ (i : WorkItem) (s : State),
    i.acted = false ∧
    i.kind = 2) ∧
  (∃ (i : WorkItem) (s : State) (c : _),
    i.acted = false ∧
    i.kind = 7 ∧
    i.run = some c) ∧
  (∃ (i : WorkItem) (s : State) (n : _),
    i.acted = false ∧
    3 ≤ i.kind ∧
    i.kind ≠ 7 ∧
    i.work = some (.supervisionTimeout n)) ∧
  (∃ (k f p : Nat) (i : WorkItem) (s : State),
    (s.core k).state = .leaving f p ∧
    k < s.vol.sched.cores.length ∧
    (s.core k).cmds = [] ∧
    s.vol.redun.bist = none ∧
    ((s.flow f).items.find? fun i => i.core == some k) = some i ∧
    i.acted = true) ∧
  (∃ (k f : Nat) (s : State),
    s.idleCore = some k ∧
    s.startable (s.flow f) = true ∧
    s.windowOver (s.flow f) = true ∧
    s.reserved (s.flow f).prio = false ∧
    s.comesBefore k f (s.flow f).readyAt (s.flow f).prio = false) ∧
  (∃ (f : Nat) (s : State),
    s.idleCore = none ∨ s.windowOver (s.flow f) = false) :=
  ⟨⟨0, 0x100, (newItem 1 0x100 0x101), ([]), ready0, by decide +kernel⟩,
   ⟨0, 0x880, ({ cmdItem with flow := 0x880, core := none, start := none }), ([]), mbxRead0.cmd, cmdReady, by decide +kernel⟩,
   ⟨0, 0x100, ready0, by decide +kernel⟩,
   ⟨3, (coreIs .out), by decide +kernel⟩,
   ⟨3, 0x100, 1, ({ workItem 1 1 0x101 with core := some 3, acted := true }), acted (.busy 0x100 1) 3, by decide +kernel⟩,
   ⟨0, 0x100, 1, (workItem 1 1 0x101), (serving 1 1 [0] member), by decide +kernel⟩,
   ⟨(workItem 1 1 0x101), demo, by decide +kernel⟩,
   ⟨(workItem 2 1 0x101), demo, by decide +kernel⟩,
   ⟨({ cmdItem with run := some mbxRead0.cmd }), demo, mbxRead0.cmd, by decide +kernel⟩,
   ⟨({ workItem 6 0 0x101 with work := some (.supervisionTimeout 0x101) }), demo, 0x101, ⟨by decide, by decide, by decide, rfl⟩⟩,
   ⟨3, 0x100, 6, ({ workItem 1 1 0x101 with core := some 3, acted := true }), acted (.leaving 0x100 6) 3, by decide +kernel⟩,
   ⟨0, 0x100, ready0, by decide +kernel⟩,
   ⟨0x100, ({ demo with vol.sched.cores := List.replicate 16 { state := .out, busySince := 0, spans := [], cmds := [] } }), by decide +kernel⟩⟩

/-- The hypotheses of QueueOpcodesAndPool are met. -/
theorem witness_QueueOpcodesAndPool :
  Meets 0x0C01 (fun c _ => 257 ≤ fld c.packet.params 4 4 ∨ fld c.packet.params 0 2 < 0x800 ∨
      (mailboxOf? (fld c.packet.params 0 2)).isSome = true) ∧
  Meets 0x0C01 (fun c _ => fld c.packet.params 4 4 < 257 ∧ 0x800 ≤ fld c.packet.params 0 2 ∧ fld c.packet.params 0 2 < 0xC00) ∧
  Meets 0x0C02 (fun c _ => fld c.packet.params 4 4 ≤ fld c.packet.params 0 4) ∧
  Meets 0x0C02 (fun c _ => fld c.packet.params 0 4 < fld c.packet.params 4 4) ∧
  Meets 0x0C03 (fun _ _ => True) ∧
  Meets 0x0C04 (fun c _ => fld c.packet.params 0 2 + fld c.packet.params 2 2 ≤ 4096 ∧ fld c.packet.params 4 1 ≠ 1) ∧
  Meets 0x0C04 (fun c _ => fld c.packet.params 0 2 + fld c.packet.params 2 2 ≤ 4096 ∧ fld c.packet.params 4 1 = 1) ∧
  Meets 0x0C04 (fun c _ => 4096 < fld c.packet.params 0 2 + fld c.packet.params 2 2) ∧
  Meets 0x0C05 (fun c b => (∀ r ∈ b.vol.peat.reads, r.mailbox ≠ fld c.packet.params 0 1) ∧
      (b.queue (0xC00 + fld c.packet.params 0 1)).packets = [] ∧ fld c.packet.params 2 2 ≠ 0) ∧
  Meets 0x0C05 (fun c b => ∃ r ∈ b.vol.peat.reads, r.mailbox = fld c.packet.params 0 1) ∧
  Meets 0x0C05 (fun c b => (∀ r ∈ b.vol.peat.reads, r.mailbox ≠ fld c.packet.params 0 1) ∧
      (b.queue (0xC00 + fld c.packet.params 0 1)).packets = [] ∧ fld c.packet.params 2 2 = 0) ∧
  (∃ x : PeatPacket, Meets 0x0C05 (fun c b => (∀ r ∈ b.vol.peat.reads, r.mailbox ≠ fld c.packet.params 0 1) ∧ 1 ≤ fld c.packet.params 1 1 ∧
      (b.queue (0xC00 + fld c.packet.params 0 1)).packets = [x] ∧ (mbxEntry x).length ≤ 4056)) ∧
  (∃ (n tag : Nat) (r : MbxRead) (s : State),
    (s.vol.peat.reads.find? fun r => r.cmd.session == n && r.cmd.packet.tag == tag) = some r) ∧
  (∃ (q m kind node : Nat) (d : List Byte) (s : State),
    queueListed q = true ∧
    1 ≤ d.length ∧
    d.length ≤ m ∧
    s.poolGrants q m = true ∧
    mailboxOf? q = none ∧
    (s.queue q).stalled = []) ∧
  (∃ (q m kind node : Nat) (d : List Byte) (s : State),
    queueListed q = true ∧
    1 ≤ d.length ∧
    d.length ≤ m ∧
    s.poolGrants q m = false ∧
    0x814 ≤ q ∧
    (s.queue q).stalled = []) ∧
  (∃ (q m kind node : Nat) (d : List Byte) (s : State),
    queueListed q = true ∧
    1 ≤ d.length ∧
    d.length ≤ m ∧
    s.poolGrants q m = false ∧
    (s.queue q).stalled = [] ∧
    q < 0x800) ∧
  (∃ (q m kind node : Nat) (d : List Byte) (s : State),
    queueListed q = true ∧
    1 ≤ d.length ∧
    d.length ≤ m ∧
    s.poolGrants q m = false ∧
    (s.queue q).stalled = [] ∧
    0x800 ≤ q ∧
    q < 0x814) ∧
  (∃ (q m kind node mb : Nat) (d : List Byte) (s : State),
    mailboxOf? q = some mb ∧
    1 ≤ d.length ∧
    d.length ≤ m ∧
    s.poolGrants q m = true ∧
    (∀ r ∈ s.vol.peat.reads, r.mailbox ≠ mb)) ∧
  (∃ (q m kind node n : Nat) (d : List Byte) (s : State),
    queueListed q = true ∧
    q < 0x800 ∧
    1 ≤ d.length ∧
    d.length ≤ m ∧
    s.poolGrants q m = true ∧
    (s.queue q).stalled ≠ [] ∧
    s.nodeOfFlow q = some n) ∧
  (∃ (q m kind node : Nat) (d : List Byte) (s : State),
    queueListed q = true ∧
    (d = [] ∨ m < d.length) ∧
    s.poolGrants q m = true ∧
    (∀ r ∈ (s.queue q).reserved, r.1 ≠ s.fresh)) ∧
  (∃ (q m kind node : Nat) (d : List Byte) (s : State),
    queueListed q = false) ∧
  (∃ (q : Nat) (r : HeadRead) (l : List HeadRead) (s : State),
    (s.queue q).stalled = r :: l ∧
    0x800 ≤ q) ∧
  (∃ (q : Nat) (r : HeadRead) (l : List HeadRead) (s : State) (n : _),
    (s.queue q).stalled = r :: l ∧
    q < 0x800 ∧
    s.nodeOfFlow q = some n) ∧
  (∃ (q : Nat) (s : State),
    (s.queue q).stalled = []) ∧
  (∃ (l : List Nat) (s : State),
    s.vol.peat.corrected < 2 ^ 32) ∧
  (∃ (w q k j : Nat) (p : PeatPacket) (s : State),
    s.actOn = true ∧
    2 ≤ w ∧
    w < s.cfg.redun.eccMax ∧
    s.vol.redun.eccAt = [] ∧
    s.cellIn q k = some (p, j)) :=
  ⟨meets (pf [(2, 0x820), (2, 64), (4, 300), (2, 100), (2, 0)]) (demo) (by decide +kernel) (by decide +kernel),
   meets (pf [(2, 0x820), (2, 64), (4, 256), (2, 100), (2, 0)]) (demo) (by decide +kernel) (by decide +kernel),
   meets (pf [(4, 4096), (4, 2048)]) (demo) (by decide +kernel) (by decide +kernel),
   meets (pf [(4, 2048), (4, 4096)]) (demo) (by decide +kernel) (by decide +kernel),
   meets (pkt []) (mbxHolds) (by decide +kernel) (by decide +kernel),
   meets (pf [(2, 0xC02), (2, 1), (1, 0), (3, 0)]) (mbxHolds) (by decide +kernel) (by decide +kernel),
   meets (pf [(2, 0xC02), (2, 1), (1, 1), (3, 0)]) (mbxHolds) (by decide +kernel) (by decide +kernel),
   meets (pf [(2, 4095), (2, 2), (1, 1), (3, 0)]) (mbxHolds) (by decide +kernel) (by decide +kernel),
   meets (pf [(1, 2), (1, 4), (2, 100)]) (demo) (by decide +kernel) (by decide +kernel),
   meets (pf [(1, 2), (1, 4), (2, 100)]) ({ demo with vol.peat.reads := [mbxRead0] }) (by decide +kernel) (by decide +kernel),
   meets (pf [(1, 2), (1, 4), (2, 0)]) (demo) (by decide +kernel) (by decide +kernel),
   ⟨mbxPacket, meets (pf [(1, 2), (1, 4), (2, 100)]) (mbxHolds) (by decide +kernel) (by decide +kernel)⟩,
   ⟨0, 1, mbxRead0, ({ demo with vol.peat.reads := [mbxRead0] }), by decide +kernel⟩,
   ⟨0x820, 100, 3, 0x101, ([1, 2]), demo, by decide +kernel⟩,
   ⟨0x820, 100, 3, 0x101, ([1, 2]), noRoom, by decide +kernel⟩,
   ⟨0x100, 100, 3, 0x101, ([1, 2]), noRoom, by decide +kernel⟩,
   ⟨0x801, 100, 3, 0x101, ([1, 2]), noRoom, by decide +kernel⟩,
   ⟨0xC02, 100, 3, 0x101, 2, ([1, 2]), demo, by decide +kernel⟩,
   ⟨0x100, 100, 3, 0x101, 0x101, ([1, 2]), stalledAt 0x100, by decide +kernel⟩,
   ⟨0x820, 1, 3, 0x101, ([1, 2]), demo, by decide +kernel⟩,
   ⟨0x7FFF, 1, 3, 0x101, ([1, 2]), demo, by decide +kernel⟩,
   ⟨0x820, headRead0, [], stalledAt 0x820, by decide +kernel⟩,
   ⟨0x100, headRead0, [], stalledAt 0x100, 0x101, by decide +kernel⟩,
   ⟨0x820, demo, by decide +kernel⟩,
   ⟨[3], demo, by decide +kernel⟩,
   ⟨2, 0x820, firstCell 9, 0, longPacket, ({ demo with vol.peat.queues := [(0x820, { PeatQueue.empty with packets := [longPacket] })] }),
     ⟨by decide +kernel, by decide, by decide +kernel, rfl, by
      have h : packetCells (zeros 57).length = 1 + 1 := by decide +kernel
      simp [State.cellIn, State.queue, State.chainOf, h, walkChain, longPacket, workPacket, tgetD, tget, List.findIdx?_cons]⟩⟩⟩

end Sys2Proof.Tests
end

