-- ==== Sys2Proof/Tests/WitnessSec.lean ====
section
/-! SUPPORT.
Witnesses: states and operands that meet the hypotheses of the statements.
-/

set_option Elab.async false
set_option linter.unusedVariables false

namespace Sys2Proof.Tests

open Sys2Proof.Machine

/-- A checkpoint of the present run. -/
def ckpt16 : Checkpoint :=
  { seq := 4, epoch := 7, prevSeq := 3, noFallback := false, final := false, first := false, pages := 1, image := 1
    snapMtb := 0, sealMtb := 0, snapClock := 0, asn := 0, floors := [0, 0, 0, 0], lists := [[], [], [], []], run := demo.hsw.runNo
    format := 0, insts := [some 1, some 1, none, none], pageMap := [], mapHash := [], tag := [], ctl := demo.ctl }

/-- Side B holds it: it is ready to take over. -/
def ready16 : State := { demo with sideB.ckpts := { newest := some ckpt16, newestAt := 0, previous := none, prevAt := 0 } }

/-- A demonstration in shipping state. -/
def shipping : State :=
  { demo with sideA.security := { demo.sideA.security with record := TamperRecord.clear .shipping } }

/-- SEC.KEY_IMPORT of a kind, with key identifier and counter. -/
def importPk (kind k : Byte) (ctr : Nat) : Packet :=
  pkt ([kind, k, 0, 0] ++ leBytes 4 ctr ++ zeros 8 ++ ((2 : Byte) :: zeros 48) ++ zeros 79)

/-- SEC.DEBUG_UNLOCK. -/
def unlockPk (op : Byte) : Packet := pkt (op :: zeros 99)

/-- A demonstration with a mark of tamper on Side A, before STB is valid. -/
def marked : State := { demo with hsw.nv := { demo.hsw.nv with tamperA := true }, ctl.time := { demo.ctl.time with stb := none } }

/-- The hypotheses of SecurityOpcodes are met. -/
theorem witness_SecurityOpcodes :
  Meets 0x1001 (fun _ b => b.act.security.record.state = .shipping) ∧
  Meets 0x1001 (fun _ b => b.act.security.record.state ≠ .shipping) ∧
  Meets 0x1002 (fun _ _ => True) ∧
  Meets 0x1003 (fun c b => keyKindError c.packet.params = none ∧ b.act.security.record.state ≠ .shipping ∧
      fld c.packet.params 4 4 ≤ b.hsw.nv.importCtr) ∧
  Meets 0x1003 (fun c b =>
      let ps := c.packet.params
      fld ps 0 1 = 2 ∧ keyKindError ps = none ∧ b.act.security.record.state ≠ .shipping ∧ b.hsw.nv.importCtr < fld ps 4 4) ∧
  Meets 0x1003 (fun c b =>
      let ps := c.packet.params
      fld ps 0 1 = 1 ∧ b.act.security.record.state ≠ .shipping ∧ b.hsw.nv.importCtr < fld ps 4 4 ∧
        fld ps 8 4 = 0 ∧ b.ctl.conns = [] ∧ b.cfg.keys.next = none ∧ b.cfg.keys.current = none) ∧
  Meets 0x1004 (fun _ _ => True) ∧
  Meets 0x1005 (fun c _ => fld c.packet.params 0 1 = 0 ∧ (slice c.packet.params 4 96).any (· != 0) = false) ∧
  Meets 0x1005 (fun c b => fld c.packet.params 0 1 = 1 ∧ b.vol.sec.challenge = none) ∧
  (∃ x : List Byte, Meets 0x1005 (fun c b => fld c.packet.params 0 1 = 1 ∧ b.vol.sec.challenge = some x ∧ b.standbyOk = false)) ∧
  (∃ x : List Byte, Meets 0x1005 (fun c b => fld c.packet.params 0 1 = 1 ∧ b.vol.sec.challenge = some x ∧ b.standbyOk = true)) :=
  ⟨meets (pkt (zeros 32)) (shipping) (by decide +kernel) (by decide +kernel),
   meets (pkt (zeros 32)) (demo) (by decide +kernel) (by decide +kernel),
   meets (pkt []) (demo) (by decide +kernel) (by decide +kernel),
   meets (importPk 2 0 0) (demo) (by decide +kernel) (by decide +kernel),
   meets (importPk 2 0 1) (demo) (by decide +kernel) (by decide +kernel),
   meets (importPk 1 9 1) (demo) (by decide +kernel) (by decide +kernel),
   meets (pkt []) (member) (by decide +kernel) (by decide +kernel),
   meets (unlockPk 0) (demo) (by decide +kernel) (by decide +kernel),
   meets (unlockPk 1) (demo) (by decide +kernel) (by decide +kernel),
   ⟨[1], meets (unlockPk 1) ({ demo with vol.sec := { demo.vol.sec with challenge := some [1] } }) (by decide +kernel) (by decide +kernel)⟩,
   ⟨[1], meets (unlockPk 1) ({ ready16 with vol.sec := { demo.vol.sec with challenge := some [1] } }) (by decide +kernel) (by decide +kernel)⟩⟩

/-- The hypotheses of TamperEvents are met. -/
theorem witness_TamperEvents :
  (∃ (x : SideId) (n v : Nat) (c : Int) (k : Bool) (s : State),
    (s.side x).security.record.state = .armed ∧
    s.trips n ≠ 0 ∧
    s.hsw.active ≠ some x ∧
    (s.side x).start = none) ∧
  (∃ (x : SideId) (n v : Nat) (c : Int) (k : Bool) (s : State),
    (s.side x).security.record.state = .armed ∧
    s.trips n ≠ 0 ∧
    s.hsw.active = some x ∧
    (s.side x).start = none ∧
    (s.side x).mainOn = true ∧
    s.vol.redun.relinquish = none ∧
    s.hsw.warned = false) ∧
  (∃ (x : SideId) (n v : Nat) (c : Int) (k : Bool) (s : State),
    ((s.side x).security.record.state ≠ .armed ∨ s.trips n = 0)) ∧
  (∃ (n : Nat) (s : State),
    (s.trips n).testBit 3 = true) ∧
  (∃ s : State,
    s.hsw.serving = true ∧
    s.hsw.nv.tamperA = true ∧
    s.hsw.nv.tamperB = false ∧
    s.ctl.time.stb = none ∧
    (s.sess 0).isOpen = true) ∧
  (∃ s : State,
    s.hsw.nv.tamperA = false ∧
    s.hsw.nv.tamperB = false) ∧
  (∃ (e : Nat) (s : State),
    s.actOn = true) :=
  ⟨⟨.b, 1, 3000, (-40), false, demo, by decide +kernel⟩,
   ⟨.a, 1, 3000, (-40), false, demo, by decide +kernel⟩,
   ⟨.b, 8, 3000, (-40), false, demo, by decide +kernel⟩,
   ⟨8, ({ demo with env := { demo.env with vinBelow := true } }), by decide +kernel⟩,
   ⟨marked, by decide +kernel⟩,
   ⟨demo, by decide +kernel⟩,
   ⟨3, demo, by decide +kernel⟩⟩

end Sys2Proof.Tests
end

