-- ==== Sys2Proof/Tests/WitnessSluice.lean ====
section
/-! SUPPORT.
Witnesses: states and operands that meet the hypotheses of the statements.
-/

set_option Elab.async false
set_option linter.unusedVariables false

namespace Sys2Proof.Tests

open Sys2Proof.Machine

/-- A stop of scope all, from the host. -/
def stop0 : Stop :=
  { no := 5, category := 2, cause := 5, targets := [], copies := 4, queuedNs := 0, members := [⟨0x77, 0x101, .pending⟩]
    confirmOver := false, reported := (0, 0, 0), spans := [], sentOn := [], site := none }

/-- The module that serves a member, with one stop in force. -/
def stopped : State := { member with ctl.sluice.stops := [stop0] }

/-- The inputs as they are given. -/
def inputs (a b : LoopIn) (s : State) : State := { s with vol.sluice.in0 := a, vol.sluice.in1 := b }

/-- The hypotheses of SluiceOpcodes are met. -/
theorem witness_SluiceOpcodes :
  Meets 0x0801 (fun _ _ => True) ∧
  Meets 0x0802 (fun c b => fld c.packet.params 0 1 = 1 ∧ fld c.packet.params 1 1 = 0 ∧ b.ofdmLanes = []) ∧
  Meets 0x0802 (fun c b => fld c.packet.params 0 1 = 2 ∧ fld c.packet.params 1 1 = 1 ∧ fld c.packet.params 4 32 = 0 ∧ b.ofdmLanes = []) ∧
  Meets 0x0802 (fun c b => (fld c.packet.params 0 1 = 0 ∧ fld c.packet.params 1 1 = 0 ∨
        fld c.packet.params 0 1 = 3 ∧ fld c.packet.params 4 32 = 0) ∧ b.vol.sluice.state ≠ .running) ∧
  Meets 0x0802 (fun c b => fld c.packet.params 0 1 = 0 ∧ fld c.packet.params 1 1 = 0 ∧ b.vol.sluice.state = .running ∧
      b.ctl.mode ≠ .idle ∧ b.loopClosed = true ∧ b.stops = [] ∧ b.hsw.active.isSome = true ∧ b.hasSiteKey = true ∧
      b.ofdmLanes ≠ [] ∧ b.ctl.sluice.grantMap ||| fld c.packet.params 4 32 ≠ b.ctl.sluice.grantMap) ∧
  Meets 0x0803 (fun c b => fld c.packet.params 1 1 = 0 ∧ b.suppressor 5 (fld c.packet.params 0 1) = none) ∧
  (∃ x : Stop, Meets 0x0803 (fun c b => fld c.packet.params 1 1 = 0 ∧ b.suppressor 5 (fld c.packet.params 0 1) = some x)) ∧
  (∃ (n : Nat) (f : Nat → Bool) (u : SluiceCtl),
    f n = false ∨ (tgetD u.withheld n 0).testBit 2 = false) ∧
  (∃ (n : Nat) (f : Nat → Bool) (u : SluiceCtl),
    f n = true ∧
    (tgetD u.withheld n 0).testBit 2 = true) ∧
  (∃ p : Packet,
    1 ≤ fld p.params 0 1 ∧
    fld p.params 0 1 ≤ 3 ∧
    fld p.params 1 1 = 2 ∧
    fld p.params 2 2 = 0 ∧
    0 < fld p.params 4 2 ∧
    fld p.params 4 2 < 0xFFFF ∧
    fld p.params 6 2 ≤ fld p.params 4 2) ∧
  Meets 0x0803 (fun c b => b.suppressor 5 (fld c.packet.params 0 1) = none ∧ 0 < fld c.packet.params 1 1 ∧
      (b.stops.filter fun x => !x.all).length < 37) ∧
  Meets 0x0804 (fun c b => (fld c.packet.params 0 1 = 1 → fld c.packet.params 2 2 = 0) ∧ b.loopClosed = false) ∧
  (∃ x : Stop, Meets 0x0804 (fun c b => fld c.packet.params 0 1 = 0 ∧ b.loopClosed = true ∧ b.releasable x = true ∧
      (b.stops.filter fun y => y.no == fld c.packet.params 2 2) = [x])) ∧
  (∃ x : Stop, Meets 0x0804 (fun c b => fld c.packet.params 0 1 = 0 ∧ b.loopClosed = true ∧ b.releasable x = false ∧
      (b.stops.filter fun y => y.no == fld c.packet.params 2 2) = [x])) ∧
  Meets 0x0805 (fun _ _ => True) :=
  ⟨meets (pf [(1, 30), (1, 1), (1, 2), (1, 3), (1, 2), (1, 1), (2, 2000), (4, 0)]) (demo) (by decide +kernel) (by decide +kernel),
   meets (pf [(1, 1), (1, 0), (2, 0), (32, 2)]) (demo) (by decide +kernel) (by decide +kernel),
   meets (pf [(1, 2), (1, 1), (2, 0), (32, 0), (2, 0x101)]) (demo) (by decide +kernel) (by decide +kernel),
   meets (pf [(1, 0), (1, 0), (2, 0), (32, 2)]) ({ demo with vol.sluice.state := .withdrawn }) (by decide +kernel) (by decide +kernel),
   meets (pf [(1, 0), (1, 0), (2, 0), (32, 4)]) (member) (by decide +kernel) (by decide +kernel),
   meets (pf [(1, 3), (1, 0), (2, 0)]) (stopped) (by decide +kernel) (by decide +kernel),
   ⟨stop0, meets (pf [(1, 1), (1, 0), (2, 0)]) (stopped) (by decide +kernel) (by decide +kernel)⟩,
   ⟨0x101, fun _ => false, SluiceCtl.start, by decide +kernel⟩,
   ⟨0x101, fun _ => true, { SluiceCtl.start with withheld := [(0x101, 4)] }, by decide +kernel⟩,
   ⟨pf [(1, 1), (1, 2), (2, 0), (2, 0x102), (2, 0x101)], by decide +kernel⟩,
   meets (pf [(1, 1), (1, 2), (2, 0), (2, 0x101), (2, 0x102)]) (member) (by decide +kernel) (by decide +kernel),
   meets (pf [(1, 1), (1, 0), (2, 0)]) (inputs .opened .closed stopped) (by decide +kernel) (by decide +kernel),
   ⟨stop0, meets (pf [(1, 0), (1, 0), (2, 5)]) (stopped) (by decide +kernel) (by decide +kernel)⟩,
   ⟨{ stop0 with cause := 7, site := some ⟨9, 1, false⟩ }, meets (pf [(1, 0), (1, 0), (2, 5)]) ({ member with ctl.sluice.stops := [{ stop0 with cause := 7, site := some ⟨9, 1, false⟩ }] }) (by decide +kernel) (by decide +kernel)⟩,
   meets (pkt []) (stopped) (by decide +kernel) (by decide +kernel)⟩

/-- The hypotheses of SluiceLoopAndSlots are met. -/
theorem witness_SluiceLoopAndSlots :
  (∃ (i : Nat) (s : State),
    i ≤ 1 ∧
    s.loopOn = true ∧
    s.loopIn i ≠ .opened ∧
    s.suppressor (2 + i) s.cfg.sluice.loopCat = none) ∧
  (∃ (i : Nat) (s : State),
    i ≤ 1 ∧
    s.loopOn = true) ∧
  (∃ s : State,
    s.loopOn = true ∧
    s.vol.sluice.discSince = true ∧
    s.vol.sluice.discStop = false ∧
    s.suppressor 4 s.cfg.sluice.discCat = none) ∧
  (∃ (asn a : Nat) (s : State),
    s.ctl.time.atb = some a ∧
    a ≤ atbOfAsn asn) ∧
  (∃ (asn : Nat) (s : State),
    s.sluiceSends = true ∧
    s.ofdmLanes ≠ [] ∧
    chooseStop (countEvents 0x0201 none 1 (noteOverflow s.permission.2.2 s)).stopsDue = none) ∧
  (∃ (l asn a : Nat) (s : State),
    s.ctl.time.atb = some a ∧
    a ≤ atbOfAsn asn ∧
    asn % 100 = 0 ∧
    (s.lane l).ofdm = false ∧
    s.sluiceSends = true) ∧
  (∃ (n : Nat) (s : State),
    (s.stops.map Stop.no).Nodup) ∧
  (∃ (n : Nat) (x : Stop) (s : State),
    s.stops.find? (fun y => y.no == n) = some x) :=
  ⟨⟨1, member, by decide +kernel⟩,
   ⟨0, member, by decide +kernel⟩,
   ⟨({ inputs .closed .fault member with vol.sluice.discSince := true }), by decide +kernel⟩,
   ⟨(member.asn + 1), stb0, member, by decide +kernel⟩,
   ⟨member.asn, member, by decide +kernel⟩,
   ⟨4, ((member.asn / 100 + 1) * 100), stb0, member, by decide +kernel⟩,
   ⟨5, stopped, by decide +kernel⟩,
   ⟨5, stop0, stopped, by decide +kernel⟩⟩

end Sys2Proof.Tests
end

