-- ==== Sys2Proof/Tests/WitnessSolver.lean ====
section
/-! SUPPORT.
Witnesses: states and operands that meet the hypotheses of the statements.
-/

set_option Elab.async false
set_option linter.unusedVariables false

namespace Sys2Proof.Tests

open Sys2Proof.Machine

/-- The setting of a solved member. -/
def solver0 : SolverMember :=
  { mode := 0, rate := 0, minState := 1, grace := 5, decim := 1, hal := 1000, val := 2000, pcoUp := 0, sigMask := 0x1FFFFE }

/-- The module that serves a member, which it also solves. -/
def solving : State := { member with ctl.cfg.solver.members := [(0x101, solver0)] }

/-- The solved member has a run in a given state. -/
def solvingRun (x : SolveRun) : State := { solving with vol.solver := { solving.vol.solver with runs := [(0x101, x)] } }

/-- An exclusion whose time has passed, long clean. -/
def excl0 : SatExclusion := { const := 0, sv := 7, elapsed := true, clean := 100000, tile := (0, 0) }

/-- A tile alarm, long clean. -/
def tile0 : TileAlarm := { tile := (1, -2), clean := 100000 }

/-- The parameters of SOLVER.MEMBER. -/
def memberPs (act : Int) : List (Nat × Int) :=
  [(2, 0x101), (1, 1), (1, act), (1, 2), (1, 1), (1, 5), (1, 1), (4, 1000), (4, 2000), (2, 0), (2, 0), (4, 0x1FFFFE)]

/-- The hypotheses of SolverOpcodes are met. -/
theorem witness_SolverOpcodes :
  Meets 0x0401 (fun _ _ => True) ∧
  Meets 0x0402 (fun c b => fld c.packet.params 2 1 = 0 ∧ (tget b.cfg.solver.members (fld c.packet.params 0 2)).isSome = true ∧
      b.ctl.mode ≠ .fen ∧ (∀ k ∈ b.conn (fld c.packet.params 0 2), k.edition ≠ 1) ∧
      firstNonZeroField c.packet.params
        [(3, 1), (4, 1), (5, 1), (6, 1), (7, 1), (8, 4), (12, 4), (16, 2), (20, 4)] = none) ∧
  Meets 0x0402 (fun c b => fld c.packet.params 2 1 ≠ 0 ∧ b.ctl.mode ≠ .fen ∧
      (∀ k ∈ b.conn (fld c.packet.params 0 2), k.edition ≠ 1) ∧
      rate10 (readMember c.packet.params).rate ≤ 10 * b.cfg.gnss.epochRate ∧
      capacityError (tput b.cfg.solver.members (fld c.packet.params 0 2) (readMember c.packet.params)) b.baselineRun = none) ∧
  (∃ (n : Nat) (m : SolverMember) (s : State),
    tget s.cfg.solver.members n = none) ∧
  (∃ (n : Nat) (m : SolverMember) (s : State) (o : _),
    tget s.cfg.solver.members n = some o) ∧
  Meets 0x0402 (fun c b => fld c.packet.params 2 1 ≠ 0 ∧ b.ctl.mode = .fen) ∧
  Meets 0x0403 (fun _ _ => True) ∧
  Meets 0x0404 (fun _ _ => True) ∧
  Meets 0x0405 (fun c b => fld c.packet.params 0 2 ≠ 0xFFFF ∧ (tget b.cfg.solver.members (fld c.packet.params 0 2)).isSome = true) ∧
  Meets 0x0405 (fun c _ => fld c.packet.params 0 2 = 0xFFFF) ∧
  Meets 0x0405 (fun c b => fld c.packet.params 0 2 ≠ 0xFFFF ∧ tget b.cfg.solver.members (fld c.packet.params 0 2) = none) ∧
  Meets 0x0406 (fun c _ => fld c.packet.params 0 1 = 1) ∧
  Meets 0x0406 (fun c _ => fld c.packet.params 0 1 = 2 ∧
      firstNonZeroField c.packet.params [(1, 1), (2, 2), (4, 2), (6, 1), (8, 2), (10, 2)] = none) :=
  ⟨meets (pf [(2, 300), (2, 30), (4, 10000), (4, 10000), (2, 10), (2, 10), (2, 300), (1, 5), (1, 3), (1, 10), (1, 2), (2, 500), (2, 600), (2, 600), (2, 500), (2, 50)]) (demo) (by decide +kernel) (by decide +kernel),
   meets (pf [(2, 0x101), (1, 0), (21, 0)]) (solving) (by decide +kernel) (by decide +kernel),
   meets (pf (memberPs 0)) (member) (by decide +kernel) (by decide +kernel),
   ⟨0x101, solver0, member, by decide +kernel⟩,
   ⟨0x101, solver0, solving, solver0, by decide +kernel⟩,
   meets (pf (memberPs 0)) ({ member with ctl.mode := .fen }) (by decide +kernel) (by decide +kernel),
   meets (pf [(1, 2), (3, 0), (2, 0x101), (2, 5)]) (solving) (by decide +kernel) (by decide +kernel),
   meets (pkt []) (solving) (by decide +kernel) (by decide +kernel),
   meets (pf [(2, 0x101), (2, 0)]) (solving) (by decide +kernel) (by decide +kernel),
   meets (pf [(2, 0xFFFF), (2, 0)]) (solving) (by decide +kernel) (by decide +kernel),
   meets (pf [(2, 0x102), (2, 0)]) (solving) (by decide +kernel) (by decide +kernel),
   meets (pf [(1, 1), (1, 5), (2, 500), (2, 50), (1, 3), (1, 0), (2, 60), (2, 30), (4, 0)]) (solving) (by decide +kernel) (by decide +kernel),
   meets (pf [(1, 2), (15, 0)]) (solving) (by decide +kernel) (by decide +kernel)⟩

/-- The hypotheses of SolverEvents are met. -/
theorem witness_SolverEvents :
  (∃ (core : Nat) (i : WorkItem) (k : Nat) (d : List Byte) (s u : State),
    s.servedItem core 1 = some i ∧
    itemPacket i s = (some (k, d), u)) ∧
  (∃ (core : Nat) (i : WorkItem) (d : List Byte) (s u : State),
    s.servedItem core 2 = some i ∧
    itemPacket i s = (some (5, d), u)) ∧
  (∃ (core : Nat) (i : WorkItem) (d : List Byte) (s u : State),
    s.servedItem core 2 = some i ∧
    itemPacket i s = (some (4, d), u)) ∧
  (∃ (n : Nat) (m : SolverMember) (s : State),
    s.solved n = some m ∧
    (s.solveRun n).waiting = true ∧
    s.hsw.warned = false ∧
    let v := s.modSolveRun n fun x => { x with readyAt := s.mtb }
    v.servesNow 4 (s.flowOf n) = true) ∧
  (∃ (n : Nat) (m : SolverMember) (s : State),
    s.solved n = some m ∧
    (s.solveRun n).waiting = true ∧
    s.hsw.warned = false ∧
    let v := s.modSolveRun n fun x => { x with readyAt := s.mtb }
    v.servesNow 4 (s.flowOf n) = false) ∧
  (∃ (n e : Nat) (m : SolverMember) (s : State),
    s.solved n = some m ∧
    s.ctl.time.stb.isSome = true ∧
    s.hsw.warned = false ∧
    (s.solveRun n).lacks e = true ∧
    let iv := (s.solveRun n).interval m e
    let p := passToStb ((e + iv + 20) * 65536000000) s
    let v := p.modSolveRun n fun x => { x with readyAt := p.mtb }
    onGrid iv e = true ∧
    v.servesNow 4 (s.flowOf n) = true) ∧
  (∃ (n e : Nat) (s : State),
    (s.solveRun n).lacks e = false) ∧
  (∃ (n : Nat) (s : State),
    s.conn n = none ∧
    (s.solveRun n).endedAt ≠ none) ∧
  (∃ (v : Nat) (b : BasePos) (s : State),
    s.ctl.time.stb = some v ∧
    s.cfg.corr.base = some b ∧
    s.hsw.warned = false) ∧
  (∃ (c v : Nat) (x : SatExclusion) (s : State),
    (s.vol.solver.exclusions.find? fun y => y.const == c && y.sv == v) = some x ∧
    x.elapsed = true ∧
    s.cfg.solver.clearS ≤ x.clean) ∧
  (∃ (e n : Int) (a : TileAlarm) (s : State),
    (s.vol.solver.tiles.find? fun a => a.tile == (e, n)) = some a ∧
    s.cfg.solver.clearS ≤ a.clean) :=
  ⟨⟨0, (workItem 1 1 0x101), 1, ([0, 0]), (serving 1 1 [0, 0] solving), ((itemPacket (workItem 1 1 0x101) (serving 1 1 [0, 0] solving)).2), ⟨by decide +kernel, rfl⟩⟩,
   ⟨0, (workItem 2 5 0x101), ([1, 2, 3]), (serving 2 5 [1, 2, 3] solving), ((itemPacket (workItem 2 5 0x101) (serving 2 5 [1, 2, 3] solving)).2), ⟨by decide +kernel, rfl⟩⟩,
   ⟨0, (workItem 2 4 0x101), (zeros 32), (serving 2 4 (zeros 32) solving), ((itemPacket (workItem 2 4 0x101) (serving 2 4 (zeros 32) solving)).2), ⟨by decide +kernel, rfl⟩⟩,
   ⟨0x101, solver0, (solvingRun { SolveRun.start with waiting := true, epochMs := 1000000100000 }), by decide +kernel⟩,
   ⟨0x101, solver0, (behind (solvingRun SolveRun.start |>.flowOf 0x101) 4 (solvingRun { SolveRun.start with waiting := true, epochMs := 1000000100000 })), by decide +kernel⟩,
   ⟨0x101, 999999999000, solver0, (solvingRun { SolveRun.start with begun := true, epochMs := 999999998000 }), by decide +kernel⟩,
   ⟨0x101, 0, solvingRun SolveRun.start, by decide +kernel⟩,
   ⟨0x101, ({ demo with vol.solver := { demo.vol.solver with runs := [(0x101, { SolveRun.start with endedAt := some 0 })] }, ctl.filters := [(0x101, default)] }), by decide +kernel⟩,
   ⟨stb0, base0, ({ solving with ctl.cfg.corr.base := some base0 }), by decide +kernel⟩,
   ⟨0, 7, excl0, ({ solving with vol.solver := { solving.vol.solver with exclusions := [excl0] } }), by decide +kernel⟩,
   ⟨1, (-2), tile0, ({ solving with vol.solver := { solving.vol.solver with tiles := [tile0] } }), by decide +kernel⟩⟩

end Sys2Proof.Tests
end

