-- ==== Sys2Proof/Tests/WitnessStart.lean ====
section
/-! SUPPORT.
Witnesses: states and operands that meet the hypotheses of the statements.
-/

set_option Elab.async false
set_option linter.unusedVariables false

namespace Sys2Proof.Tests

open Sys2Proof.Machine

/-- Side A is in a stage of a start. -/
def starting (k : StartKind) (g : Stage) : State :=
  { demo with sideA.start := some { StartRun.module 0 with kind := k, stage := g } }
def run (k : StartKind) (g : Stage) : StartRun := { StartRun.module 0 with kind := k, stage := g }
/-- A checkpoint of the demonstration's run. -/
def ckpt0 : Checkpoint :=
  { seq := 4, epoch := 7, prevSeq := 3, noFallback := false, final := false, first := false, pages := 1, image := 1
    snapMtb := 0, sealMtb := 0, snapClock := 0, asn := 0, floors := [0, 0, 0, 0], lists := [[], [], [], []], run := demo.hsw.runNo
    format := 0, insts := [some 1, some 1, none, none], pageMap := [], mapHash := [], tag := [], ctl := demo.ctl }
def powerOff : State := { demo with env := { vinUp := false, vinBelow := false, vbatOk := true } }
def heldReset : State := { demo with hsw.resetHeld := true }
def woken : State :=
  { starting .handover .stateLoad with
    sideA.ckpts := { newest := some ckpt0, newestAt := 0, previous := none, prevAt := 0 }
    sideA.firmware.slot0 := { SlotImage.empty with valid := true, ckReadHi := 1 } }

/-- The hypotheses of ModulePowerAndReset are met. -/
theorem witness_ModulePowerAndReset :
  (∃ (s1 s0 : Bool) (s : State),
    s.env.vinUp = false) ∧
  (∃ (s1 s0 : Bool) (s : State),
    s.env.vinUp = true ∧
    s.hsw.resetHeld = true ∧
    s.hsw.warned = false) ∧
  (∃ s : State,
    s.env.vinUp = true) ∧
  (∃ (absent : Bool) (s : State),
    s.env.vinUp = true ∧
    (s.hsw.warned = true ∨ absent = true)) ∧
  (∃ (mv : Nat) (s : State),
    s.env.vinBelow = false) ∧
  (∃ (mv : Nat) (s : State),
    s.env.vinBelow = true) :=
  ⟨⟨true, false, powerOff, by decide +kernel⟩,
   ⟨false, true, heldReset, by decide +kernel⟩,
   ⟨demo, by decide +kernel⟩,
   ⟨true, demo, by decide +kernel⟩,
   ⟨2100, demo, by decide +kernel⟩,
   ⟨2100, ({ demo with env := { vinUp := false, vinBelow := true, vbatOk := true } }), by decide +kernel⟩⟩

/-- The hypotheses of StartStages are met. -/
theorem witness_StartStages :
  (∃ (ok : Bool) (s : State),
    s.env.vinUp = true ∧
    s.hsw.resetHeld = false ∧
    s.hsw.ready = false ∧
    s.hsw.wakeDue = false ∧
    s.vol.redun.due = false) ∧
  (∃ (v : Bool) (x : SideId) (r : StartRun) (s : State),
    s.starting .bootRom = some (x, r) ∧
    (r.kind = .module → s.hsw.ready = true) ∧
    (s.side x).security.record.state = .armed ∧
    (s.side x).security.crownValid = true) ∧
  (∃ (v : Bool) (x : SideId) (r : StartRun) (s : State),
    s.starting .bootRom = some (x, r) ∧
    (r.kind = .module → s.hsw.ready = true) ∧
    (s.side x).locked = true) ∧
  (∃ (ok0 ok1 : Bool) (x : SideId) (r : StartRun) (s : State),
    s.starting .imageVerify = some (x, r) ∧
    (s.side x).firmware.flags.trial = .none ∧
    let f := (s.side x).firmware
    let k := f.flags.active
    ((f.slot k).valid && (if k = 0 then ok0 else ok1)) = true) ∧
  (∃ (ok : Bool) (a b torn : Bool) (x : SideId) (r : StartRun) (s : State),
    s.starting .stateLoad = some (x, r) ∧
    r.kind = .module ∧
    ok = true) ∧
  (∃ (ok a b torn : Bool) (x : SideId) (r : StartRun) (c : Checkpoint) (n : Nat) (e : Option Nat) (s : State),
    s.starting .stateLoad = some (x, r) ∧
    r.kind = .handover ∧
    selectCheckpoint (s.side x) s.hsw.runNo a b = some (c, n, e)) ∧
  (∃ (a b : Option Bool) (x : SideId) (r : StartRun) (s : State),
    s.starting .radioHead = some (x, r)) ∧
  (∃ (stb : Nat) (s : State),
    s.actOn = true ∧
    s.stageEnded 6 = true ∧
    s.hsw.warned = false ∧
    (s.vol.time.state = .invalid → s.firstReady = true)) ∧
  (∃ (r : StartRun) (s : State),
    s.actOn = true ∧
    s.hsw.warned = false ∧
    s.act.start = some r ∧
    r.stage = .gnss) ∧
  (∃ (r : StartRun) (s : State),
    s.actOn = true ∧
    s.hsw.warned = false ∧
    s.act.start = some r ∧
    r.stage = .heartbeat ∧
    r.kind = .module) ∧
  (∃ (r : StartRun) (s : State),
    s.actOn = true ∧
    s.hsw.warned = false ∧
    s.act.start = some r ∧
    r.stage = .heartbeat ∧
    r.kind = .handover) ∧
  (∃ (r : StartRun) (s : State),
    s.hsw.active ≠ none ∧
    s.hsw.warned = false ∧
    s.act.start = some r ∧
    r.stage ≠ .gnss) :=
  ⟨⟨true, ({ demo with hsw.ready := false }), by decide +kernel⟩,
   ⟨true, .a, (run .module .bootRom), (starting .module .bootRom), by decide +kernel⟩,
   ⟨true, .a, (run .module .bootRom), ({ starting .module .bootRom with sideA.security.record.state := .locked }), by decide +kernel⟩,
   ⟨true, false, .a, (run .module .imageVerify), (starting .module .imageVerify), by decide +kernel⟩,
   ⟨true, true, true, false, .a, (run .module .stateLoad), (starting .module .stateLoad), by decide +kernel⟩,
   ⟨true, true, true, false, .a, (run .handover .stateLoad), ckpt0, 0, none, woken, by decide +kernel⟩,
   ⟨none, (some true), .a, (run .module .radioHead), (starting .module .radioHead), by decide +kernel⟩,
   ⟨stb0, ({ starting .module .gnss with ctl.time.stb := none }), by decide +kernel⟩,
   ⟨(run .module .gnss), (starting .module .gnss), by decide +kernel⟩,
   ⟨(run .module .heartbeat), (starting .module .heartbeat), by decide +kernel⟩,
   ⟨(run .handover .heartbeat), (starting .handover .heartbeat), by decide +kernel⟩,
   ⟨(run .module .radioHead), (starting .module .radioHead), by decide +kernel⟩⟩

end Sys2Proof.Tests
end

