-- ==== Sys2Proof/Tests/WitnessTime.lean ====
section
/-! SUPPORT.
Witnesses: states and operands that meet the hypotheses of the statements.
-/

set_option Elab.async false
set_option linter.unusedVariables false

namespace Sys2Proof.Tests

open Sys2Proof.Machine

/-- The demonstration with a state of site time. -/
def demoTime (f : TimeRun → TimeRun) : State := { demo with vol.time := f demo.vol.time }

/-- Holdover A for 50 s. -/
def holdA0 : State := demoTime fun r => { r with state := .holdoverA, estErr := 655360, entryErr := 655360, enteredAt := 50 * tickS, modelAt := 50 * tickS }

/-- Four satellites in phase lock. -/
def locked4 (s : State) : State :=
  { s with vol.gnss.channels := (List.range 4).map fun k =>
      (k, { Channel.acquire (GnssSettings.factory.autoSet 1 (k + 1) 0) with state := .phaseLock }) }

/-- A step announced for a second. -/
def step0 : StbStep := ⟨1000000010, -131072000⟩

/-- Both site ports run PTP as a boundary clock, port 0 as slave and port 1 as master. -/
def ptpDemo (mech oneStep mode : Nat) : State :=
  { demo with
    ctl.timeCfg.ptp := { demo.ctl.timeCfg.ptp with
      mode := mode, ptbSource := 1
      ports := List.replicate 2 { PtpPortSettings.factory with enable := true, delayMech := mech, oneStep := oneStep } }
    vol.time.ports := [{ PtpPort.start with state := .slave }, { PtpPort.start with state := .master }] }

/-- The first 44 octets of a PTP message of the domain. -/
def ptpBody (type flags seq : Nat) : List Byte :=
  beBytes 1 type ++ beBytes 1 0x12 ++ zeros 2 ++ beBytes 1 demo.ctl.timeCfg.ptp.domain ++ zeros 1 ++ beBytes 1 flags ++ zeros 23 ++
    beBytes 2 seq ++ zeros 12

/-- A state of port 0 beside that of ptpDemo. -/
def withPtp0 (f : PtpPort → PtpPort) (s : State) : State := s.modPtp 0 f

/-- The parameters of one PTP port. -/
def ptpPortPs : List (Nat × Int) :=
  [(1, 1), (1, 1), (1, 1), (1, -3), (1, 1), (1, 3), (1, -2), (1, 0), (2, 100), (2, 200), (4, -50)]

/-- The hypotheses of TimeOpcodes are met. -/
theorem witness_TimeOpcodes :
  Meets 0x0501 (fun c b => (fld c.packet.params 0 1 = 1 ∨ fld c.packet.params 1 1 = 2 → b.vol.time.syncRef = true) ∧
      (b.ctl.timeCfg.atbSlew < fld c.packet.params 12 2 → b.ctl.conns = [])) ∧
  Meets 0x0501 (fun c b => (fld c.packet.params 0 1 = 1 ∨ fld c.packet.params 1 1 = 2) ∧ b.vol.time.syncRef = false) ∧
  Meets 0x0502 (fun c b => ptpError (readPtp c.packet.params) = none ∧
      ∀ p, p < 2 → (readPtpPort c.packet.params p).enable = true → (b.cfg.fed.ports.getD p SitePort.factory).enable = true) ∧
  Meets 0x0503 (fun c b => fld c.packet.params 2 6 = 0 ∧ fld c.packet.params 1 1 = fld c.packet.params 0 1 ∨
      fld c.packet.params 2 6 ≠ 0 ∧ (∀ x ∈ b.ctl.time.stb, x < fld c.packet.params 2 6 * unitS) ∧
        (fld c.packet.params 1 1 = fld c.packet.params 0 1 + 1 ∨ fld c.packet.params 0 1 = fld c.packet.params 1 1 + 1)) ∧
  Meets 0x0504 (fun _ b => b.vol.time.state.holdover = false) ∧
  Meets 0x0504 (fun _ b => b.vol.time.state.holdover = true) ∧
  Meets 0x0505 (fun _ _ => True) :=
  ⟨meets (pf [(1, 0), (1, 1), (1, 1), (1, 0), (4, 1000), (4, -500), (2, 2000), (1, 1), (1, 10)]) (demo) (by decide +kernel) (by decide +kernel),
   meets (pf [(1, 1), (1, 1), (1, 1), (1, 0), (4, 1000), (4, -500), (2, 1000), (1, 1), (1, 10)]) (demo) (by decide +kernel) (by decide +kernel),
   meets (pf ([(1, 4), (1, 0), (1, 24), (1, 0), (1, 128), (1, 127), (1, 1), (1, 0)] ++ ptpPortPs ++ ptpPortPs ++ [(2, 100), (2, 0)])) ({ demo with ctl.cfg.fed.ports := List.replicate 2 { SitePort.factory with enable := true } }) (by decide +kernel) (by decide +kernel),
   meets (pf [(1, 37), (1, 38), (6, 1100000000)]) (demo) (by decide +kernel) (by decide +kernel),
   meets (pkt []) (demo) (by decide +kernel) (by decide +kernel),
   meets (pkt []) (holdA0) (by decide +kernel) (by decide +kernel),
   meets (pkt []) (demo) (by decide +kernel) (by decide +kernel)⟩

/-- The hypotheses of SiteTimeEvents are met. -/
theorem witness_SiteTimeEvents :
  (∃ s : State,
    s.vol.time.state = .locked ∨ s.vol.time.state = .fenLocked ∨ s.vol.time.state = .returning) ∧
  (∃ s : State,
    s.vol.time.state = .holdoverA ∧
    s.vol.time.pending = none) ∧
  (∃ s : State,
    s.vol.time.state = .holdoverB ∧
    s.vol.time.pending = none) ∧
  (∃ (e : Int) (s : State),
    (s.vol.time.state.holdover = true ∨ s.vol.time.state = .restored) ∧
    s.vol.time.pending = none ∧
    s.returnReady = true ∧
    s.vol.time.timingOk = true ∧
    e.natAbs < unitUs) ∧
  (∃ (e : Int) (s : State),
    (s.vol.time.state.holdover = true ∨ s.vol.time.state = .restored) ∧
    s.vol.time.pending = none ∧
    s.returnReady = true ∧
    s.vol.time.timingOk = true ∧
    unitUs ≤ e.natAbs) ∧
  (∃ s : State,
    s.vol.time.state = .returning ∧
    s.vol.time.nextSlew = none) ∧
  (∃ (x : StbStep) (s : State),
    s.vol.time.pending = some x) ∧
  (∃ s : State,
    s.pulsesRun = true) ∧
  (∃ (x : SideId) (s : State),
    s.hsw.active ≠ some x) ∧
  (∃ (k n : Nat) (x : Rat),
    0 ≤ x ∧
    nearestEdge x = n) ∧
  (∃ s : State,
    s.pulsesRun = true ∧
    s.ctl.timeCfg.info = true) ∧
  (∃ (a : Nat) (s : State),
    s.ctl.time.atb = some a ∧
    s.ctl.time.stb.isSome = true ∧
    s.ctl.time.atbOffsetSf ≠ 0 ∧
    s.ctl.conns = []) ∧
  (∃ (g a n k : Nat) (s : State),
    s.ctl.timeCfg.leapHost = none ∧
    (s.vol.time.decoded = none ∨ s.vol.time.decodedBy ≠ 0 ∨ g = 0)) ∧
  (∃ (g a n k : Nat) (s : State),
    s.ctl.timeCfg.leapHost = none ∧
    s.vol.time.decoded ≠ none ∧
    s.vol.time.decodedBy = 0 ∧
    g ≠ 0) ∧
  (∃ s : State,
    s.leap.changeAt ≠ 0 ∧
    s.ctl.time.stb.isSome = true) ∧
  (∃ s : State,
    s.vol.time.state.holdover = true ∧
    s.vol.time.refInUse = 1) ∧
  (∃ s : State,
    s.vol.time.state.holdover = false) ∧
  (∃ (v : Nat) (s : State),
    s.ctl.time.stb = some v ∧
    s.ctl.timeCfg.ppsIn = true) :=
  ⟨⟨demo, by decide +kernel⟩,
   ⟨holdA0, by decide +kernel⟩,
   ⟨({ holdA0 with vol.time.state := .holdoverB, vol.time.estErr := 6553601 }), by decide +kernel⟩,
   ⟨65535999, (locked4 { holdA0 with vol.time.timingOk := true }), by decide +kernel⟩,
   ⟨(-65536000), (locked4 { holdA0 with vol.time.timingOk := true }), by decide +kernel⟩,
   ⟨(demoTime fun r => { r with state := .returning, remaining := 1000000 }), by decide +kernel⟩,
   ⟨step0, ({ holdA0 with vol.time.pending := some step0 }), by decide +kernel⟩,
   ⟨({ demo with vol.time.ppsFrom := 1000000001 }), by decide +kernel⟩,
   ⟨.b, demo, by decide +kernel⟩,
   ⟨0, 0, 8 / 5, by decide +kernel⟩,
   ⟨({ demo with vol.time.ppsFrom := 1000000001 }), by decide +kernel⟩,
   ⟨stb0, ({ demo with ctl.time.atbOffsetSf := 5 }), by decide +kernel⟩,
   ⟨1, 37, 38, 1100000000, demo, by decide +kernel⟩,
   ⟨1, 37, 38, 1100000000, (demoTime fun r => { r with decoded := some ⟨37, 38, 1000000020⟩, decodedBy := 0 }), by decide +kernel⟩,
   ⟨(demoTime fun r => { r with decoded := some ⟨37, 38, 1000000020⟩ }), by decide +kernel⟩,
   ⟨(demoTime fun r => { r with state := .holdoverA, refInUse := 1, syncRef := true }), by decide +kernel⟩,
   ⟨demo, by decide +kernel⟩,
   ⟨stb0, ({ demo with ctl.timeCfg.ppsIn := true }), by decide +kernel⟩⟩

/-- The hypotheses of PtpEvents are met. -/
theorem witness_PtpEvents :
  (∃ (p : Nat) (b : List Byte) (s : State),
    s.ptpOn p = true ∧
    s.ptpMine b = true ∧
    ptpType b = 0 ∧
    (s.ptpPort p).state = .slave ∧
    ptpTwoStep b = false) ∧
  (∃ (p : Nat) (b : List Byte) (s : State),
    s.ptpOn p = true ∧
    s.ptpMine b = true ∧
    ptpType b = 0 ∧
    (s.ptpPort p).state = .slave ∧
    ptpTwoStep b = true) ∧
  (∃ (p : Nat) (b : List Byte) (s : State),
    s.ptpOn p = true ∧
    s.ptpMine b = true ∧
    ptpType b = 1 ∧
    (s.ptpPort p).state = .master ∧
    (s.ptpSet p).delayMech = 0) ∧
  (∃ (p : Nat) (b : List Byte) (s : State),
    s.ptpOn p = true ∧
    s.ptpMine b = true ∧
    let u := countEvents 0x0A01 none 1 (countEvents 0x0B01 none 1 s)
    ptpType b = 2 ∧
    (s.ptpSet p).delayMech ≠ 0 ∧
    (s.ptpSet p).oneStep = 1) ∧
  (∃ (p : Nat) (b : List Byte) (s : State) (n : _) (t1 : _),
    s.ptpOn p = true ∧
    s.ptpMine b = true ∧
    ptpType b = 3 ∧
    (s.ptpSet p).delayMech ≠ 0 ∧
    (s.ptpPort p).pdelayReq = some (n, t1) ∧
    ptpSeq b = n ∧
    ptpRequester b = portIdentity p ∧
    ptpTwoStep b = false) ∧
  (∃ (p : Nat) (s : State),
    s.ptpOn p = true ∧
    let w := countEvents 0x0A01 none 1 (announceDue p s)
    let x := w.ptpPort p
    (s.ptpPort p).state = .master ∧
    (s.ptpSet p).oneStep = 1) ∧
  (∃ (p : Nat) (s : State),
    s.ptpOn p = true ∧
    let w := countEvents 0x0A01 none 1 (announceDue p s)
    (s.ptpPort p).state = .master ∧
    (s.ptpSet p).oneStep ≠ 1) ∧
  (∃ (p : Nat) (s : State),
    s.ptpOn p = true ∧
    let w := countEvents 0x0A01 none 1 (announceDue p s)
    let x := w.ptpPort p
    (s.ptpSet p).delayMech = 0 ∧
    (s.ptpPort p).state = .slave) ∧
  (∃ (p : Nat) (s : State),
    s.ptpOn p = true ∧
    let w := countEvents 0x0A01 none 1 (announceDue p s)
    (s.ptpSet p).delayMech = 1) ∧
  (∃ (p : Nat) (s : State),
    s.ptpOn p = false ∧
    s.peerOn p = true ∧
    (s.ptpSet p).delayMech = 1) ∧
  (∃ (p : Nat) (s : State),
    s.ptpOn p = true ∧
    (s.ptpPort p).state = .master ∧
    (s.ptpPort p).announced = none) ∧
  (∃ (p r sum : Nat) (b : List Byte) (s : State),
    p < 2 ∧
    (s.ptpSet p).enable = true ∧
    ptpType b ≤ 3 ∧
    (s.ctl.timeCfg.ptp.mode = 3 ∨ s.ctl.timeCfg.ptp.mode = 4)) ∧
  (∃ (p r sum : Nat) (b : List Byte) (s : State),
    p < 2 ∧
    (s.ptpSet p).enable = true ∧
    3 < ptpType b ∧
    (s.ctl.timeCfg.ptp.mode = 3 ∨ s.ctl.timeCfg.ptp.mode = 4)) ∧
  (∃ (p : Nat) (b : List Byte) (s : State),
    s.ptpOn p = true ∧
    s.ptpMine b = true ∧
    ptpType b = 11 ∧
    64 ≤ b.length ∧
    slice b 53 8 ≠ clockIdentity ∧
    (announceSet b).2 < 255) ∧
  (∃ (p n t2 : Nat) (c : Int) (b : List Byte) (s : State),
    s.ptpOn p = true ∧
    s.ptpMine b = true ∧
    ptpType b = 8 ∧
    (s.ptpPort p).waitSync = some (n, t2, c) ∧
    ptpSeq b = n) ∧
  (∃ (p : Nat) (s : State),
    s.ptpOn p = true) :=
  ⟨⟨0, ptpBody 0 0 5, (ptpDemo 0 0 2), by decide +kernel⟩,
   ⟨0, ptpBody 0 2 5, (ptpDemo 0 0 2), by decide +kernel⟩,
   ⟨1, ptpBody 1 0 5, (ptpDemo 0 0 2), by decide +kernel⟩,
   ⟨1, ptpBody 2 0 5, (ptpDemo 1 1 2), by decide +kernel⟩,
   ⟨0, ptpBody 3 0 5 ++ portIdentity 0, withPtp0 (fun x => { x with pdelayReq := some (5, 0) }) (ptpDemo 1 0 2), 5, 0,
     ⟨by decide +kernel, by decide +kernel, by decide +kernel, by decide +kernel, by decide +kernel, by decide +kernel, rfl, by decide +kernel⟩⟩,
   ⟨1, (ptpDemo 0 1 2), by decide +kernel⟩,
   ⟨1, (ptpDemo 0 0 2), by decide +kernel⟩,
   ⟨0, (ptpDemo 0 0 2), by decide +kernel⟩,
   ⟨1, (ptpDemo 1 0 2), by decide +kernel⟩,
   ⟨0, ({ ptpDemo 1 1 4 with ctl.timeCfg.ptp := { (ptpDemo 1 1 4).ctl.timeCfg.ptp with ptbSource := 0 } }), by decide +kernel⟩,
   ⟨1, (ptpDemo 0 0 2), by decide +kernel⟩,
   ⟨0, 655360, 7, ptpBody 1 0 5, (ptpDemo 1 0 4), by decide +kernel⟩,
   ⟨0, 655360, 7, ptpBody 9 0 5, (ptpDemo 0 0 3), by decide +kernel⟩,
   ⟨0, ptpBody 11 0 5 ++ zeros 20, (ptpDemo 0 0 2),
     ⟨by decide +kernel, by decide +kernel, by decide +kernel, by decide +kernel,
      fun h => absurd (congrArg (fun l => l.getD 3 0) h) (by decide +kernel), by decide +kernel⟩⟩,
   ⟨0, 5, 0, 0, ptpBody 8 0 5, withPtp0 (fun x => { x with waitSync := some (5, 0, 0) }) (ptpDemo 0 0 2), by decide +kernel⟩,
   ⟨0, (ptpDemo 0 0 2), by decide +kernel⟩⟩

end Sys2Proof.Tests
end

