-- ==== Sys2Proof/Tests/WitnessUpdate.lean ====
section
/-! SUPPORT.
Witnesses: states and operands that meet the hypotheses of the statements.
-/

set_option Elab.async false
set_option linter.unusedVariables false

namespace Sys2Proof.Tests

open Sys2Proof.Machine

/-- A slot that holds a version and asks nothing of the other parts. -/
def slot17 (v : Nat) : SlotImage :=
  { SlotImage.empty with valid := true, version := v, ckReadHi := 65535, reqHeadsHi := 0xFFFFFFFF, reqSideHi := 0xFFFFFFFF
                         reqSwitchHi := 0xFFFFFFFF }

def fw17 (v w : Nat) : Firmware := { Firmware.factory 0 with slot0 := slot17 v, slot1 := slot17 w }

/-- The demonstration with versions 1 in force, and 2 in the inactive slots. -/
def base17 : State :=
  { demo with
    sideA := { demo.sideA with firmware := fw17 1 2 }
    sideB := { demo.sideB with firmware := fw17 1 2 }
    hsw.nv := { demo.hsw.nv with firmware := fw17 1 2 } }

/-- A part entry of a full image. -/
def part17 (k : Nat) : ManifestPart :=
  { part := k, version := 2, bodyOff := 0, bodyLen := 1, resultLen := 0, ckWrite := 0, ckReadLo := 0, ckReadHi := 65535
    baseHash := zeros 48, resultHash := zeros 48, reqHeadsLo := 0, reqHeadsHi := 0xFFFFFFFF, reqSideLo := 0, reqSideHi := 0xFFFFFFFF
    reqSwitchLo := 0, reqSwitchHi := 0xFFFFFFFF }

def manifest17 : Manifest := { nBlocks := 1, pkgLen := 4, secVersion := 0, parts := [part17 2], blockHash := [zeros 48] }

/-- A staging area on Side A. -/
def staged17 (g : Staging) : State := { base17 with sideA := { base17.sideA with staging := g } }

def staging17 : Staging := { Staging.empty with manifest := some manifest17, results := [.unverified] }

/-- The whole body has arrived. -/
def whole17 : Staging := { staging17 with blocks := [[0, 0, 0, 0]] }

/-- The part is verified. -/
def done17 : Staging := { whole17 with results := [.verified] }

/-- The lock is held by the host of a session. -/
def locked17 (n h : Nat) : State := { base17 with sideA := { base17.sideA with lock := ⟨true, n, h⟩ } }

/-- The manifest of one part and one block, as its bytes. -/
def manifestBytes : List Byte :=
  [1, 1] ++ leBytes 2 1 ++ leBytes 4 4 ++ zeros 8 ++
  ([2, 0, 0, 0] ++ leBytes 4 2 ++ leBytes 4 0 ++ leBytes 4 1 ++ leBytes 4 0 ++ leBytes 2 0 ++ leBytes 2 0 ++ leBytes 2 65535 ++
    zeros 6 ++ zeros 96 ++ leBytes 4 0 ++ leBytes 4 0xFFFFFFFF ++ leBytes 4 0 ++ leBytes 4 0 ++ leBytes 4 0 ++ leBytes 4 0xFFFFFFFF ++
    zeros 8) ++ zeros 48 ++ zeros 96

def beginPk : Packet := pkt ([0, 0, 0, 0] ++ manifestBytes)

/-- UPDATE.CHUNK of the whole body. -/
def chunkPk : Packet := pkt (leBytes 4 0 ++ leBytes 2 4 ++ zeros 2 ++ [0, 0, 0, 0])

/-- Side A runs its trial image in its window. -/
def trial17 : State :=
  { base17 with
    sideA := { base17.sideA with firmware := { fw17 1 2 with flagsA := { seq := 3, active := 0, trialSlot := 1, trial := .booted }, running := 1 } }
    vol.redun := { base17.vol.redun with confirmFrom := some 0 } }

/-- The hypotheses of UpdateOpcodes are met. -/
theorem witness_UpdateOpcodes :
  Meets 0x1101 (fun c b => LockedOut c b) ∧
  Meets 0x1102 (fun c b => LockedOut c b) ∧
  Meets 0x1103 (fun c b => LockedOut c b) ∧
  Meets 0x1104 (fun c b => LockedOut c b) ∧
  Meets 0x1105 (fun c b => LockedOut c b) ∧
  Meets 0x1101 (fun c b =>
      let x := c.packet.params.drop 4
      let n := x.length - 96
      b.act.lock.held = false ∧ fld c.packet.params 0 1 = 0 ∧ manifestRangeError (manifestOf x) = none ∧ beginError (manifestOf x) b = none) ∧
  (∃ m : Manifest, Meets 0x1102 (fun c b => b.act.lock.held = false ∧ b.act.staging.manifest = some m ∧ b.act.staging.blocks.length < m.nBlocks ∧
      fld c.packet.params 0 4 = b.act.staging.next ∧ fld c.packet.params 0 4 + fld c.packet.params 4 2 ≤ m.pkgLen)) ∧
  Meets 0x1102 (fun _ b => b.act.lock.held = false ∧ b.act.staging.manifest = none) ∧
  Meets 0x1103 (fun _ b => b.act.lock.held = false ∧ b.act.staging.blocksLeft = false ∧ b.act.staging.applying = []) ∧
  Meets 0x1103 (fun _ b => b.act.lock.held = false ∧ b.act.staging.blocksLeft = true) ∧
  (∃ x : ManifestPart, Meets 0x1104 (fun c b => b.act.lock.held = false ∧ fld c.packet.params 0 1 = 2 ∧ b.act.staging.resultOf 2 = some .verified ∧
      b.act.staging.earlier 2 = none ∧ b.act.staging.entry 2 = some x ∧ (b.setWith x).conflict = none)) ∧
  (∃ (x : ManifestPart) (d : Nat), Meets 0x1104 (fun c b => b.act.lock.held = false ∧ fld c.packet.params 0 1 = 2 ∧ b.act.staging.resultOf 2 = some .verified ∧
      b.act.staging.earlier 2 = none ∧ b.act.staging.entry 2 = some x ∧ (b.setWith x).conflict = some d)) ∧
  Meets 0x1105 (fun c b => b.act.lock.held = false ∧ fld c.packet.params 0 1 = 0) ∧
  Meets 0x1110 (fun _ b => b.act.store.blocked = true) ∧
  Meets 0x1110 (fun _ b => b.act.store.blocked = false) :=
  ⟨meets (beginPk) (locked17 1 5) (by decide +kernel) (by decide +kernel),
   meets (chunkPk) (locked17 1 5) (by decide +kernel) (by decide +kernel),
   meets (pkt (zeros 4)) (locked17 1 5) (by decide +kernel) (by decide +kernel),
   meets (pf [(1, 2), (1, 0), (2, 60)]) (locked17 1 5) (by decide +kernel) (by decide +kernel),
   meets (pf [(1, 0), (3, 0)]) (locked17 1 5) (by decide +kernel) (by decide +kernel),
   meets (beginPk) (base17) (by decide +kernel) (by decide +kernel),
   ⟨manifest17, meets (chunkPk) (staged17 staging17) (by decide +kernel) (by decide +kernel)⟩,
   meets (chunkPk) (base17) (by decide +kernel) (by decide +kernel),
   meets (pkt (zeros 4)) (staged17 whole17) (by decide +kernel) (by decide +kernel),
   meets (pkt (zeros 4)) (staged17 staging17) (by decide +kernel) (by decide +kernel),
   ⟨part17 2, meets (pf [(1, 2), (1, 0), (2, 60)]) (staged17 done17) (by decide +kernel) (by decide +kernel)⟩,
   ⟨part17 2, 0x302, meets (pf [(1, 2), (1, 0), (2, 60)]) ({ staged17 done17 with hsw.nv := { base17.hsw.nv with firmware := { fw17 1 2 with slot0 := { slot17 1 with reqSideHi := 1 } } } }) (by decide +kernel) (by decide +kernel)⟩,
   meets (pf [(1, 0), (3, 0)]) (base17) (by decide +kernel) (by decide +kernel),
   meets (pkt []) ({ base17 with sideA := { base17.sideA with store := { base17.sideA.store with blocked := true } } }) (by decide +kernel) (by decide +kernel),
   meets (pkt []) (base17) (by decide +kernel) (by decide +kernel)⟩

/-- The hypotheses of UpdateStatusAndEvents are met. -/
theorem witness_UpdateStatusAndEvents :
  Meets 0x1106 (fun _ _ => True) ∧
  (∃ (c : HostCmd) (l : List HostCmd) (m : Manifest) (s : State),
    s.actOn = true ∧
    s.act.staging.applying = c :: l ∧
    s.act.staging.manifest = some m) ∧
  (∃ s : State,
    s.actOn = true ∧
    s.act.lock.held = true ∧
    s.holderOpen = false) ∧
  (∃ s : State,
    (s.act.lock.held = false ∨ s.holderOpen = true)) ∧
  (∃ s : State,
    s.actOn = true ∧
    s.act.firmware.onTrial = true ∧
    s.vol.redun.confirmFrom.isSome = true ∧
    s.standbyOk = false) ∧
  (∃ s : State,
    s.vol.redun.confirmFrom = none) ∧
  (∃ s : State,
    s.hsw.restartDue = true ∧
    s.hsw.ready = true) ∧
  (∃ s : State,
    s.hsw.restartDue = false) :=
  ⟨meets (pkt []) (trial17) (by decide +kernel) (by decide +kernel),
   ⟨(fetchedCmd 0x1103 (pkt (zeros 4)) demo), ([]), manifest17, (staged17 { whole17 with applying := [fetchedCmd 0x1103 (pkt (zeros 4)) demo] }), by decide +kernel⟩,
   ⟨(locked17 2 5), by decide +kernel⟩,
   ⟨base17, by decide +kernel⟩,
   ⟨trial17, by decide +kernel⟩,
   ⟨demo, by decide +kernel⟩,
   ⟨({ demo with hsw := { demo.hsw with restartDue := true } }), by decide +kernel⟩,
   ⟨demo, by decide +kernel⟩⟩

end Sys2Proof.Tests
end

