-- ==== Sys2Proof/Tests/WitnessWader.lean ====
section
/-! SUPPORT.
Witnesses: states and operands that meet the hypotheses of the statements.
-/

set_option Elab.async false
set_option linter.unusedVariables false

namespace Sys2Proof.Tests

open Sys2Proof.Machine

/-- Port 0: the GPS source, pre-trigger 25 percent, the trigger kinds 0 and 2; 1024 samples in 2 blocks. -/
def port0 : PortSettings :=
  { portOf (fs [(1, 0), (1, 0), (1, 0), (1, 0), (1, 0), (1, 0), (1, 2), (1, 5), (2, 2), (1, 25), (1, 0), (4, 1024), (2, 0), (2, 100), (4, 1000), (18, 0), (2, 100), (4, 0)]) with
    source := 0 }

/-- Port 0 configured, and in a state. -/
def portIn (x : PortState) : State :=
  { demo with
    ctl.cfg.wader := { demo.cfg.wader with ports := demo.cfg.wader.ports.set 0 (some port0) }
    vol.wader := { demo.vol.wader with
      ports := demo.vol.wader.ports.set 0 { demo.vol.wader.ports.getD 0 PortRun.none with state := x } } }

/-- Port 0 holds a record. -/
def portHolds : State :=
  { portIn .idle with vol.wader := { (portIn .idle).vol.wader with
      ports := (portIn .idle).vol.wader.ports.set 0
        { (portIn .idle).port 0 with records := [{ seq := 1, bytes := List.replicate 100 3, sent := 0 }] } } }

/-- The receiver and the driver of the site trigger bus are enabled. -/
def busOn : State := { demo with ctl.cfg.wader := { demo.cfg.wader with txEnable := true, rxEnable := true } }

/-- A calibration of 8 pulses as master. -/
def cal0 : CalRun :=
  { cmd := fetchedCmd 0x0D05 (pf [(1, 0), (1, 8)]) demo, master := true, pulses := 8, driven := 3, readings := [250000, 250004]
    peer := 7 }

def calOn (r : CalRun) : State := { busOn with vol.wader.cal := some r }

def portPk : Packet :=
  pf [(1, 0), (1, 0), (1, 0), (1, 0), (1, 0), (1, 0), (1, 2), (1, 5), (2, 2), (1, 25), (1, 0), (4, 1024), (2, 0), (2, 100), (4, 1000), (18, 0), (2, 100), (4, 0)]

/-- The hypotheses of CaptureOpcodes are met. -/
theorem witness_CaptureOpcodes :
  Meets 0x0D01 (fun c b =>
      let ps := c.packet.params
      let x := portOf ps
      portRangeError ps = none ∧ (b.port (fld ps 0 1)).state.armed = false ∧ x.source < 8 ∧
        recordBytes x x.n ≤ x.blocks * 4096 / (if x.repeated then 2 else 1) ∧
        b.blocksAssigned - ((b.portSet (fld ps 0 1)).map (·.blocks)).getD 0 + x.blocks ≤ 1024) ∧
  Meets 0x0D01 (fun c b => portRangeError c.packet.params = none ∧ (b.port (fld c.packet.params 0 1)).state.armed = true) ∧
  Meets 0x0D02 (fun c b => fld c.packet.params 1 1 = 1 ∧ (∀ p ∈ bitsOf 4 (fld c.packet.params 0 1), (b.portSet p).isSome = true) ∧
      b.ctl.mode = .run ∧ b.vol.wader.cal = none) ∧
  Meets 0x0D02 (fun c b => fld c.packet.params 1 1 = 0 ∧ (∀ p ∈ bitsOf 4 (fld c.packet.params 0 1), (b.portSet p).isSome = true) ∧
      b.ctl.mode = .run ∧ b.vol.wader.cal = none) ∧
  (∃ p : Nat, Meets 0x0D02 (fun c b => (bitsOf 4 (fld c.packet.params 0 1)).find? (fun p => (b.portSet p).isNone) = some p)) ∧
  Meets 0x0D02 (fun c b => (∀ p ∈ bitsOf 4 (fld c.packet.params 0 1), (b.portSet p).isSome = true) ∧ b.ctl.mode = .run ∧
      b.vol.wader.cal.isSome = true) ∧
  Meets 0x0D03 (fun c _ => fld c.packet.params 1 1 = 0) ∧
  Meets 0x0D03 (fun c b => fld c.packet.params 1 1 = 1 ∧ b.cfg.wader.txEnable = false) ∧
  Meets 0x0D04 (fun c _ => fld c.packet.params 3 1 = 0xFF ∧ fld c.packet.params 4 4 = 0 ∧ fld c.packet.params 2 1 ≠ 0xFF) ∧
  Meets 0x0D05 (fun _ b => b.vol.wader.cal = none ∧ b.cfg.wader.txEnable = true ∧ b.cfg.wader.rxEnable = true ∧
      ∀ p, p < 4 → (b.port p).state.armed = false) ∧
  Meets 0x0D05 (fun _ b => b.vol.wader.cal = none ∧ (b.cfg.wader.txEnable && b.cfg.wader.rxEnable) = false) ∧
  Meets 0x0D06 (fun _ _ => True) :=
  ⟨meets (portPk) (demo) (by decide +kernel) (by decide +kernel),
   meets (portPk) (portIn .waiting) (by decide +kernel) (by decide +kernel),
   meets (pf [(1, 1), (1, 1), (2, 0)]) (portIn .idle) (by decide +kernel) (by decide +kernel),
   meets (pf [(1, 1), (1, 0), (2, 0)]) (portIn .waiting) (by decide +kernel) (by decide +kernel),
   ⟨1, meets (pf [(1, 3), (1, 1), (2, 0)]) (portIn .idle) (by decide +kernel) (by decide +kernel)⟩,
   meets (pf [(1, 1), (1, 1), (2, 0)]) ({ portIn .idle with vol.wader.cal := some cal0 }) (by decide +kernel) (by decide +kernel),
   meets (pf [(1, 1), (1, 0), (2, 0)]) (portIn .waiting) (by decide +kernel) (by decide +kernel),
   meets (pf [(1, 1), (1, 1), (2, 0)]) (demo) (by decide +kernel) (by decide +kernel),
   meets (pf [(1, 1), (1, 1), (1, 7), (1, 255), (4, 0)]) (demo) (by decide +kernel) (by decide +kernel),
   meets (pf [(1, 0), (1, 8), (2, 100)]) (busOn) (by decide +kernel) (by decide +kernel),
   meets (pf [(1, 0), (1, 8), (2, 100)]) (demo) (by decide +kernel) (by decide +kernel),
   meets (pkt []) (portHolds) (by decide +kernel) (by decide +kernel)⟩

/-- The hypotheses of CaptureEvents are met. -/
theorem witness_CaptureEvents :
  (∃ (p : Nat) (s : State),
    (s.port p).state = .prefill) ∧
  (∃ (p k : Nat) (c : PortSettings) (s : State),
    s.portSet p = some c ∧
    (s.port p).state = .waiting ∧
    c.trgOut = false ∧
    (k % 16 / 2 * 2) &&& c.mask ≠ 0) ∧
  (∃ (p k : Nat) (c : PortSettings) (s : State),
    s.portSet p = some c ∧
    (s.port p).state = .post ∧
    (k % 16 / 2 * 2) &&& c.mask ≠ 0) ∧
  (∃ (p : Nat) (c : PortSettings) (s : State),
    s.portSet p = some c ∧
    (s.port p).state = .post ∧
    c.repeated = false ∧
    p < s.vol.wader.ports.length) ∧
  (∃ (p : Nat) (c : PortSettings) (s : State),
    s.portSet p = some c ∧
    (s.port p).state = .waitRoom ∧
    hasRoom c (s.port p) = true) ∧
  (∃ (p : Nat) (c : PortSettings) (s : State),
    s.portSet p = some c ∧
    (s.port p).state = .waitRoom ∧
    hasRoom c (s.port p) = false) ∧
  (∃ (p m : Nat) (d : List Byte) (s : State),
    ((List.range 4).map fun k => (s.vol.wader.turn + k) % 4).find? (fun p => (drainable p s).isSome) = some p ∧
    drainable p s = some (m, d)) ∧
  (∃ (w f : Nat) (s : State),
    s.cfg.wader.rxEnable = true ∧
    s.vol.wader.lastEdge = none ∧
    s.vol.wader.cal = none ∧
    (∀ p, p < 4 → ∀ c ∈ s.portSet p, c.mask.testBit 4 = false)) ∧
  (∃ (w f e : Nat) (s : State),
    s.vol.wader.lastEdge = some e ∧
    s.mtbNs < e + 1000) ∧
  (∃ (w f : Nat) (s : State),
    s.cfg.wader.rxEnable = false) ∧
  (∃ (x w : Nat) (r : CalRun) (s : State),
    s.vol.wader.cal = some r ∧
    r.driven + 1 < r.pulses) ∧
  (∃ (r : CalRun) (s : State),
    s.vol.wader.cal = some r ∧
    s.vol.wader.calWait = [] ∧
    r.readings ≠ []) ∧
  (∃ (r : CalRun) (s : State),
    s.vol.wader.cal = some r ∧
    s.vol.wader.calWait = [] ∧
    r.readings = []) :=
  ⟨⟨0, (portIn .prefill), by decide +kernel⟩,
   ⟨0, 4, port0, (portIn .waiting), by decide +kernel⟩,
   ⟨0, 4, port0, (portIn .post), by decide +kernel⟩,
   ⟨0, port0, (portIn .post), by decide +kernel⟩,
   ⟨0, port0, (portIn .waitRoom), by decide +kernel⟩,
   ⟨0, ({ port0 with blocks := 0 }), ({ portIn .waitRoom with ctl.cfg.wader := { demo.cfg.wader with ports := demo.cfg.wader.ports.set 0 (some { port0 with blocks := 0 }) } }), by decide +kernel⟩,
   ⟨0, 2, (recordPart 0 { seq := 1, bytes := List.replicate 100 3, sent := 0 }), portHolds, by decide +kernel⟩,
   ⟨275000, 0, busOn, by decide +kernel⟩,
   ⟨275000, 0, demo.mtbNs, ({ busOn with vol.wader.lastEdge := some demo.mtbNs }), by decide +kernel⟩,
   ⟨275000, 0, demo, by decide +kernel⟩,
   ⟨250008, 275000, cal0, (calOn cal0), by decide +kernel⟩,
   ⟨cal0, (calOn cal0), by decide +kernel⟩,
   ⟨({ cal0 with readings := [] }), (calOn { cal0 with readings := [] }), by decide +kernel⟩⟩

end Sys2Proof.Tests
end

section
/-! SUPPORT.
The module right after reset, component by component, and the statement of the reset state (O2).
-/

namespace Sys2Proof.Machine

/-! ### The components of the state after reset -/

@[simp] theorem reset_hsw : State.reset.hsw = HostSwitch.factory := rfl
@[simp] theorem reset_sideA : State.reset.sideA = SideState.factory 0 true := rfl
@[simp] theorem reset_sideB : State.reset.sideB = SideState.factory 1 false := rfl
@[simp] theorem reset_env : State.reset.env = Env.factory := rfl
@[simp] theorem reset_pending : State.reset.pending = [] := rfl
@[simp] theorem reset_mtb : State.reset.mtb = 0 := rfl

/-! ### A side as it leaves the factory (R2, R442) -/

@[simp] theorem factory_mainOn (k : Nat) (starts : Bool) : (SideState.factory k starts).mainOn = false := rfl

@[simp] theorem factory_start (k : Nat) (starts : Bool) :
    (SideState.factory k starts).start = if starts then some (StartRun.module 0) else none := rfl

@[simp] theorem factory_tamperState (k : Nat) (starts : Bool) :
    (SideState.factory k starts).security.record.state = .shipping := rfl

/-! ### The host path after reset (R85, R89) -/

/-- Any ring number: `State.ring` reads every number but 0 as set 1. -/
@[simp] theorem reset_ring (n : Nat) : State.reset.ring n = RingSet.resetValue := by
  unfold State.ring
  split <;> rfl

theorem sessionsStart_closed : ∀ x ∈ sessionsStart, x.isOpen = false := by decide

/-- Any session number: a number with no session reads as a closed one. -/
@[simp] theorem reset_sess_closed (n : Nat) : (State.reset.sess n).isOpen = false := by
  by_cases hn : n < sessionsStart.length
  · have hget : State.reset.sess n = sessionsStart[n] := List.getD_eq_getElem sessionsStart default hn
    rw [hget]
    exact sessionsStart_closed _ (List.getElem_mem hn)
  · have hget : State.reset.sess n = default := List.getD_eq_default sessionsStart default (Nat.le_of_not_lt hn)
    rw [hget]
    rfl

/-- The active role, the served path, the epoch and the causes of the host switch (Table Reset-2, R71, R85). -/
theorem switchFactory_values :
    HostSwitch.factory.active = some .a ∧ HostSwitch.factory.serving = false ∧ HostSwitch.factory.ready = false ∧
    HostSwitch.factory.epoch = 0 ∧ HostSwitch.factory.irqCause = 0#11 :=
  ⟨rfl, rfl, rfl, rfl, rfl⟩

/-- Neither ring set runs, and both its queues are empty (Tables Host-15 to Host-19). -/
theorem ringReset_idle :
    RingSet.resetValue.enable = false ∧ RingSet.resetValue.sqTail = 0 ∧ RingSet.resetValue.sqHead = 0 ∧
    RingSet.resetValue.cqTail = 0 ∧ RingSet.resetValue.cqHead = 0 :=
  ⟨rfl, rfl, rfl, rfl, rfl⟩

/-- Settles O2, from what each component of the state is right after reset. -/
theorem resetState : Obligations.ResetState := by
  unfold Obligations.ResetState
  obtain ⟨hactive, hserving, hready, hepoch, hcause⟩ := switchFactory_values
  have hvin : Env.factory.vinUp = true := rfl
  simp [hactive, hserving, hready, hepoch, hcause, hvin, ringReset_idle]

end Sys2Proof.Machine
end

section
/-! SUPPORT.
Frames: what a change off the path of commands, or time that passes, leaves as it is.
-/

namespace Sys2Proof.Machine

/-- What is read off the path of commands is the same in two states that differ on that path only. -/
theorem eq_of_offPath {α : Type} (f : State → α) (hf : ∀ s : State, f s.offPath = f s) {s t : State}
    (h : t.offPath = s.offPath) : f t = f s := by
  rw [← hf t, h, hf]

theorem offPath_env {s t : State} (h : t.offPath = s.offPath) : t.env = s.env := eq_of_offPath State.env (fun _ => rfl) h

/-- What no tick changes, time that passes until an instant does not change. -/
theorem passUntil_keeps {α : Type} (f : State → α) (hf : ∀ n s, f (passTicks n s) = f s) (read : State → Nat)
    (t n : Nat) (s : State) : f (passUntil read t n s) = f s := by
  induction n generalizing s with
  | zero => rfl
  | succ n ih =>
    unfold passUntil
    split
    · rfl
    · rw [ih, hf]

theorem passToStb_keeps {α : Type} (f : State → α) (hf : ∀ n s, f (passTicks n s) = f s) (t : Nat) (s : State) :
    f (passToStb t s) = f s := by
  unfold passToStb
  split
  · exact passUntil_keeps f hf _ _ _ _
  · rfl

end Sys2Proof.Machine
end

section
/-! SUPPORT.
Commands that a started packet carries: from the effect of the command to the row of its opcode; and the power and reset
opcodes (O16).
-/

namespace Sys2Proof.Machine

/-! ### From the effect of a command to its row -/

/-- A row that serves its opcode with `run` carries whatever `run` concludes with. -/
theorem Carries.of_run {op : Nat} {row : Packet → Instr} {holds : HostCmd → State → Prop}
    {result : HostCmd → State → State} (run : HostCmd → State → CmdResult)
    (hrow : ∀ p s, exec (row p) s = .next (serve op run p s))
    (heff : ∀ c b, holds c b → conclude c b (run c b) = result c b) : Carries op row holds result := by
  intro p s hready hholds
  rw [hrow, serve_ready hready, heff _ _ hholds]

/-- A command that waits and leaves the control state as it is completes nothing yet. -/
theorem conclude_deferred_of_ctl {c : HostCmd} {b t : State} (h : t.ctl = b.ctl) : conclude c b (.deferred t) = t :=
  if_pos h

@[simp] theorem conclude_refuse (c : HostCmd) (b : State) (st d : Nat) : conclude c b (.refuse st d) = refuse c b st d := rfl
@[simp] theorem conclude_ok (c : HostCmd) (b t : State) (r : List Byte) : conclude c b (.ok t r) = answer c t r := rfl
@[simp] theorem conclude_accepted (c : HostCmd) (b t : State) (r : List Byte) :
    conclude c b (.accepted t r) = accept c b t r := rfl

/-! ### Power modes and resets -/

@[simp] theorem beginStart_ctl (x : SideId) (k : StartKind) (code detail : Nat) (s : State) :
    (beginStart x k code detail s).ctl = s.ctl := State.modSide_ctl s x _

@[simp] theorem beginReset_ctl (c : HostCmd) (s : State) : (beginReset c s).ctl = s.ctl := by
  simp [beginReset]

/-- The antenna bias is measured, not changed. -/
@[simp] theorem biasNow_hsw (s : State) : (biasNow s).2.2.hsw = s.hsw := by
  simp only [biasNow]
  split <;> rfl

theorem leastNode_eq_none_iff {l : List Nat} : leastNode l = none ↔ l = [] := List.min?_eq_none_iff

theorem leastNode_eq_some {l : List Nat} (h : l ≠ []) : leastNode l = some ((leastNode l).getD 0) := by
  cases hl : leastNode l with
  | none => exact absurd (leastNode_eq_none_iff.mp hl) h
  | some n => rfl

@[simp] theorem modeOf_one : modeOf 1 = .idle := rfl
@[simp] theorem modeOf_two : modeOf 2 = .fen := rfl

theorem modeOf_eq_idle_iff {n : Nat} : modeOf n = .idle ↔ n = 1 := by
  unfold modeOf; split
  · simp_all
  · split <;> simp_all

theorem modeOf_eq_fen_iff {n : Nat} : modeOf n = .fen ↔ n = 2 := by
  unfold modeOf; split
  · simp_all
  · split <;> simp_all

/-- POWER.MODE that no member bars and that finds no change pending. -/
theorem runPowerMode_free {c : HostCmd} {b : State} (hidle : fld c.packet.params 0 1 = 1 → b.grantedNodes = [])
    (hfen : fld c.packet.params 0 1 = 2 → tkeys b.cfg.solver.members = []) (hpend : b.vol.pendingMode = none) :
    runPowerMode c b =
      if modeOf (fld c.packet.params 0 1) = b.ctl.mode then
        .ok b (leBytes 1 (modeCode (modeOf (fld c.packet.params 0 1))) ++ zeros 3)
      else .deferred { b with vol.pendingMode := some (modeOf (fld c.packet.params 0 1), c) } := by
  have h1 : (if modeOf (fld c.packet.params 0 1) = .idle then leastNode b.grantedNodes else none) = none := by
    split
    · next h => exact leastNode_eq_none_iff.mpr (hidle (modeOf_eq_idle_iff.mp h))
    · rfl
  have h2 : (if modeOf (fld c.packet.params 0 1) = .fen then leastNode (tkeys b.cfg.solver.members) else none) = none := by
    split
    · next h => exact leastNode_eq_none_iff.mpr (hfen (modeOf_eq_fen_iff.mp h))
    · rfl
  simp [runPowerMode, h1, h2, hpend]

theorem runPowerMode_granted {c : HostCmd} {b : State} (hm : fld c.packet.params 0 1 = 1) (hg : b.grantedNodes ≠ []) :
    runPowerMode c b = .refuse erState ((leastNode b.grantedNodes).getD 0) := by
  simp only [runPowerMode, hm, modeOf_one, if_true]
  rw [leastNode_eq_some hg]
  rfl

theorem runPowerMode_solving {c : HostCmd} {b : State} (hm : fld c.packet.params 0 1 = 2)
    (hg : tkeys b.cfg.solver.members ≠ []) :
    runPowerMode c b = .refuse erState ((leastNode (tkeys b.cfg.solver.members)).getD 0) := by
  simp only [runPowerMode, hm, modeOf_two, if_true, reduceCtorEq, if_false]
  rw [leastNode_eq_some hg]
  rfl

/-- Settles O16: each opcode's effect, carried by its row. -/
theorem powerAndResetOpcodes : Obligations.PowerAndResetOpcodes := by
  unfold Obligations.PowerAndResetOpcodes
  refine ⟨?gpio, ?sense, ?mode, ?idleBarred, ?fenBarred, ?reset, ?resetActive, ?resetLocked, ?cause⟩
  case gpio => exact .of_run runPowerGpio (fun _ _ => rfl) fun _ _ _ => rfl
  case sense =>
    refine .of_run runPowerSense (fun _ _ => rfl) fun c b _ => ?_
    simp only [runPowerSense, State.draw, conclude_ok, biasNow_hsw]
  case mode =>
    refine .of_run runPowerMode (fun _ _ => rfl) fun c b ⟨hidle, hfen, hpend⟩ => ?_
    rw [runPowerMode_free hidle hfen hpend]
    dsimp only
    split
    · rfl
    · exact conclude_deferred_of_ctl rfl
  case idleBarred =>
    exact .of_run runPowerMode (fun _ _ => rfl) fun c b ⟨hm, hg⟩ => by rw [runPowerMode_granted hm hg, conclude_refuse]
  case fenBarred =>
    exact .of_run runPowerMode (fun _ _ => rfl) fun c b ⟨hm, hg⟩ => by rw [runPowerMode_solving hm hg, conclude_refuse]
  case reset =>
    refine .of_run runResetSide (fun _ _ => rfl) fun c b ⟨hlocked, hact⟩ => ?_
    simp only [runResetSide]
    generalize (if fld c.packet.params 0 1 = 0 then SideId.a else SideId.b) = x at hlocked hact ⊢
    rw [if_neg hact, if_neg (by simp [hlocked])]
    split
    · exact conclude_deferred_of_ctl rfl
    · exact conclude_deferred_of_ctl (beginReset_ctl c b)
  case resetActive =>
    exact .of_run runResetSide (fun _ _ => rfl) fun c b hact => by simp [runResetSide, hact]
  case resetLocked =>
    exact .of_run runResetSide (fun _ _ => rfl) fun c b ⟨hact, hlocked⟩ => by simp [runResetSide, hact, hlocked]
  case cause => exact .of_run runResetCause (fun _ _ => rfl) fun _ _ _ => rfl

end Sys2Proof.Machine
end

section
/-! SUPPORT.
Module power, MOD_RESET_N and VBAT (O14): what switching both sides off, a module start and the loss of a supply leave.
-/

namespace Sys2Proof.Machine

/-! ### What moves no supply -/

@[simp] theorem removeItem_offPath (i : WorkItem) (s : State) : (removeItem i s).offPath = s.offPath := by
  simp [removeItem]

@[simp] theorem endSession_env (n cause : Nat) (s : State) : (endSession n cause s).env = s.env := by
  have hitems : ∀ (l : List WorkItem) (t : State), (l.foldl (fun s i => removeItem i s) t).env = t.env := fun l t =>
    offPath_env (foldl_offPath _ (fun s i => removeItem_offPath i s) l t)
  simp only [endSession]
  split
  · exact hitems _ _
  · rfl

theorem foldl_endSession_env (l : List Nat) (cause : Nat) (s : State) :
    (l.foldl (fun s n => endSession n cause s) s).env = s.env := by
  induction l generalizing s with
  | nil => rfl
  | cons n l ih => simp [ih]

/-! ### Interrupts and records -/

@[simp] theorem raiseIrq_env (k : Nat) (s : State) : (raiseIrq k s).env = s.env := offPath_env (raiseIrq_offPath k s)
@[simp] theorem raiseIrq_ctl (k : Nat) (s : State) : (raiseIrq k s).ctl = s.ctl := offPath_ctl (raiseIrq_offPath k s)

@[simp] theorem raiseIrq_side (k : Nat) (x : SideId) (s : State) : (raiseIrq k s).side x = s.side x := by
  obtain ⟨i, p, o, h⟩ := raiseIrq_eq k s
  rw [h]
  cases x <;> rfl

@[simp] theorem raiseIrq_supplyEvents (k : Nat) (s : State) :
    (raiseIrq k s).hsw.supplyEvents = s.hsw.supplyEvents := by
  obtain ⟨i, p, o, h⟩ := raiseIrq_eq k s
  rw [h]

@[simp] theorem recordOn_env (x : SideId) (c k : Nat) (d : List Byte) (s : State) : (recordOn x c k d s).env = s.env :=
  offPath_env (recordOn_offPath x c k d s)
@[simp] theorem recordOn_ctl (x : SideId) (c k : Nat) (d : List Byte) (s : State) : (recordOn x c k d s).ctl = s.ctl :=
  offPath_ctl (recordOn_offPath x c k d s)
@[simp] theorem recordOn_hsw (x : SideId) (c k : Nat) (d : List Byte) (s : State) : (recordOn x c k d s).hsw = s.hsw :=
  State.modSide_hsw s x _

@[simp] theorem recordOn_vol (x : SideId) (c k : Nat) (d : List Byte) (s : State) : (recordOn x c k d s).vol = s.vol :=
  State.modSide_vol s x _
@[simp] theorem record_ctl (c k : Nat) (d : List Byte) (s : State) : (record c k d s).ctl = s.ctl := recordOn_ctl ..
@[simp] theorem record_vol (c k : Nat) (d : List Byte) (s : State) : (record c k d s).vol = s.vol := recordOn_vol ..

@[simp] theorem recordOn_security (x y : SideId) (c k : Nat) (d : List Byte) (s : State) :
    ((recordOn x c k d s).side y).security = (s.side y).security := by
  cases x <;> cases y <;> simp only [recordOn, State.modSide, State.side] <;> split <;> rfl

/-! ### Both sides off (R71) -/

@[simp] theorem modulesOff_env (s : State) : (modulesOff s).env = s.env := by
  change (((List.range 4).foldl (fun s n => endSession n 4 s) s).modSide .b SideState.domainsOff).env = s.env
  rw [State.modSide_env, foldl_endSession_env]

@[simp] theorem modulesOff_active (s : State) : (modulesOff s).hsw.active = none := rfl
@[simp] theorem modulesOff_serving (s : State) : (modulesOff s).hsw.serving = false := rfl
@[simp] theorem modulesOff_ready (s : State) : (modulesOff s).hsw.ready = false := rfl
@[simp] theorem modulesOff_vol (s : State) : (modulesOff s).vol = Volatile.start := rfl
@[simp] theorem modulesOff_sideA_mainOn (s : State) : (modulesOff s).sideA.mainOn = false := rfl
@[simp] theorem modulesOff_sideB_mainOn (s : State) : (modulesOff s).sideB.mainOn = false := rfl

/-! ### T0 of a module start (R68, Table Reset-2) -/

theorem strapSide_eq (s1 s0 : Bool) : strapSide s1 s0 = (if s1 && !s0 then .b else .a, s1 == s0) := by
  cases s1 <;> cases s0 <;> rfl

@[simp] theorem beginStart_hsw (x : SideId) (k : StartKind) (code detail : Nat) (s : State) :
    (beginStart x k code detail s).hsw = s.hsw := State.modSide_hsw s x _
@[simp] theorem beginStart_env (x : SideId) (k : StartKind) (code detail : Nat) (s : State) :
    (beginStart x k code detail s).env = s.env := State.modSide_env s x _
@[simp] theorem beginStart_vol (x : SideId) (k : StartKind) (code detail : Nat) (s : State) :
    (beginStart x k code detail s).vol = s.vol := State.modSide_vol s x _
@[simp] theorem beginStart_clock (x : SideId) (k : StartKind) (code detail : Nat) (s : State) :
    (beginStart x k code detail s).clock = s.clock := State.modSide_clock s x _

theorem act_of_active {x : SideId} {s : State} (h : s.hsw.active = some x) : s.act = s.side x := by
  simp [State.act, State.actId, h]

theorem beginStart_act {x : SideId} {k : StartKind} {code detail : Nat} {s : State} (h : s.hsw.active = some x) :
    (beginStart x k code detail s).act =
      { s.side x with
        start := some { kind := k, stage := .bootRom, t0 := s.clock, slot := 0, fallback := false, trial := false, cmd := none }
        startRec := { StartRecord.begin code detail with slot := (s.side x).startRec.slot } } := by
  rw [act_of_active (x := x) (by rw [beginStart_hsw, h])]
  exact State.modSide_self s x _

/-- What a module start leaves: the strapped side holds the role and begins its boot ROM stage. -/
structure StartedModule (kind detail : Nat) (s1 s0 : Bool) (t : State) : Prop where
  ready : t.hsw.ready = false
  serving : t.hsw.serving = false
  active : t.hsw.active = some (if s1 && !s0 then .b else .a)
  strapBits : t.hsw.strapBits = 2 * b2n s1 + b2n s0
  strapFault : t.hsw.strapFault = (s1 == s0)
  resetHeld : t.hsw.resetHeld = false
  supplyEvents : kind = 1 → t.hsw.supplyEvents = 0
  startKind : t.act.startRec.kind = kind
  startDetail : t.act.startRec.kindDetail = detail
  vol : t.vol = Volatile.start
  run : ∃ r, t.act.start = some r ∧ r.kind = .module ∧ r.stage = .bootRom ∧ r.t0 = t.clock

@[simp] theorem moduleStart_env (kind detail : Nat) (s1 s0 : Bool) (s : State) :
    (moduleStart kind detail s1 s0 s).env = s.env := by
  simp [moduleStart]

theorem moduleStart_started (kind detail : Nat) (s1 s0 : Bool) (s : State) :
    StartedModule kind detail s1 s0 (moduleStart kind detail s1 s0 s) := by
  unfold moduleStart
  rw [strapSide_eq]
  constructor
  case startKind => rw [beginStart_act rfl]; rfl
  case startDetail => rw [beginStart_act rfl]; rfl
  case run => rw [beginStart_act rfl]; exact ⟨_, rfl, rfl, rfl, by simp⟩
  case supplyEvents => rintro rfl; simp
  all_goals simp

/-! ### Supplies (R45, R70) -/

theorem unheld_mainOn (d : SideState) : d.unheld.mainOn = d.mainOn := by
  unfold SideState.unheld; split <;> rfl

theorem unheld_crownValid {d : SideState} (h : d.security.record.state ≠ .shipping) :
    d.unheld.security.crownValid = false := by
  simp [SideState.unheld, h]

@[simp] theorem crownsHeld_env (s : State) : (crownsHeld s).env = s.env := by
  unfold crownsHeld; split <;> rfl
@[simp] theorem crownsHeld_hsw (s : State) : (crownsHeld s).hsw = s.hsw := by
  unfold crownsHeld; split <;> rfl
@[simp] theorem crownsHeld_sideA_mainOn (s : State) : (crownsHeld s).sideA.mainOn = s.sideA.mainOn := by
  unfold crownsHeld; split
  · exact unheld_mainOn _
  · rfl
@[simp] theorem crownsHeld_sideB_mainOn (s : State) : (crownsHeld s).sideB.mainOn = s.sideB.mainOn := by
  unfold crownsHeld; split
  · exact unheld_mainOn _
  · rfl

/-- With neither supply, each Crown that is not in the shipping state is lost. -/
theorem crownsHeld_unheld {s : State} (hvin : s.env.vinBelow = true) (hvbat : s.env.vbatOk = false) :
    (crownsHeld s).sideA = s.sideA.unheld ∧ (crownsHeld s).sideB = s.sideB.unheld := by
  simp [crownsHeld, hvin, hvbat, State.modSide]

@[simp] theorem countSupply_supplyEvents (s : State) :
    (countSupply s).hsw.supplyEvents = satInc 16 s.hsw.supplyEvents := by simp [countSupply]
@[simp] theorem countSupply_env (s : State) : (countSupply s).env = s.env := by simp [countSupply]
@[simp] theorem countSupply_ctl (s : State) : (countSupply s).ctl = s.ctl := by simp [countSupply]
@[simp] theorem countSupply_side (x : SideId) (s : State) : (countSupply s).side x = s.side x := by
  rw [countSupply, raiseIrq_side]
  cases x <;> rfl

/-- VBAT lost while VIN is present: a supply event, and both Crowns stay. -/
theorem execVbatLoss_counts {mv : Nat} {s : State} (h : s.env.vinBelow = false) :
    ∃ t, execVbatLoss mv s = .next t ∧ t.env.vbatOk = false ∧ t.hsw.supplyEvents = satInc 16 s.hsw.supplyEvents ∧
      (∀ x, (t.side x).security = (s.side x).security) ∧ t.ctl = s.ctl := by
  simp only [execVbatLoss, h, Bool.false_eq_true, if_false]
  refine ⟨_, rfl, by simp, by simp, fun x => ?_, by simp⟩
  cases x <;> simp <;> rfl

/-- Settles O14: from what a module start, both sides off and the loss of a supply leave. -/
theorem modulePowerAndReset : Obligations.ModulePowerAndReset := by
  unfold Obligations.ModulePowerAndReset
  refine ⟨fun s1 s0 s hvin => ?powerOn, fun s1 s0 s hvin hheld hwarned => ?release, fun s hvin => ?asserted,
    fun absent s hvin hcut => ?powerDown, fun mv s hbelow => ?vbatCounts, fun mv s hbelow => ?vbatEnds, fun s => rfl⟩
  case powerOn =>
    obtain ⟨hready, hserving, hactive, hbits, hfault, -, hevents, hkind, hdetail, hvol, hrun⟩ :=
      moduleStart_started 1 s.hsw.downWhy s1 s0 { s with env := { s.env with vinUp := true, vinBelow := false } }
    exact ⟨_, by simp [exec, execModulePowerOn, hvin], by simp, hready, hserving, hactive, hbits, hfault, hevents rfl,
      hkind, hdetail, hvol, hrun⟩
  case release =>
    obtain ⟨hready, hserving, hactive, hbits, hfault, hreset, -, hkind, -, hvol, hrun⟩ := moduleStart_started 3 0 s1 s0 s
    exact ⟨_, by simp [exec, execModResetNRelease, hvin, hheld, hwarned], hreset, hready, hserving, hactive, hbits,
      hfault, hkind, hvol, hrun⟩
  case asserted =>
    exact ⟨_, by simp [exec, execModResetNAsserted, hvin]; rfl, rfl, rfl, rfl, rfl, rfl, rfl⟩
  case powerDown =>
    refine ⟨powerDown absent s, by simp [exec, execModulePowerDown, hvin, hcut], ?_⟩
    cases hw : s.hsw.warned <;> simp [powerDown, hw, State.modSide]
  case vbatCounts =>
    obtain ⟨t, hstep, hok, hevents, hsecurity, hctl⟩ := execVbatLoss_counts (mv := mv) hbelow
    exact ⟨t, hstep, hok, hevents, hsecurity .a, hsecurity .b, hctl⟩
  case vbatEnds =>
    obtain ⟨ha, hb⟩ := crownsHeld_unheld (s := { s with env := { s.env with vbatOk := false } }) hbelow rfl
    refine ⟨_, if_pos hbelow, by simp, fun h => ?_, fun h => ?_⟩
    · rw [ha]; exact unheld_crownValid h
    · rw [hb]; exact unheld_crownValid h

end Sys2Proof.Machine
end

section
/-! SUPPORT.
The solver's work items, timers and alarms (O26).
-/

namespace Sys2Proof.Machine

/-! ### The packet of an item -/

theorem uplinkWork_packet {i : WorkItem} {k : Nat} {d : List Byte} {s u : State} (h : itemPacket i s = (some (k, d), u)) :
    uplinkWork i s = if k = 1 then uploadItem i.node i.enq d u else positionItem i.node d u := by
  simp only [uplinkWork, h]

theorem memberMsgWork_packet {i : WorkItem} {k : Nat} {d : List Byte} {s u : State}
    (h : itemPacket i s = (some (k, d), u)) : memberMsgWork i s = memberMessage i.node k d u := by
  simp only [memberMsgWork, h]

/-! ### Work that a core takes -/

@[simp] theorem ranItem_offPath (kind flow node : Nat) (s : State) : (ranItem kind flow node s).offPath = s.offPath := by
  simp only [ranItem]
  split
  · split <;> simp
  · simp

@[simp] theorem modSolveRun_solveRun (s : State) (n : Nat) (f : SolveRun → SolveRun) :
    (s.modSolveRun n f).solveRun n = f (s.solveRun n) := by
  simp [State.solveRun, State.modSolveRun]

@[simp] theorem ranItem_solved (kind flow node n : Nat) (s : State) :
    (ranItem kind flow node s).solved n = s.solved n :=
  eq_of_offPath (·.solved n) (fun _ => rfl) (ranItem_offPath kind flow node s)
@[simp] theorem ranItem_solveRun (kind flow node n : Nat) (s : State) :
    (ranItem kind flow node s).solveRun n = s.solveRun n :=
  eq_of_offPath (·.solveRun n) (fun _ => rfl) (ranItem_offPath kind flow node s)
@[simp] theorem ranItem_warned (kind flow node : Nat) (s : State) :
    (ranItem kind flow node s).hsw.warned = s.hsw.warned :=
  eq_of_offPath (·.hsw.warned) (fun _ => rfl) (ranItem_offPath kind flow node s)

@[simp] theorem modSolveRun_solved (s : State) (n k : Nat) (f : SolveRun → SolveRun) :
    (s.modSolveRun n f).solved k = s.solved k := rfl

@[simp] theorem passToStb_solved (t n : Nat) (s : State) : (passToStb t s).solved n = s.solved n :=
  passToStb_keeps (·.solved n) (fun _ _ => rfl) t s
@[simp] theorem passToStb_solveRun (t n : Nat) (s : State) : (passToStb t s).solveRun n = s.solveRun n :=
  passToStb_keeps (·.solveRun n) (fun _ _ => rfl) t s
@[simp] theorem passToStb_flowOf (t n : Nat) (s : State) : (passToStb t s).flowOf n = s.flowOf n :=
  passToStb_keeps (·.flowOf n) (fun _ _ => rfl) t s
@[simp] theorem passToStb_hsw (t : Nat) (s : State) : (passToStb t s).hsw = s.hsw :=
  passToStb_keeps State.hsw (fun _ _ => rfl) t s

/-- The end of a part wait is work for a core: the epoch is solved with the parts held, or waits as an item. -/
theorem execEpochPartWaitExpiry_waiting {n : Nat} {m : SolverMember} {s : State} (hm : s.solved n = some m)
    (hwait : (s.solveRun n).waiting = true) (hwarned : s.hsw.warned = false) :
    execEpochPartWaitExpiry n s =
      .next (workOn 4 (s.flowOf n) n (.epochPartWaitExpiry n (s.solveRun n).epochMs)
        (partWaitWork n (s.solveRun n).epochMs) (s.modSolveRun n fun x => { x with readyAt := s.mtb })) := by
  simp [execEpochPartWaitExpiry, hm, hwait, hwarned]

theorem partWaitWork_waiting {n : Nat} {m : SolverMember} {s : State} (hm : s.solved n = some m)
    (hwait : (s.solveRun n).waiting = true) (hwarned : s.hsw.warned = false) :
    partWaitWork n (s.solveRun n).epochMs s = settle n (solveParts n m true s) := by
  simp [partWaitWork, hm, hwait, hwarned]

/-! ### Missing epochs (R182) -/

theorem lacks_iff (r : SolveRun) (e : Nat) :
    r.lacks e = true ↔ r.begun = true ∧ e ∉ r.seen ∧ (∀ l ∈ r.lastSolved, l < e) ∧ ∀ l ∈ r.lastEpoch, l < e := by
  have hafter : ∀ o : Option Nat,
      (match o with | some l => decide (l < e) | none => true) = true ↔ ∀ l ∈ o, l < e := fun o => by
    cases o <;> simp
  simp only [SolveRun.lacks, Bool.and_eq_true, Bool.not_eq_true', List.contains_eq_mem, decide_eq_false_iff_not,
    and_assoc]
  exact and_congr_right' (and_congr_right' (and_congr (hafter _) (hafter _)))

theorem predictWork_not_lacking {n e : Nat} {s : State} (h : (s.solveRun n).lacks e = false) : predictWork n e s = s := by
  unfold predictWork
  cases s.solved n <;> simp [h]

theorem predictWork_lacking {n e : Nat} {m : SolverMember} {s : State} (hm : s.solved n = some m)
    (hlacks : (s.solveRun n).lacks e = true) (hwarned : s.hsw.warned = false) :
    predictWork n e s = settle n (envelopeStep n (predict n e m s)) := by
  simp [predictWork, hm, hlacks, hwarned]

/-- An epoch on the grid that a member lacks is predicted when a core takes the work. -/
theorem execMissingEpoch_served {n e : Nat} {m : SolverMember} {s v : State} (hm : s.solved n = some m)
    (hstb : s.ctl.time.stb.isSome = true) (hwarned : s.hsw.warned = false) (hlacks : (s.solveRun n).lacks e = true)
    (hgrid : onGrid ((s.solveRun n).interval m e) e = true)
    (hv : v = (passToStb ((e + (s.solveRun n).interval m e + 20) * unitMs) s).modSolveRun n fun x =>
      { x with readyAt := (passToStb ((e + (s.solveRun n).interval m e + 20) * unitMs) s).mtb })
    (hserves : v.servesNow 4 (s.flowOf n) = true) :
    execMissingEpoch n e s = .next (settle n (envelopeStep n (predict n e m (ranItem 4 (s.flowOf n) n v)))) := by
  have hstb' : s.ctl.time.stb.isNone = false := by simpa [Option.isSome_iff_ne_none] using hstb
  have hlacks' : ((ranItem 4 (s.flowOf n) n v).solveRun n).lacks e = true := by
    rw [ranItem_solveRun, hv, modSolveRun_solveRun, passToStb_solveRun]
    exact hlacks
  simp only [execMissingEpoch, hm, hgrid, hstb', hwarned, hlacks, Bool.not_true, Bool.or_false, Bool.false_eq_true, if_false,
    passToStb_flowOf, ← hv, workOn, hserves, if_true]
  rw [predictWork_lacking (m := m) (by simp [hv, hm]) hlacks' (by simp [hv, hwarned])]

/-! ### Timers and alarms of the solver -/

/-- The filter state of a member gone for 60 s is forgotten. -/
theorem execFilterRetentionExpiry_forgets {n : Nat} {s : State} (hconn : s.conn n = none)
    (hended : (s.solveRun n).endedAt ≠ none) :
    ∃ t, execFilterRetentionExpiry n s = .next t ∧ (t.solveRun n).held = [] ∧ (t.solveRun n).reinit = 7 ∧
      (t.solveRun n).solution = none ∧ t.ctl = { s.ctl with filters := tdel s.ctl.filters n } := by
  refine ⟨_, if_neg (by simp [hconn, hended]), ?_⟩
  simp [State.solveRun, State.modSolveRun]

/-- Settles O26: each item, timer and alarm by the branch that its premises select. -/
theorem solverEvents : Obligations.SolverEvents := by
  unfold Obligations.SolverEvents
  refine ⟨fun core i k d s u hi hd => ?uplink, fun core i d s u hi hd => ?app, fun core i d s u hi hd => ?status,
    fun n m s hm hwait hwarned hserves => ?partsNow, fun n m s hm hwait hwarned hserves => ?partsLater,
    fun n e m s hm hstb hwarned hlacks hgrid hserves => ?missing, fun n e s => predictWork_not_lacking, lacks_iff,
    fun n s => execFilterRetentionExpiry_forgets, fun v b s hstb hbase hwarned => ?crossTest, fun c v s => rfl,
    fun c v x s hx helapsed hclean => ?exclusion, fun e n a s ha hclean => ?tile⟩
  case uplink => simp only [exec, execUplinkItem, hi, uplinkWork_packet hd]
  case app => simp [exec, execMemberMsgItem, hi, memberMsgWork_packet hd, memberMessage]
  case status => simp [exec, execMemberMsgItem, hi, memberMsgWork_packet hd, memberMessage]
  case partsNow =>
    have hwork := partWaitWork_waiting (n := n) (m := m)
      (s := ranItem 4 (s.flowOf n) n (s.modSolveRun n fun x => { x with readyAt := s.mtb })) (by simpa using hm)
      (by simpa using hwait) (by simpa using hwarned)
    rw [ranItem_solveRun, modSolveRun_solveRun] at hwork
    rw [exec, execEpochPartWaitExpiry_waiting hm hwait hwarned, workOn, if_pos hserves, hwork]
  case partsLater =>
    rw [exec, execEpochPartWaitExpiry_waiting hm hwait hwarned, workOn, if_neg (Bool.not_eq_true _ ▸ hserves)]
  case missing => exact execMissingEpoch_served hm hstb hwarned hlacks hgrid rfl hserves
  case crossTest => simp only [exec, execCrossMemberTest, hstb, hbase, hwarned, Bool.false_eq_true, if_false]
  case exclusion => simp [exec, execSolverAlarmClearExpiry, hx, helapsed, hclean]
  case tile => simp [exec, execSolverAlarmClearExpiry, ha, hclean]

end Sys2Proof.Machine
end

section
/-! SUPPORT.
Loop inputs, stops of scope all, Sluice slots and confirmation (O37).
-/

namespace Sys2Proof.Machine

/-! ### Requests and reports touch neither stops nor the Sluice logic -/

@[simp] theorem fedSend_offPath (p t x : Nat) (b : List Byte) (s : State) : (fedSend p t x b s).offPath = s.offPath := by
  simp [fedSend]

@[simp] theorem fedRequest_ctl (p t : Nat) (b : List Byte) (s : State) : (fedRequest p t b s).2.ctl = s.ctl :=
  (offPath_ctl (fedSend_offPath _ _ _ _ _)).trans rfl
@[simp] theorem fedRequest_sluice (p t : Nat) (b : List Byte) (s : State) :
    (fedRequest p t b s).2.vol.sluice = s.vol.sluice :=
  (eq_of_offPath (·.vol.sluice) (fun _ => rfl) (fedSend_offPath _ _ _ _ _)).trans rfl

/-- A request to every peer touches neither the control state nor the Sluice logic. -/
@[simp] theorem fedRequestAll_ctl (ps : List Nat) (t : Nat) (b : List Byte) (s : State) :
    (fedRequestAll ps t b s).ctl = s.ctl := by
  unfold fedRequestAll
  induction ps generalizing s with
  | nil => rfl
  | cons p ps ih => simp [ih]
@[simp] theorem fedRequestAll_sluice (ps : List Nat) (t : Nat) (b : List Byte) (s : State) :
    (fedRequestAll ps t b s).vol.sluice = s.vol.sluice := by
  unfold fedRequestAll
  induction ps generalizing s with
  | nil => rfl
  | cons p ps ih => simp [ih]

theorem stopStatus_offPath (x : Stop) (event : Nat) (s : State) :
    (stopStatus x event s).offPath = (s.modStop x.no fun y => { y with reported := x.counts }).offPath := by
  simp [stopStatus]

@[simp] theorem stopStatus_ctl (x : Stop) (event : Nat) (s : State) :
    (stopStatus x event s).ctl = (s.modStop x.no fun y => { y with reported := x.counts }).ctl :=
  offPath_ctl (stopStatus_offPath x event s)
@[simp] theorem stopStatus_sluice (x : Stop) (event : Nat) (s : State) :
    (stopStatus x event s).vol.sluice = s.vol.sluice :=
  (eq_of_offPath (·.vol.sluice) (fun _ => rfl) (stopStatus_offPath x event s)).trans rfl
@[simp] theorem stopStatus_stops (x : Stop) (event : Nat) (s : State) :
    (stopStatus x event s).stops = (s.modStop x.no fun y => { y with reported := x.counts }).stops := by
  simp only [State.stops, stopStatus_ctl]

/-! ### Changing one stop -/

theorem modStop_ctl_congr {s t : State} (h : t.ctl = s.ctl) (n : Nat) (f : Stop → Stop) :
    (t.modStop n f).ctl = (s.modStop n f).ctl := by
  simp only [State.modStop, h]

theorem modStop_stops (s : State) (n : Nat) (f : Stop → Stop) :
    (s.modStop n f).stops = s.stops.map fun x => if x.no = n then f x else x := rfl

theorem modStop_congr {s : State} {n : Nat} {f g : Stop → Stop} (h : ∀ x ∈ s.stops, x.no = n → f x = g x) :
    s.modStop n f = s.modStop n g := by
  have hmap : s.ctl.sluice.stops.map (fun x => if x.no = n then f x else x) =
      s.ctl.sluice.stops.map fun x => if x.no = n then g x else x :=
    List.map_congr_left fun x hx => by
      by_cases hn : x.no = n
      · simp [hn, h x hx hn]
      · simp [hn]
  simp only [State.modStop, hmap]

theorem modStop_absent {s : State} {n : Nat} {f : Stop → Stop} (h : ∀ x ∈ s.stops, x.no ≠ n) : s.modStop n f = s := by
  rw [modStop_congr (g := id) fun x hx hn => absurd hn (h x hx)]
  simp [State.modStop]

theorem modStop_modStop {s : State} {n : Nat} {f g : Stop → Stop} (h : ∀ x, x.no = n → (f x).no = n) :
    (s.modStop n f).modStop n g = s.modStop n fun x => g (f x) := by
  have hmap : (s.ctl.sluice.stops.map fun x => if x.no = n then f x else x).map (fun x => if x.no = n then g x else x) =
      s.ctl.sluice.stops.map fun x => if x.no = n then g (f x) else x := by
    rw [List.map_map]
    refine List.map_congr_left fun x _ => ?_
    by_cases hn : x.no = n
    · simp [hn, h x hn]
    · simp [hn]
  simp only [State.modStop, hmap]

/-- What a change of stop `n` keeps of each stop, it keeps of the list. -/
theorem modStop_map {α : Type} (g : Stop → α) {s : State} {n : Nat} {f : Stop → Stop}
    (h : ∀ x ∈ s.stops, x.no = n → g (f x) = g x) : (s.modStop n f).stops.map g = s.stops.map g := by
  rw [modStop_stops, List.map_map]
  refine List.map_congr_left fun x hx => ?_
  by_cases hn : x.no = n
  · simp [hn, h x hx hn]
  · simp [hn]

/-- Stop `n` after a change that keeps its number. -/
theorem modStop_find? {s : State} {n : Nat} {f : Stop → Stop} (h : ∀ x, x.no = n → (f x).no = n) :
    (s.modStop n f).stops.find? (fun x => x.no == n) = (s.stops.find? fun x => x.no == n).map f := by
  have hno : ((fun x : Stop => x.no == n) ∘ fun x => if x.no = n then f x else x) = fun x => x.no == n := by
    funext x
    by_cases hn : x.no = n
    · simp [hn, h x hn]
    · simp [hn]
  rw [modStop_stops, List.find?_map, hno]
  cases hx : s.stops.find? (fun x => x.no == n) with
  | none => rfl
  | some x =>
    have hn : x.no = n := by simpa using List.find?_some hx
    simp [hn]

theorem allCat_eq (s : State) :
    s.allCat = (((s.stops.map fun x => (x.all, x.category)).filter (·.1)).map (·.2)).foldl max 0 := by
  simp only [State.allCat, List.filter_map, List.map_map]
  rfl

theorem allCat_congr {s t : State}
    (h : (t.stops.map fun x => (x.all, x.category)) = s.stops.map fun x => (x.all, x.category)) : t.allCat = s.allCat := by
  rw [allCat_eq, allCat_eq, h]

/-! ### A stop of scope all (R288 to R290) -/

/-- The stop of scope all that a source of this controller queues. -/
def stopAll (cause cat : Nat) (s : State) : Stop :=
  { no := (s.ctl.sluice.stopSeq + 1) % 65536, category := cat, cause := cause, targets := [], copies := 0,
    queuedNs := s.mtbNs, members := (s.ctl.conns.filter fun _ => true).map fun e => ⟨e.2.memberId, e.1, .pending⟩,
    confirmOver := false, reported := (0, 0, 0), spans := s.subLanes.map fun l => (l, []), sentOn := [],
    site := siteRef .here cause ((s.ctl.sluice.stopSeq + 1) % 65536) s }

/-- The state in which that stop is queued, and permission withdrawn. -/
def withStopAll (cause cat : Nat) (s : State) : State :=
  { s with ctl.sluice := { s.ctl.sluice with
    stops := s.ctl.sluice.stops ++ [stopAll cause cat s], stopSeq := (s.ctl.sluice.stopSeq + 1) % 65536, grantMap := 0 } }

/-- Beside the stop itself, the new stop of a source of this controller sends messages and requests only. -/
theorem newStop_here_all (cause cat : Nat) (s : State) :
    (newStop cause cat [] .here s).2.vol.sluice = s.vol.sluice ∧
    (newStop cause cat [] .here s).2.ctl = ((withStopAll cause cat s).modStop (stopAll cause cat s).no fun y =>
      { y with reported := (stopAll cause cat s).counts }).ctl := by
  unfold newStop
  dsimp only
  split
  · contradiction
  · refine ⟨by simp, ?_⟩
    rw [fedRequestAll_ctl, stopStatus_ctl]
    exact modStop_ctl_congr (record_ctl ..) _ _
  · refine ⟨by simp, ?_⟩
    rw [stopStatus_ctl]
    exact modStop_ctl_congr (record_ctl ..) _ _

/-- What a new stop of scope all and of a category leaves of the Sluice state. -/
structure StoppedAll (cat : Nat) (s t : State) : Prop where
  run : t.vol.sluice = s.vol.sluice
  stopSeq : t.ctl.sluice.stopSeq = (s.ctl.sluice.stopSeq + 1) % 65536
  grantMap : t.ctl.sluice.grantMap = 0
  withheld : t.ctl.sluice.withheld = s.ctl.sluice.withheld
  allCat : t.allCat = max s.allCat cat
  length : t.stops.length = s.stops.length + 1

theorem withStopAll_allCat (cause cat : Nat) (s : State) : (withStopAll cause cat s).allCat = max s.allCat cat := by
  have hall : (stopAll cause cat s).all = true := rfl
  simp only [State.allCat, State.stops, withStopAll, List.filter_append, List.filter_cons, hall, if_true, List.filter_nil,
    List.map_append, List.map_cons, List.map_nil, List.foldl_append, List.foldl_cons, List.foldl_nil]
  rfl

theorem raiseStop_all {cause cat : Nat} {s : State} (h : s.suppressor cause cat = none) :
    StoppedAll cat s (raiseStop cause cat [] .here s).2.2 := by
  have hnew : (raiseStop cause cat [] .here s).2.2 = (newStop cause cat [] .here s).2 := by
    simp only [raiseStop, h, ite_self]
  obtain ⟨hrun, hctl⟩ := newStop_here_all cause cat s
  rw [hnew]
  refine ⟨hrun, by rw [hctl]; rfl, by rw [hctl]; rfl, by rw [hctl]; rfl, ?_, ?_⟩
  · rw [← withStopAll_allCat cause cat s]
    refine allCat_congr ?_
    rw [State.stops, hctl]
    exact modStop_map _ fun _ _ _ => rfl
  · rw [State.stops, hctl]
    simp [State.modStop, withStopAll, State.stops]

/-! ### Loop inputs (R57, R58) -/

@[simp] theorem classify_ctl (i : Nat) (c : LoopIn) (s : State) : (classify i c s).ctl = s.ctl := rfl

@[simp] theorem classify_loopIn (i : Nat) (c : LoopIn) (s : State) : (classify i c s).loopIn i = c := by
  by_cases hi : i = 0 <;> simp [classify, State.loopIn, hi]

/-- The other input stays as it is. -/
theorem classify_loopIn_other {i : Nat} (hi : i ≤ 1) (c : LoopIn) (s : State) :
    (classify i c s).loopIn (1 - i) = s.loopIn (1 - i) := by
  obtain rfl | rfl : i = 0 ∨ i = 1 := by omega
  · rfl
  · rfl

theorem loopIn_congr {s t : State} (h : t.vol.sluice = s.vol.sluice) (i : Nat) : t.loopIn i = s.loopIn i := by
  simp only [State.loopIn, h]

/-- An input classified open raises the stop of its cause at once. -/
theorem execSluInOpen_raises {i : Nat} {s : State} (hi : i ≤ 1) (hon : s.loopOn = true) (hin : s.loopIn i ≠ .opened) :
    execSluInOpen i s = .next (raiseStop (2 + i) s.cfg.sluice.loopCat [] .here (classify i .opened s)).2.2 := by
  simp [execSluInOpen, hon, hin, Nat.not_lt.mpr hi]

/-- A discrepancy that lasts raises cause 4, and notes that it has. -/
theorem execLoopDiscrepancyTimeout_raises {s : State} (hon : s.loopOn = true) (hsince : s.vol.sluice.discSince = true)
    (hnew : s.vol.sluice.discStop = false) :
    execLoopDiscrepancyTimeout s = .next (raiseStop 4 s.cfg.sluice.discCat [] .here
      { s with vol.sluice := { s.vol.sluice with discStop := true } }).2.2 := by
  simp [execLoopDiscrepancyTimeout, hon, hsince, hnew]

/-! ### Confirmation (R299, R300) -/

theorem unreach_not_pending (m : StopMember) : m.unreach.cls ≠ .pending := by
  unfold StopMember.unreach
  split
  · simp
  · assumption

theorem count_pending_unreach (ms : List StopMember) :
    ((ms.map StopMember.unreach).filter fun m => m.cls == .pending).length = 0 := by
  simp [List.filter_eq_nil_iff, unreach_not_pending]

/-- Stops are told apart by their numbers. -/
theorem eq_of_find?_no {l : List Stop} (hnodup : (l.map Stop.no).Nodup) {n : Nat} {x y : Stop}
    (hx : l.find? (fun z => z.no == n) = some x) (hy : y ∈ l) (hno : y.no = n) : y = x := by
  have hxn : x.no = n := by simpa using List.find?_some hx
  exact List.inj_on_of_nodup_map hnodup hy (List.mem_of_find?_eq_some hx) (hno.trans hxn.symm)

/-- What a change of a stop keeps, but for its members and what has been reported of them. -/
structure Reclasses (f : StopMember → StopMember) (g : Stop → Stop) : Prop where
  no : ∀ x, (g x).no = x.no
  category : ∀ x, (g x).category = x.category
  confirmOver : ∀ x, (g x).confirmOver = x.confirmOver
  members : ∀ x, (g x).members = x.members.map f

/-- A stop with its members classed anew. -/
def Stop.classAnew (f : StopMember → StopMember) (x : Stop) : Stop := { x with members := x.members.map f }

theorem Stop.classAnew_reclasses (f : StopMember → StopMember) : Reclasses f (Stop.classAnew f) :=
  ⟨fun _ => rfl, fun _ => rfl, fun _ => rfl, fun _ => rfl⟩

theorem reclass_found {n : Nat} {x : Stop} {s : State} {f : StopMember → StopMember}
    (hnodup : (s.stops.map Stop.no).Nodup) (hx : s.stops.find? (fun x => x.no == n) = some x) :
    reclass n f s =
      if x.count .pending ≠ 0 ∧ (x.classAnew f).count .pending = 0 then
        stopStatus (x.classAnew f) 2 (s.modStop n (Stop.classAnew f))
      else s.modStop n (Stop.classAnew f) := by
  rw [← modStop_congr (f := fun _ => x.classAnew f) fun y hy hno => by rw [eq_of_find?_no hnodup hx hy hno], reclass, hx]
  rfl

/-- The members of stop `n` are classed anew, and nothing else of the control state changes. -/
theorem reclass_ctl {n : Nat} {s : State} (f : StopMember → StopMember) (hnodup : (s.stops.map Stop.no).Nodup) :
    ∃ g, Reclasses f g ∧ (reclass n f s).ctl = (s.modStop n g).ctl := by
  cases hx : s.stops.find? (fun x => x.no == n) with
  | none =>
    have hne : ∀ x ∈ s.stops, x.no ≠ n := fun x hm => by simpa using List.find?_eq_none.mp hx x hm
    exact ⟨Stop.classAnew f, Stop.classAnew_reclasses f, by rw [modStop_absent hne, reclass, hx]⟩
  | some x =>
    have hxn : x.no = n := by simpa using List.find?_some hx
    rw [reclass_found hnodup hx]
    split
    · refine ⟨fun y => { y.classAnew f with reported := (x.classAnew f).counts },
        ⟨fun _ => rfl, fun _ => rfl, fun _ => rfl, fun _ => rfl⟩, ?_⟩
      rw [stopStatus_ctl, show (x.classAnew f).no = n from hxn, modStop_modStop (f := Stop.classAnew f) fun y hy => hy]
    · exact ⟨_, Stop.classAnew_reclasses f, rfl⟩

/-- What confirm_ms leaves: the same stops, of which stop `n` is over with nobody pending. -/
structure Confirmed (n : Nat) (s t : State) : Prop where
  numbers : t.stops.map Stop.no = s.stops.map Stop.no
  categories : t.stops.map Stop.category = s.stops.map Stop.category
  grantMap : t.ctl.sluice.grantMap = s.ctl.sluice.grantMap
  confirmed : ∀ x ∈ t.stops.find? (fun y : Stop => y.no == n), x.count .pending = 0 ∧ x.confirmOver = true

theorem reclass_unreach_confirmed {n : Nat} {s : State} (hnodup : (s.stops.map Stop.no).Nodup) :
    Confirmed n s (reclass n StopMember.unreach (s.modStop n fun x => { x with confirmOver := true })) := by
  have hnumbers := modStop_map Stop.no (s := s) (n := n) (f := fun x => { x with confirmOver := true }) fun _ _ _ => rfl
  obtain ⟨g, hg, hctl⟩ := reclass_ctl (n := n) StopMember.unreach (hnumbers ▸ hnodup)
  refine ⟨?_, ?_, ?_, fun x hx => ?_⟩
  · rw [State.stops, hctl]
    exact (modStop_map _ fun x _ _ => hg.no x).trans hnumbers
  · rw [State.stops, hctl]
    exact (modStop_map _ fun x _ _ => hg.category x).trans (modStop_map _ fun _ _ _ => rfl)
  · rw [hctl]
    rfl
  · rw [State.stops, hctl] at hx
    change x ∈ ((s.modStop n _).modStop n g).stops.find? _ at hx
    rw [modStop_find? fun y hy => (hg.no y).trans hy,
      modStop_find? (f := fun x => { x with confirmOver := true }) fun y hy => hy] at hx
    obtain ⟨y, -, rfl⟩ : ∃ y, s.stops.find? (fun y => y.no == n) = some y ∧ g { y with confirmOver := true } = x := by
      simpa using hx
    refine ⟨?_, by rw [hg.confirmOver]⟩
    rw [Stop.count, hg.members]
    exact count_pending_unreach _

/-- Settles O37: loop inputs by the stop of scope all that they raise, confirmation by what reclassing keeps. -/
theorem sluiceLoopAndSlots : Obligations.SluiceLoopAndSlots := by
  unfold Obligations.SluiceLoopAndSlots
  refine ⟨fun i s hi hon hin hsup => ?opened, fun i s hi hon => ?classified, fun s hon hsince hnew hsup => ?discrepancy,
    fun asn a s ha hle => ?slot, fun asn s hsends hlanes hdue => ?frame, fun l asn a s ha hle heven hsub hsends => ?span,
    fun n s hnodup => ?confirm, fun n x s hx => ?report⟩
  case opened =>
    obtain ⟨hrun, hseq, hmap, hheld, hcat, hlen⟩ :=
      raiseStop_all (cause := 2 + i) (cat := s.cfg.sluice.loopCat) (s := classify i .opened s) hsup
    exact ⟨_, execSluInOpen_raises hi hon hin, by rw [loopIn_congr hrun, classify_loopIn], hseq, hmap, hcat, hlen, hheld⟩
  case classified =>
    have hin : ¬ 1 < i := by omega
    exact ⟨by simp [exec, execSluInClosed, hin, hon], by simp [exec, execSluInFault, hin, hon], classify_ctl .., by simp,
      by simp, classify_loopIn_other hi _ s⟩
  case discrepancy =>
    obtain ⟨hrun, hseq, hmap, -, hcat, -⟩ := raiseStop_all (cause := 4) (cat := s.cfg.sluice.discCat)
      (s := { s with vol.sluice := { s.vol.sluice with discStop := true } }) hsup
    exact ⟨_, execLoopDiscrepancyTimeout_raises hon hsince hnew, by rw [hrun], hmap, hseq, hcat⟩
  case slot => simp [exec, execSluiceSlot, ha, Nat.not_lt.mpr hle]
  case frame => simp [sluiceFrame, hsends, hlanes, hdue]
  case span => simp [exec, execSubghzStopSpan, ha, Nat.not_lt.mpr hle, heven, hsub, hsends]
  case confirm =>
    obtain ⟨hno, hcat, hmap, hover⟩ := reclass_unreach_confirmed (n := n) hnodup
    exact ⟨_, rfl, hno, hcat, hmap, hover⟩
  case report => simp [exec, execStopStatusReport, hx]

end Sys2Proof.Machine
end

section
/-! SUPPORT.
Supply events, warnings, temperatures, mode changes and the end of RESET.SIDE (O17).
-/

namespace Sys2Proof.Machine

/-! ### What stopping ports and parking cores leaves -/

@[simp] theorem modCore_offPath (s : State) (k : Nat) (f : WorkCore → WorkCore) : (s.modCore k f).offPath = s.offPath := rfl
@[simp] theorem releaseAffinity_offPath (k : Nat) (s : State) : (releaseAffinity k s).offPath = s.offPath := rfl

@[simp] theorem parkCores_offPath (s : State) : (parkCores s).offPath = s.offPath := by
  refine foldl_offPath _ (fun s k => ?_) _ _
  split
  · rfl
  · split <;> rfl

/-- The state without the path of commands and without the capture ports. -/
def State.offWader (s : State) : State := { s with vol.wader := default }.offPath

theorem offWader_of_offPath {s t : State} (h : t.offPath = s.offPath) : t.offWader = s.offWader :=
  eq_of_offPath State.offWader (fun _ => rfl) h

/-- What is read off the path and off the capture ports is the same in two states that differ there only. -/
theorem eq_of_offWader {α : Type} (f : State → α) (hf : ∀ s : State, f s.offWader = f s) {s t : State}
    (h : t.offWader = s.offWader) : f t = f s := by
  rw [← hf t, h, hf]

@[simp] theorem modPort_offWader (s : State) (p : Nat) (f : PortRun → PortRun) : (s.modPort p f).offWader = s.offWader := rfl

@[simp] theorem captureEvent_offWader (p kind : Nat) (s : State) : (captureEvent p kind s).offWader = s.offWader :=
  offWader_of_offPath (sendMsg_offPath _ _ _)

@[simp] theorem draw_offWader (s : State) : s.draw.2.offWader = s.offWader := rfl

@[simp] theorem addRecord_offWader (p n pre : Nat) (c : PortSettings) (overflow truncated : Bool) (s : State) :
    (addRecord p n pre c overflow truncated s).offWader = s.offWader := by
  simp only [addRecord, sealRecord, modPort_offWader]
  exact (offWader_of_offPath (countEvents_offPath _ _ _ _)).trans rfl

@[simp] theorem stopPort_offWader (cause p : Nat) (s : State) : (stopPort cause p s).offWader = s.offWader := by
  simp only [stopPort]
  split
  · rfl
  · split
    · rw [captureEvent_offWader, modPort_offWader]
      split
      · rw [addRecord_offWader, draw_offWader]
      · rfl
    · rfl

@[simp] theorem stopPorts_offWader (cause : Nat) (f : Nat → Bool) (s : State) :
    (stopPorts cause f s).offWader = s.offWader := by
  unfold stopPorts
  induction List.range 4 generalizing s with
  | nil => rfl
  | cons p ps ih =>
    rw [List.foldl_cons, ih]
    split
    · split
      · exact stopPort_offWader _ _ _
      · rfl
    · rfl

/-! ### Warnings (R44, R47) -/

@[simp] theorem raiseIrq_irqCause (k : Nat) (s : State) :
    (raiseIrq k s).hsw.irqCause = s.hsw.irqCause ||| BitVec.ofNat 11 (1 <<< k) := by
  simp only [raiseIrq]
  split <;> simp

theorem raiseIrq_getLsbD_supply (s : State) : (raiseIrq irqSupply s).hsw.irqCause.getLsbD irqSupply = true := by
  rw [raiseIrq_irqCause, BitVec.getLsbD_or, Bool.or_eq_true]
  exact .inr (by decide)

@[simp] theorem raiseIrq_warned (k : Nat) (s : State) : (raiseIrq k s).hsw.warned = s.hsw.warned :=
  eq_of_offPath (·.hsw.warned) (fun _ => rfl) (raiseIrq_offPath k s)
@[simp] theorem raiseIrq_downWhy (k : Nat) (s : State) : (raiseIrq k s).hsw.downWhy = s.hsw.downWhy :=
  eq_of_offPath (·.hsw.downWhy) (fun _ => rfl) (raiseIrq_offPath k s)
@[simp] theorem raiseIrq_vol (k : Nat) (s : State) : (raiseIrq k s).vol = s.vol := by
  obtain ⟨i, p, o, h⟩ := raiseIrq_eq k s
  rw [h]

@[simp] theorem brownOutSide_hsw (x : SideId) (mv : Nat) (s : State) : (brownOutSide x mv s).hsw = s.hsw := by
  simp [brownOutSide]
@[simp] theorem brownOutSide_vol (x : SideId) (mv : Nat) (s : State) : (brownOutSide x mv s).vol = s.vol := by
  simp [brownOutSide]

/-- Parking cores and stopping ports adds nothing to what a warning stops. -/
theorem brownOutActive_reads {α : Type} (f : State → α) (hf : ∀ s : State, f s.offWader = f s) (s : State) :
    f (brownOutActive s) = f { s with
      vol.sluice := { s.vol.sluice with state := if s.vol.sluice.state = .running then .withdrawn else s.vol.sluice.state }
      vol.gnss := { s.vol.gnss with channels := [] }
      vol.redun := { s.vol.redun with noNewCkpt := true, due := false } } := by
  refine eq_of_offWader f hf ?_
  rw [brownOutActive, offWader_of_offPath (parkCores_offPath _), stopPorts_offWader]

@[simp] theorem brownOutActive_warned (s : State) : (brownOutActive s).hsw.warned = s.hsw.warned :=
  brownOutActive_reads (·.hsw.warned) (fun _ => rfl) s
@[simp] theorem brownOutActive_downWhy (s : State) : (brownOutActive s).hsw.downWhy = s.hsw.downWhy :=
  brownOutActive_reads (·.hsw.downWhy) (fun _ => rfl) s

/-- The active side stops new checkpoints, permission and the GNSS channels. -/
theorem brownOutActive_stops (s : State) :
    (brownOutActive s).vol.redun.noNewCkpt = true ∧ (brownOutActive s).vol.sluice.state ≠ .running ∧
    (brownOutActive s).vol.gnss.channels = [] := by
  refine ⟨brownOutActive_reads (·.vol.redun.noNewCkpt) (fun _ => rfl) s, ?_,
    brownOutActive_reads (·.vol.gnss.channels) (fun _ => rfl) s⟩
  rw [brownOutActive_reads (·.vol.sluice.state) (fun _ => rfl) s]
  dsimp only
  split
  · simp
  · assumption

/-- The state in which a warning has been noted, before anything is stopped. -/
def noteWarning (why : Nat) (s : State) : State := { s with hsw := { s.hsw with warned := true, downWhy := why } }

theorem brownOut_eq {why mv : Nat} {s : State} (hvin : s.env.vinUp = true) (hwarned : s.hsw.warned = false) :
    brownOut why mv s = raiseIrq irqSupply (brownOutSide .b mv (brownOutSide .a mv
      (if s.actOn then brownOutActive (noteWarning why s) else noteWarning why s))) := by
  simp only [brownOut, hvin, hwarned]
  rfl

/-- A warning with VIN up notes its reason, raises SUPPLY, and stops the active side. -/
theorem brownOut_warns {why mv : Nat} {s : State} (hvin : s.env.vinUp = true) (hwarned : s.hsw.warned = false) :
    (brownOut why mv s).hsw.warned = true ∧ (brownOut why mv s).hsw.downWhy = why ∧
    (brownOut why mv s).hsw.irqCause.getLsbD irqSupply = true ∧
    (s.actOn = true → (brownOut why mv s).vol.redun.noNewCkpt = true ∧
      (brownOut why mv s).vol.sluice.state ≠ .running ∧ (brownOut why mv s).vol.gnss.channels = []) := by
  rw [brownOut_eq hvin hwarned]
  refine ⟨?_, ?_, raiseIrq_getLsbD_supply _, fun hon => ?_⟩
  · cases s.actOn <;> simp [noteWarning]
  · cases s.actOn <;> simp [noteWarning]
  · rw [if_pos hon, raiseIrq_vol, brownOutSide_vol, brownOutSide_vol]
    exact brownOutActive_stops _

/-! ### Temperatures (R50) -/

theorem actOn_iff (s : State) : s.actOn = true ↔ s.hsw.active.isSome = true ∧ s.act.mainOn = true := by
  simp [State.actOn]

/-- A sensor of the active side below the limit is recorded. -/
theorem execJunctionTempThreshold_active {k : Nat} {c : Int} {s : State} (hon : s.actOn = true) (hwarm : 1150 ≤ c)
    (hlimit : c < 1230) (hk : k % 12 < 6) :
    execJunctionTempThreshold k c s = .next (record 0x1405 (k % 6) (leInt 2 c ++ leBytes 1 0) s) := by
  obtain ⟨hact, hmain⟩ := (actOn_iff s).mp hon
  have hcold : ¬ c < 1150 := by omega
  have hhot : ¬ 1230 ≤ c := by omega
  have hside : ¬ 6 ≤ k % 12 := by omega
  have hnone : s.hsw.active.isNone = false := by simpa [Option.isSome_iff_ne_none] using hact
  simp [execJunctionTempThreshold, hnone, hmain, hcold, hhot, hside, b2n]

/-- A sensor of the other side is recorded by that side, while its main domains are on. -/
theorem execJunctionTempThreshold_other {k : Nat} {c : Int} {s : State} (hact : s.hsw.active ≠ none)
    (hmain : s.other.mainOn = true) (hwarm : 1150 ≤ c) (hk : 6 ≤ k % 12) :
    execJunctionTempThreshold k c s =
      .next (recordOn s.otherId 0x1405 (k % 6) (leInt 2 c ++ leBytes 1 (b2n (decide (1230 ≤ c)))) s) := by
  have hcold : ¬ c < 1150 := by omega
  simp [execJunctionTempThreshold, hact, hmain, hcold, hk]

/-- Settles O17: both warnings by what one warning does, the other events by their branch. -/
theorem supplyModeAndResetEvents : Obligations.SupplyModeAndResetEvents := by
  unfold Obligations.SupplyModeAndResetEvents
  refine ⟨fun mv s hon => ?vin, fun mv s hvin hwarned => ?brownOut, fun mv s hvin hwarned => ?overvoltage,
    fun k c s => execJunctionTempThreshold_active, fun k c s => execJunctionTempThreshold_other,
    fun m c s hp hm hmode => ?mode, fun m c s hp hfen => ?modeFen, fun ok code r c s hr hkind hstage hact hcmd => ?reset⟩
  case vin => simp [exec, execVinSupplyEvent, hon]
  case brownOut => exact ⟨_, rfl, brownOut_warns hvin hwarned⟩
  case overvoltage => exact ⟨_, rfl, brownOut_warns hvin hwarned⟩
  case mode => simp [exec, execPowerModeTakesEffect, hp, hm, hmode]
  case modeFen => simp [exec, execPowerModeTakesEffect, hp, hfen]
  case reset => simp [exec, execResetSideDone, hr, hkind, hstage, hact, hcmd, answer]

end Sys2Proof.Machine
end

section
/-! SUPPORT.
Events of the GNSS baseband: integrations, acquisition, monitors, notches, mapping, Fen bursts and antenna bias (O22).
-/

namespace Sys2Proof.Machine

/-! ### Acquisition (R134) -/

/-- A detection of a channel in the batch, within its search range, puts it into code lock, and the batch is searched. -/
theorem execAcquisitionDwellDone_hit {k : Nat} {code : Rat} {mhz : Int} {x : Channel} {s : State} (hx : (k, x) ∈ s.acqBatch)
    (hwarned : s.hsw.warned = false) (hburst : s.vol.gnss.fen = true → s.vol.gnss.burst = true)
    (hin : s.withinSearch x.set code mhz = true) :
    execAcquisitionDwellDone [(k, code, mhz)] s = .next (
      ((countEvents 0x0502 none (s.acqBatch.map fun b => s.dwells b.2.set).sum s).modGnss fun g =>
        { g with searched := (if (s.acqBatch.all fun b => s.vol.gnss.searched.contains b.1) = true then []
            else s.vol.gnss.searched) ++ s.acqBatch.map (·.1) }).modChan k fun c =>
      if c.state = .acquiring then
        { c with state := .codeLock, codePhase := code, a := mkRat mhz 1000, fCarrier := mkRat mhz 1000, fll := true }
      else c) := by
  have hbatch : s.acqBatch.isEmpty = false := by
    rw [List.isEmpty_eq_false_iff]
    exact List.ne_nil_of_mem hx
  have hasleep : (s.vol.gnss.fen && !s.vol.gnss.burst) = false := by
    cases hfen : s.vol.gnss.fen
    · rfl
    · simp [hburst hfen]
  have hhit : (s.acqBatch.any fun b => b.1 == k && s.withinSearch b.2.set code mhz) = true :=
    List.any_eq_true.mpr ⟨(k, x), hx, by simp [hin]⟩
  simp only [execAcquisitionDwellDone, hbatch, hwarned, hasleep, Bool.or_false, Bool.false_eq_true, if_false,
    List.filter_cons, List.filter_nil, hhit, if_true, List.foldl_cons, List.foldl_nil]

/-! ### Multipath mapping (R142) -/

@[simp] theorem mapMessage_offPath (k sig sv az el cause : Nat) (mags : List Nat) (s : State) :
    (mapMessage k sig sv az el cause mags s).offPath = s.offPath := sendMsg_offPath _ _ _

@[simp] theorem mapMeasured_offPath (k sig sv cause : Nat) (s : State) :
    (mapMeasured k sig sv cause s).offPath = s.offPath := by
  simp only [mapMeasured, mapMessage_offPath, draw_offPath]

@[simp] theorem mapMeasured_gnss (k sig sv cause : Nat) (s : State) :
    (mapMeasured k sig sv cause s).vol.gnss = s.vol.gnss :=
  eq_of_offPath (·.vol.gnss) (fun _ => rfl) (mapMeasured_offPath k sig sv cause s)

/-- The end of a run sends its messages, and nothing else changes in the baseband. -/
theorem endMap_offPath {m : MapRun} {s : State} (cause : Nat) (hm : s.vol.gnss.map = some m) :
    (endMap cause s).offPath = (s.modGnss fun g => { g with map := none }).offPath := by
  simp only [endMap, hm]
  exact foldl_offPath _ (fun s e => mapMeasured_offPath _ _ _ _ s) _ _

/-- A channel in phase lock sends its taps. -/
theorem execMpmapSecond_taps {k az el sig sv : Nat} {mags : List Nat} {m : MapRun} {x : Channel} {s : State}
    (hkept : mapLost s = s) (hm : s.vol.gnss.map = some m) (hk : m.channels = [(k, sig, sv)]) (hx : s.chan k = some x)
    (hlock : x.state = .phaseLock) :
    execMpmapSecond [(k, az, el, mags)] s = .next (mapMessage k sig sv az el 0 mags s) := by
  simp [execMpmapSecond, hkept, hm, hk, hx, hlock]

/-- The one channel of a run holds another signal: the run ends. -/
theorem mapLost_last {m : MapRun} {x : Channel} {k sig sv : Nat} {s : State} (hm : s.vol.gnss.map = some m)
    (hk : m.channels = [(k, sig, sv)]) (hx : s.chan k = some x) (hother : x.set.sig ≠ sig ∨ x.set.sv ≠ sv) :
    mapLost s = mapMeasured k sig sv 4 { s with vol.gnss := { s.vol.gnss with map := none } } := by
  have hgone : s.mapsStill (k, sig, sv) = false := by
    simpa [State.mapsStill, hx, imp_iff_not_or] using hother
  simp [mapLost, hm, hk, hgone, State.modGnss]

/-! ### Fen bursts (R143) -/

@[simp] theorem passToStb_gnss (t : Nat) (s : State) : (passToStb t s).vol.gnss = s.vol.gnss :=
  passToStb_keeps (·.vol.gnss) (fun _ _ => rfl) t s
@[simp] theorem passToStb_cfg (t : Nat) (s : State) : (passToStb t s).ctl.cfg = s.ctl.cfg :=
  passToStb_keeps (·.ctl.cfg) (fun _ _ => rfl) t s

theorem execFenBurstStart_wakes {t : Nat} {s : State} (hstb : s.ctl.time.stb = some t) (hfen : s.vol.gnss.fen = true)
    (hburst : s.vol.gnss.burst = false) :
    ∃ u, execFenBurstStart s = .next u ∧ u.vol.gnss.burst = true ∧ u.ctl.cfg = s.ctl.cfg ∧
      u.vol.gnss.channels = s.vol.gnss.channels.map fun e => (e.1, e.2.wake) := by
  have hstep : execFenBurstStart s = .next ((passToStb ((t / unitS + 1) * unitS - 9830400000000) s).modGnss fun g =>
      { g with burst := true, channels := g.channels.map fun e => (e.1, e.2.wake) }) := by
    simp [execFenBurstStart, hstb, hfen, hburst]
  exact ⟨_, hstep, rfl, passToStb_cfg _ s, by simp only [State.modGnss, passToStb_gnss]⟩

theorem execFenBurstEnd_sleeps {t : Nat} {s : State} (hstb : s.ctl.time.stb = some t) (hfen : s.vol.gnss.fen = true)
    (hburst : s.vol.gnss.burst = true) :
    ∃ u, execFenBurstEnd s = .next u ∧ u.vol.gnss.burst = false ∧
      u.vol.gnss.channels = s.vol.gnss.channels.map fun e => (e.1, e.2.sleep) := by
  have hstep : execFenBurstEnd s =
      .next ((passToStb ((t + 9830400000000) / unitS * unitS + 3276800000000) s).modGnss fun g =>
        { g with burst := false, channels := g.channels.map fun e => (e.1, e.2.sleep) }) := by
    simp [execFenBurstEnd, hstb, hfen, hburst]
  exact ⟨_, hstep, rfl, by simp only [State.modGnss, passToStb_gnss]⟩

/-- A channel that sleeps wakes with its carrier and code advanced over 0.8 s, and resumes if it was in lock. -/
theorem wake_advances {c : Channel} (h : c.state = .fenSleep) :
    c.wake.a = c.a + c.b * (4 / 5) ∧ c.wake.fCarrier = c.wake.a ∧ c.wake.state = .pullIn ∧
    c.wake.carPhase = c.carPhase + (c.a * (4 / 5) + c.b * (4 / 5) * (4 / 5) / 2) ∧
    (c.wake.resume = some 0 ↔ c.wasLocked = true) := by
  have hasleep : ¬ c.state ≠ .fenSleep := not_not.mpr h
  refine ⟨?_, ?_, ?_, ?_, ?_⟩ <;> simp only [Channel.wake, if_neg hasleep]
  cases c.wasLocked <;> simp

/-- A channel that resumes slips when 50 ms are over, and keeps its phase once its lock indicator stands within them. -/
theorem reenter_resuming {n ms : Nat} {ep : Rat} {c : Channel} (h : c.resume = some n) :
    (50 < n + ms → c.reenter ms ep = c.slip) ∧
    (n + ms ≤ 50 → 4 / 5 ≤ c.pli → (c.reenter ms ep).state = .phaseLock ∧ (c.reenter ms ep).check = true) := by
  simp only [Channel.reenter, h]
  refine ⟨fun hlate => if_pos hlate, fun htime hpli => ?_⟩
  rw [if_neg (Nat.not_lt.mpr htime), if_pos hpli]
  exact ⟨rfl, rfl⟩

theorem reenter_off_phase {ms : Nat} {ep : Rat} {c : Channel} (h : c.resume = none) (hcheck : c.check = true)
    (hoff : 1 / 10 < |ep|) : c.reenter ms ep = c.slip := by
  simp only [Channel.reenter, h, hcheck, if_true, if_pos hoff]

/-- Settles O22: each event of the baseband by the branch that its premises select. -/
theorem gnssEvents : Obligations.GnssEvents := by
  unfold Obligations.GnssEvents
  refine ⟨fun k taps sync pre x s hx htracks hwarned => ?integration,
    fun k code mhz x s => execAcquisitionDwellDone_hit, fun fe flat blank agc s => rfl,
    fun fe t s hfe hflag ht hpersist => ?flagSet, fun fe s hfe hflag hclear => ?flagClear,
    fun fe k level off s hmode hfar hlevel hrested => ?notch, fun k az el sig sv mags m x s => execMpmapSecond_taps,
    fun m x k sig sv s hm hk hx hother => ?mapLost, fun m s hm => ?mapEnd, fun t s => execFenBurstStart_wakes,
    fun c => wake_advances, fun n ms ep c => reenter_resuming, fun ms ep c => reenter_off_phase,
    fun t s => execFenBurstEnd_sleeps, fun ma s hon hoff hlimit => ?bias, fun ma s hon hlimit => ?retry⟩
  case integration => simp [exec, execChannelIntegration, hx, htracks, hwarned]
  case flagSet =>
    have hheld : ¬ ∀ t ∈ (s.monitor fe).causeMs, t < (s.monSet fe).persist := fun hall => by
      have := hall t ht
      omega
    simp [exec, execInterferenceFlagSet, hflag, Nat.not_le.mpr hfe, hheld]
  case flagClear => simp [exec, execInterferenceFlagClear, hflag, Nat.not_le.mpr hfe, Nat.not_lt.mpr hclear]
  case notch =>
    refine if_neg ?_
    simp only [not_or, not_not, Nat.not_lt, Bool.not_eq_false]
    exact ⟨hmode, hfar, hlevel, hrested⟩
  case mapLost => simp [exec, execMpmapSecond, mapLost_last hm hk hx hother]
  case mapEnd =>
    have hoff := endMap_offPath 1 hm
    have hgnss : (endMap 1 s).vol.gnss = { s.vol.gnss with map := none } :=
      eq_of_offPath (·.vol.gnss) (fun _ => rfl) hoff
    exact ⟨_, rfl, by rw [hgnss], by rw [hgnss], (offPath_ctl hoff).trans rfl⟩
  case bias => simp [exec, execAntennaBiasLimit, hon, hoff, hlimit, State.modGnss]
  case retry => simp [exec, execBiasRetry, hon, hlimit, biasClass, State.modGnss]

end Sys2Proof.Machine
end

section
/-! SUPPORT.
The ledger along every step and every run, and the session epochs that never repeat (O59).
-/

namespace Sys2Proof.Machine

/-- What an instruction does to the ledger: most leave it as it is; a start, a takeover, a power-down, a self-test that gives up
control, a key import and a tamper event may move it, in the allowed direction only. -/
theorem exec_grows (i : Instr) (s : State) : Grows s.ledger (exec i s) := by
  cases i with
  | modulePowerOn a b => exact execModulePowerOn_grows a b s
  | modulePowerDown a => exact execModulePowerDown_grows a s
  | modResetNAsserted => exact execModResetNAsserted_grows s
  | modResetNRelease a b => exact execModResetNRelease_grows a b s
  | bootRomDone v => exact execBootRomDone_grows v s
  | stateLoadDone a b c d => exact execStateLoadDone_grows a b c d s
  | heartbeatStart => exact execHeartbeatStart_grows s
  | bistPeriod p => exact execBistPeriod_grows p s
  | commandStart n => exact execCommandStart_grows n s
  | workItemDone k => exact execWorkItemDone_grows k s
  | resetSideDone p c => exact execResetSideDone_grows p c s
  | secKeyImport p => exact execSecKeyImport_grows p s
  | secDebugUnlock p => exact execSecDebugUnlock_grows p s
  | tamperDetected x n t v k => exact execTamperDetected_grows x n t v k s
  | _ => exact Keeps.grows (by simp [exec])


/-- One step lets the highest epoch issued only rise, and shows the old epoch, none, or one above every epoch issued before. -/
structure EpochsRise (s t : State) : Prop where
  max_le : s.hsw.nv.epochMax ≤ t.hsw.nv.epochMax
  shown  : t.hsw.epoch = s.hsw.epoch ∨ t.hsw.epoch = 0 ∨
    (s.hsw.nv.epochMax < t.hsw.epoch ∧ t.hsw.epoch ≤ t.hsw.nv.epochMax)

theorem Ledger.Grows.epochsRise {s t : State} (h : s.ledger.Grows t.ledger) : EpochsRise s t := ⟨h.epochMax, h.epoch⟩

theorem step_epochsRise {s t : State} (h : step s = .next t) : EpochsRise s t := by
  unfold step at h
  split at h
  case h_1 =>
    cases h
    exact (Ledger.Grows.of_eq (passTicks_ledger 1 s)).epochsRise
  case h_2 c rest _ =>
    have hgrows := exec_grows c { s with pending := rest }
    rw [h] at hgrows
    exact ⟨hgrows.epochMax, hgrows.epoch⟩

theorem EpochsRise.keeps_le {s t : State} (h : EpochsRise s t) (hs : s.hsw.epoch ≤ s.hsw.nv.epochMax) :
    t.hsw.epoch ≤ t.hsw.nv.epochMax := by
  have hmax := h.max_le
  rcases h.shown with hsame | hnone | hnew <;> omega

/-- The epoch `e` was issued and is shown no more. -/
structure EpochSpent (e : Nat) (s : State) : Prop where
  issued : e ≤ s.hsw.nv.epochMax
  gone   : s.hsw.epoch ≠ e

theorem EpochsRise.keeps_spent {e : Nat} {s t : State} (h : EpochsRise s t) (he : e ≠ 0) (hs : EpochSpent e s) :
    EpochSpent e t := by
  have hissued := hs.issued
  have hgone := hs.gone
  have hmax := h.max_le
  refine ⟨by omega, ?_⟩
  rcases h.shown with hsame | hnone | hnew <;> omega

/-- What every step keeps, and what does not speak of the queue of commands, holds along every run. -/
theorem Reaches.keeps {P : State → Prop} (harrive : ∀ s l, P s → P { s with pending := l })
    (hstep : ∀ s t : State, Machine.step s = .next t → P s → P t) {s t : State} (h : Reaches s t) (hs : P s) : P t := by
  induction h with
  | refl => exact hs
  | arrive l _ ih => exact harrive _ l ih
  | step _ hnext ih => exact hstep _ _ hnext ih

/-- A run never lowers the highest epoch issued. -/
theorem Reaches.epochMax_le {s t : State} (h : Reaches s t) : s.hsw.nv.epochMax ≤ t.hsw.nv.epochMax :=
  h.keeps (P := fun u => s.hsw.nv.epochMax ≤ u.hsw.nv.epochMax) (fun _ _ hu => hu)
    (fun _ _ hnext hu => Nat.le_trans hu (step_epochsRise hnext).max_le) (Nat.le_refl _)

/-- An epoch that was issued and is shown no more stays so along every run. -/
theorem Reaches.keeps_spent {e : Nat} {s t : State} (h : Reaches s t) (he : e ≠ 0) (hs : EpochSpent e s) : EpochSpent e t :=
  h.keeps (fun _ _ hu => ⟨hu.issued, hu.gone⟩) (fun _ _ hnext hu => (step_epochsRise hnext).keeps_spent he hu) hs

/-- Settles O59: an epoch that was left is spent, and spent epochs stay spent. -/
theorem epochsNeverRepeat : Obligations.EpochsNeverRepeat := by
  unfold Obligations.EpochsNeverRepeat
  refine ⟨fun s t hle hstep => ?_, fun s t u hle hne hst hother htu => ?_⟩
  · have hrise := step_epochsRise hstep
    exact ⟨hrise.keeps_le hle, hrise.max_le⟩
  · have hspent : EpochSpent s.hsw.epoch t := ⟨Nat.le_trans hle hst.epochMax_le, hother⟩
    exact (htu.keeps_spent hne hspent).gone

end Sys2Proof.Machine
end

section
/-! SUPPORT.
Self-diagnosis and the causes that give up control (O18): what a relinquishment leaves, and the states from which one begins.
-/

namespace Sys2Proof.Machine

/-! ### The last cause and the HANDOVER_N pad -/

/-- The last cause and the pad that tells of it. -/
def State.given (s : State) : Nat × Bool := (s.hsw.lastCause, s.hsw.handoverN)

theorem given_of_offPath {s t : State} (h : t.offPath = s.offPath) : t.given = s.given :=
  eq_of_offPath State.given (fun _ => rfl) h

theorem given_of_hsw {s t : State} (h : t.hsw = s.hsw) : t.given = s.given := by rw [State.given, h]; rfl

@[simp] theorem endSession_given (n cause : Nat) (s : State) : (endSession n cause s).given = s.given := by
  have hitems : ∀ (l : List WorkItem) (t : State), (l.foldl (fun s i => removeItem i s) t).given = t.given := fun l t =>
    given_of_offPath (foldl_offPath _ (fun s i => removeItem_offPath i s) l t)
  simp only [endSession]
  split
  · exact hitems _ _
  · rfl

theorem foldl_endSession_given (l : List Nat) (cause : Nat) (s : State) :
    (l.foldl (fun s n => endSession n cause s) s).given = s.given := by
  induction l generalizing s with
  | nil => rfl
  | cons n l ih => simp [ih]

@[simp] theorem raiseIrq_given (k : Nat) (s : State) : (raiseIrq k s).given = s.given :=
  given_of_offPath (raiseIrq_offPath k s)

@[simp] theorem setServing_given (b : Bool) (s : State) : (setServing b s).given = s.given := by
  unfold setServing
  split
  · rfl
  · rw [raiseIrq_given]; rfl

@[simp] theorem resetRing_given (n : Nat) (s : State) : (resetRing n s).given = s.given :=
  given_of_offPath (modRing_offPath _ _ _)

@[simp] theorem stopServing_given (s : State) : (stopServing s).given = s.given := by
  rw [← foldl_endSession_given (List.range 4) 3 s, stopServing, setServing_given, resetRing_given, resetRing_given]
  generalize List.foldl (fun s n => endSession n 3 s) s (List.range 4) = u
  rfl

@[simp] theorem goDark_given (s : State) : (goDark s).given = s.given := setServing_given ..
@[simp] theorem grantRole_given (x : SideId) (s : State) : (grantRole x s).given = s.given := by
  rw [grantRole, raiseIrq_given]; rfl

/-! ### SERVING -/

@[simp] theorem raiseIrq_serving (k : Nat) (s : State) : (raiseIrq k s).hsw.serving = s.hsw.serving :=
  eq_of_offPath (·.hsw.serving) (fun _ => rfl) (raiseIrq_offPath k s)

@[simp] theorem setServing_serving (b : Bool) (s : State) : (setServing b s).hsw.serving = b := by
  unfold setServing
  split
  · assumption
  · exact raiseIrq_serving _ _

@[simp] theorem stopServing_serving (s : State) : (stopServing s).hsw.serving = false := setServing_serving ..
@[simp] theorem goDark_serving (s : State) : (goDark s).hsw.serving = false := setServing_serving ..
@[simp] theorem grantRole_serving (x : SideId) (s : State) : (grantRole x s).hsw.serving = s.hsw.serving :=
  raiseIrq_serving ..

/-! ### What a relinquishment leaves (R430) -/

/-- Control has been given up for a cause: no host is served, HANDOVER_N conducts, and the last cause is this one. -/
structure GaveUp (cause : Nat) (t : State) : Prop where
  given : t.given = (cause, true)
  serving : t.hsw.serving = false

theorem stopServing_gaveUp {cause : Nat} {s : State} (h : s.given = (cause, true)) : GaveUp cause (stopServing s) :=
  ⟨(stopServing_given s).trans h, stopServing_serving s⟩

theorem GaveUp.of_hsw {cause : Nat} {s t : State} (h : GaveUp cause s) (hhsw : t.hsw = s.hsw) : GaveUp cause t :=
  ⟨(given_of_hsw hhsw).trans h.given, hhsw ▸ h.serving⟩

theorem GaveUp.goDark {cause : Nat} {s : State} (h : GaveUp cause s) : GaveUp cause (goDark s) :=
  ⟨(goDark_given s).trans h.given, goDark_serving s⟩

theorem GaveUp.wakeSide {cause : Nat} {s : State} (h : GaveUp cause s) (x : SideId) : GaveUp cause (wakeSide x s) :=
  GaveUp.of_hsw (s := grantRole x s) ⟨(grantRole_given x s).trans h.given, (grantRole_serving x s).trans h.serving⟩
    (by simp [Machine.wakeSide])

/-- Whether the module goes dark, the wake waits, or the other side is woken, control stays given up. -/
theorem GaveUp.handRoleOver {cause : Nat} {s : State} (h : GaveUp cause s) : GaveUp cause (handRoleOver s) := by
  have hlost : GaveUp cause (loseControl (s.modSide s.actId fun d =>
      { d.domainsOff with security := { d.security with radioStore := d.security.radioStore && !d.locked } })) :=
    h.of_hsw (State.modSide_hsw s s.actId _)
  unfold Machine.handRoleOver
  dsimp only
  split
  · exact hlost.goDark
  · split
    · exact ⟨hlost.given, hlost.serving⟩
    · exact hlost.wakeSide _

/-- Steps 4 and 5 of R430 follow at once or with later slots. -/
theorem GaveUp.atOnceOrLater {cause : Nat} {p : Prop} [Decidable p] {s : State} (h : GaveUp cause s) :
    GaveUp cause (if p then Machine.handRoleOver s else s) := by
  split
  · exact h.handRoleOver
  · exact h

/-- The active side is on, gives up no control yet, and no brown-out warning stands. -/
structure InControl (s : State) : Prop where
  actOn : s.actOn = true
  idle : s.vol.redun.relinquish = none
  unwarned : s.hsw.warned = false

theorem relinquish_gaveUp {cause : Nat} {s : State} (h : InControl s) : GaveUp cause (relinquish cause s) := by
  obtain ⟨hact, hmain⟩ := (actOn_iff s).mp h.actOn
  have hgives : ¬ (s.hsw.active.isNone || s.vol.redun.relinquish.isSome || !s.act.mainOn) = true := by
    simp [h.idle, hmain, Option.isSome_iff_ne_none.mp hact]
  have hwarned : ¬ (s.hsw.warned && s.standbyOk) = true := by simp [h.unwarned]
  rw [relinquish, if_neg hgives, if_neg hwarned]
  refine GaveUp.atOnceOrLater (stopServing_gaveUp ?_)
  simp only [State.given]

/-! ### What the detection of a cause changes first -/

@[simp] theorem actOn_offPath (s : State) : s.offPath.actOn = s.actOn := by
  have hside : ∀ x, (s.offPath.side x).mainOn = (s.side x).mainOn := fun x => by cases x <;> rfl
  exact congrArg (s.hsw.active.isSome && ·) (hside s.actId)

theorem InControl.of_offPath {s t : State} (h : InControl s) (hpath : t.offPath = s.offPath) : InControl t where
  actOn := (eq_of_offPath State.actOn actOn_offPath hpath).trans h.actOn
  idle := (eq_of_offPath (·.vol.redun.relinquish) (fun _ => rfl) hpath).trans h.idle
  unwarned := (eq_of_offPath (·.hsw.warned) (fun _ => rfl) hpath).trans h.unwarned

/-- The redundancy engine's own counts decide nothing of who is in control. -/
theorem InControl.modRedun {s : State} (h : InControl s) {r : RedunRun} (hr : r.relinquish = s.vol.redun.relinquish) :
    InControl { s with vol.redun := r } :=
  ⟨h.actOn, hr.trans h.idle, h.unwarned⟩

theorem InControl.countSupply {s : State} (h : InControl s) : InControl (countSupply s) :=
  have hcount : InControl { s with hsw.supplyEvents := satInc 16 s.hsw.supplyEvents } := ⟨h.actOn, h.idle, h.unwarned⟩
  hcount.of_offPath (raiseIrq_offPath _ _)

/-- An uncorrectable word of the supervisor's memory is cause 2, whatever the limit of R429. -/
theorem memoryError_supervisor {w q k : Nat} {s : State} (h : InControl s) : GaveUp 2 (memoryError 8 w q k s) := by
  simp only [memoryError]
  exact relinquish_gaveUp (h.modRedun rfl)

/-- The starvation of an item is marked, counted and recorded (R363). -/
def noteStarvation (i : WorkItem) (s : State) : State :=
  let u := s.modFlow i.flow fun f =>
    { f with items := f.items.map fun x =>
        if x.id = i.id then { x with starved := x.starved || i.core.isNone, overran := x.overran || i.core.isSome } else x }
  record 0x0B01 i.flow (leBytes 1 i.kind ++ zeros 3 ++ leBytes 4 (sat 32 ((s.mtb - i.enq) / 1600)))
    { u with vol.sched.starvations := satInc 32 u.vol.sched.starvations }

@[simp] theorem noteStarvation_offPath (i : WorkItem) (s : State) : (noteStarvation i s).offPath = s.offPath :=
  (record_offPath _ _ _ _).trans rfl

/-- The instants of the starvations within the last second, the present one among them. -/
def State.starvedLately (s u : State) : List Nat :=
  (s.clock :: u.vol.redun.starveAt).filter fun t => decide (s.clock < t + tickS)

theorem starvation_eq (i : WorkItem) (s : State) :
    starvation i s =
      let u := noteStarvation i s
      let v : State := { u with vol.redun.starveAt := (s.starvedLately u).take 16 }
      if u.cfg.redun.starveMax ≤ (s.starvedLately u).length then relinquish 4 v else v := rfl

theorem one_le_starvedLately (s u : State) : 1 ≤ (s.starvedLately u).length :=
  List.length_pos_of_mem (List.mem_filter.mpr
    ⟨List.mem_cons_self, decide_eq_true (Nat.lt_add_of_pos_right (show 0 < tickS by decide))⟩)

/-- One starvation within the last second is enough for a limit of at most one. -/
theorem starvation_gaveUp {i : WorkItem} {s : State} (h : InControl s) (hmax : s.cfg.redun.starveMax ≤ 1) :
    GaveUp 4 (starvation i s) := by
  have hnoted := h.of_offPath (noteStarvation_offPath i s)
  have hcfg : (noteStarvation i s).cfg = s.cfg := congrArg Control.cfg (offPath_ctl (noteStarvation_offPath i s))
  have hlimit : (noteStarvation i s).cfg.redun.starveMax ≤ (s.starvedLately (noteStarvation i s)).length := by
    rw [hcfg]
    exact Nat.le_trans hmax (one_le_starvedLately _ _)
  have hrelinquish : starvation i s = relinquish 4 { noteStarvation i s with
      vol.redun.starveAt := (s.starvedLately (noteStarvation i s)).take 16 } := if_pos hlimit
  rw [hrelinquish]
  exact relinquish_gaveUp (hnoted.modRedun rfl)

/-- Settles O18: every cause begins a relinquishment from a state in control. -/
theorem relinquishingGivesUpControl : Obligations.RelinquishingGivesUpControl := by
  unfold Obligations.RelinquishingGivesUpControl
  intro s hon hidle hwarned gives
  have h : InControl s := ⟨hon, hidle, hwarned⟩
  have hgives : ∀ {i : Instr} {cause : Nat} {t : State}, exec i s = .next t → GaveUp cause t → gives i cause :=
    fun hstep ⟨hgiven, hserving⟩ =>
      ⟨_, hstep, congrArg Prod.fst hgiven, hserving, congrArg Prod.snd hgiven⟩
  have hcause : ∀ {i : Instr} {cause : Nat} {u : State}, exec i s = .next (relinquish cause u) → InControl u → gives i cause :=
    fun hstep hu => hgives hstep (relinquish_gaveUp hu)
  refine ⟨?lockstep, ?watchdog, fun mv => ?rail, fun k c hhot hk => ?sensor, fun w q k hw => ?memory,
    fun hserving hbist hcores => ?selfTest, fun hrunning hon' hwithheld honce => ?gnss, fun r hr hposted => ?planned,
    fun f b i hi hmax => ?starved⟩
  case lockstep => exact hcause (if_pos hon) h
  case watchdog => exact hcause (if_pos hon) h
  case rail =>
    refine hcause (if_neg (by simp [hon])) ?_
    exact (h.of_offPath (record_offPath _ _ _ _)).countSupply
  case sensor =>
    obtain ⟨hact, hmain⟩ := (actOn_iff s).mp hon
    have hnone : s.hsw.active.isNone = false := by simpa [Option.isSome_iff_ne_none] using hact
    have hcold : ¬ c < 1150 := by omega
    have hside : ¬ 6 ≤ k % 12 := by omega
    refine hcause (by simp [exec, execJunctionTempThreshold, hnone, hmain, hcold, hhot, hside]; rfl) ?_
    exact h.of_offPath (record_offPath _ _ _ _)
  case memory =>
    exact hgives (if_neg (by simp [hon]; omega)) (memoryError_supervisor h)
  case selfTest =>
    refine hcause (by simp [exec, execBistPeriod, hon, hserving, hbist, Nat.not_le.mpr hcores]; rfl) ?_
    exact ⟨h.actOn, h.idle, h.unwarned⟩
  case gnss =>
    exact hcause (by simp [exec, execGnssFailTimeout, hon, hrunning, hon', hwithheld, honce]) h
  case planned => exact hcause (by simp [exec, execPlannedHandoverRelinquish, hr, hposted]) h
  case starved => exact hgives (by simp only [exec, execControlStarvation, hi, hon, if_true]; rfl) (starvation_gaveUp h hmax)

end Sys2Proof.Machine
end

section
/-! SUPPORT.
The two sides across the posting of entries and the service of an item that carries no packet.
-/

namespace Sys2Proof.Machine

/-- Both sides of the module. -/
def State.sides (s : State) : SideState × SideState := (s.sideA, s.sideB)

theorem side_of_sides {s t : State} (h : t.sides = s.sides) (x : SideId) : t.side x = s.side x := by
  cases x
  · exact congrArg Prod.fst h
  · exact congrArg Prod.snd h

theorem act_of_sides {s t : State} (h : t.sides = s.sides) (hid : t.actId = s.actId) : t.act = s.act := by
  rw [State.act, hid]; exact side_of_sides h _

/-! ### Posting (R90 to R96, R117, R402) -/

@[simp] theorem modRing_sides (n : Nat) (f : RingSet → RingSet) (s : State) : (s.modRing n f).sides = s.sides := by
  unfold State.modRing; split <;> rfl

@[simp] theorem raiseIrq_sides (k : Nat) (s : State) : (raiseIrq k s).sides = s.sides := by
  obtain ⟨i, p, o, h⟩ := raiseIrq_eq k s
  rw [h]; rfl

@[simp] theorem cqWriteEnds_sides (n : Nat) (s : State) : (cqWriteEnds n s).sides = s.sides := rfl

@[simp] theorem ringWrite_sides (n : Nat) (h : HeldEntry) (s : State) : (ringWrite n h s).sides = s.sides := by
  have hwritten : ∀ (f : RingSet → RingSet) (l : List (Nat × Entry)),
      (cqWriteEnds n { s.modRing n f with out.cqWrites := l }).sides = s.sides := fun f _ => modRing_sides n f s
  unfold ringWrite
  dsimp only
  split
  · rw [raiseIrq_sides]; exact hwritten _ _
  · exact hwritten _ _

@[simp] theorem ringPost_sides (n : Nat) (h : HeldEntry) (s : State) : (ringPost n h s).sides = s.sides := by
  unfold ringPost; dsimp only; repeat' split
  all_goals simp

@[simp] theorem mntPost_sides (h : HeldEntry) (s : State) : (mntPost h s).sides = s.sides := by
  unfold mntPost; dsimp only; repeat' split
  · rw [raiseIrq_sides]; rfl
  all_goals rfl

@[simp] theorem fedSend_sides (p t x : Nat) (b : List Byte) (s : State) : (fedSend p t x b s).sides = s.sides := by
  unfold fedSend fedSendAs; repeat' split
  all_goals rfl

@[simp] theorem sitePost_sides (n : Nat) (h : HeldEntry) (s : State) : (sitePost n h s).sides = s.sides := by
  unfold sitePost; dsimp only; split <;> simp

@[simp] theorem postOn_sides (v : Transport) (h : HeldEntry) (s : State) : (postOn v h s).sides = s.sides := by
  cases v <;> simp [postOn]

@[simp] theorem sendUncounted_sides (op : Nat) (d : List Byte) (s : State) : (sendUncounted op d s).sides = s.sides := by
  unfold sendUncounted; split <;> simp

theorem foldl_sides {α : Type} (f : State → α → State) (h : ∀ s a, (f s a).sides = s.sides) (l : List α) (s : State) :
    (l.foldl f s).sides = s.sides := by
  induction l generalizing s with
  | nil => rfl
  | cons a t ih => rw [List.foldl_cons, ih, h]

@[simp] theorem countEvents_sides (k : Nat) (q : Option Nat) (n : Nat) (s : State) : (countEvents k q n s).sides = s.sides := by
  unfold countEvents; split
  · rfl
  · exact (foldl_sides _ (fun _ _ => sendUncounted_sides _ _ _) _ _).trans rfl

@[simp] theorem sendMsg_sides (op : Nat) (d : List Byte) (s : State) : (sendMsg op d s).sides = s.sides := by
  unfold sendMsg post; split <;> simp

/-! ### An item without a packet (R354, R357) -/

@[simp] theorem modFlow_sides (k : Nat) (f : Flow → Flow) (s : State) : (s.modFlow k f).sides = s.sides := rfl
@[simp] theorem enqueue_sides (i : WorkItem) (s : State) : (enqueue i s).sides = s.sides := rfl
@[simp] theorem countWait_sides (i : WorkItem) (s : State) : (countWait i s).sides = s.sides := rfl

@[simp] theorem freeFlow_sides (f : Nat) (s : State) : (freeFlow f s).sides = s.sides := by
  unfold freeFlow; split <;> simp

theorem serveOn_sides {k : Nat} {i : WorkItem} {s : State} (hq : i.queue = none) : (serveOn k i s).sides = s.sides := by
  simp only [serveOn, itemDone, freePacket, packetRead, hq, freeFlow_sides, countEvents_sides, modFlow_sides, countWait_sides]
  split <;> simp

/-- That a flow becomes ready leaves its items. -/
theorem readiedIf_items (p : Prop) [Decidable p] (x : Flow) (s : State) :
    (if p then x.readied s else x).items = x.items := by
  split <;> rfl

/-- The items of a flow after one more has joined it. -/
theorem enqueue_items (i : WorkItem) (s : State) :
    ((enqueue i s).flow i.flow).items = (s.flow i.flow).items ++ [{ i with id := s.vol.sched.nextItem, enq := s.mtb }] := by
  simp only [enqueue, State.flow, State.modPrio, State.modFlow, tgetD, tget_tput_same, Option.getD_some]
  exact congrArg (· ++ _) (readiedIf_items _ _ _)

/-- An item of a kind joins its flow and, where a core takes it as the first, is served at once. -/
theorem ranItem_cases (kind flow node : Nat) (s : State) :
    ranItem kind flow node s = enqueue (newItem kind flow node) s ∨
    ∃ k i, i.queue = none ∧ ranItem kind flow node s = serveOn k i (enqueue (newItem kind flow node) s) := by
  have hitems : ((enqueue (newItem kind flow node) s).flow flow).items = (s.flow flow).items ++ _ :=
    enqueue_items (newItem kind flow node) s
  simp only [ranItem]
  split
  · next k i _ hfound =>
    split
    · next hfirst =>
      refine .inr ⟨k, i, ?_, rfl⟩
      rw [hitems, List.isEmpty_iff.mp hfirst] at hfound
      have hnew := List.mem_singleton.mp (List.mem_of_find?_eq_some hfound)
      rw [hnew]; rfl
    · exact .inl rfl
  · exact .inl rfl

@[simp] theorem ranItem_sides (kind flow node : Nat) (s : State) : (ranItem kind flow node s).sides = s.sides := by
  rcases ranItem_cases kind flow node s with h | ⟨k, i, hq, h⟩
  · rw [h, enqueue_sides]
  · rw [h, serveOn_sides hq, enqueue_sides]

end Sys2Proof.Machine
end

section
/-! SUPPORT.
Base epochs, surveys, the corrections watchdog and the automatic writes of the store (O24).
-/

namespace Sys2Proof.Machine

/-! ### Base epochs (R135, R147) -/

/-- A base epoch that has not passed is measured and committed at its instant. -/
theorem execGnssEpoch_commits {k t : Nat} {m : EpochMeas} {s : State} (hstb : s.ctl.time.stb = some t)
    (hwarned : s.hsw.warned = false) (hdue : k % (1000 / max 1 s.epochRate) = 0) (hahead : t ≤ k * unitMs) :
    execGnssEpoch k m s = .next (commitEpoch k m (observe k m (passToStb (k * unitMs) s))) := by
  have hgoes : ¬ (s.hsw.warned = true ∨ k % (1000 / max 1 s.epochRate) ≠ 0 ∨ k * unitMs < t) := by
    simp [hwarned, hdue, Nat.not_lt.mpr hahead]
  simp only [execGnssEpoch, hstb, if_neg hgoes]

theorem commitEpoch_taken {k n : Nat} {m : EpochMeas} {u v : State}
    (h : commitPacket 0x820 (u.epochData k).length 0 0 (u.epochData k) u = some (n, v)) :
    commitEpoch k m u = workOn 12 0x884 0 (.gnssEpoch k m) (baseWork k m) v := by
  simp only [commitEpoch, h]

theorem commitEpoch_refused {k : Nat} {m : EpochMeas} {u : State}
    (h : commitPacket 0x820 (u.epochData k).length 0 0 (u.epochData k) u = none) :
    commitEpoch k m u = commitOrDrop 0x820 (u.epochData k).length 0 0 (u.epochData k) u := by
  simp only [commitEpoch, h]

theorem workOn_served {kind flow node : Nat} {w : Work} {effect : State → State} {s : State}
    (h : s.servesNow kind flow = true) : workOn kind flow node w effect s = effect (ranItem kind flow node s) := if_pos h

theorem workOn_waits {kind flow node : Nat} {w : Work} {effect : State → State} {s : State}
    (h : s.servesNow kind flow = false) :
    workOn kind flow node w effect s = enqueue { newItem kind flow node with work := some w } s := if_neg (by simp [h])

/-! ### Surveys and the watchdog (R146, R157 to R159) -/

@[simp] theorem baseEvent_offPath (source cause sigma : Nat) (p : Int × Int × Int) (s : State) :
    (baseEvent source cause sigma p s).offPath = s.offPath := sendMsg_offPath _ _ _
@[simp] theorem baseRecord_offPath (source cause sigma : Nat) (s : State) :
    (baseRecord source cause sigma s).offPath = s.offPath := record_offPath _ _ _ _

/-- A run that ends without a position leaves the base in force. -/
theorem endRun_ends {r : BaseRun} {s : State} (cause : Nat) (h : s.cfg.corr.run = some r) :
    (endRun cause s).cfg.corr.run = none ∧ (endRun cause s).cfg.corr.base = s.cfg.corr.base ∧
    (endRun cause s).vol.corr.runAt = none := by
  have hpath : (endRun cause s).offPath =
      ((s.modCorrCfg fun c => { c with run := none }).modCorr fun c =>
        { c with runAt := none, sigma := 0, fixAt := none }).offPath := by
    simp only [endRun, h, baseRecord_offPath, baseEvent_offPath]
  exact ⟨eq_of_offPath (·.cfg.corr.run) (fun _ => rfl) hpath, (eq_of_offPath (·.cfg.corr.base) (fun _ => rfl) hpath).trans rfl,
    eq_of_offPath (·.vol.corr.runAt) (fun _ => rfl) hpath⟩

@[simp] theorem watchAlert_offPath (a l : Nat) (s : State) : (watchAlert a l s).offPath = s.offPath := by
  unfold watchAlert
  dsimp only
  split
  · rfl
  · rw [record_offPath, sendMsg_offPath]

/-- New causes with the latched ones as they stand: the streams are withheld exactly while any is active or latched. -/
theorem setCauses_latched (active absent : Nat) (s : State) :
    (setCauses active absent s.cfg.corr.latched s).offPath =
      (s.modCorr fun c => { c with
        active := active, absent := absent, withheld := decide (active ≠ 0 ∨ s.cfg.corr.latched ≠ 0) }).offPath := by
  simp only [setCauses, setCausesFrom, watchAlert_offPath, if_true]

/-! ### The automatic writes of the store (R84, R477) -/

theorem actId_of_offPath {s t : State} (h : t.offPath = s.offPath) : t.actId = s.actId :=
  eq_of_offPath State.actId (fun _ => rfl) h

theorem ranItem_act (kind flow node : Nat) (s : State) : (ranItem kind flow node s).act = s.act :=
  act_of_sides (ranItem_sides kind flow node s) (actId_of_offPath (ranItem_offPath kind flow node s))

theorem ranItem_ctl (kind flow node : Nat) (s : State) : (ranItem kind flow node s).ctl = s.ctl :=
  offPath_ctl (ranItem_offPath kind flow node s)

theorem ranItem_clock (kind flow node : Nat) (s : State) : (ranItem kind flow node s).clock = s.clock :=
  offPath_clock (ranItem_offPath kind flow node s)

theorem modSide_act (f : SideState → SideState) (s : State) : (s.modSide s.actId f).act = f s.act := by
  have hid : (s.modSide s.actId f).actId = s.actId := by rw [State.actId, State.modSide_hsw]; rfl
  rw [State.act, hid, State.modSide_self]; rfl

/-- A commit of the active side's store puts the generation in force and changes nothing of the control state. -/
theorem commitStore_act (g : Generation) (s : State) :
    (commitStore s.actId g s).ctl = s.ctl ∧ (commitStore s.actId g s).act.store.current = g := by
  refine ⟨State.modSide_ctl _ _ _, ?_⟩
  have hact := modSide_act (s := s.draw.2) fun d => { d with store := { d.store with
      current := g, dirSeq := (d.store.dirSeq + 1) % 2 ^ 32, freePages := Config.pages 3 s.fresh % 2047
      epoch := max d.store.epoch s.hsw.epoch } }
  exact (congrArg (·.store.current) hact).trans rfl

/-- An automatic write with pages enough commits the new generation. -/
theorem autoWrite_commits {f : Generation → Generation} {s : State} (hblocked : s.act.store.blocked = false)
    (hpages : (pagesNeeded s).1 ≤ s.act.store.freePages) :
    (autoWrite f s).ctl = s.ctl ∧ (autoWrite f s).act.store.current = f s.act.store.current := by
  have hwrites : autoWrite f s = commitStore (pagesNeeded s).2.actId (f s.act.store.current) (pagesNeeded s).2 := by
    simp only [autoWrite, hblocked, Bool.false_eq_true, if_false, if_neg (Nat.not_lt.mpr hpages)]
  rw [hwrites]
  obtain ⟨hctl, hcurrent⟩ := commitStore_act (f s.act.store.current) (pagesNeeded s).2
  exact ⟨hctl.trans rfl, hcurrent⟩

/-- With too few pages nothing is written, and the host is told. -/
theorem autoWrite_reports {f : Generation → Generation} {s : State} (hblocked : s.act.store.blocked = false)
    (hpages : s.act.store.freePages < (pagesNeeded s).1) :
    autoWrite f s = updateEvent 7 0 0 { s with fresh := s.fresh + 1 } := by
  simp only [autoWrite, hblocked, Bool.false_eq_true, if_false, if_pos hpages]
  rfl

theorem execHotStartWrite_on {s : State} (hmain : s.act.mainOn = true) (hserving : s.hsw.serving = true) :
    execHotStartWrite s = .next (workOn 11 0x883 0 .hotStartWrite hotStartWork s) := by
  simp [execHotStartWrite, hmain, hserving]

theorem execBudgetAccountingWrite_on {s : State} (hmain : s.act.mainOn = true) (hserving : s.hsw.serving = true) :
    execBudgetAccountingWrite s = .next (workOn 11 0x883 0 .budgetAccountingWrite budgetWork s) := by
  simp [execBudgetAccountingWrite, hmain, hserving]

/-- Settles O24: each event by the branch that its premises select. -/
theorem correctionEvents : Obligations.CorrectionEvents := by
  unfold Obligations.CorrectionEvents
  refine ⟨fun k t m s hstb hwarned hdue hahead => ?epoch, fun k m p s t htake => ?base, fun k m s hstb hwarned => ?undisciplined,
    fun r s hrun hsource => ?survey, fun k s habsent => ?holdoff, fun st s => rfl,
    fun s hmain hserving hblocked hserves hpages => ?hotStart, fun s hmain hserving hblocked hserves hpages => ?budget,
    fun s hmain hserving hblocked => ?tooFew, fun s hmain hserving hwaits => ?waits⟩
  case epoch =>
    have hcommits : exec (.gnssEpoch k m) s = _ := execGnssEpoch_commits hstb hwarned hdue hahead
    refine ⟨fun n v hv hserves => ?_, fun n v hv hserves => ?_, fun hnone => ?_⟩
    · rw [hcommits, commitEpoch_taken hv, workOn_served hserves]
    · rw [hcommits, commitEpoch_taken hv, workOn_waits hserves]
    · rw [hcommits, commitEpoch_refused hnone]
  case base =>
    refine ⟨fun hsound => ?_, fun hpoison => ?_⟩
    · simp [baseWork, takeBase, htake, hsound]
    · simp [baseWork, takeBase, htake, hpoison]
  case undisciplined =>
    simp only [exec, execGnssEpoch, hstb, hwarned, Bool.false_eq_true, if_false]
    rfl
  case survey =>
    refine ⟨endRun 1 s, by simp [exec, execSurveyMaxTime, hrun, hsource], endRun_ends 1 hrun⟩
  case holdoff =>
    have hpath := setCauses_latched (setBit s.vol.corr.active k false) (setBit s.vol.corr.absent k false) s
    have hcorr := eq_of_offPath (·.vol.corr) (fun _ => rfl) hpath
    have hcfg := eq_of_offPath (·.cfg.corr) (fun _ => rfl) hpath
    refine ⟨_, if_pos habsent, ?_, ?_, ?_⟩
    · rw [hcorr]; rfl
    · rw [hcfg]; rfl
    · rw [hcorr, hcfg]; rfl
  case hotStart =>
    have hact := ranItem_act 11 0x883 0 s
    have hctl := ranItem_ctl 11 0x883 0 s
    obtain ⟨hkept, hcurrent⟩ := autoWrite_commits (f := fun g => { g with hot := some (ranItem 11 0x883 0 s).ctl.hot })
      (s := ranItem 11 0x883 0 s) (hact ▸ hblocked) (hact ▸ hpages)
    refine ⟨hotStartWork (ranItem 11 0x883 0 s), ?_, hkept.trans hctl, hcurrent.trans ?_⟩
    · exact (execHotStartWrite_on hmain hserving).trans (by rw [workOn_served hserves])
    · rw [hact, hctl]
  case budget =>
    have hact := ranItem_act 11 0x883 0 s
    have hctl := ranItem_ctl 11 0x883 0 s
    have hclock := ranItem_clock 11 0x883 0 s
    obtain ⟨hkept, hcurrent⟩ := autoWrite_commits (s := ranItem 11 0x883 0 s)
      (f := fun g => { g with
        budget := some (ranItem 11 0x883 0 s).ctl.budget, budgetOp := (ranItem 11 0x883 0 s).act.recorder.opSeconds
        budgetAt := (ranItem 11 0x883 0 s).clock }) (hact ▸ hblocked) (hact ▸ hpages)
    refine ⟨budgetWork (ranItem 11 0x883 0 s), ?_, hkept.trans hctl, hcurrent.trans ?_⟩
    · exact (execBudgetAccountingWrite_on hmain hserving).trans (by rw [workOn_served hserves])
    · rw [hact, hctl, hclock]
  case tooFew =>
    intro u hserves hpages
    have hact : u.act = s.act := ranItem_act 11 0x883 0 s
    have hstep : exec .hotStartWrite s = _ := execHotStartWrite_on hmain hserving
    rw [hstep, workOn_served hserves]
    exact congrArg _ (autoWrite_reports (hact ▸ hblocked) (hact ▸ hpages))
  case waits =>
    have hhot : exec .hotStartWrite s = _ := execHotStartWrite_on hmain hserving
    have hbudget : exec .budgetAccountingWrite s = _ := execBudgetAccountingWrite_on hmain hserving
    rw [hhot, hbudget, workOn_waits hwaits, workOn_waits hwaits]
    exact ⟨rfl, rfl⟩

end Sys2Proof.Machine
end

section
/-! SUPPORT.
The start of a side: what tracking, time and federation leave alone as they begin, and what the load of a side's state raises.
-/

namespace Sys2Proof.Machine

/-! ### What begins with the state load: tracking, time and peerings (R145, R218, R401, R432) -/

/-- The state without the path of commands and without the run states of GNSS, time and federation. -/
def State.offTracking (s : State) : State :=
  { s with vol := { s.vol with gnss := default, time := default, fed := default } }.offPath

theorem offTracking_of_offPath {s t : State} (h : t.offPath = s.offPath) : t.offTracking = s.offTracking :=
  eq_of_offPath State.offTracking (fun _ => rfl) h

/-- What is read off the path, GNSS, time and federation is the same in two states that differ there only. -/
theorem eq_of_offTracking {α : Type} (f : State → α) (hf : ∀ s : State, f s.offTracking = f s) {s t : State}
    (h : t.offTracking = s.offTracking) : f t = f s := by
  rw [← hf t, h, hf]

theorem foldl_offTracking {α : Type} (f : State → α → State) (h : ∀ s a, (f s a).offTracking = s.offTracking) (l : List α)
    (s : State) : (l.foldl f s).offTracking = s.offTracking := by
  induction l generalizing s with
  | nil => rfl
  | cons a t ih => rw [List.foldl_cons, ih, h]

@[simp] theorem modGnss_offTracking (f : GnssRun → GnssRun) (s : State) : (s.modGnss f).offTracking = s.offTracking := rfl
@[simp] theorem modTime_offTracking (f : TimeRun → TimeRun) (s : State) : (s.modTime f).offTracking = s.offTracking := rfl
@[simp] theorem modPtp_offTracking (s : State) (p : Nat) (f : PtpPort → PtpPort) : (s.modPtp p f).offTracking = s.offTracking := rfl
@[simp] theorem releaseChan_offTracking (k : Nat) (s : State) : (releaseChan k s).offTracking = s.offTracking := rfl
@[simp] theorem startBias_offTracking (s : State) : (startBias s).offTracking = s.offTracking := rfl

@[simp] theorem startChan_offTracking (k : Nat) (c : ChanSettings) (s : State) :
    (startChan k c s).offTracking = s.offTracking := by
  unfold startChan; split <;> rfl

@[simp] theorem acquirePinned_offTracking (s : State) : (acquirePinned s).offTracking = s.offTracking := by
  refine foldl_offTracking _ (fun s e => ?_) _ _
  split
  · exact startChan_offTracking _ _ _
  · rfl

@[simp] theorem assign_offTracking (sky : List SkySat) (s : State) : (assign sky s).offTracking = s.offTracking := by
  unfold assign
  dsimp only
  generalize (if s.cfg.gnss.assign = 1 then _ else _) = want
  rw [foldl_offTracking, foldl_offTracking, acquirePinned_offTracking]
  · intro s e
    split
    · rfl
    · exact releaseChan_offTracking _ _
  · intro s w
    split
    · rfl
    · split
      · exact startChan_offTracking _ _ _
      · rfl

@[simp] theorem startTracking_offTracking (s : State) : (startTracking s).offTracking = s.offTracking :=
  assign_offTracking _ _

@[simp] theorem startHandshake_offTracking (k : Nat) (s : State) : (startHandshake k s).offTracking = s.offTracking := by
  unfold startHandshake
  split
  · dsimp only
    split <;> rfl
  · rfl

@[simp] theorem startPeerings_offTracking (s : State) : (startPeerings s).offTracking = s.offTracking :=
  foldl_offTracking _ (fun s k => startHandshake_offTracking k s) _ _

@[simp] theorem endMap_offTracking (cause : Nat) (s : State) : (endMap cause s).offTracking = s.offTracking := by
  cases hm : s.vol.gnss.map with
  | none => simp only [endMap, hm]
  | some m => exact (offTracking_of_offPath (endMap_offPath cause hm)).trans rfl

@[simp] theorem enterFen_offTracking (s : State) : (enterFen s).offTracking = s.offTracking := by
  rw [enterFen, modGnss_offTracking, endMap_offTracking]

@[simp] theorem restartPtp_offTracking (s : State) : (restartPtp s).offTracking = s.offTracking := by
  rw [restartPtp, modTime_offTracking]
  exact foldl_offTracking _ (fun s p => modPtp_offTracking s p _) _ _

@[simp] theorem setStb_offTracking (x : StbState) (cause err : Nat) (s : State) :
    (setStb x cause err s).offTracking = s.offTracking := by
  unfold setStb
  dsimp only
  split
  · rfl
  · rw [offTracking_of_offPath (record_offPath _ _ _ _), offTracking_of_offPath (sendMsg_offPath _ _ _)]
    rfl

/-! ### The session epoch of a state load (R85) -/

@[simp] theorem updateEvent_offPath (kind part version : Nat) (s : State) : (updateEvent kind part version s).offPath = s.offPath := by
  rw [updateEvent, record_offPath, sendMsg_offPath]

@[simp] theorem redunEvent_offPath (kind cause seq : Nat) (s : State) : (redunEvent kind cause seq s).offPath = s.offPath := by
  unfold redunEvent recordOther
  dsimp only
  split <;> rw [record_offPath, sendMsg_offPath]

/-- The state of the side that takes the active role, its new session epoch issued and recorded. -/
def epochIssued (x : SideId) (ckpt : Nat) (s : State) : State :=
  newEpoch x ckpt (s.modSide x fun d => { d with power := modePower s.ctl.mode })

/-- What a loaded side records, before it serves. -/
def loadRecorded (x : SideId) (d : SideState) (s : State) : State :=
  let u := recordOn x 0x1401 d.startRec.kind (leBytes 1 d.startRec.kindDetail ++ leBytes 1 d.startRec.slot ++ zeros 1) s
  if u.hsw.strapFault && d.startRec.kind != 6 then recordOn x 0x1404 0xFFFF (leBytes 1 (u.hsw.strapBits + 128)) u else u

/-- What a loaded side reports, once it serves. -/
def loadReported (r : StartRun) (d : SideState) (ev : Option (Nat × Nat)) (s : State) : State :=
  let u := if r.fallback then updateEvent 4 2 (d.firmware.slot d.firmware.flags.trialSlot).version s else s
  match ev with
  | some (k, n) => redunEvent k u.hsw.lastCause n u
  | none => u

theorem loaded_eq (x : SideId) (r : StartRun) (ckpt : Nat) (ev : Option (Nat × Nat)) (s : State) :
    loaded x r ckpt ev s =
      let u := epochIssued x ckpt s
      loadReported r (u.side x) ev
        (startPeerings (beginServing (startTracking (startBias (loadRecorded x (u.side x) u))))) := rfl

@[simp] theorem loadRecorded_offPath (x : SideId) (d : SideState) (s : State) : (loadRecorded x d s).offPath = s.offPath := by
  unfold loadRecorded
  dsimp only
  split <;> simp only [recordOn_offPath]

@[simp] theorem loadReported_offPath (r : StartRun) (d : SideState) (ev : Option (Nat × Nat)) (s : State) :
    (loadReported r d ev s).offPath = s.offPath := by
  unfold loadReported
  cases r.fallback <;> cases ev <;> simp

/-! ### What a loaded side shows (R78, R85) -/

/-- The new epoch of a side is above the module's greatest, its store's and its checkpoint's, and is the greatest from now on. -/
structure IssuedAbove (greatest stored ckpt : Nat) (t : State) : Prop where
  above_greatest : greatest < t.hsw.epoch
  above_stored : stored < t.hsw.epoch
  above_ckpt : ckpt < t.hsw.epoch
  greatest : t.hsw.nv.epochMax = t.hsw.epoch

theorem newEpoch_issued (x : SideId) (ckpt : Nat) (s : State) :
    IssuedAbove s.hsw.nv.epochMax (s.side x).store.epoch ckpt (newEpoch x ckpt s) := by
  have hledger : (newEpoch x ckpt s).ledger = _ := (raiseIrq_ledger _ _).trans (State.modStore_ledger _ _ _)
  have hepoch : (newEpoch x ckpt s).hsw.epoch = max (max s.hsw.nv.epochMax (s.side x).store.epoch) ckpt + 1 :=
    congrArg Ledger.epoch hledger
  have hmax : (newEpoch x ckpt s).hsw.nv.epochMax = max (max s.hsw.nv.epochMax (s.side x).store.epoch) ckpt + 1 :=
    congrArg Ledger.epochMax hledger
  exact ⟨by omega, by omega, by omega, hmax.trans hepoch.symm⟩

theorem IssuedAbove.of_ledger {a b c : Nat} {s t : State} (h : IssuedAbove a b c s) (hledger : t.ledger = s.ledger) :
    IssuedAbove a b c t := by
  have hepoch : t.hsw.epoch = s.hsw.epoch := congrArg Ledger.epoch hledger
  have hmax : t.hsw.nv.epochMax = s.hsw.nv.epochMax := congrArg Ledger.epochMax hledger
  obtain ⟨ha, hb, hc, hgreatest⟩ := h
  exact ⟨by omega, by omega, by omega, by omega⟩

theorem loaded_ledger (x : SideId) (r : StartRun) (ckpt : Nat) (ev : Option (Nat × Nat)) (s : State) :
    (loaded x r ckpt ev s).ledger = (epochIssued x ckpt s).ledger := by
  unfold loaded
  dsimp only
  split <;> simp [apply_ite State.ledger, epochIssued]

theorem loaded_issued (x : SideId) (r : StartRun) (ckpt : Nat) (ev : Option (Nat × Nat)) (s : State) :
    IssuedAbove s.hsw.nv.epochMax (s.side x).store.epoch ckpt (loaded x r ckpt ev s) := by
  have h := (newEpoch_issued x ckpt (s.modSide x fun d => { d with power := modePower s.ctl.mode })).of_ledger
    (loaded_ledger x r ckpt ev s)
  rwa [State.modSide_self, State.modSide_hsw] at h

@[simp] theorem beginServing_serving (s : State) : (beginServing s).hsw.serving = true := by
  unfold beginServing
  dsimp only
  split <;> simp

theorem loaded_serving (x : SideId) (r : StartRun) (ckpt : Nat) (ev : Option (Nat × Nat)) (s : State) :
    (loaded x r ckpt ev s).hsw.serving = true := by
  rw [loaded_eq]
  dsimp only
  rw [eq_of_offPath (·.hsw.serving) (fun _ => rfl) (loadReported_offPath _ _ _ _),
    eq_of_offTracking (·.hsw.serving) (fun _ => rfl) (startPeerings_offTracking _), beginServing_serving]

/-! ### The checkpoint that a side installs (R422, R431) -/

/-- The number of the checkpoint installed. -/
def State.installed (s : State) : Nat := s.vol.redun.installed

theorem installed_of_offPath {s t : State} (h : t.offPath = s.offPath) : t.installed = s.installed :=
  eq_of_offPath State.installed (fun _ => rfl) h

theorem installed_of_offTracking {s t : State} (h : t.offTracking = s.offTracking) : t.installed = s.installed :=
  eq_of_offTracking State.installed (fun _ => rfl) h

@[simp] theorem modSide_installed (x : SideId) (f : SideState → SideState) (s : State) :
    (s.modSide x f).installed = s.installed := by
  rw [State.installed, State.modSide_vol]; rfl

@[simp] theorem raiseIrq_installed (k : Nat) (s : State) : (raiseIrq k s).installed = s.installed :=
  installed_of_offPath (raiseIrq_offPath k s)

@[simp] theorem epochIssued_installed (x : SideId) (ckpt : Nat) (s : State) : (epochIssued x ckpt s).installed = s.installed := by
  simp only [epochIssued, newEpoch, State.modStore, raiseIrq_installed, modSide_installed]
  exact modSide_installed _ _ s

@[simp] theorem setServing_installed (b : Bool) (s : State) : (setServing b s).installed = s.installed := by
  unfold setServing
  split
  · rfl
  · exact raiseIrq_installed _ _

@[simp] theorem beginServing_installed (s : State) : (beginServing s).installed = s.installed := by
  unfold beginServing
  dsimp only
  split
  · rw [raiseIrq_installed, setServing_installed]; rfl
  · rw [setServing_installed]; rfl

theorem loaded_installed (x : SideId) (r : StartRun) (ckpt : Nat) (ev : Option (Nat × Nat)) (s : State) :
    (loaded x r ckpt ev s).installed = s.installed := by
  rw [loaded_eq]
  dsimp only
  rw [installed_of_offPath (loadReported_offPath _ _ _ _), installed_of_offTracking (startPeerings_offTracking _),
    beginServing_installed, installed_of_offTracking (startTracking_offTracking _),
    installed_of_offTracking (startBias_offTracking _), installed_of_offPath (loadRecorded_offPath _ _ _), epochIssued_installed]

theorem foldl_bindFlow_installed (l : List (Nat × Conn)) (s : State) :
    (l.foldl (fun s (e : Nat × Conn) => bindFlow e.2.flow e.1 s) s).installed = s.installed := by
  induction l generalizing s with
  | nil => rfl
  | cons e l ih => rw [List.foldl_cons, ih]; rfl

/-- Modes, ports and STB are resumed after the number of the checkpoint has been noted. -/
theorem resumeRun_installed (c : Checkpoint) (s : State) : (resumeRun c s).installed = c.seq := by
  simp only [resumeRun, apply_ite State.installed, installed_of_offTracking (setStb_offTracking _ _ _ _),
    installed_of_offTracking (restartPtp_offTracking _), installed_of_offPath (parkCores_offPath _),
    installed_of_offTracking (enterFen_offTracking _), foldl_bindFlow_installed, ite_self]
  rfl

theorem installCheckpoint_installed (c : Checkpoint) (committed woken : Nat) (s : State) :
    (installCheckpoint c committed woken s).installed = c.seq :=
  resumeRun_installed c _

/-! ### The store of a side up to its state load (R85, R476) -/

theorem restoreKept_epoch (t : ConfigStore) : t.restoreKept.epoch = t.epoch := by
  unfold ConfigStore.restoreKept; split <;> rfl

theorem atStart_epoch (fallback trial : Bool) (version : Nat) (t : ConfigStore) :
    (t.atStart fallback trial version).epoch = t.epoch := by
  cases fallback <;> cases trial <;> simp [ConfigStore.atStart, restoreKept_epoch]

/-- What of a side its state load reads besides the store: its checkpoints and its image. -/
theorem selectCheckpoint_congr {d e : SideState} (hckpts : e.ckpts = d.ckpts) (hfirmware : e.firmware = d.firmware)
    (run : Nat) (a b : Bool) : selectCheckpoint e run a b = selectCheckpoint d run a b := by
  simp only [selectCheckpoint, SideState.loads, hckpts, hfirmware]
  rfl

/-- The stage of a state load has ended, its recorder recovered. -/
def recovered (x : SideId) (torn : Bool) (s : State) : State := endStage x 2 .radioHead (recoverRecorder x torn s)

theorem endStage_side (x : SideId) (k : Nat) (next : Stage) (s : State) :
    ((endStage x k next s).side x).store = (s.side x).store ∧ ((endStage x k next s).side x).ckpts = (s.side x).ckpts ∧
    ((endStage x k next s).side x).firmware = (s.side x).firmware := by
  rw [endStage, State.modSide_self]
  split <;> exact ⟨rfl, rfl, rfl⟩

theorem recovered_side (x : SideId) (torn : Bool) (s : State) :
    ((recovered x torn s).side x).store = (s.side x).store ∧ ((recovered x torn s).side x).ckpts = (s.side x).ckpts ∧
    ((recovered x torn s).side x).firmware = (s.side x).firmware := by
  obtain ⟨hstore, hckpts, hfirmware⟩ := endStage_side x 2 .radioHead (recoverRecorder x torn s)
  rw [recovered, hstore, hckpts, hfirmware, recoverRecorder, State.modSide_self]
  exact ⟨rfl, rfl, rfl⟩

theorem recovered_hsw (x : SideId) (torn : Bool) (s : State) : (recovered x torn s).hsw = s.hsw := by
  rw [recovered, endStage, State.modSide_hsw, recoverRecorder, State.modSide_hsw]

/-! ### What a start leaves of the two sides -/

@[simp] theorem modPtp_sides (p : Nat) (f : PtpPort → PtpPort) (s : State) : (s.modPtp p f).sides = s.sides := rfl
@[simp] theorem modTime_sides (f : TimeRun → TimeRun) (s : State) : (s.modTime f).sides = s.sides := rfl
@[simp] theorem startSpans_sides (s : State) : (startSpans s).sides = s.sides := rfl

@[simp] theorem restartPtp_sides (s : State) : (restartPtp s).sides = s.sides := by
  rw [restartPtp, modTime_sides]
  exact foldl_sides _ (fun s p => modPtp_sides p _ s) _ _

@[simp] theorem missingAccounts_sides (s : State) : (missingAccounts s).sides = s.sides := by
  refine foldl_sides _ (fun s l => ?_) _ _
  split <;> rfl

@[simp] theorem loadControl_sides (x : SideId) (charge : Nat) (s : State) : (loadControl x charge s).sides = s.sides := by
  rw [loadControl]
  dsimp only
  rw [startSpans_sides, missingAccounts_sides]
  rfl

end Sys2Proof.Machine
end

section
/-! SUPPORT.
The stages of a start (R76 to R79, R442, R443, R467, R472).
-/

namespace Sys2Proof.Machine

/-! ### The host switch (R472) -/

/-- The host switch has booted the image `f`: its link is up unless PERST is asserted. -/
def switchBooted (f : Firmware) (s : State) : State :=
  { s with hsw.ready := true, hsw.pcieUp := !s.hsw.perst, hsw.restarting := false, hsw.nv.firmware := f }

/-- What a host switch that is ready reports: the end of its trial and of its restart. -/
def switchReported (again : Bool) (f : Firmware) (ev : Option Nat) (s : State) : State :=
  if s.actOn then
    let s := match ev with
      | some k => updateEvent k 3 f.image.version s
      | none => s
    if again then updateEvent 8 3 f.image.version s else s
  else s

theorem switchReported_offPath (again : Bool) (f : Firmware) (ev : Option Nat) (s : State) :
    (switchReported again f ev s).offPath = s.offPath := by
  unfold switchReported
  cases ev <;> cases again <;> split <;> simp

theorem exec_hostSwitchReady {s : State} (ok : Bool) (hvin : s.env.vinUp = true) (hreset : s.hsw.resetHeld = false)
    (hready : s.hsw.ready = false) :
    exec (.hostSwitchReady ok) s =
      let b := bootSwitch ok s.hsw.nv.firmware
      .next (afterRestart (switchReported s.hsw.restarting b.1 b.2 (switchBooted b.1 s))) := by
  have hexec : exec (.hostSwitchReady ok) s = execHostSwitchReady ok s := rfl
  rw [hexec, execHostSwitchReady, hvin, hreset, hready]
  rfl

/-- Nothing waited for the restart of the host switch. -/
theorem afterRestart_idle {s : State} (hwake : s.hsw.wakeDue = false) (hdue : s.vol.redun.due = false) : afterRestart s = s := by
  rw [afterRestart, hwake, hdue]
  rfl

theorem hostSwitchReady_boots {s : State} (ok : Bool) (hvin : s.env.vinUp = true) (hreset : s.hsw.resetHeld = false)
    (hready : s.hsw.ready = false) (hwake : s.hsw.wakeDue = false) (hdue : s.vol.redun.due = false) :
    ∃ t, exec (.hostSwitchReady ok) s = .next t ∧ t.hsw.ready = true ∧ t.hsw.pcieUp = !s.hsw.perst ∧
      t.hsw.restarting = false ∧ t.hsw.nv.firmware = (bootSwitch ok s.hsw.nv.firmware).1 := by
  have hpath := switchReported_offPath s.hsw.restarting (bootSwitch ok s.hsw.nv.firmware).1
    (bootSwitch ok s.hsw.nv.firmware).2 (switchBooted (bootSwitch ok s.hsw.nv.firmware).1 s)
  have hidle := afterRestart_idle ((eq_of_offPath (·.hsw.wakeDue) (fun _ => rfl) hpath).trans hwake)
    ((eq_of_offPath (·.vol.redun.due) (fun _ => rfl) hpath).trans hdue)
  refine ⟨_, (exec_hostSwitchReady ok hvin hreset hready).trans (congrArg _ hidle), ?_, ?_, ?_, ?_⟩
  · exact (eq_of_offPath (·.hsw.ready) (fun _ => rfl) hpath).trans rfl
  · exact (eq_of_offPath (·.hsw.pcieUp) (fun _ => rfl) hpath).trans rfl
  · exact (eq_of_offPath (·.hsw.restarting) (fun _ => rfl) hpath).trans rfl
  · exact (eq_of_offPath (·.hsw.nv.firmware) (fun _ => rfl) hpath).trans rfl

/-! ### Boot ROM and image verify (R442, R443, R467) -/

theorem exec_bootRomDone {x : SideId} {r : StartRun} {s : State} (v : Bool) (hstart : s.starting .bootRom = some (x, r)) :
    exec (.bootRomDone v) s = .next (bootRom x r v s) := by
  have hexec : exec (.bootRomDone v) s = execBootRomDone v s := rfl
  rw [hexec, execBootRomDone, hstart]

theorem bootRom_notWaiting {r : StartRun} {s : State} (hready : r.kind = .module → s.hsw.ready = true) :
    ¬ (r.kind = .module ∧ !s.hsw.ready) := by
  rintro ⟨hkind, hnot⟩
  rw [hready hkind] at hnot
  cases hnot

/-- A boot ROM that finds its side armed and the Crown valid powers the main domains. -/
theorem bootRom_armed {x : SideId} {r : StartRun} {s : State} (v : Bool) (hready : r.kind = .module → s.hsw.ready = true)
    (harmed : (s.side x).security.record.state = .armed) (hcrown : (s.side x).security.crownValid = true) :
    bootRom x r v s = endStage x 0 .imageVerify
      { s.modSide x fun d => { d with mainOn := true, bank33 := v } with
        mtbZero := if r.kind = .sideReset then s.mtbZero else s.clock } := by
  have hlocked : (s.side x).locked = false := by rw [SideState.locked, harmed]; rfl
  rw [bootRom, if_neg (bootRom_notWaiting hready)]
  simp only [harmed, hcrown, hlocked, reduceCtorEq, false_and, if_false, Bool.not_true, Bool.false_eq_true, and_false]
  split
  · cases x <;> rfl
  · rw [State.modSide_clock]

theorem SideState.locked_ne_shipping {d : SideState} (hlocked : d.locked = true) : d.security.record.state ≠ .shipping := by
  intro hshipping
  rw [SideState.locked, hshipping] at hlocked
  cases hlocked

theorem bootRom_locked {x : SideId} {r : StartRun} {s : State} (v : Bool) (hready : r.kind = .module → s.hsw.ready = true)
    (hlocked : (s.side x).locked = true) : bootRom x r v s = failStart x 4 s := by
  rw [bootRom, if_neg (bootRom_notWaiting hready)]
  simp only [SideState.locked_ne_shipping hlocked, hlocked, false_and, if_false, if_true]

theorem exec_imageVerifyDone {x : SideId} {r : StartRun} {s : State} (ok0 ok1 : Bool)
    (hstart : s.starting .imageVerify = some (x, r)) :
    exec (.imageVerifyDone ok0 ok1) s = .next (imageVerify x r ok0 ok1 s) := by
  have hexec : exec (.imageVerifyDone ok0 ok1) s = execImageVerifyDone ok0 ok1 s := rfl
  rw [hexec, execImageVerifyDone, hstart]

/-- With no trial every kind of start takes the active slot. -/
theorem chooseSlot_active (kind : StartKind) {f : Firmware} (htrial : f.flags.trial = .none) :
    chooseSlot kind f = (f, f.flags.active, false) := by
  unfold chooseSlot
  split
  · rfl
  · simp only [htrial]

theorem imageVerify_active {x : SideId} {r : StartRun} {ok0 ok1 : Bool} {s : State}
    (htrial : (s.side x).firmware.flags.trial = .none)
    (hgood : (((s.side x).firmware.slot (s.side x).firmware.flags.active).valid &&
      (if (s.side x).firmware.flags.active = 0 then ok0 else ok1)) = true) :
    imageVerify x r ok0 ok1 s = endStage x 1 .stateLoad (s.modSide x fun d =>
      { d with
        firmware := { (s.side x).firmware with running := (s.side x).firmware.flags.active }
        startRec := { d.startRec with slot := (s.side x).firmware.flags.active }
        start := some { r with slot := (s.side x).firmware.flags.active, fallback := false, trial := false } }) := by
  have hbooted : (TrialState.none == TrialState.booted) = false := rfl
  rw [imageVerify, chooseSlot_active r.kind htrial]
  simp only [hgood, if_true, htrial, hbooted, Bool.and_false, Bool.false_and]

/-! ### State load (R78, R85, R431) -/

theorem exec_stateLoadDone {x : SideId} {r : StartRun} {s : State} (ok a b torn : Bool)
    (hstart : s.starting .stateLoad = some (x, r)) :
    exec (.stateLoadDone ok a b torn) s = .next (stateLoad x r ok a b torn s) := by
  have hexec : exec (.stateLoadDone ok a b torn) s = execStateLoadDone ok a b torn s := rfl
  rw [hexec, execStateLoadDone, hstart]

theorem stateLoad_module {x : SideId} {r : StartRun} (ok a b torn : Bool) (s : State) (hkind : r.kind = .module) :
    stateLoad x r ok a b torn s = loadModule x r ok none (recovered x torn s) := by
  rw [stateLoad, hkind]
  rfl

theorem stateLoad_handover {x : SideId} {r : StartRun} {c : Checkpoint} {n : Nat} {e : Option Nat} {s : State}
    (ok a b torn : Bool) (hkind : r.kind = .handover)
    (hckpt : selectCheckpoint (s.side x) s.hsw.runNo a b = some (c, n, e)) :
    stateLoad x r ok a b torn s =
      loaded x r c.epoch (e.map fun k => (k, c.seq)) (installCheckpoint c n r.t0 (recovered x torn s)) := by
  obtain ⟨-, hckpts, hfirmware⟩ := recovered_side x torn s
  have hselect : selectCheckpoint ((recovered x torn s).side x) (recovered x torn s).hsw.runNo a b = some (c, n, e) := by
    rw [selectCheckpoint_congr hckpts hfirmware, recovered_hsw, hckpt]
  rw [stateLoad, hkind]
  rw [recovered] at hselect ⊢
  simp only [hselect]

/-- The state that a module start, or a handover restart without a checkpoint, loads. -/
def moduleLoad (x : SideId) (r : StartRun) (s : State) : State :=
  restartPtp (loadControl x ((s.side x).restartCharge r.fallback)
    ((s.modStore x fun t => t.atStart r.fallback r.trial (s.side x).firmware.image.version).modSide x fun d =>
      { d with start := d.start.map fun q => { q with kind := if r.kind = .handover then .abandoned else r.kind } }))

theorem loadModule_good (x : SideId) (r : StartRun) (ev : Option (Nat × Nat)) (s : State) :
    loadModule x r true ev s = loaded x r 0 ev (moduleLoad x r s) := rfl

theorem epochMax_of_ledger {s t : State} (h : t.ledger = s.ledger) : t.hsw.nv.epochMax = s.hsw.nv.epochMax :=
  congrArg Ledger.epochMax h

theorem moduleLoad_epochMax (x : SideId) (r : StartRun) (s : State) :
    (moduleLoad x r s).hsw.nv.epochMax = s.hsw.nv.epochMax :=
  epochMax_of_ledger (by simp [moduleLoad])

theorem moduleLoad_storeEpoch (x : SideId) (r : StartRun) (s : State) :
    ((moduleLoad x r s).side x).store.epoch = (s.side x).store.epoch := by
  rw [moduleLoad, side_of_sides (restartPtp_sides _), side_of_sides (loadControl_sides _ _ _), State.modSide_self,
    State.modStore, State.modSide_self]
  exact atStart_epoch _ _ _ _

theorem loadModule_serves (x : SideId) (r : StartRun) (ev : Option (Nat × Nat)) (s : State) :
    (loadModule x r true ev s).hsw.serving = true ∧
    IssuedAbove s.hsw.nv.epochMax (s.side x).store.epoch 0 (loadModule x r true ev s) := by
  have hissued := loaded_issued x r 0 ev (moduleLoad x r s)
  rw [moduleLoad_epochMax, moduleLoad_storeEpoch] at hissued
  rw [loadModule_good]
  exact ⟨loaded_serving x r 0 ev _, hissued⟩

theorem stateLoadDone_module {x : SideId} {r : StartRun} {s : State} (a b torn : Bool)
    (hstart : s.starting .stateLoad = some (x, r)) (hkind : r.kind = .module) :
    ∃ t, exec (.stateLoadDone true a b torn) s = .next t ∧ t.hsw.serving = true ∧ s.hsw.nv.epochMax < t.hsw.epoch ∧
      (s.side x).store.epoch < t.hsw.epoch ∧ t.hsw.nv.epochMax = t.hsw.epoch := by
  obtain ⟨hstore, -, -⟩ := recovered_side x torn s
  obtain ⟨hserving, hgreatest, hstored, -, hmax⟩ := loadModule_serves x r none (recovered x torn s)
  rw [recovered_hsw] at hgreatest
  rw [hstore] at hstored
  exact ⟨_, (exec_stateLoadDone true a b torn hstart).trans (congrArg _ (stateLoad_module true a b torn s hkind)),
    hserving, hgreatest, hstored, hmax⟩

theorem installCheckpoint_epochMax (c : Checkpoint) (committed woken : Nat) (s : State) :
    (installCheckpoint c committed woken s).hsw.nv.epochMax = s.hsw.nv.epochMax :=
  epochMax_of_ledger (installCheckpoint_ledger c committed woken s)

theorem stateLoadDone_handover {x : SideId} {r : StartRun} {c : Checkpoint} {n : Nat} {e : Option Nat} {s : State}
    (ok a b torn : Bool) (hstart : s.starting .stateLoad = some (x, r)) (hkind : r.kind = .handover)
    (hckpt : selectCheckpoint (s.side x) s.hsw.runNo a b = some (c, n, e)) :
    ∃ t, exec (.stateLoadDone ok a b torn) s = .next t ∧ t.hsw.serving = true ∧ s.hsw.nv.epochMax < t.hsw.epoch ∧
      c.epoch < t.hsw.epoch ∧ t.hsw.nv.epochMax = t.hsw.epoch ∧ t.vol.redun.installed = c.seq := by
  obtain ⟨hgreatest, -, hckptEpoch, hmax⟩ := loaded_issued x r c.epoch (e.map fun k => (k, c.seq))
    (installCheckpoint c n r.t0 (recovered x torn s))
  rw [installCheckpoint_epochMax, recovered_hsw] at hgreatest
  exact ⟨_, (exec_stateLoadDone ok a b torn hstart).trans (congrArg _ (stateLoad_handover ok a b torn hkind hckpt)),
    loaded_serving _ _ _ _ _, hgreatest, hckptEpoch, hmax,
    (loaded_installed _ _ _ _ _).trans (installCheckpoint_installed _ _ _ _)⟩

/-! ### Radio heads, GNSS start and overruns (R77, R79, R86) -/

theorem exec_radioHeadBringupDone {x : SideId} {r : StartRun} {s : State} (a b : Option Bool)
    (hstart : s.starting .radioHead = some (x, r)) :
    exec (.radioHeadBringupDone a b) s = .next (
      if r.kind = .sideReset then endStage x 3 .gnss (bringUpOther x 1 b (bringUpOther x 0 a s))
      else endStage x 3 (if r.kind = .handover then .heartbeat else .gnss) (bringUp 1 b (bringUp 0 a s))) := by
  have hexec : exec (.radioHeadBringupDone a b) s = execRadioHeadBringupDone a b s := rfl
  rw [hexec, execRadioHeadBringupDone, hstart]
  exact (apply_ite Host.Outcome.next _ _ _).symm

theorem exec_gnssStartEnd {s : State} (stb : Nat) (hon : s.actOn = true) (hended : s.stageEnded 6 = true)
    (hwarned : s.hsw.warned = false) (hfirst : s.vol.time.state = .invalid → s.firstReady = true) :
    exec (.gnssStartEnd stb) s = .next (endGnssStart (firstDiscipline stb s)) := by
  have hexec : exec (.gnssStartEnd stb) s = execGnssStartEnd stb s := rfl
  have hwaits : (s.vol.time.state == .invalid && !s.firstReady) = false := by
    by_cases hstate : s.vol.time.state = .invalid
    · rw [hfirst hstate]; exact Bool.and_false _
    · rw [beq_false_of_ne hstate]; rfl
  rw [hexec, execGnssStartEnd, hon, hended, hwarned, hwaits]
  rfl

theorem exec_gnssStartDeadline {r : StartRun} {s : State} (hon : s.actOn = true) (hwarned : s.hsw.warned = false)
    (hstart : s.act.start = some r) (hstage : r.stage = .gnss) :
    exec .gnssStartDeadline s = .next (endStage s.actId 4 .heartbeat s) := by
  have hexec : exec .gnssStartDeadline s = execGnssStartDeadline s := rfl
  rw [hexec, execGnssStartDeadline, hon, hwarned, endGnssStart, hstart]
  simp only [hstage, if_true, Bool.not_false, Bool.and_true]

theorem exec_startStageOverrun {r : StartRun} {s : State} (hactive : s.hsw.active ≠ none) (hwarned : s.hsw.warned = false)
    (hstart : s.act.start = some r) (hstage : r.stage ≠ .gnss) :
    exec .startStageOverrun s = .next (failStart s.actId 3 s) := by
  have hexec : exec .startStageOverrun s = execStartStageOverrun s := rfl
  have hnone : s.hsw.active.isNone = false := by
    rw [Option.isNone_eq_false_iff, Option.isSome_iff_ne_none]; exact hactive
  have hside : (s.side s.actId).start = some r := hstart
  have hlate : (r.stage != .gnss) = true := bne_iff_ne.2 hstage
  rw [hexec, execStartStageOverrun]
  simp only [hnone, hwarned, hside, hlate, Bool.or_false, Bool.false_eq_true, if_false, if_true]

/-! ### Heartbeat start (R76, R204, R296, R428) -/

theorem exec_heartbeatStart {r : StartRun} {s : State} (hon : s.actOn = true) (hwarned : s.hsw.warned = false)
    (hstart : s.act.start = some r) (hstage : r.stage = .heartbeat) (hkind : r.kind ≠ .sideReset) :
    exec .heartbeatStart s = .next (heartbeatStart r s) := by
  have hexec : exec .heartbeatStart s = execHeartbeatStart s := rfl
  have hreset : (r.kind == .sideReset) = false := beq_false_of_ne hkind
  rw [hexec, execHeartbeatStart, hstart]
  simp only [hon, hwarned, hstage, hreset]
  rfl

/-- What a heartbeat start sets of the Sluice state machine, the run, the heartbeat line and ATB, and the start that is left. -/
structure RunBegun (runNo atb : Nat) (t : State) : Prop where
  sluice : t.vol.sluice.state = .running
  running : t.vol.redun.running = true
  handover : t.hsw.handoverN = false
  runNo : t.hsw.runNo = runNo
  started : t.act.start = none
  atb : t.ctl.time.atb = some atb

theorem act_start_of_offPath {s t : State} (h : t.offPath = s.offPath) : t.act.start = s.act.start := by
  refine eq_of_offPath (fun s => s.act.start) (fun s => ?_) h
  change (s.offPath.side s.actId).start = (s.side s.actId).start
  cases s.actId <;> rfl

theorem RunBegun.of_offPath {n a : Nat} {s t : State} (hrun : RunBegun n a s) (h : t.offPath = s.offPath) : RunBegun n a t := by
  obtain ⟨hsluice, hrunning, hhandover, hrunNo, hstarted, hatb⟩ := hrun
  exact
    { sluice := (eq_of_offPath (·.vol.sluice.state) (fun _ => rfl) h).trans hsluice
      running := (eq_of_offPath (·.vol.redun.running) (fun _ => rfl) h).trans hrunning
      handover := (eq_of_offPath (·.hsw.handoverN) (fun _ => rfl) h).trans hhandover
      runNo := (eq_of_offPath (·.hsw.runNo) (fun _ => rfl) h).trans hrunNo
      started := (act_start_of_offPath h).trans hstarted
      atb := (eq_of_offPath (·.ctl.time.atb) (fun _ => rfl) h).trans hatb }

theorem RunBegun.modAct {n a : Nat} {s : State} (f : SideState → SideState) (hf : ∀ d, (f d).start = d.start)
    (hrun : RunBegun n a s) : RunBegun n a (s.modSide s.actId f) := by
  obtain ⟨hsluice, hrunning, hhandover, hrunNo, hstarted, hatb⟩ := hrun
  exact
    { sluice := by rw [State.modSide_vol, hsluice]
      running := by rw [State.modSide_vol, hrunning]
      handover := by rw [State.modSide_hsw, hhandover]
      runNo := by rw [State.modSide_hsw, hrunNo]
      started := by rw [modSide_act, hf, hstarted]
      atb := by rw [State.modSide_ctl, hatb] }

theorem RunBegun.confirmFrom {n a : Nat} {s : State} (q : Option Nat) (hrun : RunBegun n a s) :
    RunBegun n a { s with vol.redun.confirmFrom := q } := by
  obtain ⟨hsluice, hrunning, hhandover, hrunNo, hstarted, hatb⟩ := hrun
  exact ⟨hsluice, hrunning, hhandover, hrunNo, hstarted, hatb⟩

theorem RunBegun.confirmSide {n a : Nat} {s : State} (hrun : RunBegun n a s) : RunBegun n a (confirmSide s.actId s) := by
  rw [Machine.confirmSide]
  refine RunBegun.of_offPath ?_ (updateEvent_offPath _ _ _ _)
  exact hrun.modAct _ fun _ => rfl

/-- The confirmation of a trial image leaves the run that has begun. -/
theorem RunBegun.tryConfirm {n a : Nat} {s : State} (hrun : RunBegun n a s) : RunBegun n a (tryConfirm s) := by
  unfold Machine.tryConfirm
  split
  · exact (hrun.confirmFrom none).confirmSide
  · exact hrun

/-- A run has begun, with ATB at `atb`. -/
def beginRun (trial : Bool) (atb now : Nat) (s : State) : State :=
  { s with
    ctl.time := { s.ctl.time with atb := some atb, atbOffsetSf := 0 }
    hsw.handoverN := false
    hsw.runNo := s.hsw.runNo + 1
    vol.sluice := { s.vol.sluice with
      state := .running, in0 := .unclassified, in1 := .unclassified, discSince := false, discStop := false }
    vol.redun := { s.vol.redun with
      running := true, firstDone := false, seq := 0, commits := 0, hbAt := now, bistAt := now, streamsOnce := false,
      confirmFrom := if trial then some now else none } }

/-- The start of the active side is over, with no fault. -/
def startOver (s : State) : State :=
  (endStage s.actId 5 .heartbeat s).modAct fun d => { d with start := none, startRec := { d.startRec with result := 0 } }

theorem heartbeatStart_module {r : StartRun} (s : State) (hkind : r.kind = .module) :
    heartbeatStart r s = tryConfirm (beginRun r.trial ((startOver s).ctl.time.stb.getD 0) s.clock (startOver s)) := by
  have hhandover : (StartKind.module == StartKind.handover) = false := rfl
  rw [heartbeatStart, hkind]
  simp only [hhandover, Bool.and_false, reduceCtorEq, if_false, Bool.false_eq_true]
  rfl

@[simp] theorem endStage_hsw (x : SideId) (k : Nat) (g : Stage) (s : State) : (endStage x k g s).hsw = s.hsw :=
  State.modSide_hsw _ _ _

@[simp] theorem endStage_ctl (x : SideId) (k : Nat) (g : Stage) (s : State) : (endStage x k g s).ctl = s.ctl :=
  State.modSide_ctl _ _ _

@[simp] theorem startOver_hsw (s : State) : (startOver s).hsw = s.hsw := by
  rw [startOver, State.modAct, State.modSide_hsw, endStage_hsw]

@[simp] theorem startOver_ctl (s : State) : (startOver s).ctl = s.ctl := by
  rw [startOver, State.modAct, State.modSide_ctl, endStage_ctl]

theorem startOver_start (s : State) : (startOver s).act.start = none := by
  rw [startOver, State.modAct, modSide_act]

theorem beginRun_begun (trial : Bool) (atb now : Nat) {s : State} (hstart : s.act.start = none) :
    RunBegun (s.hsw.runNo + 1) atb (beginRun trial atb now s) := ⟨rfl, rfl, rfl, rfl, hstart, rfl⟩

theorem heartbeatStart_begins {r : StartRun} (s : State) (hkind : r.kind = .module) :
    RunBegun (s.hsw.runNo + 1) (s.ctl.time.stb.getD 0) (heartbeatStart r s) := by
  have hrun := (beginRun_begun r.trial ((startOver s).ctl.time.stb.getD 0) s.clock (startOver_start s)).tryConfirm
  rwa [← heartbeatStart_module s hkind, startOver_hsw, startOver_ctl] at hrun

end Sys2Proof.Machine
end

section
/-! OBLIGATION.
The stages of a start.
-/

namespace Sys2Proof.Machine

/-- Settles O15, stage by stage: a module start and a handover restart load a state that serves at once, whose epoch is read from the
ledger at its issue, which nothing that follows changes; the run of a heartbeat start outlasts the confirmation of a trial image. -/
theorem startStages : Obligations.StartStages := by
  unfold Obligations.StartStages
  refine ⟨?hostSwitch, ?armed, ?locked, ?image, ?module, ?handover, ?heads, ?gnssEnd, ?gnssDeadline, ?run, ?resumed, ?overrun⟩
  case hostSwitch => intro ok s hvin hreset hready hwake hdue; exact hostSwitchReady_boots ok hvin hreset hready hwake hdue
  case armed =>
    intro v x r s hstart hready harmed hcrown
    rw [exec_bootRomDone v hstart, bootRom_armed v hready harmed hcrown]
  case locked =>
    intro v x r s hstart hready hlocked
    rw [exec_bootRomDone v hstart, bootRom_locked v hready hlocked]
  case image =>
    intro ok0 ok1 x r s hstart htrial f k put hgood
    rw [exec_imageVerifyDone ok0 ok1 hstart, imageVerify_active htrial hgood]
  case module =>
    intro ok a b torn x r s hstart hkind hok
    rw [hok]
    exact stateLoadDone_module a b torn hstart hkind
  case handover =>
    intro ok a b torn x r c n e s hstart hkind hckpt
    exact stateLoadDone_handover ok a b torn hstart hkind hckpt
  case heads => intro a b x r s hstart; exact exec_radioHeadBringupDone a b hstart
  case gnssEnd => intro stb s hon hended hwarned hfirst; exact exec_gnssStartEnd stb hon hended hwarned hfirst
  case gnssDeadline => intro r s hon hwarned hstart hstage; exact exec_gnssStartDeadline hon hwarned hstart hstage
  case run =>
    intro r s hon hwarned hstart hstage hkind
    obtain ⟨hsluice, hrunning, hhandover, hrunNo, hstarted, hatb⟩ := heartbeatStart_begins s hkind
    exact ⟨_, exec_heartbeatStart hon hwarned hstart hstage (by rw [hkind]; decide), hsluice, hrunning, hhandover, hrunNo,
      hstarted, hatb⟩
  case resumed =>
    intro r s hon hwarned hstart hstage hkind
    exact exec_heartbeatStart hon hwarned hstart hstage (by rw [hkind]; decide)
  case overrun => intro r s hactive hwarned hstart hstage; exact exec_startStageOverrun hactive hwarned hstart hstage

end Sys2Proof.Machine
end

section
/-! SUPPORT.
A packet at its session's door: what an open session makes of it, and that the command it becomes stays one of a live session.
-/

namespace Sys2Proof.Machine

/-! ### Admission (R97, R101, R103) -/

/-- A packet has left its transport, and its session has numbered it (R91, R97). -/
def counted (p : Packet) (s : State) : State :=
  (countEvents 0x0001 none 1 (takeSlot p.via s)).modSess (viaSession p.via) fun n =>
    { n with lastSeq := (s.sess (viaSession p.via)).lastSeq + 1 }

@[simp] theorem counted_offPath (p : Packet) (s : State) : (counted p s).offPath = s.offPath := by simp [counted]

theorem takenSlot_sess (p : Packet) (s : State) (n : Nat) :
    (countEvents 0x0001 none 1 (takeSlot p.via s)).sess n = s.sess n := sess_congr (by simp) n

theorem counted_sess {p : Packet} {s : State} (h : s.openOn p.via = true) :
    (counted p s).sess (viaSession p.via) =
      { s.sess (viaSession p.via) with lastSeq := (s.sess (viaSession p.via)).lastSeq + 1 } := by
  have hlen : (countEvents 0x0001 none 1 (takeSlot p.via s)).hsw.sessions = s.hsw.sessions := by simp
  rw [counted, modSess_sess (hlen ▸ openOn_lt h), takenSlot_sess]

theorem checkPacket_counted {op : Nat} {p : Packet} {s : State} (h : s.openOn p.via = true) :
    checkPacket op p (counted p s) = checkPacket op p s :=
  checkPacket_congr op p (counted_offPath p s) (by rw [counted_sess h])

theorem mkCmd_counted {op : Nat} {p : Packet} {s : State} (h : s.openOn p.via = true) :
    mkCmd op p ((s.sess (viaSession p.via)).lastSeq + 1) (s.sqIndexOf p.via) (counted p s) = fetchedCmd op p s := by
  simp only [fetchedCmd, mkCmd, counted_sess h, offPath_clock (counted_offPath p s)]

/-- A packet of an open session that passes steps 1 to 4 of R103 is a command in flight, queued. -/
theorem admitPacket_passes {op : Nat} {p : Packet} {s : State} (h : s.openOn p.via = true)
    (hpass : checkPacket op p s = none) :
    admitPacket op p s = (queueCommand (fetchedCmd op p s) (fetched op p s), some (fetchedCmd op p s)) := by
  have hcheck := (checkPacket_counted h).trans hpass
  have hcmd := mkCmd_counted (op := op) h
  unfold counted at hcheck hcmd
  simp only [admitPacket, takenSlot_sess, hcheck, hcmd]
  rfl

/-- One that fails is answered at once. -/
theorem admitPacket_fails {op st d : Nat} {p : Packet} {s : State} (h : s.openOn p.via = true)
    (hfail : checkPacket op p s = some (st, d)) :
    admitPacket op p s = (post p.via (cmdEntry (fetchedCmd op p s) st d false []) (counted p s), none) := by
  have hcheck := (checkPacket_counted h).trans hfail
  have hcmd := mkCmd_counted (op := op) h
  unfold counted at hcheck hcmd
  simp only [admitPacket, takenSlot_sess, hcheck, hcmd]
  rfl

/-! ### A command of a live session (R110) -/

/-- The session that fetched a command is open, and has not ended since. -/
def Live (c : HostCmd) (s : State) : Prop := ((s.sess c.session).isOpen && (s.sess c.session).inst == c.inst) = true

theorem Live.of_sessions {c : HostCmd} {s t : State} (h : Live c s) (hsame : t.hsw.sessions = s.hsw.sessions) : Live c t := by
  rw [Live, sess_congr hsame]; exact h

theorem Live.modSess {c : HostCmd} {s : State} (h : Live c s) {n : Nat} {f : Session → Session}
    (hopen : ∀ x, (f x).isOpen = x.isOpen) (hinst : ∀ x, (f x).inst = x.inst) : Live c (s.modSess n f) := by
  have hsess : ((s.modSess n f).sess c.session).isOpen = (s.sess c.session).isOpen ∧
      ((s.modSess n f).sess c.session).inst = (s.sess c.session).inst := by
    by_cases hn : c.session = n
    · subst hn
      rcases Nat.lt_or_ge c.session s.hsw.sessions.length with hlt | hge
      · rw [modSess_sess hlt]; exact ⟨hopen _, hinst _⟩
      · simp [State.sess, State.modSess, List.getD_eq_getElem?_getD, List.getElem?_eq_none hge]
    · rw [modSess_sess_ne hn]; exact ⟨rfl, rfl⟩
  rw [Live, hsess.1, hsess.2]; exact h

theorem fetchedCmd_live {op : Nat} {p : Packet} {s : State} (h : s.openOn p.via = true) : Live (fetchedCmd op p s) s := by
  have hopen : (s.sess (viaSession p.via)).isOpen = true := (Bool.and_eq_true _ _ ▸ h : _ ∧ _).1
  simp [Live, fetchedCmd, mkCmd, hopen]

theorem fetched_live {op : Nat} {p : Packet} {s : State} (h : s.openOn p.via = true) :
    Live (fetchedCmd op p s) (fetched op p s) := by
  have htaken : Live (fetchedCmd op p s) (countEvents 0x0001 none 1 (takeSlot p.via s)) :=
    (fetchedCmd_live h).of_sessions (by simp)
  unfold fetched
  refine Live.modSess (Live.modSess htaken ?_ ?_) ?_ ?_ <;> intro x <;> rfl

theorem Live.markStarted {c d : HostCmd} {s : State} (h : Live c s) : Live c (markStarted d s) :=
  h.modSess (fun _ => rfl) fun _ => rfl

theorem started_live {op : Nat} {p : Packet} {s : State} (h : s.openOn p.via = true) :
    Live (fetchedCmd op p s) (started op p s) := by
  have hserved : Live (fetchedCmd op p s) (serveItem (fetchedCmd op p s) (queueCommand (fetchedCmd op p s) (fetched op p s))) :=
    (fetched_live h).of_sessions (by simp)
  exact hserved.markStarted

/-- A completion in a live session leaves the control state. -/
theorem Live.finish_ctl {c : HostCmd} {s : State} (h : Live c s) (st d : Nat) (r : List Byte) :
    (finish c st d r s).ctl = s.ctl := offPath_ctl (finish_offPath h st d r)

/-- A row that serves its opcode with `run` carries whatever `run` concludes with for a command of a live session. -/
theorem Carries.of_live {op : Nat} {row : Packet → Instr} {holds : HostCmd → State → Prop}
    {result : HostCmd → State → State} (run : HostCmd → State → CmdResult)
    (hrow : ∀ p s, exec (row p) s = .next (serve op run p s))
    (heff : ∀ c b, Live c b → holds c b → conclude c b (run c b) = result c b) : Carries op row holds result := by
  intro p s hready hholds
  rw [hrow, serve_ready hready, heff _ _ (started_live hready.openOn) hholds]

/-! ### The rows of the opcodes -/

theorem admitPacket_cmd {op : Nat} {p : Packet} {s t : State} {c : HostCmd} (h : admitPacket op p s = (t, some c)) :
    c.opcode = op := by
  simp only [admitPacket] at h
  split at h <;> cases h
  rfl

theorem startCmd_congr {run run' : HostCmd → State → CmdResult} {c : HostCmd} (h : ∀ b, run c b = run' c b) (s : State) :
    startCmd run c s = startCmd run' c s := by simp only [startCmd, h]

/-- Serving an opcode asks only what its own commands do. -/
theorem serve_congr {op : Nat} {run run' : HostCmd → State → CmdResult} (h : ∀ c b, c.opcode = op → run c b = run' c b)
    (p : Packet) (s : State) : serve op run p s = serve op run' p s := by
  unfold serve
  rcases hadmit : admitPacket op p s with ⟨t, _ | c⟩
  · rfl
  · simp only [startCmd_congr fun b => h c b (admitPacket_cmd hadmit)]

/-- An opcode of the table runs what the table gives it. -/
theorem runOpcode_eq {op : Nat} {run : HostCmd → State → CmdResult}
    (h : opcodeRuns.find? (fun e => e.1 == op) = some (op, run)) (c : HostCmd) (b : State) (hc : c.opcode = op) :
    runOpcode c b = run c b := by
  rw [runOpcode, hc, h]

theorem serve_runOpcode {op : Nat} {run : HostCmd → State → CmdResult}
    (h : opcodeRuns.find? (fun e => e.1 == op) = some (op, run)) (p : Packet) (s : State) :
    serve op run p s = serve op runOpcode p s :=
  serve_congr (fun c b hc => (runOpcode_eq h c b hc).symm) p s

/-- Every row of an opcode but SESSION.OPEN serves its packet with what the table runs. -/
theorem exec_opcodeRow {i : Instr} {op : Nat} {p : Packet} (h : opcodeOf i = some (op, p)) (s : State) :
    exec i s = .next (serve op runOpcode p s) := by
  cases i <;> cases h
  all_goals exact congrArg Host.Outcome.next (serve_runOpcode rfl _ _)

end Sys2Proof.Machine
end

section
/-! SUPPORT.
Opcodes' packets, run or refused (O1, O3, O5, O10).
-/

namespace Sys2Proof.Machine

/-! ### A packet that fails a check (R101, R103) -/

/-- A packet of an open session that fails steps 1 to 4 of R103 is answered with its first failure. -/
theorem serve_fails {op st d : Nat} {run : HostCmd → State → CmdResult} {p : Packet} {s : State}
    (hfetch : s.canFetch p.via = true) (hopen : s.openOn p.via = true)
    (hroom : (s.sess (viaSession p.via)).lastSeq + 1 < 0xFFFFFFFF) (hfail : checkPacket op p s = some (st, d)) :
    serve op run p s = post p.via (cmdEntry (fetchedCmd op p s) st d false []) (counted p s) := by
  simp [serve, hfetch, hopen, Nat.not_le.mpr hroom, admitPacket_fails hopen hfail]

theorem serve_unfetched {op : Nat} {run : HostCmd → State → CmdResult} {p : Packet} {s : State}
    (hfetch : s.canFetch p.via = false) : serve op run p s = s := by simp [serve, hfetch]

/-- What the answer to a failed check leaves: the session has counted the packet, and nothing else of it changes. -/
theorem post_counted_sess {p : Packet} {s : State} (h : s.openOn p.via = true) (e : HeldEntry) :
    (post p.via e (counted p s)).sess (viaSession p.via) =
      { s.sess (viaSession p.via) with lastSeq := (s.sess (viaSession p.via)).lastSeq + 1 } :=
  (sess_congr (post_sessions _ _ _) _).trans (counted_sess h)

theorem post_counted_pathOnly (p : Packet) (e : HeldEntry) (s : State) : PathOnly s (post p.via e (counted p s)) := by
  simp [PathOnly]

/-- A tag that is in flight fails step 2 of R103. -/
theorem checkPacket_busy {op : Nat} {p : Packet} {s : State} (hheader : headerError op p s = none)
    (hside : namesStandby p s = false ∨ op = 0x0F05)
    (hbusy : ∃ f ∈ (s.sess (viaSession p.via)).inFlight, f.cmd.packet.tag = p.tag) :
    checkPacket op p s = some (erBusy, 0x10000 + p.tag) := by
  have hrole : (namesStandby p s && op != 0x0F05) = false := by rcases hside with h | h <;> simp [h]
  have hany : ((s.sess (viaSession p.via)).inFlight.any fun f => f.cmd.packet.tag == p.tag) = true := by simpa using hbusy
  simp [checkPacket, hheader, targetError, hrole, hany]

/-- Settles O3: a row serves its packet, and serving comes to running the command, to the answer of a failed check, or to nothing. -/
theorem opcodeRowsRunOrRefuse : Obligations.OpcodeRowsRunOrRefuse := by
  unfold Obligations.OpcodeRowsRunOrRefuse
  refine ⟨?ready, fun i op st d p s hrow hfetch hopen hroom hfail => ?fails, fun i op p s hrow hfetch => ?unfetched⟩
  case ready =>
    intro i op p s hrow hready c b
    have hruns : exec i s = .next (conclude c b (runOpcode c b)) := by rw [exec_opcodeRow hrow, serve_ready hready]
    refine ⟨hruns, fun st d hrefuse => ⟨by rw [hruns, hrefuse, conclude_refuse], ?_⟩⟩
    exact (finish_offPath (started_live hready.openOn) _ _ _).trans (started_offPath op p s)
  case fails =>
    refine ⟨_, exec_opcodeRow hrow s, ?_⟩
    rw [serve_fails hfetch hopen hroom hfail]
    exact ⟨post_counted_pathOnly _ _ _, by rw [post_counted_sess hopen], by rw [post_counted_sess hopen],
      counted p s, counted_offPath p s, rfl⟩
  case unfetched => rw [exec_opcodeRow hrow, serve_unfetched hfetch]

/-! ### Fetching (R97, R98) -/

/-- A packet of an open session that passes its checks is admitted by a fetch. -/
theorem fetchPacket_passes {op : Nat} {p : Packet} {s : State} (hfetch : s.canFetch p.via = true) (hopen : s.openOn p.via = true)
    (hroom : (s.sess (viaSession p.via)).lastSeq + 1 < 0xFFFFFFFF) (hpass : checkPacket op p s = none) :
    fetchPacket op p false s = queueCommand (fetchedCmd op p s) (fetched op p s) := by
  simp [fetchPacket, hfetch, hopen, Nat.not_le.mpr hroom, admitPacket_passes hopen hpass]

theorem exec_packetFetch {op : Nat} {p : Packet} {s : State} (hfilled : s.sqFilled p.via = true)
    (hfetch : s.canFetch p.via = true) (poisoned : Bool) :
    exec (.packetFetch p.via op p false poisoned) s = .next (fetchPacket op p poisoned s) := by
  simp [exec, execPacketFetch, hfilled, hfetch]

/-- The command of an admitted packet is in flight. -/
theorem queueCommand_fetched_inFlight {op : Nat} {p : Packet} {s : State} (hopen : s.openOn p.via = true) :
    ((queueCommand (fetchedCmd op p s) (fetched op p s)).sess (viaSession p.via)).inFlight =
      (s.sess (viaSession p.via)).inFlight ++ [⟨fetchedCmd op p s, .fetched, [], none⟩] := by
  rw [sess_congr (queueCommand_sessions _ _), fetched_inFlight hopen]

/-! ### Completions and the tags in flight (R100, R101, R107) -/

/-- A first completion that leaves its command in flight, awaiting the durable one. -/
def Follows (c : HostCmd) (st : Nat) (s : State) : Prop :=
  st = 1 ∧ wantsDurable c.packet = true ∧ s.sinkAccepts = true ∧ s.keptIn c = none

/-- The commands in flight of a live session after a first completion. -/
theorem finish_inFlight {c : HostCmd} {s : State} (hlive : Live c s) (hlen : c.session < s.hsw.sessions.length) (st d : Nat)
    (reply : List Byte) :
    ((finish c st d reply s).sess c.session).inFlight =
      if st == 1 && wantsDurable c.packet && (s.sinkAccepts || (s.keptIn c).isSome) && (s.keptIn c).isNone then
        (s.sess c.session).inFlight.map fun f =>
          if f.cmd.fetchSeq = c.fetchSeq then { f with phase := .awaitingDurable, reply := reply } else f
      else (s.sess c.session).inFlight.filter fun f => f.cmd.fetchSeq != c.fetchSeq := by
  unfold Live at hlive
  unfold finish
  dsimp only
  rw [if_pos hlive]
  split
  · split
    · rw [sess_congr (post_sessions _ _ _), sess_congr (post_sessions _ _ _), modSess_sess hlen]
    · rw [sess_congr (post_sessions _ _ _), modSess_sess hlen]
  · rw [sess_congr (post_sessions _ _ _), modSess_sess hlen]

theorem follows_iff (c : HostCmd) (st : Nat) (s : State) :
    (st == 1 && wantsDurable c.packet && (s.sinkAccepts || (s.keptIn c).isSome) && (s.keptIn c).isNone) = true ↔ Follows c st s := by
  cases hkept : s.keptIn c <;> simp [Follows, hkept, and_assoc]

theorem durable_inFlight {q : Nat} {f : InFlight} {s : State} (hlen : f.cmd.session < s.hsw.sessions.length) :
    ((durable q f s).sess f.cmd.session).inFlight =
      (s.sess f.cmd.session).inFlight.filter fun g => g.cmd.fetchSeq != f.cmd.fetchSeq := by
  rw [durable, sess_congr (post_sessions _ _ _), modSess_sess hlen]

/-- Settles O5: a busy tag is a failed check; a tag is in flight from its fetch to its last completion. -/
theorem busyTagIsRefused : Obligations.BusyTagIsRefused := by
  unfold Obligations.BusyTagIsRefused
  refine ⟨fun i op p s hrow hfetch hopen hroom hheader hside hbusy => ?busy, fun op p s hfilled hfetch hopen hroom hpass => ?admitted,
    fun c st d reply s hlen hopen hinst => ⟨fun hends => ?ends, fun hfollows f hf hseq => ?follows⟩, fun q f s hlen => ?durable⟩
  case busy =>
    refine ⟨_, counted p s, cmdEntry (fetchedCmd op p s) erBusy (0x10000 + p.tag) false [], exec_opcodeRow hrow s, ?_⟩
    rw [serve_fails hfetch hopen hroom (checkPacket_busy hheader hside hbusy)]
    exact ⟨rfl, rfl, rfl, rfl, by rw [post_counted_sess hopen], post_counted_pathOnly _ _ _⟩
  case admitted =>
    refine ⟨_, exec_packetFetch hfilled hfetch false, ⟨fetchedCmd op p s, .fetched, [], none⟩, ?_, rfl, rfl⟩
    rw [fetchPacket_passes hfetch hopen hroom hpass, queueCommand_fetched_inFlight hopen]
    exact List.mem_append_right _ (List.mem_singleton_self _)
  case ends =>
    have hlive : Live c s := by simp [Live, hopen, hinst]
    rw [finish_inFlight hlive hlen, if_neg fun h => hends ((follows_iff c st s).mp h)]
  case follows =>
    have hlive : Live c s := by simp [Live, hopen, hinst]
    rw [finish_inFlight hlive hlen, if_pos ((follows_iff c st s).mpr hfollows)]
    exact List.mem_map.mpr ⟨f, hf, if_pos hseq⟩
  case durable => exact durable_inFlight hlen

/-- Settles O10: a fetch admits what `Ready` admits, and COMMAND_START is the start of the next command. -/
theorem fetchAndStart : Obligations.FetchAndStart := by
  unfold Obligations.FetchAndStart
  refine ⟨fun op p s hfilled hready => ?fetch, fun n op p b s hvia hslot hfetch => ?unreadable,
    ?starts, fun n c s hnext hlate => ?late⟩
  case fetch =>
    rw [exec_packetFetch hfilled hready.canFetch,
      fetchPacket_passes hready.canFetch hready.openOn hready.room hready.passes]
  case unreadable => simp [exec, execPacketFetch, State.sqFilled, hvia, hslot, hfetch]
  case starts =>
    intro n c s hnext hlate hmoves b
    simp only [exec, execCommandStart, hnext, startCmd, hlate, hmoves, Bool.false_eq_true, if_false]
    rfl
  case late => simp only [exec, execCommandStart, hnext, startCmd, hlate, if_true]

/-- Settles O1, by the two shapes of the queue. -/
theorem stepRunsFront : Obligations.StepRunsFront := by
  unfold Obligations.StepRunsFront
  exact ⟨fun _ _ _ => rfl, fun s hempty => by rw [step, hempty]⟩

end Sys2Proof.Machine
end

section
/-! SUPPORT.
The rings and the maintenance port (O4, O9, O12).
-/

namespace Sys2Proof.Machine

/-! ### What a write to the completion queue leaves of a ring set (R90, R91, R96) -/

theorem cqWriteEnds_ring (n k : Nat) (s : State) : (cqWriteEnds n s).ring k = s.ring k := rfl

@[simp] theorem raiseIrq_ring (j k : Nat) (s : State) : (raiseIrq j s).ring k = s.ring k := by
  obtain ⟨i, p, o, h⟩ := raiseIrq_eq j s
  rw [h]; rfl

/-- The entry that a write lays into the ring: PHASE, epoch and MTB are those of the writing. -/
def writtenEntry (n : Nat) (h : HeldEntry) (s : State) : Entry :=
  { h.entry with
    phase := !((s.ring n).cqTail.testBit (s.ring n).cqOrder), epoch := s.hsw.epoch, mtbNs := s.mtbNs
    lost := h.entry.msg && (s.ring n).lost }

/-- A ring set after a write of one entry. -/
theorem ringWrite_ring (n : Nat) (h : HeldEntry) (s : State) :
    ∃ u b, (ringWrite n h s).ring n = { s.ring n with
      cq := (s.ring n).cq ++ [writtenEntry n h s], cqTail := ringAdd (s.ring n).cqOrder (s.ring n).cqTail 1
      lost := (s.ring n).lost && !h.entry.msg, unsignalled := u, timerRuns := b } := by
  unfold ringWrite
  dsimp only
  split
  · rw [raiseIrq_ring, cqWriteEnds_ring]
    exact ⟨_, _, State.modRing_self s n _⟩
  · rw [cqWriteEnds_ring]
    exact ⟨_, _, State.modRing_self s n _⟩

/-- Writing held entries moves neither the CQ head nor the SQ tail. -/
theorem flushHeld_ring (n k : Nat) (s : State) :
    ((flushHeld n k s).ring n).cqHead = (s.ring n).cqHead ∧ ((flushHeld n k s).ring n).sqTail = (s.ring n).sqTail := by
  induction k generalizing s with
  | zero => exact ⟨rfl, rfl⟩
  | succ k ih =>
    unfold flushHeld
    dsimp only
    split
    · exact ⟨rfl, rfl⟩
    · next h t _ =>
      split
      · exact ⟨rfl, rfl⟩
      · obtain ⟨u, b, hring⟩ := ringWrite_ring n h (s.modRing n fun r => { r with held := t })
        obtain ⟨hhead, htail⟩ := ih (ringWrite n h (s.modRing n fun r => { r with held := t }))
        rw [hhead, htail, hring, State.modRing_self]
        exact ⟨rfl, rfl⟩

theorem flushHeld_none {n k : Nat} {s : State} (h : (s.ring n).held = []) : flushHeld n k s = s := by
  cases k <;> simp [flushHeld, h]

/-! ### Doorbells (R91, R93, R120) -/

theorem exec_sqTailDoorbell {n i : Nat} (hn : n < 2) (hi : i < 512) (s : State) :
    exec (.sqTailDoorbell n i) s = .next (sqDoorbell n i s) := by
  simp [exec, execSqTailDoorbell, Nat.mod_eq_of_lt hn, Nat.mod_eq_of_lt hi]

theorem exec_cqHeadDoorbell {n i : Nat} (hn : n < 2) (hi : i < 512) (s : State) :
    exec (.cqHeadDoorbell n i) s = .next (cqDoorbell n i s) := by
  simp [exec, execCqHeadDoorbell, Nat.mod_eq_of_lt hn, Nat.mod_eq_of_lt hi]

/-- Settles O9, by the branch of the doorbell that the premises select. -/
theorem doorbellsMoveRings : Obligations.DoorbellsMoveRings := by
  unfold Obligations.DoorbellsMoveRings
  refine ⟨fun n i s hn hi hserving hon hcounter hroom => ?sq, fun n i s hn hi hserving hon hcounter hpassed => ?cq,
    fun n i s hn hi hserving hoff => ?disabled, fun n i s hn hi hserving hon hfar => ?sqFar, fun n i s hn hi hserving hon hfar => ?cqFar⟩
  case sq =>
    have hlegal : ¬ (2 * 2 ^ (s.ring n).sqOrder ≤ i ∨
        2 ^ (s.ring n).sqOrder < ringDist (s.ring n).sqOrder i (s.ring n).sqHead) := by omega
    rw [exec_sqTailDoorbell hn hi, sqDoorbell]
    simp [hserving, hon, hlegal]
  case cq =>
    have hlegal : ¬ (2 * 2 ^ (s.ring n).cqOrder ≤ i ∨
        ringDist (s.ring n).cqOrder (s.ring n).cqTail (s.ring n).cqHead <
          ringDist (s.ring n).cqOrder i (s.ring n).cqHead) := by omega
    refine ⟨_, exec_cqHeadDoorbell hn hi s, ?_⟩
    simp only [cqDoorbell, hserving, hon, if_neg hlegal, Bool.not_true, Bool.false_eq_true, if_false]
    obtain ⟨hhead, htail⟩ := flushHeld_ring n (2 ^ (s.ring n).cqOrder) (s.modRing n fun r =>
      { r with cqHead := i, cq := r.cq.drop (ringDist (s.ring n).cqOrder i (s.ring n).cqHead) })
    rw [State.modRing_self] at hhead htail
    exact ⟨hhead, htail, fun hheld => flushHeld_none (by rw [State.modRing_self]; exact hheld)⟩
  case disabled =>
    rw [exec_sqTailDoorbell hn hi, exec_cqHeadDoorbell hn hi, sqDoorbell, cqDoorbell]
    simp [hserving, hoff]
  case sqFar =>
    rw [exec_sqTailDoorbell hn hi, sqDoorbell]
    simp [hserving, hon, hfar]
  case cqFar =>
    rw [exec_cqHeadDoorbell hn hi, cqDoorbell]
    simp [hserving, hon, hfar]

/-! ### The maintenance port (R116 to R118) -/

theorem canFetch_mnt_ready {s : State} (h : s.canFetch .mnt = true) : s.hsw.ready = true := by
  simp only [State.canFetch, Bool.and_eq_true] at h
  obtain ⟨⟨⟨⟨-, hready⟩, -⟩, -⟩, -⟩ := h
  exact hready

/-- Settles O12, by the transfer and the branch that its premises select. -/
theorem maintenancePort : Obligations.MaintenancePort := by
  unfold Obligations.MaintenancePort
  refine ⟨?admits, fun op p s hfetch => ?crc, fun op p b s hready => ?short, fun e l s hready hheld hwaiting => ?completion,
    fun s hready hheld => ?noCompletion, fun s hready => ?status, fun k s hready hk => ?readRegister,
    fun k v s hready hk hwindow hbound => ?writeRegister, fun v s hready => ?mask, fun v s hready => ?doorbell,
    fun i s hready hi => ?early⟩
  case admits =>
    intro op p s hvia hfetch u hopen hroom hpass
    have hpacket : { p with via := .mnt } = p := by cases p; cases hvia; rfl
    have hfetch' : u.canFetch p.via = true := hvia ▸ hfetch
    have hstep : exec (.mntWritePacket op p true true) s = .next (fetchPacket op { p with via := .mnt } false u) := by
      simp [exec, execMntWritePacket, canFetch_mnt_ready hfetch, hfetch, u]
    rw [hstep, hpacket, fetchPacket_passes hfetch' (hvia ▸ hopen) (by rw [hvia]; exact hroom) hpass]
  case crc => simp [exec, execMntWritePacket, canFetch_mnt_ready hfetch, hfetch]
  case short => simp [exec, execMntWritePacket, hready]
  case completion => simp [exec, execMntReadCompletion, hready, hheld, mntRefill, hwaiting, answerRead]
  case noCompletion => simp [exec, execMntReadCompletion, hready, hheld, answerRead]
  case status => simp [exec, execMntReadStatus, hready, answerRead]
  case readRegister => simp [exec, execMntReadRegister, hready, readRegister, hk, answerRead]
  case writeRegister =>
    have hfree : ((s.sess 1).isOpen && (s.sess 1).via == .mnt && decide (0x140 ≤ k)) = false := by
      by_cases hset : 0x140 ≤ k
      · rcases hbound hset with hclosed | hother
        · simp [hclosed]
        · simp [hother]
      · simp [hset]
    exact ⟨by simp [exec, execMntWriteRegister, hready, hk, hfree], by simp [exec, execRegisterWrite, hwindow]⟩
  case mask => simp [exec, execMntWriteRegister, hready, writeRegister]
  case doorbell => simp [exec, execMntWriteRegister, hready]
  case early =>
    rcases hi with hmem | ⟨k, rfl⟩ | ⟨k, v, rfl⟩
    · rcases List.mem_pair.mp hmem with rfl | rfl
      · simp [exec, execMntReadCompletion, hready]
      · simp [exec, execMntReadStatus, hready]
    · simp [exec, execMntReadRegister, hready]
    · simp [exec, execMntWriteRegister, hready]

/-! ### Messages among the completions (R95, R117) -/

/-- The completions that a host finds: those in each ring, those held at the maintenance port, and what waits there. -/
def State.completions (s : State) : List Entry × List Entry × List Entry × List Entry :=
  ((s.ring 0).cq.filter (fun x => !x.msg), (s.ring 1).cq.filter (fun x => !x.msg), s.hsw.mnt.held.filter (fun x => !x.msg),
    s.hsw.mnt.waiting)

@[simp] theorem raiseIrq_completions (k : Nat) (s : State) : (raiseIrq k s).completions = s.completions := by
  obtain ⟨i, p, o, h⟩ := raiseIrq_eq k s
  rw [h]; rfl

theorem modRing_completions {n : Nat} {f : RingSet → RingSet} {s : State}
    (h : ∀ r, (f r).cq.filter (fun x => !x.msg) = r.cq.filter (fun x => !x.msg)) :
    (s.modRing n f).completions = s.completions := by
  by_cases hn : n = 0 <;> simp [State.completions, State.modRing, State.ring, hn, h]

theorem ringWrite_completions {n : Nat} {h : HeldEntry} (hmsg : h.entry.msg = true) (s : State) :
    (ringWrite n h s).completions = s.completions := by
  unfold ringWrite
  dsimp only
  split
  · rw [raiseIrq_completions]
    exact modRing_completions fun r => by simp [hmsg]
  · exact modRing_completions fun r => by simp [hmsg]

theorem ringPost_completions {n : Nat} {h : HeldEntry} (hmsg : h.entry.msg = true) (s : State) :
    (ringPost n h s).completions = s.completions := by
  unfold ringPost
  dsimp only
  split
  · rfl
  · split
    · split
      · exact modRing_completions fun _ => rfl
      · exact modRing_completions fun _ => rfl
    · exact ringWrite_completions hmsg s

theorem mntPost_completions {h : HeldEntry} (hmsg : h.entry.msg = true) (s : State) :
    (mntPost h s).completions = s.completions := by
  unfold mntPost
  dsimp only
  split
  · rw [raiseIrq_completions]
    simp [State.completions, State.ring, hmsg]
  · rfl

theorem fedSend_completions (p t x : Nat) (b : List Byte) (s : State) : (fedSend p t x b s).completions = s.completions := by
  unfold fedSend fedSendAs
  split
  · split <;> rfl
  · rfl

theorem sitePost_completions (n : Nat) (h : HeldEntry) (s : State) : (sitePost n h s).completions = s.completions := by
  unfold sitePost
  dsimp only
  split
  · exact fedSend_completions ..
  · rfl

/-- A message goes among the completions and changes none. -/
theorem postOn_completions {h : HeldEntry} (hmsg : h.entry.msg = true) (via : Transport) (s : State) :
    (postOn via h s).completions = s.completions := by
  cases via with
  | ring0 => exact ringPost_completions hmsg s
  | ring1 => exact ringPost_completions hmsg s
  | mnt => exact mntPost_completions hmsg s
  | site2 => exact sitePost_completions ..
  | site3 => exact sitePost_completions ..

theorem sendUncounted_completions (op : Nat) (d : List Byte) (s : State) :
    (sendUncounted op d s).completions = s.completions := by
  unfold sendUncounted
  split
  · exact postOn_completions rfl _ s
  · rfl

theorem foldl_completions {α : Type} (f : State → α → State) (h : ∀ s a, (f s a).completions = s.completions) (l : List α)
    (s : State) : (l.foldl f s).completions = s.completions :=
  List.foldlRecOn l f (motive := fun t => t.completions = s.completions) rfl fun t ht a _ => (h t a).trans ht

@[simp] theorem countEvents_completions (k : Nat) (q : Option Nat) (n : Nat) (s : State) :
    (countEvents k q n s).completions = s.completions := by
  unfold countEvents
  split
  · rfl
  · exact (foldl_completions _ (fun _ _ => sendUncounted_completions _ _ _) _ _).trans rfl

/-- The completions of one ring set are among those that the host finds. -/
theorem cq_of_completions {s t : State} (h : t.completions = s.completions) (n : Nat) :
    (t.ring n).cq.filter (fun x => !x.msg) = (s.ring n).cq.filter (fun x => !x.msg) := by
  obtain ⟨h0, h1, -, -⟩ := (Prod.ext_iff.mp h).imp_right fun h => (Prod.ext_iff.mp h).imp_right Prod.ext_iff.mp
  by_cases hn : n = 0
  · subst hn; exact h0
  · have hring : ∀ u : State, u.ring n = u.ring 1 := fun u => by simp [State.ring, hn]
    rw [hring, hring]; exact h1

/-! ### The refusal of a packet for a closed session (R121) -/

theorem serve_closed {op : Nat} {run : HostCmd → State → CmdResult} {p : Packet} {s : State}
    (hfetch : s.canFetch p.via = true) (hclosed : s.openOn p.via = false) :
    serve op run p s = refuseClosed (mkCmd op p 0 (s.sqIndexOf p.via) s) (takeSlot p.via s) := by
  simp [serve, hfetch, hclosed]

/-- The completion of that packet, before its transport dates it. -/
def closedEntry (op : Nat) (p : Packet) (s : State) : HeldEntry :=
  cmdEntry { mkCmd op p 0 (s.sqIndexOf p.via) s with fetchSeq := 0 } erState 0xFFFF0101 false []

theorem refuseClosed_completions (op : Nat) (p : Packet) (s : State) :
    (refuseClosed (mkCmd op p 0 (s.sqIndexOf p.via) s) (takeSlot p.via s)).completions =
      (postOn p.via (closedEntry op p s) (takeSlot p.via s)).completions := by
  simp only [refuseClosed, post, countEvents_completions]
  rfl

/-- A ring set from which a packet can be fetched takes its completion at once. -/
theorem ringPost_cq {n : Nat} {h : HeldEntry} {s : State} (hon : (s.ring n).enable = true) (hroom : (s.ring n).cqFull = false)
    (hheld : (s.ring n).held = []) : ((ringPost n h s).ring n).cq = (s.ring n).cq ++ [writtenEntry n h s] := by
  obtain ⟨u, b, hring⟩ := ringWrite_ring n h s
  simp [ringPost, hon, hroom, hheld, hring]

theorem takeSlot_ring {via : Transport} {n : Nat} (hvia : viaRing? via = some n) (s : State) :
    ∃ head tail, (takeSlot via s).ring n = { s.ring n with sqHead := head, sqTail := tail } := by
  simp only [takeSlot, hvia, State.modRing_self]
  exact ⟨_, _, rfl⟩

/-- On a ring set, the completion is the next entry of the ring. -/
theorem refuseClosed_cq {op n : Nat} {p : Packet} {s : State} (hvia : viaRing? p.via = some n) (hfetch : s.canFetch p.via = true) :
    ((refuseClosed (mkCmd op p 0 (s.sqIndexOf p.via) s) (takeSlot p.via s)).ring n).cq.filter (fun x => !x.msg) =
      (s.ring n).cq.filter (fun x => !x.msg) ++ [writtenEntry n (closedEntry op p s) (takeSlot p.via s)] := by
  have hpost : postOn p.via (closedEntry op p s) (takeSlot p.via s) = ringPost n (closedEntry op p s) (takeSlot p.via s) := by
    cases hp : p.via <;> rw [hp] at hvia <;> cases hvia <;> rfl
  simp only [State.canFetch, hvia, Bool.and_eq_true, Bool.not_eq_true', List.isEmpty_iff] at hfetch
  obtain ⟨-, ⟨⟨hon, hroom⟩, hheld⟩, -⟩ := hfetch
  obtain ⟨head, tail, hring⟩ := takeSlot_ring hvia s
  rw [cq_of_completions (refuseClosed_completions op p s) n, hpost,
    ringPost_cq (by rw [hring]; exact hon) (by rw [hring]; exact hroom) (by rw [hring]; exact hheld), hring, List.filter_append]
  rfl

/-- An entry of the maintenance port, dated. -/
def heldEntry (h : HeldEntry) (s : State) : Entry :=
  { h.entry with epoch := s.hsw.epoch, mtbNs := s.mtbNs, lost := h.entry.msg && s.hsw.mnt.lost }

@[simp] theorem raiseIrq_mnt (k : Nat) (s : State) : (raiseIrq k s).hsw.mnt = s.hsw.mnt := by
  obtain ⟨i, p, o, h⟩ := raiseIrq_eq k s
  rw [h]

theorem mntPost_held {h : HeldEntry} {s : State} (hroom : s.hsw.mnt.held.length < 32) (hnone : s.hsw.mnt.waiting = []) :
    (mntPost h s).hsw.mnt = { s.hsw.mnt with
      held := s.hsw.mnt.held ++ [heldEntry h s], lost := s.hsw.mnt.lost && !h.entry.msg } := by
  simp only [mntPost, hroom, hnone, List.isEmpty_nil, and_self, if_true, raiseIrq_mnt]
  rfl

/-- Behind completions that wait, a completion waits too. -/
theorem mntPost_waits {h : HeldEntry} {s : State} (hcompletion : h.entry.msg = false) (hsome : s.hsw.mnt.waiting ≠ []) :
    (mntPost h s).hsw.mnt = { s.hsw.mnt with waiting := s.hsw.mnt.waiting ++ [h.entry] } := by
  simp [mntPost, hcompletion, hsome]

/-- On the maintenance port, the completion is held, or waits behind those that wait. -/
theorem refuseClosed_mnt {op : Nat} {p : Packet} {s : State} (hvia : p.via = .mnt) (hfetch : s.canFetch p.via = true) :
    let t := refuseClosed (mkCmd op p 0 (s.sqIndexOf p.via) s) (takeSlot p.via s)
    (s.hsw.mnt.waiting = [] → t.hsw.mnt.held.filter (fun x => !x.msg) =
      s.hsw.mnt.held.filter (fun x => !x.msg) ++ [heldEntry (closedEntry op p s) s]) ∧
    (s.hsw.mnt.waiting ≠ [] → t.hsw.mnt.waiting = s.hsw.mnt.waiting ++ [(closedEntry op p s).entry]) := by
  intro t
  have hroom : s.hsw.mnt.held.length < 32 := by
    rw [hvia] at hfetch
    simp [State.canFetch, viaRing?] at hfetch
    omega
  have hsame : t.completions = (mntPost (closedEntry op p s) s).completions := by
    rw [refuseClosed_completions, hvia]; rfl
  have hheld : t.hsw.mnt.held.filter (fun x => !x.msg) = (mntPost (closedEntry op p s) s).hsw.mnt.held.filter (fun x => !x.msg) :=
    congrArg (·.2.2.1) hsame
  have hwaiting : t.hsw.mnt.waiting = (mntPost (closedEntry op p s) s).hsw.mnt.waiting := congrArg (·.2.2.2) hsame
  refine ⟨fun hnone => ?_, fun hsome => by rw [hwaiting, mntPost_waits rfl hsome]⟩
  rw [hheld, mntPost_held hroom hnone, List.filter_append]
  rfl

/-- The refusal of a packet for a closed session changes no session and nothing off the path. -/
theorem refuseClosed_sessions (c : HostCmd) (s : State) : (refuseClosed c s).hsw.sessions = s.hsw.sessions := by
  simp [refuseClosed]

theorem refuseClosed_offPath (c : HostCmd) (s : State) : (refuseClosed c s).offPath = s.offPath := by simp [refuseClosed]

/-- Settles O4: one completion is posted, and what is sent with it are messages. -/
theorem closedSessionIsRefused : Obligations.ClosedSessionIsRefused := by
  unfold Obligations.ClosedSessionIsRefused
  intro i op p s hrow hvia hfetch hclosed
  have hstep : exec i s = .next (refuseClosed (mkCmd op p 0 (s.sqIndexOf p.via) s) (takeSlot p.via s)) := by
    rw [exec_opcodeRow hrow, serve_closed hfetch hclosed]
  have hframe : (refuseClosed (mkCmd op p 0 (s.sqIndexOf p.via) s) (takeSlot p.via s)).hsw.sessions = s.hsw.sessions ∧
      PathOnly s (refuseClosed (mkCmd op p 0 (s.sqIndexOf p.via) s) (takeSlot p.via s)) :=
    ⟨(refuseClosed_sessions _ _).trans (takeSlot_sessions _ _), (refuseClosed_offPath _ _).trans (takeSlot_offPath _ _)⟩
  have hepoch : (takeSlot p.via s).hsw.epoch = s.hsw.epoch := offPath_epoch (takeSlot_offPath _ _)
  by_cases hmnt : p.via = .mnt
  · obtain ⟨hheld, hwaits⟩ := refuseClosed_mnt (op := op) hmnt hfetch
    refine ⟨_, heldEntry (closedEntry op p s) s, hstep, rfl, rfl, rfl, rfl, rfl, rfl, fun n hn => ?_, fun _ => hheld,
      fun _ hsome => ⟨_, hwaits hsome, ?_⟩, hframe⟩
    · rw [hmnt] at hn; cases hn
    · rfl
  · obtain ⟨n, hn⟩ : ∃ n, viaRing? p.via = some n := by
      rcases hvia with h | h | h
      · exact ⟨0, by rw [h]; rfl⟩
      · exact ⟨1, by rw [h]; rfl⟩
      · exact absurd h hmnt
    refine ⟨_, writtenEntry n (closedEntry op p s) (takeSlot p.via s), hstep, rfl, rfl, rfl, rfl, hepoch, rfl, fun m hm => ?_,
      fun h => absurd h hmnt, fun h => absurd h hmnt, hframe⟩
    obtain rfl : n = m := Option.some.inj (hn.symm.trans hm)
    exact refuseClosed_cq hn hfetch

end Sys2Proof.Machine
end

section
/-! OBLIGATION.
Two statements that fail, each at a state where the record of session 0's last end takes or loses a tag (O13, O19).
-/

namespace Sys2Proof.Machine

/-- The records of ended sessions after an outcome (R111). -/
def endedRecords : Host.Outcome State Fault Refusal → List SessionRecord
  | .next t => t.ctl.records
  | _ => []

/-! ### SESSION.CLOSE lists itself (R110, R111) -/

/-- A module that serves the host, with session 0 open on ring set 0 and nothing in flight. -/
def servingModule : State :=
  { State.reset with
    hsw := { HostSwitch.factory with
      ready := true, pcieUp := true, serving := true, ring0 := { RingSet.resetValue with enable := true }
      sessions := HostSwitch.factory.sessions.set 0
        { isOpen := true, via := .ring0, edition := 3, hostId := 0, inst := 1, lastSeq := 1, openEpoch := 0, inFlight := []
          effects := [] } } }

/-- A packet of session 0 without flags, deadline or parameters. -/
def plainPacket : Packet :=
  { via := .ring0, tag := 1, session := 0, flags := 0, epoch := 0, target := 0, res13 := 0, deadline := 0
    resTail := List.replicate 16 0, params := [] }

theorem plainPacket_close_ready : Ready 0x0102 plainPacket servingModule where
  canFetch := by decide +kernel
  openOn := by decide +kernel
  room := by decide +kernel
  passes := by decide +kernel
  noFence := by decide +kernel
  noHandover := by decide +kernel
  objects := by decide +kernel
  turn := by decide +kernel

theorem plainPacket_close_alone :
    ∀ f ∈ ((started 0x0102 plainPacket servingModule).sess 0).inFlight,
      f.cmd.fetchSeq = (fetchedCmd 0x0102 plainPacket servingModule).fetchSeq := by decide +kernel

/-- The record that the close wrote is an effect of the close, so the tag of the close is put on it. -/
theorem sessionClose_lists_itself :
    (endedRecords (exec (.sessionClose plainPacket) servingModule)).map SessionRecord.list =
      [[⟨2, 1, 0x0102⟩], [], [], []] := by
  decide +kernel

theorem endSession_lists_nothing :
    let c := fetchedCmd 0x0102 plainPacket servingModule
    let b := started 0x0102 plainPacket servingModule
    (endedRecords (.next (endSession c.session 1 (answer c b (leBytes 4 (b.sess c.session).lastSeq))))).map SessionRecord.list =
      [[], [], [], []] := by
  decide +kernel

/-- Refutes O13: the record of the ended session after SESSION.CLOSE holds the tag of the SESSION.CLOSE itself, which is more than
the answer and the end of the session. -/
theorem not_sessionCommands : ¬ Obligations.SessionCommands := by
  unfold Obligations.SessionCommands
  rintro ⟨-, hclose, -⟩
  have hclaimed := hclose plainPacket servingModule plainPacket_close_ready plainPacket_close_alone
  have hlists := sessionClose_lists_itself.symm.trans
    ((congrArg (fun o => (endedRecords o).map SessionRecord.list) hclaimed).trans endSession_lists_nothing)
  exact absurd hlists (by decide)

/-! ### A commit that completes a REDUN.CHECKPOINT of an ended session (R107, R111) -/

/-- A REDUN.CHECKPOINT of session 0, fetched in its first life. -/
def endedCheckpointCmd : HostCmd :=
  { opcode := 0x0F03, session := 0, inst := 1, fetchSeq := 1, sqIndex := 0, fetchedAt := 0, packet := plainPacket }

/-- A checkpoint that is not final. -/
def checkpointInTransfer : Checkpoint :=
  { seq := 1, epoch := 0, prevSeq := 0, noFallback := false, final := false, first := true, pages := 1, image := 1
    snapMtb := 0, sealMtb := 0, snapClock := 0, asn := 0, floors := [], lists := [], run := 0
    format := 0, insts := [], pageMap := [], mapHash := [], tag := [], ctl := Control.factory }

/-- The transfer of a checkpoint that carries a REDUN.CHECKPOINT whose session has ended and lists its tag. -/
def committing : State :=
  { State.reset with
    hsw.sessions := HostSwitch.factory.sessions.modify 0 fun x => { x with inst := 1 }
    ctl.records := Control.factory.records.modify 0 fun r => { r with list := [⟨1, 1, 0x0F03⟩] }
    vol.redun := { Volatile.start.redun with transfer := some checkpointInTransfer, ckptCmdsOn := [endedCheckpointCmd] } }

theorem committing_transfer : committing.vol.redun.transfer = some checkpointInTransfer := rfl

theorem committing_idle :
    committing.vol.redun.due = false ∧ checkpointInTransfer.final = false ∧ (committing.flow 0x881).items = [] := by
  decide +kernel

/-- The command completes with the commit, and its tag leaves the record of the ended session. -/
theorem checkpointCommit_unlists :
    (endedRecords (exec .checkpointCommit committing)).map SessionRecord.list = [[], [], [], []] := by
  decide +kernel

/-- Refutes O19: the commit ends the REDUN.CHECKPOINT commands that its checkpoint carries, and one that was
started before its session's last end leaves the record of that end, so the control state is not as it was. -/
theorem not_redundancyEvents : ¬ Obligations.RedundancyEvents := by
  unfold Obligations.RedundancyEvents
  rintro ⟨-, hcommit, -⟩
  obtain ⟨hdue, hfinal, hflow⟩ := committing_idle
  obtain ⟨t, hstep, -, -, -, -, -, hctl⟩ := hcommit checkpointInTransfer committing committing_transfer hdue hfinal hflow
  have hlists := checkpointCommit_unlists
  rw [hstep, endedRecords, hctl] at hlists
  exact absurd hlists (by decide)

end Sys2Proof.Machine
end

section
/-! OBLIGATION.
The frame of the opcodes that only read (O7).
-/

namespace Sys2Proof.Machine

/-! ### A command that only reads (R102, R106) -/

/-- The result is a refusal, or an answer from a state that differs from the one before only on the path. -/
def CmdResult.ReadsOnly (b : State) : CmdResult → Prop
  | .refuse _ _ => True
  | .ok t _ => t.offPath = b.offPath ∧ t.hsw.sessions = b.hsw.sessions
  | _ => False

theorem CmdResult.ReadsOnly.same (b : State) (r : List Byte) : (CmdResult.ok b r).ReadsOnly b := ⟨rfl, rfl⟩

theorem CmdResult.ReadsOnly.conclude_offPath {c : HostCmd} {b : State} {r : CmdResult} (h : r.ReadsOnly b) (hlive : Live c b) :
    (conclude c b r).offPath = b.offPath := by
  cases r with
  | refuse st d => exact finish_offPath hlive st d []
  | ok t reply => exact (finish_offPath (hlive.of_sessions h.2) 0 0 reply).trans h.1
  | accepted => exact h.elim
  | deferred => exact h.elim
  | requested => exact h.elim

theorem refuseInHandover_offPath {c : HostCmd} {s : State} (h : Live c s) : (refuseInHandover c s).offPath = s.offPath :=
  (finish_offPath (h.of_sessions (t := s.draw.2) rfl) _ _ _).trans rfl

/-- A command that only reads starts and changes nothing off the path. -/
theorem startCmd_offPath {run : HostCmd → State → CmdResult} {c : HostCmd} {s : State} (h : Live c s)
    (hrun : ∀ b, (run c b).ReadsOnly b) : (startCmd run c s).offPath = s.offPath := by
  have hserved : Live c (serveItem c s) := h.of_sessions (by simp)
  unfold startCmd
  dsimp only
  split
  · rw [finish_offPath hserved, serveItem_offPath]
  · split
    · rw [refuseInHandover_offPath hserved, serveItem_offPath]
    · rw [(hrun _).conclude_offPath hserved.markStarted]; simp [markStarted]

/-- Serving a packet of an opcode that only reads changes nothing off the path. -/
theorem serve_pathOnly {op : Nat} {run : HostCmd → State → CmdResult} {p : Packet} {s : State}
    (hroom : (s.sess (viaSession p.via)).lastSeq + 1 < 0xFFFFFFFF)
    (hrun : ∀ c b, c.opcode = op → (run c b).ReadsOnly b) : PathOnly s (serve op run p s) := by
  rcases hfetch : s.canFetch p.via with _ | _
  · rw [serve_unfetched hfetch]; rfl
  rcases hopen : s.openOn p.via with _ | _
  · rw [serve_closed hfetch hopen]; exact (refuseClosed_offPath _ _).trans (takeSlot_offPath _ _)
  rcases hcheck : checkPacket op p s with _ | ⟨st, d⟩
  · have hqueued : (queueCommand (fetchedCmd op p s) (fetched op p s)).offPath = s.offPath := by simp
    have hlive : Live (fetchedCmd op p s) (queueCommand (fetchedCmd op p s) (fetched op p s)) :=
      (fetched_live hopen).of_sessions (by simp)
    simp only [PathOnly, serve, hfetch, hopen, Nat.not_le.mpr hroom, admitPacket_passes hopen hcheck, Bool.not_true,
      Bool.false_eq_true, if_false]
    split
    · exact (startCmd_offPath hlive fun b => hrun _ b rfl).trans hqueued
    · exact hqueued
  · rw [serve_fails hfetch hopen hroom hcheck]; exact post_counted_pathOnly _ _ _

/-! ### The opcodes that only read -/

/-- What the table runs for the opcode only reads. -/
def ReadsOpcode (op : Nat) : Prop :=
  ∃ run, opcodeRuns.find? (fun e => e.1 == op) = some (op, run) ∧ ∀ c b, (run c b).ReadsOnly b

/-- An opcode that answers from the state as it is only reads. -/
theorem ReadsOpcode.of_answer {op : Nat} {run : HostCmd → State → CmdResult}
    (hrow : opcodeRuns.find? (fun e => e.1 == op) = some (op, run)) (h : ∀ c b, ∃ r, run c b = .ok b r) : ReadsOpcode op :=
  ⟨run, hrow, fun c b => by obtain ⟨r, hr⟩ := h c b; rw [hr]; exact .same b r⟩

theorem biasNow_path (s : State) :
    (biasNow s).2.2.offPath = s.offPath ∧ (biasNow s).2.2.hsw.sessions = s.hsw.sessions := by
  unfold biasNow
  dsimp only
  split <;> exact ⟨rfl, rfl⟩

theorem gnssChannelRead_readsOnly (c : HostCmd) (b : State) : (runGnssChannelRead c b).ReadsOnly b := by
  unfold runGnssChannelRead
  dsimp only
  split <;> exact .same _ _

theorem macMemberRead_readsOnly (c : HostCmd) (b : State) : (runMacMemberRead c b).ReadsOnly b := by
  unfold runMacMemberRead
  dsimp only
  split <;> exact .same _ _

theorem dykeRead_readsOnly (c : HostCmd) (b : State) : (runDykeRead c b).ReadsOnly b := by
  unfold runDykeRead
  dsimp only
  split
  · exact .same _ _
  · split <;> exact .same _ _

theorem profileRead_readsOnly (c : HostCmd) (b : State) : (runProfileRead c b).ReadsOnly b := by
  unfold runProfileRead
  dsimp only
  split
  · exact .same _ _
  · trivial

theorem schedStatus_readsOnly (c : HostCmd) (b : State) : (runSchedStatus c b).ReadsOnly b := by
  unfold runSchedStatus
  dsimp only
  split <;> exact ⟨rfl, rfl⟩

theorem schedFlowRead_readsOnly (c : HostCmd) (b : State) : (runSchedFlowRead c b).ReadsOnly b := by
  unfold runSchedFlowRead
  dsimp only
  split
  · trivial
  · split <;> exact ⟨rfl, rfl⟩

theorem queueRead_readsOnly (c : HostCmd) (b : State) : (runQueueRead c b).ReadsOnly b := by
  unfold runQueueRead
  dsimp only
  split
  · trivial
  · split <;> exact ⟨rfl, rfl⟩

theorem redunSideRead_readsOnly (c : HostCmd) (b : State) : (runRedunSideRead c b).ReadsOnly b := by
  unfold runRedunSideRead
  dsimp only
  split <;> exact ⟨rfl, rfl⟩

theorem recordRead_readsOnly (c : HostCmd) (b : State) : (runRecordRead c b).ReadsOnly b := by
  unfold runRecordRead
  dsimp only
  split
  · trivial
  · exact .same _ _

theorem readOpcodes_read : ∀ op ∈ readOpcodes, ReadsOpcode op := by
  simp only [readOpcodes, List.forall_mem_cons, List.not_mem_nil, false_imp_iff, implies_true, and_true]
  exact ⟨.of_answer rfl fun _ _ => ⟨_, rfl⟩, ⟨_, rfl, gnssChannelRead_readsOnly⟩, ⟨_, rfl, fun _ b => biasNow_path b⟩,
    .of_answer rfl fun _ _ => ⟨_, rfl⟩, .of_answer rfl fun _ _ => ⟨_, rfl⟩, .of_answer rfl fun _ _ => ⟨_, rfl⟩,
    .of_answer rfl fun _ _ => ⟨_, rfl⟩, .of_answer rfl fun _ _ => ⟨_, rfl⟩, ⟨_, rfl, macMemberRead_readsOnly⟩,
    .of_answer rfl fun _ _ => ⟨_, rfl⟩, .of_answer rfl fun _ _ => ⟨_, rfl⟩, ⟨_, rfl, dykeRead_readsOnly⟩,
    .of_answer rfl fun _ _ => ⟨_, rfl⟩, ⟨_, rfl, profileRead_readsOnly⟩, ⟨_, rfl, schedStatus_readsOnly⟩,
    ⟨_, rfl, schedFlowRead_readsOnly⟩, .of_answer rfl fun _ _ => ⟨_, rfl⟩, .of_answer rfl fun _ _ => ⟨_, rfl⟩,
    ⟨_, rfl, queueRead_readsOnly⟩, .of_answer rfl fun _ _ => ⟨_, rfl⟩, .of_answer rfl fun _ _ => ⟨_, rfl⟩,
    ⟨_, rfl, fun _ _ => ⟨rfl, rfl⟩⟩, ⟨_, rfl, redunSideRead_readsOnly⟩, .of_answer rfl fun _ _ => ⟨_, rfl⟩,
    .of_answer rfl fun _ _ => ⟨_, rfl⟩, .of_answer rfl fun _ _ => ⟨_, rfl⟩, ⟨_, rfl, recordRead_readsOnly⟩,
    .of_answer rfl fun _ _ => ⟨_, rfl⟩, .of_answer rfl fun _ _ => ⟨_, rfl⟩, ⟨_, rfl, fun _ b => biasNow_path b.draw.2⟩⟩

/-- Settles O7: a command that only reads leaves off the path what it found there, and so does the packet's way to it. -/
theorem readOpcodesChangeNothing : Obligations.ReadOpcodesChangeNothing := by
  unfold Obligations.ReadOpcodesChangeNothing
  intro i op p s hrow hread hroom
  obtain ⟨run, hfind, hreads⟩ := readOpcodes_read op hread
  exact ⟨_, exec_opcodeRow hrow s,
    serve_pathOnly hroom fun c b hc => by rw [runOpcode_eq hfind c b hc]; exact hreads c b⟩

end Sys2Proof.Machine
end

section
/-! OBLIGATION.
Every command has its effect, in every state (O8).
-/

namespace Sys2Proof.Machine

/-! ### Every branch of exec answers a next state -/

/-- The outcome is a next state. -/
def Runs : Host.Outcome State Fault Refusal → Prop
  | .next _ => True
  | _ => False

theorem runs_next (t : State) : Runs (.next t) := trivial

theorem runs_ite {c : Prop} [Decidable c] {a b : Host.Outcome State Fault Refusal} :
    Runs (if c then a else b) ↔ (c → Runs a) ∧ (¬c → Runs b) := by split <;> simp [*]

theorem fedTake_runs (h : FedHead) (row : Work) (act : State → State) (s : State) : Runs (fedTake h row act s) := by
  unfold fedTake
  split <;> exact runs_next _

theorem fedAtOnce_runs (h : FedHead) (act : State → State) (s : State) : Runs (fedAtOnce h act s) := by
  unfold fedAtOnce
  split <;> exact runs_next _

/-- An event (or SESSION.OPEN), whose row is written out, ends every branch in a next state. -/
theorem event_runs {i : Instr} (h : opcodeOf i = none) (s : State) : Runs (exec i s) := by
  cases i <;> cases h
  all_goals simp only [exec, runs_next, runs_ite, fedTake_runs, fedAtOnce_runs, implies_true, and_self,
    execSessionOpen, execModulePowerOn, execBrownOutWarning, execModulePowerDown, execOvervoltageLockout, execVbatLoss,
    execVbatRestored,
    execModResetNAsserted, execModResetNRelease, execPciePerst, execPcieLinkLoss, execHostSwitchReady,
    execHwAliveIncrement, execBootRomDone, execImageVerifyDone, execStateLoadDone, execRadioHeadBringupDone,
    execGnssStartEnd, execGnssStartDeadline, execHeartbeatStart, execStartStageOverrun, execSupervisorWatchdogExpiry,
    execLockstepMismatch, execUncorrectableMemoryError, execRailOutOfWindow, execJunctionTempThreshold, execBistPeriod,
    execCheckpointSnapshot, execCheckpointCommit, execSqTailDoorbell, execCqHeadDoorbell, execIrqCauseClear,
    execRingErrRead, execRingCtrlWrite, execRegisterWrite, execPacketFetch, execCommandStart, execModerationTimerExpiry,
    execMntWritePacket, execMntReadCompletion, execMntReadStatus, execMntReadRegister, execMntWriteRegister,
    execPowerModeTakesEffect, execResetSideDone, execChannelIntegration, execAcquisitionDwellDone, execGnssEpoch,
    execMonitorUpdate, execInterferenceFlagSet, execInterferenceFlagClear, execAdaptiveNotchMove, execMpmapSecond,
    execMpmapDurationEnd, execFenBurstStart, execFenBurstEnd, execHotStartWrite, execBudgetAccountingWrite,
    execAntennaBiasLimit, execBiasRetry, execSurveyMaxTime, execWatchdogHoldoffExpiry, execNeighbourBufferTimeout,
    execUplinkItem, execEpochPartWaitExpiry, execMissingEpoch, execCrossMemberTest, execSolverExclusionExpiry,
    execSolverAlarmClearExpiry, execFilterRetentionExpiry, execStbDisciplineLoss, execStbQualified, execSlewComplete,
    execTimeStepAtB, execHoldoverBoundCrossing, execSyncRefInLost, execPpsInfoSend, execPpsPulse,
    execAtbStepAtHyperframe, execUtcParametersDecoded, execLeapTableChange, execPpsInEdge, execPtpEventMessageRx,
    execPtpEventMessageTx, execPtpTransparentPass, execLinkDataPhaseLost, execLinkRetrain, execHeadAlarmOrLockLoss,
    execHeadRestart, execHeadLockCheckTimeout, execFrameTransmit, execBudgetBinBoundary, execLbtMeasurement,
    execRadarDetected, execDfsStopWindowEnd, execCacComplete, execNonOccupancyEnd, execNoiseFloorAverage,
    execSlotBoundary, execFrameReceived, execJoinReqReceived, execJoinAuthReceived, execJoinAuthMissing,
    execDataFrameReceived, execSupervisionTimeout, execConnectionInstant, execSiteKeySwitch, execOldSiteKeyDiscard,
    execSeenCacheAgeOut, execSluiceSlot, execSubghzStopSpan, execSluInOpen, execSluInClosed, execSluInFault,
    execLoopDiscrepancyTimeout, execMemberMsgItem, execConfirmTimeout, execStopStatusReport, execTickBoundary,
    execResumeRetry, execGraphSwapApply, execAllotterRun, execAllotterPeriodic, execOfferTimeout, execDeclineBarExpiry,
    execTaskDeadlineExpiry, execTaskDone, execBorderCommitTimeout, execProfileFrameDue, execCoreDispatch,
    execWorkItemDone, execAffinityWindowExpiry, execControlStarvation, execDelayListTick, execPacketCommit,
    execHeadReadStallExpiry, execPoolScrub, execMbxReadWaitEnd, execCapturePrefillComplete, execCaptureTriggerFired,
    execCaptureRecordComplete, execCaptureRecordDrain, execCaptureRoomAvailable, execSyncTrgEdge, execSyncCalPulse,
    execHelloReceived, execHelloRspReceived, execHelloFinReceived, execFedStatusReceived, execFedRtcmReceived,
    execReserveReceived, execReserveRspReceived, execCommitReceived, execCommitAckReceived, execReleaseReceived,
    execReleaseAckReceived, execHandoverOfferReceived, execHandoverAcceptReceived, execHandoverInstant,
    execHandoverDoneReceived, execDoneAckReceived, execHandoverAcceptTimeout, execHandoverOutcomeTimeout,
    execSiteStopReceived, execSiteStopAckReceived, execSiteReleaseReceived, execSiteReleaseAckReceived,
    execFedUcpReceived, execFedStatusSend, execPeerLivenessTimeout, execFedRetransmit, execHandshakeRetry,
    execTentativeWindowExpiry, execResponseCacheExpiry, execCoordinatorDisagreementTimer, execDigestMismatchTimer,
    execHoldWaitExpiry, execTamperDetected, execTamperReport, execKeyFault, execDebugChallengeExpiry,
    execUpdateApplyComplete, execUpdateLockExpiry, execConfirmationWindowExpiry, execHostSwitchRestart,
    execOpSecondsTick, execCounterBlockSave, execFoldJournalWrite, execRepeatWindowEnd, execAppendsDroppedReport,
    execCounterOverflow, execVinSupplyEvent, execSyncRefInRestored, execLinkRestored, execPtpAnnounceReceived,
    execPtpAnnounceReceiptTimeout, execSyncCalTimeout, execPlannedHandoverRelinquish, execGnssFailTimeout]
  all_goals (repeat' split) <;> simp [runs_next]

/-- Whatever arrives, the module answers a next state, and the queue of commands is as it was. -/
theorem exec_next (i : Instr) (s : State) : ∃ t, exec i s = .next t ∧ t.pending = s.pending := by
  have hruns : Runs (exec i s) := by
    rcases hrow : opcodeOf i with _ | ⟨op, p⟩
    · exact event_runs hrow s
    · rw [exec_opcodeRow hrow]; exact runs_next _
  have hgrows := exec_grows i s
  rcases hexec : exec i s with t | r | r
  · rw [hexec] at hgrows; exact ⟨t, rfl, hgrows.pending⟩
  · rw [hexec] at hruns; exact hruns.elim
  · rw [hexec] at hruns; exact hruns.elim

theorem step_next (s : State) : ∃ t, step s = .next t := by
  unfold step
  split
  · exact ⟨_, rfl⟩
  · obtain ⟨t, hexec, -⟩ := exec_next _ _
    exact ⟨t, hexec⟩

theorem runsFor (k : Nat) (s : State) : RunsFor k s := by
  induction k generalizing s with
  | zero => trivial
  | succ k ih => obtain ⟨t, hstep⟩ := step_next s; exact ⟨t, hstep, ih t⟩

/-- Settles O8: no branch of exec ends elsewhere, and the ledger of the queue is kept along every branch. -/
theorem everyCommandRuns : Obligations.EveryCommandRuns := by
  unfold Obligations.EveryCommandRuns
  exact ⟨exec_next, runsFor⟩

end Sys2Proof.Machine
end

section
/-! SUPPORT.
What the head sequences and the starts of a link leave of the module (R225, R228).
-/

namespace Sys2Proof.Machine

/-- The control state and the host switch, which no head sequence reaches. -/
def State.beyondHeads (s : State) : Control × HostSwitch := (s.ctl, s.hsw)

@[simp] theorem modLink_beyondHeads (k : Nat) (f : LinkRun → LinkRun) (s : State) :
    (s.modLink k f).beyondHeads = s.beyondHeads := rfl

@[simp] theorem setResetN_beyondHeads (x : SideId) (head : Nat) (level : Bool) (s : State) :
    (setResetN x head level s).beyondHeads = s.beyondHeads := by
  unfold setResetN
  dsimp only
  split <;> rfl

theorem runSteps_beyondHeads (x : SideId) (head lane mask : Nat) (ps : List HeadStep) (s : State) :
    (runSteps x head lane mask ps s).2.beyondHeads = s.beyondHeads := by
  induction ps generalizing mask s with
  | nil => rfl
  | cons p t ih =>
    unfold runSteps
    split
    · rfl
    · exact ih _ _
    · have hpoll : (spiPoll x head mask p s).2.beyondHeads = s.beyondHeads := rfl
      split <;> rename_i u hsplit <;> rw [hsplit] at hpoll
      · exact (ih _ _).trans hpoll
      · exact hpoll
    · exact ih _ _
    · exact (ih _ _).trans (setResetN_beyondHeads ..)
    · exact ih _ _
    · exact ih _ _

theorem initHead_beyondHeads (x : SideId) (head : Nat) (s : State) : (initHead x head s).2.beyondHeads = s.beyondHeads := by
  unfold initHead runSeq
  rw [runSteps_beyondHeads, setResetN_beyondHeads]
  exact setResetN_beyondHeads ..

@[simp] theorem startLink_beyondHeads (k : Nat) (s : State) : (startLink k s).2.beyondHeads = s.beyondHeads := by
  have hinit := initHead_beyondHeads s.actId k (s.modLink k fun l => { l with state := .starting, lock := false })
  rw [modLink_beyondHeads] at hinit
  unfold startLink
  split <;> rename_i u hsplit
  · rw [← hinit, hsplit]
  · rw [← hinit, hsplit]; rfl

theorem ctl_of_beyondHeads {s t : State} (h : t.beyondHeads = s.beyondHeads) : t.ctl = s.ctl := congrArg Prod.fst h

theorem Live.of_beyondHeads {c : HostCmd} {s t : State} (h : Live c s) (hsame : t.beyondHeads = s.beyondHeads) : Live c t :=
  h.of_sessions (congrArg (·.2.sessions) hsame)

@[simp] theorem radioEvent_ctl (src kind chan lo : Nat) (s : State) : (radioEvent src kind chan lo s).ctl = s.ctl :=
  offPath_ctl (by simp [radioEvent])

theorem restartFailed_ctl (k : Nat) (s : State) : (restartFailed k s).ctl = s.ctl := by
  unfold restartFailed
  dsimp only
  split
  · unfold stopLink
    rw [radioEvent_ctl, ctl_of_beyondHeads (setResetN_beyondHeads ..)]
    rfl
  · rfl

theorem restartLink_ctl (k : Nat) (s : State) : (restartLink k s).ctl = s.ctl := by
  have hstart := ctl_of_beyondHeads (startLink_beyondHeads k s)
  unfold restartLink
  split <;> rename_i u hsplit <;> rw [hsplit] at hstart
  · exact (restartFailed_ctl k u).trans hstart
  · exact hstart

/-- A refused start leaves the control state. -/
theorem refusedStart_ctl {c : HostCmd} {s : State} (h : Live c s) (k r : Nat) : (refusedStart c k r s).ctl = s.ctl := by
  have hfinish : (finish c erTimeout r [] (s.modLink k fun l => { l with cmd := none })).ctl = s.ctl :=
    (h.of_beyondHeads (modLink_beyondHeads ..)).finish_ctl _ _ _
  unfold refusedStart
  dsimp only
  split
  · rw [restartLink_ctl]; exact hfinish
  · rw [ctl_of_beyondHeads (setResetN_beyondHeads ..)]; exact hfinish

/-- Disabling a link that is disabled changes no setting. -/
theorem setLink_disabled {k : Nat} {s : State} (h : (s.link k).enable = false) :
    (setLink k { s.link k with enable := false } s).ctl = s.ctl := by
  have hsame : ({ s.link k with enable := false } : LinkSettings) = s.link k := by rw [← h]
  have hlinks : s.cfg.radio.links.set k (s.link k) = s.cfg.radio.links := by
    rcases Nat.lt_or_ge k s.cfg.radio.links.length with hlt | hge
    · rw [State.link, List.getD_eq_getElem _ _ hlt, List.set_getElem_self]
    · exact List.set_eq_of_length_le hge
  rw [hsame, setLink, hlinks]

/-! ### The RADIO opcodes that answer at once -/

/-- A RADIO.LINK_CONFIG that disables a disabled link. -/
theorem linkConfig_disabled {c : HostCmd} {b : State} (hlive : Live c b)
    (hidle : (b.linkRun (fld c.packet.params 0 1)).cmd = none) (hfits : linkError c.packet.params b = none)
    (hdisable : (linkOf c.packet.params).enable = false) (hdisabled : (b.link (fld c.packet.params 0 1)).enable = false) :
    let k := fld c.packet.params 0 1
    let t := setResetN b.actId k false ((setLink k { b.link k with enable := false } b).modLink k fun l =>
      { l with state := .down, restarts := 0 })
    conclude c b (runRadioLinkConfig c b) = answer c t (leBytes 4 (t.linkRun k).latency) := by
  intro k t
  have hctl : t.ctl = b.ctl := (ctl_of_beyondHeads (setResetN_beyondHeads ..)).trans (setLink_disabled hdisabled)
  have hlive' : Live c t := by
    have hreset : t.beyondHeads = (setLink k { b.link k with enable := false } b).beyondHeads := setResetN_beyondHeads ..
    exact (hlive.of_sessions (t := setLink k { b.link k with enable := false } b) rfl).of_beyondHeads hreset
  have hrun : runRadioLinkConfig c b = .deferred (finish c 0 0 (leBytes 4 (t.linkRun k).latency) t) := by
    simp only [runRadioLinkConfig, linkCommand, hidle, hfits, hdisable, hdisabled, Option.isSome_none, Bool.false_eq_true,
      if_false]
    rfl
  rw [hrun]
  exact conclude_deferred_of_ctl ((hlive'.finish_ctl ..).trans hctl)

/-- What a RADIO.LINK_CONFIG leaves after the start of its link: a start that runs, or a refusal with the reason. -/
def afterStart (c : HostCmd) (k : Nat) (r : Option Nat × State) : State :=
  match r.1 with
  | some reason => refusedStart c k reason r.2
  | none => r.2

theorem afterStart_ctl {c : HostCmd} {r : Option Nat × State} (h : Live c r.2) (k : Nat) : (afterStart c k r).ctl = r.2.ctl := by
  obtain ⟨_ | reason, s⟩ := r
  · rfl
  · exact refusedStart_ctl h k reason

/-- A RADIO.LINK_CONFIG that starts its link. -/
theorem linkConfig_starts {c : HostCmd} {b : State} (hlive : Live c b)
    (hidle : (b.linkRun (fld c.packet.params 0 1)).cmd = none) (hfits : linkError c.packet.params b = none)
    (henable : (linkOf c.packet.params).enable = true) :
    let k := fld c.packet.params 0 1
    conclude c b (runRadioLinkConfig c b) = afterStart c k (startLink k (b.modLink k fun l => { l with cmd := some c })) := by
  intro k
  have hrun : runRadioLinkConfig c b =
      .deferred (afterStart c k (startLink k (b.modLink k fun l => { l with cmd := some c }))) := by
    simp only [runRadioLinkConfig, linkCommand, hidle, hfits, henable, Option.isSome_none, Bool.false_eq_true, if_false, if_true]
    rcases startLink (fld c.packet.params 0 1) _ with ⟨_ | r, u⟩ <;> rfl
  have hstart : (startLink k (b.modLink k fun l => { l with cmd := some c })).2.beyondHeads = b.beyondHeads :=
    startLink_beyondHeads ..
  rw [hrun]
  exact conclude_deferred_of_ctl ((afterStart_ctl (hlive.of_beyondHeads hstart) k).trans (ctl_of_beyondHeads hstart))

/-- Settles O30: each row by the branch of its opcode that its premise selects. -/
theorem radioOpcodes : Obligations.RadioOpcodes := by
  unfold Obligations.RadioOpcodes
  refine ⟨?waits, ?disabled, ?starts, fun r => ?refused, ?headProfile, ?laneOff, ?laneOn, ?region, ?offsets, ?loopback,
    ?budget, ?status⟩
  case waits =>
    refine .of_run runRadioLinkConfig (fun _ _ => rfl) fun c b hbusy => ?_
    rw [runRadioLinkConfig, if_pos hbusy]
    exact conclude_deferred_of_ctl rfl
  case disabled =>
    refine .of_live runRadioLinkConfig (fun _ _ => rfl) fun c b hlive ⟨hidle, hfits, hdisable, hdisabled⟩ => ?_
    exact linkConfig_disabled hlive hidle hfits hdisable hdisabled
  case starts =>
    refine .of_live runRadioLinkConfig (fun _ _ => rfl) fun c b hlive ⟨hidle, hfits, henable, hnone⟩ => ?_
    rw [linkConfig_starts hlive hidle hfits henable, afterStart, hnone]
  case refused =>
    refine .of_live runRadioLinkConfig (fun _ _ => rfl) fun c b hlive ⟨hidle, hfits, henable, hsome⟩ => ?_
    rw [linkConfig_starts hlive hidle hfits henable, afterStart, hsome]
  case headProfile =>
    refine .of_run runRadioHeadProfile (fun _ _ => rfl) fun c b ⟨hdisabled, hgood⟩ => ?_
    have hnone : (List.range (fld c.packet.params 2 2)).find? (fun k =>
        badStep (stepOf c.packet.params k) (k + 1 == fld c.packet.params 2 2)) = none :=
      List.find?_eq_none.mpr fun k hk => by simp [hgood k (List.mem_range.mp hk)]
    simp only [runRadioHeadProfile, hdisabled, hnone, Bool.false_eq_true, if_false, conclude_accepted]
  case laneOff =>
    refine .of_run runRadioLaneConfig (fun _ _ => rfl) fun c b ⟨hofdm, hpreamble, hcarried, hoff, hon⟩ => ?_
    simp [runRadioLaneConfig, hofdm, hpreamble, hcarried, hoff, hon]
  case laneOn =>
    refine .of_run runRadioLaneConfig (fun _ _ => rfl) fun c b ⟨hofdm, hpreamble, hcarried, hon, hoff, hfits, htunes⟩ => ?_
    rcases htuned : tuneHead (fld c.packet.params 0 1) (setLane (fld c.packet.params 0 1)
      { b.lane (fld c.packet.params 0 1) with tune := (laneOf c.packet.params).tune } b) with ⟨ok, u⟩
    rw [htuned] at htunes
    obtain rfl : ok = true := htunes
    unfold runRadioLaneConfig
    dsimp only
    rw [if_neg (by simp [hofdm, hpreamble]), if_neg (by simp [hcarried]), if_neg (by simp [hon]), hfits]
    dsimp only
    rw [if_neg (by simp [hoff]), htuned, conclude_accepted]
  case region =>
    refine .of_run runRadioRegionLoad (fun _ _ => rfl) fun c b ⟨hone, hspan, hkind, hunused⟩ => ?_
    have hnone : (List.range 8).find? (fun l => b.laneOn l && (b.lane l).region == 3) = none :=
      List.find?_eq_none.mpr fun l hl => by
        simpa using hunused l (List.mem_range.mp hl)
    simp [runRadioRegionLoad, hone, List.range_one, Nat.not_le.mpr hspan, hnone, hkind]
  case offsets =>
    refine .of_run runRadioTxCal (fun _ _ => rfl) fun c b hdirect => ?_
    simp only [runRadioTxCal, hdirect, if_true, conclude_accepted]
    rfl
  case loopback =>
    refine .of_run runRadioTxCal (fun _ _ => rfl) fun c b ⟨hmeasured, hside, hon, hoff, hempty, hsent⟩ => ?_
    rcases hloop : loopback (fld c.packet.params 0 1) b with ⟨ok, u⟩
    rw [hloop] at hsent
    obtain rfl : ok = true := hsent
    simp only [runRadioTxCal, hmeasured, hside, hon, hoff, hempty, hloop, List.length_nil, ne_eq, not_true_eq_false, Bool.or_self,
      Bool.false_eq_true, if_false, conclude_accepted]
    rfl
  case budget => exact .of_run runRadioBudget (fun _ _ => rfl) fun _ _ _ => rfl
  case status => exact .of_run runRadioLaneStatus (fun _ _ => rfl) fun _ _ _ => rfl

end Sys2Proof.Machine
end

section
/-! SUPPORT.
The GNSS opcodes (O21): what a read of the antenna bias leaves, when no other channel is pinned to a signal, and the branch of
each opcode that its premises select.
-/

namespace Sys2Proof.Machine

/-- Reading the antenna bias only draws its measurement. -/
theorem biasNow_state (s : State) : (biasNow s).2.2 = s.draw.2 := by
  simp only [biasNow]
  split <;> rfl

/-- A search for another pinned channel on a signal finds none when every pinned channel is this one or on another signal (R125). -/
theorem find?_otherPinned_eq_none {pinned : List (Nat × ChanSettings)} {k : Nat} {c : ChanSettings}
    (h : ∀ e ∈ pinned, e.1 = k ∨ e.2.sig ≠ c.sig ∨ e.2.sv ≠ c.sv) :
    (pinned.find? fun e => e.1 != k && e.2.sig == c.sig && e.2.sv == c.sv) = none :=
  List.find?_eq_none.mpr fun e he hfound => by
    simp only [Bool.and_eq_true, bne_iff_ne, beq_iff_eq] at hfound
    obtain ⟨⟨hother, hsig⟩, hsv⟩ := hfound
    rcases h e he with hk | hsig' | hsv'
    · exact hother hk
    · exact hsig' hsig
    · exact hsv' hsv

/-- A mapping run of channels that all hold a signal finds no idle one (R142). -/
theorem find?_idleChan_eq_none {s : State} {n : Nat} {chanAt : Nat → Nat}
    (h : ∀ k, k < n → (s.chan (chanAt k)).isSome = true) :
    (((List.range n).map chanAt).find? fun k => (s.chan k).isNone) = none :=
  List.find?_eq_none.mpr fun k hk => by
    obtain ⟨i, hi, rfl⟩ := List.mem_map.mp hk
    simp [Option.isSome_iff_ne_none.mp (h i (List.mem_range.mp hi))]

/-- A GNSS.MONITOR that reads, or that sets the thresholds of front ends, none of them flagged when it captures the AGC baseline. -/
theorem runGnssMonitor_free {c : HostCmd} {b : State}
    (hunused : fld c.packet.params 1 1 = 0 →
      firstNonZeroField c.packet.params [(2, 2), (4, 1), (6, 2), (8, 2), (10, 2), (12, 2)] = none)
    (hquiet : fld c.packet.params 1 1 = 2 →
      ∀ k ∈ (if fld c.packet.params 0 1 = 0xFF then [0, 1, 2, 3] else [fld c.packet.params 0 1]), (b.monitor k).flag = false) :
    let fes := if fld c.packet.params 0 1 = 0xFF then [0, 1, 2, 3] else [fld c.packet.params 0 1]
    let t := if fld c.packet.params 1 1 = 0 then b else fes.foldl (setMonitor c.packet.params) b
    runGnssMonitor c b = .accepted t (fes.flatMap t.monitorBytes) := by
  intro fes t
  have hfields : (if fld c.packet.params 1 1 = 0 then
      firstNonZeroField c.packet.params [(2, 2), (4, 1), (6, 2), (8, 2), (10, 2), (12, 2)] else none) = none :=
    ite_eq_right_iff.mpr hunused
  have hflags : (if fld c.packet.params 1 1 = 2 then fes.find? fun k => (b.monitor k).flag else none) = none :=
    ite_eq_right_iff.mpr fun hop => List.find?_eq_none.mpr fun k hk => by simp [hquiet hop k hk]
  simp only [runGnssMonitor, hfields]
  rw [hflags]

/-- Settles O21: each opcode by the branch that its premise selects. -/
theorem gnssOpcodes : Obligations.GnssOpcodes := by
  unfold Obligations.GnssOpcodes
  refine ⟨?config, fun e => ?masked, ?unpin, ?pin, ?readIdle, fun x => ?readHeld, ?notch, ?monitor, ?mapStart, ?mapStop, ?status⟩
  case config =>
    refine .of_run runGnssConfig (fun _ _ => rfl) fun c b ⟨hmask, hrate⟩ => ?_
    simp only [runGnssConfig, hmask, if_neg (Nat.not_lt.mpr hrate), conclude_accepted]
    rfl
  case masked =>
    refine .of_run runGnssConfig (fun _ _ => rfl) fun c b ⟨hmask, hrate⟩ => ?_
    simp only [runGnssConfig, hmask, if_neg (Nat.not_lt.mpr hrate), conclude_refuse]
  case unpin =>
    refine .of_run runGnssChannelSet (fun _ _ => rfl) fun c b ⟨haction, hzero, hfree⟩ => ?_
    simp only [runGnssChannelSet, haction, hzero, hfree, Bool.false_eq_true, if_true, if_false, conclude_accepted]
    rfl
  case pin =>
    refine .of_run runGnssChannelSet (fun _ _ => rfl) fun c b ⟨haction, hrange, hfree, hothers, hunmasked⟩ => ?_
    simp only [runGnssChannelSet, if_neg haction, hrange, hfree, find?_otherPinned_eq_none hothers, hunmasked, Bool.not_true,
      Bool.false_eq_true, if_false, conclude_accepted]
  case readIdle =>
    refine .of_run runGnssChannelRead (fun _ _ => rfl) fun c b hidle => ?_
    simp only [runGnssChannelRead, hidle, conclude_ok]
  case readHeld =>
    refine .of_run runGnssChannelRead (fun _ _ => rfl) fun c b hheld => ?_
    simp only [runGnssChannelRead, hheld, conclude_ok]
  case notch =>
    refine .of_run runGnssNotch (fun _ _ => rfl) fun c b hfits => ?_
    simp only [runGnssNotch, hfits, Bool.not_true, Bool.false_eq_true, if_false, conclude_accepted]
  case monitor =>
    refine .of_run runGnssMonitor (fun _ _ => rfl) fun c b ⟨hunused, hquiet⟩ => ?_
    rw [runGnssMonitor_free hunused hquiet, conclude_accepted]
  case mapStart =>
    refine .of_run runGnssMpmap (fun _ _ => rfl) fun c b ⟨hfen, hstart, hnone, hheld⟩ => ?_
    unfold runGnssMpmap
    dsimp only
    rw [if_neg (by simp [hstart]), if_neg (by simp [hfen]), if_neg hstart, if_neg (by simp [hnone]), find?_idleChan_eq_none hheld,
      conclude_accepted]
    rfl
  case mapStop =>
    refine .of_run runGnssMpmap (fun _ _ => rfl) fun c b ⟨hfen, hstop, hcount, hruns⟩ => ?_
    unfold runGnssMpmap
    dsimp only
    rw [if_neg (by simp [hcount]), if_neg (by simp [hfen]), if_pos hstop, if_neg (by simpa using hruns), conclude_accepted]
  case status =>
    refine .of_run runGnssStatus (fun _ _ => rfl) fun c b _ => ?_
    simp only [runGnssStatus, biasNow_state, conclude_ok]
    rfl

end Sys2Proof.Machine
end

section
/-! SUPPORT.
The solver opcodes (O25): what ending and changing a member's solving leaves of its settings and its filter, and the branch of each
opcode that its premises select.
-/

namespace Sys2Proof.Machine

/-! ### Settings and filter of a member (R160, R186) -/

theorem dropMember_solveRun (n : Nat) (s : State) :
    (dropMember n s).solveRun n =
      { s.solveRun n with parts := [], waiting := false, reinit := 7, begun := false, solution := none, grid := none } := by
  simp [State.solveRun, dropMember, State.modSolveRun]

theorem setMember_members (n : Nat) (m : SolverMember) (s : State) :
    (setMember n m s).cfg.solver.members = tput s.cfg.solver.members n m := by
  unfold setMember
  dsimp only
  split <;> rfl

theorem setMember_solveRun_new {n : Nat} {s : State} (m : SolverMember) (hnew : tget s.cfg.solver.members n = none) :
    (setMember n m s).solveRun n = { s.solveRun n with reinit := 7, held := [], passes := 0 } := by
  simp only [setMember, hnew, modSolveRun_solveRun]
  rfl

/-- A member that is solved already keeps its states, but for ionosphere, ambiguities and held integers of another mode. -/
theorem setMember_solveRun_solved {n : Nat} {s : State} {o : SolverMember} (m : SolverMember)
    (hold : tget s.cfg.solver.members n = some o) :
    ((setMember n m s).solveRun n).reinit = (if o.mode = m.mode then (s.solveRun n).reinit else (s.solveRun n).reinit ||| 6) ∧
    ((setMember n m s).solveRun n).held = if o.mode = m.mode then (s.solveRun n).held else [] := by
  simp only [setMember, hold, modSolveRun_solveRun]
  exact ⟨rfl, rfl⟩

/-! ### The branches of SOLVER.MEMBER -/

/-- SOLVER.MEMBER off for a member that is solved, outside Fen mode and not connected at edition 1. -/
theorem runSolverMember_off {c : HostCmd} {b : State} (hoff : fld c.packet.params 2 1 = 0)
    (hknown : (tget b.cfg.solver.members (fld c.packet.params 0 2)).isSome = true) (hmode : b.ctl.mode ≠ .fen)
    (hedition : ∀ k ∈ b.conn (fld c.packet.params 0 2), k.edition ≠ 1)
    (hunused : firstNonZeroField c.packet.params
      [(3, 1), (4, 1), (5, 1), (6, 1), (7, 1), (8, 4), (12, 4), (16, 2), (20, 4)] = none) :
    let u := sendRate false (fld c.packet.params 0 2) (dropMember (fld c.packet.params 0 2) b)
    runSolverMember c b = .accepted u (memberReply u) := by
  have hnotNone := Option.isSome_iff_ne_none.mp hknown
  rcases hconn : b.conn (fld c.packet.params 0 2) with _ | k
  · simp [runSolverMember, hoff, hnotNone, hmode, hconn, hunused]
  · have hk : k.edition ≠ 1 := hedition k hconn
    simp [runSolverMember, hoff, hnotNone, hmode, hconn, hk, hunused]

/-- SOLVER.MEMBER on, outside Fen mode, for a node not connected at edition 1, whose rate and capacity allow it (R160, R163). -/
theorem runSolverMember_on {c : HostCmd} {b : State} (hon : fld c.packet.params 2 1 ≠ 0) (hmode : b.ctl.mode ≠ .fen)
    (hedition : ∀ k ∈ b.conn (fld c.packet.params 0 2), k.edition ≠ 1)
    (hrate : rate10 (readMember c.packet.params).rate ≤ 10 * b.cfg.gnss.epochRate)
    (hfits : capacityError (tput b.cfg.solver.members (fld c.packet.params 0 2) (readMember c.packet.params)) b.baselineRun = none) :
    let u := sendRate false (fld c.packet.params 0 2) (setMember (fld c.packet.params 0 2) (readMember c.packet.params) b)
    runSolverMember c b = .accepted u (memberReply u) := by
  rcases hconn : b.conn (fld c.packet.params 0 2) with _ | k
  · simp [runSolverMember, hon, hmode, hconn, Nat.not_lt.mpr hrate, hfits]
  · have hk : k.edition ≠ 1 := hedition k hconn
    simp [runSolverMember, hon, hmode, hconn, hk, Nat.not_lt.mpr hrate, hfits]

/-- Settles O25: each opcode by the branch that its premise selects. -/
theorem solverOpcodes : Obligations.SolverOpcodes := by
  unfold Obligations.SolverOpcodes
  refine ⟨?config, ?memberOff, ?memberOn, fun n s => ?dropped, fun n m s => ?put, ?fen, ?read, ?status, ?resetOne, ?resetAll,
    ?resetNone, ?setTest, ?letClear⟩
  case config => exact .of_run runSolverConfig (fun _ _ => rfl) fun _ _ _ => rfl
  case memberOff =>
    refine .of_run runSolverMember (fun _ _ => rfl) fun c b ⟨hoff, hknown, hmode, hedition, hunused⟩ => ?_
    rw [runSolverMember_off hoff hknown hmode hedition hunused, conclude_accepted]
  case memberOn =>
    refine .of_run runSolverMember (fun _ _ => rfl) fun c b ⟨hon, hmode, hedition, hrate, hfits⟩ => ?_
    rw [runSolverMember_on hon hmode hedition hrate hfits, conclude_accepted]
  case dropped => exact ⟨rfl, rfl, congrArg SolveRun.reinit (dropMember_solveRun n s)⟩
  case put =>
    exact ⟨setMember_members n m s, fun hnew => congrArg SolveRun.reinit (setMember_solveRun_new m hnew),
      fun o hold => setMember_solveRun_solved m hold⟩
  case fen =>
    refine .of_run runSolverMember (fun _ _ => rfl) fun c b ⟨hon, hfen⟩ => ?_
    simp only [runSolverMember, if_neg hon, if_pos hfen, conclude_refuse]
  case read => exact .of_run runSolverRead (fun _ _ => rfl) fun _ _ _ => rfl
  case status => exact .of_run runSolverStatus (fun _ _ => rfl) fun _ _ _ => rfl
  case resetOne =>
    refine .of_run runSolverReset (fun _ _ => rfl) fun c b ⟨hone, hknown⟩ => ?_
    have hnotNone := Option.isSome_iff_ne_none.mp hknown
    simp [runSolverReset, hone, hnotNone]
  case resetAll =>
    refine .of_run runSolverReset (fun _ _ => rfl) fun c b hall => ?_
    simp only [runSolverReset, if_pos hall, conclude_accepted]
  case resetNone =>
    refine .of_run runSolverReset (fun _ _ => rfl) fun c b ⟨hone, hunknown⟩ => ?_
    simp [runSolverReset, hone, hunknown]
  case setTest =>
    refine .of_run runSolverIntegrity (fun _ _ => rfl) fun c b hset => ?_
    simp only [runSolverIntegrity, if_pos hset, conclude_accepted]
  case letClear =>
    refine .of_run runSolverIntegrity (fun _ _ => rfl) fun c b ⟨hclear, hunused⟩ => ?_
    simp [runSolverIntegrity, hclear, hunused]

end Sys2Proof.Machine
end

section
/-! SUPPORT.
Rules of site time: what a change of its quality, the recorder and steering leave as they are.
-/

namespace Sys2Proof.Machine

/-! ### What leaves site time as it is -/

theorem time_of_offPath {s t : State} (h : t.offPath = s.offPath) : t.vol.time = s.vol.time :=
  eq_of_offPath (·.vol.time) (fun _ => rfl) h

@[simp] theorem recordOther_ctl (family op : Nat) (s : State) : (recordOther family op s).ctl = s.ctl := record_ctl ..
@[simp] theorem recordOther_vol (family op : Nat) (s : State) : (recordOther family op s).vol = s.vol := record_vol ..

theorem setStb_offPath (x : StbState) (cause err : Nat) (s : State) :
    (setStb x cause err s).offPath = (s.modTime fun r => { r with state := x, estErr := err }).offPath := by
  unfold setStb
  dsimp only
  split
  · next h => subst h; rfl
  · rw [record_offPath, sendMsg_offPath]

@[simp] theorem setStb_ctl (x : StbState) (cause err : Nat) (s : State) : (setStb x cause err s).ctl = s.ctl :=
  (offPath_ctl (setStb_offPath x cause err s)).trans rfl
@[simp] theorem setStb_time (x : StbState) (cause err : Nat) (s : State) :
    (setStb x cause err s).vol.time = { s.vol.time with state := x, estErr := err } :=
  time_of_offPath (setStb_offPath x cause err s)

theorem lockedState_cases (s : State) : s.lockedState = .locked ∨ s.lockedState = .fenLocked := by
  unfold State.lockedState
  split
  · exact .inr rfl
  · exact .inl rfl

@[simp] theorem drawErr_snd (s : State) : (drawErr s).2 = s.draw.2 := rfl
@[simp] theorem drawRate_snd (s : State) : (drawRate s).2 = s.draw.2 := rfl

/-! ### Steering (R198, R200, R206, R207) -/

/-- What a new rate or a new error to slew out, whether at once or after a pulse, leaves of site time. -/
def TimeRun.unsteered (r : TimeRun) : TimeRun :=
  { r with rate := 0, nextRate := none, remaining := 0, slewRem := 0, nextSlew := none }

@[simp] theorem steerRate_unsteered (v : Int) (r : TimeRun) : (r.steerRate v).unsteered = r.unsteered := by
  unfold TimeRun.steerRate
  split <;> rfl

@[simp] theorem steerSlew_unsteered (e : Int) (r : TimeRun) : (r.steerSlew e).unsteered = r.unsteered := by
  unfold TimeRun.steerSlew
  split <;> rfl

@[simp] theorem settleSteer_unsteered (r : TimeRun) : r.settleSteer.unsteered = r.unsteered := by
  unfold TimeRun.settleSteer
  cases r.nextRate with
  | none => dsimp only; split <;> simp only [steerSlew_unsteered]
  | some v => dsimp only; split <;> simp only [steerSlew_unsteered, steerRate_unsteered]

/-- The error that is slewed out, or that waits for a pulse to be, is the one that was given. -/
@[simp] theorem steerSlew_nextSlew (e : Int) (r : TimeRun) : (r.steerSlew e).nextSlew.getD (r.steerSlew e).remaining = e := by
  unfold TimeRun.steerSlew
  split <;> rfl

/-- What no steering touches is the same in two runs of site time that differ in their steering only. -/
theorem eq_of_unsteered {α : Type} (f : TimeRun → α) (hf : ∀ r : TimeRun, f r.unsteered = f r) {r q : TimeRun}
    (h : q.unsteered = r.unsteered) : f q = f r := by
  rw [← hf q, h, hf]

@[simp] theorem steerRate_state (v : Int) (r : TimeRun) : (r.steerRate v).state = r.state :=
  eq_of_unsteered TimeRun.state (fun _ => rfl) (steerRate_unsteered v r)
@[simp] theorem steerSlew_pending (e : Int) (r : TimeRun) : (r.steerSlew e).pending = r.pending :=
  eq_of_unsteered TimeRun.pending (fun _ => rfl) (steerSlew_unsteered e r)
@[simp] theorem settleSteer_pending (r : TimeRun) : r.settleSteer.pending = r.pending :=
  eq_of_unsteered TimeRun.pending (fun _ => rfl) (settleSteer_unsteered r)
@[simp] theorem settleSteer_stepped (r : TimeRun) : r.settleSteer.stepped = r.stepped :=
  eq_of_unsteered TimeRun.stepped (fun _ => rfl) (settleSteer_unsteered r)

end Sys2Proof.Machine
end

section
/-! SUPPORT.
Holdover, return, slew and step of site time, its pulses and its inputs (O28).
-/

namespace Sys2Proof.Machine

/-! ### Discipline lost, and the bounds of holdover (R197, R198) -/

/-- What holdover A begins from. -/
structure BeginsHoldover (s t : State) : Prop where
  state : t.vol.time.state = .holdoverA
  entryErr : t.vol.time.entryErr = s.estNow
  pending : t.vol.time.pending = none
  enteredAt : t.vol.time.enteredAt = s.mtb
  ctl : t.ctl = s.ctl

theorem loseDiscipline_disciplined {s : State} (h : s.vol.time.state.disciplined = true) :
    BeginsHoldover s (loseDiscipline s) := by
  simp only [loseDiscipline, h, if_true]
  exact ⟨by simp, by simp [startModel], by simp [startModel], by simp [startModel, State.mtb], by simp [startModel]⟩

/-- A bound crossed in holdover with no step pending: the next state, with an estimate above the bound. -/
theorem execHoldoverBoundCrossing_crosses {s : State} {bound : Nat} {next : StbState} (hpending : s.vol.time.pending = none)
    (h : (s.vol.time.state = .holdoverA ∧ bound = unit100Ns ∧ next = .holdoverB) ∨
      (s.vol.time.state = .holdoverB ∧ bound = unitUs ∧ next = .holdoverC)) :
    ∃ t, execHoldoverBoundCrossing s = .next t ∧ t.vol.time.state = next ∧ bound < t.vol.time.estErr := by
  rcases h with ⟨hstate, rfl, rfl⟩ | ⟨hstate, rfl, rfl⟩ <;>
  · refine ⟨_, if_neg (by simp [hstate, hpending]), ?_⟩
    simp only [hstate, if_true, reduceCtorEq, if_false, setStb_time, lt_max_iff]
    exact ⟨trivial, .inl (Nat.lt_succ_self _)⟩

/-! ### Return by slew and by step (R197, R200, R201) -/

/-- A return that waits for nothing more goes on when the conditions have held. -/
theorem execStbQualified_ready {s : State} (e : Int) (hstate : s.vol.time.state.holdover = true ∨ s.vol.time.state = .restored)
    (hpending : s.vol.time.pending = none) (hready : s.returnReady = true) (htiming : s.vol.time.timingOk = true) :
    let u := passHold s
    execStbQualified e s = if e.natAbs < unitUs then
        .next (setStb .returning 1 e.natAbs (u.modTime (TimeRun.steerSlew e)))
      else .next ((drawRate u).2.modTime fun r => { r.steerRate (drawRate u).1 with
        estErr := u.estNow, pending := some ⟨ceilDiv (u.ctl.time.stb.getD 0 + 3 * unitS) unitS, -e⟩ }) :=
  if_neg (by rcases hstate with h | h <;> simp [h, hpending, hready, htiming])

theorem le_ceilDiv_mul (a : Nat) {b : Nat} (hb : 0 < b) : a ≤ ceilDiv a b * b := by
  have := Nat.lt_div_mul_add (a := a + b - 1) hb
  unfold ceilDiv
  omega

theorem unitS_pos : 0 < unitS := by decide

theorem execSlewComplete_returning {s : State} (hstate : s.vol.time.state = .returning) (hnext : s.vol.time.nextSlew = none) :
    let u := passTicks s.slewTicks s
    execSlewComplete s = .next (setStb u.lockedState 2 u.vol.time.remaining.natAbs (u.modTime (TimeRun.steerSlew 0))) :=
  if_neg (by simp [hstate, hnext])

/-! ### The step at B (R201) -/

@[simp] theorem emitPulse_ctl (sec : Nat) (s : State) : (emitPulse sec s).ctl = s.ctl := by
  unfold emitPulse
  dsimp only
  split <;> rfl

@[simp] theorem ptbFollows_stb (s : State) : (ptbFollows s).ctl.time.stb = s.ctl.time.stb := by
  unfold ptbFollows
  split <;> rfl

@[simp] theorem beginPulses_ctl (s : State) : (beginPulses s).ctl = s.ctl := rfl

@[simp] theorem beginPulses_pending (s : State) : (beginPulses s).vol.time.pending = s.vol.time.pending :=
  (settleSteer_pending _).trans rfl
@[simp] theorem beginPulses_stepped (s : State) : (beginPulses s).vol.time.stepped = s.vol.time.stepped :=
  (settleSteer_stepped _).trans rfl

/-- What a step at second B leaves of a state in which STB shows B. -/
structure Stepped (step : Int) (s t : State) : Prop where
  pending : t.vol.time.pending = none
  stepped : t.vol.time.stepped = true
  locked : t.vol.time.state = .locked ∨ t.vol.time.state = .fenLocked
  stb : t.ctl.time.stb = moved step s.ctl.time.stb

theorem execTimeStepAtB_steps {x : StbStep} {s : State} (h : s.vol.time.pending = some x) :
    ∃ t, execTimeStepAtB s = .next t ∧ Stepped x.step (passToStb (x.second * unitS) s) t := by
  simp only [execTimeStepAtB, h]
  refine ⟨_, rfl, by simp, by simp, by simpa using lockedState_cases _, ?_⟩
  simp [apply_ite State.ctl]

/-! ### The nearest edge (R206) -/

/-- The nearest edge lies within half a cycle of the 500 MHz clock. -/
theorem abs_nearestEdge_sub_le {x : Rat} (hx : 0 ≤ x) : |(nearestEdge x : Rat) - x * 5 / 16| ≤ 1 / 2 := by
  have hpos : -1 < (x * 5 / 16 - 1 / 2).ceil := Rat.lt_ceil_iff.mpr (by push_cast; linarith)
  have hcast : ((nearestEdge x : Int) : Rat) = (x * 5 / 16 - 1 / 2).ceil :=
    congrArg _ (Int.toNat_of_nonneg (by omega))
  rw [Int.cast_natCast] at hcast
  have habove := Rat.le_ceil (x := x * 5 / 16 - 1 / 2)
  have hbelow := Rat.ceil_lt (x := x * 5 / 16 - 1 / 2)
  rw [hcast, abs_le]
  constructor <;> linarith

/-- No whole number is nearer than one that lies within a half. -/
theorem abs_sub_le_of_abs_sub_le_half {n : Nat} {y : Rat} (h : |(n : Rat) - y| ≤ 1 / 2) (k : Nat) :
    |(n : Rat) - y| ≤ |(k : Rat) - y| := by
  rcases eq_or_ne k n with rfl | hne
  · rfl
  · have hone : (1 : Rat) ≤ |(k : Rat) - n| := by
      exact_mod_cast Int.one_le_abs (sub_ne_zero.mpr (Int.ofNat_inj.not.mpr hne))
    have := abs_sub_le (k : Rat) y n
    rw [abs_sub_comm y] at this
    linarith

theorem nearestEdge_nearest {x : Rat} (hx : 0 ≤ x) (k : Nat) :
    |(nearestEdge x : Rat) * 16 / 5 - x| ≤ |(k : Rat) * 16 / 5 - x| := by
  have hscale : ∀ m : Nat, |(m : Rat) * 16 / 5 - x| = |(m : Rat) - x * 5 / 16| * (16 / 5) := fun m => by
    have hpos : |(16 / 5 : Rat)| = 16 / 5 := abs_of_pos (by norm_num)
    rw [← hpos, ← abs_mul]
    ring_nf
  rw [hscale, hscale]
  exact mul_le_mul_of_nonneg_right (abs_sub_le_of_abs_sub_le_half (abs_nearestEdge_sub_le hx) k) (by norm_num)

/-! ### PPS_IN (R210) -/

/-- An edge of PPS_IN is noted with its offset, at its instant. -/
theorem execPpsInEdge_notes {v : Nat} {s : State} (hstb : s.ctl.time.stb = some v) (hin : s.ctl.timeCfg.ppsIn = true) :
    ∃ ps, execPpsInEdge s = .next (s.modTime fun r => { r with ppsInPs := ps, ppsInAt := some s.mtb }) :=
  ⟨_, by simp only [execPpsInEdge, hstb, hin]; rfl⟩

/-! ### Air time and leap seconds (R195, R204) -/

theorem passToAtb_keeps {α : Type} (f : State → α) (hf : ∀ n s, f (passTicks n s) = f s) (t : Nat) (s : State) :
    f (passToAtb t s) = f s := by
  unfold passToAtb
  split
  · exact passUntil_keeps f hf _ _ _ _
  · rfl

/-- An ATB that ran from zero is stepped once time has passed to the hyperframe boundary, with no member connected. -/
theorem execAtbStepAtHyperframe_steps {a : Nat} {s : State} (hatb : s.ctl.time.atb = some a)
    (hstb : s.ctl.time.stb.isSome = true) (hoffset : s.ctl.time.atbOffsetSf ≠ 0) (hconns : s.ctl.conns = []) :
    ∃ n, execAtbStepAtHyperframe s = .next ((passToAtb n s).modValues fun v => { v with atb := v.stb, atbOffsetSf := 0 }) := by
  have hstb' : s.ctl.time.stb.isNone = false := by simpa [Option.isSome_iff_ne_none] using hstb
  exact ⟨_, by simp only [execAtbStepAtHyperframe, hatb]; exact if_neg (by simp [hstb', hoffset, hconns])⟩

/-- After its change the table in force holds the next value and announces none. -/
theorem execLeapTableChange_changes {s : State} (hchange : s.leap.changeAt ≠ 0) (hstb : s.ctl.time.stb.isSome = true) :
    ∃ t, execLeapTableChange s = .next t ∧ t.leap = ⟨s.leap.next, s.leap.next, 0⟩ := by
  have hstb' : s.ctl.time.stb.isNone = false := by simpa [Option.isSome_iff_ne_none] using hstb
  refine ⟨_, if_neg (by simp [hchange, hstb']), ?_⟩
  split
  · rfl
  · next hdecoded =>
    have hnone := Option.not_isSome_iff_eq_none.mp hdecoded
    show (passToStb (s.leap.changeAt * unitS) s).vol.time.decoded.getD _ = _
    rw [hnone]
    rfl

/-- Settles O28: each event of site time by the branch that its premises select. -/
theorem siteTimeEvents : Obligations.SiteTimeEvents := by
  unfold Obligations.SiteTimeEvents
  refine ⟨fun s hstate => ?loss, fun s hstate hpending => ?boundA, fun s hstate hpending => ?boundB,
    fun e s hstate hpending hready htiming herr => ?slewed, fun e s hstate hpending hready htiming herr => ?announced,
    fun s hstate hnext => ?slewEnds, fun x s hpending => ?step, fun s hrun => ?pulse, fun x s hother => ?undriven,
    fun n s => ⟨rfl, rfl⟩, fun k n x hx hn => ?edge, fun s hrun hinfo => ?info, fun a s hatb hstb hoffset hconns => ?atbStep,
    fun g a n k s hhost hpreferred => ?decoded, fun g a n k s hhost hdecoded hgps hother => ?notReplaced,
    fun s => execLeapTableChange_changes, fun s => rfl, fun s hholdover href => ?refLost, fun s hholdover => ?refUnused,
    fun v s hstb hin => ?ppsIn⟩
  case loss =>
    have hdisciplined : s.vol.time.state.disciplined = true := by
      rcases hstate with h | h | h <;> rw [h] <;> rfl
    obtain ⟨hholdover, herr, hpending, hentered, hctl⟩ := loseDiscipline_disciplined hdisciplined
    exact ⟨_, rfl, hholdover, herr, hpending, hentered, hctl⟩
  case boundA => exact execHoldoverBoundCrossing_crosses hpending (.inl ⟨hstate, rfl, rfl⟩)
  case boundB => exact execHoldoverBoundCrossing_crosses hpending (.inr ⟨hstate, rfl, rfl⟩)
  case slewed =>
    refine ⟨_, (execStbQualified_ready e hstate hpending hready htiming).trans (if_pos herr), ?_⟩
    simp
  case announced =>
    exact ⟨_, _, (execStbQualified_ready e hstate hpending hready htiming).trans (if_neg (Nat.not_lt.mpr herr)), rfl, rfl,
      le_ceilDiv_mul _ unitS_pos, steerRate_state _ _, rfl⟩
  case slewEnds =>
    exact ⟨_, execSlewComplete_returning hstate hnext, by simp, by simp, by simp, by simpa using lockedState_cases _⟩
  case step =>
    obtain ⟨t, hstep, hpending', hstepped, hlocked, hstb⟩ := execTimeStepAtB_steps hpending
    exact ⟨t, hstep, hpending', hstepped, hlocked, hstb⟩
  case pulse => simp [exec, execPpsPulse, hrun]
  case undriven => exact ⟨if_pos hother, if_neg hother⟩
  case edge =>
    subst hn
    exact nearestEdge_nearest hx k
  case info => simp [exec, execPpsInfoSend, hrun, hinfo]
  case atbStep =>
    obtain ⟨n, hstep⟩ := execAtbStepAtHyperframe_steps hatb hstb hoffset hconns
    exact ⟨_, hstep, rfl, rfl, (passToAtb_keeps (·.ctl.conns) (fun _ _ => rfl) n s).trans hconns,
      passToAtb_keeps (·.vol.gnss) (fun _ _ => rfl) n s, passToAtb_keeps State.hsw (fun _ _ => rfl) n s⟩
  case decoded =>
    have hkept : ¬ (s.vol.time.decoded.isSome = true ∧ s.vol.time.decodedBy = 0 ∧ g ≠ 0) := by
      rintro ⟨hsome, hgps, hother⟩
      rcases hpreferred with h | h | h
      · simp [h] at hsome
      · exact h hgps
      · exact hother h
    simp [exec, execUtcParametersDecoded, hhost, State.modTime, hkept]
  case notReplaced =>
    have hsome := Option.isSome_iff_ne_none.mpr hdecoded
    simp [exec, execUtcParametersDecoded, hhost, State.modTime, hsome, hgps, hother]
  case refLost =>
    refine ⟨_, if_pos ⟨hholdover, href⟩, ?_⟩
    simp [startModel]
  case refUnused => simp [exec, execSyncRefInLost, hholdover, State.modTime]
  case ppsIn =>
    obtain ⟨ps, hnoted⟩ := execPpsInEdge_notes hstb hin
    exact ⟨_, hnoted, rfl, rfl⟩

end Sys2Proof.Machine
end

section
/-! SUPPORT.
PTP messages in, out and through (O29).
-/

namespace Sys2Proof.Machine

/-! ### What counting, sending and a port's own state leave of PTP -/

theorem ptpOn_of_ctl {s t : State} (h : t.ctl = s.ctl) (p : Nat) : t.ptpOn p = s.ptpOn p := by
  simp only [State.ptpOn, State.ptpSet, h]
theorem ptpSet_of_ctl {s t : State} (h : t.ctl = s.ctl) (p : Nat) : t.ptpSet p = s.ptpSet p := by
  simp only [State.ptpSet, h]

@[simp] theorem countEvents_ctl (k : Nat) (q : Option Nat) (n : Nat) (s : State) : (countEvents k q n s).ctl = s.ctl :=
  offPath_ctl (countEvents_offPath k q n s)
@[simp] theorem countEvents_mtb (k : Nat) (q : Option Nat) (n : Nat) (s : State) : (countEvents k q n s).mtb = s.mtb :=
  eq_of_offPath State.mtb (fun _ => rfl) (countEvents_offPath k q n s)
@[simp] theorem countEvents_ptpOn (k : Nat) (q : Option Nat) (n : Nat) (s : State) (p : Nat) :
    (countEvents k q n s).ptpOn p = s.ptpOn p := ptpOn_of_ctl (countEvents_ctl k q n s) p
@[simp] theorem countEvents_peerOn (k : Nat) (q : Option Nat) (n : Nat) (s : State) (p : Nat) :
    (countEvents k q n s).peerOn p = s.peerOn p :=
  eq_of_offPath (·.peerOn p) (fun _ => rfl) (countEvents_offPath k q n s)
@[simp] theorem countEvents_ptpMine (k : Nat) (q : Option Nat) (n : Nat) (s : State) (b : List Byte) :
    (countEvents k q n s).ptpMine b = s.ptpMine b :=
  eq_of_offPath (·.ptpMine b) (fun _ => rfl) (countEvents_offPath k q n s)
@[simp] theorem countEvents_ptpSet (k : Nat) (q : Option Nat) (n : Nat) (s : State) (p : Nat) :
    (countEvents k q n s).ptpSet p = s.ptpSet p := ptpSet_of_ctl (countEvents_ctl k q n s) p
@[simp] theorem countEvents_ptpPort (k : Nat) (q : Option Nat) (n : Nat) (s : State) (p : Nat) :
    (countEvents k q n s).ptpPort p = s.ptpPort p :=
  eq_of_offPath (·.ptpPort p) (fun _ => rfl) (countEvents_offPath k q n s)
@[simp] theorem countEvents_asymmetry (k : Nat) (q : Option Nat) (n : Nat) (s : State) (p : Nat) :
    (countEvents k q n s).asymmetry p = s.asymmetry p := by
  simp only [State.asymmetry, countEvents_ptpSet]

/-- What a change of a port keeps of it, the port has afterwards, whether the change finds it or not. -/
theorem modPtp_ptpPort {α : Type} (g : PtpPort → α) {f : PtpPort → PtpPort} (h : ∀ x, g (f x) = g x) (p : Nat) (s : State) :
    g ((s.modPtp p f).ptpPort p) = g (s.ptpPort p) := by
  simp only [State.ptpPort, State.modPtp, State.modTime_self, List.getD_eq_getElem?_getD, List.getElem?_modify_eq]
  cases s.vol.time.ports[p]? with
  | none => rfl
  | some x => exact h x

theorem announceDue_cases (p : Nat) (s : State) :
    announceDue p s = s ∨ announceDue p s = ptpSend p (s.announce p) (s.modPtp p fun x =>
      { x with announced := some s.mtb, seqAnn := (x.seqAnn + 1) % 65536 }) :=
  ite_eq_or_eq _ _ _

@[simp] theorem announceDue_ctl (p : Nat) (s : State) : (announceDue p s).ctl = s.ctl := by
  rcases announceDue_cases p s with h | h <;> rw [h]
  rfl

@[simp] theorem announceDue_state (p : Nat) (s : State) : ((announceDue p s).ptpPort p).state = (s.ptpPort p).state := by
  rcases announceDue_cases p s with h | h <;> rw [h]
  exact modPtp_ptpPort PtpPort.state
    (f := fun x => { x with announced := some s.mtb, seqAnn := (x.seqAnn + 1) % 65536 }) (fun _ => rfl) p s

/-- Only a port that runs PTP of its own announces. -/
theorem announceDue_off {p : Nat} {s : State} (h : s.ptpOn p = false) : announceDue p s = s :=
  if_pos (.inl (by simp [h]))

/-- A master that has sent no Announce sends one. -/
theorem announceDue_first {p : Nat} {s : State} (hon : s.ptpOn p = true) (hmaster : (s.ptpPort p).state = .master)
    (hnone : (s.ptpPort p).announced = none) :
    announceDue p s = ptpSend p (s.announce p) (s.modPtp p fun x =>
      { x with announced := some s.mtb, seqAnn := (x.seqAnn + 1) % 65536 }) := by
  simp [announceDue, hon, hmaster, hnone]

/-! ### Event messages in (R214) -/

/-- An event message of its domain to a port that runs PTP is counted, time-stamped and handled by its type. -/
theorem execPtpEventMessageRx_taken {p : Nat} {b : List Byte} {s : State} (hon : s.ptpOn p = true) (hmine : s.ptpMine b = true) :
    let u := countEvents 0x0A01 none 1 (countEvents 0x0B01 none 1 s)
    let t := u.eventStamp p false
    execPtpEventMessageRx p b s =
      .next (if ptpType b = 0 then rxSync p t b u else if ptpType b = 1 then rxDelayReq p t b u
        else if ptpType b = 2 then rxPdelayReq p t b u else if ptpType b = 3 then rxPdelayResp p t b u else u) :=
  if_neg (by simp [hon, hmine])

theorem rxSync_oneStep {p t2 : Nat} {b : List Byte} {u : State} (hslave : (u.ptpPort p).state = .slave)
    (hone : ptpTwoStep b = false) : rxSync p t2 b u = syncDone p (ptpStamp b) t2 (ptpCorr b + u.asymmetry p) u := by
  simp [rxSync, hslave, hone]

theorem rxSync_twoStep {p t2 : Nat} {b : List Byte} {u : State} (hslave : (u.ptpPort p).state = .slave)
    (htwo : ptpTwoStep b = true) :
    rxSync p t2 b u = u.modPtp p fun x => { x with waitSync := some (ptpSeq b, t2, ptpCorr b + u.asymmetry p) } := by
  simp [rxSync, hslave, htwo]

/-- A one-step response to the port's own request gives the peer delay. -/
theorem rxPdelayResp_oneStep {p t4 t1 : Nat} {b : List Byte} {u : State} (hpeer : (u.ptpSet p).delayMech ≠ 0)
    (hreq : (u.ptpPort p).pdelayReq = some (ptpSeq b, t1)) (hown : ptpRequester b = portIdentity p)
    (hone : ptpTwoStep b = false) :
    rxPdelayResp p t4 b u = u.modPtp p fun x =>
      { x with peerDelay := ((t4 : Int) - t1 - (ptpCorr b + u.asymmetry p)) / 2, pdelayReq := none } := by
  simp [rxPdelayResp, hpeer, hreq, hown, hone]

/-! ### Event messages out (R214, R215) -/

/-- A message that the port may send goes out after the Announce that is due. -/
theorem execPtpEventMessageTx_sends {p m : Nat} {s : State} (hon : s.ptpOn p = true)
    (hmay : (m = 0 ∧ (s.ptpPort p).state = .master) ∨
      (m = 1 ∧ (s.ptpSet p).delayMech = 0 ∧ ((s.ptpPort p).state = .slave ∨ (s.ptpPort p).state = .uncalibrated)) ∨
      (m = 2 ∧ (s.ptpSet p).delayMech = 1)) :
    let w := countEvents 0x0A01 none 1 (announceDue p s)
    execPtpEventMessageTx p m s = .next (if m = 0 then txSync p w else txRequest p m w) :=
  if_neg (by
    rw [announceDue_state, ptpSet_of_ctl (announceDue_ctl p s), ptpOn_of_ctl (announceDue_ctl p s), hon]
    exact not_or.mpr ⟨by simp, not_not.mpr hmay⟩)

theorem txSync_oneStep {p : Nat} {w : State} (hone : (w.ptpSet p).oneStep = 1) :
    let v := w.modPtp p fun x => { x with seqSync := (x.seqSync + 1) % 65536 }
    txSync p w = ptpSend p (v.ptpMsg p 0 0 0 (w.ptpPort p).seqSync (w.ptpSet p).logSync (stampBytes (w.eventStamp p true))) v :=
  if_pos hone

/-- A port that has no clock of its own sends its Pdelay_Req, and announces nothing. -/
theorem execPtpEventMessageTx_peerOnly {p : Nat} {s : State} (hoff : s.ptpOn p = false) (hpeer : s.peerOn p = true)
    (hmech : (s.ptpSet p).delayMech = 1) :
    execPtpEventMessageTx p 2 s = .next (txRequest p 2 (countEvents 0x0A01 none 1 s)) := by
  simp [execPtpEventMessageTx, announceDue_off hoff, hoff, hpeer, hmech]

/-! ### The transparent clock (R216) -/

/-- An event message passes with its correction, any other unchanged. -/
theorem execPtpTransparentPass_passes {p r sum : Nat} {b : List Byte} {s : State} (hport : p < 2)
    (henable : (s.ptpSet p).enable = true) (hmode : s.ctl.timeCfg.ptp.mode = 3 ∨ s.ctl.timeCfg.ptp.mode = 4) :
    let v := countEvents 0x0B01 none 1 s
    let d : Int := r + (if s.ctl.timeCfg.ptp.mode = 4 then (s.ptpPort p).peerDelay else 0) +
      (if ptpType b = 0 ∨ ptpType b = 3 then s.asymmetry p else -s.asymmetry (1 - p))
    execPtpTransparentPass p r sum b s = if 3 < ptpType b then .next (ptpPass (1 - p) sum b v)
      else .next (countEvents 0x0A01 none 2 (ptpPass (1 - p)
        (udpSum s.ctl.timeCfg.ptp.transport sum b (addCorrection d b)) (addCorrection d b) v)) := by
  have hruns : ¬ ((s.ctl.timeCfg.ptp.mode ≠ 3 ∧ s.ctl.timeCfg.ptp.mode ≠ 4) ∨ 2 ≤ p ∨ (!(s.ptpSet p).enable) = true) := by
    simp [hport, henable]
    omega
  simp only [execPtpTransparentPass, countEvents_ctl, countEvents_ptpSet, countEvents_ptpPort, countEvents_asymmetry,
    if_neg hruns]

/-! ### Announce and other general messages (R212, R217) -/

/-- A general message of its domain to a port that runs PTP is counted and handled by its type. -/
theorem execPtpAnnounceReceived_taken {p : Nat} {b : List Byte} {s : State} (hon : s.ptpOn p = true)
    (hmine : s.ptpMine b = true) :
    let u := countEvents 0x0B01 none 1 s
    execPtpAnnounceReceived p b s =
      .next (if ptpType b = 8 then rxFollowUp p b u else if ptpType b = 9 then rxDelayResp p b u
        else if ptpType b = 10 then rxPdelayFollowUp p b u else if ptpType b = 11 then rxAnnounce p b u else u) :=
  if_neg (by simp [hon, hmine])

/-- The Follow_Up of the Sync that waits for it. -/
theorem rxFollowUp_waited {p n t2 : Nat} {c : Int} {b : List Byte} {u : State}
    (hwaits : (u.ptpPort p).waitSync = some (n, t2, c)) (hseq : ptpSeq b = n) :
    rxFollowUp p b u = syncDone p (ptpStamp b) t2 (c + ptpCorr b) u := by
  simp [rxFollowUp, hwaits, hseq]

/-- An Announce of another clock is noted; a second one within four intervals is compared with the best, and the algorithm runs. -/
theorem rxAnnounce_other {p : Nat} {b : List Byte} {u : State} (hlen : 64 ≤ b.length) (hother : slice b 53 8 ≠ clockIdentity)
    (hsteps : (announceSet b).2 < 255) :
    let v := u.modPtp p fun x =>
      { x with foreign := (ptpSource b, u.mtb) :: (x.foreign.filter fun f => f.1 != ptpSource b).take 4 }
    let again := (u.ptpPort p).foreign.any fun f =>
      f.1 == ptpSource b && decide (u.mtb ≤ f.2 + 4 * tickS * 2 ^ (u.ptpSet p).logAnn)
    rxAnnounce p b u = if !again then v else runBmca (v.modPtp p fun x =>
      { x with bestGm := match x.bestGm with
          | some c => if clockLt (announceSet b) c ∨ c.1.getLast? = (announceSet b).1.getLast? then some (announceSet b)
              else some c
          | none => some (announceSet b) }) :=
  if_neg (by simp [hother]; omega)

/-- Settles O29: each message by its type and by the branch that its premises select. -/
theorem ptpEvents : Obligations.PtpEvents := by
  unfold Obligations.PtpEvents
  refine ⟨fun p b s hon hmine => ?received, fun p s hon => ?sent, fun p s => execPtpEventMessageTx_peerOnly,
    fun p s => announceDue_first, fun p r sum b s hport henable htype hmode => ?eventPassed,
    fun p r sum b s hport henable htype hmode => ?otherPassed,
    fun p b s hon hmine htype hlen hother hsteps => ?announce, fun p n t2 c b s hon hmine htype hwaits hseq => ?followUp,
    fun p s hon => ?timeout⟩
  case received =>
    intro u
    simp only [exec, execPtpEventMessageRx_taken hon hmine]
    refine ⟨fun htype hslave hone => ?sync, fun htype hslave htwo => ?syncHeld, fun htype hmaster hmech => ?delayReq,
      fun htype hmech hone => ?pdelayReq, fun n t1 htype hmech hreq hseq hown hone => ?pdelayResp⟩
    case sync => rw [if_pos htype, rxSync_oneStep (by simpa using hslave) hone]
    case syncHeld => rw [if_pos htype, rxSync_twoStep (by simpa using hslave) htwo]
    case delayReq => simp [htype, rxDelayReq, hmaster, hmech, u]
    case pdelayReq => simp [htype, rxPdelayReq, hmech, hone, u]
    case pdelayResp =>
      simp only [htype]
      subst hseq
      rw [rxPdelayResp_oneStep (t1 := t1) (by simpa using hmech) (by simpa using hreq) hown hone]
      rfl
  case sent =>
    intro w x
    have hset : w.ptpSet p = s.ptpSet p := (countEvents_ptpSet ..).trans (ptpSet_of_ctl (announceDue_ctl p s) p)
    refine ⟨fun hmaster hone => ?sync, fun hmaster htwo => ?syncFollowed, fun hmech hslave => ?delayReq,
      fun hmech => ?pdelayReq⟩
    case sync =>
      rw [exec, execPtpEventMessageTx_sends hon (.inl ⟨rfl, hmaster⟩), if_pos rfl, txSync_oneStep (by rwa [hset]), hset]
    case syncFollowed => rw [exec, execPtpEventMessageTx_sends hon (.inl ⟨rfl, hmaster⟩), if_pos rfl]
    case delayReq =>
      rw [exec, execPtpEventMessageTx_sends hon (.inr (.inl ⟨rfl, hmech, .inl hslave⟩))]
      rfl
    case pdelayReq =>
      rw [exec, execPtpEventMessageTx_sends hon (.inr (.inr ⟨rfl, hmech⟩))]
      rfl
  case eventPassed => exact (execPtpTransparentPass_passes hport henable hmode).trans (if_neg (Nat.not_lt.mpr htype))
  case otherPassed => exact (execPtpTransparentPass_passes hport henable hmode).trans (if_pos htype)
  case announce =>
    intro u v again
    rw [exec, execPtpAnnounceReceived_taken hon hmine]
    have hcompared := rxAnnounce_other (p := p) (u := u) hlen hother hsteps
    simp only [u, countEvents_mtb, countEvents_ptpPort, countEvents_ptpSet] at hcompared
    simp only [htype, Nat.reduceEqDiff, if_true, if_false]
    exact congrArg _ hcompared
  case followUp =>
    exact (execPtpAnnounceReceived_taken hon hmine).trans
      (by rw [if_pos htype, rxFollowUp_waited (by simpa using hwaits) hseq])
  case timeout => simp [exec, execPtpAnnounceReceiptTimeout, hon]

end Sys2Proof.Machine
end

section
/-! OBLIGATION.
Links and heads: loss, retraining, alarms, restarts and training (O31).
-/

namespace Sys2Proof.Machine

/-- What a change of a link keeps of it, the link has afterwards, whether the change finds it or not. -/
theorem modLink_linkRun {α : Type} (g : LinkRun → α) {f : LinkRun → LinkRun} (h : ∀ x, g (f x) = g x) (k : Nat) (s : State) :
    g ((s.modLink k f).linkRun k) = g (s.linkRun k) := by
  simp only [State.linkRun, State.modLink_links, List.getD_eq_getElem?_getD, List.getElem?_modify_eq]
  cases s.vol.radio.links[k]? with
  | none => rfl
  | some x => exact h x

@[simp] theorem modLink_link (k j : Nat) (f : LinkRun → LinkRun) (s : State) : (s.modLink k f).link j = s.link j := rfl

/-- An alarm or a lock loss of an enabled link in its data phase is a head fault, noted at its pad (R229). -/
theorem execHeadAlarmOrLockLoss_dataPhase {k : Nat} {alarm : Bool} {s : State} (henable : (s.link k).enable = true)
    (hdata : (s.linkRun k).state = .dataPhase) :
    execHeadAlarmOrLockLoss k alarm s = .next (headFault k (s.modLink k fun l =>
      if alarm then { l with alarmN := false } else { l with lock := false })) := by
  have hstate : ((s.modLink k fun l => if alarm then { l with alarmN := false } else { l with lock := false }).linkRun k).state =
      .dataPhase := (modLink_linkRun LinkRun.state (by cases alarm <;> exact fun _ => rfl) k s).trans hdata
  simp only [execHeadAlarmOrLockLoss, modLink_link, henable, hstate, Bool.not_true, Bool.false_and, Bool.false_eq_true, if_false]

/-- A latency that comes out late is one DCLK period more (R225). -/
theorem latencyOf_late (s : State) (k : Nat) : s.latencyOf k true = (s.latencyOf k false + 1) % 2 ^ 32 :=
  (Nat.mod_add_mod _ _ _).symm

/-- A start whose lanes tune ends its RADIO.LINK_CONFIG, and the commands that waited are served (R99, R225, R228). -/
theorem execLinkRestored_commanded {k : Nat} {late : Bool} {c : HostCmd} {s u : State} (hstart : (s.linkRun k).state = .starting)
    (htuned : tuneLanes k s = (true, u)) (hcmd : (u.linkRun k).cmd = some c) :
    let t := setLink k (linkOf c.packet.params) (linkUp k late u)
    let w := accept c u t (leBytes 4 (t.linkRun k).latency)
    execLinkRestored k late s = .next (linkCommands k (w.linkRun k).waiting w) := by
  simp only [execLinkRestored, hstart, htuned, hcmd, accept]

/-- Settles O31: each event by the state of its link. -/
theorem radioLinkEvents : Obligations.RadioLinkEvents := by
  unfold Obligations.RadioLinkEvents
  refine ⟨fun k n s hdata => ?lost, fun k s hlost => ?retrains, fun k alarm s henable hdata => ?fault,
    fun k s hfault => ?restarts, fun k s hstart => ?timeout, fun k late s hretraining => ?restored,
    fun k s => latencyOf_late s k, fun k late c s u hstart htuned hcmd => ?trained⟩
  case lost => simp only [exec, execLinkDataPhaseLost, hdata]
  case retrains => simp only [exec, execLinkRetrain, hlost]
  case fault => exact execHeadAlarmOrLockLoss_dataPhase henable hdata
  case restarts => simp only [exec, execHeadRestart, hfault]
  case timeout => simp only [exec, execHeadLockCheckTimeout, hstart]
  case restored => simp only [exec, execLinkRestored, hretraining, linkUp]
  case trained => exact execLinkRestored_commanded hstart htuned hcmd

end Sys2Proof.Machine
end

section
/-! OBLIGATION.
Frames, budgets, listening before talk, radar and noise of a lane (O32).
-/

namespace Sys2Proof.Machine

/-! ### Frames (R222, R235, R248) -/

/-- The frame that a lane is asked to send at a rate. -/
def State.frameFor (s : State) (l ch rate ty n : Nat) (d : List Byte) : AirFrame :=
  { lane := l, chan := ch, asn := s.asn, slot := 0, type := ty, node := n, ctr := siteCtr s.asn 0, mesh := none, body := d,
    edition := s.txEdition ty n, wave := ppduOf (s.lane l) rate }

/-- A frame of a sub-GHz lane, or one that fits an OFDM lane, is handed to the transmitter. -/
theorem execFrameTransmit_fits {l ch rate ty n : Nat} {d : List Byte} {s : State}
    (hfits : (s.lane l).ofdm = true → airTime (s.lane l) rate (psduLen ty false d.length) ≤ 100 ∧ rate ≤ 15) :
    execFrameTransmit l ch rate ty n d s =
      .next (transmit (airTime (s.lane l) rate (psduLen ty false d.length)) (s.frameFor l ch rate ty n d) s).2 :=
  if_neg (by simpa using hfits)

theorem execFrameTransmit_tooLong {l ch rate ty n : Nat} {d : List Byte} {s : State} (hofdm : (s.lane l).ofdm = true)
    (hlong : 100 < airTime (s.lane l) rate (psduLen ty false d.length) ∨ 15 < rate) :
    execFrameTransmit l ch rate ty n d s = .next s :=
  if_pos (by simpa [hofdm] using hlong)

@[simp] theorem flood_lane (f : AirFrame) (s : State) : (flood f s).1.lane = f.lane := by
  unfold flood
  split <;> rfl
@[simp] theorem flood_chan (f : AirFrame) (s : State) : (flood f s).1.chan = f.chan := by
  unfold flood
  split <;> rfl

/-- A frame that nothing blocks and that its budget pays for is sent (R44, R235 to R239). -/
theorem transmit_sent {us : Nat} {f : AirFrame} {s t : State} (hup : s.laneUp f.lane = true)
    (hchan : f.chan < (s.lane f.lane).channels.length) (hwarned : s.hsw.warned = false)
    (hfree : s.busyNow f.lane f.chan = false) (hdfs : s.dfsAllows f.lane f.chan us (f.type == 8) = true)
    (hpaid : charge f.lane f.chan us (f.type == 8) s = (true, t)) :
    let g := (flood f t).1
    let u := (flood f t).2
    transmit us f s = (.sent, noteSent f.lane f.chan us { u with out.air := u.out.air ++ [u.leaving us g] }) := by
  have hopen : ¬ ((!s.laneUp f.lane || decide ((s.lane f.lane).channels.length ≤ f.chan) ||
      (s.hsw.warned && f.type != 7 && !(f.type == 8))) = true) := by
    simp [hup, hwarned, hchan]
  have hclear : ¬ ((s.busyNow f.lane f.chan || !s.dfsAllows f.lane f.chan us (f.type == 8)) = true) := by
    simp [hfree, hdfs]
  unfold transmit
  dsimp only
  rw [if_neg hopen, if_neg hclear, hpaid]
  dsimp only
  rw [flood_lane, flood_chan]

/-- A mesh frame floods from the controller with its next sequence number. -/
theorem flood_mesh {f : AirFrame} {x : MeshExt} (s : State) (hmesh : f.mesh = some x) :
    flood f s = ({ f with mesh := some ⟨x.ttl, s.cfg.mac.ctlNode, (s.vol.mac.mseq + 1) % 65536⟩ },
      { s with vol.mac.mseq := (s.vol.mac.mseq + 1) % 65536 }) := by
  simp only [flood, hmesh]

/-! ### Listening before talk (R238) -/

/-- The measured channels of a lane that lie above the level of a sub-band that listens. -/
def State.louder (s : State) (l : Nat) (e : List (Nat × Int)) : List (Nat × Int) :=
  e.filter fun x => match s.chanBand l x.1 with
    | some b => b.lbt && decide (lbtLevel (s.lane l) ((s.lane l).channels.getD x.1 0) < x.2)
    | none => false

theorem louder_quiet {l : Nat} {e : List (Nat × Int)} {s : State} (hquiet : ∀ x ∈ e, ∀ b ∈ s.chanBand l x.1, b.lbt = true →
    x.2 ≤ lbtLevel (s.lane l) ((s.lane l).channels.getD x.1 0)) : s.louder l e = [] := by
  refine List.filter_eq_nil_iff.mpr fun x hx => ?_
  cases hband : s.chanBand l x.1 with
  | none => simp
  | some b => simpa using hquiet x hx b hband

theorem louder_loud {l ch : Nat} {v : Int} {b : SubBand} {s : State} (hband : s.chanBand l ch = some b) (hlbt : b.lbt = true)
    (hloud : lbtLevel (s.lane l) ((s.lane l).channels.getD ch 0) < v) : s.louder l [(ch, v)] = [(ch, v)] := by
  simpa [State.louder, hband, hlbt] using hloud

/-- A measurement of an OFDM lane that is up: its loud channels are busy in the next superframe, which is then a deferral. -/
theorem execLbtMeasurement_measured {l : Nat} (e : List (Nat × Int)) {s : State} (hup : s.laneUp l = true)
    (hofdm : (s.lane l).ofdm = true) :
    let busy := s.louder l e
    let t := s.modLaneRun l fun r =>
      { r with busy := busy.map (·.1), busyAsn := s.asn + 1, lbtDefs := if busy.isEmpty then r.lbtDefs else satInc 32 r.lbtDefs }
    execLbtMeasurement l e s = .next (if busy.isEmpty then t else countEvents 0x0702 (some l) 1 t) :=
  if_neg (by simp [hup, hofdm])

/-! ### Radar (R239, R263) -/

theorem execRadarDetected_detects {l ch : Nat} {d : DfsChan} {s : State} (hdfs : s.dfs l ch = some d)
    (hknown : d.state ≠ .unavailable) (hchecked : d.state ≠ .none) :
    let u := s.modDfs l ch fun d => { d with state := .unavailable, stopsOk := d.state != .cac, stopUs := 0 }
    execRadarDetected l ch s = .next (updateMaps l (radioEvent l 3 ch (((u.chanBand l ch).map (·.lo)).getD 0) u)) := by
  simp only [execRadarDetected, hdfs, hknown, hchecked, or_self, if_false]

/-- Settles O32: each event by the branch that its premises select. -/
theorem radioLaneEvents : Obligations.RadioLaneEvents := by
  unfold Obligations.RadioLaneEvents
  refine ⟨fun l ch rate ty n d s => execFrameTransmit_fits, fun l ch rate ty n d s => execFrameTransmit_tooLong,
    fun us f s t => transmit_sent, fun f x s hmesh => ?flooded, fun l lo ch x s hbudget => ?binEnds,
    fun l e s hup hofdm hquiet => ?quiet, fun l ch v b s hup hofdm hband hlbt hloud => ?loud,
    fun l ch d s => execRadarDetected_detects, fun l ch s => rfl, fun l ch d s hdfs hcac => ?checked,
    fun l ch d s hdfs hradar => ?occupancyEnds, fun l e s => rfl⟩
  case flooded => exact Prod.ext_iff.mp (flood_mesh s hmesh)
  case binEnds => simp only [exec, execBudgetBinBoundary, hbudget]
  case quiet =>
    rw [exec, execLbtMeasurement_measured e hup hofdm, louder_quiet hquiet]
    rfl
  case loud =>
    rw [exec, execLbtMeasurement_measured [(ch, v)] hup hofdm, louder_loud hband hlbt hloud]
    rfl
  case checked => simp only [exec, execCacComplete, hdfs, hcac, if_true]
  case occupancyEnds => simp only [exec, execNonOccupancyEnd, hdfs, hradar, if_true]

end Sys2Proof.Machine
end

section
/-! OBLIGATION.
The MAC opcodes (O33).
-/

namespace Sys2Proof.Machine

/-- The settings of the link MAC that MAC.CONFIG's parameters carry, beside those that it leaves. -/
def macSettings (ps : List Byte) (m : MacSettings) : MacSettings :=
  { m with
    ctlNode := fld ps 0 2, editions := fld ps 2 1, poolLo := fld ps 4 2, poolHi := fld ps 6 2, defInterval := fld ps 8 2,
    defSup := fld ps 10 2, meshTtl := fld ps 12 1 }

/-! ### MAC.CONFIG and MAC.LANE_MAC (R32, R248, R253) -/

/-- With no member connected, none stands outside the pool. -/
theorem runMacConfig_unconnected {c : HostCmd} {b : State}
    (hpool : fld c.packet.params 4 2 ≤ fld c.packet.params 6 2 ∧ fld c.packet.params 6 2 ≠ 0xFFFF)
    (hnode : fld c.packet.params 0 2 < fld c.packet.params 4 2 ∨ fld c.packet.params 6 2 < fld c.packet.params 0 2)
    (hconns : b.ctl.conns = []) :
    runMacConfig c b = .accepted { b with ctl.cfg.mac := macSettings c.packet.params b.cfg.mac } [] := by
  unfold runMacConfig
  dsimp only
  rw [if_neg (by omega), if_neg (by simp [hconns]), if_neg (by omega), hconns]
  rfl

theorem runMacConfig_connected {c : HostCmd} {b : State}
    (hpool : fld c.packet.params 4 2 ≤ fld c.packet.params 6 2 ∧ fld c.packet.params 6 2 ≠ 0xFFFF)
    (hnode : fld c.packet.params 0 2 ≠ b.cfg.mac.ctlNode) (hconns : b.ctl.conns ≠ []) :
    runMacConfig c b = .refuse erState b.ctl.conns.length := by
  unfold runMacConfig
  dsimp only
  rw [if_neg (by omega), if_pos ⟨hnode, hconns⟩]

/-- A lane takes the base rates and the span of its class, and another span while no connection is on it. -/
theorem runMacLaneMac_fits {c : HostCmd} {b : State}
    (hclass : if (b.lane (fld c.packet.params 0 1)).ofdm then
        4 ≤ fld c.packet.params 3 1 ∧ fld c.packet.params 3 1 ≤ 7 ∧ fld c.packet.params 5 1 = 0
      else fld c.packet.params 3 1 = 0 ∧ 1 ≤ fld c.packet.params 5 1 ∧ fld c.packet.params 5 1 ≤ 8)
    (hon : b.laneOn (fld c.packet.params 0 1) = true)
    (hprimary : fld c.packet.params 4 1 < (b.lane (fld c.packet.params 0 1)).channels.length)
    (hspan : fld c.packet.params 5 1 ≠ (b.laneMac (fld c.packet.params 0 1)).span →
      (b.ctl.conns.filter fun e => e.2.par.lane == fld c.packet.params 0 1) = []) :
    let ps := c.packet.params
    let x : LaneMac := ⟨fld ps 1 1 == 1, fld ps 2 1, fld ps 3 1, fld ps 4 1, fld ps 5 1⟩
    runMacLaneMac c b = .accepted { b with ctl.cfg.mac.lanes := b.cfg.mac.lanes.set (fld ps 0 1) (some x) } [] := by
  have hbarred : ¬ (fld c.packet.params 5 1 ≠ (b.laneMac (fld c.packet.params 0 1)).span ∧
      (b.ctl.conns.filter fun e => e.2.par.lane == fld c.packet.params 0 1).length ≠ 0) :=
    fun h => h.2 (List.length_eq_zero_iff.mpr (hspan h.1))
  unfold runMacLaneMac
  dsimp only
  cases hofdm : (b.lane (fld c.packet.params 0 1)).ofdm <;> rw [hofdm] at hclass
  all_goals
    simp only [Bool.false_eq_true, if_true, if_false] at hclass
    rw [if_neg (by simp; omega), if_neg (by simp; omega), if_neg (by simp [hon]), if_neg (Nat.not_le.mpr hprimary), if_neg hbarred]

/-! ### MAC.PROVISION (R256) -/

/-- A removal that concerns no connected member ends no connection. -/
theorem runMacProvision_removes {c : HostCmd} {b : State} (hop : fld c.packet.params 0 1 = 0)
    (hconn : b.connOfMember (fld c.packet.params 4 8) = none) :
    runMacProvision c b = .accepted { b with ctl.cfg.mac.provisions := tdel b.cfg.mac.provisions (fld c.packet.params 4 8) }
      (leBytes 2 (tdel b.cfg.mac.provisions (fld c.packet.params 4 8)).length) := by
  simp only [runMacProvision, hop, hconn, if_true, Option.map_none]

/-- An entry without a fixed address clashes with no other. -/
theorem runMacProvision_adds {c : HostCmd} {b : State} (hop : fld c.packet.params 0 1 ≠ 0)
    (hroom : b.cfg.mac.provisions.length < 4096) (haddr : fld c.packet.params 2 2 = 0)
    (hconn : b.connOfMember (fld c.packet.params 4 8) = none) :
    let ps := c.packet.params
    let p : Provision :=
      { maxEdition := fld ps 1 1, addr := fld ps 2 2, squad := fld ps 12 1, lanes := fld ps 13 1, maxLatency := fld ps 14 2,
        flags := fld ps 16 1, pubkey := slice ps 20 49 }
    let t := tput b.cfg.mac.provisions (fld ps 4 8) p
    runMacProvision c b = .accepted { b with ctl.cfg.mac.provisions := t } (leBytes 2 t.length) := by
  intro ps p t
  have hclash : ¬ (p.addr ≠ 0 ∧ b.cfg.mac.provisions.any (fun e => e.1 != fld ps 4 8 && e.2.addr == p.addr)) :=
    fun h => h.1 haddr
  unfold runMacProvision
  dsimp only
  rw [if_neg hop, if_neg (by omega), if_neg hclash, hconn]
  rfl

/-! ### MAC.CONN_PARAM, MAC.DROP and MAC.SEND (R258, R262, R265, R497) -/

theorem runMacConnParam_placed {c : HostCmd} {b : State} {k : Conn} {u : ConnUpdate}
    (hrange : connRangeError c.packet.params b = none) (hconn : b.conn (fld c.packet.params 0 2) = some k)
    (hgood : connParamError (fld c.packet.params 0 2) k (connParamsOf c.packet.params k) (fld c.packet.params 12 8) b = none)
    (hplace : placeUpdate (fld c.packet.params 0 2) k (connParamsOf c.packet.params k) (fld c.packet.params 12 8) b = some u) :
    runMacConnParam c b =
      .accepted (startUpdate (fld c.packet.params 0 2) k u b) (leBytes 2 u.instant ++ leBytes 4 u.newAsn) := by
  simp only [runMacConnParam, hrange, hconn, hgood, hplace]

theorem runMacConnParam_unconnected {c : HostCmd} {b : State} (hrange : connRangeError c.packet.params b = none)
    (hconn : b.conn (fld c.packet.params 0 2) = none) : runMacConnParam c b = .refuse erState 0 := by
  simp only [runMacConnParam, hrange, hconn]

theorem runMacDrop_connected {c : HostCmd} {b : State} (hconn : (b.conn (fld c.packet.params 0 2)).isSome = true) :
    runMacDrop c b = .accepted (disconnect (fld c.packet.params 0 2) 1 b).2 [] := by
  obtain ⟨k, hk⟩ := Option.isSome_iff_exists.mp hconn
  simp only [runMacDrop, hk]

theorem runMacDrop_unconnected {c : HostCmd} {b : State} (hconn : b.conn (fld c.packet.params 0 2) = none) :
    runMacDrop c b = .refuse erState 0 := by
  simp only [runMacDrop, hconn]

theorem runMacSend_fits {c : HostCmd} {b u : State} {k : Conn} {rate seq : Nat}
    (hconn : b.conn (fld c.packet.params 0 2) = some k)
    (hpool : b.poolGrants k.flow (4 + fld c.packet.params 2 2) = true)
    (hfit : fitRate (b.lane k.par.lane) (b.slotRange k.par.lane).2.2 (b.rateInForce (fld c.packet.params 0 2) k)
      (psduLen 5 k.par.mesh (4 + fld c.packet.params 2 2)) = some rate)
    (hqueued : queueFrame (fld c.packet.params 0 2) 5 ((c.packet.params.drop 4).take (fld c.packet.params 2 2)) b =
      some (seq, u)) :
    runMacSend c b = .accepted u (leBytes 2 seq) := by
  simp only [runMacSend, hconn, hpool, hfit, hqueued, Bool.not_true, Bool.false_eq_true, if_false]

/-- Settles O33: each opcode's effect, carried by its row. -/
theorem macOpcodes : Obligations.MacOpcodes := by
  unfold Obligations.MacOpcodes
  refine ⟨?config, ?configBarred, ?laneMac, ?removed, ?added, fun k u => ?placed, ?paramUnconnected, ?dropped,
    ?dropUnconnected, ?readUnconnected, fun k => ?readConnected, ?status, fun k rate seq u => ?sent⟩
  case config =>
    refine .of_run runMacConfig (fun _ _ => rfl) fun c b ⟨hpool, hend, hnode, hconns⟩ => ?_
    rw [runMacConfig_unconnected ⟨hpool, hend⟩ hnode hconns, conclude_accepted]
    rfl
  case configBarred =>
    refine .of_run runMacConfig (fun _ _ => rfl) fun c b ⟨hpool, hend, hnode, hconns⟩ => ?_
    rw [runMacConfig_connected ⟨hpool, hend⟩ hnode hconns, conclude_refuse]
  case laneMac =>
    refine .of_run runMacLaneMac (fun _ _ => rfl) fun c b ⟨hclass, hon, hprimary, hspan⟩ => ?_
    rw [runMacLaneMac_fits hclass hon hprimary hspan, conclude_accepted]
  case removed =>
    refine .of_run runMacProvision (fun _ _ => rfl) fun c b ⟨hop, hconn⟩ => ?_
    rw [runMacProvision_removes hop hconn, conclude_accepted]
  case added =>
    refine .of_run runMacProvision (fun _ _ => rfl) fun c b ⟨hop, hroom, haddr, hconn⟩ => ?_
    rw [runMacProvision_adds hop hroom haddr hconn, conclude_accepted]
  case placed =>
    refine .of_run runMacConnParam (fun _ _ => rfl) fun c b ⟨hrange, hconn, hgood, hplace⟩ => ?_
    rw [runMacConnParam_placed hrange hconn hgood hplace, conclude_accepted]
  case paramUnconnected =>
    refine .of_run runMacConnParam (fun _ _ => rfl) fun c b ⟨hrange, hconn⟩ => ?_
    rw [runMacConnParam_unconnected hrange hconn, conclude_refuse]
  case dropped =>
    refine .of_run runMacDrop (fun _ _ => rfl) fun c b hconn => ?_
    rw [runMacDrop_connected hconn, conclude_accepted]
  case dropUnconnected =>
    refine .of_run runMacDrop (fun _ _ => rfl) fun c b hconn => ?_
    rw [runMacDrop_unconnected hconn, conclude_refuse]
  case readUnconnected =>
    refine .of_run runMacMemberRead (fun _ _ => rfl) fun c b hconn => ?_
    simp only [runMacMemberRead, hconn, conclude_ok]
  case readConnected =>
    refine .of_run runMacMemberRead (fun _ _ => rfl) fun c b hconn => ?_
    simp only [runMacMemberRead, hconn, conclude_ok]
  case status => exact .of_run runMacStatus (fun _ _ => rfl) fun _ _ _ => rfl
  case sent =>
    refine .of_run runMacSend (fun _ _ => rfl) fun c b ⟨hconn, hpool, hfit, hqueued⟩ => ?_
    rw [runMacSend_fits hconn hpool hfit hqueued, conclude_accepted]

end Sys2Proof.Machine
end

section
/-! SUPPORT.
What time that passes to an instant of ATB leaves as it is (R204).
-/

namespace Sys2Proof.Machine

@[simp] theorem passToAtb_cfg (t : Nat) (s : State) : (passToAtb t s).ctl.cfg = s.ctl.cfg :=
  passToAtb_keeps (fun s => s.ctl.cfg) passTicks_ctl_cfg t s
@[simp] theorem passToAtb_conns (t : Nat) (s : State) : (passToAtb t s).ctl.conns = s.ctl.conns :=
  passToAtb_keeps (fun s => s.ctl.conns) passTicks_ctl_conns t s

/-- Of the volatile state only the run of site time moves. -/
theorem passToAtb_vol (t : Nat) (s : State) : (passToAtb t s).vol = { s.vol with time := (passToAtb t s).vol.time } :=
  passToAtb_keeps (fun v => { v.vol with time := (passToAtb t s).vol.time }) (fun _ _ => rfl) t s

end Sys2Proof.Machine
end

section
/-! OBLIGATION.
Slot boundaries, connection instants and the join exchange (O34).
-/

namespace Sys2Proof.Machine

/-! ### Slots and instants (R241, R250, R262) -/

/-- The instants due on a lane by `asn` are applied, connection by connection. -/
def applyLane (l asn : Nat) (conns : Tbl Conn) (s : State) : State :=
  (conns.filter fun e => e.2.par.lane == l).foldl (fun s e => applyInstants e.1 asn s) s

/-- A boundary of a lane that is up and that has not passed: time passes to it, which moves no connection. -/
theorem execSlotBoundary_ahead {l asn k a : Nat} {s : State} (hatb : s.ctl.time.atb = some a)
    (hahead : a ≤ slotAtb (s.lane l).ofdm asn k) (hup : s.laneUp l = true) :
    let t := applyLane l asn s.ctl.conns (passToAtb (slotAtb (s.lane l).ofdm asn k) s)
    execSlotBoundary l asn k s =
      .next (if (s.lane l).ofdm then ofdmSlot l asn k t else if asn % 50 = 0 then subSlot l asn k t else t) := by
  have hpresent : (decide (slotAtb (s.lane l).ofdm asn k < a) || !s.laneUp l) = false := by simp [hup, hahead]
  simp only [execSlotBoundary, hatb, hpresent, Bool.false_eq_true, if_false, passToAtb_conns, applyLane]

theorem execConnectionInstant_update {n : Nat} {c : Conn} {u : ConnUpdate} {s : State} (hconn : s.conn n = some c)
    (hupdate : c.update = some u) :
    execConnectionInstant n s = .next (applyInstants n (max u.newAsn s.asn) (passToAtb (atbOfAsn u.newAsn) s)) := by
  simp only [execConnectionInstant, hconn, hupdate, Option.map_some, Option.some_or]

/-! ### The join exchange (R253 to R257) -/

/-- JOIN_RSP is signed with one fresh value. -/
theorem sealJoin_snd (l : Nat) (req : List Byte) (j : JoinRun) (s : State) :
    (sealJoin l req j s).2 = { s with fresh := s.fresh + 1 } := rfl

/-- A member that passes Table Mere-12 has its admission staged, sealed and with the lane's channels. -/
theorem joinReq_admits {l asn m ed tol req : Nat} {d : List Byte} {j : JoinRun} {s : State} (hon : s.joinsOn l asn = true)
    (hcheck : joinCheck l asn m ed req s = (0, some j)) :
    let map := maskOf ((List.range (s.lane l).channels.length).filter fun k => s.chanAvailable l k)
    joinReq l asn m ed tol req d s = { s with fresh := s.fresh + 1 }.modMacLane l fun x =>
      { x with join := some (sealJoin l d { j with memTol := tol, chanMap := map } s).1 } := by
  simp only [joinReq, hon, hcheck, Bool.not_true, Bool.false_eq_true, if_false, sealJoin_snd]

/-- A member that fails a check of Table Mere-12 is refused with its status. -/
theorem joinReq_refuses {l asn m ed tol req k : Nat} {d : List Byte} {s : State} (hon : s.joinsOn l asn = true)
    (hk : k ≠ 0) (hcheck : joinCheck l asn m ed req s = (k, none)) :
    let j := (sealJoin l d (JoinRun.refused m k) s).1
    joinReq l asn m ed tol req d s =
      (joinRefused j l { s with fresh := s.fresh + 1 }).modMacLane l fun x => { x with join := some j } := by
  obtain ⟨k, rfl⟩ := Nat.exists_eq_succ_of_ne_zero hk
  simp only [joinReq, hon, hcheck, Bool.not_true, Bool.false_eq_true, if_false, sealJoin_snd]

theorem joinAuth_verified {l : Nat} {sig : List Byte} {j : JoinRun} {s : State} (hjoin : (s.macLane l).join = some j)
    (hstep : j.step = 2) :
    joinAuth l sig s =
      if Config.ecdsaVerify (leNat (((tget s.cfg.mac.provisions j.memberId).map (·.pubkey)).getD []))
          (Config.sha384 (j.hash ++ slice j.rsp 85 96)) sig then
        workOn 6 j.flow j.node (.joinAuthReceived l sig) (joinDone l j) s
      else (joinRefused { j with status := 8, step := 3 } l s).modMacLane l fun x =>
        { x with join := some { j with status := 8, step := 3 } } := by
  simp only [joinAuth, hjoin, hstep, ne_eq, not_true_eq_false, if_false]

/-- Settles O34: each event by the branch that its premises select. -/
theorem macSlotsAndJoins : Obligations.MacSlotsAndJoins := by
  unfold Obligations.MacSlotsAndJoins
  refine ⟨fun l asn k a s hatb hahead hup hofdm => ?ofdm, fun l asn k a s hatb hahead hup hsub hcycle => ?sub,
    fun n c u s => execConnectionInstant_update, fun l asn m ed tol req d j s hon hcheck => ?admitted,
    fun l asn m ed tol req k d s hon hk hcheck => ?refused, fun l sig j s hjoin hstep => ?authenticated,
    fun l j s hjoin hstep => ?missing⟩
  case ofdm =>
    rw [exec, execSlotBoundary_ahead hatb (by rwa [hofdm]) hup, hofdm]
    rfl
  case sub =>
    rw [exec, execSlotBoundary_ahead hatb (by rwa [hsub]) hup, hsub, if_neg Bool.false_ne_true, if_pos hcycle]
    rfl
  case admitted =>
    exact ⟨_, _, congrArg Host.Outcome.next (joinReq_admits hon hcheck), rfl, rfl, rfl, rfl, rfl, rfl⟩
  case refused => exact ⟨_, congrArg Host.Outcome.next (joinReq_refuses hon hk hcheck), rfl, rfl⟩
  case authenticated => exact congrArg Host.Outcome.next (joinAuth_verified hjoin hstep)
  case missing => simp only [exec, execJoinAuthMissing, hjoin, hstep, if_true]

end Sys2Proof.Machine
end

section
/-! SUPPORT.
What a lane makes of a received frame (R220, R245, R246, R249, R269, R274).
-/

namespace Sys2Proof.Machine

/-! ### The readings of a frame -/

@[simp] theorem stampRx_laneUp (l k : Nat) (s : State) : (stampRx l s).laneUp k = s.laneUp k := rfl
@[simp] theorem stampRx_phyError (l k : Nat) (t e w : Bool) (s : State) : (stampRx l s).phyError k t e w = s.phyError k t e w := rfl

/-- A DATA frame that comes directly from its member is heard in the window of its connection. -/
theorem frameHeard_direct {l : Nat} {c : Conn} {d : List Byte} {s : State} (htype : fld d 0 1 / 16 = 5)
    (hdirect : (fld d 0 1).testBit 1 = false) (hconn : s.conn (beNat (slice d 2 2)) = some c) :
    s.frameHeard l d = s.heardInWindow l c := by
  simp only [State.frameHeard, htype, hdirect, hconn, Bool.not_false, beq_self_eq_true, Bool.and_self]

/-- Every other frame is heard. -/
theorem frameHeard_other {l : Nat} {d : List Byte} {s : State}
    (h : fld d 0 1 / 16 ≠ 5 ∨ (fld d 0 1).testBit 1 = true) : s.frameHeard l d = true := by
  have hother : (fld d 0 1 / 16 == 5 && !(fld d 0 1).testBit 1) = false := by
    rcases h with h | h <;> simp [h]
  simp only [State.frameHeard, hother]

/-- The MIC of a direct JOIN_AUTH or DATA frame covers lane and frame under the uplink key of its sender. -/
theorem micFits_direct_iff {l : Nat} {d : List Byte} {s : State} (hdirect : (fld d 0 1).testBit 1 = false)
    (htype : fld d 0 1 / 16 = 3 ∨ fld d 0 1 / 16 = 5) :
    s.micFits l d = true ↔ ∃ k, s.rxKey l (fld d 0 1 / 16) (beNat (slice d 2 2)) = some k ∧
      d.drop (d.length - 8) = mic k (beBytes 1 l ++ d.take (d.length - 8)) := by
  simp only [State.micFits, hdirect, htype, if_true, Bool.false_eq_true, if_false]
  cases s.rxKey l (fld d 0 1 / 16) (beNat (slice d 2 2)) <;> simp

theorem micFits_unkeyed {l : Nat} {d : List Byte} {s : State} (hauth : fld d 0 1 / 16 ≠ 3) (hdata : fld d 0 1 / 16 ≠ 5) :
    s.micFits l d = true := by
  simp only [State.micFits, hauth, hdata, or_self, if_false]

/-! ### The mesh extension (R274) -/

/-- The seen cache with a further key. -/
def State.remember (s : State) (key : Nat × Nat) : State :=
  { s with vol.mac := { s.vol.mac with seen := s.vol.mac.seen ++ [key] } }

@[simp] theorem remember_micFits (s : State) (key : Nat × Nat) (l : Nat) (d : List Byte) :
    (s.remember key).micFits l d = s.micFits l d := rfl
@[simp] theorem remember_editionFits (s : State) (key : Nat × Nat) (l : Nat) (d : List Byte) :
    (s.remember key).editionFits l d = s.editionFits l d := rfl

theorem seenFrame_seen {l o q : Nat} {s : State} (hseen : s.vol.mac.seen.contains (o, q) = true) :
    seenFrame l o q s = (true, s.modMacLane l fun m => { m with seenDisc := satInc 32 m.seenDisc }) := by
  simp only [seenFrame, hseen, Bool.true_or, if_true]

/-- While the seen cache has room, the key of a new frame is added to it and none is lost. -/
theorem seenFrame_new {l o q : Nat} {s : State} (hnew : (o, q) ∉ s.vol.mac.seen) (hforeign : o ≠ s.cfg.mac.ctlNode)
    (hroom : s.vol.mac.seen.length < 4096) :
    seenFrame l o q s = (false, s.remember (o, q)) := by
  have hlength : (s.vol.mac.seen ++ [(o, q)]).length - 4096 = 0 := by
    rw [List.length_append, List.length_singleton]; omega
  have hpasses : ¬ (s.vol.mac.seen.contains (o, q) || o == s.cfg.mac.ctlNode) = true := by
    simp [hnew, hforeign]
  simp only [seenFrame]
  rw [if_neg hpasses, hlength]
  rfl

/-! ### From the air to the exchange of a frame's type -/

/-- What a lane makes of a frame of this controller's site that no seen cache discards: the checks of MIC and edition, and then
the exchange of its type. -/
def judgeFrame (l : Nat) (micOk : Bool) (dbfs : Int) (d : List Byte) (s : State) : State :=
  let type := fld d 0 1 / 16
  let ext := if (fld d 0 1).testBit 1 then 5 else 0
  let tail := if type = 1 ∨ type = 2 then 0 else 12
  if tail == 12 && !(micOk && s.micFits l d) then
    countEvents 0x0603 (some l) 1 (s.modMacLane l fun m => { m with mic := satInc 32 m.mic })
  else if !s.editionFits l d then s.modMacLane l fun m => { m with protocol := satInc 32 m.protocol }
  else
    frameBody l type (beNat (slice d 2 2)) dbfs ((d.drop (4 + ext)).take (d.length - 4 - ext - tail))
      (beNat (slice d (d.length - 12) 4)) d s

theorem judgeFrame_micBad {l : Nat} {m : Bool} {r : Int} {d : List Byte} {s : State} (htype : 3 ≤ fld d 0 1 / 16)
    (hmic : m = false ∨ s.micFits l d = false) :
    judgeFrame l m r d s = countEvents 0x0603 (some l) 1 (s.modMacLane l fun m => { m with mic := satInc 32 m.mic }) := by
  have htail : ¬ (fld d 0 1 / 16 = 1 ∨ fld d 0 1 / 16 = 2) := by omega
  have hbad : (m && s.micFits l d) = false := by rcases hmic with h | h <;> simp [h]
  simp only [judgeFrame, htail, hbad, if_false, Bool.not_false, beq_self_eq_true, Bool.and_self, if_true]

/-- A frame whose MIC fits, or that has none, is given to its exchange when its edition fits, and is else a protocol error. -/
theorem judgeFrame_micGood {l : Nat} {m : Bool} {r : Int} {d : List Byte} {s : State} :
    let type := fld d 0 1 / 16
    let ext := if (fld d 0 1).testBit 1 then 5 else 0
    let tail := if type = 1 ∨ type = 2 then 0 else 12
    (m = true ∧ s.micFits l d = true ∨ tail = 0) →
    judgeFrame l m r d s = if s.editionFits l d = true then
        frameBody l type (beNat (slice d 2 2)) r ((d.drop (4 + ext)).take (d.length - 4 - ext - tail))
          (beNat (slice d (d.length - 12) 4)) d s
      else s.modMacLane l fun x => { x with protocol := satInc 32 x.protocol } := by
  intro type ext tail hmic
  have hpasses : ¬ (tail == 12 && !(m && s.micFits l d)) = true := by
    rcases hmic with ⟨hm, hfits⟩ | htail
    · simp [hm, hfits]
    · simp [htail]
  unfold judgeFrame
  rw [if_neg hpasses]
  cases s.editionFits l d <;> rfl

/-- No frame is received on a lane that is not up. -/
theorem execFrameReceived_down {l : Nat} {t e w f m : Bool} {r : Int} {d : List Byte} {s : State} (hdown : s.laneUp l = false) :
    execFrameReceived l t e w f m r d s = .next s := by
  simp only [execFrameReceived, hdown, Bool.false_eq_true, if_false, Bool.not_false, Bool.true_or, if_true]

theorem execFrameReceived_unheard {l : Nat} {t e w f m : Bool} {r : Int} {d : List Byte} {s : State} (hup : s.laneUp l = true)
    (hheard : (stampRx l s).frameHeard l d = false) : execFrameReceived l t e w f m r d s = .next (stampRx l s) := by
  simp only [execFrameReceived, hup, hheard, if_true, Bool.not_false, Bool.or_true]

theorem execFrameReceived_phyBad {l : Nat} {t e w f m : Bool} {r : Int} {d : List Byte} {s : State} (hup : s.laneUp l = true)
    (hheard : (stampRx l s).frameHeard l d = true) (hphy : s.phyError l t e w = true) :
    execFrameReceived l t e w f m r d s =
      .next ((stampRx l s).modLaneRun l fun x => { x with phyErrs := satInc 32 x.phyErrs }) := by
  simp only [execFrameReceived, hup, hheard, if_true, stampRx_laneUp, stampRx_phyError, hphy, Bool.not_true, Bool.or_self,
    Bool.false_eq_true, if_false]

theorem execFrameReceived_fcsBad {l : Nat} {t e w m : Bool} {r : Int} {d : List Byte} {s : State} (hup : s.laneUp l = true)
    (hheard : (stampRx l s).frameHeard l d = true) (hphy : s.phyError l t e w = false) :
    execFrameReceived l t e w false m r d s =
      .next ((stampRx l s).modMacLane l fun x => { x with fcs := satInc 32 x.fcs }) := by
  simp only [execFrameReceived, hup, hheard, if_true, stampRx_laneUp, stampRx_phyError, hphy, Bool.not_true, Bool.or_self,
    Bool.false_eq_true, if_false, Bool.not_false]

/-- What is made of a heard frame that is sound by its PHR and FCS: an unknown type and another site's frame are discarded; one
with the mesh extension passes the seen cache before it is judged. -/
def sortFrame (l : Nat) (micOk : Bool) (dbfs : Int) (d : List Byte) (s : State) : State :=
  let p := if (fld d 0 1).testBit 1 then seenFrame l (beNat (slice d 5 2)) (beNat (slice d 7 2)) s else (false, s)
  if 9 ≤ fld d 0 1 / 16 then s.modMacLane l fun m => { m with protocol := satInc 32 m.protocol }
  else if s.cfg.fed.controller != some (fld d 1 1 / 2) || fld d 1 1 % 2 == 0 then
    s.modMacLane l fun m => { m with foreign := satInc 32 m.foreign }
  else if p.1 then p.2 else judgeFrame l micOk dbfs d p.2

theorem execFrameReceived_sound {l : Nat} {t e w m : Bool} {r : Int} {d : List Byte} {s : State} (hup : s.laneUp l = true)
    (hheard : (stampRx l s).frameHeard l d = true) (hphy : s.phyError l t e w = false) :
    execFrameReceived l t e w true m r d s = .next (sortFrame l m r d (stampRx l s)) := by
  simp only [execFrameReceived, hup, hheard, if_true, stampRx_laneUp, stampRx_phyError, hphy, Bool.not_true, Bool.or_self,
    Bool.false_eq_true, if_false, sortFrame, judgeFrame, apply_ite Host.Outcome.next]

theorem sortFrame_unknownType {l : Nat} {m : Bool} {r : Int} {d : List Byte} {s : State} (htype : 9 ≤ fld d 0 1 / 16) :
    sortFrame l m r d s = s.modMacLane l fun x => { x with protocol := satInc 32 x.protocol } :=
  if_pos htype

theorem sortFrame_foreign {l : Nat} {m : Bool} {r : Int} {d : List Byte} {s : State} (htype : fld d 0 1 / 16 < 9)
    (hforeign : s.cfg.fed.controller ≠ some (fld d 1 1 / 2) ∨ fld d 1 1 % 2 = 0) :
    sortFrame l m r d s = s.modMacLane l fun x => { x with foreign := satInc 32 x.foreign } := by
  rw [sortFrame, if_neg (Nat.not_le.mpr htype), if_pos (by simpa using hforeign)]

section

variable {l : Nat} {m : Bool} {r : Int} {d : List Byte} {s : State} (htype : fld d 0 1 / 16 < 9)
  (hsite : s.cfg.fed.controller = some (fld d 1 1 / 2)) (hdown : fld d 1 1 % 2 = 1)
include htype hsite hdown

/-- A member's frame on this controller's site. -/
theorem sortFrame_ours :
    let p := if (fld d 0 1).testBit 1 then seenFrame l (beNat (slice d 5 2)) (beNat (slice d 7 2)) s else (false, s)
    sortFrame l m r d s = if p.1 then p.2 else judgeFrame l m r d p.2 := by
  have hours : ¬ (s.cfg.fed.controller != some (fld d 1 1 / 2) || fld d 1 1 % 2 == 0) = true := by simp [hsite, hdown]
  rw [sortFrame, if_neg (Nat.not_le.mpr htype), if_neg hours]

theorem sortFrame_direct (hdirect : (fld d 0 1).testBit 1 = false) : sortFrame l m r d s = judgeFrame l m r d s := by
  rw [sortFrame_ours htype hsite hdown, hdirect]
  rfl

theorem sortFrame_seen (hmesh : (fld d 0 1).testBit 1 = true)
    (hseen : s.vol.mac.seen.contains (beNat (slice d 5 2), beNat (slice d 7 2)) = true) :
    sortFrame l m r d s = s.modMacLane l fun m => { m with seenDisc := satInc 32 m.seenDisc } := by
  rw [sortFrame_ours htype hsite hdown, if_pos hmesh, seenFrame_seen hseen]
  rfl

theorem sortFrame_new (hmesh : (fld d 0 1).testBit 1 = true)
    (hnew : (beNat (slice d 5 2), beNat (slice d 7 2)) ∉ s.vol.mac.seen) (hother : beNat (slice d 5 2) ≠ s.cfg.mac.ctlNode)
    (hroom : s.vol.mac.seen.length < 4096) :
    sortFrame l m r d s = judgeFrame l m r d (s.remember (beNat (slice d 5 2), beNat (slice d 7 2))) := by
  rw [sortFrame_ours htype hsite hdown, if_pos hmesh, seenFrame_new hnew hother hroom]
  rfl

end

end Sys2Proof.Machine
end

section
/-! SUPPORT.
DATA frames of members (R249, R265 to R267, R497).
-/

namespace Sys2Proof.Machine

theorem tget_tmod_same {α : Type} (t : Tbl α) (i : Nat) (f : α → α) : tget (tmod t i f) i = (tget t i).map f := by
  induction t with
  | nil => rfl
  | cons e t ih =>
    obtain ⟨k, v⟩ := e
    by_cases hk : k = i
    · simp [tmod, tget, hk]
    · simpa [tmod, tget, hk] using ih

theorem modConn_conn_same (n : Nat) (f : Conn → Conn) (s : State) : (s.modConn n f).conn n = (s.conn n).map f :=
  tget_tmod_same _ _ _

@[simp] theorem countEvents_conn (k : Nat) (q : Option Nat) (x n : Nat) (s : State) :
    (countEvents k q x s).conn n = s.conn n := by
  simp only [State.conn, countEvents_ctl]

@[simp] theorem countEvents_rssiOf (k : Nat) (q : Option Nat) (x : Nat) (s : State) (l : Nat) (r : Int) :
    (countEvents k q x s).rssiOf l r = s.rssiOf l r :=
  eq_of_offPath (·.rssiOf l r) (fun _ => rfl) (countEvents_offPath k q x s)

/-! ### A DATA frame whose MIC has passed -/

/-- A DATA frame whose counter is above the last is noted: its counter, its count, and when and how loud it was heard. -/
def noteData (l n ctr : Nat) (r : Int) (s : State) : State :=
  (countEvents 0x0602 (some l) 1 (s.modConn n fun c => { c with ctrUp := ctr })).modConnRun n fun x =>
    { x with lastHeard := s.mtb, rssi := s.rssiOf l r, heardInEvent := true }

theorem noteData_conn {l n ctr : Nat} {r : Int} {c : Conn} {s : State} (hconn : s.conn n = some c) :
    (noteData l n ctr r s).conn n = some { c with ctrUp := ctr } := by
  show (countEvents 0x0602 (some l) 1 (s.modConn n fun c => { c with ctrUp := ctr })).conn n = _
  rw [countEvents_conn, modConn_conn_same, hconn, Option.map_some]

section

variable {l n ctr seq kind ack : Nat} {sync : Bool} {r : Int} {d : List Byte} {c : Conn} {s : State}
  (hconn : s.conn n = some c) (hlane : c.par.lane = l)
include hconn hlane

theorem dataFrame_stale (hctr : ctr ≤ c.ctrUp) :
    dataFrame l n ctr seq kind ack sync r d s = s.modMacLane l fun m => { m with stale := satInc 32 m.stale } := by
  simp only [dataFrame, hconn, hlane, ne_eq, not_true_eq_false, if_false, hctr, if_true]

/-- What a frame with a fresh counter does once it is noted: DISCONNECT ends the connection, and every other acknowledges and
brings its payload. -/
theorem dataFrame_fresh (hctr : c.ctrUp < ctr) :
    dataFrame l n ctr seq kind ack sync r d s =
      if kind = 0 ∧ (d.headD 0).toNat = 5 ∧ d ≠ [] then askEnd n (fld d 1 1) (noteData l n ctr r s)
      else
        let u := if sync then syncFrame n l seq c (noteData l n ctr r s)
          else (noteData l n ctr r s).modConnRun n fun x => { x with held := ackHeld ack x.held }
        if d.isEmpty then u else acceptSeq n l seq kind d u := by
  have hrssi : (countEvents 0x0602 (some l) 1 (s.modConn n fun c => { c with ctrUp := ctr })).rssiOf l r = s.rssiOf l r :=
    countEvents_rssiOf _ _ _ _ _ _
  simp only [dataFrame, hconn, hlane, ne_eq, not_true_eq_false, if_false, Nat.not_le.mpr hctr, hrssi]
  rfl

/-- An empty frame that is no sync only acknowledges. -/
theorem dataFrame_empty (hctr : c.ctrUp < ctr) :
    dataFrame l n ctr seq kind ack false r [] s =
      (noteData l n ctr r s).modConnRun n fun x => { x with held := ackHeld ack x.held } := by
  rw [dataFrame_fresh hconn hlane hctr, if_neg fun h => h.2.2 rfl]
  rfl

theorem dataFrame_payload (hctr : c.ctrUp < ctr) (hd : d ≠ []) (hkind : kind ≠ 0) :
    dataFrame l n ctr seq kind ack false r d s = acceptSeq n l seq kind d
      ((noteData l n ctr r s).modConnRun n fun x => { x with held := ackHeld ack x.held }) := by
  rw [dataFrame_fresh hconn hlane hctr, if_neg fun h => hkind h.1]
  exact if_neg (by simpa using hd)

/-- DISCONNECT ends its connection when a core takes the work. -/
theorem dataFrame_disconnects (hctr : c.ctrUp < ctr) (hkind : kind = 0) (hop : (d.headD 0).toNat = 5) (hd : d ≠ [])
    (hserved : (noteData l n ctr r s).servesNow 6 c.flow = true) :
    dataFrame l n ctr seq kind ack sync r d s =
      endConn n (fld d 1 1) (ranItem 6 c.flow n (noteData l n ctr r s)) := by
  rw [dataFrame_fresh hconn hlane hctr, if_pos ⟨hkind, hop, hd⟩]
  simp only [askEnd, noteData_conn hconn, hserved, if_true]

end

end Sys2Proof.Machine
end

section
/-! OBLIGATION.
Received frames, supervision, the seen cache and the site key (O35).
-/

namespace Sys2Proof.Machine

/-! ### The site key (R454) -/

theorem execSiteKeySwitch_switches {k : SiteKey} {a : Nat} {s : State} (hnext : s.cfg.keys.next = some k)
    (hatb : s.ctl.time.atb = some a) :
    ∃ t, execSiteKeySwitch s = .next t ∧ t.cfg.keys.current = some k ∧ t.cfg.keys.next = none ∧
      t.cfg.keys.former = s.cfg.keys.current ∧ t.vol = { s.vol with time := t.vol.time } ∧ t.ctl.conns = s.ctl.conns := by
  simp only [execSiteKeySwitch, hnext, hatb]
  exact ⟨_, rfl, rfl, rfl, congrArg (·.keys.current) (passToAtb_cfg _ s), passToAtb_vol _ s, passToAtb_conns _ s⟩

theorem execOldSiteKeyDiscard_discards (s : State) :
    ∃ t, execOldSiteKeyDiscard s = .next t ∧ t.cfg.keys = { s.cfg.keys with former := none } ∧
      t.vol = { s.vol with time := t.vol.time } ∧ t.ctl.conns = s.ctl.conns := by
  unfold execOldSiteKeyDiscard
  split
  · exact ⟨_, rfl, congrArg (fun g : Settings => { g.keys with former := none }) (passToAtb_cfg _ s), passToAtb_vol _ s,
      passToAtb_conns _ s⟩
  · exact ⟨_, rfl, rfl, rfl, rfl⟩

/-- Settles O35: each event by the branch that its premises select. -/
theorem macFramesAndKeys : Obligations.MacFramesAndKeys := by
  unfold Obligations.MacFramesAndKeys
  refine ⟨fun l t e w f m r d s => execFrameReceived_unheard,
    fun l n c d s => ⟨frameHeard_other, fun htype hdirect hnode hconn => frameHeard_direct htype hdirect (hnode ▸ hconn)⟩,
    fun l t e w f m r d s => execFrameReceived_phyBad, fun l t e w m r d s => execFrameReceived_fcsBad,
    fun l t e w m r d s hup hphy => ?direct, fun l t e w m r d s hup hphy => ?micBad,
    fun l d s hdirect => ⟨micFits_direct_iff hdirect, micFits_unkeyed⟩,
    fun l t e w m r d s hup hphy hheard htype hsite hdown hmesh hseen => ?seen, fun l t e w r d s hup hphy => ?new,
    fun l t e w m r d s hup hphy hheard => ⟨fun htype => ?unknownType, fun htype hforeign => ?foreign⟩,
    fun l t e w f m r d s => execFrameReceived_down, fun l n ctr seq k a b r d c s hconn hlane hctr => ?stale,
    fun l n ctr seq k a r c s hconn hlane hctr => ?empty, fun l n ctr seq k a r d c s hconn hlane hctr hd hkind => ?payload,
    fun l n ctr seq k a b r d c s hconn hlane hctr hop hd hkind => ?disconnects,
    fun n c s hconn hserved => ?ends, fun n c s hconn hwaits => ?endWaits, fun o m s => rfl,
    fun k a s => execSiteKeySwitch_switches, execOldSiteKeyDiscard_discards⟩
  case direct =>
    intro v type tail ctrl hheard htype hsite hdown hdirect hmic
    rw [exec, execFrameReceived_sound hup hheard hphy, sortFrame_direct (s := v) htype hsite hdown hdirect,
      judgeFrame_micGood hmic, hdirect]
    rfl
  case micBad =>
    intro v type ctrl hheard hkeyed htype hsite hdown hdirect hmic
    rw [exec, execFrameReceived_sound hup hheard hphy, sortFrame_direct (s := v) htype hsite hdown hdirect,
      judgeFrame_micBad hkeyed hmic]
  case seen =>
    rw [exec, execFrameReceived_sound hup hheard hphy, sortFrame_seen (s := stampRx l s) htype hsite hdown hmesh hseen]
  case new =>
    intro type tail key htype hsite hdown hmesh hnew hother hroom u hheard hmic hedition
    rw [exec, execFrameReceived_sound hup hheard hphy,
      sortFrame_new (s := u) htype hsite hdown hmesh hnew hother hroom,
      judgeFrame_micGood (.inl ⟨rfl, (remember_micFits u key l d).trans hmic⟩),
      if_pos ((remember_editionFits u key l d).trans hedition), hmesh, if_pos rfl, Nat.sub_sub d.length]
    rfl
  case unknownType => rw [exec, execFrameReceived_sound hup hheard hphy, sortFrame_unknownType htype]
  case foreign => rw [exec, execFrameReceived_sound hup hheard hphy, sortFrame_foreign (s := stampRx l s) htype hforeign]
  case stale => exact congrArg Host.Outcome.next (dataFrame_stale (s := stampRx l s) hconn hlane hctr)
  case empty => exact congrArg Host.Outcome.next (dataFrame_empty (s := stampRx l s) hconn hlane hctr)
  case payload => exact congrArg Host.Outcome.next (dataFrame_payload (s := stampRx l s) hconn hlane hctr hd hkind)
  case disconnects =>
    intro w hserved
    exact congrArg Host.Outcome.next (dataFrame_disconnects (s := stampRx l s) hconn hlane hctr hkind hop hd hserved)
  case ends => simp only [exec, execSupervisionTimeout, hconn, workOn, hserved, if_true]
  case endWaits => simp only [exec, execSupervisionTimeout, hconn, workOn, hwaits, Bool.false_eq_true, if_false]

end Sys2Proof.Machine
end

section
/-! OBLIGATION.
The conflict check of the windows wanted (O40).
-/

namespace Sys2Proof.Machine

/-! ### The window in the way of earliest start -/

/-- Of two windows in turn the one of earlier start stands for both. -/
theorem earliest_cons_cons (u x : Window) (l : List Window) :
    earliest (u :: x :: l) = earliest ((if x.start < u.start then x else u) :: l) := by
  simp only [earliest, List.foldl_cons]
  split <;> rfl

theorem earliest_cons (u : Window) (l : List Window) : ∃ v ∈ u :: l, earliest (u :: l) = some v := by
  induction l generalizing u with
  | nil => exact ⟨u, List.mem_cons_self, rfl⟩
  | cons x l ih =>
    obtain ⟨v, hv, heq⟩ := ih (if x.start < u.start then x else u)
    refine ⟨v, ?_, (earliest_cons_cons u x l).trans heq⟩
    rcases List.mem_cons.mp hv with rfl | hv
    · split <;> simp
    · simp [hv]

theorem eq_nil_of_earliest_none {l : List Window} (h : earliest l = none) : l = [] := by
  cases l with
  | nil => rfl
  | cons u l =>
    obtain ⟨v, -, hv⟩ := earliest_cons u l
    simp [hv] at h

theorem mem_of_earliest {l : List Window} {v : Window} (h : earliest l = some v) : v ∈ l := by
  cases l with
  | nil => simp [earliest] at h
  | cons u l =>
    obtain ⟨x, hx, heq⟩ := earliest_cons u l
    obtain rfl : x = v := Option.some.inj (heq.symm.trans h)
    exact hx

/-! ### The check of one window (R322) -/

/-- The windows of other members that contend on a segment. -/
def State.rivals (s : State) (n g : Nat) : List Window := (s.contending g).filter fun v => v.node != n

theorem mem_rivals {s : State} {n g : Nat} {v : Window} : v ∈ s.rivals n g ↔ v ∈ s.contending g ∧ v.node ≠ n := by
  simp [State.rivals]

/-- The rivals on a window's own segment that stand in its way: the shared rule may let one pass. -/
def State.blockers (s : State) (n g : Nat) (w : Window) : List Window :=
  (s.rivals n g).filter fun v => w.overlaps v && !sharedPasses (((s.segment g).map (·.rule)).getD 0) w v

/-- The first segment of a conflict set with a rival in the way, and the earliest of its rivals. -/
def State.setBlocker (s : State) (n g : Nat) (w : Window) : Option (Nat × Window) :=
  (((s.segment g).map (·.conflicts)).getD []).findSome? fun c => (earliest ((s.rivals n c).filter w.overlaps)).map fun v => (c, v)

theorem clashAt_eq (s : State) (n k g : Nat) (w : Window) :
    s.clashAt n (k, g, w) = match earliest (s.blockers n g w) with
      | some v => some (.conflict k g v)
      | none =>
        match s.setBlocker n g w with
        | some (c, v) => some (.conflict k c v)
        | none => if 16 ≤ (s.rivals n g).length then some (.capacity g) else none := rfl

/-- A window that passes finds no rival in its way, on its own segment or on its conflict set, and room on its own. -/
theorem clashAt_none {s : State} {n k g : Nat} {w : Window} (h : s.clashAt n (k, g, w) = none) :
    s.blockers n g w = [] ∧ s.setBlocker n g w = none ∧ (s.rivals n g).length < 16 := by
  rw [clashAt_eq] at h
  split at h
  · cases h
  · next hown =>
    split at h
    · cases h
    · next hset =>
      split at h
      · cases h
      · next hroom => exact ⟨eq_nil_of_earliest_none hown, hset, Nat.lt_of_not_le hroom⟩

theorem setBlocker_none {s : State} {n g h : Nat} {v w : Window} (hset : s.setBlocker n g w = none)
    (hh : h ∈ ((s.segment g).map (·.conflicts)).getD []) (hv : v ∈ s.rivals n h) : w.overlaps v = false := by
  have hnone := List.findSome?_eq_none_iff.mp hset h hh
  have hfree := eq_nil_of_earliest_none (Option.map_eq_none_iff.mp hnone)
  simpa using List.filter_eq_nil_iff.mp hfree v hv

theorem setBlocker_some {s : State} {n g h : Nat} {v w : Window} (hset : s.setBlocker n g w = some (h, v)) :
    h ∈ ((s.segment g).map (·.conflicts)).getD [] ∧ v ∈ s.rivals n h ∧ w.overlaps v = true := by
  obtain ⟨c, hc, hfound⟩ := List.exists_of_findSome?_eq_some hset
  obtain ⟨x, hx, heq⟩ := Option.map_eq_some_iff.mp hfound
  obtain ⟨rfl, rfl⟩ := Prod.mk.inj heq
  obtain ⟨hrival, hover⟩ := List.mem_filter.mp (mem_of_earliest hx)
  exact ⟨hc, hrival, hover⟩

/-- A conflict names the path index of the window wanted, and a rival that overlaps it on its own segment or on its conflict set. -/
theorem clashAt_conflict {s : State} {n i k g h : Nat} {v w : Window} (hclash : s.clashAt n (i, g, w) = some (.conflict k h v)) :
    i = k ∧ v ∈ s.rivals n h ∧ w.overlaps v = true ∧ (h = g ∨ h ∈ ((s.segment g).map (·.conflicts)).getD []) := by
  rw [clashAt_eq] at hclash
  split at hclash
  · next hown =>
    obtain ⟨rfl, rfl, rfl⟩ : i = k ∧ g = h ∧ _ = v := by simpa using hclash
    obtain ⟨hrival, hover⟩ := List.mem_filter.mp (mem_of_earliest hown)
    exact ⟨rfl, hrival, by simp_all, .inl rfl⟩
  · split at hclash
    · next hset =>
      obtain ⟨rfl, rfl, rfl⟩ : i = k ∧ _ = h ∧ _ = v := by simpa using hclash
      obtain ⟨hmem, hrival, hover⟩ := setBlocker_some hset
      exact ⟨rfl, hrival, hover, .inr hmem⟩
    · split at hclash <;> cases hclash

/-- Settles O40, from the check of each window wanted. -/
theorem conflictCheckIsSound : Obligations.ConflictCheckIsSound := by
  unfold Obligations.ConflictCheckIsSound
  refine ⟨fun s n want hfree k g w hmem => ?_, fun s n k h v want hclash => ?_⟩
  · obtain ⟨hown, hset, hroom⟩ := clashAt_none (List.findSome?_eq_none_iff.mp hfree _ hmem)
    refine ⟨fun v hv hother hover => ?_, fun h hh v hv hother => setBlocker_none hset hh (mem_rivals.mpr ⟨hv, hother⟩), hroom⟩
    have hpass := List.filter_eq_nil_iff.mp hown v (mem_rivals.mpr ⟨hv, hother⟩)
    simpa [hover] using hpass
  · obtain ⟨⟨i, g, w⟩, hmem, hfound⟩ := List.exists_of_findSome?_eq_some hclash
    obtain ⟨rfl, hrival, hover, hwhere⟩ := clashAt_conflict hfound
    obtain ⟨hv, hother⟩ := mem_rivals.mp hrival
    exact ⟨hother, hv, g, w, hmem, hover, hwhere⟩

end Sys2Proof.Machine
end

section
/-! SUPPORT.
What requests to peers and messages to the host leave of the Dyke table, what a change of every window leaves, and what pinning,
freeing and releasing windows leave of tasks and settings.
-/

namespace Sys2Proof.Machine

/-! ### What messages leave of the Dyke engine -/

/-- The control state and the run state of the Dyke engine: what no message and no request changes. -/
def State.dykePart (s : State) : Control × DykeRun := (s.ctl, s.vol.dyke)

theorem dykePart_ctl {s t : State} (h : t.dykePart = s.dykePart) : t.ctl = s.ctl := congrArg Prod.fst h
theorem dykePart_dyke {s t : State} (h : t.dykePart = s.dykePart) : t.vol.dyke = s.vol.dyke := congrArg Prod.snd h

theorem dykePart_of_offPath {s t : State} (h : t.offPath = s.offPath) : t.dykePart = s.dykePart :=
  eq_of_offPath State.dykePart (fun _ => rfl) h

/-- What every turn of a loop keeps, the loop keeps. -/
theorem foldl_keeps {α β σ : Type} (f : σ → β) (turn : σ → α → σ) (h : ∀ s a, f (turn s a) = f s) (l : List α) (s : σ) :
    f (l.foldl turn s) = f s := by
  induction l generalizing s with
  | nil => rfl
  | cons a l ih => rw [List.foldl_cons, ih, h]

@[simp] theorem sendMsg_dykePart (op : Nat) (d : List Byte) (s : State) : (sendMsg op d s).dykePart = s.dykePart :=
  dykePart_of_offPath (sendMsg_offPath op d s)
@[simp] theorem dykeEvent_dykePart (kind cause node seg : Nat) (s : State) : (dykeEvent kind cause node seg s).dykePart = s.dykePart :=
  sendMsg_dykePart ..
@[simp] theorem taskEvent_dykePart (no : Nat) (t : Task) (state node arrive : Nat) (s : State) :
    (taskEvent no t state node arrive s).dykePart = s.dykePart := sendMsg_dykePart ..
@[simp] theorem taskEvent_ctl (no : Nat) (t : Task) (state node arrive : Nat) (s : State) :
    (taskEvent no t state node arrive s).ctl = s.ctl := dykePart_ctl (taskEvent_dykePart ..)
@[simp] theorem taskEvent_cfg (no : Nat) (t : Task) (state node arrive : Nat) (s : State) :
    (taskEvent no t state node arrive s).cfg = s.cfg := congrArg (·.cfg) (taskEvent_ctl ..)
@[simp] theorem profileEvent_dykePart (kind node : Nat) (s : State) : (profileEvent kind node s).dykePart = s.dykePart :=
  sendMsg_dykePart ..
@[simp] theorem askAllot_dykePart (s : State) : (askAllot s).dykePart = s.dykePart := by
  unfold askAllot
  split
  · rfl
  · exact dykePart_of_offPath (enqueue_offPath _ s)
@[simp] theorem askAllot_ctl (s : State) : (askAllot s).ctl = s.ctl := dykePart_ctl (askAllot_dykePart s)
@[simp] theorem fedRequest_dykePart (p t : Nat) (b : List Byte) (s : State) : (fedRequest p t b s).2.dykePart = s.dykePart :=
  (dykePart_of_offPath (fedSend_offPath ..)).trans rfl

@[simp] theorem reserveAt_dykePart (node : Nat) (c : DykeClass) (pin : Bool) (owner : Nat) (l : List (Nat × Nat × Window))
    (s : State) : (reserveAt node c pin owner l s).2.dykePart = s.dykePart :=
  foldl_keeps (fun x : List (Nat × Nat × Bool) × State => x.2.dykePart) _ (fun _ _ => fedRequest_dykePart ..) _ ([], s)

@[simp] theorem releaseCopies_dykePart (node : Nat) (segs : List Nat) (s : State) :
    (releaseCopies node segs s).dykePart = s.dykePart :=
  foldl_keeps State.dykePart _ (fun _ _ => fedRequest_dykePart ..) _ s

/-! ### A change of every window -/

/-- A window after a change of every window was one of the same segment before it. -/
theorem exists_of_mem_mapWindows {s : State} {f : Nat → Window → Option Window} {e : Nat × List Window} {w : Window}
    (he : e ∈ (s.mapWindows f).ctl.dyke.windows) (hw : w ∈ e.2) :
    ∃ x ∈ s.ctl.dyke.windows, x.1 = e.1 ∧ ∃ v ∈ x.2, f x.1 v = some w := by
  obtain ⟨x, hx, heq⟩ := List.mem_filterMap.mp he
  dsimp only at heq
  split at heq
  · cases heq
  · obtain rfl := Option.some.inj heq
    obtain ⟨v, hv, hfv⟩ := List.mem_filterMap.mp hw
    exact ⟨x, hx, rfl, v, hv, hfv⟩

/-! ### Pinning a footprint (R326) -/

/-- A window of this side's table when the footprint of a member has been pinned. -/
def State.pinnedOn (s : State) (node g : Nat) (w : Window) : Window :=
  if w.node = node && (s.footprint node).contains g then w.pin else w

/-- The part of pinning that acts on this side's table and on the copies. -/
def State.footprintPinned (s : State) (node : Nat) : State :=
  (s.mapWindows fun g w => some (s.pinnedOn node g w)).mapCopies node fun g w =>
    some (if (s.footprint node).contains g then w.pin else w)

@[simp] theorem footprintPinned_windows (s : State) (node : Nat) : (s.footprintPinned node).ctl.dyke.windows =
    (s.mapWindows fun g w => some (s.pinnedOn node g w)).ctl.dyke.windows := rfl

theorem pinFootprint_dykePart (node : Nat) (s : State) : (pinFootprint node s).dykePart = (s.footprintPinned node).dykePart := by
  unfold pinFootprint
  dsimp only
  split
  · rw [apply_ite State.dykePart, dykeEvent_dykePart, ite_self]
    exact foldl_keeps State.dykePart _ (fun _ _ => reserveAt_dykePart ..) _ _
  · rw [apply_ite State.dykePart, dykeEvent_dykePart, ite_self]
    rfl

/-! ### What the end of an offer leaves (R334) -/

/-- The settings and the tasks: what neither windows nor copies touch. -/
def State.tasksPart (s : State) : Settings × Tbl Task := (s.cfg, s.ctl.dyke.tasks)

theorem tasksPart_of_dykePart {s t : State} (h : t.dykePart = s.dykePart) : t.tasksPart = s.tasksPart :=
  congrArg (fun c : Control => (c.cfg, c.dyke.tasks)) (dykePart_ctl h)

@[simp] theorem modAllot_tasksPart (node : Nat) (f : Allotment → Allotment) (s : State) :
    (s.modAllot node f).tasksPart = s.tasksPart := rfl
@[simp] theorem footprintPinned_tasksPart (node : Nat) (s : State) : (s.footprintPinned node).tasksPart = s.tasksPart := rfl
@[simp] theorem freeWindows_tasksPart (node : Nat) (keep : Nat → Window → Bool) (s : State) :
    (freeWindows node keep s).2.tasksPart = s.tasksPart := rfl
@[simp] theorem pinFootprint_tasksPart (node : Nat) (s : State) : (pinFootprint node s).tasksPart = s.tasksPart := by
  rw [tasksPart_of_dykePart (pinFootprint_dykePart node s), footprintPinned_tasksPart]
@[simp] theorem releaseCopies_tasksPart (node : Nat) (segs : List Nat) (s : State) :
    (releaseCopies node segs s).tasksPart = s.tasksPart := tasksPart_of_dykePart (releaseCopies_dykePart node segs s)

theorem withdrawOffer_tasksPart (node : Nat) (s : State) : (withdrawOffer node s).tasksPart = s.tasksPart := by
  simp only [withdrawOffer, releaseCopies_tasksPart, freeWindows_tasksPart, pinFootprint_tasksPart, modAllot_tasksPart]

@[simp] theorem withdrawOffer_cfg (node : Nat) (s : State) : (withdrawOffer node s).cfg = s.cfg :=
  congrArg Prod.fst (withdrawOffer_tasksPart node s)
@[simp] theorem withdrawOffer_tasks (node : Nat) (s : State) : (withdrawOffer node s).ctl.dyke.tasks = s.ctl.dyke.tasks :=
  congrArg Prod.snd (withdrawOffer_tasksPart node s)

end Sys2Proof.Machine
end

section
/-! OBLIGATION.
Tasks, the runs of the allotter and the tick boundary (O41).
-/

namespace Sys2Proof.Machine

/-! ### The opcodes of tasks (R332 to R335) -/

theorem runTaskQueue_nowhere {c : HostCmd} {b : State} (hseg : b.segment (fld c.packet.params 4 2) = none)
    (hroom : b.ctl.dyke.tasks.length < 8192) : runTaskQueue c b = .refuse erRange 4 := by
  simp only [runTaskQueue, hseg, Nat.not_le.mpr hroom, Bool.false_eq_true, if_false, if_true]

theorem runTaskAccept_held {c : HostCmd} {b : State} {t : Task} (h : tget b.ctl.dyke.tasks (fld c.packet.params 0 2) = some t) :
    runTaskAccept c b =
      if t.state ≠ .offered then .refuse erState (taskCode (some t.state))
      else if fld c.packet.params 2 1 = 1 then .accepted (returnTask (fld c.packet.params 0 2) 3 b) []
      else .accepted (taskEvent (fld c.packet.params 0 2) t 2 t.node (t.arrive % 65536) (freshFrame t.node
        ((b.modTask (fld c.packet.params 0 2) fun t => { t with state := .accepted }).modAllot t.node fun a =>
          { a with waiting := false }))) [] := by
  simp only [runTaskAccept, h]

theorem runTaskCancel_held {c : HostCmd} {b : State} {t : Task} (h : tget b.ctl.dyke.tasks (fld c.packet.params 0 2) = some t) :
    runTaskCancel c b = .accepted (endTask (fld c.packet.params 0 2) 8 b) [] := by
  simp only [runTaskCancel, h]

theorem runTaskCancel_unknown {c : HostCmd} {b : State} (h : tget b.ctl.dyke.tasks (fld c.packet.params 0 2) = none) :
    runTaskCancel c b = .refuse erState 0 := by
  simp only [runTaskCancel, h]

/-! ### The end of a task and of an offer (R334, R335) -/

/-- The task keeps its reference, is pending again, and bars the member that did not take it. -/
theorem returnTask_task {no : Nat} {t : Task} {s : State} (state : Nat) (h : tget s.ctl.dyke.tasks no = some t) :
    tget (returnTask no state s).ctl.dyke.tasks no = some { t with
      state := .pending, node := 0, bars := t.bars ++ [(t.node, s.clock + s.cfg.dyke.declineS * tickS)] } := by
  simp [returnTask, h, tget_tmod_same]

theorem endTask_unoffered {no state : Nat} {t : Task} {s : State} (h : tget s.ctl.dyke.tasks no = some t) (hoff : t.state ≠ .offered) :
    endTask no state s = taskEvent no t state t.node (if t.state = .accepted ∨ t.state = .arrived then t.arrive % 65536 else 0xFFFF)
      { s with ctl.dyke := { s.ctl.dyke with tasks := tdel s.ctl.dyke.tasks no } } := by
  simp only [endTask, h, if_neg hoff]

/-! ### The tick boundary (R314, R326) -/

/-- The tick is `t`, no window of it has ended but pinned ones, and no footprint is still due to be pinned. -/
structure Ticked (t : Nat) (s : State) : Prop where
  tick : s.tick = t
  due : s.vol.dyke.pinDue = []
  lives : ∀ e ∈ s.ctl.dyke.windows, ∀ w ∈ e.2, w.pinned = true ∨ t < w.stop

theorem Ticked.congr {t : Nat} {s u : State} (h : Ticked t s) (htime : u.ctl.time = s.ctl.time)
    (hdue : u.vol.dyke.pinDue = s.vol.dyke.pinDue) (hwindows : u.ctl.dyke.windows = s.ctl.dyke.windows) : Ticked t u where
  tick := by rw [← h.tick, State.tick, State.asn, htime]; rfl
  due := hdue.trans h.due
  lives := hwindows ▸ h.lives

theorem Ticked.of_dykePart {t : Nat} {s u : State} (hpart : u.dykePart = s.dykePart) (h : Ticked t s) : Ticked t u :=
  h.congr (congrArg (·.time) (dykePart_ctl hpart)) (congrArg (·.pinDue) (dykePart_dyke hpart))
    (congrArg (·.dyke.windows) (dykePart_ctl hpart))

theorem Ticked.ite {t : Nat} {a b : State} {c : Prop} [Decidable c] (ha : Ticked t a) (hb : Ticked t b) :
    Ticked t (if c then a else b) := by
  split
  · exact ha
  · exact hb

/-- A window stays one that has not ended when it is pinned. -/
theorem ticked_pinFootprint {t : Nat} {s : State} (h : Ticked t s) (node : Nat) : Ticked t (pinFootprint node s) := by
  refine Ticked.of_dykePart (pinFootprint_dykePart node s) ⟨h.tick, h.due, fun e he w hw => ?_⟩
  obtain ⟨x, hx, -, v, hv, hpin⟩ := exists_of_mem_mapWindows (footprintPinned_windows s node ▸ he) hw
  obtain rfl := Option.some.inj hpin
  unfold State.pinnedOn
  split
  · exact .inl rfl
  · exact h.lives x hx v hv

theorem ticked_taskArrived {t : Nat} {s : State} (h : Ticked t s) (node : Nat) : Ticked t (taskArrived node s) := by
  unfold taskArrived
  split
  · exact h
  · split
    · split
      · exact Ticked.of_dykePart (taskEvent_dykePart ..) (h.congr rfl rfl rfl)
      · exact h
    · exact h

theorem ticked_progress {t : Nat} {s : State} (h : Ticked t s) (node : Nat) : Ticked t (progress node s) := by
  have hturned : ∀ n, Ticked t (if (s.profile node).turnsTold < n then
      profileEvent 3 node (s.modProfile node fun f => { f with turnsTold := n }) else s) :=
    fun n => Ticked.ite (Ticked.of_dykePart (profileEvent_dykePart ..) (h.congr rfl rfl rfl)) h
  unfold progress
  split
  · exact h
  · refine Ticked.ite h (Ticked.ite (ticked_taskArrived (Ticked.of_dykePart (profileEvent_dykePart ..) ?_) node) (hturned _))
    exact (hturned _).congr rfl rfl rfl

theorem ticked_noteIdle {t : Nat} {s : State} (h : Ticked t s) : Ticked t (noteIdle s) := by
  unfold noteIdle
  exact Ticked.ite (h.congr rfl rfl rfl) (Ticked.of_dykePart (askAllot_dykePart _) (h.congr rfl rfl rfl))

/-- Every change of a loop keeps it. -/
theorem Ticked.foldl {t : Nat} {s : State} (h : Ticked t s) {f : State → Nat → State}
    (hf : ∀ u n, Ticked t u → Ticked t (f u n)) (l : List Nat) : Ticked t (l.foldl f s) := by
  induction l generalizing s with
  | nil => exact h
  | cons n l ih => exact ih (hf s n h)

/-- The windows that have ended are freed, here and among the copies, and what was due to be pinned is taken up. -/
theorem ticked_freed (s : State) :
    let live := fun (_ : Nat) (w : Window) => if !w.pinned && decide (w.stop ≤ s.tick) then none else some w
    let u := (tkeys (s.mapWindows live).ctl.dyke.copies).foldl (fun s n => s.mapCopies n live) (s.mapWindows live)
    Ticked s.tick { u with vol.dyke := { u.vol.dyke with pinDue := [] } } := by
  intro live u
  have hcopies : (u.ctl.time, u.ctl.dyke.windows) = ((s.mapWindows live).ctl.time, (s.mapWindows live).ctl.dyke.windows) :=
    foldl_keeps (fun s : State => (s.ctl.time, s.ctl.dyke.windows)) (fun s n => s.mapCopies n live) (fun _ _ => rfl) _ _
  obtain ⟨htime, hwindows⟩ := Prod.mk.inj hcopies
  have hfreed : Ticked s.tick { s.mapWindows live with vol.dyke := { s.vol.dyke with pinDue := [] } } := by
    refine ⟨rfl, rfl, fun e he w hw => ?_⟩
    obtain ⟨x, hx, -, v, hv, hlive⟩ := exists_of_mem_mapWindows he hw
    dsimp only [live] at hlive
    split at hlive
    · cases hlive
    · next hended =>
      obtain rfl := Option.some.inj hlive
      by_cases hpinned : v.pinned = true
      · exact .inl hpinned
      · exact .inr (by simpa [hpinned] using hended)
  exact hfreed.congr htime rfl hwindows

theorem execTickBoundary_ticked (s : State) :
    ∃ t, execTickBoundary s = .next t ∧ Ticked (passToAtb (atbOfAsn (5 * (s.tick + 1))) s).tick t :=
  have hpinned := (ticked_freed (passToAtb (atbOfAsn (5 * (s.tick + 1))) s)).foldl (fun _ n h => ticked_pinFootprint h n) _
  ⟨_, rfl, ticked_noteIdle (hpinned.foldl (fun _ n h => ticked_progress h n) _)⟩

/-- Settles O41: the opcodes by their branches, the runs of the allotter by whether a core takes the work, the tick by `Ticked`. -/
theorem taskOpcodesAndAllotter : Obligations.TaskOpcodesAndAllotter := by
  unfold Obligations.TaskOpcodesAndAllotter
  refine ⟨fun x => ?queue, fun s hnone => ?ask, ?nowhere, fun t => ?accept, fun t => ?decline, fun t => ?unoffered,
    fun t => ?cancel, ?unknown, fun s hserved => ⟨?_, ?_⟩, fun s hwaits => ⟨?_, ?_⟩, fun no t s htask hoffered => ?timeout,
    fun no n s => rfl, fun no t s htask hdeadline hpending => ?deadline, fun no t s htask harrived hrests => ?done,
    fun no t s htask hmoves => ?notDone, fun s => ?tick⟩
  case queue =>
    exact .of_run runTaskQueue (fun _ _ => rfl) fun c b ⟨hseg, hlong, hroom, hdir⟩ => by
      have hpasses : (x.rule == 0 && fld c.packet.params 6 1 == 1) = false := by simpa using hdir
      simp only [runTaskQueue, hseg, hpasses, decide_eq_true_eq, Nat.not_lt.mpr hlong, Nat.not_le.mpr hroom,
        Bool.false_eq_true, if_false, conclude_accepted]
  case ask => simp only [askAllot, hnone, Bool.false_eq_true, if_false]
  case nowhere =>
    exact .of_run runTaskQueue (fun _ _ => rfl) fun c b ⟨hseg, hroom⟩ => by
      rw [runTaskQueue_nowhere hseg hroom, conclude_refuse]
  case accept =>
    exact .of_run runTaskAccept (fun _ _ => rfl) fun c b ⟨htask, hoffered, hop⟩ => by
      rw [runTaskAccept_held htask, if_neg (not_not.mpr hoffered), if_neg (by simp [hop]), conclude_accepted]
  case decline =>
    exact .of_run runTaskAccept (fun _ _ => rfl) fun c b ⟨htask, hoffered, hop⟩ => by
      rw [runTaskAccept_held htask, if_neg (not_not.mpr hoffered), if_pos hop, conclude_accepted]
  case unoffered =>
    exact .of_run runTaskAccept (fun _ _ => rfl) fun c b ⟨htask, hstate⟩ => by
      rw [runTaskAccept_held htask, if_pos hstate, conclude_refuse]
  case cancel =>
    exact .of_run runTaskCancel (fun _ _ => rfl) fun c b htask => by rw [runTaskCancel_held htask, conclude_accepted]
  case unknown =>
    exact .of_run runTaskCancel (fun _ _ => rfl) fun c b htask => by rw [runTaskCancel_unknown htask, conclude_refuse]
  case refine_1 => exact congrArg Host.Outcome.next (workOn_served hserved)
  case refine_2 => exact congrArg Host.Outcome.next (workOn_served hserved)
  case refine_3 => exact congrArg Host.Outcome.next (workOn_waits hwaits)
  case refine_4 => exact congrArg Host.Outcome.next (workOn_waits hwaits)
  case timeout =>
    have hstate : s.taskState no = some .offered := by rw [State.taskState, htask, Option.map_some, hoffered]
    exact ⟨_, _, congrArg Host.Outcome.next (if_pos hstate), returnTask_task 4 htask, rfl, rfl, rfl⟩
  case deadline =>
    rw [exec, execTaskDeadlineExpiry]
    simp only [htask, if_pos (show t.deadlineS ≠ 0 ∧ (t.state = .pending ∨ t.state = .offered) from ⟨hdeadline, .inl hpending⟩)]
    rw [endTask_unoffered htask (by simp [hpending]), if_neg (by simp [hpending])]
  case done =>
    rw [exec, execTaskDone]
    simp only [htask, if_pos (show t.state = .arrived ∧ s.restsAt t.node no = true from ⟨harrived, hrests⟩)]
    rw [endTask_unoffered htask (by simp [harrived]), if_pos (.inr harrived)]
  case notDone => simp only [exec, execTaskDone, htask, hmoves, Bool.false_eq_true, and_false, if_false]
  case tick =>
    obtain ⟨t, hstep, htick, hdue, hlives⟩ := execTickBoundary_ticked s
    exact ⟨t, hstep, hdue, htick, htick.symm ▸ hlives⟩

end Sys2Proof.Machine
end

section
/-! SUPPORT.
Messages of a live peer (R402, R403): what a message that is accepted and taken comes to, and what its acceptance leaves.
-/

namespace Sys2Proof.Machine

/-- A message is taken when it is accepted, and a core takes its item. -/
theorem fedTaken_eq_some {h : FedHead} {s u : State} (ht : fedTaken h s = some u) :
    ∃ v, fedAccept h s = some v ∧ v.servesNow 8 (0x900 + h.src) = true ∧ u = ranItem 8 (0x900 + h.src) 0 v := by
  obtain ⟨v, hv, hran⟩ := Option.bind_eq_some_iff.mp ht
  split at hran
  · next hserved => exact ⟨v, hv, hserved, (Option.some.inj hran).symm⟩
  · cases hran

/-- The work of a message that is taken is done in the present step (R357). -/
theorem fedTake_taken {h : FedHead} {row : Work} {act : State → State} {s u : State} (ht : fedTaken h s = some u) :
    fedTake h row act s = .next (act u) := by
  obtain ⟨v, hv, hserved, rfl⟩ := fedTaken_eq_some ht
  simp only [fedTake, hv, fedItem, workOn_served hserved]

/-- A message of the stop path acts at its receipt, taken or not (R24). -/
theorem fedAtOnce_taken {h : FedHead} {act : State → State} {s u : State} (ht : fedTaken h s = some u) :
    fedAtOnce h act s = .next (act u) := by
  obtain ⟨v, hv, -, rfl⟩ := fedTaken_eq_some ht
  simp only [fedAtOnce, hv]

@[simp] theorem fedSend_ctl (p t x : Nat) (b : List Byte) (s : State) : (fedSend p t x b s).ctl = s.ctl :=
  offPath_ctl (fedSend_offPath p t x b s)

/-- The receipt of a message touches the peering and the path of work only. -/
theorem fedTaken_ctl {h : FedHead} {s u : State} (ht : fedTaken h s = some u) : u.ctl = s.ctl := by
  obtain ⟨v, hv, -, rfl⟩ := fedTaken_eq_some ht
  unfold fedAccept at hv
  split at hv
  · cases hv
  · split at hv
    · rw [offPath_ctl (ranItem_offPath ..), ← Option.some.inj hv, countEvents_ctl]
      rfl
    · cases hv

/-! ### Requests (R403) -/

theorem answer403_kept {h : FedHead} {act : State → (Nat × List Byte) × State} {r : FedResponse} {u : State}
    (hkept : ((u.peer h.src).getD PeerRun.start).responses.find? (fun x => x.txn == h.txn) = some r) :
    answer403 h act u = fedSend h.src r.type h.txn r.body u := by
  simp only [answer403, hkept]

theorem answer403_new {h : FedHead} {act : State → (Nat × List Byte) × State} {u : State}
    (hnew : ((u.peer h.src).getD PeerRun.start).responses.find? (fun x => x.txn == h.txn) = none) :
    answer403 h act u = fedRespond h (act u).1.1 (act u).1.2 (act u).2 := by
  simp only [answer403, hnew, fedRespond]

/-- A new request is acted on, and its response kept and sent. -/
theorem fedTake_news {h : FedHead} {row : Work} {act : State → (Nat × List Byte) × State} {s u : State} (hnews : FedNews h s u) :
    fedTake h row (answer403 h act) s = .next (fedRespond h (act u).1.1 (act u).1.2 (act u).2) := by
  rw [fedTake_taken hnews.1, answer403_new hnews.2]

@[simp] theorem fedRespond_ctl (h : FedHead) (type : Nat) (b : List Byte) (u : State) : (fedRespond h type b u).ctl = u.ctl :=
  fedSend_ctl ..

end Sys2Proof.Machine
end

section
/-! OBLIGATION.
Reservations across borders, at both ends (O50).
-/

namespace Sys2Proof.Machine

/-! ### RESERVE at the owner (R406 to R408) -/

/-- The segments wanted are all this controller's own. -/
def State.owns (s : State) (want : List (Nat × Nat × Window)) : Bool :=
  want.all fun e => match s.segment e.2.1 with
    | some x => x.owner == s.ctlId
    | none => false

theorem owns_of_owner {s : State} {want : List (Nat × Nat × Window)}
    (h : ∀ e ∈ want, (s.segment e.2.1).map Segment.owner = some s.ctlId) : s.owns want = true := by
  refine List.all_eq_true.mpr fun e he => ?_
  obtain ⟨x, hx, howner⟩ := Option.map_eq_some_iff.mp (h e he)
  simp [hx, howner]

/-- Counting a check moves no window, no tentative window and no segment. -/
theorem countCheck_offPath (s : State) : (countCheck s).offPath = (noteCheck s).offPath := countEvents_offPath ..

theorem clash_countCheck (n : Nat) (want : List (Nat × Nat × Window)) (s : State) : (countCheck s).clash n want = s.clash n want :=
  (eq_of_offPath (fun s => s.clash n want) (fun _ => rfl) (countCheck_offPath s)).trans rfl

/-- RESERVE between aligned controllers without a mismatch, for own segments and without the pin flag, comes to the conflict check. -/
theorem ownerReserve_checked {h : FedHead} {b : List Byte} {n : Nat} {want : List (Nat × Nat × Window)} {u : State}
    (hread : u.readReserve b = (n, false, want)) (hhere : u.atbAligned = true) (hthere : h.aligned = true)
    (hmatch : u.inMismatch = false) (howns : u.owns want = true) :
    ownerReserve h b u = match u.clash n want with
      | some (.conflict k g v) => ((7, reserveRsp 1 k g (some v)), countCheck u)
      | some (.capacity g) => ((7, reserveRsp 2 0 g none), countCheck u)
      | none => ((7, reserveRsp 0 0 0 none), (countCheck u).modFed fun f =>
          { f with tentative := f.tentative ++ [⟨h.src, h.txn, want.map fun e => (e.2.1, e.2.2)⟩] }) := by
  simp only [ownerReserve, hread, hhere, hthere, clash_countCheck, Bool.not_true, Bool.or_self, Bool.false_eq_true, if_false]
  refine (if_neg (show ¬(u.inMismatch || !u.owns want) = true from ?_)).trans rfl
  simp [hmatch, howns]

theorem ownerReserve_unaligned {h : FedHead} {b : List Byte} {u : State} (halign : (u.atbAligned && h.aligned) = false) :
    ownerReserve h b u = ((7, reserveRsp 3 0 0 none), u) := by
  have hnot : (!u.atbAligned || !h.aligned) = true := by rw [← Bool.not_and, halign]; rfl
  simp only [ownerReserve, hnot, if_true]

/-! ### COMMIT and RELEASE at the owner (R408 to R410) -/

theorem commitOf_tentative {h : FedHead} {b : List Byte} {x : Tentative} {e : Nat × Window} {l : List (Nat × Window)} {u : State}
    (hkind : beNat (slice b 0 1) = 1)
    (hfound : (u.vol.fed.tentative.find? fun t => t.peer == h.src && t.txn == beNat (slice b 1 4)) = some x)
    (hwindows : x.windows = e :: l) :
    commitOf h b u = ((9, beBytes 1 0), replaceWindows e.2.node x.windows (u.modFed fun f =>
      { f with tentative := f.tentative.filter fun t => !(t.peer == h.src && t.txn == beNat (slice b 1 4)) })) := by
  simp only [commitOf, hkind, if_true, ownerCommit, hfound, hwindows]

theorem commitOf_expired {h : FedHead} {b : List Byte} {u : State} (hkind : beNat (slice b 0 1) = 1)
    (hgone : (u.vol.fed.tentative.find? fun t => t.peer == h.src && t.txn == beNat (slice b 1 4)) = none) :
    commitOf h b u = ((9, beBytes 1 5), u) := by
  simp only [commitOf, hkind, if_true, ownerCommit, hgone]

/-- No window of the node is left on a segment that RELEASE names. -/
theorem ownerRelease_freed {h : FedHead} {b : List Byte} {u : State} {k : Nat} (hk : k < beNat (slice b 2 1))
    {e : Nat × List Window} (he : e ∈ (ownerRelease h b u).2.ctl.dyke.windows) (hseg : e.1 = beNat (slice b (3 + 2 * k) 2))
    {w : Window} (hw : w ∈ e.2) : w.node ≠ beNat (slice b 0 2) := by
  obtain ⟨x, -, hx, v, -, hkept⟩ := exists_of_mem_mapWindows he hw
  have hnamed : x.1 ∈ (List.range (beNat (slice b 2 1))).map fun k => beNat (slice b (3 + 2 * k) 2) :=
    List.mem_map.mpr ⟨k, List.mem_range.mpr hk, by rw [hx, hseg]⟩
  split at hkept
  · cases hkept
  · next hother =>
    obtain rfl := Option.some.inj hkept
    exact fun hnode => hother (by simp [hnode, hnamed])

/-! ### Responses at the requester (R408, R409) -/

theorem reserveRspWork_accepted {h : FedHead} {b : List Byte} {u : State} (hst : beNat (slice b 0 1) = 0) :
    reserveRspWork h b u = borderAccepted h.txn (endRequest h u) := by
  simp only [reserveRspWork, hst, if_true]

theorem commitAckWork_accepted {h : FedHead} {b : List Byte} {u : State} (hst : beNat (slice b 0 1) = 0) :
    commitAckWork h b u = borderAcked h.txn (endRequest h u) := by
  simp only [commitAckWork, hst, if_true]

/-- A status of 3 or more is none of the answers that carry a request on or name a window in the way. -/
theorem reserveRspWork_refused {h : FedHead} {b : List Byte} {r : BorderRun} {u : State} (hst : 3 ≤ beNat (slice b 0 1))
    (hrun : (endRequest h u).borderOf h.txn = some r) :
    reserveRspWork h b u = refuseBorder r erTimeout h.src 0xFFFF [] (endRequest h u) := by
  have h0 : beNat (slice b 0 1) ≠ 0 := by omega
  have h1 : beNat (slice b 0 1) ≠ 1 := by omega
  have h2 : beNat (slice b 0 1) ≠ 2 := by omega
  simp only [reserveRspWork, h0, h1, h2, hrun, if_false]

theorem commitAckWork_refused {h : FedHead} {b : List Byte} {r : BorderRun} {u : State} (hst : 3 ≤ beNat (slice b 0 1))
    (hrun : (endRequest h u).borderOf h.txn = some r) :
    commitAckWork h b u = refuseBorder r erTimeout h.src 0xFFFF [] (endRequest h u) := by
  have h0 : beNat (slice b 0 1) ≠ 0 := by omega
  simp only [commitAckWork, h0, hrun, if_false]

/-- Settles O50: each message that is taken comes to its work, and each request to its answer. -/
theorem borderMessages : Obligations.BorderMessages := by
  unfold Obligations.BorderMessages
  refine ⟨fun h b n want s u hnews hread hhere hthere hmatch hown hfree => ?held,
    fun h b n k g v want s u hnews hread hhere hthere hmatch hown hclash => ?conflict, fun h b s u hnews halign => ?unaligned,
    fun h b r s u ht hkept => ?again, fun h b x e l s u hnews hkind hfound hwindows => ?commit,
    fun h b s u hnews hkind hgone => ?expired, fun h b s u hnews => ?release, fun k x s => rfl,
    fun h b s u ht hst => ⟨?rspAccepted, ?ackAccepted⟩, fun h b r s u ht hst hrun => ⟨?rspRefused, ?ackRefused⟩,
    fun h s u ht => ⟨fedTake_taken ht, fedTake_taken ht, fedTake_taken ht, fedTake_taken ht⟩⟩
  case held =>
    rw [exec, execReserveReceived, fedTake_news hnews,
      ownerReserve_checked hread hhere hthere hmatch (owns_of_owner hown), hfree]
  case conflict =>
    rw [exec, execReserveReceived, fedTake_news hnews,
      ownerReserve_checked hread hhere hthere hmatch (owns_of_owner hown), hclash]
  case unaligned => rw [exec, execReserveReceived, fedTake_news hnews, ownerReserve_unaligned halign]
  case again =>
    have hrepeat : ∀ row act, fedTake h row (answer403 h act) s = .next (fedSend h.src r.type h.txn r.body u) :=
      fun row act => by rw [fedTake_taken ht, answer403_kept hkept]
    refine ⟨hrepeat .., hrepeat .., hrepeat .., fun n o => hrepeat .., fun o => hrepeat .., fun o n k => ?_,
      fun o n => hrepeat .., (fedSend_ctl ..).trans (fedTaken_ctl ht)⟩
    rw [exec, execSiteStopReceived, fedAtOnce_taken ht, answer403_kept hkept]
  case commit => rw [exec, execCommitReceived, fedTake_news hnews, commitOf_tentative hkind hfound hwindows]
  case expired => rw [exec, execCommitReceived, fedTake_news hnews, commitOf_expired hkind hgone]
  case release =>
    refine ⟨_, fedTake_news hnews, fun k hk e he hseg w hw => ?_⟩
    rw [fedRespond_ctl] at he
    exact ownerRelease_freed hk he hseg hw
  case rspAccepted => rw [exec, execReserveRspReceived, fedTake_taken ht, reserveRspWork_accepted hst]
  case ackAccepted => rw [exec, execCommitAckReceived, fedTake_taken ht, commitAckWork_accepted hst]
  case rspRefused => rw [exec, execReserveRspReceived, fedTake_taken ht, reserveRspWork_refused hst hrun]
  case ackRefused => rw [exec, execCommitAckReceived, fedTake_taken ht, commitAckWork_refused hst hrun]

end Sys2Proof.Machine
end

section
/-! OBLIGATION.
The SCHED opcodes (O43): a completion is the end of its command, what taking a core out of service does, and the branch of each opcode
that its premise selects.
-/

namespace Sys2Proof.Machine

/-! ### A command that completes as it is carried out (R100, R107) -/

theorem Live.session_lt {c : HostCmd} {s : State} (h : Live c s) : c.session < s.hsw.sessions.length := by
  by_contra hge
  have hclosed : s.sess c.session = default := List.getD_eq_default _ _ (Nat.le_of_not_lt hge)
  rw [Live, hclosed] at h
  exact Bool.false_ne_true h

theorem Live.post {c : HostCmd} {s : State} (h : Live c s) (v : Transport) (e : HeldEntry) : Live c (Machine.post v e s) :=
  h.of_sessions (post_sessions v e s)

/-- A completion leaves its session open. -/
theorem Live.finish {c : HostCmd} {s : State} (h : Live c s) (st d : Nat) (r : List Byte) :
    Live c (Machine.finish c st d r s) := by
  unfold Machine.finish
  dsimp only
  rw [if_pos (show (_ && _) = true from h)]
  split
  · split
    · refine Live.post (Live.post (Live.modSess h ?_ ?_) _ _) _ _ <;> exact fun _ => rfl
    · refine Live.post (Live.modSess h ?_ ?_) _ _ <;> exact fun _ => rfl
  · refine Live.post (Live.modSess h ?_ ?_) _ _ <;> exact fun _ => rfl

/-- A command that has completed is in flight no more, or awaits its durable completion. -/
theorem finish_unstarted {c : HostCmd} {s : State} (h : Live c s) (st d : Nat) (r : List Byte) :
    (((finish c st d r s).sess c.session).inFlight.any fun f => f.cmd.fetchSeq == c.fetchSeq && f.phase == .started) = false := by
  rw [finish_inFlight h h.session_lt, List.any_eq_false]
  intro f hf
  split at hf
  · obtain ⟨g, -, rfl⟩ := List.mem_map.mp hf
    split
    · simp
    · next hother => simp [hother]
  · have hother := (List.mem_filter.mp hf).2
    simp_all

/-- Two changes of an entry that agree on it make one list. -/
theorem modify_congr {α : Type} {l : List α} {k : Nat} {f g : α → α} (h : ∀ x, l[k]? = some x → f x = g x) :
    l.modify k f = l.modify k g := by
  refine List.ext_getElem? fun n => ?_
  rw [List.getElem?_modify, List.getElem?_modify]
  by_cases hn : k = n
  · subst hn
    cases hget : l[k]? with
    | none => rfl
    | some x => simp [h x hget]
  · simp [hn]

theorem modSess_self {s : State} {n : Nat} {f : Session → Session} (h : f (s.sess n) = s.sess n) : s.modSess n f = s := by
  have hsame : s.hsw.sessions.modify n f = s.hsw.sessions.modify n id :=
    modify_congr fun x hx => by simpa [State.sess, List.getD_eq_getElem?_getD, hx] using h
  rw [State.modSess, hsame, List.modify_id]

/-- The effect of a command that has completed is contained in no snapshot as the effect of one that waits. -/
theorem markEffected_finish {c : HostCmd} {s : State} (h : Live c s) (st d : Nat) (r : List Byte) :
    markEffected c (finish c st d r s) = finish c st d r s := by
  obtain ⟨hopen, hinst⟩ := Bool.and_eq_true_iff.mp (h.finish st d r)
  have hcurrent : ¬(((finish c st d r s).sess c.session).isOpen = false ∨ ((finish c st d r s).sess c.session).inst ≠ c.inst) := by
    simp [hopen, beq_iff_eq.mp hinst]
  rw [markEffected, if_neg hcurrent]
  exact modSess_self (if_neg (Bool.eq_false_iff.mp (finish_unstarted h st d r)))

/-- A command that completes by itself as it is carried out has no other effect on its session. -/
theorem conclude_deferred_finish {c : HostCmd} {b t : State} (h : Live c t) (st d : Nat) (r : List Byte) :
    conclude c b (.deferred (finish c st d r t)) = finish c st d r t := by
  rw [conclude]
  split
  · rfl
  · exact markEffected_finish h st d r

/-! ### Cores -/

theorem modCore_core {s : State} {k : Nat} {f : WorkCore → WorkCore} (h : k < s.vol.sched.cores.length) :
    (s.modCore k f).core k = f (s.core k) := by
  simp [State.modCore, State.core, List.getD_eq_getElem?_getD, h]

/-- Two changes of a core that agree on it are one. -/
theorem modCore_congr {s : State} {k : Nat} {f g : WorkCore → WorkCore} (h : f (s.core k) = g (s.core k)) :
    s.modCore k f = s.modCore k g := by
  have hsame : s.vol.sched.cores.modify k f = s.vol.sched.cores.modify k g :=
    modify_congr fun w hw => by simpa [State.core, List.getD_eq_getElem?_getD, hw] using h
  rw [State.modCore, State.modCore, hsame]

/-! ### Taking cores out of service (R364 to R366) -/

/-- A core in service may be taken out, but in active idle, with fewer than 8 out. -/
theorem coreError_takes {k : Nat} {s : State} (hin : (s.core k).state = .idle ∨ ∃ f p, (s.core k).state = .busy f p)
    (hmode : s.ctl.mode ≠ .idle) (hroom : s.coresOut < 8) : coreError k 0 s = none := by
  have hfew : ¬16 - s.coresOut ≤ 8 := by omega
  rcases hin with h | ⟨f, p, h⟩ <;> simp [coreError, h, hmode, hfew]

/-- One in service may not, with 8 out. -/
theorem coreError_full {k : Nat} {s : State} (hidle : (s.core k).state = .idle) (hmode : s.ctl.mode ≠ .idle)
    (hfull : 8 ≤ s.coresOut) : coreError k 0 s = some (erCapacity, 16 - s.coresOut) := by
  have hfew : 16 - s.coresOut ≤ 8 := by omega
  simp [coreError, hidle, hmode, hfew]

/-- One that is out is not taken out again. -/
theorem coreError_out {k : Nat} {s : State} (hout : (s.core k).state = .out) : coreError k 0 s = some (erState, 1) := by
  simp [coreError, hout]

/-- One that is idle does not return. -/
theorem coreError_back {k : Nat} {s : State} (hidle : (s.core k).state = .idle) : coreError k 1 s = some (erState, 0) := by
  simp [coreError, hidle]

theorem takeOut_idle {k : Nat} {s : State} (h : (s.core k).state = .idle) :
    takeOut k s = (releaseAffinity k (markOut k true s)).modCore k fun w => { w with state := .out } :=
  modCore_congr (by
    have hstate : ((releaseAffinity k (markOut k true s)).core k).state = .idle := h
    simp only [hstate])

theorem takeOut_busy {k f p : Nat} {s : State} (h : (s.core k).state = .busy f p) :
    takeOut k s = (releaseAffinity k (markOut k true s)).modCore k fun w => { w with state := .leaving f p } :=
  modCore_congr (by
    have hstate : ((releaseAffinity k (markOut k true s)).core k).state = .busy f p := h
    simp only [hstate])

theorem Live.takenOut {c : HostCmd} {s : State} (h : Live c s) (k : Nat) (f : WorkCore → WorkCore) :
    Live c ((releaseAffinity k (markOut k true s)).modCore k f) := h.of_sessions rfl

/-- An idle core goes out at once, and its SCHED.CORE completes. -/
theorem coreCommand_idle {c : HostCmd} {s : State} (hop : fld c.packet.params 1 1 = 0)
    (hidle : (s.core (fld c.packet.params 0 1)).state = .idle) (hmode : s.ctl.mode ≠ .idle) (hroom : s.coresOut < 8)
    (hlen : fld c.packet.params 0 1 < s.vol.sched.cores.length) :
    let k := fld c.packet.params 0 1
    let t := (releaseAffinity k (markOut k true s)).modCore k fun w => { w with state := .out }
    (coreCommand c s).1 = finish c 1 0 (leBytes 1 t.coresIn ++ leBytes 1 5 ++ zeros 2) t := by
  intro k t
  have hout : (t.core k).state = .out := congrArg WorkCore.state (modCore_core hlen)
  simp only [coreCommand, hop, coreError_takes (.inl hidle) hmode hroom, if_true, takeOut_idle hidle]
  simp only [show (t.core (fld c.packet.params 0 1)).state = .out from hout, t, k, coreReply, coreCode]

/-- A busy core begins to leave, and its SCHED.CORE waits for it. -/
theorem coreCommand_busy {c : HostCmd} {s : State} {f p : Nat} (hop : fld c.packet.params 1 1 = 0)
    (hbusy : (s.core (fld c.packet.params 0 1)).state = .busy f p) (hmode : s.ctl.mode ≠ .idle) (hroom : s.coresOut < 8)
    (hlen : fld c.packet.params 0 1 < s.vol.sched.cores.length) :
    let k := fld c.packet.params 0 1
    (coreCommand c s).1 = ((releaseAffinity k (markOut k true s)).modCore k fun w => { w with state := .leaving f p }).modCore k
      fun w => { w with cmds := [c] } := by
  intro k
  have hleaving : (((releaseAffinity k (markOut k true s)).modCore k fun w => { w with state := .leaving f p }).core k).state =
      .leaving f p := congrArg WorkCore.state (modCore_core hlen)
  simp only [coreCommand, hop, coreError_takes (.inr ⟨f, p, hbusy⟩) hmode hroom, if_true, takeOut_busy hbusy]
  rw [hleaving]

/-- A core that was not marked out is when it is marked. -/
theorem setBit_ne {m k : Nat} (h : m.testBit k = false) : setBit m k true ≠ m := by
  intro hsame
  have hset : (setBit m k true).testBit k = true := by simp [setBit, Nat.testBit_or, Nat.one_shiftLeft]
  rw [hsame, h] at hset
  exact Bool.false_ne_true hset

/-- SCHED.CORE on a core that is not leaving, when the checks pass. -/
theorem runSchedCore_passes {c : HostCmd} {s : State} {op : Nat} (hop : fld c.packet.params 1 1 = op)
    (hstays : ∀ f p, (s.core (fld c.packet.params 0 1)).state ≠ .leaving f p)
    (hpasses : coreError (fld c.packet.params 0 1) op s = none) : runSchedCore c s = .deferred (coreCommand c s).1 := by
  simp only [runSchedCore, hop, hpasses]

/-- SCHED.CORE on a core that is not leaving, when a check fails. -/
theorem runSchedCore_fails {c : HostCmd} {s : State} {op st d : Nat} (hop : fld c.packet.params 1 1 = op)
    (hstays : ∀ f p, (s.core (fld c.packet.params 0 1)).state ≠ .leaving f p)
    (hfails : coreError (fld c.packet.params 0 1) op s = some (st, d)) : runSchedCore c s = .refuse st d := by
  simp only [runSchedCore, hop, hfails]

/-- Settles O43: each row by the branch of its opcode that its premise selects. -/
theorem schedOpcodes : Obligations.SchedOpcodes := by
  unfold Obligations.SchedOpcodes
  refine ⟨?config, ?idle, fun f p => ?busy, ?full, ?gone, ?returned, ?status, ?cleared, ?hist, ?range, ?flows, ?items⟩
  case config => exact .of_run runSchedConfig (fun _ _ => rfl) fun _ _ _ => rfl
  case idle =>
    refine .of_live runSchedCore (fun _ _ => rfl) fun c b hlive ⟨hop, hidle, hmode, hroom, hlen⟩ => ?_
    have hpasses := coreError_takes (.inl hidle) hmode hroom
    rw [runSchedCore_passes hop (by simp [hidle]) hpasses, coreCommand_idle hop hidle hmode hroom hlen]
    exact conclude_deferred_finish (hlive.takenOut _ _) _ _ _
  case busy =>
    refine .of_run runSchedCore (fun _ _ => rfl) fun c b ⟨hop, hbusy, hmode, hroom, hlen, hunmarked⟩ => ?_
    have hpasses := coreError_takes (.inr ⟨f, p, hbusy⟩) hmode hroom
    rw [runSchedCore_passes hop (by simp [hbusy]) hpasses, coreCommand_busy hop hbusy hmode hroom hlen]
    exact if_neg fun hctl => setBit_ne hunmarked (congrArg (fun t : Control => t.cfg.sched.outMask) hctl)
  case full =>
    refine .of_run runSchedCore (fun _ _ => rfl) fun c b ⟨hop, hidle, hmode, hfull⟩ => ?_
    rw [runSchedCore_fails hop (by simp [hidle]) (coreError_full hidle hmode hfull), conclude_refuse]
  case gone =>
    refine .of_run runSchedCore (fun _ _ => rfl) fun c b ⟨hop, hout⟩ => ?_
    rw [runSchedCore_fails hop (by simp [hout]) (coreError_out hout), conclude_refuse]
  case returned =>
    refine .of_run runSchedCore (fun _ _ => rfl) fun c b ⟨hop, hidle⟩ => ?_
    rw [runSchedCore_fails hop (by simp [hidle]) (coreError_back hidle), conclude_refuse]
  case status =>
    exact .of_run runSchedStatus (fun _ _ => rfl) fun c b hread => by simp [runSchedStatus, hread]
  case cleared =>
    exact .of_run runSchedStatus (fun _ _ => rfl) fun c b hclear => by simp [runSchedStatus, hclear]
  case hist =>
    exact .of_run runSchedHist (fun _ _ => rfl) fun c b hread => by simp only [runSchedHist, if_neg hread, conclude_ok]
  case range =>
    exact .of_run runSchedFlowRead (fun _ _ => rfl) fun c b hpast => by
      simp only [runSchedFlowRead, if_pos hpast, conclude_refuse]
  case flows =>
    refine .of_run runSchedFlowRead (fun _ _ => rfl) fun c b ⟨hwithin, hread⟩ => ?_
    simp [runSchedFlowRead, Nat.not_lt.mpr hwithin, hread]
  case items => exact .of_run runSchedItemRead (fun _ _ => rfl) fun _ _ _ => rfl

end Sys2Proof.Machine
end

section
/-! OBLIGATION.
Dispatch and timers (O44): a statement that fails where the table of flows does not have rising keys.
-/

namespace Sys2Proof.Machine

/-! ### An item whose start puts it first among the items of its command (R361, R380) -/

/-- A SCHED.CONFIG of session 0, fetched with the first sequence number. -/
def twiceQueuedCmd : HostCmd :=
  { opcode := 0x0B01, session := 0, inst := 1, fetchSeq := 1, sqIndex := 0, fetchedAt := 0, packet := plainPacket }

/-- An item of the command in service on core 1, without a packet. -/
def packetlessItem : WorkItem := { newItem 7 0x880 0 with core := some 1, start := some 0, cmd := some (0, 1, 0x0B01, 1) }

/-- An item of the command whose packet is in the command queue of session 0. -/
def poisonedItem : WorkItem := { newItem 7 0x80B 0 with queue := some 0x810, cell := some 0, cmd := some (0, 1, 0x0B01, 1) }

/-- A module with the command in flight: its item on flow 0x880, which the table of flows holds first, has no packet, and the packet
of the one that is ready on flow 0x80B is poisoned. -/
def twiceQueued : State :=
  { servingModule with
    hsw.sessions := servingModule.hsw.sessions.modify 0 fun x => { x with inFlight := [⟨twiceQueuedCmd, .fetched, [], none⟩] }
    vol := { Volatile.start with
      sched := { Volatile.start.sched with
        cores := Volatile.start.sched.cores.modify 1 fun w => { w with state := .busy 0x880 4 }
        flows := [(0x880, { Flow.empty with items := [packetlessItem] }), (0x80B, { Flow.empty with items := [poisonedItem] })] }
      peat.queues := [(0x810, { PeatQueue.empty with
        packets := [{ node := 0, kind := 0, lost := false, trunc := false, poison := true, cell := 0, data := [] }] })] } }

theorem twiceQueued_chooses :
    (twiceQueued.core 0).state = .idle ∧ 0 < twiceQueued.vol.sched.cores.length ∧ chooseFrom twiceQueued 0 8 = some 0x80B ∧
      (twiceQueued.flow 0x80B).items = [poisonedItem] := by
  decide +kernel

/-- The first item of the command is the one without a packet. -/
theorem twiceQueued_unspoiled : twiceQueued.spoiled twiceQueuedCmd = none ∧ twiceQueued.late twiceQueuedCmd = false := by
  decide +kernel

theorem twiceQueued_itemCmd :
    (twiceQueued.modFlow 0x80B fun x => { x with
      items := [{ poisonedItem with core := some 0, start := some twiceQueued.mtb }] }).itemCmd poisonedItem =
      some twiceQueuedCmd := by
  decide +kernel

/-- The head item of a flow after an outcome. -/
def headAfter (f : Nat) : Host.Outcome State Fault Refusal → Option WorkItem
  | .next t => (t.flow f).items.head?
  | _ => none

/-- The start of the item writes its flow before flow 0x880, so the first item of the command is now the one whose packet is poisoned:
the command is refused, and does not run with its item. -/
theorem twiceQueued_refuses : (headAfter 0x80B (exec (.coreDispatch 0) twiceQueued)).bind WorkItem.run = none := by
  decide +kernel

/-- Refutes O44, in its clause of a command's item that starts: the premise that the command's packet is not poisoned is read before
the dispatch, and the start reads it after it has written the item's flow. In a table of flows whose keys do not rise, that write moves
the flow, and where a command has two items, the one that is found for it may then be the other. -/
theorem not_dispatchAndTimers : ¬ Obligations.DispatchAndTimers := by
  unfold Obligations.DispatchAndTimers
  rintro ⟨-, hcommand, -⟩
  obtain ⟨hidle, hlen, hchosen, hitems⟩ := twiceQueued_chooses
  obtain ⟨hsound, hintime⟩ := twiceQueued_unspoiled
  obtain ⟨t, hstep, -, hhead, -⟩ := hcommand 0 0x80B poisonedItem [] twiceQueuedCmd twiceQueued hidle hlen hchosen hitems rfl
    twiceQueued_itemCmd hsound hintime
  have hrefused := twiceQueued_refuses
  rw [hstep, headAfter, hhead] at hrefused
  cases hrefused

end Sys2Proof.Machine
end

section
/-! OBLIGATION.
What only moves one way, over every run (O60): the import counter, the security floors and the tamper states.
-/

namespace Sys2Proof.Machine

/-- A step moves the ledger in the allowed direction, but for the command that it takes from the queue. -/
theorem step_grows {s t : State} (h : step s = .next t) : ∃ l, ({ s with pending := l } : State).ledger.Grows t.ledger := by
  unfold step at h
  split at h
  case h_1 =>
    cases h
    exact ⟨s.pending, .of_eq (passTicks_ledger 1 s)⟩
  case h_2 c rest _ =>
    have hgrows := exec_grows c { s with pending := rest }
    rw [h] at hgrows
    exact ⟨rest, hgrows⟩

/-- The import counter, the floors and the tamper states of the second state have not gone back from those of the first
(R442, R448, R454, R461). -/
structure LatchesHold (s t : State) : Prop where
  importCtr : s.hsw.nv.importCtr ≤ t.hsw.nv.importCtr
  floor     : ∀ x, (s.side x).floor ≤ (t.side x).floor
  tamper    : ∀ x, (s.side x).security.record.state.rank ≤ (t.side x).security.record.state.rank

theorem LatchesHold.refl (s : State) : LatchesHold s s := ⟨Nat.le_refl _, fun _ => Nat.le_refl _, fun _ => Nat.le_refl _⟩

theorem LatchesHold.trans {s t u : State} (h : LatchesHold s t) (k : LatchesHold t u) : LatchesHold s u where
  importCtr := h.importCtr.trans k.importCtr
  floor x := (h.floor x).trans (k.floor x)
  tamper x := (h.tamper x).trans (k.tamper x)

theorem step_latchesHold {s t : State} (h : step s = .next t) : LatchesHold s t := by
  obtain ⟨_, hgrows⟩ := step_grows h
  exact ⟨hgrows.importCtr, fun x => by cases x; exacts [hgrows.floorA, hgrows.floorB],
    fun x => by cases x; exacts [hgrows.tamperA, hgrows.tamperB]⟩

theorem Reaches.latchesHold {s t : State} (h : Reaches s t) : LatchesHold s t :=
  h.keeps (P := LatchesHold s) (fun _ _ hu => ⟨hu.importCtr, hu.floor, hu.tamper⟩)
    (fun _ _ hnext hu => hu.trans (step_latchesHold hnext)) (.refl s)

/-- Shipping is the lowest of the tamper states. -/
theorem TamperState.rank_eq_zero_iff {x : TamperState} : x.rank = 0 ↔ x = .shipping := by cases x <;> decide

/-- A side is locked in the two tamper states that none comes after. -/
theorem SideState.locked_iff {d : SideState} : d.locked = true ↔ d.security.record.state.rank = 2 := by
  cases h : d.security.record.state <;> simp [SideState.locked, h, TamperState.rank]

/-- Settles O60: every step keeps the latches, so every run does; what is said of the shipping state and of the locked ones
follows from the rank of the tamper state. -/
theorem oneWayLatches : Obligations.OneWayLatches := by
  unfold Obligations.OneWayLatches
  intro s t hreach
  obtain ⟨himport, hfloor, htamper⟩ := hreach.latchesHold
  refine ⟨himport, hfloor .a, hfloor .b, htamper, fun x hleft => ?_, fun x hlocked => ?_⟩
  · rw [Ne, ← TamperState.rank_eq_zero_iff] at hleft ⊢
    have := htamper x
    omega
  · rw [SideState.locked_iff] at hlocked ⊢
    have := htamper x
    have := TamperState.rank_le (t.side x).security.record.state
    omega

end Sys2Proof.Machine
end

section
/-! OBLIGATION.
RECORD.READ and the recorder of the active side (O6).
-/

namespace Sys2Proof.Machine

/-- The recorder that is read is that of the side which holds the active role (R490). -/
theorem runRecordRead_active {c : HostCmd} {x : SideId} {b : State} (hactive : b.hsw.active = some x) :
    runRecordRead c b =
      let r := (b.side x).recorder
      let first := fld c.packet.params 0 4
      let tail := recordTail r.head
      let l := r.from (max tail first) (fld c.packet.params 4 1)
      let opened := r.isOpen b.mtb && l.any fun y => y.seq == r.head
      if r.head + 1 < first then .refuse erRange 0
      else .ok b (leBytes 4 r.head ++ leBytes 4 tail ++ leBytes 4 r.head ++
        leBytes 4 (if first = 0 then 0 else tail - first) ++ leBytes 4 (max tail first + l.length) ++ leBytes 1 l.length ++
        leBytes 1 (b2n opened) ++ zeros 2 ++ leBytes 4 r.opSeconds ++ leBytes 4 r.powerCycles ++ l.flatMap Record.bytes) := by
  simp only [runRecordRead, act_of_active hactive]

/-- A change of the other side leaves the side that holds the active role. -/
theorem modSide_other_act {x : SideId} {b : State} (hactive : b.hsw.active = some x) (f : SideState → SideState) :
    (b.modSide (otherSide x) f).act = b.act := by
  have hsame : (b.modSide (otherSide x) f).hsw = b.hsw := State.modSide_hsw ..
  rw [act_of_active hactive, act_of_active (hsame ▸ hactive)]
  cases x <;> rfl

/-- A read of records comes to the same on two states of the same active side and the same tick. -/
theorem runRecordRead_congr {c : HostCmd} {b u : State} (hact : u.act = b.act) (hmtb : u.mtb = b.mtb) :
    (∀ st d, runRecordRead c b = .refuse st d ↔ runRecordRead c u = .refuse st d) ∧
    (∀ reply, runRecordRead c b = .ok b reply ↔ runRecordRead c u = .ok u reply) := by
  simp only [runRecordRead, hact, hmtb]
  split <;> simp

/-- A packet for a side that does not hold the active role fails step 2 of R103. -/
theorem checkPacket_standby {op : Nat} {p : Packet} {s : State} (hheader : headerError op p s = none)
    (hside : namesStandby p s = true) (hop : op ≠ 0x0F05) : checkPacket op p s = some (erRole, sideNo s.actId) := by
  simp [checkPacket, hheader, targetError, hside, hop]

/-- Settles O6: the read answers from the active side alone, and a packet for another side fails its check. -/
theorem recordReadReadsTheActiveSide : Obligations.RecordReadReadsTheActiveSide := by
  unfold Obligations.RecordReadReadsTheActiveSide
  refine ⟨fun p x s hactive hready => ?read, fun c x r b hactive => ?blind,
    fun p s hfetch hopen hroom hheader hside => ?standby⟩
  case read =>
    have hstarted : (started 0x1201 p s).hsw.active = some x := (offPath_active (started_offPath 0x1201 p s)).trans hactive
    show Host.Outcome.next (serve 0x1201 runRecordRead p s) = _
    rw [serve_ready hready, runRecordRead_active hstarted]
    refine congrArg Host.Outcome.next ?_
    exact apply_ite (conclude _ _) ..
  case blind => exact runRecordRead_congr (modSide_other_act hactive _) (by cases x <;> rfl)
  case standby =>
    refine ⟨_, counted p s, exec_opcodeRow rfl s, ?_, ?_⟩
    · rw [serve_fails hfetch hopen hroom (checkPacket_standby hheader hside (by decide))]
      exact post_counted_pathOnly ..
    · exact serve_fails hfetch hopen hroom (checkPacket_standby hheader hside (by decide))

end Sys2Proof.Machine
end

section
/-! OBLIGATION.
The REDUN opcodes (O20): what a planned handover and a request for a checkpoint leave of the control state.
-/

namespace Sys2Proof.Machine

/-! ### Snapshots and the progress of a handover (R423, R435) -/

@[simp] theorem takeSnapshot_ctl (final : Bool) (s : State) : (takeSnapshot final s).ctl = s.ctl :=
  ranItem_ctl 9 0x881 0 (cutImage final s)

@[simp] theorem snapshotOrWait_ctl (final : Bool) (s : State) : (snapshotOrWait final s).ctl = s.ctl := by
  unfold snapshotOrWait
  split
  · exact takeSnapshot_ctl final s
  · split <;> rfl

/-- The refusal of a planned handover completes its command. -/
theorem refuseHandover_ctl {h : HandoverRun} {s : State} (hrun : s.vol.redun.handover = some h) (hlive : Live h.cmd s)
    (status detail : Nat) : (refuseHandover status detail s).ctl = s.ctl := by
  have hlive' : Live h.cmd { s with
      vol.redun.handover := none, vol.sluice.state := if s.hsw.warned then s.vol.sluice.state else .running } := hlive.of_sessions rfl
  simp only [refuseHandover, hrun]
  exact hlive'.finish_ctl ..

/-- A planned handover moves on without a change of the control state. -/
theorem handoverProgress_ctl {h : HandoverRun} {s : State} (hrun : s.vol.redun.handover = some h) (hlive : Live h.cmd s) :
    (handoverProgress s).ctl = s.ctl := by
  simp only [handoverProgress, hrun]
  split
  · rfl
  · split
    · exact snapshotOrWait_ctl true _
    · split
      · exact refuseHandover_ctl hrun hlive _ _
      · rfl

/-- Settles O20: each row by the branch of its opcode that its premise selects. -/
theorem redundancyOpcodes : Obligations.RedundancyOpcodes := by
  unfold Obligations.RedundancyOpcodes
  refine ⟨?config, ?handover, ?notEligible, ?locked, ?checkpoint, ?noSink, ?status, ?sideRead⟩
  case config => exact .of_run runRedunConfig (fun _ _ => rfl) fun _ _ _ => rfl
  case handover =>
    refine .of_live runRedunHandover (fun _ _ => rfl) fun c b hlive ⟨hok, hfree⟩ => ?_
    simp only [runRedunHandover, hok, hfree, Bool.not_true, Bool.false_eq_true, if_false]
    exact conclude_deferred_of_ctl (handoverProgress_ctl rfl (hlive.of_sessions rfl))
  case notEligible =>
    exact .of_run runRedunHandover (fun _ _ => rfl) fun c b hnot => by simp [runRedunHandover, hnot]
  case locked =>
    exact .of_run runRedunHandover (fun _ _ => rfl) fun c b ⟨hok, hheld⟩ => by simp [runRedunHandover, hok, hheld]
  case checkpoint =>
    refine .of_run runRedunCheckpoint (fun _ _ => rfl) fun c b hsink => ?_
    simp only [runRedunCheckpoint, hsink, Bool.not_true, Bool.false_eq_true, if_false]
    exact conclude_deferred_of_ctl (snapshotOrWait_ctl false _)
  case noSink =>
    exact .of_run runRedunCheckpoint (fun _ _ => rfl) fun c b hnone => by simp [runRedunCheckpoint, hnone]
  case status => exact .of_run runRedunStatus (fun _ _ => rfl) fun _ _ _ => rfl
  case sideRead =>
    refine .of_run runRedunSideRead (fun _ _ => rfl) fun c b _ => ?_
    simp only [runRedunSideRead, State.draw]
    cases (b.side ((targetSide? c.packet).getD b.actId)).ckpts.newest <;> rfl

end Sys2Proof.Machine
end

section
/-! OBLIGATION.
The FED opcodes (O48).
-/

namespace Sys2Proof.Machine

/-! ### FED.CONFIG and FED.PEER (R398 to R400) -/

/-- The settings that FED.CONFIG gives (chapter 17). -/
def fedSettings (ps : List Byte) (f : FedSettings) : FedSettings :=
  { f with controller := some (fld ps 0 1), district := fld ps 1 1, exports := fld ps 2 1, site := fld ps 4 4 }

/-- With the identity that is in force only the exports change. -/
theorem runFedConfig_same {c : HostCmd} {b : State} (hid : b.cfg.fed.controller = some (fld c.packet.params 0 1))
    (hdistrict : b.cfg.fed.district = fld c.packet.params 1 1) (hsite : b.cfg.fed.site = fld c.packet.params 4 4) :
    runFedConfig c b =
      .accepted { b with ctl.cfg.fed := { b.cfg.fed with exports := fld c.packet.params 2 1 } } [] := by
  simp [runFedConfig, ← hid, ← hdistrict, ← hsite]

/-- Another identifier begins every peering anew, where neither members nor live peers stand in its way. -/
theorem runFedConfig_free {c : HostCmd} {b : State} (hid : b.cfg.fed.controller ≠ some (fld c.packet.params 0 1))
    (hconns : b.ctl.conns = []) (hpeers : b.livePeers = []) :
    runFedConfig c b =
      .accepted (startPeerings { b with ctl.cfg.fed := fedSettings c.packet.params b.cfg.fed }) [] := by
  simp [runFedConfig, hid, hconns, hpeers, fedSettings]

theorem runFedConfig_held {c : HostCmd} {b : State} (hid : b.cfg.fed.controller ≠ some (fld c.packet.params 0 1))
    (hheld : b.ctl.conns.length + b.livePeers.length ≠ 0) :
    runFedConfig c b = .refuse erState (b.ctl.conns.length + b.livePeers.length) := by
  simp only [runFedConfig, ne_eq, hid, not_false_eq_true, true_or, true_and, if_pos hheld]

theorem runFedPeer_own {c : HostCmd} {b : State} (hown : b.cfg.fed.controller = some (fld c.packet.params 1 1)) :
    runFedPeer c b = .refuse erRange 1 := by
  simp only [runFedPeer, if_pos hown]

/-- An entry without a peering has no request that waits for its peer. -/
theorem runFedPeer_removes {c : HostCmd} {b : State} (hother : b.cfg.fed.controller ≠ some (fld c.packet.params 1 1))
    (hop : fld c.packet.params 0 1 = 0) (hnone : b.peer (fld c.packet.params 1 1) = none) :
    runFedPeer c b =
      let k := fld c.packet.params 1 1
      let t : State := { b with ctl.cfg.fed := { b.cfg.fed with peers := tdel b.cfg.fed.peers k } }
      let u := t.modFed fun f => { f with peers := tdel f.peers k }
      .accepted u (leBytes 1 u.cfg.fed.peers.length ++ zeros 3) := by
  simp only [runFedPeer, if_neg hother, if_pos hop, hnone, Option.bind_none]

/-- A peer that is not listed is refused where the table is full, or a session that it binds is bound, and else is added. -/
theorem runFedPeer_new {c : HostCmd} {b : State} (hother : b.cfg.fed.controller ≠ some (fld c.packet.params 1 1))
    (hop : fld c.packet.params 0 1 = 1) (hnew : tget b.cfg.fed.peers (fld c.packet.params 1 1) = none) :
    runFedPeer c b =
      let ps := c.packet.params
      let x : PeerSettings :=
        { flags := fld ps 2 1, ports := fld ps 3 1, ip := slice ps 4 16, udpPort := fld ps 20 2, pubA := slice ps 24 49,
          pubB := slice ps 73 49 }
      let t : State := { b with ctl.cfg.fed := { b.cfg.fed with peers := tput b.cfg.fed.peers (fld ps 1 1) x } }
      if 127 ≤ b.cfg.fed.peers.length then .refuse erCapacity 0
      else match b.boundOther (fld ps 1 1) (fld ps 2 1) with
        | some n => .refuse erConflict n
        | none => .accepted (startHandshake (fld ps 1 1) t) (leBytes 1 t.cfg.fed.peers.length ++ zeros 3) := by
  simp only [runFedPeer, if_neg hother, hop, Nat.one_ne_zero, if_false, hnew, Option.isNone_none, true_and, Option.map_none]
  rfl

/-! ### FED.HANDOVER and FED.SITE_STOP (R413, R418, R419) -/

/-- A connected member that no stop covers, aligned with a live target and without a task, is offered. -/
theorem runFedHandover_offers {c : HostCmd} {b : State} {k : Conn} (hconn : b.conn (fld c.packet.params 0 2) = some k)
    (hstop : b.covered (fld c.packet.params 0 2) = false) (halign : b.alignedWith (fld c.packet.params 2 1) = true)
    (htask : b.taskOf (fld c.packet.params 0 2) = none) (hlive : b.livePeers.contains (fld c.packet.params 2 1) = true) :
    runFedHandover c b =
      let ps := c.packet.params
      let r := fedRequest (fld ps 2 1) 12 (offerBody (b.offer (fld ps 0 2) (fld ps 3 1) (fld ps 4 1) k)) b
      let h : SourceHandover :=
        { node := fld ps 0 2, target := fld ps 2 1, txn := r.1, cmd := some c, stage := .offered, instant := 0 }
      .requested { r.2 with ctl.handovers := { r.2.ctl.handovers with sources := r.2.ctl.handovers.sources ++ [h] } } := by
  simp only [runFedHandover, hconn, hstop, halign, htask, hlive, Bool.not_true, Bool.false_eq_true, if_false]

/-- With none of its category in force a stop of cause 7 is raised on this controller. -/
theorem runFedSiteStop_raises {c : HostCmd} {b : State} (hrange : siteStopRange c.packet.params = none)
    (hop : fld c.packet.params 0 1 = 0) (hnone : b.suppressor 7 (fld c.packet.params 1 1) = none) :
    runFedSiteStop c b =
      let r := newStop 7 (fld c.packet.params 1 1) [] .siteOwn b
      .accepted r.2 (leBytes 2 r.1 ++ zeros 2) := by
  simp only [runFedSiteStop, hrange, if_pos hop, raiseStop, hnone, ite_self]

theorem runFedSiteStop_mayNot {c : HostCmd} {b : State} (hrange : siteStopRange c.packet.params = none)
    (hop : fld c.packet.params 0 1 = 1) (hnot : b.mayReleaseFor (fld c.packet.params 2 1) = false) :
    runFedSiteStop c b = .refuse erState (fld c.packet.params 2 1) := by
  simp [runFedSiteStop, hrange, hop, hnot]

/-- Settles O48: each row by the branch of its opcode that its premise selects. -/
theorem fedOpcodes : Obligations.FedOpcodes := by
  unfold Obligations.FedOpcodes
  refine ⟨?exports, ?identity, ?held, ?port, ?own, ?remove, ?add, ?full, ?unconnected, fun k => ?covered, fun k => ?offer,
    ?stop, ?mayNot, ?status⟩
  case exports =>
    exact .of_run runFedConfig (fun _ _ => rfl) fun c b ⟨hid, hdistrict, hsite⟩ => by
      rw [runFedConfig_same hid hdistrict hsite, conclude_accepted]
  case identity =>
    exact .of_run runFedConfig (fun _ _ => rfl) fun c b ⟨hid, hconns, hpeers⟩ => by
      rw [runFedConfig_free hid hconns hpeers, conclude_accepted]; rfl
  case held =>
    exact .of_run runFedConfig (fun _ _ => rfl) fun c b ⟨hid, hheld⟩ => by rw [runFedConfig_held hid hheld, conclude_refuse]
  case port =>
    exact .of_run runFedPort (fun _ _ => rfl) fun c b hon => by simp [runFedPort, hon]
  case own =>
    exact .of_run runFedPeer (fun _ _ => rfl) fun c b hown => by rw [runFedPeer_own hown, conclude_refuse]
  case remove =>
    exact .of_run runFedPeer (fun _ _ => rfl) fun c b ⟨hother, hop, hnone⟩ => by
      rw [runFedPeer_removes hother hop hnone, conclude_accepted]
  case add =>
    refine .of_run runFedPeer (fun _ _ => rfl) fun c b ⟨hother, hop, hnew, hroom, hfree⟩ => ?_
    simp only [runFedPeer_new hother hop hnew, if_neg (Nat.not_le.mpr hroom), hfree, conclude_accepted]
  case full =>
    refine .of_run runFedPeer (fun _ _ => rfl) fun c b ⟨hother, hop, hnew, hfull⟩ => ?_
    simp only [runFedPeer_new hother hop hnew, if_pos hfull, conclude_refuse]
  case unconnected =>
    exact .of_run runFedHandover (fun _ _ => rfl) fun c b hnone => by simp only [runFedHandover, hnone, conclude_refuse]
  case covered =>
    exact .of_run runFedHandover (fun _ _ => rfl) fun c b ⟨hconn, hstop⟩ => by
      simp only [runFedHandover, hconn, hstop, if_true, conclude_refuse]
  case offer =>
    exact .of_run runFedHandover (fun _ _ => rfl) fun c b ⟨hconn, hstop, halign, htask, hlive⟩ => by
      rw [runFedHandover_offers hconn hstop halign htask hlive]; rfl
  case stop =>
    exact .of_run runFedSiteStop (fun _ _ => rfl) fun c b ⟨hrange, hop, hnone⟩ => by
      rw [runFedSiteStop_raises hrange hop hnone, conclude_accepted]
  case mayNot =>
    exact .of_run runFedSiteStop (fun _ _ => rfl) fun c b ⟨hrange, hop, hnot⟩ => by
      rw [runFedSiteStop_mayNot hrange hop hnot, conclude_refuse]
  case status => exact .of_run runFedStatus (fun _ _ => rfl) fun _ _ _ => rfl

end Sys2Proof.Machine
end

section
/-! SUPPORT.
Messages and completions on their way out (R90 to R96, R117, R402, R491): what they leave of a state. Beside the
transports, the counters and the recorders they touch the peerings, of which they use up sequence numbers, and the interrupt causes,
of which they clear none.
-/

namespace Sys2Proof.Machine

/-- The state without what messages and completions change. -/
def State.offMessages (s : State) : State :=
  { s with
    hsw := { s.hsw with
      ring0 := default, ring1 := default, mnt := default, irqCause := 0#11, msixPba := 0
      ringErrCode := 0, ringErrSet := 0, ringErrCount := 0 }
    sideA := { s.sideA with recorder := default }
    sideB := { s.sideB with recorder := default }
    vol := { s.vol with counters := default, fed := { s.vol.fed with peers := [] } }
    out := { s.out with cqWrites := [], msix := [], site := [] }
    fresh := 0 }

/-- A peering without the number of the message that it sent last. -/
def PeerRun.unnumbered (r : PeerRun) : PeerRun := { r with seqSent := 0 }

/-- The peering of every number, without the number of its last message. -/
def State.peerings (s : State) (k : Nat) : Option PeerRun := (s.peer k).map PeerRun.unnumbered

/-- The second state comes from the first by messages and completions that go out. -/
structure Sent (s t : State) : Prop where
  rest     : t.offMessages = s.offMessages
  peerings : t.peerings = s.peerings
  causes   : ∀ k, s.hsw.irqCause.getLsbD k = true → t.hsw.irqCause.getLsbD k = true

theorem Sent.refl (s : State) : Sent s s := ⟨rfl, rfl, fun _ h => h⟩

theorem Sent.trans {s t u : State} (h : Sent s t) (k : Sent t u) : Sent s u :=
  ⟨k.rest.trans h.rest, k.peerings.trans h.peerings, fun n hn => k.causes n (h.causes n hn)⟩

theorem Sent.foldl {α : Type} {f : State → α → State} (h : ∀ s a, Sent s (f s a)) (l : List α) (s : State) :
    Sent s (l.foldl f s) := by
  induction l generalizing s with
  | nil => exact .refl s
  | cons a l ih => exact (h s a).trans (ih _)

theorem Sent.ite {s a b : State} {c : Prop} [Decidable c] (ha : Sent s a) (hb : Sent s b) : Sent s (if c then a else b) := by
  split
  · exact ha
  · exact hb

/-! ### Interrupts -/

theorem sendVector_sent (v : Nat) (s : State) : Sent s (sendVector v s) := by
  obtain ⟨p, o, h⟩ := sendVector_eq v s
  rw [h]
  exact ⟨rfl, rfl, fun _ hn => hn⟩

theorem raiseIrq_sent (k : Nat) (s : State) : Sent s (raiseIrq k s) where
  rest := by
    obtain ⟨i, p, o, h⟩ := raiseIrq_eq k s
    rw [h]
    rfl
  peerings := by
    obtain ⟨i, p, o, h⟩ := raiseIrq_eq k s
    rw [h]
    rfl
  causes n hn := by simp [hn]

theorem Sent.raised {s t : State} (h : Sent s t) (k : Nat) : Sent s (raiseIrq k t) := h.trans (raiseIrq_sent k t)

theorem ringError_sent (code set : Nat) (s : State) : Sent s (ringError code set s) := by
  unfold ringError
  refine .raised (s := s) ?_ irqRingErr
  exact ⟨rfl, rfl, fun _ h => h⟩

/-! ### Posting -/

theorem modRing_sent (n : Nat) (f : RingSet → RingSet) (s : State) : Sent s (s.modRing n f) :=
  .ite ⟨rfl, rfl, fun _ h => h⟩ ⟨rfl, rfl, fun _ h => h⟩

theorem cqWriteEnds_sent (n : Nat) (s : State) : Sent s (cqWriteEnds n s) := by
  have hdraw : Sent s s.draw.2 := ⟨rfl, rfl, fun _ h => h⟩
  refine hdraw.trans ?_
  show Sent s.draw.2 (ringErrorIf _ 5 n s.draw.2)
  rw [ringErrorIf_eq]
  exact .ite (ringError_sent 5 n _) (.refl _)

theorem ringWrite_sent (n : Nat) (h : HeldEntry) (s : State) : Sent s (ringWrite n h s) := by
  have hwritten : ∀ t : State, Sent t (cqWriteEnds n t) := cqWriteEnds_sent n
  have hnoted : ∀ (t : State) l, Sent t { t with out.cqWrites := l } := fun _ _ => ⟨rfl, rfl, fun _ h => h⟩
  unfold ringWrite
  dsimp only
  refine .ite (.trans ?_ (raiseIrq_sent n _)) ?_
  all_goals exact (modRing_sent n _ s).trans ((hnoted _ _).trans (hwritten _))

theorem ringPost_sent (n : Nat) (h : HeldEntry) (s : State) : Sent s (ringPost n h s) :=
  .ite (.refl s) (.ite (.ite (modRing_sent ..) (modRing_sent ..)) (ringWrite_sent n h s))

theorem mntPost_sent (h : HeldEntry) (s : State) : Sent s (mntPost h s) := by
  unfold mntPost
  refine .ite (.raised (s := s) ?_ irqMnt) (.ite ?_ ?_)
  all_goals exact ⟨rfl, rfl, fun _ h => h⟩

/-- A peering with another number of its last message is seen in no peering. -/
theorem peerings_numbered {s : State} {p : Nat} {r q : PeerRun} (h : s.peer p = some r) (hq : q.unnumbered = r.unnumbered)
    (l : List SiteMsg) :
    ({ s with vol.fed.peers := tput s.vol.fed.peers p q, out.site := l } : State).peerings = s.peerings := by
  funext k
  by_cases hk : k = p
  · subst hk
    rw [State.peerings, State.peerings, h]
    exact (congrArg _ (tget_tput_same ..)).trans (congrArg some hq)
  · exact congrArg (Option.map PeerRun.unnumbered) (tget_tput_other _ _ hk)

theorem fedSendAs_sent (again : Bool) (p type txn : Nat) (body : List Byte) (s : State) :
    Sent s (fedSendAs again p type txn body s) := by
  unfold fedSendAs
  split
  · next r hr =>
    refine .ite ⟨rfl, peerings_numbered hr ?_ _, fun _ h => h⟩ (.refl s)
    rfl
  · exact .refl s

theorem fedSend_sent (p type txn : Nat) (body : List Byte) (s : State) : Sent s (fedSend p type txn body s) :=
  fedSendAs_sent false p type txn body s

theorem sitePost_sent (n : Nat) (h : HeldEntry) (s : State) : Sent s (sitePost n h s) := by
  unfold sitePost
  dsimp only
  split
  · exact fedSend_sent ..
  · exact .refl s

theorem postOn_sent (v : Transport) (h : HeldEntry) (s : State) : Sent s (postOn v h s) := by
  cases v
  case ring0 => exact ringPost_sent 0 h s
  case ring1 => exact ringPost_sent 1 h s
  case mnt => exact mntPost_sent h s
  case site2 => exact sitePost_sent 2 h s
  case site3 => exact sitePost_sent 3 h s

theorem sendUncounted_sent (op : Nat) (d : List Byte) (s : State) : Sent s (sendUncounted op d s) :=
  .ite (postOn_sent ..) (.refl s)

theorem countEvents_sent (k : Nat) (q : Option Nat) (n : Nat) (s : State) : Sent s (countEvents k q n s) := by
  have hcounted : ∀ l, Sent s { s with vol.counters.counters := l } := fun _ => ⟨rfl, rfl, fun _ h => h⟩
  exact .ite (.refl s) ((hcounted _).trans (.foldl (fun _ _ => sendUncounted_sent ..) _ _))

theorem post_sent (v : Transport) (h : HeldEntry) (s : State) : Sent s (post v h s) :=
  (postOn_sent v h s).trans (countEvents_sent ..)

theorem sendMsg_sent (op : Nat) (d : List Byte) (s : State) : Sent s (sendMsg op d s) := .ite (post_sent ..) (.refl s)

theorem recordOn_sent (x : SideId) (code source : Nat) (d : List Byte) (s : State) : Sent s (recordOn x code source d s) := by
  cases x <;> (unfold recordOn State.modSide; dsimp only; split <;> exact ⟨rfl, rfl, fun _ h => h⟩)

theorem record_sent (code source : Nat) (d : List Byte) (s : State) : Sent s (record code source d s) := recordOn_sent ..

theorem recordOther_sent (family op : Nat) (s : State) : Sent s (recordOther family op s) := record_sent ..

theorem poolEvent_sent (kind q : Nat) (s : State) : Sent s (poolEvent kind q s) := (sendMsg_sent ..).trans (record_sent ..)

theorem fedEvent_sent (kind peer node detail : Nat) (s : State) : Sent s (fedEvent kind peer node detail s) := sendMsg_sent ..

/-! ### What is left as it was -/

/-- With the same peerings a peer has the same state, but for the number of its last message. -/
theorem peer_of_peerings {s t : State} {k : Nat} {r : PeerRun} (h : t.peerings = s.peerings) (hr : s.peer k = some r) :
    ∃ q, t.peer k = some q ∧ q.unnumbered = r.unnumbered := by
  have hk : (t.peer k).map PeerRun.unnumbered = some r.unnumbered := by
    rw [show (t.peer k).map PeerRun.unnumbered = s.peerings k from congrFun h k, State.peerings, hr]
    rfl
  exact Option.map_eq_some_iff.mp hk

namespace Sent

variable {s t : State}

/-- What does not read what messages change reads the same. -/
theorem reads {α : Type} (f : State → α) (hf : ∀ s : State, f s.offMessages = f s) (h : Sent s t) : f t = f s := by
  rw [← hf t, h.rest, hf]

theorem ctl (h : Sent s t) : t.ctl = s.ctl := h.reads State.ctl fun _ => rfl
theorem peat (h : Sent s t) : t.vol.peat = s.vol.peat := h.reads (·.vol.peat) fun _ => rfl
theorem sched (h : Sent s t) : t.vol.sched = s.vol.sched := h.reads (·.vol.sched) fun _ => rfl
theorem sessions (h : Sent s t) : t.hsw.sessions = s.hsw.sessions := h.reads (·.hsw.sessions) fun _ => rfl
theorem mtb (h : Sent s t) : t.mtb = s.mtb := h.reads State.mtb fun _ => rfl
theorem redun (h : Sent s t) : t.vol.redun = s.vol.redun := h.reads (·.vol.redun) fun _ => rfl
theorem queue (h : Sent s t) (q : Nat) : t.queue q = s.queue q := h.reads (·.queue q) fun _ => rfl
theorem servesNow (h : Sent s t) (kind flow : Nat) : t.servesNow kind flow = s.servesNow kind flow :=
  h.reads (·.servesNow kind flow) fun _ => rfl

/-- A peering that there was there still is, with the same state but for the number of its last message. -/
theorem peer {k : Nat} {r : PeerRun} (h : Sent s t) (hr : s.peer k = some r) :
    ∃ q, t.peer k = some q ∧ q.unnumbered = r.unnumbered := peer_of_peerings h.peerings hr

end Sent

end Sys2Proof.Machine
end

section
/-! OBLIGATION.
Peerings: handshake, liveness, status and coordinator (O49).
-/

namespace Sys2Proof.Machine

/-! ### The table of peers -/

/-- A change of an entry that keeps `g` of it is not seen in `g` of any entry. -/
theorem tget_tmod_map {α β : Type} {f : α → α} {g : α → β} (hg : ∀ x, g (f x) = g x) (t : Tbl α) (i j : Nat) :
    (tget (tmod t i f) j).map g = (tget t j).map g := by
  induction t with
  | nil => rfl
  | cons e t ih =>
    obtain ⟨k, v⟩ := e
    by_cases hi : k = i <;> by_cases hj : k = j <;> simp_all [tmod, tget]

/-- A change of an entry that a choice of entries does not see leaves the keys chosen. -/
theorem tmod_filter_keys {α : Type} {f : α → α} {p : Nat × α → Bool} (hp : ∀ k x, p (k, f x) = p (k, x)) (t : Tbl α) (i : Nat) :
    ((tmod t i f).filter p).map (·.1) = (t.filter p).map (·.1) := by
  induction t with
  | nil => rfl
  | cons e t ih =>
    obtain ⟨k, v⟩ := e
    have hsame : p (if k = i then (k, f v) else (k, v)) = p (k, v) := by split <;> simp [hp]
    have hkey : (if k = i then (k, f v) else (k, v)).1 = k := by split <;> rfl
    simp only [tmod, List.map_cons, List.filter_cons, hsame] at ih ⊢
    split <;> simp [ih, hkey]

theorem modPeer_peer (k : Nat) (f : PeerRun → PeerRun) (s : State) : (s.modPeer k f).peer k = (s.peer k).map f :=
  tget_tmod_same ..

/-! ### Items that run leave the peerings (R357) -/

theorem freeFlow_peerings (f : Nat) (s : State) : (freeFlow f s).peerings = s.peerings := by
  unfold freeFlow
  split <;> rfl

/-- An item without a packet leaves its flow. -/
theorem itemDone_peerings {i : WorkItem} (hnone : i.queue = none) (s : State) : (itemDone i s).peerings = s.peerings := by
  simp only [itemDone, packetRead, freePacket, hnone, freeFlow_peerings, (countEvents_sent _ _ _ _).peerings]
  rfl

theorem serveOn_peerings {i : WorkItem} (hnone : i.queue = none) (k : Nat) (s : State) : (serveOn k i s).peerings = s.peerings := by
  simp only [serveOn, itemDone_peerings hnone]
  show (if _ then countEvents 0x0103 (some i.flow) 1 s else s).peerings = s.peerings
  split
  · exact (countEvents_sent ..).peerings
  · rfl

theorem ranItem_peerings (kind flow node : Nat) (s : State) : (ranItem kind flow node s).peerings = s.peerings := by
  obtain h | ⟨k, i, hnone, h⟩ := ranItem_cases kind flow node s
  · rw [h]; rfl
  · rw [h, serveOn_peerings hnone]; rfl

/-- A peer's item runs: the peer is there as before, but for the number of its last message. -/
theorem ranItem_peer {kind flow node k : Nat} {r : PeerRun} {s : State} (h : s.peer k = some r) :
    ∃ q, (ranItem kind flow node s).peer k = some q ∧ q.unnumbered = r.unnumbered :=
  peer_of_peerings (ranItem_peerings ..) h

/-! ### Messages that are accepted (R400, R403) -/

theorem PeerRun.took_state (r : PeerRun) (seq : Nat) : (r.took seq).state = r.state := by
  unfold PeerRun.took
  split <;> rfl

theorem PeerRun.accepts_iff {r : PeerRun} {seq : Nat} : r.accepts seq = true ↔
    r.seqHigh < seq ∨ (r.seqHigh ≤ seq + 64 ∧ seq ≠ r.seqHigh ∧ seq ∉ r.seen) := by
  simp [PeerRun.accepts, and_assoc]

/-- A peering after a message with a header (R402, R403). -/
def PeerRun.heard (h : FedHead) (r : PeerRun) : PeerRun := { r.took h.seq with aligned := h.aligned, district := h.district }

/-- A message is accepted of a live peer with a number that it takes. -/
theorem fedAccept_eq_some_iff {h : FedHead} {s u : State} : fedAccept h s = some u ↔
    ∃ r, s.peer h.src = some r ∧ r.state = .live ∧ r.accepts h.seq = true ∧
      u = countEvents 0x0B01 none 1 (s.modPeer h.src (PeerRun.heard h)) := by
  unfold fedAccept
  split
  · next hnone => simp [hnone]
  · next r hr =>
    split
    · next hacc =>
      exact ⟨fun hu => ⟨r, hr, hacc.1, hacc.2, (Option.some.inj hu).symm⟩, fun ⟨_, _, _, _, hu⟩ => by rw [hu]; rfl⟩
    · next hnot =>
      refine ⟨nofun, fun ⟨q, hq, hlive, htakes, _⟩ => (hnot ?_).elim⟩
      rw [Option.some.inj (hr.symm.trans hq)]
      exact ⟨hlive, htakes⟩

/-- The acceptance of a message changes the state of no peering. -/
theorem fedTaken_states {h : FedHead} {s u : State} (ht : fedTaken h s = some u) (k : Nat) :
    (u.peer k).map PeerRun.state = (s.peer k).map PeerRun.state := by
  obtain ⟨v, hv, -, rfl⟩ := fedTaken_eq_some ht
  obtain ⟨r, -, -, -, rfl⟩ := fedAccept_eq_some_iff.mp hv
  have hnumbered := congrArg (Option.map PeerRun.state)
    (congrFun ((ranItem_peerings 8 (0x900 + h.src) 0 _).trans
      (countEvents_sent 0x0B01 none 1 (s.modPeer h.src (PeerRun.heard h))).peerings) k)
  simp only [State.peerings, Option.map_map] at hnumbered
  have hheard : ∀ r, (PeerRun.heard h r).state = r.state := fun r => PeerRun.took_state r h.seq
  exact hnumbered.trans (tget_tmod_map hheard ..)

/-- The peer of a message that is taken is in the table. -/
theorem fedTaken_peer {h : FedHead} {s u : State} (ht : fedTaken h s = some u) : ∃ r, u.peer h.src = some r := by
  obtain ⟨v, hv, -, -⟩ := fedTaken_eq_some ht
  obtain ⟨r, hr, -⟩ := fedAccept_eq_some_iff.mp hv
  have hstates := fedTaken_states ht h.src
  rw [hr] at hstates
  exact (Option.map_eq_some_iff.mp hstates).imp fun _ hq => hq.1

/-- A binding reads the state of peerings alone (R420). -/
theorem State.boundPeer_eq (s : State) (n : Nat) : s.boundPeer n =
    (s.cfg.fed.peers.find? fun e => e.2.flags.testBit (n - 1) && ((s.peer e.1).map PeerRun.state).any (· == .live)).map (·.1) := by
  unfold State.boundPeer
  congr 2
  funext e
  unfold State.peer
  cases tget s.vol.fed.peers e.1 <;> rfl

theorem fedTaken_boundPeer {h : FedHead} {s u : State} (ht : fedTaken h s = some u) (n : Nat) :
    u.boundPeer n = s.boundPeer n := by
  have hcfg : u.cfg = s.cfg := congrArg Control.cfg (fedTaken_ctl ht)
  simp only [State.boundPeer_eq, hcfg, fedTaken_states ht]

/-! ### Handshakes (R401, R404) -/

theorem peerSigned_of_ctl {s t : State} (h : t.ctl = s.ctl) (k : Nat) (msg sig : List Byte) :
    t.peerSigned k msg sig = s.peerSigned k msg sig := by
  have hcfg : t.cfg = s.cfg := congrArg Control.cfg h
  simp only [State.peerSigned, hcfg]

/-- A handshake that ends well makes its peer live. -/
theorem peerLive_peer {k : Nat} {r : PeerRun} {s : State} (h : s.peer k = some r) (edition : Nat) (hash : List Byte) :
    ∃ q, (peerLive k edition hash s).peer k = some q ∧ q.state = .live ∧ q.edition = edition ∧ q.seqHigh = 0 := by
  obtain ⟨q, hq, hsame⟩ := (fedEvent_sent 1 k 0 0 _).peer ((modPeer_peer k _ s).trans (congrArg _ h))
  exact ⟨q, hq, congrArg PeerRun.state hsame, congrArg PeerRun.edition hsame, congrArg PeerRun.seqHigh hsame⟩

theorem peerLive_ctl (k edition : Nat) (hash : List Byte) (s : State) : (peerLive k edition hash s).ctl = s.ctl :=
  (fedEvent_sent 1 k 0 0 _).ctl

/-- A handshake that fails leaves its peer absent. -/
theorem handshakeFailed_peer {k : Nat} {r : PeerRun} {s : State} (h : s.peer k = some r) :
    ∃ q, (handshakeFailed k s).peer k = some q ∧ q.state = .absent := by
  obtain ⟨q, hq, hsame⟩ := ((fedEvent_sent 3 k 0 0 _).trans (recordOther_sent 0x0E 0x0E80 _)).peer
    ((modPeer_peer k _ s).trans (congrArg _ h))
  exact ⟨q, hq, congrArg PeerRun.state hsame⟩

theorem handshakeFailed_ctl (k : Nat) (s : State) : (handshakeFailed k s).ctl = s.ctl :=
  ((fedEvent_sent 3 k 0 0 _).trans (recordOther_sent 0x0E 0x0E80 _)).ctl

/-- A HELLO of a common edition is answered. -/
theorem helloWork_answers {k : Nat} {b : List Byte} (hlength : b.length = 66) (hedition : fedEdition (fld b 65 1) ≠ 0) (s : State) :
    ∃ r, (helloWork k b s).peer k = some r ∧ r.state = .handshaking ∧ r.edition = fedEdition (fld b 65 1) ∧
      (∃ m ∈ (helloWork k b s).out.site, m.kind = 1 ∧ m.peer = k ∧ m.type = 2) ∧ (helloWork k b s).ctl = s.ctl := by
  simp only [helloWork, hedition, hlength, ne_eq, not_true_eq_false, or_self, if_false]
  exact ⟨_, tget_tput_same .., rfl, rfl, ⟨_, List.mem_append_right _ (List.mem_singleton_self _), rfl, rfl, rfl⟩, rfl⟩

/-- A HELLO_RSP makes the peer live where it verifies, and absent where it does not. -/
theorem helloRspWork_peer {k : Nat} {b : List Byte} {r : PeerRun} {s : State} (h : s.peer k = some r) (hedition : fld b 65 1 ≠ 0) :
    ∃ q, (helloRspWork k b s).peer k = some q ∧ (helloRspWork k b s).ctl = s.ctl ∧
      (s.peerSigned k (Config.sha384 (r.transcript ++ b.take 66)) ((b.drop 66).take 96) = true →
        q.state = .live ∧ q.edition = fld b 65 1 ∧ q.seqHigh = 0) ∧
      (s.peerSigned k (Config.sha384 (r.transcript ++ b.take 66)) ((b.drop 66).take 96) = false → q.state = .absent) := by
  simp only [helloRspWork, h]
  by_cases hsig : s.peerSigned k (Config.sha384 (r.transcript ++ b.take 66)) ((b.drop 66).take 96) = true
  · rw [if_pos ⟨hsig, hedition⟩]
    obtain ⟨q, hq, hlive⟩ := peerLive_peer (s := fedRaw k 3 _ s.draw.2) h (fld b 65 1) _
    exact ⟨q, hq, peerLive_ctl .., fun _ => hlive, fun hnot => absurd hsig (by simp [hnot])⟩
  · rw [if_neg fun hboth => hsig hboth.1]
    obtain ⟨q, hq, habsent⟩ := handshakeFailed_peer h
    exact ⟨q, hq, handshakeFailed_ctl .., fun hyes => absurd hyes hsig, fun _ => habsent⟩

/-- A HELLO_FIN makes the peer live where it verifies, and absent where it does not. -/
theorem helloFinWork_peer {k : Nat} {b : List Byte} {r : PeerRun} {s : State} (h : s.peer k = some r) :
    ∃ q, (helloFinWork k b s).peer k = some q ∧ (helloFinWork k b s).ctl = s.ctl ∧
      (s.peerSigned k (Config.sha384 r.transcript) b = true → q.state = .live ∧ q.edition = r.edition) ∧
      (s.peerSigned k (Config.sha384 r.transcript) b = false → q.state = .absent) := by
  simp only [helloFinWork, h]
  split
  · next hsig =>
    obtain ⟨q, hq, hlive, hed, -⟩ := peerLive_peer h r.edition _
    exact ⟨q, hq, peerLive_ctl .., fun _ => ⟨hlive, hed⟩, fun hnot => absurd hsig (by simp [hnot])⟩
  · next hsig =>
    obtain ⟨q, hq, habsent⟩ := handshakeFailed_peer h
    exact ⟨q, hq, handshakeFailed_ctl .., fun hyes => absurd hyes hsig, fun _ => habsent⟩

/-- The peer as the work of a handshake message finds it, and what that work reads of it. -/
theorem handshakeItem {k : Nat} {r : PeerRun} {s : State} (h : s.peer k = some r) (hserves : s.servesNow 8 (0x900 + k) = true)
    (row : Work) (act : State → State) :
    ∃ u q, fedItem k row act (countEvents 0x0B01 none 1 s) = act u ∧ u.peer k = some q ∧ q.unnumbered = r.unnumbered ∧
      u.ctl = s.ctl := by
  have hcounted := countEvents_sent 0x0B01 none 1 s
  obtain ⟨q, hq, hsame⟩ := hcounted.peer h
  obtain ⟨p, hp, hran⟩ := ranItem_peer (kind := 8) (flow := 0x900 + k) (node := 0) hq
  exact ⟨_, p, workOn_served ((hcounted.servesNow ..).trans hserves), hp, hran.trans hsame,
    (ranItem_ctl ..).trans hcounted.ctl⟩

/-- A handshake message is worked on where the peer is being handshaken on the right side of this controller. -/
theorem handshakes_counted {k : Nat} {r : PeerRun} {above : Bool} {s : State} (h : s.peer k = some r) (hstate : r.state = .handshaking)
    (hside : (if above then decide (s.ctlId ≤ k) else decide (k ≤ s.ctlId)) = true) :
    (countEvents 0x0B01 none 1 s).handshakes k above = true := by
  have hcounted := countEvents_sent 0x0B01 none 1 s
  obtain ⟨q, hq, hsame⟩ := hcounted.peer h
  have hq' : q.state = .handshaking := (congrArg PeerRun.state hsame).trans hstate
  have hid : (countEvents 0x0B01 none 1 s).ctlId = s.ctlId := congrArg (fun c => c.cfg.fed.controller.getD 0xFF) hcounted.ctl
  simp [State.handshakes, hq, hq', hid, hside]

/-! ### STATUS and the coordinator (R404, R411, R412) -/

/-- A peering with what the peer's STATUS tells, and whether its digest differs (R404, R412). -/
def PeerRun.withStatus (v : List Byte) (co : Nat) (g : List Byte) (diff : Bool) (r : PeerRun) : PeerRun :=
  { r with liveSet := v, coordinator := co, digest := g, digestDiff := diff, mismatch := r.mismatch && diff }

/-- A peer's STATUS is kept. -/
theorem statusWork_peer {h : FedHead} {r : PeerRun} {s : State} (hr : s.peer h.src = some r) (v : List Byte) (co : Nat) (g : List Byte) :
    ∃ q, (statusWork h v co g s).peer h.src = some q ∧ q.liveSet = v ∧ q.coordinator = co ∧ q.digest = g ∧
      q.digestDiff = (h.district == s.cfg.fed.district && g != s.ownDigest) ∧ (statusWork h v co g s).ctl = s.ctl := by
  have hkept := modPeer_peer h.src
    (PeerRun.withStatus v co g (h.district == s.cfg.fed.district && g != s.ownDigest)) s
  rw [hr] at hkept
  exact ⟨_, hkept, rfl, rfl, rfl, rfl, rfl⟩

/-- The coordinator is chosen by state and district alone (R411). -/
theorem modPeer_coordinator {f : PeerRun → PeerRun} (hstate : ∀ r, (f r).state = r.state)
    (hdistrict : ∀ r, (f r).district = r.district) (k : Nat) (s : State) : (s.modPeer k f).coordinator = s.coordinator := by
  have hsame : (s.modPeer k f).liveDistrict = s.liveDistrict :=
    congrArg (sput · s.ctlId) (tmod_filter_keys (fun _ r => by simp only [hstate, hdistrict]) ..)
  simp only [State.coordinator, hsame]
  rfl

theorem alarmCause_raised (s : State) : (raiseAlarm s).hsw.irqCause.getLsbD irqAlarm = true := by
  rw [raiseAlarm, raiseIrq_irqCause, BitVec.getLsbD_or, Bool.or_eq_true]
  exact .inr (by decide)

/-- A peering whose digest has differed for 1 s (R412). -/
def PeerRun.mismatched (r : PeerRun) : PeerRun := { r with mismatch := true }

theorem execDigestMismatchTimer_marks {k : Nat} {r : PeerRun} {s : State} (h : s.peer k = some r) (hlive : r.state = .live)
    (hdiff : r.digestDiff = true) (hnew : r.mismatch = false) :
    exec (.digestMismatchTimer k) s =
      .next (if s.coordinator = s.ctlId then fedEvent 5 k 0 0 (raiseAlarm (s.modPeer k PeerRun.mismatched))
        else s.modPeer k PeerRun.mismatched) := by
  have hco : (s.modPeer k PeerRun.mismatched).coordinator = s.coordinator :=
    modPeer_coordinator (f := PeerRun.mismatched) (fun _ => rfl) (fun _ => rfl) k s
  rw [← hco]
  show execDigestMismatchTimer k s = _
  simp only [execDigestMismatchTimer, h, hlive, hdiff, hnew, ne_eq, not_true_eq_false, Bool.not_true, Bool.false_eq_true, or_self,
    if_false]
  rfl

/-- A digest that has differed for 1 s puts the peer in mismatch, and a coordinator raises the alarm. -/
theorem digestMismatch {k : Nat} {r : PeerRun} {s : State} (h : s.peer k = some r) (hlive : r.state = .live)
    (hdiff : r.digestDiff = true) (hnew : r.mismatch = false) :
    ∃ t q, exec (.digestMismatchTimer k) s = .next t ∧ t.peer k = some q ∧ q.mismatch = true ∧
      (s.coordinator = s.ctlId → t.hsw.irqCause.getLsbD irqAlarm = true) := by
  have hmarked : (s.modPeer k PeerRun.mismatched).peer k = some r.mismatched := (modPeer_peer ..).trans (congrArg _ h)
  by_cases hself : s.coordinator = s.ctlId
  · have hsent := (raiseIrq_sent irqAlarm (s.modPeer k PeerRun.mismatched)).trans (fedEvent_sent 5 k 0 0 (raiseAlarm _))
    obtain ⟨q, hq, hsame⟩ := hsent.peer hmarked
    refine ⟨_, q, ?_, hq, congrArg PeerRun.mismatch hsame, fun _ => (fedEvent_sent 5 k 0 0 _).causes _ (alarmCause_raised _)⟩
    rw [execDigestMismatchTimer_marks h hlive hdiff hnew, if_pos hself]
  · refine ⟨_, _, ?_, hmarked, rfl, fun hme => absurd hme hself⟩
    rw [execDigestMismatchTimer_marks h hlive hdiff hnew, if_neg hself]

/-- Settles O49: each message by the work of its item, and each timer by the branch that its premise selects. -/
theorem peeringMessages : Obligations.PeeringMessages := by
  unfold Obligations.PeeringMessages
  refine ⟨fun h s => ?accepted, fun h d s hnone => ?discarded, fun h d s u hsome hbusy => ?waits, fun h d s u ht => ?rtcm,
    fun k b me x s hme hlisted hlow hlength hedition hserves => ?hello,
    fun k b r s hr hstate hhigh hedition hserves => ?helloRsp, fun k b r s hr hstate hlow hserves => ?helloFin,
    fun k r s hr hdown => ?retry, fun k r s hr hlive => ?lost, fun me s hme => ?statusSend, fun h v co g n s u ht => ?status,
    fun k x r q s hr hq => ?retransmit, fun k x s => ?expiry, fun e s hquiet hfound => ?disagreement,
    fun k r s hr hlive hdiff hnew => ?mismatch, fun h op n p r s u hr hedition hsite hsession hbound hfetch ht => ?ucp⟩
  case accepted =>
    rw [Option.isSome_iff_exists]
    constructor
    · rintro ⟨u, hu⟩
      obtain ⟨r, hr, hlive, hacc, -⟩ := fedAccept_eq_some_iff.mp hu
      exact ⟨r, hr, hlive, PeerRun.accepts_iff.mp hacc⟩
    · rintro ⟨r, hr, hlive, hacc⟩
      exact ⟨_, fedAccept_eq_some_iff.mpr ⟨r, hr, hlive, PeerRun.accepts_iff.mpr hacc, rfl⟩⟩
  case discarded =>
    show fedTake h _ _ s = _
    simp only [fedTake, hnone]
    rfl
  case waits =>
    show fedTake h _ _ s = _
    simp only [fedTake, hsome, fedItem, workOn_waits hbusy]
  case rtcm => exact fedTake_taken ht
  case hello =>
    have hcounted := countEvents_sent 0x0B01 none 1 s
    have hcfg : (countEvents 0x0B01 none 1 s).cfg = s.cfg := congrArg Control.cfg hcounted.ctl
    obtain ⟨r, hr, hstate, hed, hsent, hctl⟩ := helloWork_answers (k := k) hlength hedition
      (ranItem 8 (0x900 + k) 0 (countEvents 0x0B01 none 1 s))
    refine ⟨_, r, ?_, hr, hstate, hed, hsent, hctl.trans ((ranItem_ctl ..).trans hcounted.ctl)⟩
    show execHelloReceived k b s = _
    simp only [execHelloReceived, hcfg, hme, hlisted, if_neg (Nat.not_le.mpr hlow), fedItem,
      workOn_served ((hcounted.servesNow 8 (0x900 + k)).trans hserves)]
  case helloRsp =>
    obtain ⟨u, q, hwork, hq, hsame, hctl⟩ := handshakeItem hr hserves (.helloRspReceived k b) (helloRspWork k b)
    obtain ⟨p, hp, hkept, hgood, hbad⟩ := helloRspWork_peer hq hedition
    have htranscript : q.transcript = r.transcript := (congrArg PeerRun.transcript hsame :)
    rw [htranscript, peerSigned_of_ctl hctl] at hgood hbad
    refine ⟨_, p, ?_, hp, hkept.trans hctl, hgood, hbad⟩
    show execHelloRspReceived k b s = _
    simp only [execHelloRspReceived, handshakes_counted (above := true) hr hstate (by simp [hhigh]), if_true, hwork]
  case helloFin =>
    obtain ⟨u, q, hwork, hq, hsame, hctl⟩ := handshakeItem hr hserves (.helloFinReceived k b) (helloFinWork k b)
    obtain ⟨p, hp, hkept, hgood, hbad⟩ := helloFinWork_peer (b := b) hq
    have htranscript : q.transcript = r.transcript := (congrArg PeerRun.transcript hsame :)
    have hed : q.edition = r.edition := (congrArg PeerRun.edition hsame :)
    rw [htranscript, peerSigned_of_ctl hctl] at hgood hbad
    rw [hed] at hgood
    refine ⟨_, p, ?_, hp, hkept.trans hctl, hgood, hbad⟩
    show execHelloFinReceived k b s = _
    simp only [execHelloFinReceived, handshakes_counted (above := false) hr hstate (by simp [hlow]), if_true, hwork]
  case retry =>
    show execHandshakeRetry k s = _
    simp only [execHandshakeRetry, hr, if_neg hdown]
  case lost =>
    show execPeerLivenessTimeout k s = _
    simp only [execPeerLivenessTimeout, hr, hlive, ne_eq, not_true_eq_false, if_false]
  case statusSend =>
    show execFedStatusSend s = _
    simp only [execFedStatusSend, hme, Option.isNone_some, Bool.false_eq_true, if_false]
  case status =>
    obtain ⟨r, hr⟩ := fedTaken_peer ht
    obtain ⟨q, hq, hset, hco, hdigest, hdiff, hctl⟩ := statusWork_peer hr v co g
    have hcfg : u.cfg = s.cfg := congrArg Control.cfg (fedTaken_ctl ht)
    exact ⟨_, q, fedTake_taken ht, hq, hset, hco, hdigest, hcfg ▸ hdiff, hctl.trans (fedTaken_ctl ht)⟩
  case retransmit =>
    show execFedRetransmit k x s = _
    simp only [execFedRetransmit, hr, Option.bind_some, hq]
  case expiry => rfl
  case disagreement =>
    show execCoordinatorDisagreementTimer s = _
    simp only [execCoordinatorDisagreementTimer, hfound, hquiet, Bool.false_eq_true, if_false]
  case mismatch => exact digestMismatch hr hlive hdiff hnew
  case ucp =>
    have hpeer : tget s.vol.fed.peers h.src = some r := hr
    have hmod : n % 4 = n := by omega
    have hub : u.boundPeer n = some h.src := (fedTaken_boundPeer ht n).trans hbound
    show execFedUcpReceived h op p s = _
    simp only [execFedUcpReceived, hpeer, hedition, hsession, hmod, hfetch, le_refl, decide_true, Bool.not_true, Bool.and_false,
      Bool.or_self, Bool.false_eq_true, if_false, fedTake_taken ht, ucpWork, hub, beq_self_eq_true, if_true]

end Sys2Proof.Machine
end

section
/-! OBLIGATION.
Handing a member over (O51): Table Fed-3 at the target and at the source.
-/

namespace Sys2Proof.Machine

/-! ### What of the control state a handover moves -/

/-- The connections, the Dyke state and the handovers. -/
def State.memberState (s : State) : Tbl Conn × DykeCtl × HandoverCtl := (s.ctl.conns, s.ctl.dyke, s.ctl.handovers)

theorem memberState_of_ctl {s t : State} (h : t.ctl = s.ctl) : t.memberState = s.memberState := by
  simp only [State.memberState, h]

/-- A completion touches no member, whether its session is still open or not. -/
theorem finish_memberState (c : HostCmd) (status detail : Nat) (reply : List Byte) (s : State) :
    (finish c status detail reply s).memberState = s.memberState := by
  by_cases hlive : ((s.sess c.session).isOpen && (s.sess c.session).inst == c.inst) = true
  · exact memberState_of_ctl (offPath_ctl (finish_offPath hlive ..))
  · simp only [finish, if_neg hlive, listLate]
    split <;> rfl

theorem tellOutcome_memberState (x : SourceHandover) (outcome : Nat) (s : State) :
    (tellOutcome x outcome s).memberState = s.memberState := by
  have hevent : (fedEvent 6 x.target x.node outcome s).memberState = s.memberState :=
    memberState_of_ctl (offPath_ctl (sendMsg_offPath ..))
  unfold tellOutcome
  dsimp only
  split
  · rw [finish_memberState, hevent]
  · exact hevent

theorem reclass_memberState (no : Nat) (f : StopMember → StopMember) (s : State) : (reclass no f s).memberState = s.memberState := by
  unfold reclass
  split
  · rfl
  · dsimp only
    split
    · rw [memberState_of_ctl (stopStatus_ctl ..)]
      rfl
    · rfl

theorem reclassAll_memberState (f : Stop → StopMember → StopMember) (s : State) :
    (reclassAll f s).memberState = s.memberState := by
  unfold reclassAll
  induction s.stops generalizing s with
  | nil => rfl
  | cons x l ih => rw [List.foldl_cons, ih, reclass_memberState]

/-! ### The member's queues and timers -/

theorem cancelTimers_offPath (flow kind : Nat) (s : State) : (cancelTimers flow kind s).offPath = s.offPath :=
  foldl_offPath _ (fun s i => removeItem_offPath i s) _ _

theorem dropQueue_offPath (q : Nat) (s : State) : (dropQueue q s).offPath = s.offPath := by
  simp only [dropQueue, watermarks_offPath]
  exact foldl_offPath _ (fun s p => unlink_offPath p s) _ s

theorem armFrame_ctl (node : Nat) (s : State) : (armFrame node s).ctl = s.ctl := by
  unfold armFrame
  split
  · rfl
  · dsimp only
    split
    · rfl
    · unfold armTimer
      split
      · exact recordOther_ctl ..
      · rfl

/-- Of the control state the frames of a member begin with its profile alone. -/
theorem beginFrames_keeps {α : Type} (f : Control → α)
    (hf : ∀ (k : Control) p, f { k with dyke := { k.dyke with profiles := p } } = f k) (node : Nat) (s : State) :
    f (beginFrames node s).ctl = f s.ctl := by
  unfold beginFrames
  split
  · rfl
  · rw [armFrame_ctl]
    exact hf ..

/-! ### At the target (R414 to R416) -/

/-- A member that is not connected here is taken over: its connection is the one that was staged. -/
theorem adoptMember_new {x : TargetHandover} {s : State} (hnew : s.connOfMember x.conn.memberId = none) :
    (adoptMember x s).conn x.offer.node = some x.conn ∧ (adoptMember x s).ctl.handovers = s.ctl.handovers ∧
      (adoptMember x s).ctl.dyke.windows = s.ctl.dyke.windows ∧ (adoptMember x s).ctl.sluice = s.ctl.sluice := by
  simp only [adoptMember, hnew]
  refine ⟨(beginFrames_keeps (fun k => tget k.conns x.offer.node) (fun _ _ => rfl) ..).trans ?_,
    (beginFrames_keeps Control.handovers (fun _ _ => rfl) ..).trans ?_,
    (beginFrames_keeps (fun k => k.dyke.windows) (fun _ _ => rfl) ..).trans ?_,
    (beginFrames_keeps Control.sluice (fun _ _ => rfl) ..).trans ?_⟩
  case refine_1 => cases x.offer.cls <;> exact tget_tput_same ..
  all_goals cases x.offer.cls <;> rfl

/-- A committed stage that closes gives the member its connection. -/
theorem closeStage_commits {x : TargetHandover} {s : State} (hcommit : x.commit = true)
    (hnew : s.connOfMember x.conn.memberId = none) :
    (closeStage x s).conn x.offer.node = some x.conn ∧
      (closeStage x s).ctl.handovers.targets = s.ctl.handovers.targets.filter (fun t => t.offer.node != x.offer.node) ∧
      (closeStage x s).ctl.dyke.windows = s.ctl.dyke.windows ∧ (closeStage x s).ctl.sluice = s.ctl.sluice := by
  obtain ⟨hconn, hhandovers, hwindows, hsluice⟩ := adoptMember_new (x := x) (s := { s with ctl.handovers := { s.ctl.handovers with
    targets := s.ctl.handovers.targets.filter fun t => t.offer.node != x.offer.node } }) hnew
  simp only [State.conn, closeStage, hcommit, if_true, fedRequest_ctl]
  exact ⟨hconn, congrArg HandoverCtl.targets hhandovers, hwindows, hsluice⟩

/-- A stage that is not committed is dropped. -/
theorem closeStage_drops {x : TargetHandover} {s : State} (hnot : x.commit = false) :
    (closeStage x s).ctl = { s.ctl with handovers := { s.ctl.handovers with
      targets := s.ctl.handovers.targets.filter fun t => t.offer.node != x.offer.node } } := by
  simp only [closeStage, hnot, Bool.false_eq_true, if_false, fedRequest_ctl]
  exact offPath_ctl (freeFlow_offPath ..)

/-- None of the stages that are left is of the node whose stage was closed. -/
theorem find?_filter_node (l : List TargetHandover) (n : Nat) :
    (l.filter fun t => t.offer.node != n).find? (fun t => t.offer.node == n) = none :=
  List.find?_eq_none.mpr fun x hx => by simpa using (List.mem_filter.mp hx).2

/-- Time that passes to an instant and an item that runs leave the control state but for site time. -/
theorem passToAtb_ctl (t : Nat) (s : State) : (passToAtb t s).ctl = { s.ctl with time := (passToAtb t s).ctl.time } :=
  passToAtb_keeps (fun v => { v.ctl with time := (passToAtb t s).ctl.time }) (fun _ _ => rfl) t s

/-! ### At the source (R413, R415, R421) -/

/-- A member that has left has no connection, no copies, no allotment and no profile. -/
theorem partMember_memberState {n : Nat} {c : Conn} {s : State} (hconn : s.conn n = some c) :
    (partMember n s).memberState = (tdel s.ctl.conns n,
      { s.ctl.dyke with
        copies := tdel s.ctl.dyke.copies n, allots := tdel s.ctl.dyke.allots n, profiles := tdel s.ctl.dyke.profiles n },
      s.ctl.handovers) := by
  simp only [partMember, hconn, reclassAll_memberState]
  exact memberState_of_ctl (offPath_ctl ((freeFlow_offPath ..).trans ((dropQueue_offPath ..).trans
    ((cancelTimers_offPath ..).trans (cancelTimers_offPath ..)))))

/-- A member that the target has taken leaves, and its handover with it. -/
theorem endHandover_taken {x : SourceHandover} {c : Conn} {s : State} (hconn : s.conn x.node = some c) :
    (endHandover x 1 s).memberState = (tdel s.ctl.conns x.node,
      { s.ctl.dyke with
        copies := tdel s.ctl.dyke.copies x.node, allots := tdel s.ctl.dyke.allots x.node
        profiles := tdel s.ctl.dyke.profiles x.node },
      (s.dropSource x.node).ctl.handovers) := by
  have hconn' : (s.dropSource x.node).conn x.node = some c := hconn
  simp only [endHandover, if_true, tellOutcome_memberState, partMember_memberState hconn']
  rfl

/-- With any other outcome the handover alone ends. -/
theorem endHandover_kept {x : SourceHandover} {outcome : Nat} (hout : outcome ≠ 1) (s : State) :
    (endHandover x outcome s).memberState = (s.dropSource x.node).memberState := by
  simp only [endHandover, if_neg hout, tellOutcome_memberState]

theorem dropSource_source (s : State) (n : Nat) : (s.dropSource n).source n = none :=
  List.find?_eq_none.mpr fun x hx => by simpa using (List.mem_filter.mp hx).2

theorem source_node {n : Nat} {x : SourceHandover} {s : State} (h : s.source n = some x) : x.node = n := by
  simpa using List.find?_some h

/-- A peering without the request that told the target of the commitment of a handover. -/
def PeerRun.told (x : SourceHandover) (r : PeerRun) : PeerRun :=
  { r with requests := r.requests.filter fun q => q.type != 8 || (beNat (slice q.body 1 4) != x.txn) }

/-- DONE 1 of the target is worked on by the member's flow. -/
theorem doneOf_taken {h : FedHead} {n : Nat} {x : SourceHandover} {c : Conn} {s : State} (hsource : s.source n = some x)
    (hstage : x.stage ≠ .offered) (htarget : x.target = h.src) (hconn : s.conn n = some c)
    (hserves : s.servesNow 6 (s.flowOf n) = true) :
    (doneOf h n 1 s).2.memberState = (tdel s.ctl.conns n,
      { s.ctl.dyke with
        copies := tdel s.ctl.dyke.copies n, allots := tdel s.ctl.dyke.allots n, profiles := tdel s.ctl.dyke.profiles n },
      (s.dropSource n).ctl.handovers) := by
  obtain rfl := source_node hsource
  have hstands : ¬ (x.stage = .offered ∨ x.target ≠ h.src) := by simp [hstage, htarget]
  have hserves' : (s.modPeer x.target (PeerRun.told x)).servesNow 6 (s.flowOf x.node) = true := hserves
  have hran := ranItem_ctl 6 (s.flowOf x.node) x.node (s.modPeer x.target (PeerRun.told x))
  simp only [doneOf, hsource, if_neg hstands, if_true]
  refine (congrArg State.memberState (workOn_served hserves')).trans ?_
  refine (endHandover_taken (c := c) ?_).trans ?_
  · exact (congrArg (fun k : Control => tget k.conns x.node) hran).trans hconn
  · exact congrArg (fun k : Control => (tdel k.conns x.node,
      { k.dyke with
        copies := tdel k.dyke.copies x.node, allots := tdel k.dyke.allots x.node, profiles := tdel k.dyke.profiles x.node },
      { k.handovers with sources := k.handovers.sources.filter fun y => y.node != x.node })) hran

/-- DONE 2 of the target ends the handover alone. -/
theorem doneOf_kept {h : FedHead} {n : Nat} {x : SourceHandover} {s : State} (hsource : s.source n = some x)
    (hstage : x.stage ≠ .offered) (htarget : x.target = h.src) :
    (doneOf h n 2 s).2.memberState = (s.dropSource n).memberState := by
  obtain rfl := source_node hsource
  have hstands : ¬ (x.stage = .offered ∨ x.target ≠ h.src) := by simp [hstage, htarget]
  simp only [doneOf, hsource, if_neg hstands]
  exact endHandover_kept (by decide) _

/-- Settles O51: offers and acceptances by the branch that is taken, stages by what closing them leaves, and the target's outcome by
what is left of the member. -/
theorem memberHandovers : Obligations.MemberHandovers := by
  unfold Obligations.MemberHandovers
  refine ⟨fun h o c i s u hnews hok => ?offer, fun h o k s u hnews herror => ?refused,
    fun h i m par x c s u ht hfound hconn => ?accept, fun h k i m par x c s u ht hk hfound hconn => ?refusal,
    fun n x s hfound hcommit hserves hnew => ?committed, fun n x s hfound hnot => ?uncommitted,
    fun h n x s u hnews hsource hstage htarget hconn hserves => ?taken,
    fun h n x s u hnews hsource hstage htarget => ?kept, fun n x s hsource hstage => ?late,
    fun n x s hsource hstage => ?unknown⟩
  case offer =>
    refine (fedTake_news (act := targetOffer h o) hnews).trans ?_
    simp only [targetOffer, hok]
  case refused =>
    refine (fedTake_news (act := targetOffer h o) hnews).trans ?_
    simp only [targetOffer, herror]
  case accept =>
    have hkept : (endRequest h u).conn x.node = some c := hconn
    refine (fedTake_taken (act := acceptWork h 0 i par m) ht).trans ?_
    simp only [acceptWork, hfound, hkept, ne_eq, not_true_eq_false, if_false]
  case refusal =>
    have hkept : (endRequest h u).conn x.node = some c := hconn
    refine (fedTake_taken (act := acceptWork h k i par m) ht).trans ?_
    simp only [acceptWork, hfound, hkept, if_pos hk]
  case committed =>
    have hnode : x.offer.node = n := by simpa using List.find?_some hfound
    subst hnode
    have hctl := (ranItem_ctl 6 x.conn.flow x.offer.node (passToAtb (atbOfAsn x.instant) s)).trans
      (passToAtb_ctl (atbOfAsn x.instant) s)
    have hnone : (ranItem 6 x.conn.flow x.offer.node (passToAtb (atbOfAsn x.instant) s)).connOfMember x.conn.memberId = none := by
      simp only [State.connOfMember, hctl]
      exact List.find?_eq_none.mpr fun e he => by simpa using hnew e he
    obtain ⟨hconn, htargets, hwindows, hsluice⟩ := closeStage_commits hcommit hnone
    refine ⟨_, ?_, hconn, ?_, hwindows.trans (by rw [hctl]), hsluice.trans (by rw [hctl])⟩
    · show execHandoverInstant x.offer.node s = _
      simp only [execHandoverInstant, hfound, hcommit, if_true, workOn_served hserves]
    · rw [htargets, find?_filter_node]
  case uncommitted =>
    have hnode : x.offer.node = n := by simpa using List.find?_some hfound
    subst hnode
    have hctl := closeStage_drops (s := passToAtb (atbOfAsn x.instant) s) hnot
    refine ⟨closeStage x (passToAtb (atbOfAsn x.instant) s), ?_, ?_, ?_, ?_⟩
    · show execHandoverInstant x.offer.node s = _
      simp only [execHandoverInstant, hfound, hnot, Bool.false_eq_true, if_false]
    · rw [hctl]
      exact passToAtb_conns ..
    · rw [hctl]
      exact find?_filter_node ..
    · rw [hctl, passToAtb_ctl]
  case taken =>
    obtain ⟨c, hc⟩ := Option.isSome_iff_exists.mp hconn
    have hleft := doneOf_taken hsource hstage htarget hc hserves
    have hconns := congrArg Prod.fst hleft
    have hdyke := congrArg (fun m => m.2.1) hleft
    have hsources := congrArg (fun m => m.2.2) hleft
    have hkept : u.ctl.dyke = s.ctl.dyke := congrArg Control.dyke (fedTaken_ctl hnews.1)
    refine ⟨_, fedTake_news (act := doneOf h n 1) hnews, ?_, ?_, ?_, ?_⟩
    · rw [State.conn, fedRespond_ctl]
      exact (congrArg (tget · n) hconns).trans (tget_tdel_same ..)
    · rw [State.source, fedRespond_ctl]
      exact (congrArg (fun k : HandoverCtl => k.sources.find? fun y : SourceHandover => y.node == n) hsources).trans (dropSource_source u n)
    · rw [fedRespond_ctl]
      exact (congrArg DykeCtl.windows hdyke).trans (by rw [hkept])
    · rw [State.allot, fedRespond_ctl]
      exact (congrArg (fun d : DykeCtl => tget d.allots n) hdyke).trans (tget_tdel_same ..)
  case kept =>
    have hleft := doneOf_kept hsource hstage htarget
    have hconns := congrArg Prod.fst hleft
    have hsources := congrArg (fun m => m.2.2) hleft
    have hkept : u.ctl.conns = s.ctl.conns := congrArg Control.conns (fedTaken_ctl hnews.1)
    refine ⟨_, fedTake_news (act := doneOf h n 2) hnews, ?_, ?_⟩
    · rw [fedRespond_ctl]
      exact hconns.trans hkept
    · rw [State.source, fedRespond_ctl]
      exact (congrArg (fun k : HandoverCtl => k.sources.find? fun y : SourceHandover => y.node == n) hsources).trans (dropSource_source u n)
  case late =>
    show execHandoverAcceptTimeout n s = _
    simp only [execHandoverAcceptTimeout, hsource, hstage, if_true]
  case unknown =>
    show execHandoverOutcomeTimeout n s = _
    simp only [execHandoverOutcomeTimeout, hsource, hstage, ne_eq, not_true_eq_false, if_false]

end Sys2Proof.Machine
end

section
/-! OBLIGATION.
The Peat pool and its opcodes (O45).
-/

namespace Sys2Proof.Machine

/-! ### Queues and the pool: what each operation leaves -/

@[simp] theorem modQueue_queue_same (q : Nat) (f : PeatQueue → PeatQueue) (s : State) : (s.modQueue q f).queue q = f (s.queue q) := by
  simp [State.queue, State.modQueue, tgetD]

theorem modQueue_queue_other {q r : Nat} (h : r ≠ q) (f : PeatQueue → PeatQueue) (s : State) :
    (s.modQueue q f).queue r = s.queue r := by
  simp [State.queue, State.modQueue, tgetD, tget_tput_other _ _ h]

/-- A change that keeps the packets of its queue keeps those of all. -/
theorem modQueue_packets {f : PeatQueue → PeatQueue} (hf : ∀ x, (f x).packets = x.packets) (q r : Nat) (s : State) :
    ((s.modQueue q f).queue r).packets = (s.queue r).packets := by
  by_cases h : r = q
  · rw [h, modQueue_queue_same, hf]
  · rw [modQueue_queue_other h]

/-- A change is known by what it makes of the queue. -/
theorem modQueue_congr {q : Nat} {f g : PeatQueue → PeatQueue} {s : State} (h : f (s.queue q) = g (s.queue q)) :
    s.modQueue q f = s.modQueue q g := by
  simp only [State.modQueue, h]

/-- Of the pool the watermarks move the lowest free count and the two states of R378. -/
theorem watermarks_peat (s : State) :
    ∃ m w f, (watermarks s).vol.peat = { s.vol.peat with minFree := m, belowWarn := w, belowFloor := f } := by
  unfold watermarks
  dsimp only
  repeat' split
  all_goals simp only [(poolEvent_sent _ _ _).peat]
  all_goals exact ⟨_, _, _, rfl⟩

/-- What does not read the watermarks of the pool reads the same after them. -/
theorem watermarks_reads {α : Type} (f : PeatRun → α)
    (hf : ∀ (p : PeatRun) m w x, f { p with minFree := m, belowWarn := w, belowFloor := x } = f p) (s : State) :
    f (watermarks s).vol.peat = f s.vol.peat := by
  obtain ⟨m, w, x, h⟩ := watermarks_peat s
  rw [h, hf]

@[simp] theorem watermarks_queue (q : Nat) (s : State) : (watermarks s).queue q = s.queue q :=
  watermarks_reads (fun p => tgetD p.queues q PeatQueue.empty) (fun _ _ _ _ => rfl) s

theorem watermarks_freeCells (s : State) : (watermarks s).freeCells = s.freeCells :=
  watermarks_reads (fun p => poolCells - ((p.queues.map fun e => e.2.cells).sum + p.orphans)) (fun _ _ _ _ => rfl) s

@[simp] theorem watermarks_mbxReads (s : State) : (watermarks s).vol.peat.reads = s.vol.peat.reads :=
  watermarks_reads PeatRun.reads (fun _ _ _ _ => rfl) s

theorem linkChain_peat (l : List Nat) (s : State) : ∃ t, (linkChain l s).vol.peat = { s.vol.peat with links := t } := by
  induction l generalizing s with
  | nil => exact ⟨_, rfl⟩
  | cons k l ih => exact ih _

@[simp] theorem linkChain_queue (l : List Nat) (q : Nat) (s : State) : (linkChain l s).queue q = s.queue q := by
  obtain ⟨t, h⟩ := linkChain_peat l s
  simp only [State.queue, h]

@[simp] theorem linkChain_mbxReads (l : List Nat) (s : State) : (linkChain l s).vol.peat.reads = s.vol.peat.reads := by
  obtain ⟨t, h⟩ := linkChain_peat l s
  rw [h]

@[simp] theorem mailboxSignal_vol (m : Nat) (s : State) : (mailboxSignal m s).vol = s.vol := by
  unfold mailboxSignal
  dsimp only
  split
  · obtain ⟨p, o, h⟩ := sendVector_eq (3 + m) _
    rw [h]
  · rfl

theorem mailboxSignal_raised (m : Nat) (s : State) : (mailboxSignal m s).hsw.irqCause.getLsbD irqMailbox = true := by
  have hset : (s.hsw.irqCause ||| BitVec.ofNat 11 (1 <<< irqMailbox)).getLsbD irqMailbox = true := by
    rw [BitVec.getLsbD_or, Bool.or_eq_true]
    exact .inr (by decide)
  unfold mailboxSignal
  dsimp only
  split
  · obtain ⟨p, o, h⟩ := sendVector_eq (3 + m) _
    rw [h]
    exact hset
  · exact hset

/-- A read of cells leaves the packets of every queue. -/
theorem cellsRead_packets (q r : Nat) (s : State) : ((cellsRead q s).queue r).packets = (s.queue r).packets := by
  unfold cellsRead
  rw [(countEvents_sent ..).queue]
  exact modQueue_packets (f := fun x => { x with corrected := sat 32 (x.corrected + Config.sense 0x64 s.draw.1) })
    (fun _ => rfl) q r s.draw.2

/-! ### Packets that are reserved and committed (R373) -/

theorem reservePacket_granted {q m : Nat} {s : State} (h : s.poolGrants q m = true) :
    ∃ t, reservePacket q m s = some (s.fresh, t) ∧
      t.queue q = { s.queue q with reserved := (s.queue q).reserved ++ [(s.fresh, packetCells m)] } ∧
      (∀ r, r ≠ q → t.queue r = s.queue r) ∧ t.vol.peat.reads = s.vol.peat.reads ∧ t.ctl = s.ctl := by
  refine ⟨_, if_pos h, ?_, fun r hr => ?_, ?_, ?_⟩
  · rw [watermarks_queue, (countEvents_sent ..).queue, modQueue_queue_same]
    rfl
  · rw [watermarks_queue, (countEvents_sent ..).queue, modQueue_queue_other hr]
    rfl
  · rw [watermarks_mbxReads, (countEvents_sent ..).peat]
    rfl
  · rw [offPath_ctl (watermarks_offPath _), countEvents_ctl]
    rfl

/-- The packet that a producer commits with the first cell `k` (R372). -/
def committedPacket (k kind node : Nat) (d : List Byte) (lost : Bool) : PeatPacket :=
  { node := node, kind := kind, lost := lost, trunc := false, poison := false, cell := k, data := d }

/-- The commitment adds the packet at the tail of its queue, and ends its reservation. -/
theorem commitReserved_queue_same (q k kind node : Nat) (d : List Byte) (s : State) :
    (commitReserved q k kind node d s).queue q =
      { s.queue q with
        reserved := (s.queue q).reserved.eraseP fun r => r.1 == k
        packets := (s.queue q).packets ++ [committedPacket k kind node d (s.queue q).lost], lost := false
        peak := max (s.queue q).peak ((s.queue q).packets.length + 1), committed := satInc 32 (s.queue q).committed } := by
  have hsignal : ∀ m (t : State), (mailboxSignal m t).queue q = t.queue q := fun m t => by
    simp only [State.queue, mailboxSignal_vol]
  unfold commitReserved
  dsimp only
  repeat' split
  all_goals simp only [hsignal, watermarks_queue, modQueue_queue_same, linkChain_queue, endReservation]
  all_goals rfl

theorem commitReserved_queue_other {q r : Nat} (h : r ≠ q) (k kind node : Nat) (d : List Byte) (s : State) :
    (commitReserved q k kind node d s).queue r = s.queue r := by
  have hsignal : ∀ m (t : State), (mailboxSignal m t).queue r = t.queue r := fun m t => by
    simp only [State.queue, mailboxSignal_vol]
  unfold commitReserved
  dsimp only
  repeat' split
  all_goals simp only [hsignal, watermarks_queue, modQueue_queue_other h, linkChain_queue, endReservation]
  all_goals rfl

theorem commitReserved_mbxReads (q k kind node : Nat) (d : List Byte) (s : State) :
    (commitReserved q k kind node d s).vol.peat.reads = s.vol.peat.reads := by
  unfold commitReserved
  dsimp only
  repeat' split
  all_goals simp only [mailboxSignal_vol, watermarks_mbxReads]
  all_goals exact linkChain_mbxReads ..

/-- The first packet of an empty mailbox raises its interrupt (R382). -/
theorem commitReserved_raised {q mb : Nat} {s : State} (hmailbox : mailboxOf? q = some mb) (hempty : (s.queue q).packets = [])
    (k kind node : Nat) (d : List Byte) : (commitReserved q k kind node d s).hsw.irqCause.getLsbD irqMailbox = true := by
  have hwas : ((drawCells (packetCells d.length - 1) s).2.queue q).packets.isEmpty = true := by
    rw [List.isEmpty_iff]
    exact hempty
  simp only [commitReserved, hmailbox, hwas, if_true]
  exact mailboxSignal_raised ..

/-- The second state is the first with a packet committed to a queue. -/
structure Committed (q kind node : Nat) (d : List Byte) (s t : State) : Prop where
  packets : ∃ k, (t.queue q).packets = (s.queue q).packets ++ [committedPacket k kind node d (s.queue q).lost]
  lost    : (t.queue q).lost = false
  stalled : (t.queue q).stalled = (s.queue q).stalled
  others  : ∀ r, r ≠ q → t.queue r = s.queue r
  reads   : t.vol.peat.reads = s.vol.peat.reads
  ctl     : t.ctl = s.ctl
  signal  : (mailboxOf? q).isSome = true → (s.queue q).packets = [] → t.hsw.irqCause.getLsbD irqMailbox = true

/-- Within the grant of the pool a packet is committed, and handed to the consumer of its queue. -/
theorem produce_granted {q m : Nat} {s : State} (h : s.poolGrants q m = true) (kind node : Nat) (d : List Byte) :
    ∃ k t, produce q m kind node d s = handOver q kind node k t ∧ Committed q kind node d s t := by
  obtain ⟨u, hreserve, hqueue, hothers, hreads, hctl⟩ := reservePacket_granted h
  have hsame := commitReserved_queue_same q s.fresh kind node d u
  rw [hqueue] at hsame
  refine ⟨s.fresh, commitReserved q s.fresh kind node d u, ?_, ?_⟩
  · simp only [produce, commitPacket, hreserve]
  · exact {
      packets := ⟨s.fresh, (congrArg PeatQueue.packets hsame :)⟩
      lost := (congrArg PeatQueue.lost hsame :)
      stalled := (congrArg PeatQueue.stalled hsame :)
      others := fun r hr => (commitReserved_queue_other hr ..).trans (hothers r hr)
      reads := (commitReserved_mbxReads ..).trans hreads
      ctl := (offPath_ctl (commitReserved_offPath ..)).trans hctl
      signal := fun hmailbox hempty => by
        obtain ⟨mb, hmb⟩ := Option.isSome_iff_exists.mp hmailbox
        exact commitReserved_raised hmb ((congrArg PeatQueue.packets hqueue :).trans hempty) .. }

/-- Beyond the grant of the pool a packet is refused. -/
theorem produce_refused {q m : Nat} {s : State} (h : s.poolGrants q m = false) (kind node : Nat) (d : List Byte) :
    produce q m kind node d s = refused q m s := by
  have hnone : reservePacket q m s = none := if_neg (by simp [h])
  simp only [produce, commitPacket, hnone]

/-- A consumer other than a mailbox gets an item at most. -/
theorem handOver_item {q : Nat} (h : mailboxOf? q = none) (kind node k : Nat) (s : State) :
    (handOver q kind node k s).vol.peat = s.vol.peat ∧ (handOver q kind node k s).ctl = s.ctl := by
  cases hconsumer : consumerOf q kind node s with
  | none => simp only [handOver, h, hconsumer, and_self]
  | some x =>
    simp only [handOver, h, hconsumer]
    exact ⟨rfl, rfl⟩

/-- A packet of a mailbox that no command reads stays in it. -/
theorem handOver_unread {q mb : Nat} {s : State} (h : mailboxOf? q = some mb) (hreads : ∀ r ∈ s.vol.peat.reads, r.mailbox ≠ mb)
    (kind node k : Nat) : handOver q kind node k s = s := by
  have hnone : s.vol.peat.reads.find? (fun r => r.mailbox == mb) = none := List.find?_eq_none.mpr fun r hr => by simpa using hreads r hr
  simp only [handOver, h, mbxServe, hnone, ite_self]

/-! ### Reads that wait for a packet (R375) -/

theorem fillRead_unstalled {q : Nat} {s : State} (h : (s.queue q).stalled = []) : fillRead q s = s := by
  simp [fillRead, h]

theorem fillRead_mailbox {q : Nat} (h : 0xC00 ≤ q) (s : State) : fillRead q s = s := by
  have hhigh : ¬ q < 0x800 := by omega
  have hbcast : ¬ (0x828 ≤ q ∧ q < 0x830) := by omega
  simp only [fillRead, if_neg hhigh, if_neg hbcast, ite_self]

theorem fillRead_member {q n : Nat} {s : State} (hstalled : (s.queue q).stalled ≠ []) (hpackets : (s.queue q).packets ≠ [])
    (hmember : q < 0x800) (hnode : s.nodeOfFlow q = some n) : fillRead q s = fillDown q n s := by
  simp [fillRead, hstalled, hpackets, hmember, hnode]

/-- A packet that is neither empty nor longer than its reservation is produced, and handed to a read that waits for it. -/
theorem packetCommit_produces {q m : Nat} {d : List Byte} (hlisted : queueListed q = true) (hsome : 1 ≤ d.length)
    (hfits : d.length ≤ m) (kind node : Nat) (s : State) :
    exec (.packetCommit q m kind node d) s = .next (fillRead q (produce q m kind node d s)) := by
  have hne : d ≠ [] := by rintro rfl; simp at hsome
  show execPacketCommit q m kind node d s = _
  simp [execPacketCommit, hlisted, hne, Nat.not_lt.mpr hfits]

/-! ### Refusals (R377, R379) -/

theorem refuseReserve_queue (q m : Nat) (s : State) :
    (refuseReserve q m s).queue q = { s.queue q with refused := satInc 32 (s.queue q).refused } := by
  have hcounted := modQueue_queue_same q (fun k : PeatQueue => { k with refused := satInc 32 k.refused }) s
  unfold refuseReserve
  dsimp only
  split <;> exact hcounted

theorem refuseReserve_ctl (q m : Nat) (s : State) : (refuseReserve q m s).ctl = s.ctl := by
  unfold refuseReserve
  dsimp only
  split <;> rfl

/-- A refused packet of a member's queue is recorded, one of a command queue is counted, and of any other queue the producer drops it. -/
theorem refused_eq (q m : Nat) (s : State) :
    (q < 0x800 → refused q m s = recordOther 0x0C 0 (refuseReserve q m s)) ∧
    (0x800 ≤ q → q < 0x814 → refused q m s = refuseReserve q m s) ∧
    (0x814 ≤ q → refused q m s =
      (refuseReserve q m s).modQueue q fun k => { k with dropped := satInc 32 k.dropped, lost := true }) := by
  refine ⟨fun h => if_pos h, fun hlow hhigh => ?_, fun hlow => ?_⟩
  · simp only [refused, if_neg (Nat.not_lt.mpr hlow), if_pos hhigh]
  · have hmember : ¬ q < 0x800 := by omega
    simp only [refused, if_neg hmember, if_neg (Nat.not_lt.mpr hlow)]

/-! ### The mailbox read (R382) -/

/-- A mailbox that no command reads. -/
theorem noReads_iff {b : State} {m : Nat} : (b.vol.peat.reads.any fun r => r.mailbox == m) = false ↔
    ∀ r ∈ b.vol.peat.reads, r.mailbox ≠ m := by
  simp

theorem runQueueMbxRead_waits {c : HostCmd} {b : State}
    (h : (b.vol.peat.reads.any fun r => r.mailbox == fld c.packet.params 0 1) = true ∨
      (b.queue (0xC00 + fld c.packet.params 0 1)).packets = [] ∧ fld c.packet.params 2 2 ≠ 0) :
    runQueueMbxRead c b = .deferred { b with
      vol.peat.reads := b.vol.peat.reads ++
        [{ cmd := c, mailbox := fld c.packet.params 0 1, maxPkts := fld c.packet.params 1 1 }] } := by
  obtain hwaits | ⟨hempty, hwait⟩ := h
  · simp only [runQueueMbxRead, hwaits, Bool.not_true, Bool.false_and, Bool.false_eq_true, if_false]
  · simp [runQueueMbxRead, hempty, hwait]

theorem runQueueMbxRead_completes {c : HostCmd} {b : State} (hfree : ∀ r ∈ b.vol.peat.reads, r.mailbox ≠ fld c.packet.params 0 1)
    (h : (b.queue (0xC00 + fld c.packet.params 0 1)).packets ≠ [] ∨ fld c.packet.params 2 2 = 0) :
    runQueueMbxRead c b = .deferred (mbxComplete c b) := by
  obtain hsome | hzero := h
  · simp [runQueueMbxRead, noReads_iff.mpr hfree, hsome]
  · simp [runQueueMbxRead, noReads_iff.mpr hfree, hzero]

/-- From an empty mailbox a read completes with none. -/
theorem mbxComplete_empty {c : HostCmd} {b : State} (h : (b.queue (0xC00 + fld c.packet.params 0 1)).packets = []) :
    mbxComplete c b = finish c 0 0 (zeros 8)
      (watermarks (b.modQueue (0xC00 + fld c.packet.params 0 1) fun k => { k with packets := [] })) := by
  have hfit : mbxFit 4056 (fld c.packet.params 1 1) [] = [] := by cases fld c.packet.params 1 1 <;> rfl
  have hdrop : b.modQueue (0xC00 + fld c.packet.params 0 1) (fun k => { k with packets := k.packets.drop 0 }) =
      b.modQueue (0xC00 + fld c.packet.params 0 1) fun k => { k with packets := [] } := modQueue_congr (by simp [h])
  simp only [mbxComplete, h, hfit, List.foldl_nil, List.length_nil, hdrop, watermarks_queue, modQueue_queue_same, ne_eq,
    not_true_eq_false, false_and, if_false]
  rfl

/-- The one packet of a mailbox, where it fits, is the reply. -/
theorem mbxComplete_one {c : HostCmd} {x : PeatPacket} {b : State}
    (h : (b.queue (0xC00 + fld c.packet.params 0 1)).packets = [x]) (hmax : 1 ≤ fld c.packet.params 1 1)
    (hfits : (mbxEntry x).length ≤ 4056) :
    mbxComplete c b = finish c 0 0 (leBytes 2 1 ++ leBytes 2 0 ++ zeros 4 ++ mbxEntry x)
      (watermarks ((unlink x (cellsRead (0xC00 + fld c.packet.params 0 1) b)).modQueue (0xC00 + fld c.packet.params 0 1)
        fun k => { k with packets := [] })) := by
  obtain ⟨n, hn⟩ : ∃ n, fld c.packet.params 1 1 = n + 1 := ⟨_, (Nat.sub_add_cancel hmax).symm⟩
  have hfit : mbxFit 4056 (n + 1) [x] = [x] := by
    cases n <;> simp [mbxFit, hfits]
  have hread : ((unlink x (cellsRead (0xC00 + fld c.packet.params 0 1) b)).queue (0xC00 + fld c.packet.params 0 1)).packets = [x] :=
    (cellsRead_packets ..).trans h
  have hdrop := modQueue_congr (f := fun k => { k with packets := k.packets.drop 1 }) (g := fun k => { k with packets := [] })
    (q := 0xC00 + fld c.packet.params 0 1) (s := unlink x (cellsRead (0xC00 + fld c.packet.params 0 1) b))
    (by simp only [hread]; rfl)
  simp only [mbxComplete, h, hn, hfit, List.foldl_cons, List.foldl_nil, List.length_singleton, hdrop, watermarks_queue,
    modQueue_queue_same, List.length_nil, ne_eq, not_true_eq_false, and_false, if_false, List.flatMap_singleton]

/-! ### Corrected errors and cut chains (R380, R381) -/

theorem countCorrected_corrected (q : Nat) (s : State) :
    (countCorrected q s).vol.peat.corrected = satInc 32 s.vol.peat.corrected := by
  unfold countCorrected
  rw [(countEvents_sent ..).peat]
  dsimp only
  split <;> rfl

theorem countCorrected_packets (q r : Nat) (s : State) : ((countCorrected q s).queue r).packets = (s.queue r).packets := by
  unfold countCorrected
  rw [(countEvents_sent ..).queue]
  dsimp only
  split
  · refine (modQueue_packets ?_ q r _).trans rfl
    exact fun _ => rfl
  · rfl

theorem countCorrected_offPath (q : Nat) (s : State) : (countCorrected q s).offPath = s.offPath := by
  unfold countCorrected
  rw [countEvents_offPath]
  dsimp only
  split <;> rfl

/-- Errors corrected over a list of queues leave the packets, and are each counted. -/
theorem countCorrected_foldl (l : List Nat) (s : State) :
    (∀ q, ((l.foldl (fun s q => countCorrected q s) s).queue q).packets = (s.queue q).packets) ∧
    (s.vol.peat.corrected < 2 ^ 32 →
      (l.foldl (fun s q => countCorrected q s) s).vol.peat.corrected = min (s.vol.peat.corrected + l.length) (2 ^ 32 - 1)) := by
  induction l generalizing s with
  | nil => exact ⟨fun _ => rfl, fun h => by simp only [List.foldl_nil, List.length_nil]; omega⟩
  | cons q l ih =>
    obtain ⟨hpackets, hcount⟩ := ih (countCorrected q s)
    refine ⟨fun r => (hpackets r).trans (countCorrected_packets q r s), fun h => ?_⟩
    rw [countCorrected_corrected] at hcount
    rw [List.foldl_cons, hcount (by unfold satInc; omega), List.length_cons, satInc]
    omega

/-- A scrub counts the errors corrected, and cells of cut chains are free again. -/
theorem poolScrub_scrubs (l : List Nat) {s : State} (hcount : s.vol.peat.corrected < 2 ^ 32) :
    ∃ t, exec (.poolScrub l) s = .next t ∧ t.vol.peat.orphans = 0 ∧ t.vol.peat.scrubAt = s.mtb ∧ t.ctl = s.ctl ∧
      t.vol.peat.corrected = min (s.vol.peat.corrected + l.length) (2 ^ 32 - 1) ∧
      (∀ q, queueListed q = true → (t.queue q).packets = (s.queue q).packets) ∧
      (l = [] → t.freeCells = poolCells - (s.vol.peat.queues.map fun e => e.2.cells).sum) := by
  obtain ⟨hpackets, hcorrected⟩ := countCorrected_foldl l s
  have hfold : (l.foldl (fun s q => countCorrected q s) s).offPath = s.offPath :=
    foldl_offPath _ (fun s q => countCorrected_offPath q s) l s
  refine ⟨_, rfl, ?_, ?_, ?_, ?_, fun q _ => ?_, fun hl => ?_⟩
  · exact watermarks_reads PeatRun.orphans (fun _ _ _ _ => rfl) _
  · refine (watermarks_reads PeatRun.scrubAt (fun _ _ _ _ => rfl) _).trans ?_
    exact eq_of_offPath State.mtb (fun _ => rfl) hfold
  · refine (offPath_ctl (watermarks_offPath _)).trans ?_
    exact offPath_ctl hfold
  · refine (watermarks_reads PeatRun.corrected (fun _ _ _ _ => rfl) _).trans ?_
    exact hcorrected hcount
  · rw [watermarks_queue]
    exact hpackets q
  · subst hl
    exact watermarks_freeCells _

/-- A cell whose both copies are lost cuts its packet behind the cells before it. -/
theorem cutChain_cuts {q k j : Nat} {p : PeatPacket} {s : State} (h : s.cellIn q k = some (p, j)) :
    ((cutChain q k s).queue q).packets = (s.queue q).packets.map (fun x => if x.cell = p.cell then x.cut (j + 1) else x) ∧
      (cutChain q k s).vol.peat.truncated = satInc 32 s.vol.peat.truncated ∧
      (cutChain q k s).vol.peat.orphans = s.vol.peat.orphans + (packetCells p.data.length - (j + 1)) ∧
      (cutChain q k s).ctl = s.ctl := by
  have hcut : ((modPacket q p (PeatPacket.cut (j + 1)) s).queue q).packets =
      (s.queue q).packets.map fun x => if x.cell = p.cell then x.cut (j + 1) else x :=
    congrArg PeatQueue.packets (modQueue_queue_same ..)
  simp only [cutChain, h, (poolEvent_sent _ _ _).queue, (poolEvent_sent _ _ _).peat, (poolEvent_sent _ _ _).ctl]
  exact ⟨hcut, rfl, rfl, rfl⟩

theorem cutChain_ctl (q k : Nat) (s : State) : (cutChain q k s).ctl = s.ctl := by
  cases h : s.cellIn q k with
  | none => simp only [cutChain, h]
  | some x => exact (cutChain_cuts h).2.2.2

/-- Fewer errors than the limit, and none before, cut the chain alone. -/
theorem memoryError_cuts {w q k : Nat} {s : State} (htwo : 2 ≤ w) (hfew : w < s.cfg.redun.eccMax) (hnone : s.vol.redun.eccAt = []) :
    memoryError 9 w q k s = cutChain q k { s with vol.redun.eccAt := (List.replicate w s.clock).take 64 } := by
  have hrecent : (List.replicate w s.clock).filter (fun t => decide (s.clock < t + 10 * tickS)) = List.replicate w s.clock :=
    List.filter_eq_self.mpr fun t ht => by simp [List.eq_of_mem_replicate ht, tickS]
  have hbelow : ¬ (cutChain q k { s with vol.redun.eccAt := (List.replicate w s.clock).take 64 }).cfg.redun.eccMax ≤ w := by
    rw [State.cfg, cutChain_ctl]
    exact Nat.not_le.mpr hfew
  simp only [memoryError, hnone, List.append_nil, Nat.reduceLT, if_true, hrecent, Nat.reduceEqDiff, if_false, htwo,
    List.length_replicate, hbelow, decide_false, Bool.or_false, Bool.false_eq_true]

/-- Settles O45: the rows of QUEUE by the branch that their premise selects, the events of the pool by what each operation of the pool
leaves of the queues. -/
theorem queueOpcodesAndPool : Obligations.QueueOpcodesAndPool := by
  unfold Obligations.QueueOpcodesAndPool
  refine ⟨?config, ?configRange, ?pool, ?poolRange, ?status, ?read, ?readClears, ?readRange, ?mbxEmpty, ?mbxBehind, ?mbxNone,
    fun x => ?mbxOne, fun n tag r s hfound => ?waitEnd,
    fun q m kind node d s hlisted hsome hfits hgrant hother hidle => ?commit,
    fun q m kind node d s hlisted hsome hfits hdenied hrange hidle => ?dropped,
    fun q m kind node d s hlisted hsome hfits hdenied hidle => ?denied,
    fun q m kind node mb d s hmailbox hsome hfits hgrant hfree => ?mailbox,
    fun q m kind node n d s hlisted hmember hsome hfits hgrant hstalled hnode => ?stalled,
    fun q m kind node d s hlisted hbad hgrant hfresh => ?abandoned, fun q m kind node d s hnot => ?unlisted,
    fun q r l s hstalled => ?expires, fun q s hidle => ?nothing, fun l s hcount => ?scrub,
    fun w q k j p s hact htwo hfew hnone hcell => ?cut⟩
  case config =>
    refine .of_run runQueueConfig (fun _ _ => rfl) fun c b hok => ?_
    have hpass : (decide (fld c.packet.params 4 4 < 257) && decide (0x800 ≤ fld c.packet.params 0 2) &&
        (mailboxOf? (fld c.packet.params 0 2)).isNone) = false := by
      obtain h | h | h := hok
      · simp [Nat.not_lt.mpr h]
      · simp [Nat.not_le.mpr h]
      · simp [Option.isNone_eq_false_iff.mpr h]
    simp only [runQueueConfig, hpass, Bool.false_eq_true, if_false, conclude_accepted]
  case configRange =>
    refine .of_run runQueueConfig (fun _ _ => rfl) fun c b ⟨hfew, hlow, hhigh⟩ => ?_
    have hnone : mailboxOf? (fld c.packet.params 0 2) = none := if_neg (by omega)
    simp [runQueueConfig, hfew, hlow, hnone]
  case pool =>
    exact .of_run runQueuePool (fun _ _ => rfl) fun c b hordered => by
      simp only [runQueuePool, if_neg (Nat.not_lt.mpr hordered), conclude_accepted]
  case poolRange =>
    exact .of_run runQueuePool (fun _ _ => rfl) fun c b hbad => by simp only [runQueuePool, if_pos hbad, conclude_refuse]
  case status => exact .of_run runQueueStatus (fun _ _ => rfl) fun _ _ _ => rfl
  case read =>
    exact .of_run runQueueRead (fun _ _ => rfl) fun c b ⟨hin, hop⟩ => by
      simp only [runQueueRead, if_neg (Nat.not_lt.mpr hin), if_neg hop, conclude_ok]
  case readClears =>
    exact .of_run runQueueRead (fun _ _ => rfl) fun c b ⟨hin, hop⟩ => by
      simp only [runQueueRead, if_neg (Nat.not_lt.mpr hin), if_pos hop, conclude_ok]
  case readRange =>
    exact .of_run runQueueRead (fun _ _ => rfl) fun c b hout => by simp only [runQueueRead, if_pos hout, conclude_refuse]
  case mbxEmpty =>
    refine .of_run runQueueMbxRead (fun _ _ => rfl) fun c b ⟨_, hempty, hwait⟩ => ?_
    rw [runQueueMbxRead_waits (.inr ⟨hempty, hwait⟩)]
    exact conclude_deferred_of_ctl rfl
  case mbxBehind =>
    refine .of_run runQueueMbxRead (fun _ _ => rfl) fun c b ⟨r, hr, hsame⟩ => ?_
    rw [runQueueMbxRead_waits (.inl (List.any_eq_true.mpr ⟨r, hr, by simp [hsame]⟩))]
    exact conclude_deferred_of_ctl rfl
  case mbxNone =>
    refine .of_live runQueueMbxRead (fun _ _ => rfl) fun c b hlive ⟨hfree, hempty, hzero⟩ => ?_
    rw [runQueueMbxRead_completes hfree (.inr hzero), mbxComplete_empty hempty]
    exact conclude_deferred_finish (hlive.of_sessions (by simp)) ..
  case mbxOne =>
    refine .of_live runQueueMbxRead (fun _ _ => rfl) fun c b hlive ⟨hfree, hmax, hone, hfits⟩ => ?_
    rw [runQueueMbxRead_completes hfree (.inl (by simp [hone])), mbxComplete_one hone hmax hfits]
    exact conclude_deferred_finish (hlive.of_sessions (by simp)) ..
  case waitEnd =>
    show execMbxReadWaitEnd n tag s = _
    simp only [execMbxReadWaitEnd, hfound]
  case commit =>
    obtain ⟨k, t, hproduce, hdone⟩ := produce_granted hgrant kind node d
    obtain ⟨hpeat, hctl⟩ := handOver_item hother kind node k t
    obtain ⟨cell, hpackets⟩ := hdone.packets
    have hqueue : ∀ r, (handOver q kind node k t).queue r = t.queue r := fun r => by simp only [State.queue, hpeat]
    have hidle' : ((handOver q kind node k t).queue q).stalled = [] := by rw [hqueue, hdone.stalled, hidle]
    refine ⟨_, _, ?_, (congrArg PeatQueue.packets (hqueue q)).trans hpackets, rfl, rfl, rfl, rfl, ?_, fun r hr => ?_,
      hctl.trans hdone.ctl⟩
    · rw [packetCommit_produces hlisted hsome hfits, hproduce, fillRead_unstalled hidle']
    · rw [hqueue, hdone.lost]
    · rw [hqueue, hdone.others r hr]
  case dropped =>
    have hrefused := (refused_eq q m s).2.2 hrange
    have hqueue : (refused q m s).queue q = { s.queue q with
        refused := satInc 32 (s.queue q).refused, dropped := satInc 32 (s.queue q).dropped, lost := true } := by
      rw [hrefused, modQueue_queue_same, refuseReserve_queue]
    refine ⟨refused q m s, ?_, ?_, ?_, ?_, ?_, ?_⟩
    · rw [packetCommit_produces hlisted hsome hfits, produce_refused hdenied, fillRead_unstalled (by rw [hqueue]; exact hidle)]
    · rw [hqueue]
    · rw [hqueue]
    · rw [hqueue]
    · rw [hqueue]
    · rw [hrefused]
      exact refuseReserve_ctl ..
  case denied =>
    have hexec := packetCommit_produces hlisted hsome hfits kind node s
    rw [produce_refused hdenied] at hexec
    have hkept : ((refuseReserve q m s).queue q).stalled = [] := by rw [refuseReserve_queue]; exact hidle
    refine ⟨fun hmember => ?_, fun hlow hhigh => ?_⟩
    · rw [hexec, (refused_eq q m s).1 hmember, fillRead_unstalled]
      rw [State.queue, recordOther_vol]
      exact hkept
    · rw [hexec, (refused_eq q m s).2.1 hlow hhigh, fillRead_unstalled hkept]
  case mailbox =>
    obtain ⟨k, t, hproduce, hdone⟩ := produce_granted hgrant kind node d
    obtain ⟨cell, hpackets⟩ := hdone.packets
    have hrange : 0xC00 ≤ q ∧ q ≤ 0xC1C := by
      by_contra hout
      rw [mailboxOf?, if_neg hout] at hmailbox
      cases hmailbox
    have hlisted : queueListed q = true := by simp [queueListed, hrange]
    refine ⟨t, _, ?_, hpackets, rfl, rfl, rfl, hdone.ctl, hdone.signal (by simp [hmailbox])⟩
    rw [packetCommit_produces hlisted hsome hfits, fillRead_mailbox hrange.1, hproduce,
      handOver_unread hmailbox (by rw [hdone.reads]; exact hfree)]
  case stalled =>
    obtain ⟨k, t, hproduce, hdone⟩ := produce_granted hgrant kind node d
    obtain ⟨hpeat, hctl⟩ := handOver_item (q := q) (if_neg (by omega)) kind node k t
    obtain ⟨cell, hpackets⟩ := hdone.packets
    have hqueue : (produce q m kind node d s).queue q = t.queue q := by simp only [hproduce, State.queue, hpeat]
    have hctl' : (produce q m kind node d s).ctl = s.ctl := by rw [hproduce, hctl, hdone.ctl]
    rw [packetCommit_produces hlisted hsome hfits, fillRead_member ?_ ?_ hmember ?_]
    · rw [hqueue, hdone.stalled]
      exact hstalled
    · rw [hqueue, hpackets]
      simp
    · rw [State.nodeOfFlow, hctl']
      exact hnode
  case abandoned =>
    obtain ⟨t, hreserve, hqueue, -, -, hctl⟩ := reservePacket_granted hgrant
    have hlast : ((s.queue q).reserved ++ [(s.fresh, packetCells m)]).eraseP (fun r => r.1 == s.fresh) = (s.queue q).reserved := by
      rw [List.eraseP_append_right _ fun r hr => by simpa using hfresh r hr]
      simp
    have habandoned : (abandonPacket q s.fresh t).queue q = s.queue q := by
      rw [abandonPacket, watermarks_queue, endReservation, modQueue_queue_same, hqueue, hlast]
    refine ⟨abandonPacket q s.fresh t, ?_, by rw [habandoned], by rw [habandoned], ?_⟩
    · have hempty : (d.isEmpty || decide (m < d.length)) = true := by simpa using hbad
      show execPacketCommit q m kind node d s = _
      simp only [execPacketCommit, hlisted, Bool.not_true, Bool.false_eq_true, if_false, hempty, if_true, reserveOnly, hreserve]
    · exact (offPath_ctl (watermarks_offPath _)).trans hctl
  case unlisted =>
    show execPacketCommit q m kind node d s = _
    simp only [execPacketCommit, hnot, Bool.not_false, if_true]
  case expires =>
    refine ⟨fun hhigh => ?_, fun n hlow hnode => ?_⟩
    · show execHeadReadStallExpiry q s = _
      simp only [execHeadReadStallExpiry, hstalled, if_neg (Nat.not_lt.mpr hhigh)]
    · show execHeadReadStallExpiry q s = _
      simp only [execHeadReadStallExpiry, hstalled, if_pos hlow, hnode, expireDown]
  case nothing =>
    show execHeadReadStallExpiry q s = _
    simp only [execHeadReadStallExpiry, hidle]
  case scrub => exact poolScrub_scrubs l hcount
  case cut =>
    have hin : ({ s with vol.redun.eccAt := (List.replicate w s.clock).take 64 } : State).cellIn q k = some (p, j) := hcell
    obtain ⟨hpackets, htruncated, horphans, hctl⟩ := cutChain_cuts hin
    refine ⟨_, ?_, hpackets, htruncated, horphans, hctl⟩
    have hsome : ¬ ((!s.actOn) = true ∨ w = 0) := by simp [hact]; omega
    show execUncorrectableMemoryError 9 w q k s = _
    rw [execUncorrectableMemoryError, if_neg hsome, memoryError_cuts htwo hfew hnone]

end Sys2Proof.Machine
end

section
/-! SUPPORT.
What the opcodes of SEC do, and what Obligations.SecurityOpcodes turns on. It holds where no signature verifies
(`securityOpcodes_of_noneVerifies`), and it fails where one verifies that unlocks the debug port
(`securityOpcodes_fails_of_zerosVerify`). `Config.ecdsaVerify` has no body, so neither premise can be proved, and nothing here settles
the obligation.
-/

namespace Sys2Proof.Machine

/-! ### SEC.KEY_IMPORT (R454) -/

/-- A counter that is not above the accepted one is refused before the key is opened. -/
theorem runSecKeyImport_stale {c : HostCmd} {b : State} (hkind : keyKindError c.packet.params = none)
    (hstate : b.act.security.record.state ≠ .shipping) (hstale : fld c.packet.params 4 4 ≤ b.hsw.nv.importCtr) :
    runSecKeyImport c b = .refuse erRange 4 := by
  simp only [runSecKeyImport, hkind, if_neg hstate, if_pos hstale]

/-- What an imported key opens to; none when its tag fails. -/
def openedKey (c : HostCmd) (b : State) : Option (List Byte) :=
  Config.gcmOpen (sideByte b.actId :: slice c.packet.params 0 68) (slice c.packet.params 68 12) (slice c.packet.params 80 48)
    (slice c.packet.params 128 16)

theorem runSecKeyImport_sealed {c : HostCmd} {b : State} (hkind : keyKindError c.packet.params = none)
    (hstate : b.act.security.record.state ≠ .shipping) (hnew : b.hsw.nv.importCtr < fld c.packet.params 4 4)
    (hopens : openedKey c b = none) : runSecKeyImport c b = .refuse erAuth 0 := by
  unfold openedKey at hopens
  simp only [runSecKeyImport, hkind, if_neg hstate, if_neg (Nat.not_le.mpr hnew), hopens]

/-- A signing key is a scalar of P-384 other than 0. -/
theorem runSecKeyImport_signing {c : HostCmd} {b : State} {m : List Byte} (hkind : keyKindError c.packet.params = none)
    (hsigning : fld c.packet.params 0 1 = 2) (hstate : b.act.security.record.state ≠ .shipping)
    (hnew : b.hsw.nv.importCtr < fld c.packet.params 4 4) (hopens : openedKey c b = some m) :
    runSecKeyImport c b =
      if 1 ≤ beNat (slice m 0 48) ∧ beNat (slice m 0 48) < p384Order then
        .accepted
          { acceptCounter (fld c.packet.params 4 4) b with ctl.cfg.keys := { b.cfg.keys with signing := some (slice m 0 48) } }
          (slice (Config.p384Public (slice m 0 48)) 0 49)
      else .refuse erRange 80 := by
  unfold openedKey at hopens
  simp only [runSecKeyImport, hkind, hsigning, if_neg hstate, if_neg (Nat.not_le.mpr hnew), if_true, hopens]
  by_cases hscalar : 1 ≤ beNat (slice m 0 48) ∧ beNat (slice m 0 48) < p384Order
  · rw [if_pos hscalar, if_neg (by omega)]
    rfl
  · rw [if_neg hscalar, if_pos (by omega)]

/-- The first site key, without a switch, is current at once where no member is connected. -/
theorem runSecKeyImport_site {c : HostCmd} {b : State} {m : List Byte} (hsite : fld c.packet.params 0 1 = 1)
    (hstate : b.act.security.record.state ≠ .shipping) (hnew : b.hsw.nv.importCtr < fld c.packet.params 4 4)
    (hswitch : fld c.packet.params 8 4 = 0) (hconns : b.ctl.conns = []) (hnext : b.cfg.keys.next = none)
    (hcurrent : b.cfg.keys.current = none) (hopens : openedKey c b = some m) :
    runSecKeyImport c b =
      .accepted { acceptCounter (fld c.packet.params 4 4) b with ctl.cfg.keys := { b.cfg.keys with
          current := some { keyId := fld c.packet.params 1 1, key := slice m 0 16, switchAsn := 0 }, former := none } }
        (leBytes 1 (fld c.packet.params 1 1) ++ zeros 3 ++ leBytes 4 0) := by
  have hkind : keyKindError c.packet.params = none := if_pos hsite
  have hother : ¬ fld c.packet.params 0 1 = 2 := by omega
  have hfree : siteKeyError (fld c.packet.params 1 1) 0 b = none := by simp [siteKeyError, hconns, hnext, hcurrent]
  unfold openedKey at hopens
  simp only [runSecKeyImport, hkind, if_neg hother, if_neg hstate, if_neg (Nat.not_le.mpr hnew), hswitch, hfree, importSite,
    if_true, hopens]
  rfl

/-! ### SEC.DEBUG_UNLOCK (R457) -/

/-- Where no signature verifies, O53 holds: the clause of an unlock is one of a refusal. -/
theorem securityOpcodes_of_noneVerifies (hnone : ∀ msg sig, Config.ecdsaVerify 1 msg sig = false) :
    Obligations.SecurityOpcodes := by
  unfold Obligations.SecurityOpcodes
  refine ⟨?shipping, ?attest, ?cert, ?stale, ?signing, ?site, ?status, ?challenge, ?unchallenged, fun x => ?alone, fun x => ?unlock⟩
  case shipping =>
    exact .of_run runSecAttest (fun _ _ => rfl) fun c b hstate => by simp only [runSecAttest, if_pos hstate, conclude_refuse]
  case attest =>
    refine .of_run runSecAttest (fun _ _ => rfl) fun c b hstate => ?_
    simp only [runSecAttest, if_neg hstate, conclude_ok]
    have hid : ∀ f, (b.modAct f).draw.2.actId = b.actId := fun f => by
      show (b.modAct f).actId = _
      rw [State.actId, State.actId, State.modAct, State.modSide_hsw]
    rw [hid]
  case cert => exact .of_run runSecCert (fun _ _ => rfl) fun _ _ _ => rfl
  case stale =>
    exact .of_run runSecKeyImport (fun _ _ => rfl) fun c b ⟨hkind, hstate, hstale⟩ => by
      rw [runSecKeyImport_stale hkind hstate hstale, conclude_refuse]
  case signing =>
    refine .of_run runSecKeyImport (fun _ _ => rfl) fun c b ⟨hsigning, hkind, hstate, hnew⟩ => ?_
    cases hopens : openedKey c b with
    | none =>
      rw [runSecKeyImport_sealed hkind hstate hnew hopens, conclude_refuse]
      unfold openedKey at hopens
      simp only [hopens]
    | some m =>
      rw [runSecKeyImport_signing hkind hsigning hstate hnew hopens]
      unfold openedKey at hopens
      simp only [hopens]
      split <;> rfl
  case site =>
    refine .of_run runSecKeyImport (fun _ _ => rfl) fun c b ⟨hsite, hstate, hnew, hswitch, hconns, hnext, hcurrent⟩ => ?_
    cases hopens : openedKey c b with
    | none =>
      rw [runSecKeyImport_sealed (if_pos hsite) hstate hnew hopens, conclude_refuse]
      unfold openedKey at hopens
      simp only [hopens]
    | some m =>
      rw [runSecKeyImport_site hsite hstate hnew hswitch hconns hnext hcurrent hopens, conclude_accepted]
      unfold openedKey at hopens
      simp only [hopens]
  case status =>
    refine .of_run runSecStatus (fun _ _ => rfl) fun c b _ => ?_
    simp only [runSecStatus, conclude_ok]
    cases b.cfg.keys.current <;> cases b.cfg.keys.next <;> rfl
  case challenge =>
    exact .of_run runSecDebugUnlock (fun _ _ => rfl) fun c b ⟨hop, hzero⟩ => by
      simp only [runSecDebugUnlock, if_pos hop, hzero, Bool.false_eq_true, if_false, conclude_ok]
      rfl
  case unchallenged =>
    exact .of_run runSecDebugUnlock (fun _ _ => rfl) fun c b ⟨hop, hnochallenge⟩ => by
      simp only [runSecDebugUnlock, hop, Nat.one_ne_zero, if_false, hnochallenge, conclude_refuse]
  case alone =>
    exact .of_run runSecDebugUnlock (fun _ _ => rfl) fun c b ⟨hop, hchallenge, halone⟩ => by
      simp only [runSecDebugUnlock, hop, Nat.one_ne_zero, if_false, hchallenge, halone, Bool.not_false, if_true, conclude_refuse]
  case unlock =>
    refine .of_live runSecDebugUnlock (fun _ _ => rfl) fun c b hlive ⟨hop, hchallenge, hready⟩ => ?_
    simp only [runSecDebugUnlock, hop, Nat.one_ne_zero, if_false, hchallenge, hready, Bool.not_true, Bool.false_eq_true, hnone]
    have hlive' : Live c { b with vol.sec := { b.vol.sec with challenge := none } } := hlive.of_sessions rfl
    exact conclude_deferred_finish hlive' ..

/-- The module of `servingModule` with every stage of its start ended, a standby side that may take over, and a challenge issued. -/
def challengedModule : State :=
  { servingModule with
    hsw := { servingModule.hsw with active := some .a, runNo := 0 }
    sideA.mainOn := true
    sideA.startRec.stageMs := List.replicate 6 0
    sideB.ckpts := { newest := some checkpointInTransfer, newestAt := 0, previous := none, prevAt := 0 }
    vol.sec.challenge := some [] }

/-- SEC.DEBUG_UNLOCK with the signature of zeros. -/
def unlockPacket : Packet := { plainPacket with params := 1 :: zeros 99 }

theorem unlockPacket_ready : Ready 0x1005 unlockPacket challengedModule where
  canFetch := by decide +kernel
  openOn := by decide +kernel
  room := by decide +kernel
  passes := by decide +kernel
  noFence := by decide +kernel
  noHandover := by decide +kernel
  objects := by decide +kernel
  turn := by decide +kernel

/-- The command of the unlock. -/
def unlockCmd : HostCmd := fetchedCmd 0x1005 unlockPacket challengedModule

/-- The state in which the unlock takes its effect. -/
def unlockStart : State := started 0x1005 unlockPacket challengedModule

/-- The signature of zeros verifies for the challenge of `challengedModule`. -/
def ZerosVerify : Prop :=
  Config.ecdsaVerify 1 (Config.sha384 (debugMessage unlockStart [])) (slice unlockCmd.packet.params 4 96) = true

theorem unlock_premise :
    fld unlockCmd.packet.params 0 1 = 1 ∧ unlockStart.vol.sec.challenge = some [] ∧ unlockStart.standbyOk = true := by
  decide +kernel

/-- The record that the end of the session wrote is an effect of the unlock, so the tag of the unlock is put on it. -/
theorem unlock_lists_itself :
    (conclude unlockCmd unlockStart (.deferred (unlockDebug unlockCmd unlockStart))).ctl.records.map SessionRecord.list =
      [[⟨2, 1, 0x1005⟩], [], [], []] := by
  decide +kernel

theorem unlockDebug_lists_nothing :
    (unlockDebug unlockCmd unlockStart).ctl.records.map SessionRecord.list = [[], [], [], []] := by
  decide +kernel

/-- Where the signature of zeros verifies, O53 fails: the record of the ended session holds the tag of the unlock, which is more than
the unlock itself leaves (R110, R111). -/
theorem securityOpcodes_fails_of_zerosVerify (hverifies : ZerosVerify) : ¬ Obligations.SecurityOpcodes := by
  unfold Obligations.SecurityOpcodes
  rintro ⟨-, -, -, -, -, -, -, -, -, -, hunlock⟩
  obtain ⟨hop, hchallenge, hready⟩ := unlock_premise
  have hclaimed := hunlock [] unlockPacket challengedModule unlockPacket_ready unlock_premise
  have hserved : exec (.secDebugUnlock unlockPacket) challengedModule =
      .next (conclude unlockCmd unlockStart (runSecDebugUnlock unlockCmd unlockStart)) :=
    congrArg Host.Outcome.next (serve_ready unlockPacket_ready)
  have hrun : runSecDebugUnlock unlockCmd unlockStart = .deferred (unlockDebug unlockCmd unlockStart) := by
    unfold ZerosVerify at hverifies
    simp only [runSecDebugUnlock, hop, Nat.one_ne_zero, if_false, hchallenge, hready, Bool.not_true, Bool.false_eq_true, hverifies,
      if_true]
  have hunlocked := hserved.symm.trans (hclaimed.trans (congrArg Host.Outcome.next (if_pos hverifies)))
  rw [hrun] at hunlocked
  have hsame := congrArg (fun o => (endedRecords o).map SessionRecord.list) hunlocked
  have hlists := unlock_lists_itself.symm.trans (hsame.trans unlockDebug_lists_nothing)
  exact absurd hlists (by decide)

end Sys2Proof.Machine
end
